-- ==== Sys2Proof/Word.lean ====
section
/-! DEFINITION. The word types of the IB-4096: bytes and 32-bit register words (R6 and the register tables). -/

namespace Sys2Proof

/-- One byte. -/
abbrev Byte := BitVec 8

/-- One register word; every register is 32 bits wide (chapter 00, Registers). -/
abbrev Word := BitVec 32

end Sys2Proof
end

