-- ==== Sys2Proof/Syntax.lean ====
section
/-! DEFINITION. The commands of the IB-4096: one constructor per row of spec/opcode_table.json. The part is modelled as
a block, so a command is an operation or an event of the part: a register access, a bus transaction, something that
arrives on a pin or a lane, or the end of something the part itself is doing. Operands carry what the event brings
from outside; what the part already holds is in State. -/

namespace Sys2Proof

/-- A block as it stands on a lane's line, scrambled (R209, R215): a native block is its 66 bits, bit i of the number the
i-th that is sent, sync header first; a legacy block is its bits from the first of its comma to the last of its stuffed
payload. `parity`: the 14 parity symbols of a lane FEC codeword that is sent (R213); what a lane receives holds none, since
its decoder has removed them. -/
inductive LineBlock where
  | native (bits : Nat)
  | parity (symbols : List Nat)
  | legacy (bits : List Bool)
  deriving DecidableEq, Repr

/-- The data of a write in 64-byte beats, one beat for a line: the bytes, the strobes and which bytes carry wrong parity (R260,
R274, R283). -/
structure LineWrite where
  bytes : List Byte
  strobes : List Bool
  badParity : List Bool
  deriving DecidableEq, Repr

/-- What a line request asks of its line: a write, or a read; `severe`: the bursts of the line, 0 or 1, for which the stack
reports an uncorrectable error at their next read, whichever unit's it is (R263, log entry 104). -/
structure LineAccess where
  write : Option LineWrite
  severe : List Nat
  deriving DecidableEq, Repr

/-- The outcome of one training step: the step, by its place in R270's table from 0, and whether it passed. -/
structure StepResult where
  step : Nat
  pass : Bool
  deriving DecidableEq, Repr

/-- What a self-test stage has found (R346): whether the stretch it watches held no error (LANES: no uncorrectable codeword; HBM: no
parity error; CONTEXTS: the products are the same bits), the CRC-32C values it computed, and pod columns it found failing. -/
structure StageResult where
  clean : Bool
  crcs : List (BitVec 32)
  columns : List (Nat × Nat)
  deriving DecidableEq, Repr

/-- What the FEC decoder of a lane takes: the 272 symbols of a received codeword of lane FEC, in the order sent (R213), or the
symbol errors of a codeword of an Ethernet lane's RS(544,514), which is IEEE 802.3's (R235). -/
inductive FecRead where
  | lane (symbols : List Nat)
  | ethernet (symErrors : Nat)
  deriving DecidableEq, Repr

/-- A codeword of lane FEC has 272 symbols of 10 bits. -/
def fecReadOk : FecRead → Bool
  | .lane c => decide (c.length = 272) && c.all fun x => decide (x < 1024)
  | .ethernet _ => true

/-- What arrives of a lane's frame; `warm`: the frame carries the reserved marker of the peer's traffic generator (R225). -/
structure LineFrame where
  warm : Bool
  blocks : List LineBlock
  deriving DecidableEq, Repr

/-- The instructions of the test access port (R410). -/
inductive TapIns where
  | bypass | idcode | samplePreload | extest | highz | extestPulse | extestTrain
  deriving DecidableEq, Repr

/-- The commands, in the order of spec/opcode_table.json. -/
inductive Instr where
  /-- REGISTER_WRITE. A register write reaches the register bus (R13). -/
  | registerWrite (addr : Nat) (value : Word)
  /-- LOW_WORD_READ. A read of the least significant word of a wide value, by the host bridge or by fabric control (R17, R385). -/
  | lowWordRead (addr : Nat) (byFabric : Bool)
  /-- INGEST_FRAME. The deframer of a lane takes the frame at the head of the lane's receive FIFO (R42). -/
  | ingestFrame (lane : Nat)
  /-- SYNC_EVENT. The SYNC event reaches the F-engines (R57). -/
  | syncEvent
  /-- FCH_ENABLE. FCH_CTRL.Enable of engine e changes from 0 to 1 (R47). -/
  | fchEnable (e : Nat)
  /-- FCH_SLOT_ENABLE. FCH_PSRC.Enable of slot s of engine e changes from 0 to 1 (R47). -/
  | fchSlotEnable (e s : Nat)
  /-- FCH_GDATA_WRITE. A write to FCH_GDATA (R64). -/
  | fchGdataWrite (e : Nat) (value : Word)
  /-- FCH_GDATA_READ. A read of FCH_GDATA the host received in full (R64). -/
  | fchGdataRead (e : Nat)
  /-- GAIN_SWAP_ARM. A write to FCH_GSWAP_HI (R64). -/
  | gainSwapArm (e : Nat) (value : Word)
  /-- HULL_ENABLE. HULL_CTRL.Enable is written to 1 (R67). -/
  | hullEnable
  /-- HULL_STREAM_ENABLE. HULL_SCTRL.Enable of stream st is written to 1 (R82). -/
  | hullStreamEnable (st : Nat)
  /-- SPECTRUM_FRAME_TO_HULL. The next complete frame of engine e crosses to the Hull (R72). -/
  | spectrumFrameToHull (e : Nat)
  /-- HULL_ANCHOR_TAG. The anchor index captured by the lowest enabled engine reaches the Hull (R75). -/
  | hullAnchorTag
  /-- HULL_DATA_FRAME. The inbound writer takes the oldest DATA frame delivered to it (R74). -/
  | hullDataFrame
  /-- ENTRY_CLOSE. The tracking entry of HULL_SRC entry src and time block tb meets its closure index (R79). -/
  | entryClose (src tb : Nat)
  /-- STAGING_START. The loader begins staging the pass group it serves first (R83). -/
  | stagingStart
  /-- STAGING_DONE. The pass group being staged is finished (R83). -/
  | stagingDone
  /-- NOP. Pod p's sequencer stands at a NOP (R104). -/
  | nop (p : Nat)
  /-- LDI. Pod p's sequencer stands at an LDI (R104). -/
  | ldi (p : Nat)
  /-- ADDI. Pod p's sequencer stands at an ADDI (R104). -/
  | addi (p : Nat)
  /-- BNZ. Pod p's sequencer stands at a BNZ (R104). -/
  | bnz (p : Nat)
  /-- JMP. Pod p's sequencer stands at a JMP (R104). -/
  | jmp (p : Nat)
  /-- LOOP. Pod p's sequencer stands at a LOOP (R105). -/
  | loop (p : Nat)
  /-- PDESC. Pod p's sequencer stands at a PDESC (R95). -/
  | pdesc (p : Nat)
  /-- OPEN. Pod p's sequencer stands at an OPEN (R97). -/
  | openPorts (p : Nat)
  /-- PORT_START. A requested port opens (R97). -/
  | portStart (port : Nat)
  /-- SEL. Pod p's sequencer stands at a SEL (R97). -/
  | sel (p : Nat)
  /-- MAC. Pod p's sequencer stands at a MAC (R92). -/
  | mac (p : Nat)
  /-- BMAC. Pod p's sequencer stands at a BMAC (R103). -/
  | bmac (p : Nat)
  /-- WLD. Pod p's sequencer stands at a WLD (R102). -/
  | wld (p : Nat)
  /-- WLD_COMPLETE. The oldest WLD of pod p completes (R102). -/
  | wldComplete (p : Nat)
  /-- WSWAP. Pod p's sequencer stands at a WSWAP (R102). -/
  | wswap (p : Nat)
  /-- WINIT. Pod p's sequencer stands at a WINIT (R427). -/
  | winit (p : Nat)
  /-- WINIT_COMPLETE. The oldest WINIT of pod p completes (R93). -/
  | winitComplete (p : Nat)
  /-- DRAIN. Pod p's sequencer stands at a DRAIN (R107). -/
  | drain (p : Nat)
  /-- BANK_SWAP. The held swap of pod p takes effect (R107). -/
  | bankSwap (p : Nat)
  /-- DRAIN_END. The last step of pod p's drain leaves (R107). -/
  | drainEnd (p : Nat)
  /-- BAR. Pod p's sequencer stands at a BAR (R99). -/
  | bar (p : Nat)
  /-- BAR_COMPLETE. Every running pod of the partition has reached BAR (R99). -/
  | barComplete (part : Nat)
  /-- NEXTPG. Pod p's sequencer stands at a NEXTPG (R99). -/
  | nextpg (p : Nat)
  /-- NEXTPG_COMPLETE. The partition's NEXTPG barrier of stream st completes (R99). -/
  | nextpgComplete (part st : Nat)
  /-- PASS_GROUP_TAKE. The partition takes the next staged pass group of stream st (R99). -/
  | passGroupTake (part st : Nat)
  /-- RDPMC. Pod p's sequencer stands at an RDPMC (R387). -/
  | rdpmc (p : Nat)
  /-- FENCE. Pod p's sequencer stands at a FENCE (R104). -/
  | fence (p : Nat)
  /-- HALT. Pod p's sequencer stands at a HALT (R105). -/
  | halt (p : Nat)
  /-- POD_RUN_START. POD_CTRL.Run of pod p is written to 1 (R100). -/
  | podRunStart (p : Nat)
  /-- POD_RUN_STOP. POD_CTRL.Run of pod p is written to 0 (R110). -/
  | podRunStop (p : Nat)
  /-- STEER_REQUEST. POD_CMD.Steer with a physical column (R111). -/
  | steerRequest (p col : Nat)
  /-- CELL_PARITY_ERROR. A parity error in physical column col of pod p, in the draining bank's path or not (R109). -/
  | cellParityError (p col : Nat) (draining : Bool)
  /-- STEER_RELOAD_DONE. The weight reload after steering completes (R111). -/
  | steerReloadDone (p : Nat)
  /-- HUSK_STEP_ACCEPT. Husk lane n takes, or refuses, the next drain step offered to it (R115). -/
  | huskStepAccept (n : Nat)
  /-- DRAIN_APPLY. The back end of Husk lane n applies the first drain it may apply (R121). -/
  | drainApply (n : Nat)
  /-- DUMP_END. The dump of context c finishes (R140). -/
  | dumpEnd (c : Nat)
  /-- PACKET_SEND. The egress packer sends the next packet of context c's interval (R174). -/
  | packetSend (c : Nat)
  /-- CTX_START. START of context c reaches the command unit (R152). -/
  | ctxStart (c : Nat)
  /-- CTX_STOP. STOP of context c reaches the command unit (R151). -/
  | ctxStop (c : Nat)
  /-- CTX_VALID_WRITE. A write to CTX_CFG of context c (R151). -/
  | ctxValidWrite (c : Nat) (value : Word)
  /-- WEIGHT_FILL_DONE. The weight fill of context c completes (R155). -/
  | weightFillDone (c : Nat)
  /-- DRAINING_DONE. The conditions of R157 hold for context c. -/
  | drainingDone (c : Nat)
  /-- AUTO_RESTART. The pods of a FAULTED context have stopped and it restarts itself (R159). -/
  | autoRestart (c : Nat)
  /-- CTX_SCRUB. The 100 ms scrub of the context table (R149). -/
  | ctxScrub
  /-- ECLK_TICK. One ECLK tick (R190). -/
  | eclkTick
  /-- SPAN_RETIRE. Lost spans older than the grace time retire (R361). -/
  | spanRetire
  /-- SET_TIME. TMB_CMD.SetTime (R192). -/
  | setTime
  /-- REALIGN. TMB_CMD.Realign (R192). -/
  | realign
  /-- CLEAR_WTR. TMB_CMD.ClearWtr with its WtrMask (R181). -/
  | clearWtr (mask : Nat)
  /-- INCREMENT_COMMIT. A write to the highest word of a multi-word timing value (R191). -/
  | incrementCommit (addr : Nat) (value : Word)
  /-- REF_LOS. Reference input i enters loss of signal (R179). -/
  | refLos (i : Nat)
  /-- PPS_IN_PULSE. A pulse on PPS_IN m, inside the window of R179 or not (R180). -/
  | ppsInPulse (m : Nat) (stamp : Nat)
  /-- FREQ_MEASUREMENT. A measurement of input i ends: its frequency offset in 0.01 ppb and its phase error in ps (R180, R187). -/
  | freqMeasurement (i : Nat) (offset : Int) (phasePs : Int)
  /-- WTR_EXPIRY. One second, the last, of input i's wait-to-restore time ends (R181). -/
  | wtrExpiry (i : Nat)
  /-- DRIFT_WINDOW_END. A drift window ends, or its limit is crossed, with this accumulated phase error (R185). -/
  | driftWindowEnd (phasePs : Int)
  /-- HOLDOVER_LIMIT. HOLDOVER has lasted TMB_HOLD.LimitSec (R186). -/
  | holdoverLimit
  /-- CALENDAR_CAPTURE. CAL_CMD.Capture (R194). -/
  | calendarCapture
  /-- CALENDAR_SECOND. The calendar's divider completes a second (R194). -/
  | calendarSecond
  /-- CAL_OSC_FAIL. No crystal edge for 122 µs (R194). -/
  | calOscFail
  /-- VBAT_LOW. VBAT falls below 1.6 V while the main supplies are off (R194). -/
  | vbatLow
  /-- TXTS_POP. A read of TMB_TXTS_FR the host received in full (R197). -/
  | txtsPop (lane : Nat)
  /-- TSYNC_SEND. The TSYNC interval of a master or candidate ends (R199). -/
  | tsyncSend
  /-- TSYNC_RECEIVE. The oldest delivered TIME frame, a TSYNC, is taken (R199). -/
  | tsyncReceive
  /-- TFOLLOW_RECEIVE. The oldest delivered TIME frame, a TFOLLOW, is taken (R199). -/
  | tfollowReceive
  /-- TDREQ_RECEIVE. The oldest delivered TIME frame, a TDREQ, is taken (R199). -/
  | tdreqReceive
  /-- TDRESP_RECEIVE. The oldest delivered TIME frame, a TDRESP, is taken (R199). -/
  | tdrespReceive
  /-- EXCHANGE_TIMEOUT. 10 ms pass without the exchange's TFOLLOW or TDRESP (R199). -/
  | exchangeTimeout
  /-- MASTER_SILENCE. Four intervals pass without a TSYNC (R199). -/
  | masterSilence
  /-- ACTION_DUE. The first due action of the queue runs (R201). -/
  | actionDue
  /-- SCH_INSERT. A write to SCH_INSERT (R202). -/
  | schInsert (value : Word)
  /-- SCH_CANCEL. A write to SCH_CANCEL (R202). -/
  | schCancel (value : Word)
  /-- SCH_DONE_POP. A read of SCH_DONE the host received in full (R204). -/
  | schDonePop
  /-- SYNC_PIN. A rising edge on SYNC registered in ECLK (R205). -/
  | syncPin
  /-- LANE_ENABLE. LN_CFG.Enable of lane l is written to 1 (R219). -/
  | laneEnable (l : Nat)
  /-- LANE_RESTART. LN_CMD.Restart (R219). -/
  | laneRestart (l : Nat)
  /-- CAPAB_SEND. The 10 µs CAPAB interval of lane l (R219). -/
  | capabSend (l : Nat)
  /-- CAPAB_RECEIVE. A CAPAB link message of 7 bytes arrives (R220). -/
  | capabReceive (l : Nat) (msg : List Byte)
  /-- CAPAB_TIMEOUT. 20 ms pass without a CAPAB (R219). -/
  | capabTimeout (l : Nat)
  /-- STEP_REQ. A STEP_REQ link message arrives (R221). -/
  | stepReq (l : Nat) (target : Nat)
  /-- STEP_SWITCH. 100 µs have passed since STEP_REQ was sent and received (R221). -/
  | stepSwitch (l : Nat)
  /-- RECEIVER_LOCK. The receiver holds lock at the new rung (R221). -/
  | receiverLock (l : Nat)
  /-- QUIET_DONE. 1 ms has passed with no LOS and no LOL (R221). -/
  | quietDone (l : Nat)
  /-- STEP_OK. A STEP_OK link message arrives (R221). -/
  | stepOk (l : Nat) (step : Nat)
  /-- STEP_TIMEOUT. A timeout of the ladder expires (R222). -/
  | stepTimeout (l : Nat)
  /-- LOCK_LOSS_RETRY. The 1 ms window to regain lock ends (R224). -/
  | lockLossRetry (l : Nat) (regained : Bool)
  /-- BLOCK_LOCK. 64 consecutive valid sync headers (R212). -/
  | blockLock (l : Nat)
  /-- BLOCK_LOCK_LOSS. 16 invalid headers in 64 blocks (R212). -/
  | blockLockLoss (l : Nat)
  /-- FEC_CODEWORD. A lane FEC codeword with this many symbol errors is decoded (R213). -/
  | fecCodeword (l : Nat) (read : FecRead)
  /-- LEGACY_LOCK. Four consecutive commas (R217). -/
  | legacyLock (l : Nat)
  /-- LEGACY_LOCK_LOSS. Four missing commas (R217). -/
  | legacyLockLoss (l : Nat)
  /-- LANE_FRAME_RECEIVE. The blocks of a lane frame arrive, with what stands between and before them on the line (R209, R211,
  R215, R216). -/
  | laneFrameReceive (l : Nat) (frame : LineFrame)
  /-- COMMA_SEND. The line-bit count passes a comma interval (R214). -/
  | commaSend (l : Nat)
  /-- COMMA_RECEIVE. A COMMA control block arrives (R210, R214). -/
  | commaReceive (l : Nat) (block : LineBlock)
  /-- LOS_ASSERT. The receive signal falls below the threshold (R227). -/
  | losAssert (l : Nat)
  /-- LOS_CLEAR. 1 µs of continuous signal (R227). -/
  | losClear (l : Nat)
  /-- LOL_ASSERT. Clock recovery loses lock (R227). -/
  | lolAssert (l : Nat)
  /-- LANE_WARM_TRAIN. LN_CMD.WarmTrain (R225). -/
  | laneWarmTrain (l : Nat)
  /-- LANE_WARM_TRAIN_DONE. The 100 ms of warm traffic and the retraining end (R225). -/
  | laneWarmTrainDone (l : Nat)
  /-- SWAP_NOW. LN_CMD.SwapNow (R230). -/
  | swapNow (l : Nat)
  /-- SPARE_REQ. A SPARE_REQ link message arrives on spare lane l (R230). -/
  | spareReq (l : Nat) (msg : List Byte)
  /-- SWAP_VERIFIED. Two compared comma intervals of working lane l end, clean or not (R230). -/
  | swapVerified (l : Nat) (clean : Bool)
  /-- SWITCHED. A SWITCHED link message arrives on lane l (R230). -/
  | switched (l : Nat) (msg : List Byte)
  /-- RELEASE_COMMAND. LN_CMD.Release (R234). -/
  | releaseCommand (l : Nat)
  /-- RELEASE. A RELEASE link message arrives on lane l (R234). -/
  | release (l : Nat) (msg : List Byte)
  /-- ETH_LINK_UP. Link training and PCS/FEC alignment are complete (R236). -/
  | ethLinkUp (l : Nat)
  /-- ETH_FRAME_RECEIVE. An Ethernet frame arrives (R235). -/
  | ethFrameReceive (l : Nat)
  /-- ETH_COEFF_REQUEST. The peer requests a transmit coefficient step (R236). -/
  | ethCoeffRequest (l : Nat) (coef : Nat) (up : Bool)
  /-- FABRIC_ENABLE. FAB_CTRL.Enable is written to 1 (R253). -/
  | fabricEnable
  /-- GENSY_FRAME_RECEIVE. The link on lane l takes the frame at the head of the lane's receive FIFO (R238). -/
  | gensyFrameReceive (l : Nat)
  /-- GENSY_FRAME_SEND. The output link on lane l begins its next frame (R241). -/
  | gensyFrameSend (l : Nat)
  /-- HELLO_SEND. The 10 µs HELLO interval of lane l (R242). -/
  | helloSend (l : Nat)
  /-- HELLO_RECEIVE. The link checker of lane l takes a HELLO (R243). -/
  | helloReceive (l : Nat)
  /-- HELLO_TIMEOUT. 30 µs pass with no valid HELLO (R244). -/
  | helloTimeout (l : Nat)
  /-- CREDIT_SEND. The receiver of lane l returns credit (R240). -/
  | creditSend (l : Nat)
  /-- CREDIT_RECEIVE. The sender of lane l takes a CREDIT frame (R240). -/
  | creditReceive (l : Nat)
  /-- REACH_SEND. The node sends REACH on every UP link (R250). -/
  | reachSend
  /-- REACH_RECEIVE. A REACH frame of lane l is taken (R251). -/
  | reachReceive (l : Nat)
  /-- PARTITION_DECISION. The settle time has passed unchanged (R252). -/
  | partitionDecision
  /-- REJOIN_RETRY. 100 µs pass without an ACK from a member (R255). -/
  | rejoinRetry (node : Nat)
  /-- REJOIN_RECEIVE. The oldest delivered REJOIN is taken (R255). -/
  | rejoinReceive
  /-- REJOIN_APPLY. The local frame index reaches J (R255). -/
  | rejoinApply
  /-- ACK. The oldest delivered ACK is taken (R255). -/
  | ack
  /-- MREAD_REQUEST. A write to FAB_MREQ (R257). -/
  | mreadRequest (value : Word)
  /-- MREAD. The remote read server takes an MREAD (R257). -/
  | mread
  /-- MRESP. The requester takes an MRESP (R257). -/
  | mresp
  /-- MREAD_TIMEOUT. 1 ms passes without an MRESP (R257). -/
  | mreadTimeout
  /-- SEED. A SEED frame of lane l is taken (R258). -/
  | seed (l : Nat)
  /-- SEEDACK. A SEEDACK frame of lane l is taken (R258). -/
  | seedAck (l : Nat)
  /-- SEEDACK_SEND. The receiver's acknowledgement is due (R258). -/
  | seedAckSend
  /-- SEED_RESEND. 200 µs pass without progress (R258). -/
  | seedResend (l : Nat)
  /-- SEED_STOP. 1 ms passes without a SEEDACK (R258). -/
  | seedStop (l : Nat)
  /-- SEED_RETRY. 100 ms have passed since the sender stopped (R258). -/
  | seedRetry (l : Nat)
  /-- DRAM_REQUEST. A line request for an HBM byte address reaches its unit (R264). -/
  | dramRequest (addr : Nat) (access : LineAccess)
  /-- REFRESH_DUE. A refresh of pseudo-channel pc falls due (R267). -/
  | refreshDue (pc : Nat)
  /-- REFRESH_ISSUE. Pseudo-channel pc may issue a refresh (R268). -/
  | refreshIssue (pc : Nat)
  /-- STACK_TEMP_READ. Stack n's temperature is read, in tenths of a degree (R267). -/
  | stackTempRead (n : Nat) (tenths : Int)
  /-- ROW_IDLE_PRECHARGE. An open row has had no access for 64 DCLK cycles (R265). -/
  | rowIdlePrecharge (pc bank : Nat)
  /-- TRAINING_STEP_DONE. A training step of pseudo-channel pc ends (R270). -/
  | trainingStepDone (pc : Nat) (result : StepResult)
  /-- DMC_WARM_TRAIN. DMC_CTRL.WarmTrain (R271). -/
  | dmcWarmTrain
  /-- DMC_WARM_TRAIN_DONE. The 100 ms of warm traffic and the retraining end (R271). -/
  | dmcWarmTrainDone
  /-- SELF_REFRESH_ENTRY. Queued requests and owed refreshes are done (R273). -/
  | selfRefreshEntry
  /-- RETIRE_PLANNED. A planned retirement of pseudo-channel pc (R275). -/
  | retirePlanned (pc : Nat)
  /-- RETIRE_COPY_DONE. The copy of pseudo-channel pc passes its last line (R275). -/
  | retireCopyDone (pc : Nat)
  /-- RETIRE_SUDDEN. A sudden retirement of pseudo-channel pc (R276). -/
  | retireSudden (pc : Nat)
  /-- DMW_ACCESS. A 4-byte access through the DMW window (R279). -/
  | dmwAccess (offset : Nat) (write : Option Word)
  /-- MATRIX_REQUEST. Initiator i offers a transaction (R283). -/
  | matrixRequest (i id addr : Nat) (write : Option LineWrite) (beats : Nat)
  /-- MATRIX_RESPONSE. The oldest response of an ID returns (R285). -/
  | matrixResponse (i id : Nat)
  /-- UNIT_RESET. A GLB_URESET bit is set (R318). -/
  | unitReset (u : Nat)
  /-- UNIT_RESET_RELEASE. A GLB_URESET bit is cleared (R318). -/
  | unitResetRelease (u : Nat)
  /-- QUIESCED. The last outstanding transaction of a quiescing port retires (R289). -/
  | quiesced (i : Nat)
  /-- QUIESCE_TIMEOUT. QTimeoutUs passes at a quiescing port (R290). -/
  | quiesceTimeout (i : Nat)
  /-- BRIDGE_ACCESS. The peripheral bridge serves one 4-byte group (R291). -/
  | bridgeAccess (i addr : Nat) (write : Option Word) (allStrobes : Bool)
  /-- REG_CLK_OFF. An access to a stopped clock's register times out (R291). -/
  | regClkOff (i addr : Nat)
  /-- PULSE_CROSSING. A pending pulse of class 10 reaches its receiver (R293). -/
  | pulseCrossing (inst : Nat)
  /-- PEER_RESET_SEEN. The running side of a crossing sees PeerReset (R296). -/
  | peerResetSeen (k inst : Nat)
  /-- PEER_READY_SEEN. A side of a crossing sees its peer Ready (R296). -/
  | peerReadySeen (k inst : Nat)
  /-- ENEC. CCC ENEC with its event byte (R302). -/
  | enec (events : Nat)
  /-- DISEC. CCC DISEC with its event byte (R302). -/
  | disec (events : Nat)
  /-- ENTAS. CCC ENTASn (R302). -/
  | entas (n : Nat)
  /-- RSTDAA. CCC RSTDAA (R302). -/
  | rstdaa
  /-- ENTDAA. ENTDAA assigns a dynamic address to the part (R300). -/
  | entdaa (da : Nat)
  /-- SETMWL. CCC SETMWL (R302). -/
  | setmwl (len : Nat)
  /-- SETMRL. CCC SETMRL with its IBI payload size byte (R302). -/
  | setmrl (len ibi : Nat)
  /-- ENTHDR0. CCC ENTHDR0 (R302). -/
  | enthdr0
  /-- ENTHDR_OTHER. CCC ENTHDR of an unsupported mode (R298). -/
  | enthdrOther
  /-- HDR_EXIT. The HDR Exit Pattern (R298). -/
  | hdrExit
  /-- RSTACT. CCC RSTACT with its defining byte (R302). -/
  | rstact (defByte : Nat)
  /-- SETDASA. CCC SETDASA directed to a static address (R299). -/
  | setdasa (static da : Nat)
  /-- SETNEWDA. CCC SETNEWDA (R302). -/
  | setnewda (da : Nat)
  /-- GETMWL. CCC GETMWL (R302). -/
  | getmwl
  /-- GETMRL. CCC GETMRL (R302). -/
  | getmrl
  /-- GETPID. CCC GETPID (R300). -/
  | getpid
  /-- GETBCR. CCC GETBCR (R302). -/
  | getbcr
  /-- GETDCR. CCC GETDCR (R302). -/
  | getdcr
  /-- GETSTATUS. CCC GETSTATUS (R302). -/
  | getstatus
  /-- GETMXDS. CCC GETMXDS (R302). -/
  | getmxds
  /-- GETCAPS. CCC GETCAPS (R302). -/
  | getcaps
  /-- UNSUPPORTED_CCC. A CCC not listed in R302. -/
  | unsupportedCcc (code : Nat)
  /-- TARGET_RESET_PATTERN. The Target Reset Pattern (R298). -/
  | targetResetPattern
  /-- SDR_WRITE. An SDR private write; badParity is the index of the first byte with wrong parity (R303, R307). -/
  | sdrWrite (bytes : List Byte) (badParity : Option Nat)
  /-- SDR_READ. An SDR private read of len bytes (R304). -/
  | sdrRead (len : Nat)
  /-- REG_WRITE. An HDR-DDR REG_WRITE (R306). -/
  | regWrite (bytes : List Byte) (crcOk : Bool)
  /-- SET_ADDR. An HDR-DDR SET_ADDR (R306). -/
  | setAddr (bytes : List Byte)
  /-- REG_READ. An HDR-DDR REG_READ of len bytes (R306). -/
  | regRead (len : Nat)
  /-- READ_FETCH_DONE. The fetch of the next register completes (R309). -/
  | readFetchDone
  /-- POSTED_WRITE. The oldest posted register write is executed (R308). -/
  | postedWrite
  /-- HOT_JOIN_REQUEST. The 50 ms Hot-Join interval ends at Bus Available (R301). -/
  | hotJoinRequest
  /-- IBI_REQUEST. A Bus Available condition at which an IBI may be requested (R315). -/
  | ibiRequest
  /-- IBI_ACK. The controller acknowledges the IBI (R315). -/
  | ibiAck
  /-- IMG_LOAD. IMG_CMD LOAD (R331). -/
  | imgLoad
  /-- IMG_STAGE. IMG_CMD STAGE (R339). -/
  | imgStage
  /-- IMG_RELOAD. IMG_CMD RELOAD (R341). -/
  | imgReload (restart : Bool) (mask : Nat)
  /-- IMG_ABORT. IMG_CMD ABORT (R331). -/
  | imgAbort
  /-- IMG_SPROUT_ROM. IMG_CMD SPROUT with FromRom 1 (R346). -/
  | imgSproutRom
  /-- IMG_SPROUT_APPLIED. IMG_CMD SPROUT with FromRom 0 (R347). -/
  | imgSproutApplied
  /-- IMG_WIN_WRITE. A write to IMG_WIN (R331). -/
  | imgWinWrite (value : Word)
  /-- IMAGE_CHECK_DONE. The check at the end of the stream is complete (R328). -/
  | imageCheckDone
  /-- RELOAD_STOP_DONE. Every touched context is STOPPED or EMPTY (R341). -/
  | reloadStopDone
  /-- RELOAD_STOP_TIMEOUT. StopTimeoutMs passes (R341). -/
  | reloadStopTimeout
  /-- SCRUB_PASS. One pass of the configuration scrubber (R338). -/
  | scrubPass
  /-- SELF_TEST_STAGE_DONE. A self-test stage ends (R346). -/
  | selfTestStageDone (stage : Nat) (result : StageResult)
  /-- PARITY_ERROR. A byte parity error is detected at a site (R350). -/
  | parityError (site inst info : Nat)
  /-- ECC_ERROR. A SECDED error is read in a control store (R353). -/
  | eccError (store index syndrome : Nat) (correctable : Bool)
  /-- ERROR_LOG_POP. A read of ERL_E0 the host received in full (R354). -/
  | errorLogPop
  /-- CLEAR_LPS. ERL_CMD.ClearLps (R362). -/
  | clearLps
  /-- CLEAR_FAB. ERL_CMD.ClearFab (R362). -/
  | clearFab
  /-- PWR_STANDBY. PWR_CMD with Target STANDBY (R374). -/
  | pwrStandby
  /-- PWR_RETAIN. PWR_CMD with Target RETAIN (R372). -/
  | pwrRetain
  /-- PWR_READY. PWR_CMD with Target READY (R367). -/
  | pwrReady
  /-- PWR_RUN. PWR_CMD with Target RUN (R369). -/
  | pwrRun
  /-- DRAIN_COMPLETE. Every context is STOPPED or EMPTY during a drain (R370). -/
  | drainComplete
  /-- DRAIN_TIMEOUT. DrainTimeoutMs passes (R370). -/
  | drainTimeout
  /-- RETAIN_ENTRY_DONE. The waits of R372 are over and the clocks stop (R372). -/
  | retainEntryDone
  /-- RETAIN_EXIT. The exit of R373 is complete; `slow`: a pseudo-channel repeated a full training step (R373) that no
  TRAINING_STEP_DONE has told of. -/
  | retainExit (slow : Bool)
  /-- PLL_LOCK. The core, F and DRAM PLLs lock (R375). -/
  | pllLock
  /-- STANDBY_READY_DONE. The conditions of R375 step 4 hold, or 400 ms have passed. -/
  | standbyReadyDone (after400ms : Bool)
  /-- THERMAL_READING. The sixteen junction sensors are read, in quarter degrees (R376). -/
  | thermalReading (quarters : List Int)
  /-- THERMAL_TRIP. The 115 °C comparator trips (R377). -/
  | thermalTrip
  /-- RESET_ASSERT. RESET_N is low for this long, in ns, so far (R402). -/
  | resetAssert (widthNs : Nat)
  /-- RESET_RELEASE. RESET_N rises with these straps (R365, R397). -/
  | resetRelease (addrSel bootSrc : Nat)
  /-- VDD_IO_SWITCHOVER. VDD_IO crosses its threshold; the VBAT domain runs from VBAT or from VDD_IO (R405). -/
  | vddIoSwitchover (fromVbat : Bool)
  /-- TAP_RESET. TRST_N, or TMS high for five TCK cycles (R410). -/
  | tapReset
  /-- TAP_INSTRUCTION. A test access port instruction takes effect (R410). -/
  | tapInstruction (ins : TapIns)
  /-- PMC_SNAP. SNAP by PMC_CMD (R382). -/
  | pmcSnap
  /-- PMC_FREEZE. FREEZE by PMC_CMD (R382). -/
  | pmcFreeze
  /-- PMC_THAW. THAW by PMC_CMD (R382). -/
  | pmcThaw
  /-- PIP_TRIGGER. The trigger counter advances (R388). -/
  | pipTrigger
  /-- PIP_CONFIG_WRITE. A write to PMC_PIPCFG or PMC_PIPMASK (R388). -/
  | pipConfigWrite (addr : Nat) (value : Word)
  /-- PIP_RECORD_COLLECT. The sampler collects a retired record (R391). -/
  | pipRecordCollect
  /-- PIP_POP. A read of PMC_PIP0 the host received in full (R391). -/
  | pipPop
  /-- SPROUT_PATTERN_SAMPLE. Engine e's pattern generator delivers the next sample (R345). -/
  | sproutPatternSample (e : Nat)
  /-- MAIN_SUPPLY_LOSS. The main supplies fall (R404). -/
  | mainSupplyLoss
  /-- ETH_LINK_DOWN. An Ethernet port loses PCS and FEC alignment (R175). -/
  | ethLinkDown (l : Nat)
  /-- COMMAND_ADDRESS_PARITY_ERROR. A stack reports a command in error, for the first or second time (R263). -/
  | commandAddressParityError (pc : Nat) (second : Bool)
  /-- CAL_OSC_RESTORE. A crystal edge arrives again (R194). -/
  | calOscRestore
  /-- NEW_SEED_ACCEPT. 100 ms have passed since the image was refused (R335). -/
  | newSeedAccept
  deriving DecidableEq, Repr

end Sys2Proof
end

