-- ==== Sys2Proof/Config.lean ====
section
/-! DEFINITION. What the spec leaves open: contents of ROMs and fuses it does not print, and values it does not state.
Every constant here is opaque: nothing can be proved of its value. A constant whose first argument is named `draw` is
a free value per use: the model applies it to the draw counter `State.fresh` and advances the counter. -/

namespace Sys2Proof.Config

/-! ## ROM and fuse contents the spec describes but does not print -/

/-- Droop FIR responses 1 to 3, taps 0 to 15 of the symmetric 31 (R50). -/
opaque droopRom (index tap : Nat) : BitVec 20

/-- Resampler response, phases 1 to 255, 16 taps (R51). -/
opaque resampleRom (phase tap : Nat) : BitVec 18

/-- Filterbank prototypes 0 to 6: response, N, K, coefficient (R52, R54). -/
opaque protoRom (proto n k i : Nat) : BitVec 18

/-- The key hash fused in slot k, 48 bytes (R327). -/
opaque keyHash (slot : Nat) : List (BitVec 8)

/-- The Sprout image in ROM (R346): its Reserve, its BuildId, and the body of section t; no bytes where it has none. -/
opaque sproutReserve : Fin 17
opaque sproutBuild : BitVec 64
opaque sproutSection (t : Nat) : List (BitVec 8)

/-! ## Free values -/

/-- Whether an engine's input buffer is full when a frame's samples reach a slot (R46, R47). -/
opaque inputBufferFull (draw : Nat) : Bool

/-- Cycles between issue and retirement of a sampled instruction that had to wait (R390). -/
opaque pipLatency (draw : Nat) : Nat

/-- What a port delivers at 4+4 beyond the last frame of its range, in the last word (R95): path of the strip, channel. -/
opaque portTail (draw path k : Nat) : Int × Int

/-- Loop frequency after a measurement of the selected input, in 0.01 ppb against XTAL_SYS: by the bandwidth in mHz, the
frequency before, and the measured offset and phase error (R177, R186). -/
opaque loopFreq (bandwidth : Nat) (freq offset phase : Int) : Int

/-- Part of an ECLK period, in 250 ps, by which a frame crosses the PCS/PMA boundary after the tick (R196). -/
opaque stampFine (draw : Nat) : Fin 16

/-- SCH_RESULT.Handle after a refused insertion (R202). -/
opaque refusedHandle (draw : Nat) : BitVec 16

/-- The binary32 NaN an operation produces, by its operands (R114, R125, R140). -/
opaque f32NaN (a b : Nat) : BitVec 22

/-- Temperature of a lane octet, signed °C (R225, R226). -/
opaque octetTempC (octet draw : Nat) : BitVec 8

/-- Frames that a link has begun and that are lost as it goes DOWN; taken modulo the frames it has begun, plus 1 (R249). -/
opaque lostFrames (draw : Nat) : Nat

/-- IDLE blocks that a native lane sends before its n-th output (R209). -/
opaque idleBlocks (lane n : Nat) : Nat

/-- Whether incremental retraining of a lane has converged at a comma interval (R226). -/
opaque laneConverged (lane draw : Nat) : Bool

/-- Measured skew of a bridged copy, ps (R230). -/
opaque laneSkew (lane draw : Nat) : BitVec 32

/-- Whether a lane mode needs no more than the payload of S0 (R222). -/
opaque modeFitsS0 (mode : Nat) : Bool

/-- Column accesses of a pseudo-channel that have issued since its last request (R264). -/
opaque dramIssued (draw : Nat) : Nat

/-- DCLK cycles a read waits for partial writes to its line, by the count before (R266). -/
opaque rawStall (pc line count : Nat) : BitVec 16

/-- Whether a retraining step of a pseudo-channel is taken (its first read passed parity), and whether retraining has
converged (R272). -/
opaque dramStepTaken (pc draw : Nat) : Bool
opaque dramConverged (pc draw : Nat) : Bool

/-- Whether the fetch of a later register of a read is complete when the part must commit to sending it (R309). -/
opaque fetchInTime (draw : Nat) : Bool

/-- The bytes of GETCAPS after the two that say what R302 gives. -/
opaque getCapsRest : List (BitVec 8)

/-- The CRC-32C values of the ROM image that a self-test stage must meet (R346). -/
opaque stageCrcs (stage : Nat) : List (BitVec 32)

/-- Bytes of the egress staging area behind the image store and the capture ring (R329, R344). -/
opaque stagingTail : Nat

/-- The step by which IMG_STATUS.State changes at the end of the self-test, less 1 (R346). -/
opaque selfTestState (draw : Nat) : Fin 8

/-- The contents of the boundary register behind an instruction that captures pins or drives them: its cells and what a scan shifts in
are not given (R410). -/
opaque boundaryScan (draw : Nat) : BitVec 64

/-- Whether a RESET_N pulse of 1 µs to 10 µs resets the part (R402). -/
opaque shortReset (draw : Nat) : Bool

end Sys2Proof.Config
end

