-- ==== Sys2Proof/Machine/Num.lean ====
section
/-! DEFINITION. Numbers and bytes: byte order (R6, R7), rounding and saturation (R19), signed fields (R4), the CRCs
(R40, R321), and the exact cosine and sine roundings of R425. -/

namespace Sys2Proof.Machine

/-! ## Bytes -/

/-- n as k bytes, least significant first (R6). -/
def leBytes : Nat → Nat → List Byte
  | 0, _ => []
  | k + 1, n => BitVec.ofNat 8 n :: leBytes k (n / 256)

/-- n as k bytes, most significant first (R7). -/
def beBytes (k n : Nat) : List Byte := (leBytes k n).reverse

/-- The value of bytes given least significant first. -/
def ofLe : List Byte → Nat
  | [] => 0
  | b :: bs => b.toNat + 256 * ofLe bs

/-- The value of bytes given most significant first. -/
def ofBe (bs : List Byte) : Nat := ofLe bs.reverse

/-- The k bytes from position i, as a most-significant-first field; absent bytes read 0. -/
def beAt (bs : List Byte) (i k : Nat) : Nat := ofBe ((bs.drop i).take k)

/-- The byte at position i, 0 where there is none. -/
def byteAt (bs : List Byte) (i : Nat) : Nat := ((bs.drop i).headD 0).toNat

/-- Bits [lo + w - 1 : lo] of n. -/
def bits (n lo w : Nat) : Nat := n / 2 ^ lo % 2 ^ w

/-! ## Signed values, rounding, saturation -/

/-- The low w bits of n read as two's complement (R4). -/
def toSigned (w n : Nat) : Int :=
  let m := n % 2 ^ w
  if m < 2 ^ (w - 1) then (m : Int) else (m : Int) - 2 ^ w

/-- The low w bits of an integer. -/
def ofSigned (w : Nat) (v : Int) : Nat := (v % 2 ^ w).toNat

/-- round_half_up(v / 2^sh) (R19). -/
def rhuShift (v : Int) (sh : Nat) : Int :=
  if sh = 0 then v else (v + 2 ^ (sh - 1)) / 2 ^ sh

/-- Clamp to the symmetric range ±lim (R19, Saturate). -/
def satTo (lim v : Int) : Int := if v > lim then lim else if v < -lim then -lim else v

/-- sat18 of R50. -/
def sat18 (v : Int) : Int := satTo 131071 v

/-- ceil(a / b). -/
def ceilDiv (a b : Nat) : Nat := (a + b - 1) / b

/-- ceil(log2 n) for n ≥ 1. -/
def clog2 (n : Nat) : Nat := if n ≤ 1 then 0 else Nat.log2 (n - 1) + 1

/-- The difference of two 48-bit indices as a signed value (R45). -/
def idxDiff (a b : Nat) : Int := toSigned 48 ((a + (2 ^ 48 - b % 2 ^ 48)) % 2 ^ 48)

/-- Addition of 48-bit indices (R45). -/
def idxAdd (a b : Nat) : Nat := (a + b) % 2 ^ 48

/-! ## CRCs -/

/-- One byte into a most-significant-first CRC of width w with polynomial poly. -/
def crcBits (w poly : Nat) : Nat → Nat → Nat
  | 0, c => c
  | k + 1, c =>
    crcBits w poly k (if c / 2 ^ (w - 1) % 2 = 1 then (c * 2 % 2 ^ w) ^^^ poly else c * 2 % 2 ^ w)

/-- CRC-16 of R40: polynomial 0x1021, initial value 0xFFFF, no reflection, no final XOR. -/
def crc16 (bs : List Byte) : Nat :=
  bs.foldl (fun c b => crcBits 16 0x1021 8 (c ^^^ (b.toNat * 2 ^ 8))) 0xFFFF

/-- One reflected CRC step per bit. -/
def crcBitsR (poly : Nat) : Nat → Nat → Nat
  | 0, c => c
  | k + 1, c => crcBitsR poly k (if c % 2 = 1 then (c / 2) ^^^ poly else c / 2)

/-- CRC-32C (Castagnoli), reflected, initial value and final XOR all ones (R321). -/
def crc32c (bs : List Byte) : Nat :=
  bs.foldl (fun c b => crcBitsR 0x82F63B78 8 (c ^^^ b.toNat)) 0xFFFFFFFF ^^^ 0xFFFFFFFF

/-! ## Cosine and sine (R425) -/

/-- floor(pi · 2^128). -/
def piFx : Int := 1069028584064966747859680373161870783301

/-- Sum of the alternating Taylor terms: `term` is the current term, n the degree of the next factor, xx = x² in
2^-128 units. -/
def taylor : Nat → Int → Int → Nat → Int → Int
  | 0, acc, _, _, _ => acc
  | k + 1, acc, term, n, xx =>
    let t := -(term * xx / 2 ^ 128) / (((n + 1) * (n + 2) : Nat) : Int)
    taylor k (acc + t) t (n + 2) xx

/-- cos and sin of 2·pi·r/m for 0 ≤ r ≤ m/4, in 2^-128 units. -/
def cosSinQ (r m : Nat) : Int × Int :=
  let x : Int := piFx * 2 * r / m
  let xx := x * x / 2 ^ 128
  (taylor 24 (2 ^ 128) (2 ^ 128) 0 xx, taylor 24 x x 1 xx)

/-- cos and sin of 2·pi·k/m for m a multiple of 4, in 2^-128 units. -/
def cosSin (k m : Nat) : Int × Int :=
  let k := k % m
  let q := k / (m / 4)
  let (c, s) := cosSinQ (k % (m / 4)) m
  if q = 0 then (c, s) else if q = 1 then (-s, c) else if q = 2 then (-c, -s) else (s, -c)

/-- round_half_up(a · cos(2·pi·k/m)). -/
def cosR (a k m : Nat) : Int := rhuShift ((cosSin k m).1 * a) 128

/-- round_half_up(a · sin(2·pi·k/m)). -/
def sinR (a k m : Nat) : Int := rhuShift ((cosSin k m).2 * a) 128

end Sys2Proof.Machine
end

