-- ==== Sys2Proof/Machine/Float.lean ====
section
/-! DEFINITION. binary32 arithmetic on bit patterns, rounded to nearest even (R114, R125, R140), and the stochastic
rounding of R126. Finite values are integers in units of 2^-149. -/

namespace Sys2Proof.Machine

def fExp (a : Nat) : Nat := a / 2 ^ 23 % 256
def fMan (a : Nat) : Nat := a % 2 ^ 23
def fNeg (a : Nat) : Bool := decide (a / 2 ^ 31 % 2 = 1)
def fAbs (a : Nat) : Nat := a % 2 ^ 31
def fIsNaN (a : Nat) : Bool := decide (fExp a = 255) && decide (fMan a ≠ 0)
def fIsInf (a : Nat) : Bool := decide (fExp a = 255) && decide (fMan a = 0)
def fFlip (a : Nat) : Nat := if fNeg a then a - 2 ^ 31 else a + 2 ^ 31
def fInf : Nat := 0x7F800000

/-- Magnitude of a finite pattern in units of 2^-149. -/
def fMag (a : Nat) : Nat := if fExp a = 0 then fMan a else (2 ^ 23 + fMan a) * 2 ^ (fExp a - 1)

/-- Value of a finite pattern in units of 2^-149. -/
def fVal (a : Nat) : Int := if fNeg a then -(fMag a : Int) else fMag a

/-- A quotient by 2^d rounded to nearest even. -/
def rne (m d : Nat) : Nat :=
  let q := m / 2 ^ d
  let r := m % 2 ^ d * 2
  if 2 ^ d < r ∨ r = 2 ^ d ∧ q % 2 = 1 then q + 1 else q

/-- Bits dropped when a magnitude of m · 2^-(149 + sh) becomes a binary32 magnitude. -/
def fDrop (m sh : Nat) : Nat := if m = 0 then sh else max sh (Nat.log2 m + 1 - 24)

/-- Pattern of the magnitude m · 2^-(149 + sh), nearest even. -/
def fRound (m sh : Nat) : Nat :=
  let d := fDrop m sh
  min fInf ((d - sh) * 2 ^ 23 + rne m d)

/-- Pattern with a sign. -/
def fSign (neg : Bool) (a : Nat) : Nat := if neg then a + 2 ^ 31 else a

/-- A NaN result: quiet; the rest of its pattern is a free value. -/
def fNaN (a b : Nat) : Nat := 0x7FC00000 + (Config.f32NaN a b).toNat

/-- An integer as binary32 (R114). -/
def fOfInt (v : Int) : Nat := fSign (decide (v < 0)) (fRound (v.natAbs * 2 ^ 149) 0)

/-- a + b. -/
def fAdd (a b : Nat) : Nat :=
  if fIsNaN a || fIsNaN b then fNaN a b
  else if fIsInf a then (if fIsInf b && fNeg a != fNeg b then fNaN a b else a)
  else if fIsInf b then b
  else
    let v := fVal a + fVal b
    if v = 0 then (if fNeg a && fNeg b then 2 ^ 31 else 0) else fSign (decide (v < 0)) (fRound v.natAbs 0)

/-- a − b. -/
def fSub (a b : Nat) : Nat := fAdd a (fFlip b)

/-- a · b. -/
def fMul (a b : Nat) : Nat :=
  let neg := fNeg a != fNeg b
  if fIsNaN a || fIsNaN b then fNaN a b
  else if fIsInf a || fIsInf b then (if fAbs a = 0 ∨ fAbs b = 0 then fNaN a b else fSign neg fInf)
  else fSign neg (fRound (fMag a * fMag b) 149)

/-- One step of Neumaier's summation: sum and compensation (R125). -/
def neumaier (s c v : Nat) : Nat × Nat :=
  let t := fAdd s v
  if !fIsNaN s && !fIsNaN v && decide (fAbs v ≤ fAbs s) then (t, fAdd c (fAdd (fSub s t) v))
  else (t, fAdd c (fAdd (fSub v t) s))

/-- Stochastic rounding of s + v with draw u (R126); the IEEE sum where an operand is not finite. -/
def stochastic (s v u : Nat) : Nat :=
  if fExp s = 255 ∨ fExp v = 255 then fAdd s v
  else
    let e := fVal s + fVal v
    let m := e.natAbs
    if m = 0 then 0
    else
      let d := fDrop m 0
      let lo := min (fInf - 1) (d * 2 ^ 23 + m / 2 ^ d)
      fSign (decide (e < 0)) (if u < m % 2 ^ d * 2 ^ 32 / 2 ^ d then lo + 1 else lo)

/-- Order of values for the top-k unit: +0 and −0 are equal (R144). -/
def fRank (a : Nat) : Int := if fNeg a then -(fAbs a : Int) else fAbs a

end Sys2Proof.Machine
end

