-- ==== Sys2Proof/Machine/RegMap.lean ====
section
/-! DEFINITION. The register address map of R311: the byte address of every register and the place of every
field, as the register tables of the chapters give them (spec/00 to spec/16). An indexed register takes its
indices as arguments. A field is a `Fld`: register address, lowest bit, width. -/

namespace Sys2Proof.Machine

/-- A field of a register: the register's byte address, its lowest bit and its width in bits (R3). -/
structure Fld where
  addr : Nat
  lo : Nat
  width : Nat
  deriving DecidableEq, Repr

/-! ## Glb registers -/

def GLB_ID : Nat := 0x0
def GLB_ID_FamilyCode : Fld := ⟨GLB_ID, 16, 16⟩
def GLB_ID_PartCode : Fld := ⟨GLB_ID, 8, 8⟩
def GLB_ID_Stepping : Fld := ⟨GLB_ID, 0, 8⟩
/-! ## Fch registers -/

def LN_DFOK (l : Nat) : Nat := 0x100300 + 1024 * l
def LN_DFOK_Count (l : Nat) : Fld := ⟨LN_DFOK l, 0, 32⟩
def LN_DFHDR (l : Nat) : Nat := 0x100304 + 1024 * l
def LN_DFHDR_Count (l : Nat) : Fld := ⟨LN_DFHDR l, 0, 32⟩
def LN_DFFMT (l : Nat) : Nat := 0x100308 + 1024 * l
def LN_DFFMT_Count (l : Nat) : Fld := ⟨LN_DFFMT l, 0, 32⟩
def LN_DFUNMAP (l : Nat) : Nat := 0x10030C + 1024 * l
def LN_DFUNMAP_Count (l : Nat) : Fld := ⟨LN_DFUNMAP l, 0, 32⟩
def FCH_CTRL (e : Nat) : Nat := 0x200000 + 65536 * e
def FCH_CTRL_GainMode (e : Nat) : Fld := ⟨FCH_CTRL e, 2, 1⟩
def FCH_CTRL_ActiveBank (e : Nat) : Fld := ⟨FCH_CTRL e, 1, 1⟩
def FCH_CTRL_Enable (e : Nat) : Fld := ⟨FCH_CTRL e, 0, 1⟩
def FCH_STATUS (e : Nat) : Nat := 0x200004 + 65536 * e
def FCH_STATUS_ConfigErr (e : Nat) : Fld := ⟨FCH_STATUS e, 3, 1⟩
def FCH_STATUS_LateSwap (e : Nat) : Fld := ⟨FCH_STATUS e, 2, 1⟩
def FCH_STATUS_SwapPending (e : Nat) : Fld := ⟨FCH_STATUS e, 1, 1⟩
def FCH_STATUS_Anchored (e : Nat) : Fld := ⟨FCH_STATUS e, 0, 1⟩
def FCH_SYNCNEXT_LO (e : Nat) : Nat := 0x200010 + 65536 * e
def FCH_SYNCNEXT_LO_IndexLow (e : Nat) : Fld := ⟨FCH_SYNCNEXT_LO e, 0, 32⟩
def FCH_SYNCNEXT_HI (e : Nat) : Nat := 0x200014 + 65536 * e
def FCH_SYNCNEXT_HI_IndexHigh (e : Nat) : Fld := ⟨FCH_SYNCNEXT_HI e, 0, 16⟩
def FCH_SYNCIDX_LO (e : Nat) : Nat := 0x200018 + 65536 * e
def FCH_SYNCIDX_LO_IndexLow (e : Nat) : Fld := ⟨FCH_SYNCIDX_LO e, 0, 32⟩
def FCH_SYNCIDX_HI (e : Nat) : Nat := 0x20001C + 65536 * e
def FCH_SYNCIDX_HI_IndexHigh (e : Nat) : Fld := ⟨FCH_SYNCIDX_HI e, 0, 16⟩
def FCH_PFB (e : Nat) : Nat := 0x200020 + 65536 * e
def FCH_PFB_FftShift (e : Nat) : Fld := ⟨FCH_PFB e, 10, 4⟩
def FCH_PFB_Taps (e : Nat) : Fld := ⟨FCH_PFB e, 8, 2⟩
def FCH_PFB_FftSize (e : Nat) : Fld := ⟨FCH_PFB e, 4, 3⟩
def FCH_PFB_Proto (e : Nat) : Fld := ⟨FCH_PFB e, 0, 3⟩
def FCH_CHSEL (e : Nat) : Nat := 0x200024 + 65536 * e
def FCH_CHSEL_Last (e : Nat) : Fld := ⟨FCH_CHSEL e, 16, 16⟩
def FCH_CHSEL_First (e : Nat) : Fld := ⟨FCH_CHSEL e, 0, 16⟩
def FCH_REQ (e : Nat) : Nat := 0x200028 + 65536 * e
def FCH_REQ_Shift (e : Nat) : Fld := ⟨FCH_REQ e, 4, 4⟩
def FCH_REQ_Format (e : Nat) : Fld := ⟨FCH_REQ e, 0, 2⟩
def FCH_GAPLIM (e : Nat) : Nat := 0x20002C + 65536 * e
def FCH_GAPLIM_Limit (e : Nat) : Fld := ⟨FCH_GAPLIM e, 0, 21⟩
def FCH_GSWAP_LO (e : Nat) : Nat := 0x200030 + 65536 * e
def FCH_GSWAP_LO_FrameLow (e : Nat) : Fld := ⟨FCH_GSWAP_LO e, 0, 32⟩
def FCH_GSWAP_HI (e : Nat) : Nat := 0x200034 + 65536 * e
def FCH_GSWAP_HI_FrameHigh (e : Nat) : Fld := ⟨FCH_GSWAP_HI e, 0, 16⟩
def FCH_GADDR (e : Nat) : Nat := 0x200038 + 65536 * e
def FCH_GADDR_ReadActive (e : Nat) : Fld := ⟨FCH_GADDR e, 31, 1⟩
def FCH_GADDR_Index (e : Nat) : Fld := ⟨FCH_GADDR e, 0, 18⟩
def FCH_GDATA (e : Nat) : Nat := 0x20003C + 65536 * e
def FCH_GDATA_GainImag (e : Nat) : Fld := ⟨FCH_GDATA e, 16, 16⟩
def FCH_GDATA_GainReal (e : Nat) : Fld := ⟨FCH_GDATA e, 0, 16⟩
def FCH_SATCNT (e : Nat) : Nat := 0x200040 + 65536 * e
def FCH_SATCNT_Count (e : Nat) : Fld := ⟨FCH_SATCNT e, 0, 32⟩
def FCH_FFTSAT (e : Nat) : Nat := 0x200044 + 65536 * e
def FCH_FFTSAT_Count (e : Nat) : Fld := ⟨FCH_FFTSAT e, 0, 32⟩
def FCH_INVOUT (e : Nat) : Nat := 0x200048 + 65536 * e
def FCH_INVOUT_Count (e : Nat) : Fld := ⟨FCH_INVOUT e, 0, 32⟩
def FCH_PSRC (e s : Nat) : Nat := 0x200100 + 65536 * e + 64 * s
def FCH_PSRC_Enable (e s : Nat) : Fld := ⟨FCH_PSRC e s, 31, 1⟩
def FCH_PSRC_Real (e s : Nat) : Fld := ⟨FCH_PSRC e s, 19, 1⟩
def FCH_PSRC_Lane (e s : Nat) : Fld := ⟨FCH_PSRC e s, 12, 7⟩
def FCH_PSRC_PathId (e s : Nat) : Fld := ⟨FCH_PSRC e s, 0, 12⟩
def FCH_PSTAT (e s : Nat) : Nat := 0x200104 + 65536 * e + 64 * s
def FCH_PSTAT_State (e s : Nat) : Fld := ⟨FCH_PSTAT e s, 0, 3⟩
def FCH_NCOINC (e s : Nat) : Nat := 0x200108 + 65536 * e + 64 * s
def FCH_NCOINC_Inc (e s : Nat) : Fld := ⟨FCH_NCOINC e s, 0, 32⟩
def FCH_NCOPHS (e s : Nat) : Nat := 0x20010C + 65536 * e + 64 * s
def FCH_NCOPHS_PhaseOffset (e s : Nat) : Fld := ⟨FCH_NCOPHS e s, 0, 32⟩
def FCH_CIC (e s : Nat) : Nat := 0x200110 + 65536 * e + 64 * s
def FCH_CIC_NcoEn (e s : Nat) : Fld := ⟨FCH_CIC e s, 8, 1⟩
def FCH_CIC_Order (e s : Nat) : Fld := ⟨FCH_CIC e s, 6, 2⟩
def FCH_CIC_DecimMinus1 (e s : Nat) : Fld := ⟨FCH_CIC e s, 0, 6⟩
def FCH_RSINC (e s : Nat) : Nat := 0x200114 + 65536 * e + 64 * s
def FCH_RSINC_Inc (e s : Nat) : Fld := ⟨FCH_RSINC e s, 0, 32⟩
def FCH_INVIN (e s : Nat) : Nat := 0x200118 + 65536 * e + 64 * s
def FCH_INVIN_Count (e s : Nat) : Fld := ⟨FCH_INVIN e s, 0, 32⟩
def FCH_GAPCNT (e s : Nat) : Nat := 0x20011C + 65536 * e + 64 * s
def FCH_GAPCNT_Count (e s : Nat) : Fld := ⟨FCH_GAPCNT e s, 0, 32⟩
def FCH_LATECNT (e s : Nat) : Nat := 0x200120 + 65536 * e + 64 * s
def FCH_LATECNT_Count (e s : Nat) : Fld := ⟨FCH_LATECNT e s, 0, 32⟩
def FCH_REJOIN (e s : Nat) : Nat := 0x200124 + 65536 * e + 64 * s
def FCH_REJOIN_Count (e s : Nat) : Fld := ⟨FCH_REJOIN e s, 0, 32⟩
def FCH_OVRFR (e s : Nat) : Nat := 0x200128 + 65536 * e + 64 * s
def FCH_OVRFR_Count (e s : Nat) : Fld := ⟨FCH_OVRFR e s, 0, 32⟩
def FCH_STAGESAT (e s : Nat) : Nat := 0x20012C + 65536 * e + 64 * s
def FCH_STAGESAT_Count (e s : Nat) : Fld := ⟨FCH_STAGESAT e s, 0, 32⟩
def FCH_DROPFR (e s : Nat) : Nat := 0x200130 + 65536 * e + 64 * s
def FCH_DROPFR_Count (e s : Nat) : Fld := ⟨FCH_DROPFR e s, 0, 32⟩
/-! ## Hull registers -/

def HULL_CTRL : Nat := 0x300000
def HULL_CTRL_Enable : Fld := ⟨HULL_CTRL, 0, 1⟩
def HULL_STATUS : Nat := 0x300004
def HULL_STATUS_ConfigErr : Fld := ⟨HULL_STATUS, 4, 1⟩
def HULL_STATUS_AnchorMis : Fld := ⟨HULL_STATUS, 3, 1⟩
def HULL_STATUS_Overrun : Fld := ⟨HULL_STATUS, 2, 1⟩
def HULL_STATUS_TxDrop : Fld := ⟨HULL_STATUS, 1, 1⟩
def HULL_STATUS_Running : Fld := ⟨HULL_STATUS, 0, 1⟩
def HULL_CFG : Nat := 0x300008
def HULL_CFG_PathsMinus1 : Fld := ⟨HULL_CFG, 16, 12⟩
def HULL_CFG_DepthLog2 : Fld := ⟨HULL_CFG, 8, 4⟩
def HULL_CFG_Format : Fld := ⟨HULL_CFG, 0, 2⟩
def HULL_SLACK : Nat := 0x30000C
def HULL_SLACK_Frames : Fld := ⟨HULL_SLACK, 0, 16⟩
def HULL_CTBASE_LO : Nat := 0x300010
def HULL_CTBASE_LO_AddrLow : Fld := ⟨HULL_CTBASE_LO, 12, 20⟩
def HULL_CTBASE_HI : Nat := 0x300014
def HULL_CTBASE_HI_AddrHigh : Fld := ⟨HULL_CTBASE_HI, 0, 6⟩
def HULL_OWNED : Nat := 0x300018
def HULL_OWNED_CountMinus1 : Fld := ⟨HULL_OWNED, 16, 13⟩
def HULL_OWNED_First : Fld := ⟨HULL_OWNED, 0, 13⟩
def HULL_TXCFG : Nat := 0x30001C
def HULL_TXCFG_GroupsPerFrame : Fld := ⟨HULL_TXCFG, 0, 5⟩
def HULL_ENGPATH (e : Nat) : Nat := 0x300100 + 4 * e
def HULL_ENGPATH_Count (e : Nat) : Fld := ⟨HULL_ENGPATH e, 16, 5⟩
def HULL_ENGPATH_First (e : Nat) : Fld := ⟨HULL_ENGPATH e, 0, 12⟩
def HULL_SCTRL (st : Nat) : Nat := 0x300200 + 32 * st
def HULL_SCTRL_Enable (st : Nat) : Fld := ⟨HULL_SCTRL st, 31, 1⟩
def HULL_SCTRL_ConsumerMask (st : Nat) : Fld := ⟨HULL_SCTRL st, 0, 8⟩
def HULL_ST (st : Nat) : Nat := 0x300204 + 32 * st
def HULL_ST_TMinus1 (st : Nat) : Fld := ⟨HULL_ST st, 0, 16⟩
def HULL_SF0_LO (st : Nat) : Nat := 0x300208 + 32 * st
def HULL_SF0_LO_FrameLow (st : Nat) : Fld := ⟨HULL_SF0_LO st, 0, 32⟩
def HULL_SF0_HI (st : Nat) : Nat := 0x30020C + 32 * st
def HULL_SF0_HI_FrameHigh (st : Nat) : Fld := ⟨HULL_SF0_HI st, 0, 16⟩
def HULL_SREGION (st : Nat) : Nat := 0x300210 + 32 * st
def HULL_SREGION_Size (st : Nat) : Fld := ⟨HULL_SREGION st, 16, 16⟩
def HULL_SREGION_Offset (st : Nat) : Fld := ⟨HULL_SREGION st, 0, 15⟩
def HULL_SWIN (st : Nat) : Nat := 0x300214 + 32 * st
def HULL_SWIN_Window (st : Nat) : Fld := ⟨HULL_SWIN st, 0, 32⟩
def HULL_TXFRM : Nat := 0x300300
def HULL_TXFRM_Count : Fld := ⟨HULL_TXFRM, 0, 32⟩
def HULL_TXDROP : Nat := 0x300304
def HULL_TXDROP_Count : Fld := ⟨HULL_TXDROP, 0, 32⟩
def HULL_TXUNR : Nat := 0x300308
def HULL_TXUNR_Count : Fld := ⟨HULL_TXUNR, 0, 32⟩
def HULL_RXRUN : Nat := 0x30030C
def HULL_RXRUN_Count : Fld := ⟨HULL_RXRUN, 0, 32⟩
def HULL_RXBAD : Nat := 0x300310
def HULL_RXBAD_Count : Fld := ⟨HULL_RXBAD, 0, 32⟩
def HULL_LATERUN : Nat := 0x300314
def HULL_LATERUN_Count : Fld := ⟨HULL_LATERUN, 0, 32⟩
def HULL_OVERRUN : Nat := 0x300318
def HULL_OVERRUN_Count : Fld := ⟨HULL_OVERRUN, 0, 32⟩
def HULL_MISSRUN : Nat := 0x30031C
def HULL_MISSRUN_Count : Fld := ⟨HULL_MISSRUN, 0, 32⟩
def HULL_PGSTAGED : Nat := 0x300320
def HULL_PGSTAGED_Count : Fld := ⟨HULL_PGSTAGED, 0, 32⟩
def HULL_PGFLAG : Nat := 0x300324
def HULL_PGFLAG_Count : Fld := ⟨HULL_PGFLAG, 0, 32⟩
def HULL_SRC (i : Nat) : Nat := 0x304000 + 4 * i
def HULL_SRC_Valid (i : Nat) : Fld := ⟨HULL_SRC i, 31, 1⟩
def HULL_SRC_Node (i : Nat) : Fld := ⟨HULL_SRC i, 4, 12⟩
def HULL_SRC_Engine (i : Nat) : Fld := ⟨HULL_SRC i, 0, 4⟩
def HULL_OWN (g : Nat) : Nat := 0x308000 + 4 * g
def HULL_OWN_Valid (g : Nat) : Fld := ⟨HULL_OWN g, 31, 1⟩
def HULL_OWN_OwnerNode (g : Nat) : Fld := ⟨HULL_OWN g, 0, 12⟩
/-! ## Pod registers -/

def POD_CTRL (p : Nat) : Nat := 0x400000 + 65536 * p
def POD_CTRL_Entry (p : Nat) : Fld := ⟨POD_CTRL p, 2, 12⟩
def POD_CTRL_Run (p : Nat) : Fld := ⟨POD_CTRL p, 0, 1⟩
def POD_STATUS (p : Nat) : Nat := 0x400004 + 65536 * p
def POD_STATUS_FaultCode (p : Nat) : Fld := ⟨POD_STATUS p, 24, 8⟩
def POD_STATUS_Pc (p : Nat) : Fld := ⟨POD_STATUS p, 8, 12⟩
def POD_STATUS_ConfigErr (p : Nat) : Fld := ⟨POD_STATUS p, 7, 1⟩
def POD_STATUS_PmcDenied (p : Nat) : Fld := ⟨POD_STATUS p, 6, 1⟩
def POD_STATUS_Failed (p : Nat) : Fld := ⟨POD_STATUS p, 5, 1⟩
def POD_STATUS_Fault (p : Nat) : Fld := ⟨POD_STATUS p, 4, 1⟩
def POD_STATUS_DrainBusy (p : Nat) : Fld := ⟨POD_STATUS p, 3, 1⟩
def POD_STATUS_Halted (p : Nat) : Fld := ⟨POD_STATUS p, 2, 1⟩
def POD_STATUS_Waiting (p : Nat) : Fld := ⟨POD_STATUS p, 1, 1⟩
def POD_STATUS_Running (p : Nat) : Fld := ⟨POD_STATUS p, 0, 1⟩
def POD_PCFG (p : Nat) : Nat := 0x400008 + 65536 * p
def POD_PCFG_Partition (p : Nat) : Fld := ⟨POD_PCFG p, 16, 3⟩
def POD_PCFG_Format (p : Nat) : Fld := ⟨POD_PCFG p, 8, 2⟩
def POD_PCFG_Mode (p : Nat) : Fld := ⟨POD_PCFG p, 4, 1⟩
def POD_PCFG_Lead (p : Nat) : Fld := ⟨POD_PCFG p, 1, 1⟩
def POD_PCFG_Member (p : Nat) : Fld := ⟨POD_PCFG p, 0, 1⟩
def POD_PORTOWN (p : Nat) : Nat := 0x40000C + 65536 * p
def POD_PORTOWN_Ports (p : Nat) : Fld := ⟨POD_PORTOWN p, 0, 16⟩
def POD_OWNER (p : Nat) : Nat := 0x400010 + 65536 * p
def POD_OWNER_Owned (p : Nat) : Fld := ⟨POD_OWNER p, 31, 1⟩
def POD_OWNER_Context (p : Nat) : Fld := ⟨POD_OWNER p, 0, 12⟩
def POD_COLMAP (p : Nat) : Nat := 0x400014 + 65536 * p
def POD_COLMAP_SpareBad (p : Nat) : Fld := ⟨POD_COLMAP p, 7, 1⟩
def POD_COLMAP_Steered (p : Nat) : Fld := ⟨POD_COLMAP p, 6, 1⟩
def POD_COLMAP_FailedColumn (p : Nat) : Fld := ⟨POD_COLMAP p, 0, 6⟩
def POD_SPARECFG (p : Nat) : Nat := 0x400018 + 65536 * p
def POD_SPARECFG_Limit (p : Nat) : Fld := ⟨POD_SPARECFG p, 4, 4⟩
def POD_SPARECFG_AutoSteer (p : Nat) : Fld := ⟨POD_SPARECFG p, 0, 1⟩
def POD_CMD (p : Nat) : Nat := 0x40001C + 65536 * p
def POD_CMD_Steer (p : Nat) : Fld := ⟨POD_CMD p, 31, 1⟩
def POD_CMD_Column (p : Nat) : Fld := ⟨POD_CMD p, 0, 6⟩
def POD_GREG (p i : Nat) : Nat := 0x400020 + 65536 * p + 4 * i
def POD_GREG_Value (p i : Nat) : Fld := ⟨POD_GREG p i, 0, 32⟩
def POD_COLERR (p c : Nat) : Nat := 0x400100 + 65536 * p + 4 * c
def POD_COLERR_Count (p c : Nat) : Fld := ⟨POD_COLERR p c, 0, 32⟩
def POD_BEATS (p : Nat) : Nat := 0x400200 + 65536 * p
def POD_BEATS_Count (p : Nat) : Fld := ⟨POD_BEATS p, 0, 32⟩
def POD_DRAINS (p : Nat) : Nat := 0x400204 + 65536 * p
def POD_DRAINS_Count (p : Nat) : Fld := ⟨POD_DRAINS p, 0, 32⟩
def POD_STALLDRN (p : Nat) : Nat := 0x400208 + 65536 * p
def POD_STALLDRN_Count (p : Nat) : Fld := ⟨POD_STALLDRN p, 0, 32⟩
def POD_STALLOPND (p : Nat) : Nat := 0x40020C + 65536 * p
def POD_STALLOPND_Count (p : Nat) : Fld := ⟨POD_STALLOPND p, 0, 32⟩
def POD_STALLPORT (p : Nat) : Nat := 0x400210 + 65536 * p
def POD_STALLPORT_Count (p : Nat) : Fld := ⟨POD_STALLPORT p, 0, 32⟩
def POD_STALLW (p : Nat) : Nat := 0x400214 + 65536 * p
def POD_STALLW_Count (p : Nat) : Fld := ⟨POD_STALLW p, 0, 32⟩
def POD_DRAINHOLD (p : Nat) : Nat := 0x400218 + 65536 * p
def POD_DRAINHOLD_Count (p : Nat) : Fld := ⟨POD_DRAINHOLD p, 0, 32⟩
def POD_PARITY (p : Nat) : Nat := 0x40021C + 65536 * p
def POD_PARITY_Count (p : Nat) : Fld := ⟨POD_PARITY p, 0, 32⟩
def POD_PM_LO (p w : Nat) : Nat := 0x408000 + 65536 * p + 8 * w
def POD_PM_LO_WordLow (p w : Nat) : Fld := ⟨POD_PM_LO p w, 0, 32⟩
def POD_PM_HI (p w : Nat) : Nat := 0x408004 + 65536 * p + 8 * w
def POD_PM_HI_WordHigh (p w : Nat) : Fld := ⟨POD_PM_HI p w, 0, 32⟩
/-! ## Husk registers -/

def HUSK_CTRL : Nat := 0x800000
def HUSK_CTRL_Enable : Fld := ⟨HUSK_CTRL, 0, 1⟩
def HUSK_STATUS : Nat := 0x800004
def HUSK_STATUS_ConfigErr : Fld := ⟨HUSK_STATUS, 6, 1⟩
def HUSK_STATUS_DumpLate : Fld := ⟨HUSK_STATUS, 5, 1⟩
def HUSK_STATUS_ChaffFull : Fld := ⟨HUSK_STATUS, 4, 1⟩
def HUSK_STATUS_MapMiss : Fld := ⟨HUSK_STATUS, 3, 1⟩
def HUSK_STATUS_Mixed : Fld := ⟨HUSK_STATUS, 2, 1⟩
def HUSK_STATUS_StageFull : Fld := ⟨HUSK_STATUS, 1, 1⟩
def HUSK_STATUS_Running : Fld := ⟨HUSK_STATUS, 0, 1⟩
def HUSK_SEED : Nat := 0x800008
def HUSK_SEED_Seed : Fld := ⟨HUSK_SEED, 0, 32⟩
def HUSK_DRAINS : Nat := 0x800100
def HUSK_DRAINS_Count : Fld := ⟨HUSK_DRAINS, 0, 32⟩
def HUSK_DISCARD : Nat := 0x800104
def HUSK_DISCARD_Count : Fld := ⟨HUSK_DISCARD, 0, 32⟩
def HUSK_RMW : Nat := 0x800108
def HUSK_RMW_Count : Fld := ⟨HUSK_RMW, 0, 32⟩
def HUSK_FEHOLD : Nat := 0x80010C
def HUSK_FEHOLD_Count : Fld := ⟨HUSK_FEHOLD, 0, 32⟩
def HUSK_STAGEHOLD : Nat := 0x800110
def HUSK_STAGEHOLD_Count : Fld := ⟨HUSK_STAGEHOLD, 0, 32⟩
def HUSK_CHAFFINS : Nat := 0x800114
def HUSK_CHAFFINS_Count : Fld := ⟨HUSK_CHAFFINS, 0, 32⟩
def HUSK_CHAFFOVF : Nat := 0x800118
def HUSK_CHAFFOVF_Count : Fld := ⟨HUSK_CHAFFOVF, 0, 32⟩
def HUSK_DUMPS : Nat := 0x80011C
def HUSK_DUMPS_Count : Fld := ⟨HUSK_DUMPS, 0, 32⟩
def HUSK_DUMPLATE : Nat := 0x800120
def HUSK_DUMPLATE_Count : Fld := ⟨HUSK_DUMPLATE, 0, 32⟩
def HUSK_SATCNT : Nat := 0x800124
def HUSK_SATCNT_Count : Fld := ⟨HUSK_SATCNT, 0, 32⟩
def HUSK_PARITY : Nat := 0x800128
def HUSK_PARITY_Count : Fld := ⟨HUSK_PARITY, 0, 32⟩
def HUSK_MIXED : Nat := 0x80012C
def HUSK_MIXED_Count : Fld := ⟨HUSK_MIXED, 0, 32⟩
def HUSK_EXCESS : Nat := 0x800130
def HUSK_EXCESS_Count : Fld := ⟨HUSK_EXCESS, 0, 32⟩
def HUSK_MAPMISS : Nat := 0x800134
def HUSK_MAPMISS_Count : Fld := ⟨HUSK_MAPMISS, 0, 32⟩
def HUSK_DCFG (c : Nat) : Nat := 0x820000 + 32 * c
def HUSK_DCFG_Valid (c : Nat) : Fld := ⟨HUSK_DCFG c, 31, 1⟩
def HUSK_DCFG_Kind (c : Nat) : Fld := ⟨HUSK_DCFG c, 28, 3⟩
def HUSK_DCFG_SpillFmt (c : Nat) : Fld := ⟨HUSK_DCFG c, 27, 1⟩
def HUSK_DCFG_ChaffBits (c : Nat) : Fld := ⟨HUSK_DCFG c, 20, 5⟩
def HUSK_DCFG_PassesMinus1 (c : Nat) : Fld := ⟨HUSK_DCFG c, 0, 20⟩
def HUSK_DSCALE (c : Nat) : Nat := 0x820004 + 32 * c
def HUSK_DSCALE_Scale (c : Nat) : Fld := ⟨HUSK_DSCALE c, 0, 32⟩
def HUSK_DSPILL (c : Nat) : Nat := 0x820008 + 32 * c
def HUSK_DSPILL_Base (c : Nat) : Fld := ⟨HUSK_DSPILL c, 0, 32⟩
def HUSK_DBUFSZ (c : Nat) : Nat := 0x82000C + 32 * c
def HUSK_DBUFSZ_Size (c : Nat) : Fld := ⟨HUSK_DBUFSZ c, 0, 32⟩
def HUSK_DCHAFF (c : Nat) : Nat := 0x820010 + 32 * c
def HUSK_DCHAFF_Base (c : Nat) : Fld := ⟨HUSK_DCHAFF c, 0, 32⟩
def HUSK_DMAP (c : Nat) : Nat := 0x820014 + 32 * c
def HUSK_DMAP_MapPeriodMinus1 (c : Nat) : Fld := ⟨HUSK_DMAP c, 18, 14⟩
def HUSK_DMAP_MapBase (c : Nat) : Fld := ⟨HUSK_DMAP c, 0, 14⟩
def HUSK_DTOPK (c : Nat) : Nat := 0x820018 + 32 * c
def HUSK_DTOPK_Source (c : Nat) : Fld := ⟨HUSK_DTOPK c, 20, 12⟩
def HUSK_DTOPK_KMinus1 (c : Nat) : Fld := ⟨HUSK_DTOPK c, 16, 4⟩
def HUSK_DTOPK_PerIndex (c : Nat) : Fld := ⟨HUSK_DTOPK c, 15, 1⟩
def HUSK_DTOPK_SetBase (c : Nat) : Fld := ⟨HUSK_DTOPK c, 0, 12⟩
def HUSK_DAUX (c : Nat) : Nat := 0x82001C + 32 * c
def HUSK_DAUX_DrainsPerPgMinus1 (c : Nat) : Fld := ⟨HUSK_DAUX c, 16, 16⟩
def HUSK_DAUX_VoltFormat (c : Nat) : Fld := ⟨HUSK_DAUX c, 12, 2⟩
def HUSK_DAUX_VoltShift (c : Nat) : Fld := ⟨HUSK_DAUX c, 8, 4⟩
def HUSK_MAP_LO (i : Nat) : Nat := 0x840000 + 8 * i
def HUSK_MAP_LO_ColBaseOrFrameBase (i : Nat) : Fld := ⟨HUSK_MAP_LO i, 16, 16⟩
def HUSK_MAP_LO_FramesMinus1 (i : Nat) : Fld := ⟨HUSK_MAP_LO i, 0, 7⟩
def HUSK_MAP_HI (i : Nat) : Nat := 0x840004 + 8 * i
def HUSK_MAP_HI_Valid (i : Nat) : Fld := ⟨HUSK_MAP_HI i, 31, 1⟩
def HUSK_MAP_HI_Kind (i : Nat) : Fld := ⟨HUSK_MAP_HI i, 30, 1⟩
def HUSK_MAP_HI_Context (i : Nat) : Fld := ⟨HUSK_MAP_HI i, 18, 12⟩
def HUSK_MAP_HI_RowOrBeamBase (i : Nat) : Fld := ⟨HUSK_MAP_HI i, 6, 12⟩
/-! ## Ctx registers -/

def CTX_CFG (c : Nat) : Nat := 0x900000 + 64 * c
def CTX_CFG_Valid (c : Nat) : Fld := ⟨CTX_CFG c, 31, 1⟩
def CTX_CFG_Kind (c : Nat) : Fld := ⟨CTX_CFG c, 28, 3⟩
def CTX_CFG_SpillFmt (c : Nat) : Fld := ⟨CTX_CFG c, 27, 1⟩
def CTX_CFG_AutoRestart (c : Nat) : Fld := ⟨CTX_CFG c, 26, 1⟩
def CTX_CFG_Stream (c : Nat) : Fld := ⟨CTX_CFG c, 24, 2⟩
def CTX_CFG_Partition (c : Nat) : Fld := ⟨CTX_CFG c, 21, 3⟩
def CTX_CFG_PassesMinus1 (c : Nat) : Fld := ⟨CTX_CFG c, 0, 20⟩
def CTX_STATE (c : Nat) : Nat := 0x900004 + 64 * c
def CTX_STATE_State (c : Nat) : Fld := ⟨CTX_STATE c, 29, 3⟩
def CTX_STATE_Loading (c : Nat) : Fld := ⟨CTX_STATE c, 28, 1⟩
def CTX_STATE_LastRefusal (c : Nat) : Fld := ⟨CTX_STATE c, 16, 8⟩
def CTX_STATE_FaultCause (c : Nat) : Fld := ⟨CTX_STATE c, 8, 8⟩
def CTX_STATE_RestartCount (c : Nat) : Fld := ⟨CTX_STATE c, 0, 8⟩
def CTX_PATHS (c : Nat) : Nat := 0x900008 + 64 * c
def CTX_PATHS_ListBase (c : Nat) : Fld := ⟨CTX_PATHS c, 16, 16⟩
def CTX_PATHS_CountMinus1 (c : Nat) : Fld := ⟨CTX_PATHS c, 0, 12⟩
def CTX_CHAN (c : Nat) : Nat := 0x90000C + 64 * c
def CTX_CHAN_GroupsMinus1 (c : Nat) : Fld := ⟨CTX_CHAN c, 16, 13⟩
def CTX_CHAN_FirstGroup (c : Nat) : Fld := ⟨CTX_CHAN c, 0, 13⟩
def CTX_TILE (c : Nat) : Nat := 0x900010 + 64 * c
def CTX_TILE_NoTile (c : Nat) : Fld := ⟨CTX_TILE c, 15, 1⟩
def CTX_TILE_Row0 (c : Nat) : Fld := ⟨CTX_TILE c, 12, 3⟩
def CTX_TILE_Col0 (c : Nat) : Fld := ⟨CTX_TILE c, 8, 3⟩
def CTX_TILE_RowsMinus1 (c : Nat) : Fld := ⟨CTX_TILE c, 4, 3⟩
def CTX_TILE_ColsMinus1 (c : Nat) : Fld := ⟨CTX_TILE c, 0, 3⟩
def CTX_BEAM (c : Nat) : Nat := 0x900014 + 64 * c
def CTX_BEAM_Entry (c : Nat) : Fld := ⟨CTX_BEAM c, 16, 12⟩
def CTX_BEAM_BeamCount (c : Nat) : Fld := ⟨CTX_BEAM c, 0, 13⟩
def CTX_K0_LO (c : Nat) : Nat := 0x900018 + 64 * c
def CTX_K0_LO_WindowLow (c : Nat) : Fld := ⟨CTX_K0_LO c, 0, 32⟩
def CTX_K0_HI (c : Nat) : Nat := 0x90001C + 64 * c
def CTX_K0_HI_StartMode (c : Nat) : Fld := ⟨CTX_K0_HI c, 30, 2⟩
def CTX_K0_HI_WindowHigh (c : Nat) : Fld := ⟨CTX_K0_HI c, 0, 16⟩
def CTX_WPTR (c : Nat) : Nat := 0x900020 + 64 * c
def CTX_WPTR_Base (c : Nat) : Fld := ⟨CTX_WPTR c, 0, 32⟩
def CTX_WSIZE (c : Nat) : Nat := 0x900024 + 64 * c
def CTX_WSIZE_Stride (c : Nat) : Fld := ⟨CTX_WSIZE c, 16, 16⟩
def CTX_WSIZE_Length (c : Nat) : Fld := ⟨CTX_WSIZE c, 0, 9⟩
def CTX_DEST (c : Nat) : Nat := 0x900028 + 64 * c
def CTX_DEST_Emit (c : Nat) : Fld := ⟨CTX_DEST c, 31, 1⟩
def CTX_DEST_Dest (c : Nat) : Fld := ⟨CTX_DEST c, 0, 6⟩
def CTX_LOAD (c : Nat) : Nat := 0x900034 + 64 * c
def CTX_LOAD_HbmLoad (c : Nat) : Fld := ⟨CTX_LOAD c, 16, 16⟩
def CTX_LOAD_PartLoad (c : Nat) : Fld := ⟨CTX_LOAD c, 0, 11⟩
def CTX_EMITTED (c : Nat) : Nat := 0x90002C + 64 * c
def CTX_EMITTED_Count (c : Nat) : Fld := ⟨CTX_EMITTED c, 0, 32⟩
def CTX_FLAGGED (c : Nat) : Nat := 0x900030 + 64 * c
def CTX_FLAGGED_Count (c : Nat) : Fld := ⟨CTX_FLAGGED c, 0, 32⟩
def CTX_KEFF_LO (c : Nat) : Nat := 0x900038 + 64 * c
def CTX_KEFF_LO_WindowLow (c : Nat) : Fld := ⟨CTX_KEFF_LO c, 0, 32⟩
def CTX_KEFF_HI (c : Nat) : Nat := 0x90003C + 64 * c
def CTX_KEFF_HI_WindowHigh (c : Nat) : Fld := ⟨CTX_KEFF_HI c, 0, 16⟩
def EGR_DCTRL (d : Nat) : Nat := 0x161000 + 32 * d
def EGR_DCTRL_Valid (d : Nat) : Fld := ⟨EGR_DCTRL d, 31, 1⟩
def EGR_DCTRL_Kind (d : Nat) : Fld := ⟨EGR_DCTRL d, 30, 1⟩
def EGR_DCTRL_Ports (d : Nat) : Fld := ⟨EGR_DCTRL d, 16, 8⟩
def EGR_DCTRL_Node (d : Nat) : Fld := ⟨EGR_DCTRL d, 0, 12⟩
def EGR_DMAX (d : Nat) : Nat := 0x161014 + 32 * d
def EGR_DMAX_Dscp (d : Nat) : Fld := ⟨EGR_DMAX d, 26, 6⟩
def EGR_DMAX_MaxPacket (d : Nat) : Fld := ⟨EGR_DMAX d, 0, 14⟩
def EGR_DMAC_LO (d : Nat) : Nat := 0x161004 + 32 * d
def EGR_DMAC_LO_MacLow (d : Nat) : Fld := ⟨EGR_DMAC_LO d, 0, 32⟩
def EGR_DMAC_HI (d : Nat) : Nat := 0x161008 + 32 * d
def EGR_DMAC_HI_MacHigh (d : Nat) : Fld := ⟨EGR_DMAC_HI d, 0, 16⟩
def EGR_DIP (d : Nat) : Nat := 0x16100C + 32 * d
def EGR_DIP_Address (d : Nat) : Fld := ⟨EGR_DIP d, 0, 32⟩
def EGR_DUDP (d : Nat) : Nat := 0x161010 + 32 * d
def EGR_DUDP_SrcPort (d : Nat) : Fld := ⟨EGR_DUDP d, 16, 16⟩
def EGR_DUDP_DstPort (d : Nat) : Fld := ⟨EGR_DUDP d, 0, 16⟩
def EGR_DSENT (d : Nat) : Nat := 0x161018 + 32 * d
def EGR_DSENT_Count (d : Nat) : Fld := ⟨EGR_DSENT d, 0, 32⟩
def EGR_DDROP (d : Nat) : Nat := 0x16101C + 32 * d
def EGR_DDROP_Count (d : Nat) : Fld := ⟨EGR_DDROP d, 0, 32⟩
def CTX_CMD : Nat := 0x940000
def CTX_CMD_Op : Fld := ⟨CTX_CMD, 28, 4⟩
def CTX_CMD_Context : Fld := ⟨CTX_CMD, 0, 12⟩
def CTX_CSTAT : Nat := 0x940004
def CTX_CSTAT_Busy : Fld := ⟨CTX_CSTAT, 31, 1⟩
def CTX_CSTAT_Overrun : Fld := ⟨CTX_CSTAT, 30, 1⟩
def CTX_CSTAT_LastCode : Fld := ⟨CTX_CSTAT, 16, 8⟩
def CTX_CSTAT_LastContext : Fld := ⟨CTX_CSTAT, 0, 12⟩
def CTX_HBMSTATIC : Nat := 0x940008
def CTX_HBMSTATIC_Static : Fld := ⟨CTX_HBMSTATIC, 0, 16⟩
def CTX_HBMSUM : Nat := 0x94000C
def CTX_HBMSUM_Sum : Fld := ⟨CTX_HBMSUM, 0, 16⟩
def CTX_PLOAD (n : Nat) : Nat := 0x940020 + 4 * n
def CTX_PLOAD_Sum (n : Nat) : Fld := ⟨CTX_PLOAD n, 0, 12⟩
/-! ## Timing registers -/

def TMB_STATUS : Nat := 0x20000
def TMB_STATUS_Selected : Fld := ⟨TMB_STATUS, 24, 3⟩
def TMB_STATUS_HistoryValid : Fld := ⟨TMB_STATUS, 11, 1⟩
def TMB_STATUS_Realigning : Fld := ⟨TMB_STATUS, 8, 1⟩
def TMB_STATUS_SetPending : Fld := ⟨TMB_STATUS, 7, 1⟩
def TMB_STATUS_DriftDisq : Fld := ⟨TMB_STATUS, 6, 1⟩
def TMB_STATUS_RefDisagree : Fld := ⟨TMB_STATUS, 5, 1⟩
def TMB_STATUS_RefLost : Fld := ⟨TMB_STATUS, 4, 1⟩
def TMB_STATUS_StateChg : Fld := ⟨TMB_STATUS, 3, 1⟩
def TMB_STATUS_State : Fld := ⟨TMB_STATUS, 0, 3⟩
def TMB_CMD : Nat := 0x20004
def TMB_CMD_WtrMask : Fld := ⟨TMB_CMD, 8, 8⟩
def TMB_CMD_ClearWtr : Fld := ⟨TMB_CMD, 2, 1⟩
def TMB_CMD_SetTime : Fld := ⟨TMB_CMD, 1, 1⟩
def TMB_CMD_Realign : Fld := ⟨TMB_CMD, 0, 1⟩
def TMB_SEL : Nat := 0x20008
def TMB_SEL_Revertive : Fld := ⟨TMB_SEL, 8, 1⟩
def TMB_SEL_Force : Fld := ⟨TMB_SEL, 4, 1⟩
def TMB_SEL_ForceInput : Fld := ⟨TMB_SEL, 0, 3⟩
def TMB_QUAL : Nat := 0x20030
def TMB_QUAL_WtrSec : Fld := ⟨TMB_QUAL, 23, 9⟩
def TMB_QUAL_WidePpm : Fld := ⟨TMB_QUAL, 16, 7⟩
def TMB_QUAL_Limit : Fld := ⟨TMB_QUAL, 0, 16⟩
def TMB_DRIFT : Nat := 0x20038
def TMB_DRIFT_WindowSec : Fld := ⟨TMB_DRIFT, 16, 8⟩
def TMB_DRIFT_PhaseLimitPs : Fld := ⟨TMB_DRIFT, 0, 16⟩
def TMB_OUTCFG : Nat := 0x20040
def TMB_OUTCFG_PpsWidthUs : Fld := ⟨TMB_OUTCFG, 16, 16⟩
def TMB_OUTCFG_RefOutFreq : Fld := ⟨TMB_OUTCFG, 8, 2⟩
def TMB_OUTCFG_SyncPinEn : Fld := ⟨TMB_OUTCFG, 2, 1⟩
def TMB_OUTCFG_PpsEn : Fld := ⟨TMB_OUTCFG, 1, 1⟩
def TMB_OUTCFG_RefEn : Fld := ⟨TMB_OUTCFG, 0, 1⟩
def TMB_REFCFG (n : Nat) : Nat := 0x20060 + 4 * n
def TMB_REFCFG_Bw (n : Nat) : Fld := ⟨TMB_REFCFG n, 8, 4⟩
def TMB_REFCFG_Type (n : Nat) : Fld := ⟨TMB_REFCFG n, 4, 2⟩
def TMB_REFCFG_Rank (n : Nat) : Fld := ⟨TMB_REFCFG n, 0, 4⟩
def TMB_REFSTAT (n : Nat) : Nat := 0x20080 + 4 * n
def TMB_REFSTAT_State (n : Nat) : Fld := ⟨TMB_REFSTAT n, 29, 3⟩
def TMB_REFSTAT_WtrLeft (n : Nat) : Fld := ⟨TMB_REFSTAT n, 20, 9⟩
def TMB_REFSTAT_FreqOffset (n : Nat) : Fld := ⟨TMB_REFSTAT n, 0, 20⟩
def TMB_FTCFG : Nat := 0x200A0
def TMB_FTCFG_Enable : Fld := ⟨TMB_FTCFG, 31, 1⟩
def TMB_FTCFG_TimeRank : Fld := ⟨TMB_FTCFG, 8, 4⟩
def TMB_FTCFG_IntervalCode : Fld := ⟨TMB_FTCFG, 0, 3⟩
def TMB_FTSTAT : Nat := 0x200A4
def TMB_FTSTAT_Valid : Fld := ⟨TMB_FTSTAT, 31, 1⟩
def TMB_FTSTAT_IsMaster : Fld := ⟨TMB_FTSTAT, 30, 1⟩
def TMB_FTSTAT_MasterNode : Fld := ⟨TMB_FTSTAT, 0, 12⟩
def TMB_INCR : Nat := 0x2000C
def TMB_INCR_Inc : Fld := ⟨TMB_INCR, 0, 32⟩
def TMB_INCRF : Nat := 0x20010
def TMB_INCRF_Frac : Fld := ⟨TMB_INCRF, 0, 32⟩
def TMB_TIME_FR : Nat := 0x20014
def TMB_TIME_FR_Frac : Fld := ⟨TMB_TIME_FR, 0, 32⟩
def TMB_TIME_SL : Nat := 0x20018
def TMB_TIME_SL_SecLow : Fld := ⟨TMB_TIME_SL, 0, 32⟩
def TMB_TIME_SH : Nat := 0x2001C
def TMB_TIME_SH_SecHigh : Fld := ⟨TMB_TIME_SH, 0, 16⟩
def TMB_TSET_LO : Nat := 0x20020
def TMB_TSET_LO_SecLow : Fld := ⟨TMB_TSET_LO, 0, 32⟩
def TMB_TSET_HI : Nat := 0x20024
def TMB_TSET_HI_SecHigh : Fld := ⟨TMB_TSET_HI, 0, 16⟩
def TMB_STEP_LO : Nat := 0x20028
def TMB_STEP_LO_Frac : Fld := ⟨TMB_STEP_LO, 0, 32⟩
def TMB_STEP_HI : Nat := 0x2002C
def TMB_STEP_HI_Sec : Fld := ⟨TMB_STEP_HI, 0, 16⟩
def TMB_DISAGREE : Nat := 0x20034
def TMB_DISAGREE_Limit : Fld := ⟨TMB_DISAGREE, 0, 16⟩
def TMB_HOLD : Nat := 0x2003C
def TMB_HOLD_LimitSec : Fld := ⟨TMB_HOLD, 0, 24⟩
def TMB_FABSEL : Nat := 0x20044
def TMB_FABSEL_Lane : Fld := ⟨TMB_FABSEL, 0, 7⟩
def TMB_PHERR : Nat := 0x20048
def TMB_PHERR_Ps : Fld := ⟨TMB_PHERR, 0, 32⟩
def TMB_PPSERR (m : Nat) : Nat := 0x2004C + 4 * m
def TMB_PPSERR_Offset (m : Nat) : Fld := ⟨TMB_PPSERR m, 0, 32⟩
def TMB_FTOFS : Nat := 0x200A8
def TMB_FTOFS_Offset : Fld := ⟨TMB_FTOFS, 0, 32⟩
def TMB_FTDLY : Nat := 0x200AC
def TMB_FTDLY_Delay : Fld := ⟨TMB_FTDLY, 0, 32⟩
def TMB_FTASYM : Nat := 0x200B0
def TMB_FTASYM_Asym : Fld := ⟨TMB_FTASYM, 0, 32⟩
def TMB_SREFIDX_LO : Nat := 0x200C0
def TMB_SREFIDX_LO_IndexLow : Fld := ⟨TMB_SREFIDX_LO, 0, 32⟩
def TMB_SREFIDX_HI : Nat := 0x200C4
def TMB_SREFIDX_HI_IndexHigh : Fld := ⟨TMB_SREFIDX_HI, 0, 16⟩
def TMB_SREFT_FR : Nat := 0x200C8
def TMB_SREFT_FR_Frac : Fld := ⟨TMB_SREFT_FR, 0, 32⟩
def TMB_SREFT_SL : Nat := 0x200CC
def TMB_SREFT_SL_SecLow : Fld := ⟨TMB_SREFT_SL, 0, 32⟩
def TMB_SREFT_SH : Nat := 0x200D0
def TMB_SREFT_SH_SecHigh : Fld := ⟨TMB_SREFT_SH, 0, 16⟩
def TMB_SPER_LO : Nat := 0x200D4
def TMB_SPER_LO_PerLow : Fld := ⟨TMB_SPER_LO, 0, 32⟩
def TMB_SPER_HI : Nat := 0x200D8
def TMB_SPER_HI_PerHigh : Fld := ⟨TMB_SPER_HI, 0, 32⟩
def TMB_SWITCHES : Nat := 0x20100
def TMB_SWITCHES_Count : Fld := ⟨TMB_SWITCHES, 0, 32⟩
def TMB_FTDROP : Nat := 0x20104
def TMB_FTDROP_Count : Fld := ⟨TMB_FTDROP, 0, 32⟩
def TMB_TXTS_FR (l : Nat) : Nat := 0x21000 + 16 * l
def TMB_TXTS_FR_Frac (l : Nat) : Fld := ⟨TMB_TXTS_FR l, 0, 32⟩
def TMB_TXTS_SL (l : Nat) : Nat := 0x21004 + 16 * l
def TMB_TXTS_SL_SecLow (l : Nat) : Fld := ⟨TMB_TXTS_SL l, 0, 32⟩
def TMB_TXTS_SH (l : Nat) : Nat := 0x21008 + 16 * l
def TMB_TXTS_SH_Valid (l : Nat) : Fld := ⟨TMB_TXTS_SH l, 31, 1⟩
def TMB_TXTS_SH_Id (l : Nat) : Fld := ⟨TMB_TXTS_SH l, 16, 8⟩
def TMB_TXTS_SH_SecHigh (l : Nat) : Fld := ⟨TMB_TXTS_SH l, 0, 16⟩
def TMB_TXSTAT (l : Nat) : Nat := 0x2100C + 16 * l
def TMB_TXSTAT_Ovf (l : Nat) : Fld := ⟨TMB_TXSTAT l, 8, 1⟩
def TMB_TXSTAT_Count (l : Nat) : Fld := ⟨TMB_TXSTAT l, 0, 5⟩
def CAL_SEC_LO : Nat := 0x30000
def CAL_SEC_LO_SecLow : Fld := ⟨CAL_SEC_LO, 0, 32⟩
def CAL_SEC_HI : Nat := 0x30004
def CAL_SEC_HI_SecHigh : Fld := ⟨CAL_SEC_HI, 0, 16⟩
def CAL_STATUS : Nat := 0x30008
def CAL_STATUS_OscFail : Fld := ⟨CAL_STATUS, 1, 1⟩
def CAL_STATUS_Valid : Fld := ⟨CAL_STATUS, 0, 1⟩
def CAL_CMD : Nat := 0x3000C
def CAL_CMD_Capture : Fld := ⟨CAL_CMD, 0, 1⟩
def SCH_DUE_FR : Nat := 0x40000
def SCH_DUE_FR_Frac : Fld := ⟨SCH_DUE_FR, 0, 32⟩
def SCH_DUE_SL : Nat := 0x40004
def SCH_DUE_SL_SecLow : Fld := ⟨SCH_DUE_SL, 0, 32⟩
def SCH_DUE_SH : Nat := 0x40008
def SCH_DUE_SH_SecHigh : Fld := ⟨SCH_DUE_SH, 0, 16⟩
def SCH_CANCEL : Nat := 0x40010
def SCH_CANCEL_Handle : Fld := ⟨SCH_CANCEL, 0, 16⟩
def SCH_EXECCNT : Nat := 0x40020
def SCH_EXECCNT_Count : Fld := ⟨SCH_EXECCNT, 0, 32⟩
def SCH_LATECNT : Nat := 0x40024
def SCH_LATECNT_Count : Fld := ⟨SCH_LATECNT, 0, 32⟩
def SCH_LATEEXECCNT : Nat := 0x40028
def SCH_LATEEXECCNT_Count : Fld := ⟨SCH_LATEEXECCNT, 0, 32⟩
def SCH_INSERT : Nat := 0x4000C
def SCH_INSERT_Type : Fld := ⟨SCH_INSERT, 28, 4⟩
def SCH_INSERT_Asap : Fld := ⟨SCH_INSERT, 27, 1⟩
def SCH_INSERT_Arg : Fld := ⟨SCH_INSERT, 0, 16⟩
def SCH_RESULT : Nat := 0x40014
def SCH_RESULT_Code : Fld := ⟨SCH_RESULT, 28, 4⟩
def SCH_RESULT_Handle : Fld := ⟨SCH_RESULT, 0, 16⟩
def SCH_STATUS : Nat := 0x40018
def SCH_STATUS_DoneOvf : Fld := ⟨SCH_STATUS, 17, 1⟩
def SCH_STATUS_Full : Fld := ⟨SCH_STATUS, 16, 1⟩
def SCH_STATUS_Count : Fld := ⟨SCH_STATUS, 0, 11⟩
def SCH_DONE : Nat := 0x4001C
def SCH_DONE_Valid : Fld := ⟨SCH_DONE, 31, 1⟩
def SCH_DONE_Status : Fld := ⟨SCH_DONE, 28, 3⟩
def SCH_DONE_Value : Fld := ⟨SCH_DONE, 16, 12⟩
def SCH_DONE_Handle : Fld := ⟨SCH_DONE, 0, 16⟩
/-! ## Lane registers -/

def LN_CFG (l : Nat) : Nat := 0x100000 + 1024 * l
def LN_CFG_Enable (l : Nat) : Fld := ⟨LN_CFG l, 31, 1⟩
def LN_CFG_EthMedia (l : Nat) : Fld := ⟨LN_CFG l, 20, 1⟩
def LN_CFG_EthPort (l : Nat) : Fld := ⟨LN_CFG l, 16, 3⟩
def LN_CFG_MaxStep (l : Nat) : Fld := ⟨LN_CFG l, 8, 3⟩
def LN_CFG_AutoSpare (l : Nat) : Fld := ⟨LN_CFG l, 5, 1⟩
def LN_CFG_LegacyOnly (l : Nat) : Fld := ⟨LN_CFG l, 4, 1⟩
def LN_CFG_Mode (l : Nat) : Fld := ⟨LN_CFG l, 0, 2⟩
def LN_STATUS (l : Nat) : Nat := 0x100004 + 1024 * l
def LN_STATUS_PeerClass (l : Nat) : Fld := ⟨LN_STATUS l, 25, 3⟩
def LN_STATUS_Native (l : Nat) : Fld := ⟨LN_STATUS l, 24, 1⟩
def LN_STATUS_Step (l : Nat) : Fld := ⟨LN_STATUS l, 20, 3⟩
def LN_STATUS_ConfigErr (l : Nat) : Fld := ⟨LN_STATUS l, 15, 1⟩
def LN_STATUS_SwapFail (l : Nat) : Fld := ⟨LN_STATUS l, 14, 1⟩
def LN_STATUS_SpareMismatch (l : Nat) : Fld := ⟨LN_STATUS l, 13, 1⟩
def LN_STATUS_Capped (l : Nat) : Fld := ⟨LN_STATUS l, 12, 1⟩
def LN_STATUS_TrainStale (l : Nat) : Fld := ⟨LN_STATUS l, 11, 1⟩
def LN_STATUS_Failing (l : Nat) : Fld := ⟨LN_STATUS l, 10, 1⟩
def LN_STATUS_Degraded (l : Nat) : Fld := ⟨LN_STATUS l, 9, 1⟩
def LN_STATUS_Lol (l : Nat) : Fld := ⟨LN_STATUS l, 8, 1⟩
def LN_STATUS_Los (l : Nat) : Fld := ⟨LN_STATUS l, 7, 1⟩
def LN_STATUS_State (l : Nat) : Fld := ⟨LN_STATUS l, 0, 3⟩
def LN_CMD (l : Nat) : Nat := 0x100008 + 1024 * l
def LN_CMD_Release (l : Nat) : Fld := ⟨LN_CMD l, 3, 1⟩
def LN_CMD_SwapNow (l : Nat) : Fld := ⟨LN_CMD l, 2, 1⟩
def LN_CMD_WarmTrain (l : Nat) : Fld := ⟨LN_CMD l, 1, 1⟩
def LN_CMD_Restart (l : Nat) : Fld := ⟨LN_CMD l, 0, 1⟩
def LN_SPARE (l : Nat) : Nat := 0x10000C + 1024 * l
def LN_SPARE_Valid (l : Nat) : Fld := ⟨LN_SPARE l, 31, 1⟩
def LN_SPARE_ActiveFor (l : Nat) : Fld := ⟨LN_SPARE l, 16, 7⟩
def LN_SPARE_Lane (l : Nat) : Fld := ⟨LN_SPARE l, 0, 7⟩
def LN_FECCFG (l : Nat) : Nat := 0x100010 + 1024 * l
def LN_FECCFG_TrendLimit (l : Nat) : Fld := ⟨LN_FECCFG l, 0, 16⟩
def LN_PEER (l : Nat) : Nat := 0x100014 + 1024 * l
def LN_PEER_SpareCap (l : Nat) : Fld := ⟨LN_PEER l, 15, 1⟩
def LN_PEER_MaxStep (l : Nat) : Fld := ⟨LN_PEER l, 12, 3⟩
def LN_PEER_PeerLane (l : Nat) : Fld := ⟨LN_PEER l, 0, 7⟩
def LN_TRAINTAG (l : Nat) : Nat := 0x10001C + 1024 * l
def LN_TRAINTAG_TempC (l : Nat) : Fld := ⟨LN_TRAINTAG l, 8, 8⟩
def LN_TRAINTAG_LoadPct (l : Nat) : Fld := ⟨LN_TRAINTAG l, 0, 7⟩
def LN_PEERTAG (l : Nat) : Nat := 0x100018 + 1024 * l
def LN_PEERTAG_Tag (l : Nat) : Fld := ⟨LN_PEERTAG l, 0, 32⟩
def LN_SKEW (l : Nat) : Nat := 0x100020 + 1024 * l
def LN_SKEW_Ps (l : Nat) : Fld := ⟨LN_SKEW l, 0, 32⟩
def LN_ETHMAC_LO (l : Nat) : Nat := 0x100040 + 1024 * l
def LN_ETHMAC_LO_MacLow (l : Nat) : Fld := ⟨LN_ETHMAC_LO l, 0, 32⟩
def LN_ETHMAC_HI (l : Nat) : Nat := 0x100044 + 1024 * l
def LN_ETHMAC_HI_MacHigh (l : Nat) : Fld := ⟨LN_ETHMAC_HI l, 0, 16⟩
def LN_ETHIP (l : Nat) : Nat := 0x100048 + 1024 * l
def LN_ETHIP_Address (l : Nat) : Fld := ⟨LN_ETHIP l, 0, 32⟩
def LN_FECCORR (l : Nat) : Nat := 0x100100 + 1024 * l
def LN_FECCORR_Count (l : Nat) : Fld := ⟨LN_FECCORR l, 0, 32⟩
def LN_FECUNC (l : Nat) : Nat := 0x100104 + 1024 * l
def LN_FECUNC_Count (l : Nat) : Fld := ⟨LN_FECUNC l, 0, 32⟩
def LN_LOSCNT (l : Nat) : Nat := 0x100108 + 1024 * l
def LN_LOSCNT_Count (l : Nat) : Fld := ⟨LN_LOSCNT l, 0, 32⟩
def LN_LOLCNT (l : Nat) : Nat := 0x10010C + 1024 * l
def LN_LOLCNT_Count (l : Nat) : Fld := ⟨LN_LOLCNT l, 0, 32⟩
def LN_BADBLK (l : Nat) : Nat := 0x100110 + 1024 * l
def LN_BADBLK_Count (l : Nat) : Fld := ⟨LN_BADBLK l, 0, 32⟩
def LN_FRERR (l : Nat) : Nat := 0x100114 + 1024 * l
def LN_FRERR_Count (l : Nat) : Fld := ⟨LN_FRERR l, 0, 32⟩
def LN_STEPFAIL (l : Nat) : Nat := 0x100118 + 1024 * l
def LN_STEPFAIL_Count (l : Nat) : Fld := ⟨LN_STEPFAIL l, 0, 32⟩
def LN_SWAPS (l : Nat) : Nat := 0x10011C + 1024 * l
def LN_SWAPS_Count (l : Nat) : Fld := ⟨LN_SWAPS l, 0, 32⟩
def LN_ETHTX (l : Nat) : Nat := 0x100120 + 1024 * l
def LN_ETHTX_Count (l : Nat) : Fld := ⟨LN_ETHTX l, 0, 32⟩
def LN_ETHRXD (l : Nat) : Nat := 0x100124 + 1024 * l
def LN_ETHRXD_Count (l : Nat) : Fld := ⟨LN_ETHRXD l, 0, 32⟩
def LN_ETHFECC (l : Nat) : Nat := 0x100128 + 1024 * l
def LN_ETHFECC_Count (l : Nat) : Fld := ⟨LN_ETHFECC l, 0, 32⟩
def LN_ETHFECU (l : Nat) : Nat := 0x10012C + 1024 * l
def LN_ETHFECU_Count (l : Nat) : Fld := ⟨LN_ETHFECU l, 0, 32⟩
/-! ## Fab registers -/

def FAB_CTRL : Nat := 0x140000
def FAB_CTRL_Enable : Fld := ⟨FAB_CTRL, 31, 1⟩
def FAB_CTRL_SeedEn : Fld := ⟨FAB_CTRL, 30, 1⟩
def FAB_CTRL_HashLax : Fld := ⟨FAB_CTRL, 29, 1⟩
def FAB_CTRL_MaxHops : Fld := ⟨FAB_CTRL, 16, 4⟩
def FAB_CTRL_NodeId : Fld := ⟨FAB_CTRL, 0, 12⟩
def FAB_STATUS : Nat := 0x140004
def FAB_STATUS_PartEpoch : Fld := ⟨FAB_STATUS, 16, 16⟩
def FAB_STATUS_QuarChg : Fld := ⟨FAB_STATUS, 6, 1⟩
def FAB_STATUS_ReachChg : Fld := ⟨FAB_STATUS, 5, 1⟩
def FAB_STATUS_RoleChg : Fld := ⟨FAB_STATUS, 4, 1⟩
def FAB_STATUS_RejoinPending : Fld := ⟨FAB_STATUS, 3, 1⟩
def FAB_STATUS_IsAnchor : Fld := ⟨FAB_STATUS, 2, 1⟩
def FAB_STATUS_Role : Fld := ⟨FAB_STATUS, 0, 2⟩
def FAB_PARTSTAT : Nat := 0x14000C
def FAB_PARTSTAT_AnchorNode : Fld := ⟨FAB_PARTSTAT, 16, 12⟩
def FAB_PARTSTAT_Reachable : Fld := ⟨FAB_PARTSTAT, 0, 13⟩
def FAB_MREQ : Nat := 0x140030
def FAB_MREQ_Go : Fld := ⟨FAB_MREQ, 31, 1⟩
def FAB_MREQ_Node : Fld := ⟨FAB_MREQ, 0, 12⟩
def FAB_MSTAT : Nat := 0x14003C
def FAB_MSTAT_Busy : Fld := ⟨FAB_MSTAT, 31, 1⟩
def FAB_MSTAT_Result : Fld := ⟨FAB_MSTAT, 0, 2⟩
def FAB_PARTCFG : Nat := 0x140008
def FAB_PARTCFG_SettleUs : Fld := ⟨FAB_PARTCFG, 0, 16⟩
def FAB_MEMBERS : Nat := 0x140010
def FAB_MEMBERS_Count : Fld := ⟨FAB_MEMBERS, 0, 13⟩
def FAB_GRID0_LO : Nat := 0x140014
def FAB_GRID0_LO_FrameLow : Fld := ⟨FAB_GRID0_LO, 0, 32⟩
def FAB_GRID0_HI : Nat := 0x140018
def FAB_GRID0_HI_FrameHigh : Fld := ⟨FAB_GRID0_HI, 0, 16⟩
def FAB_GRIDLEN : Nat := 0x14001C
def FAB_GRIDLEN_Frames : Fld := ⟨FAB_GRIDLEN, 0, 32⟩
def FAB_REJLEAD : Nat := 0x140020
def FAB_REJLEAD_Frames : Fld := ⟨FAB_REJLEAD, 0, 32⟩
def FAB_REJ_LO : Nat := 0x140024
def FAB_REJ_LO_FrameLow : Fld := ⟨FAB_REJ_LO, 0, 32⟩
def FAB_REJ_HI : Nat := 0x140028
def FAB_REJ_HI_FrameHigh : Fld := ⟨FAB_REJ_HI, 0, 16⟩
def FAB_MADDR : Nat := 0x140034
def FAB_MADDR_Address : Fld := ⟨FAB_MADDR, 0, 32⟩
def FAB_MRESP : Nat := 0x140038
def FAB_MRESP_Data : Fld := ⟨FAB_MRESP, 0, 32⟩
def FAB_TXFRM : Nat := 0x140100
def FAB_TXFRM_Count : Fld := ⟨FAB_TXFRM, 0, 32⟩
def FAB_RXFRM : Nat := 0x140104
def FAB_RXFRM_Count : Fld := ⟨FAB_RXFRM, 0, 32⟩
def FAB_FWDFRM : Nat := 0x140108
def FAB_FWDFRM_Count : Fld := ⟨FAB_FWDFRM, 0, 32⟩
def FAB_HDRERR : Nat := 0x14010C
def FAB_HDRERR_Count : Fld := ⟨FAB_HDRERR, 0, 32⟩
def FAB_CREDERR : Nat := 0x140110
def FAB_CREDERR_Count : Fld := ⟨FAB_CREDERR, 0, 32⟩
def FAB_NOROUTE : Nat := 0x140114
def FAB_NOROUTE_Count : Fld := ⟨FAB_NOROUTE, 0, 32⟩
def FAB_UPDOWN : Nat := 0x140118
def FAB_UPDOWN_Count : Fld := ⟨FAB_UPDOWN, 0, 32⟩
def FAB_HOPS : Nat := 0x14011C
def FAB_HOPS_Count : Fld := ⟨FAB_HOPS, 0, 32⟩
def FAB_LINKLOSS : Nat := 0x140120
def FAB_LINKLOSS_Count : Fld := ⟨FAB_LINKLOSS, 0, 32⟩
def FAB_REROUTE : Nat := 0x140124
def FAB_REROUTE_Count : Fld := ⟨FAB_REROUTE, 0, 32⟩
def FAB_QUAR : Nat := 0x140128
def FAB_QUAR_Count : Fld := ⟨FAB_QUAR, 0, 32⟩
def FAB_REJLATE : Nat := 0x14012C
def FAB_REJLATE_Count : Fld := ⟨FAB_REJLATE, 0, 32⟩
def FAB_SEEDFR : Nat := 0x140130
def FAB_SEEDFR_Count : Fld := ⟨FAB_SEEDFR, 0, 32⟩
def FAB_LCFG (l : Nat) : Nat := 0x140400 + 8 * l
def FAB_LCFG_ExpectValid (l : Nat) : Fld := ⟨FAB_LCFG l, 31, 1⟩
def FAB_LCFG_Dir (l : Nat) : Fld := ⟨FAB_LCFG l, 30, 1⟩
def FAB_LCFG_LaneCheck (l : Nat) : Fld := ⟨FAB_LCFG l, 29, 1⟩
def FAB_LCFG_ExpectLane (l : Nat) : Fld := ⟨FAB_LCFG l, 16, 7⟩
def FAB_LCFG_ExpectNode (l : Nat) : Fld := ⟨FAB_LCFG l, 0, 12⟩
def FAB_LSTAT (l : Nat) : Nat := 0x140404 + 8 * l
def FAB_LSTAT_State (l : Nat) : Fld := ⟨FAB_LSTAT l, 29, 3⟩
def FAB_LSTAT_Cause (l : Nat) : Fld := ⟨FAB_LSTAT l, 20, 4⟩
def FAB_LSTAT_PeerNode (l : Nat) : Fld := ⟨FAB_LSTAT l, 0, 12⟩
def FAB_LSET (s m : Nat) : Nat := 0x140800 + 16 * s + 4 * m
def FAB_LSET_Lanes (s m : Nat) : Fld := ⟨FAB_LSET s m, 0, 32⟩
def FAB_MEMBER (w : Nat) : Nat := 0x141000 + 4 * w
def FAB_MEMBER_Members (w : Nat) : Fld := ⟨FAB_MEMBER w, 0, 32⟩
def FAB_REACH (w : Nat) : Nat := 0x141200 + 4 * w
def FAB_REACH_Reach (w : Nat) : Fld := ⟨FAB_REACH w, 0, 32⟩
def FAB_NH (d : Nat) : Nat := 0x144000 + 4 * d
def FAB_NH_Valid (d : Nat) : Fld := ⟨FAB_NH d, 31, 1⟩
def FAB_NH_AltValid (d : Nat) : Fld := ⟨FAB_NH d, 30, 1⟩
def FAB_NH_AltSet (d : Nat) : Fld := ⟨FAB_NH d, 8, 6⟩
def FAB_NH_PrimarySet (d : Nat) : Fld := ⟨FAB_NH d, 0, 6⟩
/-! ## Dmc registers -/

def DMC_CTRL : Nat := 0xA00000
def DMC_CTRL_TGenRun : Fld := ⟨DMC_CTRL, 4, 1⟩
def DMC_CTRL_WarmTrain : Fld := ⟨DMC_CTRL, 2, 1⟩
def DMC_CTRL_AutoRetire : Fld := ⟨DMC_CTRL, 1, 1⟩
def DMC_CTRL_Enable : Fld := ⟨DMC_CTRL, 0, 1⟩
def DMC_STATUS : Nat := 0xA00004
def DMC_STATUS_ReserveLeft : Fld := ⟨DMC_STATUS, 16, 5⟩
def DMC_STATUS_DmwPar : Fld := ⟨DMC_STATUS, 6, 1⟩
def DMC_STATUS_ReserveEmpty : Fld := ⟨DMC_STATUS, 5, 1⟩
def DMC_STATUS_RetireDone : Fld := ⟨DMC_STATUS, 4, 1⟩
def DMC_STATUS_TrainFail : Fld := ⟨DMC_STATUS, 3, 1⟩
def DMC_STATUS_WarmBusy : Fld := ⟨DMC_STATUS, 2, 1⟩
def DMC_STATUS_TrainStale : Fld := ⟨DMC_STATUS, 1, 1⟩
def DMC_STATUS_Ready : Fld := ⟨DMC_STATUS, 0, 1⟩
def DMC_CFG : Nat := 0xA00008
def DMC_CFG_PostponeDepth : Fld := ⟨DMC_CFG, 16, 8⟩
def DMC_CFG_RetireLimit : Fld := ⟨DMC_CFG, 8, 8⟩
def DMC_CFG_Reserve : Fld := ⟨DMC_CFG, 0, 5⟩
def DMC_TIMING : Nat := 0xA0000C
def DMC_TIMING_StepNs : Fld := ⟨DMC_TIMING, 8, 8⟩
def DMC_TIMING_Trfc : Fld := ⟨DMC_TIMING, 0, 8⟩
def DMC_RETIRE : Nat := 0xA00010
def DMC_RETIRE_Go : Fld := ⟨DMC_RETIRE, 31, 1⟩
def DMC_RETIRE_Sudden : Fld := ⟨DMC_RETIRE, 30, 1⟩
def DMC_RETIRE_Pc : Fld := ⟨DMC_RETIRE, 0, 8⟩
def DMC_TGEN : Nat := 0xA00014
def DMC_TGEN_LoadPct : Fld := ⟨DMC_TGEN, 0, 7⟩
def DMC_DMWBASE : Nat := 0xA00018
def DMC_DMWBASE_Base : Fld := ⟨DMC_DMWBASE, 0, 10⟩
def DMC_STACK (n : Nat) : Nat := 0xA00100 + 4 * n
def DMC_STACK_Hot (n : Nat) : Fld := ⟨DMC_STACK n, 8, 1⟩
def DMC_STACK_TempC (n : Nat) : Fld := ⟨DMC_STACK n, 0, 8⟩
def DMC_PCMAP (s : Nat) : Nat := 0xA00200 + 4 * s
def DMC_PCMAP_Valid (s : Nat) : Fld := ⟨DMC_PCMAP s, 31, 1⟩
def DMC_PCMAP_Pc (s : Nat) : Fld := ⟨DMC_PCMAP s, 0, 8⟩
def DMC_PCSTAT (p : Nat) : Nat := 0xA00600 + 4 * p
def DMC_PCSTAT_State (p : Nat) : Fld := ⟨DMC_PCSTAT p, 29, 3⟩
def DMC_PCSTAT_TrainStale (p : Nat) : Fld := ⟨DMC_PCSTAT p, 28, 1⟩
def DMC_PCSTAT_Owed (p : Nat) : Fld := ⟨DMC_PCSTAT p, 24, 4⟩
def DMC_PCSTAT_TagTempC (p : Nat) : Fld := ⟨DMC_PCSTAT p, 8, 8⟩
def DMC_PCSTAT_TagLoadPct (p : Nat) : Fld := ⟨DMC_PCSTAT p, 0, 7⟩
def DMC_PAR (pc : Nat) : Nat := 0xA01000 + 32 * pc
def DMC_PAR_Count (pc : Nat) : Fld := ⟨DMC_PAR pc, 0, 32⟩
def DMC_SEV (pc : Nat) : Nat := 0xA01004 + 32 * pc
def DMC_SEV_Count (pc : Nat) : Fld := ⟨DMC_SEV pc, 0, 32⟩
def DMC_FWD (pc : Nat) : Nat := 0xA01008 + 32 * pc
def DMC_FWD_Count (pc : Nat) : Fld := ⟨DMC_FWD pc, 0, 32⟩
def DMC_RAWSTALL (pc : Nat) : Nat := 0xA0100C + 32 * pc
def DMC_RAWSTALL_Count (pc : Nat) : Fld := ⟨DMC_RAWSTALL pc, 0, 32⟩
def DMC_REFCNT (pc : Nat) : Nat := 0xA01010 + 32 * pc
def DMC_REFCNT_Count (pc : Nat) : Fld := ⟨DMC_REFCNT pc, 0, 32⟩
def DMC_URGENT (pc : Nat) : Nat := 0xA01014 + 32 * pc
def DMC_URGENT_Count (pc : Nat) : Fld := ⟨DMC_URGENT pc, 0, 32⟩
def DMC_RETRAIN (pc : Nat) : Nat := 0xA01018 + 32 * pc
def DMC_RETRAIN_Count (pc : Nat) : Fld := ⟨DMC_RETRAIN pc, 0, 32⟩
def DMC_OOR (pc : Nat) : Nat := 0xA0101C + 32 * pc
def DMC_OOR_Count (pc : Nat) : Fld := ⟨DMC_OOR pc, 0, 32⟩
/-! ## Mtx registers -/

def MTX_CTRL : Nat := 0xB00000
def MTX_CTRL_QTimeoutUs : Fld := ⟨MTX_CTRL, 0, 16⟩
def MTX_STATUS : Nat := 0xB00004
def MTX_STATUS_XOverrun : Fld := ⟨MTX_STATUS, 3, 1⟩
def MTX_STATUS_XLost : Fld := ⟨MTX_STATUS, 2, 1⟩
def MTX_STATUS_DecodeErr : Fld := ⟨MTX_STATUS, 1, 1⟩
def MTX_STATUS_Quiescing : Fld := ⟨MTX_STATUS, 0, 1⟩
def MTX_DECLO : Nat := 0xB00008
def MTX_DECLO_AddrLow : Fld := ⟨MTX_DECLO, 0, 32⟩
def MTX_DECHI : Nat := 0xB0000C
def MTX_DECHI_Initiator : Fld := ⟨MTX_DECHI, 16, 5⟩
def MTX_DECHI_AddrHigh : Fld := ⟨MTX_DECHI, 0, 8⟩
def MTX_PSTAT (i : Nat) : Nat := 0xB00100 + 4 * i
def MTX_PSTAT_State (i : Nat) : Fld := ⟨MTX_PSTAT i, 30, 2⟩
def MTX_PSTAT_Outstanding (i : Nat) : Fld := ⟨MTX_PSTAT i, 16, 8⟩
def MTX_PSTAT_Fenced (i : Nat) : Fld := ⟨MTX_PSTAT i, 0, 6⟩
def MTX_XSTAT (k : Nat) : Nat := 0xB00800 + 8 * k
def MTX_XSTAT_Overrun (k : Nat) : Fld := ⟨MTX_XSTAT k, 31, 1⟩
def MTX_XSTAT_Lost (k : Nat) : Fld := ⟨MTX_XSTAT k, 30, 1⟩
def MTX_XSTAT_FirstInstance (k : Nat) : Fld := ⟨MTX_XSTAT k, 0, 16⟩
def MTX_PARITY : Nat := 0xB00010
def MTX_PARITY_Count : Fld := ⟨MTX_PARITY, 0, 32⟩
def MTX_OSTALL (i : Nat) : Nat := 0xB00200 + 16 * i
def MTX_OSTALL_Count (i : Nat) : Fld := ⟨MTX_OSTALL i, 0, 32⟩
def MTX_ORDHOLD (i : Nat) : Nat := 0xB00204 + 16 * i
def MTX_ORDHOLD_Count (i : Nat) : Fld := ⟨MTX_ORDHOLD i, 0, 32⟩
def MTX_CREDHOLD (i : Nat) : Nat := 0xB00208 + 16 * i
def MTX_CREDHOLD_Count (i : Nat) : Fld := ⟨MTX_CREDHOLD i, 0, 32⟩
def MTX_DECERR (i : Nat) : Nat := 0xB0020C + 16 * i
def MTX_DECERR_Count (i : Nat) : Fld := ⟨MTX_DECERR i, 0, 32⟩
def MTX_XDISC (k : Nat) : Nat := 0xB00804 + 8 * k
def MTX_XDISC_Count (k : Nat) : Fld := ⟨MTX_XDISC k, 0, 32⟩
/-! ## Glb registers -/

def GLB_STATUS : Nat := 0x4
def GLB_STATUS_Alert : Fld := ⟨GLB_STATUS, 4, 1⟩
def GLB_STATUS_HjEnabled : Fld := ⟨GLB_STATUS, 3, 1⟩
def GLB_STATUS_IbiEnabled : Fld := ⟨GLB_STATUS, 2, 1⟩
def GLB_STATUS_HdrActive : Fld := ⟨GLB_STATUS, 1, 1⟩
def GLB_STATUS_DaValid : Fld := ⟨GLB_STATUS, 0, 1⟩
def GLB_STRAP : Nat := 0x8
def GLB_STRAP_BootSrc : Fld := ⟨GLB_STRAP, 3, 2⟩
def GLB_STRAP_AddrSel : Fld := ⟨GLB_STRAP, 0, 3⟩
def GLB_SERIAL_LO : Nat := 0x10
def GLB_SERIAL_LO_SerialLow : Fld := ⟨GLB_SERIAL_LO, 0, 32⟩
def GLB_SERIAL_HI : Nat := 0x14
def GLB_SERIAL_HI_SerialHigh : Fld := ⟨GLB_SERIAL_HI, 0, 32⟩
def GLB_I3C : Nat := 0x18
def GLB_I3C_StaticAddr : Fld := ⟨GLB_I3C, 16, 7⟩
def GLB_I3C_DynAddr : Fld := ⟨GLB_I3C, 0, 7⟩
def GLB_LEN : Nat := 0x1C
def GLB_LEN_Mrl : Fld := ⟨GLB_LEN, 16, 16⟩
def GLB_LEN_Mwl : Fld := ⟨GLB_LEN, 0, 16⟩
def GLB_BUSSTAT : Nat := 0x20
def GLB_BUSSTAT_CccUnsupp : Fld := ⟨GLB_BUSSTAT, 5, 1⟩
def GLB_BUSSTAT_ReadShort : Fld := ⟨GLB_BUSSTAT, 4, 1⟩
def GLB_BUSSTAT_WriteLong : Fld := ⟨GLB_BUSSTAT, 3, 1⟩
def GLB_BUSSTAT_PartialWrite : Fld := ⟨GLB_BUSSTAT, 2, 1⟩
def GLB_BUSSTAT_CrcErr : Fld := ⟨GLB_BUSSTAT, 1, 1⟩
def GLB_BUSSTAT_ParityErr : Fld := ⟨GLB_BUSSTAT, 0, 1⟩
def GLB_INTPEND : Nat := 0x24
def GLB_INTPEND_Pending : Fld := ⟨GLB_INTPEND, 0, 16⟩
def GLB_INTEN : Nat := 0x28
def GLB_INTEN_Enable : Fld := ⟨GLB_INTEN, 0, 16⟩
def GLB_INTTOP : Nat := 0x2C
def GLB_INTTOP_Code : Fld := ⟨GLB_INTTOP, 0, 8⟩
def GLB_URESET : Nat := 0x30
def GLB_URESET_Pip : Fld := ⟨GLB_URESET, 22, 1⟩
def GLB_URESET_FabCtl : Fld := ⟨GLB_URESET, 21, 1⟩
def GLB_URESET_ProgLoad : Fld := ⟨GLB_URESET, 20, 1⟩
def GLB_URESET_Egress : Fld := ⟨GLB_URESET, 19, 1⟩
def GLB_URESET_Husk : Fld := ⟨GLB_URESET, 18, 1⟩
def GLB_URESET_OpLoad : Fld := ⟨GLB_URESET, 17, 1⟩
def GLB_URESET_HullWr : Fld := ⟨GLB_URESET, 16, 1⟩
def GLB_URESET_Fch : Fld := ⟨GLB_URESET, 0, 16⟩
def GLB_URSTAT : Nat := 0x34
def GLB_URSTAT_InReset : Fld := ⟨GLB_URSTAT, 0, 23⟩
def GLB_CTXFAULT : Nat := 0x38
def GLB_CTXFAULT_Valid : Fld := ⟨GLB_CTXFAULT, 31, 1⟩
def GLB_CTXFAULT_Context : Fld := ⟨GLB_CTXFAULT, 0, 12⟩
def GLB_LANESUM (m : Nat) : Nat := 0x40 + 4 * m
def GLB_LANESUM_Lanes (m : Nat) : Fld := ⟨GLB_LANESUM m, 0, 32⟩
def GLB_SCRATCH : Nat := 0x50
def GLB_SCRATCH_Value : Fld := ⟨GLB_SCRATCH, 0, 32⟩
def GLB_IBICNT : Nat := 0x100
def GLB_IBICNT_Count : Fld := ⟨GLB_IBICNT, 0, 32⟩
def GLB_RDSHORT : Nat := 0x104
def GLB_RDSHORT_Count : Fld := ⟨GLB_RDSHORT, 0, 32⟩
def GLB_BUSERR : Nat := 0x108
def GLB_BUSERR_Count : Fld := ⟨GLB_BUSERR, 0, 32⟩
def GLB_WRNACK : Nat := 0x10C
def GLB_WRNACK_Count : Fld := ⟨GLB_WRNACK, 0, 32⟩
/-! ## Img registers -/

def IMG_CMD : Nat := 0xE00000
def IMG_CMD_Op : Fld := ⟨IMG_CMD, 28, 4⟩
def IMG_CMD_Restart : Fld := ⟨IMG_CMD, 27, 1⟩
def IMG_CMD_FromRom : Fld := ⟨IMG_CMD, 26, 1⟩
def IMG_CMD_SectionMask : Fld := ⟨IMG_CMD, 0, 10⟩
def IMG_STATUS : Nat := 0xE00004
def IMG_STATUS_State : Fld := ⟨IMG_STATUS, 28, 4⟩
def IMG_STATUS_Section : Fld := ⟨IMG_STATUS, 24, 4⟩
def IMG_STATUS_Code : Fld := ⟨IMG_STATUS, 16, 8⟩
def IMG_STATUS_Slot : Fld := ⟨IMG_STATUS, 5, 1⟩
def IMG_STATUS_Mixed : Fld := ⟨IMG_STATUS, 4, 1⟩
def IMG_STATUS_SproutActive : Fld := ⟨IMG_STATUS, 3, 1⟩
def IMG_STATUS_StrapBad : Fld := ⟨IMG_STATUS, 2, 1⟩
def IMG_STATUS_Signed : Fld := ⟨IMG_STATUS, 1, 1⟩
def IMG_NODE : Nat := 0xE0001C
def IMG_NODE_Valid : Fld := ⟨IMG_NODE, 31, 1⟩
def IMG_NODE_NodeId : Fld := ⟨IMG_NODE, 0, 12⟩
def IMG_FUSE : Nat := 0xE00028
def IMG_FUSE_Require : Fld := ⟨IMG_FUSE, 31, 1⟩
def IMG_FUSE_KeyUsed : Fld := ⟨IMG_FUSE, 16, 2⟩
def IMG_FUSE_KeyRevoked : Fld := ⟨IMG_FUSE, 8, 4⟩
def IMG_FUSE_KeyValid : Fld := ⟨IMG_FUSE, 0, 4⟩
def IMG_SPGEN : Nat := 0xE00040
def IMG_SPGEN_Pattern : Fld := ⟨IMG_SPGEN, 30, 2⟩
def IMG_SPGEN_ComAmp : Fld := ⟨IMG_SPGEN, 25, 5⟩
def IMG_SPGEN_OwnAmp : Fld := ⟨IMG_SPGEN, 20, 5⟩
def IMG_SPGEN_RateLog2 : Fld := ⟨IMG_SPGEN, 17, 3⟩
def IMG_SPGEN_InvEvery : Fld := ⟨IMG_SPGEN, 0, 16⟩
def IMG_SPRESULT : Nat := 0xE00050
def IMG_SPRESULT_Done : Fld := ⟨IMG_SPRESULT, 31, 1⟩
def IMG_SPRESULT_Pass : Fld := ⟨IMG_SPRESULT, 30, 1⟩
def IMG_SPRESULT_StageFail : Fld := ⟨IMG_SPRESULT, 0, 6⟩
def IMG_RXCOUNT : Nat := 0xE00008
def IMG_RXCOUNT_Bytes : Fld := ⟨IMG_RXCOUNT, 0, 32⟩
def IMG_ERROFF : Nat := 0xE0000C
def IMG_ERROFF_Offset : Fld := ⟨IMG_ERROFF, 0, 32⟩
def IMG_HASH_LO : Nat := 0xE00010
def IMG_HASH_LO_HashLow : Fld := ⟨IMG_HASH_LO, 0, 32⟩
def IMG_HASH_HI : Nat := 0xE00014
def IMG_HASH_HI_HashHigh : Fld := ⟨IMG_HASH_HI, 0, 32⟩
def IMG_BUILD : Nat := 0xE00018
def IMG_BUILD_Build : Fld := ⟨IMG_BUILD, 0, 32⟩
def IMG_RCFG : Nat := 0xE00020
def IMG_RCFG_StopTimeoutMs : Fld := ⟨IMG_RCFG, 0, 16⟩
def IMG_TOUCHED : Nat := 0xE00024
def IMG_TOUCHED_Contexts : Fld := ⟨IMG_TOUCHED, 16, 16⟩
def IMG_TOUCHED_Units : Fld := ⟨IMG_TOUCHED, 0, 16⟩
def IMG_SPSEED : Nat := 0xE00044
def IMG_SPSEED_Seed : Fld := ⟨IMG_SPSEED, 0, 32⟩
def IMG_SCRUBFIX : Nat := 0xE00100
def IMG_SCRUBFIX_Count : Fld := ⟨IMG_SCRUBFIX, 0, 32⟩
def IMG_SCRUBRUN : Nat := 0xE00104
def IMG_SCRUBRUN_Count : Fld := ⟨IMG_SCRUBRUN, 0, 32⟩
def IMG_LOADS : Nat := 0xE00108
def IMG_LOADS_Count : Fld := ⟨IMG_LOADS, 0, 32⟩
def IMG_WIN (w : Nat) : Nat := 0xE01000 + 4 * w
def IMG_WIN_Data (w : Nat) : Fld := ⟨IMG_WIN w, 0, 32⟩
/-! ## Erl registers -/

def ERL_STATUS : Nat := 0xD00000
def ERL_STATUS_PendingAdded : Fld := ⟨ERL_STATUS, 5, 1⟩
def ERL_STATUS_SpanMerge : Fld := ⟨ERL_STATUS, 4, 1⟩
def ERL_STATUS_Clipped : Fld := ⟨ERL_STATUS, 3, 1⟩
def ERL_STATUS_GoldenEcc : Fld := ⟨ERL_STATUS, 2, 1⟩
def ERL_STATUS_Wrapped : Fld := ⟨ERL_STATUS, 1, 1⟩
def ERL_STATUS_NotEmpty : Fld := ⟨ERL_STATUS, 0, 1⟩
def ERL_LPSCFG : Nat := 0xD00004
def ERL_LPSCFG_GraceSec : Fld := ⟨ERL_LPSCFG, 0, 16⟩
def ERL_CMD : Nat := 0xD00008
def ERL_CMD_ClearFab : Fld := ⟨ERL_CMD, 1, 1⟩
def ERL_CMD_ClearLps : Fld := ⟨ERL_CMD, 0, 1⟩
def ERL_COUNT : Nat := 0xD0000C
def ERL_COUNT_NextSlot : Fld := ⟨ERL_COUNT, 16, 8⟩
def ERL_COUNT_Unread : Fld := ⟨ERL_COUNT, 0, 9⟩
def ERL_E0 : Nat := 0xD00010
def ERL_E0_Word : Fld := ⟨ERL_E0, 0, 32⟩
def ERL_E1 : Nat := 0xD00014
def ERL_E1_Word : Fld := ⟨ERL_E1, 0, 32⟩
def ERL_E2 : Nat := 0xD00018
def ERL_E2_Word : Fld := ⟨ERL_E2, 0, 32⟩
def ERL_E3 : Nat := 0xD0001C
def ERL_E3_Word : Fld := ⟨ERL_E3, 0, 32⟩
def ERL_LPS_FR : Nat := 0xD00100
def ERL_LPS_FR_Frac : Fld := ⟨ERL_LPS_FR, 0, 16⟩
def ERL_LPS_SEC : Nat := 0xD00104
def ERL_LPS_SEC_Sec : Fld := ⟨ERL_LPS_SEC, 0, 32⟩
def ERL_LPSCAUSE_FR (c : Nat) : Nat := 0xD00108 + 8 * c
def ERL_LPSCAUSE_FR_Frac (c : Nat) : Fld := ⟨ERL_LPSCAUSE_FR c, 0, 16⟩
def ERL_LPSCAUSE_SEC (c : Nat) : Nat := 0xD0010C + 8 * c
def ERL_LPSCAUSE_SEC_Sec (c : Nat) : Fld := ⟨ERL_LPSCAUSE_SEC c, 0, 32⟩
def ERL_FABLPS_FR : Nat := 0xD00148
def ERL_FABLPS_FR_Frac : Fld := ⟨ERL_FABLPS_FR, 0, 16⟩
def ERL_FABLPS_SEC : Nat := 0xD0014C
def ERL_FABLPS_SEC_Sec : Fld := ⟨ERL_FABLPS_SEC, 0, 32⟩
def ERL_LPSPEND : Nat := 0xD00150
def ERL_LPSPEND_Units : Fld := ⟨ERL_LPSPEND, 0, 32⟩
def ERL_PARCNT (s : Nat) : Nat := 0xD00200 + 4 * s
def ERL_PARCNT_Count (s : Nat) : Fld := ⟨ERL_PARCNT s, 0, 32⟩
def ERL_ECCCORR : Nat := 0xD00240
def ERL_ECCCORR_Count : Fld := ⟨ERL_ECCCORR, 0, 32⟩
def ERL_ECCUNC : Nat := 0xD00244
def ERL_ECCUNC_Count : Fld := ⟨ERL_ECCUNC, 0, 32⟩
def ERL_LOST : Nat := 0xD00248
def ERL_LOST_Count : Fld := ⟨ERL_LOST, 0, 32⟩
def ERL_LPSCLIP : Nat := 0xD0024C
def ERL_LPSCLIP_Count : Fld := ⟨ERL_LPSCLIP, 0, 32⟩
def ERL_RING (n w : Nat) : Nat := 0xD01000 + 16 * n + 4 * w
def ERL_RING_Word (n w : Nat) : Fld := ⟨ERL_RING n w, 0, 32⟩
/-! ## Pwr registers -/

def PWR_CMD : Nat := 0x10000
def PWR_CMD_Target : Fld := ⟨PWR_CMD, 0, 3⟩
def PWR_STATUS : Nat := 0x10004
def PWR_STATUS_LastCode : Fld := ⟨PWR_STATUS, 24, 8⟩
def PWR_STATUS_Tripped : Fld := ⟨PWR_STATUS, 12, 1⟩
def PWR_STATUS_OverMax : Fld := ⟨PWR_STATUS, 11, 1⟩
def PWR_STATUS_ThermWarn : Fld := ⟨PWR_STATUS, 10, 1⟩
def PWR_STATUS_SlowExit : Fld := ⟨PWR_STATUS, 9, 1⟩
def PWR_STATUS_LanesPending : Fld := ⟨PWR_STATUS, 8, 1⟩
def PWR_STATUS_Busy : Fld := ⟨PWR_STATUS, 7, 1⟩
def PWR_STATUS_Target : Fld := ⟨PWR_STATUS, 4, 3⟩
def PWR_STATUS_State : Fld := ⟨PWR_STATUS, 0, 3⟩
def PWR_CFG : Nat := 0x10008
def PWR_CFG_DrainTimeoutMs : Fld := ⟨PWR_CFG, 0, 16⟩
def PWR_TEMP : Nat := 0x1000C
def PWR_TEMP_Sensor : Fld := ⟨PWR_TEMP, 24, 4⟩
def PWR_TEMP_PeakC : Fld := ⟨PWR_TEMP, 16, 8⟩
def PWR_TEMP_JunctionC : Fld := ⟨PWR_TEMP, 0, 8⟩
def PWR_TTIME : Nat := 0x10010
def PWR_TTIME_Us : Fld := ⟨PWR_TTIME, 0, 32⟩
def PWR_TRANS : Nat := 0x10100
def PWR_TRANS_Count : Fld := ⟨PWR_TRANS, 0, 32⟩
def PWR_WARNCNT : Nat := 0x10104
def PWR_WARNCNT_Count : Fld := ⟨PWR_WARNCNT, 0, 32⟩
/-! ## Pmc registers -/

def PMC_CMD : Nat := 0xC00000
def PMC_CMD_Thaw : Fld := ⟨PMC_CMD, 2, 1⟩
def PMC_CMD_Freeze : Fld := ⟨PMC_CMD, 1, 1⟩
def PMC_CMD_Snap : Fld := ⟨PMC_CMD, 0, 1⟩
def PMC_STATUS : Nat := 0xC00004
def PMC_STATUS_PipStopped : Fld := ⟨PMC_STATUS, 2, 1⟩
def PMC_STATUS_PipFull : Fld := ⟨PMC_STATUS, 1, 1⟩
def PMC_STATUS_Held : Fld := ⟨PMC_STATUS, 0, 1⟩
def PMC_PERMIT : Nat := 0xC00008
def PMC_PERMIT_PodShadow : Fld := ⟨PMC_PERMIT, 3, 1⟩
def PMC_PERMIT_ShadowOnly : Fld := ⟨PMC_PERMIT, 2, 1⟩
def PMC_PERMIT_FabricRead : Fld := ⟨PMC_PERMIT, 1, 1⟩
def PMC_PERMIT_PodRead : Fld := ⟨PMC_PERMIT, 0, 1⟩
def PMC_PIPCFG : Nat := 0xC0000C
def PMC_PIPCFG_Mode : Fld := ⟨PMC_PIPCFG, 28, 2⟩
def PMC_PIPCFG_StopFull : Fld := ⟨PMC_PIPCFG, 24, 1⟩
def PMC_PIPCFG_Period : Fld := ⟨PMC_PIPCFG, 0, 16⟩
def PMC_PIPTRIG : Nat := 0xC00010
def PMC_PIPTRIG_Threshold : Fld := ⟨PMC_PIPTRIG, 16, 11⟩
def PMC_PIPTRIG_Event : Fld := ⟨PMC_PIPTRIG, 0, 9⟩
def PMC_PIPCOUNT : Nat := 0xC00028
def PMC_PIPCOUNT_NextSlot : Fld := ⟨PMC_PIPCOUNT, 16, 10⟩
def PMC_PIPCOUNT_Unread : Fld := ⟨PMC_PIPCOUNT, 0, 11⟩
def PMC_PIPMASK_LO : Nat := 0xC00014
def PMC_PIPMASK_LO_Pods : Fld := ⟨PMC_PIPMASK_LO, 0, 32⟩
def PMC_PIPMASK_HI : Nat := 0xC00018
def PMC_PIPMASK_HI_Pods : Fld := ⟨PMC_PIPMASK_HI, 0, 32⟩
def PMC_SNAPTIME_FR : Nat := 0xC0001C
def PMC_SNAPTIME_FR_Frac : Fld := ⟨PMC_SNAPTIME_FR, 0, 32⟩
def PMC_SNAPTIME_SL : Nat := 0xC00020
def PMC_SNAPTIME_SL_SecLow : Fld := ⟨PMC_SNAPTIME_SL, 0, 32⟩
def PMC_SNAPTIME_SH : Nat := 0xC00024
def PMC_SNAPTIME_SH_SecHigh : Fld := ⟨PMC_SNAPTIME_SH, 0, 16⟩
def PMC_PIP0 : Nat := 0xC00030
def PMC_PIP0_Word : Fld := ⟨PMC_PIP0, 0, 32⟩
def PMC_PIPW (w : Nat) : Nat := 0xC00034 + 4 * w
def PMC_PIPW_Word (w : Nat) : Fld := ⟨PMC_PIPW w, 0, 32⟩
def PMC_PIPMERGE : Nat := 0xC00100
def PMC_PIPMERGE_Count : Fld := ⟨PMC_PIPMERGE, 0, 32⟩
def PMC_LIVE_LO (n : Nat) : Nat := 0xC01000 + 8 * n
def PMC_LIVE_LO_CountLow (n : Nat) : Fld := ⟨PMC_LIVE_LO n, 0, 32⟩
def PMC_LIVE_HI (n : Nat) : Nat := 0xC01004 + 8 * n
def PMC_LIVE_HI_CountHigh (n : Nat) : Fld := ⟨PMC_LIVE_HI n, 0, 16⟩
def PMC_SHADOW_LO (n : Nat) : Nat := 0xC02000 + 8 * n
def PMC_SHADOW_LO_CountLow (n : Nat) : Fld := ⟨PMC_SHADOW_LO n, 0, 32⟩
def PMC_SHADOW_HI (n : Nat) : Nat := 0xC02004 + 8 * n
def PMC_SHADOW_HI_CountHigh (n : Nat) : Fld := ⟨PMC_SHADOW_HI n, 0, 16⟩
def PMC_PIPRING (r w : Nat) : Nat := 0xC04000 + 16 * r + 4 * w
def PMC_PIPRING_Word (r w : Nat) : Fld := ⟨PMC_PIPRING r w, 0, 32⟩
/-! ## Ctx registers -/

def PATHSTORE (w : Nat) : Nat := 0x980000 + 4 * w
def PATHSTORE_PathOdd (w : Nat) : Fld := ⟨PATHSTORE w, 16, 12⟩
def PATHSTORE_PathEven (w : Nat) : Fld := ⟨PATHSTORE w, 0, 12⟩

end Sys2Proof.Machine
end

