-- ==== Sys2Proof/Machine/RegTable.lean ====
section
/-! DEFINITION. The access code of every register field (R13), the owning unit of its RWL fields (R15) and the
non-zero reset values (R18), as one table searched by byte address. An address in no row reads 0 and ignores
writes (R12). -/

namespace Sys2Proof.Machine

/-- Access codes of R13. -/
inductive Access where
  | rw | ro | w1c | wo | rwl
  deriving DecidableEq, Repr

/-- The unit whose stopping unlocks an RWL field (R15); the indices found with the row say which one. -/
inductive Owner where
  | none | slot | engine | stream | hull | pod | husk | ctx | dest | lane | fab | dmc
  deriving DecidableEq, Repr

/-- A field inside a row: lowest bit, width, access code. -/
structure FieldSpec where
  lo : Nat
  width : Nat
  acc : Access
  deriving DecidableEq, Repr

/-- One register of the tables: its address with every index 0, one (stride, count) per index, the owner of its
RWL fields, and its fields. -/
structure RegRow where
  name : String
  base : Nat
  dims : List (Nat × Nat)
  owner : Owner
  fields : List FieldSpec
  deriving DecidableEq, Repr

def regRowsGlb0 : List RegRow :=
  [⟨"GLB_ID", 0x0, [], .none, [⟨16, 16, .ro⟩, ⟨8, 8, .ro⟩, ⟨0, 8, .ro⟩]⟩,
   ⟨"GLB_STATUS", 0x4, [], .none, [⟨4, 1, .ro⟩, ⟨3, 1, .ro⟩, ⟨2, 1, .ro⟩, ⟨1, 1, .ro⟩, ⟨0, 1, .ro⟩]⟩,
   ⟨"GLB_STRAP", 0x8, [], .none, [⟨3, 2, .ro⟩, ⟨0, 3, .ro⟩]⟩,
   ⟨"GLB_SERIAL_LO", 0x10, [], .none, [⟨0, 32, .ro⟩]⟩,
   ⟨"GLB_SERIAL_HI", 0x14, [], .none, [⟨0, 32, .ro⟩]⟩,
   ⟨"GLB_I3C", 0x18, [], .none, [⟨16, 7, .ro⟩, ⟨0, 7, .ro⟩]⟩,
   ⟨"GLB_LEN", 0x1C, [], .none, [⟨16, 16, .ro⟩, ⟨0, 16, .ro⟩]⟩,
   ⟨"GLB_BUSSTAT", 0x20, [], .none, [⟨5, 1, .w1c⟩, ⟨4, 1, .w1c⟩, ⟨3, 1, .w1c⟩, ⟨2, 1, .w1c⟩, ⟨1, 1, .w1c⟩, ⟨0, 1, .w1c⟩]⟩,
   ⟨"GLB_INTPEND", 0x24, [], .none, [⟨0, 16, .w1c⟩]⟩,
   ⟨"GLB_INTEN", 0x28, [], .none, [⟨0, 16, .rw⟩]⟩,
   ⟨"GLB_INTTOP", 0x2C, [], .none, [⟨0, 8, .ro⟩]⟩,
   ⟨"GLB_URESET", 0x30, [], .none, [⟨22, 1, .rw⟩, ⟨21, 1, .rw⟩, ⟨20, 1, .rw⟩, ⟨19, 1, .rw⟩, ⟨18, 1, .rw⟩, ⟨17, 1, .rw⟩, ⟨16, 1, .rw⟩, ⟨0, 16, .rw⟩]⟩,
   ⟨"GLB_URSTAT", 0x34, [], .none, [⟨0, 23, .ro⟩]⟩,
   ⟨"GLB_CTXFAULT", 0x38, [], .none, [⟨31, 1, .w1c⟩, ⟨0, 12, .ro⟩]⟩,
   ⟨"GLB_LANESUM", 0x40, [(4, 3)], .none, [⟨0, 32, .w1c⟩]⟩,
   ⟨"GLB_SCRATCH", 0x50, [], .none, [⟨0, 32, .rw⟩]⟩,
   ⟨"GLB_IBICNT", 0x100, [], .none, [⟨0, 32, .ro⟩]⟩,
   ⟨"GLB_RDSHORT", 0x104, [], .none, [⟨0, 32, .ro⟩]⟩,
   ⟨"GLB_BUSERR", 0x108, [], .none, [⟨0, 32, .ro⟩]⟩,
   ⟨"GLB_WRNACK", 0x10C, [], .none, [⟨0, 32, .ro⟩]⟩]

def regRowsFch0 : List RegRow :=
  [⟨"LN_DFOK", 0x100300, [(1024, 96)], .none, [⟨0, 32, .ro⟩]⟩,
   ⟨"LN_DFHDR", 0x100304, [(1024, 96)], .none, [⟨0, 32, .ro⟩]⟩,
   ⟨"LN_DFFMT", 0x100308, [(1024, 96)], .none, [⟨0, 32, .ro⟩]⟩,
   ⟨"LN_DFUNMAP", 0x10030C, [(1024, 96)], .none, [⟨0, 32, .ro⟩]⟩,
   ⟨"FCH_CTRL", 0x200000, [(65536, 16)], .engine, [⟨2, 1, .rwl⟩, ⟨1, 1, .ro⟩, ⟨0, 1, .rw⟩]⟩,
   ⟨"FCH_STATUS", 0x200004, [(65536, 16)], .none, [⟨3, 1, .w1c⟩, ⟨2, 1, .w1c⟩, ⟨1, 1, .ro⟩, ⟨0, 1, .ro⟩]⟩,
   ⟨"FCH_SYNCNEXT_LO", 0x200010, [(65536, 16)], .none, [⟨0, 32, .rw⟩]⟩,
   ⟨"FCH_SYNCNEXT_HI", 0x200014, [(65536, 16)], .none, [⟨0, 16, .rw⟩]⟩,
   ⟨"FCH_SYNCIDX_LO", 0x200018, [(65536, 16)], .none, [⟨0, 32, .ro⟩]⟩,
   ⟨"FCH_SYNCIDX_HI", 0x20001C, [(65536, 16)], .none, [⟨0, 16, .ro⟩]⟩,
   ⟨"FCH_PFB", 0x200020, [(65536, 16)], .engine, [⟨10, 4, .rwl⟩, ⟨8, 2, .rwl⟩, ⟨4, 3, .rwl⟩, ⟨0, 3, .rwl⟩]⟩,
   ⟨"FCH_CHSEL", 0x200024, [(65536, 16)], .engine, [⟨16, 16, .rwl⟩, ⟨0, 16, .rwl⟩]⟩,
   ⟨"FCH_REQ", 0x200028, [(65536, 16)], .engine, [⟨4, 4, .rwl⟩, ⟨0, 2, .rwl⟩]⟩,
   ⟨"FCH_GAPLIM", 0x20002C, [(65536, 16)], .engine, [⟨0, 21, .rwl⟩]⟩,
   ⟨"FCH_GSWAP_LO", 0x200030, [(65536, 16)], .none, [⟨0, 32, .rw⟩]⟩,
   ⟨"FCH_GSWAP_HI", 0x200034, [(65536, 16)], .none, [⟨0, 16, .rw⟩]⟩,
   ⟨"FCH_GADDR", 0x200038, [(65536, 16)], .none, [⟨31, 1, .rw⟩, ⟨0, 18, .rw⟩]⟩,
   ⟨"FCH_GDATA", 0x20003C, [(65536, 16)], .none, [⟨16, 16, .rw⟩, ⟨0, 16, .rw⟩]⟩,
   ⟨"FCH_SATCNT", 0x200040, [(65536, 16)], .none, [⟨0, 32, .ro⟩]⟩,
   ⟨"FCH_FFTSAT", 0x200044, [(65536, 16)], .none, [⟨0, 32, .ro⟩]⟩,
   ⟨"FCH_INVOUT", 0x200048, [(65536, 16)], .none, [⟨0, 32, .ro⟩]⟩,
   ⟨"FCH_PSRC", 0x200100, [(65536, 16), (64, 16)], .slot, [⟨31, 1, .rw⟩, ⟨19, 1, .rwl⟩, ⟨12, 7, .rwl⟩, ⟨0, 12, .rwl⟩]⟩,
   ⟨"FCH_PSTAT", 0x200104, [(65536, 16), (64, 16)], .none, [⟨0, 3, .ro⟩]⟩,
   ⟨"FCH_NCOINC", 0x200108, [(65536, 16), (64, 16)], .slot, [⟨0, 32, .rwl⟩]⟩,
   ⟨"FCH_NCOPHS", 0x20010C, [(65536, 16), (64, 16)], .slot, [⟨0, 32, .rwl⟩]⟩,
   ⟨"FCH_CIC", 0x200110, [(65536, 16), (64, 16)], .slot, [⟨8, 1, .rwl⟩, ⟨6, 2, .rwl⟩, ⟨0, 6, .rwl⟩]⟩,
   ⟨"FCH_RSINC", 0x200114, [(65536, 16), (64, 16)], .slot, [⟨0, 32, .rwl⟩]⟩,
   ⟨"FCH_INVIN", 0x200118, [(65536, 16), (64, 16)], .none, [⟨0, 32, .ro⟩]⟩,
   ⟨"FCH_GAPCNT", 0x20011C, [(65536, 16), (64, 16)], .none, [⟨0, 32, .ro⟩]⟩,
   ⟨"FCH_LATECNT", 0x200120, [(65536, 16), (64, 16)], .none, [⟨0, 32, .ro⟩]⟩]

def regRowsFch1 : List RegRow :=
  [⟨"FCH_REJOIN", 0x200124, [(65536, 16), (64, 16)], .none, [⟨0, 32, .ro⟩]⟩,
   ⟨"FCH_OVRFR", 0x200128, [(65536, 16), (64, 16)], .none, [⟨0, 32, .ro⟩]⟩,
   ⟨"FCH_STAGESAT", 0x20012C, [(65536, 16), (64, 16)], .none, [⟨0, 32, .ro⟩]⟩,
   ⟨"FCH_DROPFR", 0x200130, [(65536, 16), (64, 16)], .none, [⟨0, 32, .ro⟩]⟩]

def regRowsHull0 : List RegRow :=
  [⟨"HULL_CTRL", 0x300000, [], .none, [⟨0, 1, .rw⟩]⟩,
   ⟨"HULL_STATUS", 0x300004, [], .none, [⟨4, 1, .w1c⟩, ⟨3, 1, .w1c⟩, ⟨2, 1, .w1c⟩, ⟨1, 1, .w1c⟩, ⟨0, 1, .ro⟩]⟩,
   ⟨"HULL_CFG", 0x300008, [], .hull, [⟨16, 12, .rwl⟩, ⟨8, 4, .rwl⟩, ⟨0, 2, .rwl⟩]⟩,
   ⟨"HULL_SLACK", 0x30000C, [], .hull, [⟨0, 16, .rwl⟩]⟩,
   ⟨"HULL_CTBASE_LO", 0x300010, [], .hull, [⟨12, 20, .rwl⟩]⟩,
   ⟨"HULL_CTBASE_HI", 0x300014, [], .hull, [⟨0, 6, .rwl⟩]⟩,
   ⟨"HULL_OWNED", 0x300018, [], .hull, [⟨16, 13, .rwl⟩, ⟨0, 13, .rwl⟩]⟩,
   ⟨"HULL_TXCFG", 0x30001C, [], .hull, [⟨0, 5, .rwl⟩]⟩,
   ⟨"HULL_ENGPATH", 0x300100, [(4, 16)], .hull, [⟨16, 5, .rwl⟩, ⟨0, 12, .rwl⟩]⟩,
   ⟨"HULL_SCTRL", 0x300200, [(32, 4)], .stream, [⟨31, 1, .rw⟩, ⟨0, 8, .rwl⟩]⟩,
   ⟨"HULL_ST", 0x300204, [(32, 4)], .stream, [⟨0, 16, .rwl⟩]⟩,
   ⟨"HULL_SF0_LO", 0x300208, [(32, 4)], .stream, [⟨0, 32, .rwl⟩]⟩,
   ⟨"HULL_SF0_HI", 0x30020C, [(32, 4)], .stream, [⟨0, 16, .rwl⟩]⟩,
   ⟨"HULL_SREGION", 0x300210, [(32, 4)], .stream, [⟨16, 16, .rwl⟩, ⟨0, 15, .rwl⟩]⟩,
   ⟨"HULL_SWIN", 0x300214, [(32, 4)], .none, [⟨0, 32, .ro⟩]⟩,
   ⟨"HULL_TXFRM", 0x300300, [], .none, [⟨0, 32, .ro⟩]⟩,
   ⟨"HULL_TXDROP", 0x300304, [], .none, [⟨0, 32, .ro⟩]⟩,
   ⟨"HULL_TXUNR", 0x300308, [], .none, [⟨0, 32, .ro⟩]⟩,
   ⟨"HULL_RXRUN", 0x30030C, [], .none, [⟨0, 32, .ro⟩]⟩,
   ⟨"HULL_RXBAD", 0x300310, [], .none, [⟨0, 32, .ro⟩]⟩,
   ⟨"HULL_LATERUN", 0x300314, [], .none, [⟨0, 32, .ro⟩]⟩,
   ⟨"HULL_OVERRUN", 0x300318, [], .none, [⟨0, 32, .ro⟩]⟩,
   ⟨"HULL_MISSRUN", 0x30031C, [], .none, [⟨0, 32, .ro⟩]⟩,
   ⟨"HULL_PGSTAGED", 0x300320, [], .none, [⟨0, 32, .ro⟩]⟩,
   ⟨"HULL_PGFLAG", 0x300324, [], .none, [⟨0, 32, .ro⟩]⟩,
   ⟨"HULL_SRC", 0x304000, [(4, 256)], .hull, [⟨31, 1, .rwl⟩, ⟨4, 12, .rwl⟩, ⟨0, 4, .rwl⟩]⟩,
   ⟨"HULL_OWN", 0x308000, [(4, 8192)], .hull, [⟨31, 1, .rwl⟩, ⟨0, 12, .rwl⟩]⟩]

def regRowsPod0 : List RegRow :=
  [⟨"POD_CTRL", 0x400000, [(65536, 64)], .pod, [⟨2, 12, .rwl⟩, ⟨0, 1, .rw⟩]⟩,
   ⟨"POD_STATUS", 0x400004, [(65536, 64)], .none, [⟨24, 8, .ro⟩, ⟨8, 12, .ro⟩, ⟨7, 1, .w1c⟩, ⟨6, 1, .w1c⟩, ⟨5, 1, .ro⟩, ⟨4, 1, .ro⟩, ⟨3, 1, .ro⟩, ⟨2, 1, .ro⟩, ⟨1, 1, .ro⟩, ⟨0, 1, .ro⟩]⟩,
   ⟨"POD_PCFG", 0x400008, [(65536, 64)], .pod, [⟨16, 3, .rwl⟩, ⟨8, 2, .rwl⟩, ⟨4, 1, .rwl⟩, ⟨1, 1, .ro⟩, ⟨0, 1, .rwl⟩]⟩,
   ⟨"POD_PORTOWN", 0x40000C, [(65536, 64)], .pod, [⟨0, 16, .rwl⟩]⟩,
   ⟨"POD_OWNER", 0x400010, [(65536, 64)], .none, [⟨31, 1, .ro⟩, ⟨0, 12, .ro⟩]⟩,
   ⟨"POD_COLMAP", 0x400014, [(65536, 64)], .none, [⟨7, 1, .ro⟩, ⟨6, 1, .ro⟩, ⟨0, 6, .ro⟩]⟩,
   ⟨"POD_SPARECFG", 0x400018, [(65536, 64)], .none, [⟨4, 4, .rw⟩, ⟨0, 1, .rw⟩]⟩,
   ⟨"POD_CMD", 0x40001C, [(65536, 64)], .none, [⟨31, 1, .wo⟩, ⟨0, 6, .wo⟩]⟩,
   ⟨"POD_GREG", 0x400020, [(65536, 64), (4, 8)], .none, [⟨0, 32, .ro⟩]⟩,
   ⟨"POD_COLERR", 0x400100, [(65536, 64), (4, 33)], .none, [⟨0, 32, .ro⟩]⟩,
   ⟨"POD_BEATS", 0x400200, [(65536, 64)], .none, [⟨0, 32, .ro⟩]⟩,
   ⟨"POD_DRAINS", 0x400204, [(65536, 64)], .none, [⟨0, 32, .ro⟩]⟩,
   ⟨"POD_STALLDRN", 0x400208, [(65536, 64)], .none, [⟨0, 32, .ro⟩]⟩,
   ⟨"POD_STALLOPND", 0x40020C, [(65536, 64)], .none, [⟨0, 32, .ro⟩]⟩,
   ⟨"POD_STALLPORT", 0x400210, [(65536, 64)], .none, [⟨0, 32, .ro⟩]⟩,
   ⟨"POD_STALLW", 0x400214, [(65536, 64)], .none, [⟨0, 32, .ro⟩]⟩,
   ⟨"POD_DRAINHOLD", 0x400218, [(65536, 64)], .none, [⟨0, 32, .ro⟩]⟩,
   ⟨"POD_PARITY", 0x40021C, [(65536, 64)], .none, [⟨0, 32, .ro⟩]⟩,
   ⟨"POD_PM_LO", 0x408000, [(65536, 64), (8, 4096)], .pod, [⟨0, 32, .rwl⟩]⟩,
   ⟨"POD_PM_HI", 0x408004, [(65536, 64), (8, 4096)], .pod, [⟨0, 32, .rwl⟩]⟩]

def regRowsHusk0 : List RegRow :=
  [⟨"HUSK_CTRL", 0x800000, [], .none, [⟨0, 1, .rw⟩]⟩,
   ⟨"HUSK_STATUS", 0x800004, [], .none, [⟨6, 1, .w1c⟩, ⟨5, 1, .w1c⟩, ⟨4, 1, .w1c⟩, ⟨3, 1, .w1c⟩, ⟨2, 1, .w1c⟩, ⟨1, 1, .ro⟩, ⟨0, 1, .ro⟩]⟩,
   ⟨"HUSK_SEED", 0x800008, [], .husk, [⟨0, 32, .rwl⟩]⟩,
   ⟨"HUSK_DRAINS", 0x800100, [], .none, [⟨0, 32, .ro⟩]⟩,
   ⟨"HUSK_DISCARD", 0x800104, [], .none, [⟨0, 32, .ro⟩]⟩,
   ⟨"HUSK_RMW", 0x800108, [], .none, [⟨0, 32, .ro⟩]⟩,
   ⟨"HUSK_FEHOLD", 0x80010C, [], .none, [⟨0, 32, .ro⟩]⟩,
   ⟨"HUSK_STAGEHOLD", 0x800110, [], .none, [⟨0, 32, .ro⟩]⟩,
   ⟨"HUSK_CHAFFINS", 0x800114, [], .none, [⟨0, 32, .ro⟩]⟩,
   ⟨"HUSK_CHAFFOVF", 0x800118, [], .none, [⟨0, 32, .ro⟩]⟩,
   ⟨"HUSK_DUMPS", 0x80011C, [], .none, [⟨0, 32, .ro⟩]⟩,
   ⟨"HUSK_DUMPLATE", 0x800120, [], .none, [⟨0, 32, .ro⟩]⟩,
   ⟨"HUSK_SATCNT", 0x800124, [], .none, [⟨0, 32, .ro⟩]⟩,
   ⟨"HUSK_PARITY", 0x800128, [], .none, [⟨0, 32, .ro⟩]⟩,
   ⟨"HUSK_MIXED", 0x80012C, [], .none, [⟨0, 32, .ro⟩]⟩,
   ⟨"HUSK_EXCESS", 0x800130, [], .none, [⟨0, 32, .ro⟩]⟩,
   ⟨"HUSK_MAPMISS", 0x800134, [], .none, [⟨0, 32, .ro⟩]⟩,
   ⟨"HUSK_DCFG", 0x820000, [(32, 4096)], .ctx, [⟨31, 1, .rwl⟩, ⟨28, 3, .ro⟩, ⟨27, 1, .ro⟩, ⟨20, 5, .rwl⟩, ⟨0, 20, .ro⟩]⟩,
   ⟨"HUSK_DSCALE", 0x820004, [(32, 4096)], .ctx, [⟨0, 32, .rwl⟩]⟩,
   ⟨"HUSK_DSPILL", 0x820008, [(32, 4096)], .ctx, [⟨0, 32, .rwl⟩]⟩,
   ⟨"HUSK_DBUFSZ", 0x82000C, [(32, 4096)], .ctx, [⟨0, 32, .rwl⟩]⟩,
   ⟨"HUSK_DCHAFF", 0x820010, [(32, 4096)], .ctx, [⟨0, 32, .rwl⟩]⟩,
   ⟨"HUSK_DMAP", 0x820014, [(32, 4096)], .ctx, [⟨18, 14, .rwl⟩, ⟨0, 14, .rwl⟩]⟩,
   ⟨"HUSK_DTOPK", 0x820018, [(32, 4096)], .ctx, [⟨20, 12, .rwl⟩, ⟨16, 4, .rwl⟩, ⟨15, 1, .rwl⟩, ⟨0, 12, .rwl⟩]⟩,
   ⟨"HUSK_DAUX", 0x82001C, [(32, 4096)], .ctx, [⟨16, 16, .rwl⟩, ⟨12, 2, .rwl⟩, ⟨8, 4, .rwl⟩]⟩,
   ⟨"HUSK_MAP_LO", 0x840000, [(8, 16384)], .none, [⟨16, 16, .rw⟩, ⟨0, 7, .rw⟩]⟩,
   ⟨"HUSK_MAP_HI", 0x840004, [(8, 16384)], .none, [⟨31, 1, .rw⟩, ⟨30, 1, .rw⟩, ⟨18, 12, .rw⟩, ⟨6, 12, .rw⟩]⟩]

def regRowsCtx0 : List RegRow :=
  [⟨"CTX_CFG", 0x900000, [(64, 4096)], .ctx, [⟨31, 1, .rwl⟩, ⟨28, 3, .rwl⟩, ⟨27, 1, .rwl⟩, ⟨26, 1, .rwl⟩, ⟨24, 2, .rwl⟩, ⟨21, 3, .rwl⟩, ⟨0, 20, .rwl⟩]⟩,
   ⟨"CTX_STATE", 0x900004, [(64, 4096)], .none, [⟨29, 3, .ro⟩, ⟨28, 1, .ro⟩, ⟨16, 8, .ro⟩, ⟨8, 8, .ro⟩, ⟨0, 8, .ro⟩]⟩,
   ⟨"CTX_PATHS", 0x900008, [(64, 4096)], .ctx, [⟨16, 16, .rwl⟩, ⟨0, 12, .rwl⟩]⟩,
   ⟨"CTX_CHAN", 0x90000C, [(64, 4096)], .ctx, [⟨16, 13, .rwl⟩, ⟨0, 13, .rwl⟩]⟩,
   ⟨"CTX_TILE", 0x900010, [(64, 4096)], .ctx, [⟨15, 1, .rwl⟩, ⟨12, 3, .rwl⟩, ⟨8, 3, .rwl⟩, ⟨4, 3, .rwl⟩, ⟨0, 3, .rwl⟩]⟩,
   ⟨"CTX_BEAM", 0x900014, [(64, 4096)], .ctx, [⟨16, 12, .rwl⟩, ⟨0, 13, .rwl⟩]⟩,
   ⟨"CTX_K0_LO", 0x900018, [(64, 4096)], .ctx, [⟨0, 32, .rwl⟩]⟩,
   ⟨"CTX_K0_HI", 0x90001C, [(64, 4096)], .ctx, [⟨30, 2, .rwl⟩, ⟨0, 16, .rwl⟩]⟩,
   ⟨"CTX_WPTR", 0x900020, [(64, 4096)], .ctx, [⟨0, 32, .rwl⟩]⟩,
   ⟨"CTX_WSIZE", 0x900024, [(64, 4096)], .ctx, [⟨16, 16, .rwl⟩, ⟨0, 9, .rwl⟩]⟩,
   ⟨"CTX_DEST", 0x900028, [(64, 4096)], .ctx, [⟨31, 1, .rwl⟩, ⟨0, 6, .rwl⟩]⟩,
   ⟨"CTX_LOAD", 0x900034, [(64, 4096)], .ctx, [⟨16, 16, .rwl⟩, ⟨0, 11, .rwl⟩]⟩,
   ⟨"CTX_EMITTED", 0x90002C, [(64, 4096)], .none, [⟨0, 32, .ro⟩]⟩,
   ⟨"CTX_FLAGGED", 0x900030, [(64, 4096)], .none, [⟨0, 32, .ro⟩]⟩,
   ⟨"CTX_KEFF_LO", 0x900038, [(64, 4096)], .none, [⟨0, 32, .ro⟩]⟩,
   ⟨"CTX_KEFF_HI", 0x90003C, [(64, 4096)], .none, [⟨0, 16, .ro⟩]⟩,
   ⟨"EGR_DCTRL", 0x161000, [(32, 64)], .dest, [⟨31, 1, .rwl⟩, ⟨30, 1, .rwl⟩, ⟨16, 8, .rwl⟩, ⟨0, 12, .rwl⟩]⟩,
   ⟨"EGR_DMAX", 0x161014, [(32, 64)], .dest, [⟨26, 6, .rwl⟩, ⟨0, 14, .rwl⟩]⟩,
   ⟨"EGR_DMAC_LO", 0x161004, [(32, 64)], .dest, [⟨0, 32, .rwl⟩]⟩,
   ⟨"EGR_DMAC_HI", 0x161008, [(32, 64)], .dest, [⟨0, 16, .rwl⟩]⟩,
   ⟨"EGR_DIP", 0x16100C, [(32, 64)], .dest, [⟨0, 32, .rwl⟩]⟩,
   ⟨"EGR_DUDP", 0x161010, [(32, 64)], .dest, [⟨16, 16, .rwl⟩, ⟨0, 16, .rwl⟩]⟩,
   ⟨"EGR_DSENT", 0x161018, [(32, 64)], .none, [⟨0, 32, .ro⟩]⟩,
   ⟨"EGR_DDROP", 0x16101C, [(32, 64)], .none, [⟨0, 32, .ro⟩]⟩,
   ⟨"CTX_CMD", 0x940000, [], .none, [⟨28, 4, .wo⟩, ⟨0, 12, .wo⟩]⟩,
   ⟨"CTX_CSTAT", 0x940004, [], .none, [⟨31, 1, .ro⟩, ⟨30, 1, .w1c⟩, ⟨16, 8, .ro⟩, ⟨0, 12, .ro⟩]⟩,
   ⟨"CTX_HBMSTATIC", 0x940008, [], .none, [⟨0, 16, .rw⟩]⟩,
   ⟨"CTX_HBMSUM", 0x94000C, [], .none, [⟨0, 16, .ro⟩]⟩,
   ⟨"CTX_PLOAD", 0x940020, [(4, 8)], .none, [⟨0, 12, .ro⟩]⟩,
   ⟨"PATHSTORE", 0x980000, [(4, 32768)], .none, [⟨16, 12, .rw⟩, ⟨0, 12, .rw⟩]⟩]

def regRowsTiming0 : List RegRow :=
  [⟨"TMB_STATUS", 0x20000, [], .none, [⟨24, 3, .ro⟩, ⟨11, 1, .ro⟩, ⟨8, 1, .ro⟩, ⟨7, 1, .ro⟩, ⟨6, 1, .w1c⟩, ⟨5, 1, .w1c⟩, ⟨4, 1, .w1c⟩, ⟨3, 1, .w1c⟩, ⟨0, 3, .ro⟩]⟩,
   ⟨"TMB_CMD", 0x20004, [], .none, [⟨8, 8, .wo⟩, ⟨2, 1, .wo⟩, ⟨1, 1, .wo⟩, ⟨0, 1, .wo⟩]⟩,
   ⟨"TMB_SEL", 0x20008, [], .none, [⟨8, 1, .rw⟩, ⟨4, 1, .rw⟩, ⟨0, 3, .rw⟩]⟩,
   ⟨"TMB_QUAL", 0x20030, [], .none, [⟨23, 9, .rw⟩, ⟨16, 7, .rw⟩, ⟨0, 16, .rw⟩]⟩,
   ⟨"TMB_DRIFT", 0x20038, [], .none, [⟨16, 8, .rw⟩, ⟨0, 16, .rw⟩]⟩,
   ⟨"TMB_OUTCFG", 0x20040, [], .none, [⟨16, 16, .rw⟩, ⟨8, 2, .rw⟩, ⟨2, 1, .rw⟩, ⟨1, 1, .rw⟩, ⟨0, 1, .rw⟩]⟩,
   ⟨"TMB_REFCFG", 0x20060, [(4, 7)], .none, [⟨8, 4, .rw⟩, ⟨4, 2, .rw⟩, ⟨0, 4, .rw⟩]⟩,
   ⟨"TMB_REFSTAT", 0x20080, [(4, 7)], .none, [⟨29, 3, .ro⟩, ⟨20, 9, .ro⟩, ⟨0, 20, .ro⟩]⟩,
   ⟨"TMB_FTCFG", 0x200A0, [], .none, [⟨31, 1, .rw⟩, ⟨8, 4, .rw⟩, ⟨0, 3, .rw⟩]⟩,
   ⟨"TMB_FTSTAT", 0x200A4, [], .none, [⟨31, 1, .ro⟩, ⟨30, 1, .ro⟩, ⟨0, 12, .ro⟩]⟩,
   ⟨"TMB_INCR", 0x2000C, [], .none, [⟨0, 32, .rw⟩]⟩,
   ⟨"TMB_INCRF", 0x20010, [], .none, [⟨0, 32, .rw⟩]⟩,
   ⟨"TMB_TIME_FR", 0x20014, [], .none, [⟨0, 32, .ro⟩]⟩,
   ⟨"TMB_TIME_SL", 0x20018, [], .none, [⟨0, 32, .ro⟩]⟩,
   ⟨"TMB_TIME_SH", 0x2001C, [], .none, [⟨0, 16, .ro⟩]⟩,
   ⟨"TMB_TSET_LO", 0x20020, [], .none, [⟨0, 32, .rw⟩]⟩,
   ⟨"TMB_TSET_HI", 0x20024, [], .none, [⟨0, 16, .rw⟩]⟩,
   ⟨"TMB_STEP_LO", 0x20028, [], .none, [⟨0, 32, .rw⟩]⟩,
   ⟨"TMB_STEP_HI", 0x2002C, [], .none, [⟨0, 16, .rw⟩]⟩,
   ⟨"TMB_DISAGREE", 0x20034, [], .none, [⟨0, 16, .rw⟩]⟩,
   ⟨"TMB_HOLD", 0x2003C, [], .none, [⟨0, 24, .rw⟩]⟩,
   ⟨"TMB_FABSEL", 0x20044, [], .none, [⟨0, 7, .rw⟩]⟩,
   ⟨"TMB_PHERR", 0x20048, [], .none, [⟨0, 32, .ro⟩]⟩,
   ⟨"TMB_PPSERR", 0x2004C, [(4, 2)], .none, [⟨0, 32, .ro⟩]⟩,
   ⟨"TMB_FTOFS", 0x200A8, [], .none, [⟨0, 32, .ro⟩]⟩,
   ⟨"TMB_FTDLY", 0x200AC, [], .none, [⟨0, 32, .ro⟩]⟩,
   ⟨"TMB_FTASYM", 0x200B0, [], .none, [⟨0, 32, .rw⟩]⟩,
   ⟨"TMB_SREFIDX_LO", 0x200C0, [], .none, [⟨0, 32, .rw⟩]⟩,
   ⟨"TMB_SREFIDX_HI", 0x200C4, [], .none, [⟨0, 16, .rw⟩]⟩,
   ⟨"TMB_SREFT_FR", 0x200C8, [], .none, [⟨0, 32, .rw⟩]⟩]

def regRowsTiming1 : List RegRow :=
  [⟨"TMB_SREFT_SL", 0x200CC, [], .none, [⟨0, 32, .rw⟩]⟩,
   ⟨"TMB_SREFT_SH", 0x200D0, [], .none, [⟨0, 16, .rw⟩]⟩,
   ⟨"TMB_SPER_LO", 0x200D4, [], .none, [⟨0, 32, .rw⟩]⟩,
   ⟨"TMB_SPER_HI", 0x200D8, [], .none, [⟨0, 32, .rw⟩]⟩,
   ⟨"TMB_SWITCHES", 0x20100, [], .none, [⟨0, 32, .ro⟩]⟩,
   ⟨"TMB_FTDROP", 0x20104, [], .none, [⟨0, 32, .ro⟩]⟩,
   ⟨"TMB_TXTS_FR", 0x21000, [(16, 96)], .none, [⟨0, 32, .ro⟩]⟩,
   ⟨"TMB_TXTS_SL", 0x21004, [(16, 96)], .none, [⟨0, 32, .ro⟩]⟩,
   ⟨"TMB_TXTS_SH", 0x21008, [(16, 96)], .none, [⟨31, 1, .ro⟩, ⟨16, 8, .ro⟩, ⟨0, 16, .ro⟩]⟩,
   ⟨"TMB_TXSTAT", 0x2100C, [(16, 96)], .none, [⟨8, 1, .w1c⟩, ⟨0, 5, .ro⟩]⟩,
   ⟨"CAL_SEC_LO", 0x30000, [], .none, [⟨0, 32, .ro⟩]⟩,
   ⟨"CAL_SEC_HI", 0x30004, [], .none, [⟨0, 16, .ro⟩]⟩,
   ⟨"CAL_STATUS", 0x30008, [], .none, [⟨1, 1, .ro⟩, ⟨0, 1, .ro⟩]⟩,
   ⟨"CAL_CMD", 0x3000C, [], .none, [⟨0, 1, .wo⟩]⟩,
   ⟨"SCH_DUE_FR", 0x40000, [], .none, [⟨0, 32, .rw⟩]⟩,
   ⟨"SCH_DUE_SL", 0x40004, [], .none, [⟨0, 32, .rw⟩]⟩,
   ⟨"SCH_DUE_SH", 0x40008, [], .none, [⟨0, 16, .rw⟩]⟩,
   ⟨"SCH_CANCEL", 0x40010, [], .none, [⟨0, 16, .wo⟩]⟩,
   ⟨"SCH_EXECCNT", 0x40020, [], .none, [⟨0, 32, .ro⟩]⟩,
   ⟨"SCH_LATECNT", 0x40024, [], .none, [⟨0, 32, .ro⟩]⟩,
   ⟨"SCH_LATEEXECCNT", 0x40028, [], .none, [⟨0, 32, .ro⟩]⟩,
   ⟨"SCH_INSERT", 0x4000C, [], .none, [⟨28, 4, .wo⟩, ⟨27, 1, .wo⟩, ⟨0, 16, .wo⟩]⟩,
   ⟨"SCH_RESULT", 0x40014, [], .none, [⟨28, 4, .ro⟩, ⟨0, 16, .ro⟩]⟩,
   ⟨"SCH_STATUS", 0x40018, [], .none, [⟨17, 1, .w1c⟩, ⟨16, 1, .ro⟩, ⟨0, 11, .ro⟩]⟩,
   ⟨"SCH_DONE", 0x4001C, [], .none, [⟨31, 1, .ro⟩, ⟨28, 3, .ro⟩, ⟨16, 12, .ro⟩, ⟨0, 16, .ro⟩]⟩]

def regRowsLane0 : List RegRow :=
  [⟨"LN_CFG", 0x100000, [(1024, 96)], .lane, [⟨31, 1, .rw⟩, ⟨20, 1, .rwl⟩, ⟨16, 3, .rwl⟩, ⟨8, 3, .rwl⟩, ⟨5, 1, .rwl⟩, ⟨4, 1, .rwl⟩, ⟨0, 2, .rwl⟩]⟩,
   ⟨"LN_STATUS", 0x100004, [(1024, 96)], .none, [⟨25, 3, .ro⟩, ⟨24, 1, .ro⟩, ⟨20, 3, .ro⟩, ⟨15, 1, .w1c⟩, ⟨14, 1, .w1c⟩, ⟨13, 1, .ro⟩, ⟨12, 1, .ro⟩, ⟨11, 1, .ro⟩, ⟨10, 1, .w1c⟩, ⟨9, 1, .w1c⟩, ⟨8, 1, .ro⟩, ⟨7, 1, .ro⟩, ⟨0, 3, .ro⟩]⟩,
   ⟨"LN_CMD", 0x100008, [(1024, 96)], .none, [⟨3, 1, .wo⟩, ⟨2, 1, .wo⟩, ⟨1, 1, .wo⟩, ⟨0, 1, .wo⟩]⟩,
   ⟨"LN_SPARE", 0x10000C, [(1024, 96)], .lane, [⟨31, 1, .rwl⟩, ⟨16, 7, .ro⟩, ⟨0, 7, .rwl⟩]⟩,
   ⟨"LN_FECCFG", 0x100010, [(1024, 96)], .none, [⟨0, 16, .rw⟩]⟩,
   ⟨"LN_PEER", 0x100014, [(1024, 96)], .none, [⟨15, 1, .ro⟩, ⟨12, 3, .ro⟩, ⟨0, 7, .ro⟩]⟩,
   ⟨"LN_TRAINTAG", 0x10001C, [(1024, 96)], .none, [⟨8, 8, .ro⟩, ⟨0, 7, .ro⟩]⟩,
   ⟨"LN_PEERTAG", 0x100018, [(1024, 96)], .none, [⟨0, 32, .ro⟩]⟩,
   ⟨"LN_SKEW", 0x100020, [(1024, 96)], .none, [⟨0, 32, .ro⟩]⟩,
   ⟨"LN_ETHMAC_LO", 0x100040, [(1024, 96)], .lane, [⟨0, 32, .rwl⟩]⟩,
   ⟨"LN_ETHMAC_HI", 0x100044, [(1024, 96)], .lane, [⟨0, 16, .rwl⟩]⟩,
   ⟨"LN_ETHIP", 0x100048, [(1024, 96)], .lane, [⟨0, 32, .rwl⟩]⟩,
   ⟨"LN_FECCORR", 0x100100, [(1024, 96)], .none, [⟨0, 32, .ro⟩]⟩,
   ⟨"LN_FECUNC", 0x100104, [(1024, 96)], .none, [⟨0, 32, .ro⟩]⟩,
   ⟨"LN_LOSCNT", 0x100108, [(1024, 96)], .none, [⟨0, 32, .ro⟩]⟩,
   ⟨"LN_LOLCNT", 0x10010C, [(1024, 96)], .none, [⟨0, 32, .ro⟩]⟩,
   ⟨"LN_BADBLK", 0x100110, [(1024, 96)], .none, [⟨0, 32, .ro⟩]⟩,
   ⟨"LN_FRERR", 0x100114, [(1024, 96)], .none, [⟨0, 32, .ro⟩]⟩,
   ⟨"LN_STEPFAIL", 0x100118, [(1024, 96)], .none, [⟨0, 32, .ro⟩]⟩,
   ⟨"LN_SWAPS", 0x10011C, [(1024, 96)], .none, [⟨0, 32, .ro⟩]⟩,
   ⟨"LN_ETHTX", 0x100120, [(1024, 96)], .none, [⟨0, 32, .ro⟩]⟩,
   ⟨"LN_ETHRXD", 0x100124, [(1024, 96)], .none, [⟨0, 32, .ro⟩]⟩,
   ⟨"LN_ETHFECC", 0x100128, [(1024, 96)], .none, [⟨0, 32, .ro⟩]⟩,
   ⟨"LN_ETHFECU", 0x10012C, [(1024, 96)], .none, [⟨0, 32, .ro⟩]⟩]

def regRowsFab0 : List RegRow :=
  [⟨"FAB_CTRL", 0x140000, [], .fab, [⟨31, 1, .rw⟩, ⟨30, 1, .rwl⟩, ⟨29, 1, .rwl⟩, ⟨16, 4, .rwl⟩, ⟨0, 12, .rwl⟩]⟩,
   ⟨"FAB_STATUS", 0x140004, [], .none, [⟨16, 16, .ro⟩, ⟨6, 1, .w1c⟩, ⟨5, 1, .w1c⟩, ⟨4, 1, .w1c⟩, ⟨3, 1, .ro⟩, ⟨2, 1, .ro⟩, ⟨0, 2, .ro⟩]⟩,
   ⟨"FAB_PARTSTAT", 0x14000C, [], .none, [⟨16, 12, .ro⟩, ⟨0, 13, .ro⟩]⟩,
   ⟨"FAB_MREQ", 0x140030, [], .none, [⟨31, 1, .wo⟩, ⟨0, 12, .wo⟩]⟩,
   ⟨"FAB_MSTAT", 0x14003C, [], .none, [⟨31, 1, .ro⟩, ⟨0, 2, .ro⟩]⟩,
   ⟨"FAB_PARTCFG", 0x140008, [], .fab, [⟨0, 16, .rwl⟩]⟩,
   ⟨"FAB_MEMBERS", 0x140010, [], .none, [⟨0, 13, .ro⟩]⟩,
   ⟨"FAB_GRID0_LO", 0x140014, [], .fab, [⟨0, 32, .rwl⟩]⟩,
   ⟨"FAB_GRID0_HI", 0x140018, [], .fab, [⟨0, 16, .rwl⟩]⟩,
   ⟨"FAB_GRIDLEN", 0x14001C, [], .fab, [⟨0, 32, .rwl⟩]⟩,
   ⟨"FAB_REJLEAD", 0x140020, [], .fab, [⟨0, 32, .rwl⟩]⟩,
   ⟨"FAB_REJ_LO", 0x140024, [], .none, [⟨0, 32, .ro⟩]⟩,
   ⟨"FAB_REJ_HI", 0x140028, [], .none, [⟨0, 16, .ro⟩]⟩,
   ⟨"FAB_MADDR", 0x140034, [], .none, [⟨0, 32, .rw⟩]⟩,
   ⟨"FAB_MRESP", 0x140038, [], .none, [⟨0, 32, .ro⟩]⟩,
   ⟨"FAB_TXFRM", 0x140100, [], .none, [⟨0, 32, .ro⟩]⟩,
   ⟨"FAB_RXFRM", 0x140104, [], .none, [⟨0, 32, .ro⟩]⟩,
   ⟨"FAB_FWDFRM", 0x140108, [], .none, [⟨0, 32, .ro⟩]⟩,
   ⟨"FAB_HDRERR", 0x14010C, [], .none, [⟨0, 32, .ro⟩]⟩,
   ⟨"FAB_CREDERR", 0x140110, [], .none, [⟨0, 32, .ro⟩]⟩,
   ⟨"FAB_NOROUTE", 0x140114, [], .none, [⟨0, 32, .ro⟩]⟩,
   ⟨"FAB_UPDOWN", 0x140118, [], .none, [⟨0, 32, .ro⟩]⟩,
   ⟨"FAB_HOPS", 0x14011C, [], .none, [⟨0, 32, .ro⟩]⟩,
   ⟨"FAB_LINKLOSS", 0x140120, [], .none, [⟨0, 32, .ro⟩]⟩,
   ⟨"FAB_REROUTE", 0x140124, [], .none, [⟨0, 32, .ro⟩]⟩,
   ⟨"FAB_QUAR", 0x140128, [], .none, [⟨0, 32, .ro⟩]⟩,
   ⟨"FAB_REJLATE", 0x14012C, [], .none, [⟨0, 32, .ro⟩]⟩,
   ⟨"FAB_SEEDFR", 0x140130, [], .none, [⟨0, 32, .ro⟩]⟩,
   ⟨"FAB_LCFG", 0x140400, [(8, 96)], .fab, [⟨31, 1, .rwl⟩, ⟨30, 1, .rwl⟩, ⟨29, 1, .rwl⟩, ⟨16, 7, .rwl⟩, ⟨0, 12, .rwl⟩]⟩,
   ⟨"FAB_LSTAT", 0x140404, [(8, 96)], .none, [⟨29, 3, .ro⟩, ⟨20, 4, .ro⟩, ⟨0, 12, .ro⟩]⟩]

def regRowsFab1 : List RegRow :=
  [⟨"FAB_LSET", 0x140800, [(16, 64), (4, 3)], .fab, [⟨0, 32, .rwl⟩]⟩,
   ⟨"FAB_MEMBER", 0x141000, [(4, 128)], .fab, [⟨0, 32, .rwl⟩]⟩,
   ⟨"FAB_REACH", 0x141200, [(4, 128)], .none, [⟨0, 32, .ro⟩]⟩,
   ⟨"FAB_NH", 0x144000, [(4, 4096)], .fab, [⟨31, 1, .rwl⟩, ⟨30, 1, .rwl⟩, ⟨8, 6, .rwl⟩, ⟨0, 6, .rwl⟩]⟩]

def regRowsDmc0 : List RegRow :=
  [⟨"DMC_CTRL", 0xA00000, [], .none, [⟨4, 1, .rw⟩, ⟨2, 1, .wo⟩, ⟨1, 1, .rw⟩, ⟨0, 1, .rw⟩]⟩,
   ⟨"DMC_STATUS", 0xA00004, [], .none, [⟨16, 5, .ro⟩, ⟨6, 1, .w1c⟩, ⟨5, 1, .ro⟩, ⟨4, 1, .w1c⟩, ⟨3, 1, .w1c⟩, ⟨2, 1, .ro⟩, ⟨1, 1, .ro⟩, ⟨0, 1, .ro⟩]⟩,
   ⟨"DMC_CFG", 0xA00008, [], .dmc, [⟨16, 8, .rw⟩, ⟨8, 8, .rw⟩, ⟨0, 5, .rwl⟩]⟩,
   ⟨"DMC_TIMING", 0xA0000C, [], .dmc, [⟨8, 8, .rwl⟩, ⟨0, 8, .rwl⟩]⟩,
   ⟨"DMC_RETIRE", 0xA00010, [], .none, [⟨31, 1, .wo⟩, ⟨30, 1, .wo⟩, ⟨0, 8, .wo⟩]⟩,
   ⟨"DMC_TGEN", 0xA00014, [], .none, [⟨0, 7, .rw⟩]⟩,
   ⟨"DMC_DMWBASE", 0xA00018, [], .none, [⟨0, 10, .rw⟩]⟩,
   ⟨"DMC_STACK", 0xA00100, [(4, 6)], .none, [⟨8, 1, .ro⟩, ⟨0, 8, .ro⟩]⟩,
   ⟨"DMC_PCMAP", 0xA00200, [(4, 192)], .none, [⟨31, 1, .ro⟩, ⟨0, 8, .ro⟩]⟩,
   ⟨"DMC_PCSTAT", 0xA00600, [(4, 192)], .none, [⟨29, 3, .ro⟩, ⟨28, 1, .ro⟩, ⟨24, 4, .ro⟩, ⟨8, 8, .ro⟩, ⟨0, 7, .ro⟩]⟩,
   ⟨"DMC_PAR", 0xA01000, [(32, 192)], .none, [⟨0, 32, .ro⟩]⟩,
   ⟨"DMC_SEV", 0xA01004, [(32, 192)], .none, [⟨0, 32, .ro⟩]⟩,
   ⟨"DMC_FWD", 0xA01008, [(32, 192)], .none, [⟨0, 32, .ro⟩]⟩,
   ⟨"DMC_RAWSTALL", 0xA0100C, [(32, 192)], .none, [⟨0, 32, .ro⟩]⟩,
   ⟨"DMC_REFCNT", 0xA01010, [(32, 192)], .none, [⟨0, 32, .ro⟩]⟩,
   ⟨"DMC_URGENT", 0xA01014, [(32, 192)], .none, [⟨0, 32, .ro⟩]⟩,
   ⟨"DMC_RETRAIN", 0xA01018, [(32, 192)], .none, [⟨0, 32, .ro⟩]⟩,
   ⟨"DMC_OOR", 0xA0101C, [(32, 192)], .none, [⟨0, 32, .ro⟩]⟩]

def regRowsMtx0 : List RegRow :=
  [⟨"MTX_CTRL", 0xB00000, [], .none, [⟨0, 16, .rw⟩]⟩,
   ⟨"MTX_STATUS", 0xB00004, [], .none, [⟨3, 1, .ro⟩, ⟨2, 1, .ro⟩, ⟨1, 1, .w1c⟩, ⟨0, 1, .ro⟩]⟩,
   ⟨"MTX_DECLO", 0xB00008, [], .none, [⟨0, 32, .ro⟩]⟩,
   ⟨"MTX_DECHI", 0xB0000C, [], .none, [⟨16, 5, .ro⟩, ⟨0, 8, .ro⟩]⟩,
   ⟨"MTX_PSTAT", 0xB00100, [(4, 24)], .none, [⟨30, 2, .ro⟩, ⟨16, 8, .ro⟩, ⟨0, 6, .ro⟩]⟩,
   ⟨"MTX_XSTAT", 0xB00800, [(8, 14)], .none, [⟨31, 1, .w1c⟩, ⟨30, 1, .w1c⟩, ⟨0, 16, .ro⟩]⟩,
   ⟨"MTX_PARITY", 0xB00010, [], .none, [⟨0, 32, .ro⟩]⟩,
   ⟨"MTX_OSTALL", 0xB00200, [(16, 24)], .none, [⟨0, 32, .ro⟩]⟩,
   ⟨"MTX_ORDHOLD", 0xB00204, [(16, 24)], .none, [⟨0, 32, .ro⟩]⟩,
   ⟨"MTX_CREDHOLD", 0xB00208, [(16, 24)], .none, [⟨0, 32, .ro⟩]⟩,
   ⟨"MTX_DECERR", 0xB0020C, [(16, 24)], .none, [⟨0, 32, .ro⟩]⟩,
   ⟨"MTX_XDISC", 0xB00804, [(8, 14)], .none, [⟨0, 32, .ro⟩]⟩]

def regRowsImg0 : List RegRow :=
  [⟨"IMG_CMD", 0xE00000, [], .none, [⟨28, 4, .wo⟩, ⟨27, 1, .wo⟩, ⟨26, 1, .wo⟩, ⟨0, 10, .wo⟩]⟩,
   ⟨"IMG_STATUS", 0xE00004, [], .none, [⟨28, 4, .ro⟩, ⟨24, 4, .ro⟩, ⟨16, 8, .ro⟩, ⟨5, 1, .ro⟩, ⟨4, 1, .ro⟩, ⟨3, 1, .ro⟩, ⟨2, 1, .ro⟩, ⟨1, 1, .ro⟩]⟩,
   ⟨"IMG_NODE", 0xE0001C, [], .none, [⟨31, 1, .ro⟩, ⟨0, 12, .ro⟩]⟩,
   ⟨"IMG_FUSE", 0xE00028, [], .none, [⟨31, 1, .ro⟩, ⟨16, 2, .ro⟩, ⟨8, 4, .ro⟩, ⟨0, 4, .ro⟩]⟩,
   ⟨"IMG_SPGEN", 0xE00040, [], .none, [⟨30, 2, .rw⟩, ⟨25, 5, .rw⟩, ⟨20, 5, .rw⟩, ⟨17, 3, .rw⟩, ⟨0, 16, .rw⟩]⟩,
   ⟨"IMG_SPRESULT", 0xE00050, [], .none, [⟨31, 1, .ro⟩, ⟨30, 1, .ro⟩, ⟨0, 6, .ro⟩]⟩,
   ⟨"IMG_RXCOUNT", 0xE00008, [], .none, [⟨0, 32, .ro⟩]⟩,
   ⟨"IMG_ERROFF", 0xE0000C, [], .none, [⟨0, 32, .ro⟩]⟩,
   ⟨"IMG_HASH_LO", 0xE00010, [], .none, [⟨0, 32, .ro⟩]⟩,
   ⟨"IMG_HASH_HI", 0xE00014, [], .none, [⟨0, 32, .ro⟩]⟩,
   ⟨"IMG_BUILD", 0xE00018, [], .none, [⟨0, 32, .ro⟩]⟩,
   ⟨"IMG_RCFG", 0xE00020, [], .none, [⟨0, 16, .rw⟩]⟩,
   ⟨"IMG_TOUCHED", 0xE00024, [], .none, [⟨16, 16, .ro⟩, ⟨0, 16, .ro⟩]⟩,
   ⟨"IMG_SPSEED", 0xE00044, [], .none, [⟨0, 32, .rw⟩]⟩,
   ⟨"IMG_SCRUBFIX", 0xE00100, [], .none, [⟨0, 32, .ro⟩]⟩,
   ⟨"IMG_SCRUBRUN", 0xE00104, [], .none, [⟨0, 32, .ro⟩]⟩,
   ⟨"IMG_LOADS", 0xE00108, [], .none, [⟨0, 32, .ro⟩]⟩,
   ⟨"IMG_WIN", 0xE01000, [(4, 1024)], .none, [⟨0, 32, .wo⟩]⟩]

def regRowsErl0 : List RegRow :=
  [⟨"ERL_STATUS", 0xD00000, [], .none, [⟨5, 1, .w1c⟩, ⟨4, 1, .w1c⟩, ⟨3, 1, .w1c⟩, ⟨2, 1, .w1c⟩, ⟨1, 1, .w1c⟩, ⟨0, 1, .ro⟩]⟩,
   ⟨"ERL_LPSCFG", 0xD00004, [], .none, [⟨0, 16, .rw⟩]⟩,
   ⟨"ERL_CMD", 0xD00008, [], .none, [⟨1, 1, .wo⟩, ⟨0, 1, .wo⟩]⟩,
   ⟨"ERL_COUNT", 0xD0000C, [], .none, [⟨16, 8, .ro⟩, ⟨0, 9, .ro⟩]⟩,
   ⟨"ERL_E0", 0xD00010, [], .none, [⟨0, 32, .ro⟩]⟩,
   ⟨"ERL_E1", 0xD00014, [], .none, [⟨0, 32, .ro⟩]⟩,
   ⟨"ERL_E2", 0xD00018, [], .none, [⟨0, 32, .ro⟩]⟩,
   ⟨"ERL_E3", 0xD0001C, [], .none, [⟨0, 32, .ro⟩]⟩,
   ⟨"ERL_LPS_FR", 0xD00100, [], .none, [⟨0, 16, .ro⟩]⟩,
   ⟨"ERL_LPS_SEC", 0xD00104, [], .none, [⟨0, 32, .ro⟩]⟩,
   ⟨"ERL_LPSCAUSE_FR", 0xD00108, [(8, 8)], .none, [⟨0, 16, .ro⟩]⟩,
   ⟨"ERL_LPSCAUSE_SEC", 0xD0010C, [(8, 8)], .none, [⟨0, 32, .ro⟩]⟩,
   ⟨"ERL_FABLPS_FR", 0xD00148, [], .none, [⟨0, 16, .ro⟩]⟩,
   ⟨"ERL_FABLPS_SEC", 0xD0014C, [], .none, [⟨0, 32, .ro⟩]⟩,
   ⟨"ERL_LPSPEND", 0xD00150, [], .none, [⟨0, 32, .ro⟩]⟩,
   ⟨"ERL_PARCNT", 0xD00200, [(4, 14)], .none, [⟨0, 32, .ro⟩]⟩,
   ⟨"ERL_ECCCORR", 0xD00240, [], .none, [⟨0, 32, .ro⟩]⟩,
   ⟨"ERL_ECCUNC", 0xD00244, [], .none, [⟨0, 32, .ro⟩]⟩,
   ⟨"ERL_LOST", 0xD00248, [], .none, [⟨0, 32, .ro⟩]⟩,
   ⟨"ERL_LPSCLIP", 0xD0024C, [], .none, [⟨0, 32, .ro⟩]⟩,
   ⟨"ERL_RING", 0xD01000, [(16, 256), (4, 4)], .none, [⟨0, 32, .ro⟩]⟩]

def regRowsPwr0 : List RegRow :=
  [⟨"PWR_CMD", 0x10000, [], .none, [⟨0, 3, .wo⟩]⟩,
   ⟨"PWR_STATUS", 0x10004, [], .none, [⟨24, 8, .ro⟩, ⟨12, 1, .ro⟩, ⟨11, 1, .ro⟩, ⟨10, 1, .w1c⟩, ⟨9, 1, .w1c⟩, ⟨8, 1, .ro⟩, ⟨7, 1, .ro⟩, ⟨4, 3, .ro⟩, ⟨0, 3, .ro⟩]⟩,
   ⟨"PWR_CFG", 0x10008, [], .none, [⟨0, 16, .rw⟩]⟩,
   ⟨"PWR_TEMP", 0x1000C, [], .none, [⟨24, 4, .ro⟩, ⟨16, 8, .ro⟩, ⟨0, 8, .ro⟩]⟩,
   ⟨"PWR_TTIME", 0x10010, [], .none, [⟨0, 32, .ro⟩]⟩,
   ⟨"PWR_TRANS", 0x10100, [], .none, [⟨0, 32, .ro⟩]⟩,
   ⟨"PWR_WARNCNT", 0x10104, [], .none, [⟨0, 32, .ro⟩]⟩]

def regRowsPmc0 : List RegRow :=
  [⟨"PMC_CMD", 0xC00000, [], .none, [⟨2, 1, .wo⟩, ⟨1, 1, .wo⟩, ⟨0, 1, .wo⟩]⟩,
   ⟨"PMC_STATUS", 0xC00004, [], .none, [⟨2, 1, .w1c⟩, ⟨1, 1, .ro⟩, ⟨0, 1, .ro⟩]⟩,
   ⟨"PMC_PERMIT", 0xC00008, [], .none, [⟨3, 1, .rw⟩, ⟨2, 1, .rw⟩, ⟨1, 1, .rw⟩, ⟨0, 1, .rw⟩]⟩,
   ⟨"PMC_PIPCFG", 0xC0000C, [], .none, [⟨28, 2, .rw⟩, ⟨24, 1, .rw⟩, ⟨0, 16, .rw⟩]⟩,
   ⟨"PMC_PIPTRIG", 0xC00010, [], .none, [⟨16, 11, .rw⟩, ⟨0, 9, .rw⟩]⟩,
   ⟨"PMC_PIPCOUNT", 0xC00028, [], .none, [⟨16, 10, .ro⟩, ⟨0, 11, .ro⟩]⟩,
   ⟨"PMC_PIPMASK_LO", 0xC00014, [], .none, [⟨0, 32, .rw⟩]⟩,
   ⟨"PMC_PIPMASK_HI", 0xC00018, [], .none, [⟨0, 32, .rw⟩]⟩,
   ⟨"PMC_SNAPTIME_FR", 0xC0001C, [], .none, [⟨0, 32, .ro⟩]⟩,
   ⟨"PMC_SNAPTIME_SL", 0xC00020, [], .none, [⟨0, 32, .ro⟩]⟩,
   ⟨"PMC_SNAPTIME_SH", 0xC00024, [], .none, [⟨0, 16, .ro⟩]⟩,
   ⟨"PMC_PIP0", 0xC00030, [], .none, [⟨0, 32, .ro⟩]⟩,
   ⟨"PMC_PIPW", 0xC00034, [(4, 3)], .none, [⟨0, 32, .ro⟩]⟩,
   ⟨"PMC_PIPMERGE", 0xC00100, [], .none, [⟨0, 32, .ro⟩]⟩,
   ⟨"PMC_LIVE_LO", 0xC01000, [(8, 512)], .none, [⟨0, 32, .ro⟩]⟩,
   ⟨"PMC_LIVE_HI", 0xC01004, [(8, 512)], .none, [⟨0, 16, .ro⟩]⟩,
   ⟨"PMC_SHADOW_LO", 0xC02000, [(8, 512)], .none, [⟨0, 32, .ro⟩]⟩,
   ⟨"PMC_SHADOW_HI", 0xC02004, [(8, 512)], .none, [⟨0, 16, .ro⟩]⟩,
   ⟨"PMC_PIPRING", 0xC04000, [(16, 1024), (4, 4)], .none, [⟨0, 32, .ro⟩]⟩]

/-- Every register of R311. -/
def regTable : List RegRow :=
  regRowsGlb0 ++
  regRowsFch0 ++
  regRowsFch1 ++
  regRowsHull0 ++
  regRowsPod0 ++
  regRowsHusk0 ++
  regRowsCtx0 ++
  regRowsTiming0 ++
  regRowsTiming1 ++
  regRowsLane0 ++
  regRowsFab0 ++
  regRowsFab1 ++
  regRowsDmc0 ++
  regRowsMtx0 ++
  regRowsImg0 ++
  regRowsErl0 ++
  regRowsPwr0 ++
  regRowsPmc0

/-- The indices of offset `o` under the strides of a row, none where `o` is no multiple of them in range. -/
def splitDims : List (Nat × Nat) → Nat → Option (List Nat)
  | [], o => if o = 0 then some [] else none
  | (stride, count) :: ds, o =>
    if o / stride < count then (splitDims ds (o % stride)).map (o / stride :: ·) else none

/-- The indices with which byte address `a` (a multiple of 4) names row `r`. -/
def RegRow.indices (r : RegRow) (a : Nat) : Option (List Nat) :=
  if a < r.base then none else splitDims r.dims (a - r.base)

/-- The row and indices of a byte address, in a given table. -/
def findRowIn : List RegRow → Nat → Option (RegRow × List Nat)
  | [], _ => none
  | r :: rs, a =>
    match r.indices a with
    | some ix => some (r, ix)
    | none => findRowIn rs a

/-- The register at a byte address; none for an address no register is allocated to (R12). -/
def findRow (a : Nat) : Option (RegRow × List Nat) := findRowIn regTable a

/-- Registers whose reset value is not zero: base, strides and counts, value, by block of 64 KiB (R18). The F-engines fill the
blocks 0x20 to 0x2F, the pods 0x40 to 0x7F, the lanes 0x10 and 0x11, and the dump descriptors 0x82 and 0x83. -/
def resetRows (block : Nat) : List (Nat × List (Nat × Nat) × BitVec 32) :=
  match block / 16 with
  | 2 => [(0x200024, [(65536, 16)], 0x00FF0000), (0x20002C, [(65536, 16)], 0x00010000),
        (0x20003C, [(65536, 16)], 0x00004000), (0x200114, [(65536, 16), (64, 16)], 0x40000000)]
  | 4 | 5 | 6 | 7 => [(0x400018, [(65536, 64)], 0x00000021)]
  | _ =>
    match block with
    | 0 => [(0x0, [], 0x1B409601), (0x1C, [], 0x04000404), (0x28, [], 0x0000FFFF)]
    | 1 => [(0x10004, [], 0x00000001), (0x10008, [], 0x000007D0)]
    | 2 => [(0x20000, [], 0x07000000), (0x20008, [], 0x00000100), (0x20030, [], 0x960503E8),
        (0x20038, [], 0x006407D0), (0x20040, [], 0x00640200), (0x200A0, [], 0x00000803),
        (0x2000C, [], 0x00112E0C), (0x20034, [], 0x00000064), (0x2003C, [], 0x00000E10)]
    | 0x10 | 0x11 => [(0x100000, [(1024, 96)], 0x00000400), (0x100010, [(1024, 96)], 0x00000100)]
    | 0x14 => [(0x140000, [], 0x000F0000), (0x140004, [], 0x80000000), (0x140008, [], 0x000003E8),
        (0x140020, [], 0x00000400)]
    | 0x16 => [(0x161014, [(32, 64)], 0x00002000)]
    | 0x30 => [(0x30000C, [], 0x00000040), (0x30001C, [], 0x00000010), (0x300204, [(32, 4)], 0x00000FFF)]
    | 0x82 | 0x83 => [(0x820004, [(32, 4096)], 0x3F800000)]
    | 0xA0 => [(0xA00000, [], 0x00000002), (0xA00008, [], 0x00181008), (0xA0000C, [], 0x00001E28),
        (0xA00014, [], 0x00000050)]
    | 0xB0 => [(0xB00000, [], 0x00000064)]
    | 0xC0 => [(0xC0000C, [], 0x01000000), (0xC00010, [], 0x02000000)]
    | 0xD0 => [(0xD00004, [], 0x00000078)]
    | 0xE0 => [(0xE00040, [], 0x41084000), (0xE00020, [], 0x000007D0)]
    | _ => []

/-- Search of `resetRows`. -/
def resetIn : List (Nat × List (Nat × Nat) × BitVec 32) → Nat → BitVec 32
  | [], _ => 0
  | (base, dims, v) :: rs, a =>
    if base ≤ a && (splitDims dims (a - base)).isSome then v else resetIn rs a

/-- The reset value of the register at a byte address (R18). DMC_PCMAP of slot s resets to s (R262). -/
def regReset (a : Nat) : BitVec 32 :=
  if DMC_PCMAP 0 ≤ a ∧ a < DMC_PCMAP 192 then BitVec.ofNat 32 ((a - DMC_PCMAP 0) / 4)
  else resetIn (resetRows (a / 0x10000)) a

end Sys2Proof.Machine
end

