-- ==== Sys2Proof/Machine/State.lean ====
section
/-! DEFINITION. The state of the IB-4096 as plain data. Every architectural register has one home: the register table
`regs`, keyed by byte address; an address that is not listed holds its reset value (`regReset`). Whatever else the
spec gives the part (queues, stores, accumulators, sequencer positions, protocol states) is in one structure per
block, in tables keyed by unit number. A table (`Tbl`) is a list of pairs with rising keys that lists no default. -/

namespace Sys2Proof.Machine

/-- A sparse table: key and value pairs in rising key order, no entry equal to the table's default. -/
abbrev Tbl (α : Type) := List (Nat × α)

/-- Why the machine could stop with a fault. The spec gives the block no behaviour that stops it, so there is one
reason and nothing raises it: safe. -/
inductive Fault where
  /-- Raised by no command of the model (the spec gives none that halts the part). Safe. -/
  | machineStop
  deriving DecidableEq, Repr

/-- Why a command gets no meaning. -/
inductive Refusal where
  /-- Raised by an arm of exec whose command has no meaning yet. Safe: the machine stops where the part goes on. -/
  | notModelled (mnemonic : String)
  /-- Raised by every meaning on an operand outside the range the spec gives it (lane 96, pod 64): no such command
  exists. Safe. -/
  | illFormed
  deriving DecidableEq, Repr

/-- One thing that leaves the part. The model's own record of outputs, oldest first; the spec gives no such store. -/
inductive Out where
  /-- A Gensy frame on a lane; the flag: it ends with a bad block (R247, R349 site 0x0C). -/
  | frame (lane : Nat) (bytes : List Byte) (badEnd : Bool) (line : List LineBlock)
  /-- A LINK message on a lane (R218). -/
  | link (lane : Nat) (bytes : List Byte) (line : List LineBlock)
  /-- A COMMA block on a lane (R214). -/
  | comma (lane : Nat) (bytes : List Byte) (line : List LineBlock)
  /-- The internal traffic generator runs for 100 ms on a lane: frames with the reserved marker at 80 % load (R225). -/
  | generator (lane : Nat)
  /-- An Ethernet frame on an Ethernet port; the flag is the inverted FCS of R349, site 0x0C. -/
  | packet (port : Nat) (bytes : List Byte) (badFcs : Bool)
  /-- Data bytes returned on the I3C bus. -/
  | i3c (bytes : List Byte)
  /-- A header or CCC not acknowledged. -/
  | nack
  /-- An in-band interrupt request on the bus. -/
  | ibiRequest
  /-- The mandatory byte of an acknowledged in-band interrupt. -/
  | ibi (byte : Nat)
  /-- A Hot-Join request. -/
  | hotJoin
  /-- A rising edge of PPS_OUT, with its fine delay after the ECLK edge in steps of 125 ps (R193). -/
  | ppsOut (fine : Nat)
  /-- The answer of a matrix transaction: initiator, ID, bytes, error. -/
  | matrix (init id : Nat) (bytes : List Byte) (bad : List Bool) (err : Bool)
  /-- The word the peripheral bridge returns for one 4-byte group, by initiator. -/
  | bridge (init : Nat) (word : BitVec 32)
  /-- The answer of a DRAM controller unit to a line read: bytes and the bytes with wrong parity. -/
  | dram (bytes : List Byte) (bad : List Bool)
  /-- What TDO shifts out first: the data register that the instruction in force selects (R410). -/
  | tdo (bits : BitVec 64)
  deriving DecidableEq, Repr

/-! ## Ingest and the F-chain (chapter 02) -/

/-- A complex sample inside the chain: value, invalid mark (R43, R56), and whether its span reaches below the start
index (R60). -/
structure Smp where
  re : Int
  im : Int
  inv : Bool
  pre : Bool
  deriving DecidableEq, Repr

/-- A path slot's chain (R46, R57 to R60). Histories are newest first. -/
structure SlotSt where
  /-- 0 not running or no anchor yet, 2 WAIT_ANCHOR, 3 SETTLING, 4 RUNNING. -/
  phase : Nat
  /-- The slot rejoins at its first sample (R60, R369). -/
  joining : Bool
  /-- Expected index x (R46). -/
  x : Nat
  /-- Samples since S of the next input sample. -/
  i : Nat
  mix : List Smp
  cic : List Smp
  fir : List Smp
  rs : List Smp
  /-- Number of the next resampler output. -/
  k : Nat
  /-- The next frame index the slot can emit. -/
  nextFrame : Nat
  /-- The slot has passed the armed swap frame (R64). -/
  swapped : Bool
  /-- Frames before this index are marked contaminated (R349, sites 1 and 2). -/
  contamTo : Option Nat
  deriving DecidableEq, Repr

def SlotSt.idle : SlotSt := ⟨0, false, 0, 0, [], [], [], [], 0, 0, false, none⟩

/-- One slot's share of a spectrum frame: the selected channels, and the contamination mark. -/
structure SlotFrame where
  slot : Nat
  data : List (Int × Int)
  contam : Bool
  deriving DecidableEq, Repr

/-- A spectrum frame of one engine being assembled: frame index and the slots that have emitted it. -/
structure EngFrame where
  j : Nat
  slots : List SlotFrame
  deriving DecidableEq, Repr

structure FchSt where
  /-- Slot s of engine e at key 16·e + s. -/
  slot : Tbl SlotSt
  /-- Gain words: bank b, index i of engine e at key (2·e + b)·262144 + i; default 0x4000 (R64). -/
  gain : Tbl (BitVec 32)
  /-- Spectrum frames of engine e that have not crossed to the Hull, rising j. -/
  pend : Tbl (List EngFrame)
  /-- The frame index from which the armed swap applies: the armed index, or 0 after a SYNC event (R64). -/
  swapFrom : Tbl Nat
  /-- Samples since S of the newest index that engine e's slots have reached, without the wrap of R45 (R59). -/
  seen : Tbl Nat
  deriving DecidableEq, Repr

def FchSt.reset : FchSt := ⟨[], [], [], [], []⟩

/-! ## The Hull (chapter 03) -/

/-- A tracking entry (R78, R79, R86). -/
structure Track where
  next : Nat
  hole : Option (Nat × Nat)
  contam : Bool
  closed : Bool
  /-- The node was reported unreachable at closure, or R86 closed the entry (R85). -/
  unreach : Bool
  deriving DecidableEq, Repr

def Track.fresh : Track := ⟨0, none, false, false, false⟩

/-- A DATA frame the sender holds: owner, runs it carries, Hull header, and where its samples stand in the egress buffer (R70,
R71, R73, R281). -/
structure HeldData where
  dest : Nat
  runs : Nat
  hdr : List Byte
  place : Nat
  len : Nat
  deriving DecidableEq, Repr

/-- The unsent DATA frames of one output frame of an engine (R73). -/
structure HeldFrame where
  j : Nat
  /-- Which quarter of the engine's 512 KiB of the egress buffer it takes (R281). -/
  slot : Nat
  frames : List HeldData
  deriving DecidableEq, Repr

/-- A pass group in the operand stage, or being staged (R81 to R85). -/
structure PassGroup where
  st : Nat
  g : Nat
  k : Nat
  half : Nat
  /-- Place in the order of the stream's pass groups since it was enabled. -/
  seq : Nat
  incomplete : Bool
  /-- Incomplete with cause PEER_UNREACHABLE. -/
  unreach : Bool
  contam : Bool
  /-- Partitions that have not signalled the end of their pass (R84). -/
  mask : Nat
  deriving DecidableEq, Repr

/-- A stream's position: what it stages next (R82, R83). -/
structure StreamSt where
  win : Nat
  g : Nat
  half : Nat
  seq : Nat
  /-- Resumes at the first window at or after the next local frame (R369). -/
  waitRun : Bool
  deriving DecidableEq, Repr

def StreamSt.zero : StreamSt := ⟨0, 0, 0, 0, false⟩

/-- A DATA frame delivered by the fabric: source node, payload, parity error on arrival (R74, R349 site 4). -/
structure Inbound where
  node : Nat
  payload : List Byte
  bad : Bool
  deriving DecidableEq, Repr

structure HullSt where
  /-- Anchor tag; none until the first SYNC event (R75). -/
  tag : Option Nat
  /-- Anchor indices of SYNC events on their way to the Hull, oldest first: the lowest enabled engine, which passes it, and S
  (R75). -/
  tagq : List (Nat × Nat)
  /-- Local frame index (R79). -/
  lfi : Option Nat
  /-- Tracking entries: HULL_SRC entry i, time block tb at key i·2^44 + tb. -/
  track : Tbl Track
  /-- Ring slots: the time block a slot holds, plus 1; 0 released (R80). -/
  ring : Tbl Nat
  /-- Output frames held per engine, oldest first (R73). -/
  held : Tbl (List HeldFrame)
  /-- First time block used again from a node that came back, plus 1; 0 none (R86). -/
  tbr : Tbl Nat
  /-- Nodes that came back while the part held no local frame index (R86). -/
  tbrWait : List Nat
  /-- Hull paths of a HULL_SRC entry's runs as the writer saw them: first · 8192 + count; 0 not seen. -/
  srcPaths : Tbl Nat
  stream : Tbl StreamSt
  /-- The pass group being staged, and whether a SYNC event has made it the last of the old numbering (R83, R87). -/
  staging : Option (PassGroup × Bool)
  /-- The pass group in half h of stream st at key 2·st + h. -/
  region : Tbl (Option PassGroup)
  /-- Pass groups of stream st taken by partition n, at key 4·n + st. -/
  taken : Tbl Nat
  /-- Operand-stage bytes at half·2^27 + offset. -/
  stage : Tbl (BitVec 8)
  /-- DATA frames delivered and not yet taken by the writer. -/
  inq : List Inbound
  deriving DecidableEq, Repr

def HullSt.reset : HullSt := ⟨none, [], none, [], [], [], [], [], [], [], none, [], [], [], []⟩
/-! ## Pods and partitions (chapter 04) -/

/-- One slot of one logical cell (R89, R93): 40-bit parts as signed values, valid count, fresh bit. -/
structure Cell where
  re : Int
  im : Int
  cnt : Nat
  fresh : Bool
  deriving DecidableEq, Repr

def Cell.empty : Cell := ⟨0, 0, 0, true⟩

/-- A pass group's identity: stream, window, local group (R115). -/
structure PgId where
  st : Nat
  k : Nat
  g : Nat
  deriving DecidableEq, Repr

/-- One accumulator bank of a pod: slot s of logical cell (r, c) at key 1024·s + 32·r + c, its marks, and the pass
group of its first product (R109, R115, R116). -/
structure Bank where
  cells : Tbl Cell
  contam : Bool
  incMiss : Bool
  incPeer : Bool
  mixed : Bool
  /-- A product has been taken since the bank became active. -/
  taken : Bool
  pg : Option PgId
  deriving DecidableEq, Repr

def Bank.fresh : Bank := ⟨[], false, false, false, false, false, none⟩

/-- A filled bank on its way to the Husk (R107, R109): what the drain delivers. -/
structure DrainRec where
  pod : Nat
  /-- The bank that drains: 0 A, 1 B. -/
  half : Nat
  bank : Bank
  tag : Nat
  slots : Nat
  beam : Bool
  /-- POD_COLMAP while the bank was active (R107). -/
  colMap : Nat
  /-- The owning context at the swap (R101). -/
  ctx : Option Nat
  /-- Steps that have left. -/
  steps : Nat
  /-- R141 has counted the drain. -/
  late : Bool
  /-- Steps whose values the back end had taken from the front-end buffer when the drain was delivered (R115). -/
  took : Nat
  deriving DecidableEq, Repr

/-- Weights of one set for four channels, as loaded (R102): channel k of cell (r, c) at key 4·(32·r + c) + k. -/
structure WSet where
  set : Nat
  chan : Nat
  w : Tbl (Int × Int)
  deriving DecidableEq, Repr

/-- A WINIT under way: bank, slots, starting set (R427). -/
structure WInit where
  half : Nat
  slots : Nat
  set : Nat
  deriving DecidableEq, Repr

/-- A Pip record in progress or waiting to be collected (R388 to R391). -/
structure PipRec where
  trigger : Bool
  op : Nat
  pc : Nat
  issue : Nat
  /-- Stalled cycles by cause 1 to 7 of R390. -/
  stalls : Tbl Nat
  /-- Drains, WLDs or WINITs of the pod that must complete before the instruction has retired (R390). -/
  after : Nat
  /-- Latency once retired, and whether the pod stopped first. -/
  done : Option (Nat × Bool)
  /-- The pod's cycle count (`PodSt.clk`) in the issue cycle. -/
  at' : Nat
  /-- DRAIN, WLD, WINIT: the cycles to retirement that R104, R107 and R108 fix, pauses of the drain not counted; none where
  another user of the W-bus or an earlier drain comes in between. -/
  fixed : Option Nat
  deriving DecidableEq, Repr

structure PodSt where
  /-- The sequencer has not stopped. POD_STATUS.Running also waits for drains, WLDs and WINITs (R110). -/
  seq : Bool
  /-- Run was written to 1 after the sequencer stopped and before POD_STATUS.Running cleared (R110). -/
  start : Bool
  /-- The active bank: 0 A, 1 B. -/
  active : Nat
  bankA : Bank
  bankB : Bank
  /-- Frames per slot group and BMACs per entry since the last swap (R94). -/
  frames : Tbl Nat
  bmacs : Tbl Nat
  /-- A held swap: tag, slots (R107). -/
  swap : Option (Nat × Nat)
  drains : List DrainRec
  /-- Loop in force: first word, last word, iterations left (R105). -/
  loop : Option (Nat × Nat × Nat)
  /-- The MAC or BMAC at issue has begun: beats done, beats left. -/
  beats : Option (Nat × Nat)
  /-- A MAC or BMAC has issued since the last swap (R110). -/
  macd : Bool
  /-- 0 not waiting; 1 OPEN, 2 OPEN issued, 3 BAR, 4 NEXTPG, 5 NEXTPG barrier met, 6 FENCE. -/
  wait : Nat
  waitSt : Nat
  /-- The instruction at the program counter has stood at issue before (R388). -/
  stood : Bool
  /-- Pending selections of the R-bus and C-bus (R97). -/
  selR : Option Nat
  selC : Option Nat
  wlds : List WSet
  shadow : Option WSet
  weights : Option WSet
  winits : List WInit
  reloading : Bool
  /-- Steering requests waiting for the swap, oldest first (R111). -/
  steer : List Nat
  /-- The window in which a bad weight fill marks every bank (R155). -/
  fillBad : Option Nat
  /-- RDPMC latch: counter and bits [47:32] (R387). -/
  pmc : Option (Nat × Nat)
  /-- Pip: instructions counted, armed, record held (R388). -/
  pipCount : Nat
  pipArmed : Bool
  pip : Option PipRec
  /-- ACLK cycles that the sequencer has spent at issue, stalled ones included, and the count at L, the cycle in which the last
  MAC or BMAC operation entered stage 1 (R107, R390). -/
  clk : Nat
  lastL : Nat
  /-- Stall cause for which the instruction at issue stands, 0 none, and stalled cycles counted since the last ECLK tick (R380,
  R390). -/
  held : Nat
  heldN : Nat
  deriving DecidableEq, Repr

def PodSt.idle : PodSt where
  seq := false
  start := false
  active := 0
  bankA := Bank.fresh
  bankB := Bank.fresh
  frames := []
  bmacs := []
  swap := none
  drains := []
  loop := none
  beats := none
  macd := false
  wait := 0
  waitSt := 0
  stood := false
  selR := none
  selC := none
  wlds := []
  shadow := none
  weights := none
  winits := []
  reloading := false
  steer := []
  fillBad := none
  pmc := none
  pipCount := 0
  pipArmed := false
  pip := none
  clk := 0
  lastL := 0
  held := 0
  heldN := 0

/-- A port descriptor (R95, R96). -/
structure PortDesc where
  st : Nat
  wide : Bool
  h0 : Nat
  t0 : Nat
  count : Nat
  deriving DecidableEq, Repr

/-- A listener of an open port: pod, bus (0 R, 1 C), words consumed. -/
structure Listener where
  pod : Nat
  bus : Nat
  pos : Nat
  deriving DecidableEq, Repr

/-- The pass group a partition presents for a stream (R99): region half, identity, marks; whether the end of the pass
was signalled at once (R84). -/
structure Presented where
  half : Nat
  pg : PgId
  contam : Bool
  incMiss : Bool
  incPeer : Bool
  signalled : Bool
  deriving DecidableEq, Repr

/-- An open port (R97, R98): what it streams, and its listeners. -/
structure OpenPort where
  desc : PortDesc
  cur : Presented
  words : Nat
  listeners : List Listener
  deriving DecidableEq, Repr

structure ArraySt where
  pod : Tbl PodSt
  /-- Weight-store bytes of pod p, at key p·2^20 + i. -/
  store : Tbl (BitVec 8)
  desc : Tbl (Option PortDesc)
  /-- Ports requested by OPEN of a pod and not yet open: lead pod and listeners (R97). -/
  req : Tbl (Option (Nat × List (Nat × Nat)))
  openp : Tbl (Option OpenPort)
  /-- Presented pass group of partition n and stream st at key 4·n + st. -/
  cur : Tbl (Option Presented)
  /-- Pip: pod served last (R391). -/
  pipLast : Nat
  /-- Pip: the value of the trigger counter up to which its advances have armed pods (R388). -/
  pipSeen : Nat
  deriving DecidableEq, Repr

def ArraySt.reset : ArraySt := ⟨[], [], [], [], [], [], 63, 0⟩

/-! ## The Husk (chapter 05) -/

/-- A current integration's progress in a context (R121, R138): the window being applied, and per local group the
drains arrived for it. -/
structure HuskCtx where
  /-- K0eff at the start (R156). -/
  k0 : Nat
  win : Nat
  arrived : Tbl Nat
  /-- Groups whose mark byte the current integration has written (R137): 1. -/
  written : Tbl Nat
  /-- Marks per group of a VOLT context's current window, which has no mark block. -/
  marks : Tbl Nat
  /-- TaiStart and end of a VOLT context's current window, by the map in force when its first block came (R195). -/
  tai : Option (Nat × Nat)
  /-- The run of the context; records of another run are stale (R142). -/
  run : Nat
  deriving DecidableEq, Repr

/-- A voltage block waiting for the packer (R132, R168). -/
structure VoltBlock where
  /-- K0eff of the start, and the partition epoch when the block came (R164, R165). -/
  k0 : Nat
  epoch : Nat
  /-- TaiStart and end of the window (R195). -/
  tai : Nat × Nat
  win : Nat
  g : Nat
  beam0 : Nat
  frame0 : Nat
  /-- Samples as sent: frame, beam, channel order; whole frames. -/
  frames : List (List Byte)
  deficit : Nat
  marks : Nat
  /-- The block completes the window's expected drains. -/
  last : Bool
  deriving DecidableEq, Repr

/-- A dump in progress (R140, R164): what its packets need. Spilling kinds and TOPK. -/
structure Dump where
  n : Nat
  /-- The run of the context that the integration belongs to. -/
  run : Nat
  frame : Nat
  /-- P · F of R165. -/
  count : Nat
  epoch : Nat
  /-- TaiStart and end of the interval, by the map in force when the dump began (R195). -/
  tai : Nat × Nat
  /-- Packets sent so far. -/
  sent : Nat
  /-- Groups where a parity error was found during the dump (R140). -/
  bad : List Nat
  dropped : Bool
  flags : Nat
  /-- TOPK contexts that were RUNNING when the dump began (R161). -/
  watch : List Nat
  /-- Sets of a TOPK interval as sent, with their marks (R170). -/
  sets : List (List Byte × Nat)
  deriving DecidableEq, Repr

/-- A top-k entry (R143): binary32 value, channel, index, time offset. -/
structure TopEnt where
  value : Nat
  chan : Nat
  x : Nat
  off : Nat
  deriving DecidableEq, Repr

/-- A watch integration of a TOPK context (R161): number, source dumps seen, first source interval. -/
structure Watch where
  m : Nat
  seen : Nat
  frame : Nat
  /-- TaiStart of the first source dump and end of the last one (R195). -/
  tai : Nat × Nat
  deriving DecidableEq, Repr

structure HuskSt where
  /-- Drains delivered to lane n and not yet applied, in order of arrival. -/
  held : Tbl (List DrainRec)
  /-- Grid row served last by lane n, plus 1 (R115). -/
  last : Tbl Nat
  ctx : Tbl (Option HuskCtx)
  /-- Runs opened by context c so far (R142). -/
  runs : Tbl Nat
  /-- Power-stage entries of lane n, keyed by lane, context, window, group, index, channel (R129). -/
  power : Tbl (Option (Int × Nat))
  dumps : Tbl (List Dump)
  volt : Tbl (List VoltBlock)
  /-- Packets of context c's current VOLT window sent, frames of the first block sent, a packet dropped, flags. -/
  voltPos : Tbl (Nat × Nat × Bool × Nat)
  /-- Integrations discarded unemitted, whose chaff records are stale (R142), at key context · 65536 + IntTag: the buckets
  written again since. -/
  stale : Tbl (Option (List Nat))
  /-- Top-k store: entries of a set in rank order, and the marks of a set (R143, R145). -/
  top : Tbl (List TopEnt)
  topMarks : Tbl Nat
  watch : Tbl (Option Watch)
  /-- A parity error in lane n of the Husk waits for the group that reads it (R349 site 0x0A): 1. -/
  parity : Tbl Nat
  /-- Of the drain under way from pod p: the steps whose values the back end has taken (R115); 1 where a reset of its lane or
  crossing has lost the steps that had left, so that the drain does not emerge (R32, R296). -/
  took : Tbl Nat
  lost : Tbl Nat
  /-- Cycles per lane in which steps were refused, counted since the last ECLK tick (R115, R380). -/
  refused : Tbl Nat
  deriving DecidableEq, Repr

def HuskSt.reset : HuskSt := ⟨[], [], [], [], [], [], [], [], [], [], [], [], [], [], [], []⟩

/-! ## Contexts and egress (chapter 06) -/

/-- A command waiting in the context command unit (R162). -/
structure CtxCmd where
  sched : Bool
  start : Bool
  c : Nat
  deriving DecidableEq, Repr

/-- What the part holds of a context beyond its entry. -/
structure CtxSt where
  /-- The start is a NEXT start whatever StartMode holds (R159, and the restart of R341). -/
  next : Bool
  /-- The weight fill has completed (R155). -/
  filled : Bool
  /-- K0eff is fixed (R153, R154). -/
  fixed : Bool
  /-- STOP has been received since the last START (R159). -/
  stop : Bool
  /-- It has restarted itself and completed no integration since (R159). -/
  restarted : Bool
  /-- Loss to report when it is RUNNING again: cause and first missed frame (R359, R360). -/
  loss : Option (Nat × Nat)
  /-- Tile pods whose fill met a parity error (R155). -/
  fillBad : List Nat
  deriving DecidableEq, Repr

def CtxSt.idle : CtxSt := ⟨false, false, false, false, false, none, []⟩

structure CtxsSt where
  rt : Tbl CtxSt
  /-- Commands waiting, in order of arrival: scheduled ones in the FIFO of class 11, at most one of CTX_CMD. -/
  queue : List CtxCmd
  /-- STOPs of the lead's context that R370 and R341 hold back. -/
  leadWait : List Nat
  /-- Contexts under the reload lock (R342). -/
  locked : List Nat
  /-- The drain of R370 refuses every START (R371). -/
  draining : Bool
  /-- A parity error at site 0x0B waits for the next packet (R352). -/
  egressBad : Bool
  /-- An Ethernet parity error at site 0x0C waits per port for the next frame (R349). -/
  portBad : Tbl Nat
  /-- PRODUCT packets delivered to this node's packer, oldest first: source, FlowTag, packet (R239). -/
  products : List (Nat × Nat × List Byte)
  /-- Next byte of the Sprout capture ring (R344). -/
  ring : Nat
  deriving DecidableEq, Repr

def CtxsSt.reset : CtxsSt := ⟨[], [], [], [], false, false, [], [], 0⟩

/-! ## Timing (chapter 07) -/

/-- A scheduled action (R201, R202): handle, due time 48.32, type, argument, queued after its due time (Asap). -/
structure SchAct where
  handle : Nat
  due : Nat
  ty : Nat
  arg : Nat
  late : Bool
  deriving DecidableEq, Repr

/-- A delivered TIME frame: its receive stamp (48.32) and payload (R198). -/
structure TimeMsg where
  rx : Nat
  payload : List Byte
  deriving DecidableEq, Repr

/-- An exchange under way at a slave (R199): number, master, stamps and corrections known so far. -/
structure Exch where
  seq : Nat
  master : Nat
  t2 : Nat
  corrSync : Int
  t1 : Option Nat
  t3 : Option Nat
  t4 : Option (Nat × Int)
  deriving DecidableEq, Repr

structure TimSt where
  /-- Transmit time-stamps per lane, oldest first: ID and 48.32 stamp (R197). -/
  txts : Tbl (List (Nat × Nat))
  /-- Words written to the lower registers of a multi-word value and not yet committed (R191). -/
  held : Tbl (Option (BitVec 32))
  /-- SetTime seconds, Realign step in 2^-32 s, and Capture that wait for the next second boundary (R192, R194). -/
  pendSet : Option Nat
  pendStep : Option Int
  pendCap : Bool
  /-- Inputs that have been QUALIFIED since RESET_N (R181), and inputs whose signal is lost (R179): 1. -/
  everQual : Tbl Nat
  los : Tbl Nat
  /-- ECLK ticks into the current second of an input's wait-to-restore time (R181). -/
  wtr : Tbl Nat
  /-- Consecutive measurements that meet the lock criteria (R187). -/
  lockCount : Nat
  /-- Phase error last measured per input, and the offset stored at the last change of input, in ps (R189). -/
  phase : Tbl Int
  stored : Int
  /-- Offset against ECLK last measured per input, in 0.01 ppb, without the saturation of the register (R180). -/
  offset : Tbl Int
  /-- Time-stamps of the last 16 pulses of PPS input m, newest first, in 125 ps of ECLK (R180). -/
  stamps : Tbl (List Nat)
  /-- Loop frequency and holdover model against XTAL_SYS, in 0.01 ppb (R187, R188). -/
  freq : Int
  model : Int
  /-- Loop frequency in the seconds of the current lock, newest first (R187). -/
  hist : List Int
  /-- Phase error in ps at the end of a drift window that this tick judges (R185). -/
  drift : Option Int
  /-- Phase error in ps against the model's prediction so far in the drift window (R185). -/
  driftAcc : Int
  /-- ECLK ticks for which PPS_OUT stays high (R193). -/
  pps : Nat
  /-- REF_OUT's phase since its last rising edge, in 125 ps; none while it is low and not running (R193). -/
  refOut : Option Nat
  /-- Edges of the 32.768 kHz crystal that the calendar's divider has counted (R194). -/
  calDiv : Nat
  /-- ECLK cycles since RESET_N: the model's own measure of intervals, 4 ns each. -/
  ticks : Nat
  /-- Queued actions in insertion order, and actions that are due, in the order they run, with their status (R201, R203). -/
  queue : List SchAct
  due : List (SchAct × Nat)
  /-- Uses of each queue entry so far, for the generation of its handle (R202). -/
  uses : Tbl Nat
  /-- The done queue, oldest first: handle, status, MARK value (R204). -/
  done : List (Nat × Nat × Nat)
  /-- ECLK tick number, plus 1, of the last SYNC event (R205). -/
  syncTick : Nat
  /-- Delivered TIME frames, oldest first. -/
  timeq : List TimeMsg
  /-- Key of the master heard: TimeRank, StateClass, node (R199). -/
  heard : Option (Nat × Nat × Nat)
  /-- Exchange number the master sends next. -/
  ftSeq : Nat
  exch : List Exch
  /-- Offset and delay of the last 16 exchanges, newest first. -/
  results : List (Int × Int)
  deriving DecidableEq, Repr

def TimSt.reset : TimSt where
  txts := []
  held := []
  pendSet := none
  pendStep := none
  pendCap := false
  everQual := []
  los := []
  wtr := []
  lockCount := 0
  phase := []
  stored := 0
  offset := []
  stamps := []
  freq := 0
  model := 0
  hist := []
  drift := none
  driftAcc := 0
  pps := 0
  refOut := none
  calDiv := 0
  ticks := 0
  queue := []
  due := []
  uses := []
  done := []
  syncTick := 0
  timeq := []
  heard := none
  ftSeq := 0
  exch := []
  results := []


/-! ## Lanes (chapter 08) -/

/-- Where a lane stands in the bring-up ladder (R219 to R224). -/
inductive LanePhase where
  /-- The lane is stopped, FAILED for good, or an Ethernet lane. -/
  | idle
  /-- At S0: CAPAB is exchanged. -/
  | capab
  /-- STEP_REQ for the next rung has been sent. -/
  | request
  /-- The receiver adapts at the next rung. -/
  | adapt
  /-- The 1 ms quiet time at the next rung. -/
  | quiet
  /-- STEP_OK has been sent. -/
  | confirm
  /-- Back at the rung below after a failed step: quiet time. -/
  | backQuiet
  /-- Back at the rung below: STEP_OK has been sent. -/
  | backConfirm
  /-- The rung of the ceiling or the cap is reached. -/
  | top
  /-- Lock was lost: 1 ms to regain it (R224). -/
  | relock
  /-- Lock was regained: 1 ms quiet. -/
  | relockQuiet
  deriving DecidableEq, Repr

/-- A lane's own position: ladder, coding, commas, FEC window, frame in progress. -/
structure LaneRun where
  phase : LanePhase
  /-- Rung reached, and the ceiling and coding of R220. -/
  rung : Nat
  ceil : Nat
  native : Bool
  capabTx : Bool
  capabRx : Bool
  /-- STEP_REQ sent; target of the last STEP_REQ received; step of the last STEP_OK received, plus 1. -/
  reqTx : Bool
  reqRx : Nat
  okRx : Nat
  /-- Consecutive failures of the step being tried, and of the step before, up to the rung reached (R222). -/
  fails : Nat
  prevFails : Nat
  /-- Block lock, FEC lock and legacy lock (R212, R213, R217). -/
  blockLock : Bool
  fecLock : Bool
  legacyLock : Bool
  /-- Next CommaCount sent, and the last received (R214). -/
  commaTx : Nat
  commaRx : Nat
  /-- Corrected symbols of the last 63 complete intervals, newest first, and of the current one (R228). -/
  corr : List Nat
  corrNow : Nat
  /-- Uncorrectable codewords of the current comma interval, and consecutive ones; consecutive correctable ones. -/
  uncNow : Nat
  uncRun : Nat
  corRun : Nat
  /-- A frame in progress (R211, R216): receive stamp, 48.32 (R196), and bytes; and that it holds an errored block. -/
  frame : Option (Nat × List Byte)
  frameBad : Bool
  /-- The frame carries the generator's reserved marker (R225). -/
  frameWarm : Bool
  /-- FEC codewords received since the rung's first, modulo 11; the latest and the one before were uncorrectable; no block has
  followed the latest (R213). -/
  cwPhase : Nat
  cwBad : Bool
  cwPrev : Bool
  cwFirst : Bool
  /-- Line bits of received blocks that carried frame bytes, by ECLK cycle, newest first (R225). -/
  load : List (Nat × Nat)
  /-- Comma intervals of incremental retraining so far (R226). -/
  retrain : Nat
  /-- The internal traffic generator runs (R225). -/
  warm : Bool
  deriving DecidableEq, Repr

def LaneRun.off : LaneRun where
  phase := .idle
  rung := 0
  ceil := 0
  native := false
  capabTx := false
  capabRx := false
  reqTx := false
  reqRx := 0
  okRx := 0
  fails := 0
  prevFails := 0
  blockLock := false
  fecLock := false
  legacyLock := false
  commaTx := 0
  commaRx := 0
  corr := []
  corrNow := 0
  uncNow := 0
  uncRun := 0
  corRun := 0
  frame := none
  frameBad := false
  frameWarm := false
  cwPhase := 0
  cwBad := false
  cwPrev := false
  cwFirst := false
  load := []
  retrain := 0
  warm := false

/-- What a working lane's transmit stream travels on during a swap (R230, R231). -/
inductive Bridge where
  /-- The old lane only. -/
  | old
  /-- The old lane; both from its next comma. -/
  | atComma
  /-- Both lanes. -/
  | both
  /-- The new lane only. -/
  | new
  deriving DecidableEq, Repr

/-- A swap of a working lane (R230, R231, R234). -/
structure SwapSt where
  spare : Nat
  sudden : Bool
  /-- A return from the spare: old is the spare, new the working lane (R234). -/
  back : Bool
  bridge : Bridge
  /-- The bridged copy has been recognised (R230 step 3). -/
  aligned : Bool
  /-- Two comma intervals compared clean. -/
  verified : Bool
  /-- The receive stream comes from the new lane. -/
  taken : Bool
  /-- Sudden: the old stream is gone and the comma on the new lane is awaited (R231 step 3). -/
  awaiting : Bool
  sentSw : Bool
  gotSw : Bool
  sentRel : Bool
  gotRel : Bool
  /-- Failed verifications. -/
  fails : Nat
  /-- The swap to the spare is complete. -/
  done : Bool
  /-- Next CommaCount of the stream that the spare carries (R214). -/
  count : Nat
  /-- CommaCount of the planned switch; the old and the new lane have received that comma; the frames that the new lane has
  received since, with their stamps, where the old lane's comma has not come (R230 step 4). -/
  switch : Option Nat
  oldAt : Bool
  newAt : Bool
  buf : List (Nat × List Byte)
  deriving DecidableEq, Repr

/-- The lane FEC codeword that a lane is sending (R213): bits of blocks that make no whole symbol yet, oldest lowest, and their
number; message symbols so far, and the 14 parity symbols of these. -/
structure FecTx where
  bits : Nat
  len : Nat
  syms : Nat
  rem : List Nat
  deriving DecidableEq, Repr

structure LnSt where
  /-- Frames delivered by the lane's receiver, oldest first (R211, R216), with their receive stamps (R196), by working lane. -/
  rxq : Tbl (List (Nat × List Byte))
  run : Tbl LaneRun
  /-- Swaps by working lane. -/
  swap : Tbl (Option SwapSt)
  /-- Steps taken on transmit coefficient k of an Ethernet lane, at key 5·lane + k (R236). -/
  coeff : Tbl Int
  /-- The 58 line bits last sent, and last received, on a native lane: its scrambler and descrambler (R209). -/
  txScr : Tbl Nat
  rxScr : Tbl Nat
  /-- The lane FEC codeword that is being sent (R213). -/
  fecTx : Tbl FecTx
  deriving DecidableEq, Repr

def LnSt.reset : LnSt := ⟨[], [], [], [], [], [], []⟩

/-! ## The fabric unit (chapter 09) -/

/-- A Gensy frame waiting for an output link (R237, R241). -/
structure QFrame where
  ty : Nat
  vc : Nat
  ts : Bool
  down : Bool
  hops : Nat
  dest : Nat
  src : Nat
  seq : Nat
  flow : Nat
  payload : List Byte
  /-- The lane it must leave on, for frames that are not routed (SEED, SEEDACK). -/
  via : Option Nat
  /-- The lane whose receive buffer holds it, for forwarded frames (R240). -/
  inLane : Option Nat
  /-- Receive stamp of a forwarded frame, 48.32 (R196, R199). -/
  rx : Nat
  /-- The link chosen for it by R245, in whose queue it waits (R248). -/
  link : Option Nat
  /-- A byte of it came with wrong parity, which it carries on (R348, R349 site 0x04). -/
  bad : Bool
  deriving DecidableEq, Repr

/-- What a neighbour's latest REACH said (R250). -/
structure ReachRep where
  role : Nat
  epoch : Nat
  anchor : Nat
  dist : List Nat
  deriving DecidableEq, Repr

/-- A REJOIN waiting for its frame (R255). -/
structure RejoinSt where
  epoch : Nat
  anchor : Nat
  frame : Nat
  deriving DecidableEq, Repr

/-- A SEED transfer on the sending side, per lane (R258, R335): active, or stopped for 100 ms; next offset
acknowledged and next sent; acknowledgements of the same offset; the slot, length and ImageHash it sends. -/
structure SeedTx where
  active : Bool
  acked : Nat
  next : Nat
  dup : Nat
  slot : Nat
  len : Nat
  hash : Nat
  deriving DecidableEq, Repr

def SeedTx.idle : SeedTx := ⟨false, 0, 0, 0, 0, 0, 0⟩

structure FabSt where
  /-- Next Sequence per destination and channel, at key 4·dest + vc. -/
  seq : Tbl Nat
  /-- Routed, SEED and SEEDACK frames waiting, in the order they came. -/
  txq : List QFrame
  /-- Link-local frames waiting per lane: type and payload. -/
  llq : Tbl (List (Nat × List Byte))
  /-- DATA frames a link has sent since its last MGMT frame (R241). -/
  dataRun : Tbl Nat
  /-- Cycles without credit counted per link since the last ECLK tick (R380). -/
  starved : Tbl Nat
  /-- Sender side of R240 per lane and channel, at key 4·lane + vc: the peer's InitCredits, units sent, units freed. -/
  peerInit : Tbl Nat
  sent : Tbl Nat
  freed : Tbl Nat
  /-- Receiver side: units received and units freed. -/
  rxUnits : Tbl Nat
  rxFreed : Tbl Nat
  /-- ECLK cycle in which a HELLO was last accepted, plus 1 (R242). -/
  heard : Tbl Nat
  /-- Frames that a link has begun since it was last DOWN (R249). -/
  begun : Tbl Nat
  /-- Consecutive good HELLOs of a QUARANTINED link (R243). -/
  good : Tbl Nat
  /-- Latest REACH per lane (R251). -/
  report : Tbl (Option ReachRep)
  /-- Members reachable at the previous decision (R255). -/
  half : List Nat
  /-- The node has been PRIMARY since the fabric unit was enabled (R253). -/
  wasPrimary : Bool
  /-- A reload has stopped the unit in another role than FORMING: it starts again as MINORITY (R340). -/
  again : Bool
  /-- The pending REJOIN of this node as a receiver. -/
  rejoin : Option RejoinSt
  /-- The anchor's last REJOIN payload, and per node that has not acknowledged it the Sequences of the copies sent to it. -/
  rejMsg : List Byte
  rejWait : Tbl (Option (List Nat))
  /-- Delivered frames not yet taken: source, Sequence, payload. -/
  rejoinq : List (Nat × Nat × List Byte)
  ackq : List (Nat × Nat × List Byte)
  mreadq : List (Nat × Nat × List Byte)
  mrespq : List (Nat × Nat × List Byte)
  /-- Delivered link-local and seeding payloads per lane, not yet taken. -/
  helloq : Tbl (List (List Byte))
  creditq : Tbl (List (List Byte))
  reachq : Tbl (List (List Byte))
  seedq : Tbl (List (List Byte))
  seedackq : Tbl (List (List Byte))
  /-- Seed receiver: accepted lane, next offset expected, frames since the last SEEDACK (R258). -/
  seedLane : Option Nat
  seedGot : Nat
  seedCount : Nat
  seedTx : Tbl SeedTx
  /-- Sites 0x04 and 0x0C: a parity error waits per lane for the next frame received or sent (R349). -/
  rxBad : Tbl Nat
  txBad : Tbl Nat
  deriving DecidableEq, Repr

def FabSt.reset : FabSt where
  seq := []
  txq := []
  llq := []
  dataRun := []
  starved := []
  peerInit := []
  sent := []
  freed := []
  rxUnits := []
  rxFreed := []
  heard := []
  begun := []
  good := []
  report := []
  half := []
  wasPrimary := false
  again := false
  rejoin := none
  rejMsg := []
  rejWait := []
  rejoinq := []
  ackq := []
  mreadq := []
  mrespq := []
  helloq := []
  creditq := []
  reachq := []
  seedq := []
  seedackq := []
  seedLane := none
  seedGot := 0
  seedCount := 0
  seedTx := []
  rxBad := []
  txBad := []

/-! ## DRAM controllers (chapter 10) -/

/-- A request queued in a bank (R264): a read, or a write with its strobes as 64 bits; the line within the
pseudo-channel. The data is in the store already. -/
structure DramReq where
  write : Bool
  line : Nat
  strobes : Nat
  deriving DecidableEq, Repr

structure DmcSt where
  /-- Per controller unit: the pseudo-channel whose clean map the unit keeps, plus 1; 0 none (R276). -/
  cleanOf : Tbl Nat
  /-- The clean map: lines written in full, per block, at key pc·196608 + block; a block counts when all 64 are (R276). -/
  cleanLines : Tbl Nat
  /-- Per pseudo-channel being copied: its target plus 1 (R275). -/
  copy : Tbl Nat
  /-- Requests waiting per bank, oldest first, at key 48·pc + bank (R264). -/
  queue : Tbl (List DramReq)
  /-- Open row plus 1, and history counter of each bank (R265). -/
  row : Tbl Nat
  hist : Tbl Nat
  /-- The bank drains its writes (R264). -/
  drain : Tbl Nat
  /-- Owed refreshes per pseudo-channel (R268, R269). -/
  owed : Tbl Nat
  /-- Retraining steps of a stale pseudo-channel so far (R272). -/
  steps : Tbl Nat
  /-- Per pseudo-channel: the bank that received the last activate (R264). -/
  rot : Tbl Nat
  /-- Refresh tokens in use: the pseudo-channel and the ECLK cycle at which it is given back (R267). -/
  tokens : List (Nat × Nat)
  /-- ECLK cycle until which a pseudo-channel is stalled by a refresh and a retraining step (R267, R272). -/
  stall : Tbl Nat
  /-- Lines that a pseudo-channel has moved, by ECLK cycle, newest first (R271). -/
  load : Tbl (List (Nat × Nat))
  /-- Training steps passed by a pseudo-channel in TRAINING; 1 where it repeats the step in full after a failed verification;
  some pseudo-channel has done so in this exit from RETAIN (R270, R373). -/
  train : Tbl Nat
  again : Tbl Nat
  slow : Bool
  /-- Sudden retirements that wait for a clean map (R276). -/
  sudden : List Nat
  /-- 1 where a pseudo-channel took over lines of wrong parity by a copy, and then the lines, by block, at key pc·196608 + block,
  that are not wrong (R275). -/
  wrong : Tbl Nat
  rightLines : Tbl Nat
  /-- The units are in self-refresh, their DCLK stopped (R273). -/
  asleep : Bool
  /-- State of a pseudo-channel that is out of service while it trains: 6 RETIRED, 7 FAILED; 0 none (R270, R277). -/
  was : Tbl Nat
  /-- Last reading of each stack, and the reading a pseudo-channel's training results are tagged with, in tenths of a degree (R267,
  R271, R272). -/
  temp : Tbl Int
  tagTemp : Tbl Int
  /-- Bursts, by pseudo-channel and place as in the HBM tables divided by 32, for which the stack reports an uncorrectable error at
  their next read (R263). -/
  sev : List Nat
  deriving DecidableEq, Repr

def DmcSt.reset : DmcSt where
  cleanOf := []
  cleanLines := []
  copy := []
  queue := []
  row := []
  hist := []
  drain := []
  owed := []
  steps := []
  rot := []
  tokens := []
  stall := []
  load := []
  train := []
  again := []
  slow := false
  sudden := []
  wrong := []
  rightLines := []
  asleep := false
  was := []
  temp := []
  tagTemp := []
  sev := []

/-! ## The matrix and the crossings (chapter 11) -/

/-- How far an outstanding transaction has come: accepted at its port, granted by its target, or done, its response due. -/
inductive TxnStage where
  | accepted | granted | done
  deriving DecidableEq, Repr

/-- An outstanding transaction (R284, R285): ID, target port (32: none, DECODE_ERR), write, how far it has come, and the response's
bytes with those of wrong parity. -/
structure MtxTxn where
  id : Nat
  target : Nat
  write : Bool
  stage : TxnStage
  bytes : List Byte
  bad : List Bool
  deriving DecidableEq, Repr

/-- A transaction that stands at its port, or waits for its grant: ID, matrix address, beats, data of a write (R283). -/
structure MtxReq where
  id : Nat
  addr : Nat
  beats : Nat
  write : Option LineWrite
  deriving DecidableEq, Repr

/-- A granted write burst whose beats are on their way: initiator, ID, address of the next beat, beats left, their data, and whether
a reset of the initiator has switched its strobes off (R288, R289). -/
structure MtxBurst where
  init : Nat
  id : Nat
  addr : Nat
  left : Nat
  data : LineWrite
  off : Bool
  deriving DecidableEq, Repr

structure MtxSt where
  /-- Pending pulses of class 10 by instance: the time counter at the sending tick, 48.32, plus 1; 0 none (R293, R383). -/
  pulse : Tbl Nat
  /-- Outstanding transactions per initiator, oldest first. -/
  out : Tbl (List MtxTxn)
  /-- IDs fenced per initiator (R290). -/
  fenced : Tbl (List Nat)
  /-- Initiators waiting for a credit of a target port, longest first (R287). -/
  wait : Tbl (List Nat)
  /-- Crossings whose peer is in reset, at key 1024·class + instance: 1 (R296). -/
  xheld : Tbl Nat
  /-- The egress buffer as the matrix addresses it: outbound runs by engine, then packets (R281, R282). -/
  egress : Tbl (BitVec 8)
  /-- Requests that stand at an initiator's port, oldest first (R284, R285, R287). -/
  port : Tbl (List MtxReq)
  /-- Requests that hold a credit of a target port and wait for its grant, with their initiators, oldest first (R288). -/
  ungranted : Tbl (List (Nat × MtxReq))
  /-- Weighted round robin of a target port: the initiator whose turn it is and the grants left in it (R288). -/
  turn : Tbl (Nat × Nat)
  /-- The first MCLK cycle, counted with four to an ECLK tick, in which a target port may grant, and may pass write beats. -/
  grantAt : Tbl Nat
  beatAt : Tbl Nat
  /-- Write bursts that a target port has granted and whose beats have not all passed, oldest first (R288). -/
  bursts : Tbl (List MtxBurst)
  /-- Where the next packet goes in the packet half of the egress buffer (R281). -/
  pkt : Nat
  deriving DecidableEq, Repr

def MtxSt.reset : MtxSt := ⟨[], [], [], [], [], [], [], [], [], [], [], [], 0⟩


/-! ## The image loader, scrubber and Sprout mode (chapter 13) -/

/-- A reload under way (R341). -/
structure ReloadSt where
  restart : Bool
  mask : Nat
  /-- Units touched: section type and index; the whole Hull is index 4 of section 5 (R340). -/
  units : List (Nat × Nat)
  /-- Contexts touched. -/
  ctxs : List Nat
  /-- Contexts that were ARMED or RUNNING before step 1 and may be restarted, with the first frame they miss. -/
  again : List (Nat × Option Nat)
  deriving DecidableEq, Repr

structure ImgSt where
  /-- A stream is open; it is a STAGE; it comes from a seed (R331, R332, R339). -/
  open' : Bool
  stage : Bool
  seed : Bool
  /-- The loader's on-die buffer: header and section table (R330). -/
  head : List Byte
  /-- The check at the end of a full stream is due (R328). -/
  check : Bool
  /-- Length of the applied image and of the staged one; 0 where there is none. -/
  appliedLen : Nat
  stagedLen : Nat
  /-- The node map in force: serial and node ID (R325). -/
  nodeMap : List (Nat × Nat)
  /-- The part holds no node ID and waits for a seed (R258, R336). -/
  unassigned : Bool
  /-- An image of a seed was refused: no new seed before 100 ms have passed (R335). -/
  seedHold : Bool
  /-- The boot source has acted since the last RESET_N or STANDBY (R336, R375). -/
  booted : Bool
  /-- A new map has replaced the one the applied image lay under: a refused image leaves the loader EMPTY (R330). -/
  mapLost : Bool
  /-- The golden copy by register address, and its words with an uncorrectable error (R337, R353). -/
  golden : Tbl (Option (BitVec 32))
  goldenBad : Tbl Nat
  /-- The reload in progress. -/
  reload : Option ReloadSt
  /-- The Sprout image's HBM records wait for DMC_STATUS.Ready (R375). -/
  romHbm : Bool
  /-- The self-test starts at the next entry to RUN; next stage plus 1 while it runs (R346). -/
  testArmed : Bool
  testStage : Nat
  /-- Pattern generators: next sample index and common state per engine, own state per slot at 16·e + p (R345). -/
  spN : Tbl Nat
  spCom : Tbl (Option Nat)
  spOwn : Tbl (Option Nat)
  deriving DecidableEq, Repr

def ImgSt.reset : ImgSt where
  open' := false
  stage := false
  seed := false
  head := []
  check := false
  appliedLen := 0
  stagedLen := 0
  nodeMap := []
  unassigned := false
  seedHold := false
  booted := false
  mapLost := false
  golden := []
  goldenBad := []
  reload := none
  romHbm := false
  testArmed := false
  testStage := 0
  spN := []
  spCom := []
  spOwn := []

/-! ## Control plane (chapter 12) -/

/-- A register write that is posted and not yet executed (R308): address, value, and whether it is the first of its
transfer, which also holds the four address bytes in the write buffer. -/
structure Posted where
  addr : Nat
  value : BitVec 32
  first : Bool
  deriving DecidableEq, Repr

structure I3cSt where
  /-- The address pointer (R303, R305). -/
  ptr : Nat
  /-- The write buffer, oldest first (R308). -/
  posted : List Posted
  /-- The prefetch buffer: words of the registers from the pointer on, at most 8 (R309). -/
  prefetch : List (BitVec 32)
  /-- The part ignores the bus until the HDR Exit Pattern (R298). -/
  hdrIgnore : Bool
  /-- A parity or CRC error since the last GETSTATUS (R302). -/
  errSince : Bool
  /-- An SCL edge since RESET_N (GLB_STATUS.IbiEnabled, HjEnabled). -/
  sclSeen : Bool
  /-- IBIs and Hot-Join are enabled by ENEC (R302). -/
  ibiEn : Bool
  hjEn : Bool
  /-- Enabled causes pending at the acknowledge of the last IBI and not cleared since (R315). -/
  ackSet : BitVec 32
  /-- An IBI is being requested and has won arbitration (R315, R316). -/
  ibiReq : Bool
  /-- ECLK ticks at the last attempt of the request that stands, plus 1; 0: none has been made (R315). -/
  ibiAt : Nat
  /-- ECLK ticks at the last Hot-Join request, 0 at RESET_N release; and an assignment or DISEC has ended the requests (R301). -/
  hjAt : Nat
  hjDone : Bool
  deriving DecidableEq, Repr

def I3cSt.reset : I3cSt where
  ptr := 0
  posted := []
  prefetch := []
  hdrIgnore := false
  errSince := false
  sclSeen := false
  ibiEn := true
  hjEn := true
  ackSet := 0
  ibiReq := false
  ibiAt := 0
  hjAt := 0
  hjDone := false

/-! ## Error log and availability account (chapter 14) -/

/-- A lost span of the account (R361), in units of 2^-16 s of TAI, and the lowest cause merged into it. -/
structure Span where
  lo : Nat
  hi : Nat
  cause : Nat
  deriving DecidableEq, Repr

/-- What a second boundary writes into the VBAT domain (R362): the totals of 2^-16 s, the fabric's account in time-counter
units and the summed length of the unretired spans. -/
structure VbatWrite where
  acc : Tbl Nat
  fab : Nat
  pend : Nat
  deriving DecidableEq, Repr

structure ErlSt where
  /-- Slot and full time-counter seconds of the newest entry (R356). -/
  newest : Option (Nat × Nat)
  /-- Register words that hold an uncorrectable SECDED error (R353): 1. -/
  eccBad : Tbl Nat
  /-- Unretired spans, disjoint, rising (R361). -/
  spans : List Span
  /-- The second-boundary write on its way through the crossing to the VBAT domain (R362, R364). -/
  vbat : Option VbatWrite
  /-- The running totals that the VBAT registers receive each second (R362): total at 0, causes 1 to 7, in 2^-16 s. -/
  acc : Tbl Nat
  /-- The fabric's account, in time-counter units (R363). -/
  fab : Nat
  /-- The times at which the part has left RUN, 2^-16 s, newest first (R360). -/
  leftRun : List Nat
  deriving DecidableEq, Repr

def ErlSt.reset : ErlSt := ⟨none, [], [], none, [], 0, []⟩


/-! ## Power, pins and the test access port (chapters 15, 17) -/

/-- What a power transition in progress waits for (R367). -/
inductive PwrPhase where
  /-- No transition. -/
  | none
  /-- STANDBY to READY: the PLLs lock (R375 step 1). -/
  | pll
  /-- STANDBY to READY: training, boot source, lanes (R375 steps 2 to 4). -/
  | start
  /-- The drain of R370; the target is in PWR_STATUS.Target. -/
  | drain
  /-- The waits of R372. -/
  | retain
  /-- Exit from RETAIN (R373). -/
  | exit
  deriving DecidableEq, Repr

structure PwrSt where
  /-- Main supplies absent: OFF (R365). -/
  off : Bool
  /-- RESET_N is low (R402). -/
  inReset : Bool
  phase : PwrPhase
  /-- THERM_WARN may be raised by the next reading of 90.00 °C or more (R376). -/
  warnArmed : Bool
  /-- A junction reading has been taken since RESET_N. -/
  read : Bool
  /-- THERMTRIP_N is latched low (R377, R402). -/
  trip : Bool
  /-- The VBAT domain runs from VBAT (R405). -/
  fromVbat : Bool
  /-- The instruction in force at the test access port (R410). -/
  tap : TapIns
  /-- The pins have followed the boundary register since the last RESET_N: the part's logic may be in any state (R410). -/
  tapUsed : Bool
  /-- The boundary register of the test access port (R410). -/
  boundary : BitVec 64
  /-- VBAT has fallen below 1.6 V (R194, R405). -/
  vbatLow : Bool
  /-- ECLK cycle in which the last transition began (PWR_TTIME). -/
  began : Nat
  /-- Target of the last transition that completed (PWR_STATUS.Target); 0 none since RESET_N. -/
  last : Nat
  deriving DecidableEq, Repr

def PwrSt.reset : PwrSt where
  off := false
  inReset := false
  phase := .none
  warnArmed := true
  read := false
  trip := false
  fromVbat := false
  tap := .idcode
  tapUsed := false
  boundary := 0
  vbatLow := false
  began := 0
  last := 0

/-! ## Counters and Pip (chapter 16) -/

structure CntSt where
  /-- PMC_SNAPTIME of a PMC_CMD capture waits for the next ECLK tick (R383). -/
  snapWait : Bool
  /-- No record is collected until a pop frees a slot (R391). -/
  pipStop : Bool
  deriving DecidableEq, Repr

def CntSt.reset : CntSt := ⟨false, false⟩

/-! ## The whole state -/

structure State where
  /-- The commands waiting, first in first out. The model's own field. -/
  pending : List Instr
  /-- Every architectural register, by byte address; unlisted: `regReset`. -/
  regs : Tbl (BitVec 32)
  /-- The R17 shadows of the host bridge, by the address of the upper word; unlisted: the reset value. -/
  shadow : Tbl (BitVec 32)
  /-- The shadows of fabric control (R385). -/
  shadowFab : Tbl (BitVec 32)
  /-- HBM bytes by physical place pc·805306368 + pa (R261); unlisted: 0. -/
  hbm : Tbl (BitVec 8)
  /-- HBM bytes stored with wrong parity (R274): 1 where wrong. -/
  hbmBad : Tbl Nat
  /-- Draws of free values so far. The model's own field. -/
  fresh : Nat
  /-- The time counter in 48.80 fixed point, in units of 2^-80 s (R190). -/
  time : Nat
  /-- What has left the part, oldest first. The model's own field. -/
  wireOut : List Out
  fch : FchSt
  hull : HullSt
  array : ArraySt
  husk : HuskSt
  ctxs : CtxsSt
  tim : TimSt
  ln : LnSt
  fab : FabSt
  dmc : DmcSt
  mtx : MtxSt
  img : ImgSt
  i3c : I3cSt
  erl : ErlSt
  pwr : PwrSt
  cnt : CntSt
  deriving DecidableEq, Repr

/-- The machine right after RESET_N is released with both straps 0, never powered before: power state STANDBY, every
register at its reset value, every store empty, no command waiting (R18, R365). -/
def State.reset : State where
  pending := []
  regs := []
  shadow := []
  shadowFab := []
  hbm := []
  hbmBad := []
  fresh := 0
  time := 0
  wireOut := []
  fch := FchSt.reset
  hull := HullSt.reset
  array := ArraySt.reset
  husk := HuskSt.reset
  ctxs := CtxsSt.reset
  tim := TimSt.reset
  ln := LnSt.reset
  fab := FabSt.reset
  dmc := DmcSt.reset
  mtx := MtxSt.reset
  img := ImgSt.reset
  i3c := I3cSt.reset
  erl := ErlSt.reset
  pwr := PwrSt.reset
  cnt := CntSt.reset

end Sys2Proof.Machine
end

