-- ==== Sys2Proof/Machine/Ops.lean ====
section
/-! DEFINITION. The named operations over State that the commands share: tables, registers and fields, counters
(R66, R379), free values, interrupts (R312 to R314), the error log (R354 to R356), power and clocks (R365), and HBM
by the address map of R261 with its parity (R274). -/

namespace Sys2Proof.Machine

/-! ## Tables -/

/-- The value at key i; d where the table lists none. -/
def tget {α : Type} (d : α) : Tbl α → Nat → α
  | [], _ => d
  | (k, v) :: t, i => if k = i then v else tget d t i

/-- The table without key i. -/
def terase {α : Type} : Tbl α → Nat → Tbl α
  | [], _ => []
  | (k, v) :: t, i => if k = i then terase t i else (k, v) :: terase t i

/-- Insertion in key order of a key the table does not list. -/
def tins {α : Type} : Tbl α → Nat → α → Tbl α
  | [], i, v => [(i, v)]
  | (k, w) :: t, i, v => if i < k then (i, v) :: (k, w) :: t else (k, w) :: tins t i v

/-- The table with value v at key i; the default is not listed. -/
def tset {α : Type} [DecidableEq α] (d : α) (t : Tbl α) (i : Nat) (v : α) : Tbl α :=
  if v = d then terase t i else tins (terase t i) i v

/-- The table with f applied to the value at key i. -/
def tmod {α : Type} [DecidableEq α] (d : α) (t : Tbl α) (i : Nat) (f : α → α) : Tbl α :=
  tset d t i (f (tget d t i))

/-- Rising keys, all above lo. -/
def tsorted {α : Type} : Nat → Tbl α → Bool
  | _, [] => true
  | lo, (k, _) :: t => decide (lo ≤ k) && tsorted (k + 1) t

/-- Canonical form of a table with default given by key: rising keys, no entry equal to the default. -/
def twf {α : Type} [DecidableEq α] (d : Nat → α) (t : Tbl α) : Bool :=
  tsorted 0 t && t.all fun e => decide (e.2 ≠ d e.1)

/-! ## Outcomes -/

/-- The answer of a meaning: refused where an operand lies outside its range, else the next state t. -/
def reply (bad : Prop) [Decidable bad] (t : State) : Host.Outcome State Fault Refusal :=
  if bad then .refused .illFormed else .next t

/-! ## Registers and fields -/

/-- Mask of a field. -/
def Fld.mask (f : Fld) : BitVec 32 := BitVec.ofNat 32 (2 ^ f.width - 1) <<< f.lo

/-- A field of a word. -/
def Fld.of (f : Fld) (w : BitVec 32) : Nat := (w >>> f.lo).toNat % 2 ^ f.width

/-- A word with a field replaced. -/
def Fld.into (f : Fld) (w : BitVec 32) (v : Nat) : BitVec 32 :=
  (w &&& ~~~f.mask) ||| ((BitVec.ofNat 32 v <<< f.lo) &&& f.mask)

/-- The register word at a byte address. -/
def State.reg (s : State) (a : Nat) : BitVec 32 := tget (regReset a) s.regs a

/-- Write of a register word. -/
def State.setReg (s : State) (a : Nat) (w : BitVec 32) : State :=
  { s with regs := tset (regReset a) s.regs a w }

/-- A field's value. -/
def State.fget (s : State) (f : Fld) : Nat := f.of (s.reg f.addr)

/-- A field as a flag. -/
def State.flag (s : State) (f : Fld) : Bool := decide (s.fget f ≠ 0)

/-- Write of a field by the part. -/
def State.fset (s : State) (f : Fld) (v : Nat) : State := s.setReg f.addr (f.into (s.reg f.addr) v)

/-- A 32-bit counter rises by n, wrapping (R66). -/
def State.incBy (s : State) (a n : Nat) : State := s.setReg a (s.reg a + BitVec.ofNat 32 n)

/-- A 32-bit counter rises by 1. -/
def State.inc (s : State) (a : Nat) : State := s.incBy a 1

/-- f where c holds. -/
def State.when (s : State) (c : Bool) (f : State → State) : State := if c then f s else s

/-- f for each element, first to last. -/
def State.each {α : Type} (s : State) (l : List α) (f : State → α → State) : State := l.foldl f s

/-- Event counter n rises by k, wrapping at 2^48 (R379, R380). -/
def State.pmc (s : State) (n k : Nat) : State :=
  let v := ((s.reg (PMC_LIVE_LO n)).toNat + 2 ^ 32 * (s.reg (PMC_LIVE_HI n)).toNat + k) % 2 ^ 48
  (s.setReg (PMC_LIVE_LO n) (BitVec.ofNat 32 v)).setReg (PMC_LIVE_HI n) (BitVec.ofNat 32 (v / 2 ^ 32))

/-- One free value is drawn. -/
def State.draw (s : State) : State := { s with fresh := s.fresh + 1 }

/-- What leaves through a pin that the boundary register may take over; answers of the matrix, the bridge and the DRAM stay on the die,
and TDO belongs to the test access port. -/
def Out.onPin : Out → Bool
  | .matrix _ _ _ _ _ => false
  | .bridge _ _ => false
  | .dram _ _ => false
  | .tdo _ => false
  | _ => true

/-- The pins follow the boundary register and not the part (R410). -/
def State.pinsAway (s : State) : Bool :=
  match s.pwr.tap with
  | .extest | .highz | .extestPulse | .extestTrain => true
  | _ => false

/-- Something leaves the part. -/
def State.emit (s : State) (o : Out) : State :=
  if o.onPin && s.pinsAway then s else { s with wireOut := s.wireOut ++ [o] }

/-- Time-counter seconds, 48 bits. -/
def State.sec (s : State) : Nat := s.time / 2 ^ 80 % 2 ^ 48

/-- Time-counter fraction [47:16] of its 48.48 form: the top 32 bits of the fraction. -/
def State.frac32 (s : State) : Nat := s.time / 2 ^ 48 % 2 ^ 32

/-- A 64-bit or wider value in consecutive registers: two words. -/
def State.get2 (s : State) (lo hi : Nat) : Nat := (s.reg lo).toNat + 2 ^ 32 * (s.reg hi).toNat

/-- Write of a two-word value. -/
def State.set2 (s : State) (lo hi v : Nat) : State :=
  (s.setReg lo (BitVec.ofNat 32 v)).setReg hi (BitVec.ofNat 32 (v / 2 ^ 32))

/-! ## Power and clocks (R365, R377) -/

/-- PWR_STATUS.State: 1 STANDBY, 2 RETAIN, 3 READY, 4 RUN. -/
def State.pwrState (s : State) : Nat := s.fget PWR_STATUS_State

/-- The part is in RUN and no trip has stopped its clocks. -/
def State.inRun (s : State) : Bool := decide (s.pwrState = 4) && !s.flag PWR_STATUS_Tripped

/-- The units of R368 run: in RUN, until they are held for the entry to RETAIN (R370 step 3). -/
def State.isRun (s : State) : Bool := s.inRun && decide (s.pwr.phase ≠ .retain)

/-- ACLK, FCLK and DCLK run: in READY and RUN, and from PLL lock on the way to READY (R365, R375). -/
def State.fastClk (s : State) : Bool :=
  (decide (3 ≤ s.pwrState) || decide (s.pwr.phase = .start)) && !s.flag PWR_STATUS_Tripped

/-- MCLK and LCLK run. -/
def State.mclk (s : State) : Bool := decide (2 ≤ s.pwrState) || decide (s.pwr.phase = .start)

/-- The part has its main supplies and is out of reset (R365, R402). -/
def State.awake (s : State) : Bool := !s.pwr.off && !s.pwr.inReset

/-- A crossing, by class and instance, is held because its peer is in reset (R296). -/
def State.xIsHeld (s : State) (k n : Nat) : Bool := decide (tget 0 s.mtx.xheld (1024 * k + n) ≠ 0)

/-- Some crossing to the DMC units is held (class 4 of R292), or the units are in self-refresh and refuse requests (R273). What the
part's units do with HBM waits then, whatever unit it would reach (log entry 288). -/
def State.hbmHeld (s : State) : Bool := s.dmc.asleep || s.mtx.xheld.any fun e => decide (e.1 / 1024 = 4)

/-- The instance of class 9 that an access to the register at a byte address crosses (R292): ECLK, FCLK, DCLK, ACLK, the lanes and
the 32.768 kHz domain; none for PCLK and MCLK. -/
def regCrossing (a : Nat) : Option Nat :=
  if a / 65536 = 2 ∨ a / 65536 = 4 then some 0
  else if a / 65536 = 3 then some 100
  else if 0x100000 ≤ a ∧ a < 0x118000 then
    let off := a % 1024
    if off = 4 ∨ 0x14 ≤ off ∧ off ≤ 0x20 ∨ 0x100 ≤ off ∧ off < 0x130 then some (4 + (a - 0x100000) / 1024)
    else if 0x300 ≤ off ∧ off < 0x310 then some 1 else none
  else if 0x200000 ≤ a ∧ a < 0x300000 then some 1
  else if 0x400000 ≤ a ∧ a < 0x800000 then some 3
  else if 0xA00000 ≤ a ∧ a < 0xB00000 then some 2
  else none

/-- The address lies in the DMW window (R279). -/
def isDmw (a : Nat) : Bool := decide (0x10000000 ≤ a) && decide (a < 0x20000000)

/-- The address lies in the image window, behind which the loader stores in the HBM (R331). -/
def isImgWin (a : Nat) : Bool := decide (0xE01000 ≤ a) && decide (a < 0xE02000)

/-- An access to the register at a byte address finds the crossing of the peripheral bridge or of the register's domain held, and
waits there (R291, R296); the DMW window and the image window lead to the HBM. -/
def State.regHeld (s : State) (a : Nat) : Bool :=
  s.xIsHeld 8 0 || ((isDmw a || isImgWin a) && s.hbmHeld) || (match regCrossing a with
    | some n => s.xIsHeld 9 n
    | none => false)

/-! ## Interrupts (R312 to R314) -/

/-- Cause code c becomes pending. -/
def State.raise (s : State) (c : Nat) : State :=
  s.setReg GLB_INTPEND (s.reg GLB_INTPEND ||| (1#32 <<< (c - 1)))

/-- Cause 0x07 for lane l; GLB_LANESUM names it. -/
def State.raiseLane (s : State) (l : Nat) : State :=
  (s.setReg (GLB_LANESUM (l / 32)) (s.reg (GLB_LANESUM (l / 32)) ||| (1#32 <<< (l % 32)))).raise 7

/-- The bits set in both GLB_INTPEND and GLB_INTEN. -/
def State.enabledCauses (s : State) : BitVec 32 := s.reg GLB_INTPEND &&& s.reg GLB_INTEN

/-- The lowest set bit among the low n bits, plus 1; 0 where none is set. -/
def lowestCode (w : BitVec 32) : Nat → Nat → Nat
  | 0, _ => 0
  | n + 1, i => if w.getLsbD i then i + 1 else lowestCode w n (i + 1)

/-- The top cause code of R313. -/
def State.topCause (s : State) : Nat := lowestCode s.enabledCauses 16 0

/-- ALERT_N is driven low (R314). -/
def State.alert (s : State) : Bool := decide (s.enabledCauses ≠ 0)

/-- ALERT_N as the part drives it: low or released, and released while RESET_N is low (R314, R395); none where the pin follows the
boundary register (R410). -/
def State.alertPin (s : State) : Option Bool := if s.pinsAway then none else some (s.awake && s.alert)

/-- THERMTRIP_N in the same way: low from the trip on (R377, R402). -/
def State.tripPin (s : State) : Option Bool := if s.pinsAway then none else some s.pwr.trip

/-! ## The error log (R354 to R356) -/

/-- Word E0 of an entry (R355). -/
def logE0 (code site inst : Nat) : BitVec 32 :=
  BitVec.ofNat 32 (code % 256 * 2 ^ 24 + site % 256 * 2 ^ 16 + inst % 4096)

/-- An entry in a new slot (R354, R355). -/
def State.logNew (s : State) (e0 info : BitVec 32) : State :=
  let n := s.fget ERL_COUNT_NextSlot
  let s := s.setReg (ERL_RING n 0) e0
  let s := s.setReg (ERL_RING n 1) info
  let s := s.setReg (ERL_RING n 2) (BitVec.ofNat 32 s.frac32)
  let s := s.setReg (ERL_RING n 3) (BitVec.ofNat 32 (s.sec % 2 ^ 16))
  let s := s.fset ERL_COUNT_NextSlot ((n + 1) % 256)
  let s :=
    if s.fget ERL_COUNT_Unread = 256 then (s.inc ERL_LOST).fset ERL_STATUS_Wrapped 1
    else s.fset ERL_COUNT_Unread (s.fget ERL_COUNT_Unread + 1)
  let s := s.fset ERL_STATUS_NotEmpty 1
  { s.raise 9 with erl := { s.erl with newest := some (n, s.sec) } }

/-- An event of R357: it merges into the newest entry (R356) or takes a new one. Operations that raise several events at once
call it in ascending Code and Instance (R356; log entry 272). -/
def State.log (s : State) (code site inst info : Nat) : State :=
  let s := s.pmc 10 1
  let e0 := logE0 code site inst
  match s.erl.newest with
  | some (n, sec) =>
    if s.reg (ERL_RING (n % 256) 0) = e0 ∧ sec = s.sec then
      let r := (s.reg (ERL_RING (n % 256) 3)).toNat
      s.setReg (ERL_RING (n % 256) 3) (BitVec.ofNat 32 (min (r / 2 ^ 16 + 1) 65535 * 2 ^ 16 + r % 2 ^ 16))
    else s.logNew e0 (BitVec.ofNat 32 info)
  | none => s.logNew e0 (BitVec.ofNat 32 info)

/-- The event just logged has come n times more (R356). -/
def State.logMore (s : State) (n : Nat) : State :=
  match s.erl.newest with
  | some (k, _) =>
    let r := (s.reg (ERL_RING (k % 256) 3)).toNat
    (s.pmc 10 n).setReg (ERL_RING (k % 256) 3) (BitVec.ofNat 32 (min (r / 2 ^ 16 + n) 65535 * 2 ^ 16 + r % 2 ^ 16))
  | none => s

/-- A parity error at a site (R350): counter and PARITY entry. The site's response is the caller's. -/
def State.parity (s : State) (site inst info : Nat) : State :=
  ((s.inc (ERL_PARCNT site)).pmc 9 1).log 1 site inst info

/-- n parity errors at a site, one after another, the first with `info` (R350, R356). -/
def State.parities (s : State) (site inst info n : Nat) : State :=
  if n = 0 then s
  else (((s.parity site inst info).incBy (ERL_PARCNT site) (n - 1)).pmc 9 (n - 1)).logMore (n - 1)

/-- A SECDED event (R353). -/
def State.ecc (s : State) (store index syndrome : Nat) (correctable : Bool) : State :=
  if correctable then ((s.inc ERL_ECCCORR).pmc 12 1).log 2 store index syndrome
  else (s.inc ERL_ECCUNC).log 3 store index syndrome

/-! ## Clocks (R291, R311, R365) -/

/-- Pod registers that the PART section writes: they make a pod a member, so a clock-gated pod answers them. -/
def isPartReg (off : Nat) : Bool := decide (off = 8) || decide (off = 12) || decide (off = 24)

/-- Lane registers in LCLK, by offset in the lane's block. -/
def isLaneClk (off : Nat) : Bool :=
  decide (off = 4) || (decide (0x14 ≤ off) && decide (off ≤ 0x20)) || (decide (0x100 ≤ off) && decide (off < 0x130))

/-- The clock of the register at a byte address runs (R291, R311). -/
def State.clockOn (s : State) (a : Nat) : Bool :=
  if a < 0x100000 then true
  else if a < 0x118000 then
    let l := (a - 0x100000) / 1024
    let off := a % 1024
    if isLaneClk off then s.mclk && s.flag (LN_CFG_Enable l)
    else if 0x300 ≤ off ∧ off < 0x310 then s.fastClk
    else true
  else if a < 0x200000 then s.mclk
  else if a < 0x300000 then s.fastClk
  else if a < 0x310000 then s.mclk
  else if a < 0x400000 then true
  else if a < 0x800000 then s.fastClk && (isPartReg (a % 65536) || s.flag (POD_PCFG_Member ((a - 0x400000) / 65536)))
  else if a < 0x900000 then s.mclk
  else if a < 0xA00000 then (decide (0x940000 ≤ a) && decide (a < 0x980000)) || s.mclk
  else if a < 0xB00000 then s.fastClk && !s.dmc.asleep
  else if a < 0xD00000 then s.mclk
  else if 0x10000000 ≤ a ∧ a < 0x20000000 then s.fastClk && !s.dmc.asleep
  else true

/-- A register stands at the address and its clock is stopped. An address with no register is not an access in error (R12, R291). -/
def State.regOff (s : State) (a : Nat) : Bool := !s.clockOn a && (isDmw a || (findRow a).isSome)

/-- Unit u of GLB_URESET is in reset and issues nothing (R289, R318). -/
def State.unitInReset (s : State) (u : Nat) : Bool := (s.reg GLB_URSTAT).getLsbD u

/-- Bytes stored in a byte table from address a upward. -/
def putBytes (t : Tbl Byte) (a : Nat) (bs : List Byte) : Tbl Byte :=
  (bs.zip (List.range bs.length)).foldl (fun t b => tset 0 t (a + b.2) b.1) t

/-- n bytes of a byte table from address a. -/
def getBytes (t : Tbl Byte) (a n : Nat) : List Byte := (List.range n).map fun j => tget 0 t (a + j)

/-- A write by the host of the register at a, with the effect f: a stopped clock discards it and is logged (R291). Initiator
21 is the host bridge. -/
def State.hostWrite (s : State) (a : Nat) (f : State → State) : State :=
  if !s.awake || s.regHeld a then s else if s.clockOn a then f s else s.log 6 0 21 (a % 2 ^ 32)

/-- The word of the golden copy for the register at a (R337). -/
def State.goldenOf (s : State) (a : Nat) : Option (BitVec 32) := tget none s.img.golden a

def State.setGolden (s : State) (a : Nat) (g : Option (BitVec 32)) : State :=
  { s with img := { s.img with golden := tset none s.img.golden a g } }

/-- The golden copy follows a write of v to a field that the register accepted (R337). -/
def State.goldenFld (s : State) (f : Fld) (v : Nat) : State :=
  match s.goldenOf f.addr with
  | some g => if s.fget f = v then s.setGolden f.addr (some (f.into g v)) else s
  | none => s

/-- A write of 1 by the host to an enable, with its effect. -/
def State.hostEnable (s : State) (f : Fld) (on : State → State) : State :=
  s.hostWrite f.addr fun s => (on s).goldenFld f 1

/-- A pop by the host's read of the register at a. -/
def State.hostPop (s : State) (a : Nat) (f : State → State) : State := if s.awake && !s.regHeld a && s.clockOn a then f s else s

/-! ## HBM by the map of R261 -/

/-- Number of active slots n_a (R261; DMC_CFG.Reserve above 16 acts as 16). -/
def State.nActive (s : State) : Nat := 192 - min (s.fget DMC_CFG_Reserve) 16

/-- Bytes of one pseudo-channel (R259). -/
def pcBytes : Nat := 805306368

/-- Logical slot of an HBM byte address. -/
def State.hbmSlot (s : State) (a : Nat) : Nat := a / 256 % s.nActive

/-- Byte within the pseudo-channel. -/
def State.hbmPa (s : State) (a : Nat) : Nat := a / 256 / s.nActive * 256 + a % 256

/-- The address lies in the map. -/
def State.hbmIn (s : State) (a : Nat) : Bool := decide (a < s.nActive * pcBytes)

/-- Physical pseudo-channel of an address in the map. -/
def State.hbmPc (s : State) (a : Nat) : Nat := s.fget (DMC_PCMAP_Pc (s.hbmSlot a))

/-- The key of an address in the HBM tables. -/
def State.hbmKey (s : State) (a : Nat) : Nat := s.hbmPc a * pcBytes + s.hbmPa a

/-- The pseudo-channel is FAILED (R277), be it that it trains (R270). -/
def State.pcFailed (s : State) (pc : Nat) : Bool :=
  decide (s.fget (DMC_PCSTAT_State pc) = 7) || decide (tget 0 s.dmc.was pc = 7)

def State.owed (s : State) (pc : Nat) : Nat := tget 0 s.dmc.owed pc

/-- A refresh or a retraining step stalls the pseudo-channel (R267, R272). -/
def State.pcStalled (s : State) (pc : Nat) : Bool := decide (s.tim.ticks < tget 0 s.dmc.stall pc)

/-- An urgent refresh waits and blocks the pseudo-channel's queues (R268). -/
def State.pcUrgent (s : State) (pc : Nat) : Bool := decide (8 < s.owed pc)

/-! ### Queues of a bank (R261, R264 to R266) -/

/-- Row and bank of byte pa of a pseudo-channel (R261). -/
def rowOf (pa : Nat) : Nat := pa / 256 / 192
def bankOf (pa : Nat) : Nat := (pa / 1024 + rowOf pa % 48) % 48

/-- The requests of bank k, oldest first; k is 48·pc + bank. The queue is the first eight; behind them stand accesses of the
part's own units that the matrix holds (R264, log entry 243). -/
def State.bankQ (s : State) (k : Nat) : List DramReq := tget [] s.dmc.queue k
def State.setBankQ (s : State) (k : Nat) (q : List DramReq) : State :=
  { s with dmc := { s.dmc with queue := tset [] s.dmc.queue k q } }

/-- No older request of the queue is for the same line (R264). -/
def ahead (r : DramReq) (q : List DramReq) : Bool := (q.takeWhile fun x => decide (x ≠ r)).all fun x => decide (x.line ≠ r.line)

/-- The request targets the open row. -/
def rowHit (row : Nat) (r : DramReq) : Bool := decide (row = rowOf (r.line * 64) + 1)

/-- The access a bank offers next: its oldest read or write that waits behind no older request to its line, one to the open row
first, and reads before writes but for a write drain (R264). -/
def pickReq (drain : Bool) (row : Nat) (q : List DramReq) : Option DramReq :=
  let kinds := if drain then [true, false] else [false, true]
  let c := (kinds.filterMap fun w => q.find? fun r => decide (r.write = w)).filter fun r => ahead r q
  match c.find? (rowHit row) with
  | some r => some r
  | none => c.head?

/-- The queue without its first element equal to r. -/
def dropReq (r : DramReq) : List DramReq → List DramReq
  | [] => []
  | x :: t => if x = r then t else x :: dropReq r t

/-- The bank drains its writes: from 6 writes, or without a read, down to 2 (R264). -/
def State.bankDrains (s : State) (k : Nat) : Bool :=
  let q := (s.bankQ k).take 8
  decide (tget 0 s.dmc.drain k ≠ 0) || decide (6 ≤ (q.filter DramReq.write).length) || !(q.any fun r => !r.write)

/-- The access that bank k offers. -/
def State.bankPick (s : State) (k : Nat) : Option DramReq := pickReq (s.bankDrains k) (tget 0 s.dmc.row k) ((s.bankQ k).take 8)

/-- One column access of bank k issues: history, open row, drain, and the bank of the last activate (R264, R265). -/
def State.bankIssue (s : State) (k : Nat) : State :=
  match s.bankPick k with
  | none => s
  | some r =>
    let row := rowOf (r.line * 64)
    let hit := rowHit (tget 0 s.dmc.row k) r
    let h := tget 2 s.dmc.hist k
    let h := if hit then min 3 (h + 1) else h - 1
    let rest := dropReq r (s.bankQ k)
    let more := rest.any fun x => decide (rowOf (x.line * 64) = row)
    let left := ((rest.take 8).filter DramReq.write).length
    { s with dmc := { s.dmc with
        queue := tset [] s.dmc.queue k rest
        hist := tset 2 s.dmc.hist k h
        row := tset 0 s.dmc.row k (if more || decide (2 ≤ h) then row + 1 else 0)
        drain := tset 0 s.dmc.drain k (if s.bankDrains k && decide (2 < left) then 1 else 0)
        rot := if hit then s.dmc.rot else tset 0 s.dmc.rot (k / 48) (k % 48) } }

def State.bankIssues : Nat → Nat → State → State
  | 0, _, s => s
  | n + 1, k, s => State.bankIssues n k (s.bankIssue k)

/-- Everything bank k holds issues. -/
def State.bankEmpty (s : State) (k : Nat) : State := State.bankIssues (s.bankQ k).length k s

/-- The writes of bank k to a line. -/
def State.writesTo (s : State) (k line : Nat) : List DramReq := (s.bankQ k).filter fun r => r.write && decide (r.line = line)

/-- A read of the line is forwarded from the youngest write to it (R266). -/
def State.forwards (s : State) (k line : Nat) : Bool :=
  match (s.writesTo k line).getLast? with
  | some w => decide (w.strobes = 2 ^ 64 - 1)
  | none => false

/-- ECLK cycles in a second. -/
def secTicks : Nat := 250000000

/-- The entries of the last second of a record by ECLK cycle. -/
def State.lastSecond (s : State) (t : List (Nat × Nat)) : List (Nat × Nat) :=
  t.filter fun e => decide (s.tim.ticks < e.1 + secTicks)

/-- n more in the record at this cycle. -/
def State.addNow (s : State) (n : Nat) (t : List (Nat × Nat)) : List (Nat × Nat) :=
  match t with
  | (k, m) :: rest => if k = s.tim.ticks then (k, m + n) :: rest else (s.tim.ticks, n) :: s.lastSecond t
  | [] => [(s.tim.ticks, n)]

/-- The sum over the last second. -/
def State.sumSecond (s : State) (t : List (Nat × Nat)) : Nat := (s.lastSecond t).foldl (fun a e => a + e.2) 0

/-- n lines move in pseudo-channel pc (R271). -/
def State.addLines (s : State) (pc n : Nat) : State :=
  { s with dmc := { s.dmc with load := tmod [] s.dmc.load pc (s.addNow n) } }

/-- A drain that has begun goes on until the bank holds 2 writes (R264). -/
def State.drainLatch (s : State) (k : Nat) : State :=
  let left := (((s.bankQ k).take 8).filter DramReq.write).length
  { s with dmc := { s.dmc with drain := tset 0 s.dmc.drain k (if s.bankDrains k && decide (2 < left) then 1 else 0) } }

/-- A write enters its bank, or merges into an unissued write to its line (R266); one that enters takes a data slot (R271). -/
def State.queueWrite (s : State) (k line strobes : Nat) : State :=
  let q := s.bankQ k
  if q.any fun r => r.write && decide (r.line = line) then
    s.setBankQ k (q.map fun r => if r.write && decide (r.line = line) then { r with strobes := r.strobes ||| strobes } else r)
  else ((s.addLines (k / 48) 1).setBankQ k (q ++ [⟨true, line, strobes⟩])).drainLatch k

/-- A read is forwarded, or it is queued and takes a data slot (R266, R271). Behind partial writes to its line it waits until they
have issued, which the order of a bank's accesses gives. -/
def State.queueRead (s : State) (pc k line : Nat) : State :=
  if s.forwards k line then s.inc (DMC_FWD pc)
  else
    let s := if s.writesTo k line = [] then s else
      s.incBy (DMC_RAWSTALL pc) (Config.rawStall pc line (s.reg (DMC_RAWSTALL pc)).toNat).toNat
    (s.addLines pc 1).setBankQ k (s.bankQ k ++ [⟨false, line, 0⟩])

/-- A line access of one of the part's own units, a write with its strobes or a read: it enters its bank, and what the bank
holds issues, unless a refresh stalls the pseudo-channel or an urgent one waits (R264, R267, R268, log entry 243). -/
def State.lineEnter (s : State) (line : Nat) (strobes : Option Nat) : State :=
  let pc := s.hbmPc line
  if !s.hbmIn line || s.pcFailed pc then s
  else
    let k := 48 * pc + bankOf (s.hbmPa line)
    let s := match strobes with
      | some m => s.queueWrite k (s.hbmPa line / 64) m
      | none => s.queueRead pc k (s.hbmPa line / 64)
    if s.pcStalled pc || s.pcUrgent pc then s else s.bankEmpty k

/-- The 4 KiB block of pa in pc has not been written in full since a sudden retirement into pc (R276). -/
def State.hbmUnclean (s : State) (pc pa : Nat) : Bool :=
  decide (tget 0 s.dmc.cleanOf (pc / 8) = pc + 1) &&
    decide (tget 0 s.dmc.cleanLines (pc * 196608 + pa / 4096) ≠ 2 ^ 64 - 1)

/-- The line of pa in pc was copied with wrong parity and not written since (R275). -/
def State.hbmWrong (s : State) (pc pa : Nat) : Bool :=
  decide (tget 0 s.dmc.wrong pc ≠ 0) && !(tget 0 s.dmc.rightLines (pc * 196608 + pa / 4096)).testBit (pa / 64 % 64)

/-! ### Retirement (R275 to R277) -/

/-- A slot of the map holds pseudo-channel q. -/
def State.pcMapped (s : State) (q : Nat) : Bool :=
  (List.range s.nActive).any fun i => decide (s.fget (DMC_PCMAP_Pc i) = q)

/-- The RESERVE pseudo-channels, ascending; one that is still being trained is RESERVE too, unless it is out of service or a
copy's target (R262, R270, R275). -/
def State.reserves (s : State) : List Nat :=
  (List.range 192).filter fun q =>
    decide (s.fget (DMC_PCSTAT_State q) = 4) || (decide (s.fget (DMC_PCSTAT_State q) = 1) && !s.pcMapped q &&
      decide (tget 0 s.dmc.was q = 0) && s.dmc.copy.all fun e => decide (e.2 ≠ q + 1))

/-- ReserveLeft and ReserveEmpty follow the RESERVE pseudo-channels; ReserveEmpty becoming 1 raises cause 0x06. -/
def State.noteReserve (s : State) : State :=
  let n := s.reserves.length
  let was := s.flag DMC_STATUS_ReserveEmpty
  let s := (s.fset DMC_STATUS_ReserveLeft n).fset DMC_STATUS_ReserveEmpty (if n = 0 then 1 else 0)
  if n = 0 && !was then s.raise 6 else s

/-- The pseudo-channel becomes FAILED in its slot (R277); a copy of it ends, and its target is RESERVE again. -/
def State.failPc (s : State) (p : Nat) : State :=
  let s := match tget 0 s.dmc.copy p with
    | 0 => s
    | q + 1 =>
      let st := if s.fget (DMC_PCSTAT_State q) = 5 then 4 else s.fget (DMC_PCSTAT_State q)
      ({ s with dmc := { s.dmc with copy := tset 0 s.dmc.copy p 0 } }.fset (DMC_PCSTAT_State q) st).noteReserve
  (s.fset (DMC_PCSTAT_State p) 7).log 0x15 0 p 0

/-- A planned retirement of p begins, where p is ACTIVE and not already being copied (R275, R278). A target that still trains
becomes COPYING once it is trained. -/
def State.retirePlanned (s : State) (p : Nat) : State :=
  if s.fget (DMC_PCSTAT_State p) = 2 ∧ tget 0 s.dmc.copy p = 0 then
    match s.reserves with
    | [] => s.failPc p
    | q :: _ =>
      let s := s.fset (DMC_PCSTAT_State q) (if s.fget (DMC_PCSTAT_State q) = 1 then 1 else 5)
      { s with dmc := { s.dmc with copy := tset 0 s.dmc.copy p (q + 1) } }.noteReserve
  else s

/-- The DMC_PCMAP slots that hold pseudo-channel p go to q (R262). -/
def State.remapPc (s : State) (p q : Nat) : State :=
  s.each ((List.range s.nActive).filter fun i => s.fget (DMC_PCMAP_Pc i) = p) fun s i => s.fset (DMC_PCMAP_Pc i) q

/-- Every bit of the clean map that unit u keeps is set, or the unit keeps none (R276). -/
def State.cleanFree (s : State) (u : Nat) : Bool :=
  let c := tget 0 s.dmc.cleanOf u
  decide (c = 0) || decide ((s.dmc.cleanLines.filter fun e =>
    decide (e.1 / 196608 = c - 1) && decide (e.2 = 2 ^ 64 - 1)).length = 196608)

/-- p's slot moves to q at once, and the unit of q keeps a clean map of q (R276). -/
def State.suddenMove (s : State) (p q : Nat) : State :=
  let s := (s.remapPc p q).fset (DMC_PCSTAT_State q) (if s.fget (DMC_PCSTAT_State q) = 1 then 1 else 2)
  let s := (s.fset (DMC_PCSTAT_State p) 6).noteReserve
  let s := { s with dmc := { s.dmc with
    copy := tset 0 s.dmc.copy p 0
    cleanOf := tset 0 s.dmc.cleanOf (q / 8) (q + 1)
    cleanLines := s.dmc.cleanLines.filter fun e => decide (e.1 / 196608 ≠ q)
    sudden := s.dmc.sudden.filter fun x => decide (x ≠ p)
    wrong := tset 0 s.dmc.wrong q 0
    rightLines := s.dmc.rightLines.filter fun e => decide (e.1 / 196608 ≠ q) } }
  s.log 0x14 0 p (q + 256)

/-- The reserve a sudden retirement of p moves to. -/
def State.suddenTarget (s : State) (p : Nat) : Option Nat :=
  match tget 0 s.dmc.copy p with
  | 0 => s.reserves.head?
  | q + 1 => some q

/-- A sudden retirement of p (R276, R277, R278: a copy in progress turns into it). One that meets a clean map in use is
handled by R277 and waits. A FAILED p leaves its slot where a reserve can take it now. -/
def State.retireSudden (s : State) (p : Nat) : State :=
  let st := s.fget (DMC_PCSTAT_State p)
  if st = 7 then
    match s.reserves.head? with
    | some q => if s.cleanFree (q / 8) then s.suddenMove p q else s
    | none => s
  else
  if st = 1 ∨ st = 2 then
    match s.suddenTarget p with
    | some q =>
      if s.cleanFree (q / 8) then s.suddenMove p q
      else
        let s := s.failPc p
        { s with dmc := { s.dmc with sudden := s.dmc.sudden ++ [p] } }
    | none => s.failPc p
  else s

/-- Sudden retirements that have waited take place where the clean map of their target's unit has become free (R276). -/
def State.suddenWaiting (s : State) : State :=
  s.each s.dmc.sudden fun s p =>
    match s.reserves.head? with
    | some q => if s.cleanFree (q / 8) then s.suddenMove p q else s
    | none => s

/-- A parity error of pseudo-channel p is counted; at RetireLimit it starts a planned retirement (R274, R275). -/
def State.dmcParity (s : State) (p info : Nat) : State :=
  let s := (s.inc (DMC_PAR p)).parity 6 p info
  if s.flag DMC_CTRL_AutoRetire &&
      decide ((s.reg (DMC_PAR p)).toNat = max 1 (s.fget DMC_CFG_RetireLimit)) then s.retirePlanned p
  else s

/-- One byte as a read returns it (R261, R274, R277). -/
def State.hbmByte (s : State) (a : Nat) : Byte :=
  if s.hbmIn a && !s.pcFailed (s.hbmPc a) then tget 0 s.hbm (s.hbmKey a) else 0

/-- A read of the line of a is forwarded from a queued write (R266). -/
def State.lineForwards (s : State) (a : Nat) : Bool :=
  s.hbmIn a && !s.pcFailed (s.hbmPc a) && s.forwards (48 * s.hbmPc a + bankOf (s.hbmPa a)) (s.hbmPa a / 64)

/-- The stack reports an uncorrectable error with the next read of the burst of a (R263). -/
def State.severeAt (s : State) (a : Nat) : Bool := s.dmc.sev.contains (s.hbmKey a / 32)

/-- The byte's parity bit is wrong as a read returns it (R261, R263, R274, R276, R277); a forwarded read returns that of the
write (R266). -/
def State.hbmByteBad (s : State) (a : Nat) : Bool :=
  if s.hbmIn a then
    s.pcFailed (s.hbmPc a) || decide (tget 0 s.hbmBad (s.hbmKey a) ≠ 0) ||
      (!s.lineForwards a && (s.hbmUnclean (s.hbmPc a) (s.hbmPa a) || s.hbmWrong (s.hbmPc a) (s.hbmPa a) || s.severeAt a))
  else true

/-- n bytes from address a. -/
def State.hbmBytes (s : State) (a n : Nat) : List Byte := (List.range n).map fun i => s.hbmByte (a + i)

/-- Some byte of the range has wrong parity. -/
def State.hbmAnyBad (s : State) (a n : Nat) : Bool := (List.range n).any fun i => s.hbmByteBad (a + i)

/-- The 64-byte line addresses that [a, a + n) touches. -/
def linesOf (a n : Nat) : List Nat :=
  if n = 0 then [] else (List.range ((a + n - 1) / 64 - a / 64 + 1)).map fun i => (a / 64 + i) * 64

/-- A parity error in the beat at b of a line. -/
def State.beatError (s : State) (line b : Nat) : State :=
  if s.hbmIn line then s.dmcParity (s.hbmPc line) (b % 2 ^ 32) else s.parity 6 0 (b % 2 ^ 32)

/-- A severity report that came with the burst at b is counted (R263). -/
def State.severeTake (s : State) (b : Nat) : State :=
  if s.hbmIn b && !s.pcFailed (s.hbmPc b) && s.severeAt b then
    let k := s.hbmKey b / 32
    { s with dmc := { s.dmc with sev := s.dmc.sev.filter fun x => decide (x ≠ k) } }.inc (DMC_SEV (s.hbmPc b))
  else s

/-- What comes back with a read of a line: severity reports, and one parity error per 32-byte beat with a wrong byte; with a
forwarded read nothing, since no beat returns (R263, R266, R274, R350). -/
def State.beatsBack (s : State) (line : Nat) : State :=
  if s.lineForwards line then s
  else
    let bad := [line, line + 32].filter fun b => s.hbmAnyBad b 32
    (s.each [line, line + 32] State.severeTake).each bad fun s b => s.beatError line b

/-- One line is read whole: its queue, lines moved, out-of-map accesses, and what comes back (R260, R261). -/
def State.noteLine (s : State) (line : Nat) : State :=
  let s := if s.hbmIn line then s.pmc (384 + s.hbmPc line / 8) 1 else s.inc (DMC_OOR 0)
  s.beatsBack line |>.lineEnter line none

/-- A read of n bytes at a: its counts and parity errors. The bytes are `hbmBytes`, the mark `hbmAnyBad`. -/
def State.noteRead (s : State) (a n : Nat) : State := s.each (linesOf a n) fun s line => s.noteLine line

/-- A line that was copied with wrong parity is written in part: the wrong bytes are held one by one from now on (R275). -/
def State.hbmUnwrap (s : State) (a : Nat) : State :=
  let pc := s.hbmPc a
  let pa := s.hbmPa a
  if s.hbmWrong pc pa then
    let base := pc * pcBytes + pa / 64 * 64
    let bad := (List.range 64).foldl (fun t i => tset 0 t (base + i) 1) s.hbmBad
    { s with hbmBad := bad, dmc := { s.dmc with
        rightLines := tmod 0 s.dmc.rightLines (pc * 196608 + pa / 4096) fun m => m ||| 2 ^ (pa / 64 % 64) } }
  else s

/-- One byte stored, with its parity. -/
def State.hbmPut (s : State) (a : Nat) (b : Byte) (bad : Bool) : State :=
  if s.hbmIn a && !s.pcFailed (s.hbmPc a) then
    let s := s.hbmUnwrap a
    { s with hbm := tset 0 s.hbm (s.hbmKey a) b, hbmBad := tset 0 s.hbmBad (s.hbmKey a) (if bad then 1 else 0) }
  else s

/-- Bytes stored from address a upward, all with the same parity mark. -/
def State.hbmPuts (s : State) (bad : Bool) : Nat → List Byte → State
  | _, [] => s
  | a, b :: bs => (s.hbmPut a b bad).hbmPuts bad (a + 1) bs

/-- The lines wholly written by a full-strobe write of n bytes at a set their bits of the clean map (R276). -/
def State.cleanMark (s : State) (a n : Nat) : State :=
  s.each (linesOf a n) fun s line =>
    if a ≤ line ∧ line + 64 ≤ a + n ∧ s.hbmIn line = true ∧
        tget 0 s.dmc.cleanOf (s.hbmPc line / 8) = s.hbmPc line + 1 then
      let key := s.hbmPc line * 196608 + s.hbmPa line / 4096
      { s with dmc := { s.dmc with
          cleanLines := tmod 0 s.dmc.cleanLines key fun m => m ||| 2 ^ (s.hbmPa line / 64 % 64) } }.when
        (!s.dmc.sudden.isEmpty) State.suddenWaiting
    else s

/-- The strobes of line `line` in a write of n bytes at a. -/
def lineStrobes (line a n : Nat) : Nat :=
  let lo := max a line - line
  let hi := min (a + n) (line + 64) - line
  2 ^ hi - 2 ^ lo

/-- A write of n bytes at a is noted in line `line`: its queue, lines moved, out-of-map writes, and a parity error in each beat
written, where the bytes carry one (R260, R261, R274). -/
def State.noteWrite (s : State) (line a n : Nat) (bad : Bool) : State :=
  let s := if s.hbmIn line then s.pmc (384 + s.hbmPc line / 8) 1 else s.inc (DMC_OOR 0)
  let s := s.lineEnter line (some (lineStrobes line a n))
  s.when bad fun s => s.each [line, line + 32] fun s b => if max a b < min (a + n) (b + 32) then s.beatError line b else s

/-- A write of bytes at a with every strobe on: stored, with its counts (R260, R261). -/
def State.hbmWrite (s : State) (a : Nat) (bs : List Byte) (bad : Bool := false) : State :=
  let s := s.each (linesOf a bs.length) fun s line => s.noteWrite line a bs.length bad
  (s.hbmPuts bad a bs).cleanMark a bs.length

end Sys2Proof.Machine
end

