-- ==== Sys2Proof/Machine/Fch.lean ====
section
/-! DEFINITION. Ingest and the F-chain (chapter 02): the deframer checks (R39 to R43), path slots and gaps (R44 to
R46), the enable checks (R47), the chain from mixer to requantizer (R48 to R56), anchor and rejoin (R57 to R60), and
the gain table (R64). -/

namespace Sys2Proof.Machine

/-! ## Engine and slot settings (R20 for codes the fields do not list) -/

def State.fchN (s : State) (e : Nat) : Nat := 256 * 2 ^ s.fget (FCH_PFB_FftSize e)
def State.fchK (s : State) (e : Nat) : Nat :=
  match s.fget (FCH_PFB_Taps e) with | 1 => 8 | 2 => 16 | _ => 4
def State.fchC (s : State) (e : Nat) : Nat := s.fget (FCH_CHSEL_Last e) + 1 - s.fget (FCH_CHSEL_First e)
/-- Requantizer format: 0, 1 or 2; the reserved code acts as 0. -/
def State.fchFormat (s : State) (e : Nat) : Nat :=
  let f := s.fget (FCH_REQ_Format e); if f = 3 then 0 else f
/-- Anchor index S (R57). -/
def State.fchS (s : State) (e : Nat) : Nat := s.get2 (FCH_SYNCIDX_LO e) (FCH_SYNCIDX_HI e) % 2 ^ 48
/-- The slot runs: both enables are 1 (R60). -/
def State.slotOn (s : State) (e p : Nat) : Bool := s.flag (FCH_CTRL_Enable e) && s.flag (FCH_PSRC_Enable e p)
def State.slot (s : State) (e p : Nat) : SlotSt := tget SlotSt.idle s.fch.slot (16 * e + p)
def State.setSlot (s : State) (e p : Nat) (x : SlotSt) : State :=
  { s with fch := { s.fch with slot := tset SlotSt.idle s.fch.slot (16 * e + p) x } }
/-- Frames before index hi are marked contaminated, with those marked already. -/
def SlotSt.mark (t : SlotSt) (hi : Nat) : SlotSt :=
  { t with contamTo := some (match t.contamTo with | some c => if idxDiff hi c < 0 then c else hi | none => hi) }
def State.modSlot (s : State) (e p : Nat) (f : SlotSt → SlotSt) : State := s.setSlot e p (f (s.slot e p))
/-- Source lane of a slot; 96 to 127 are reserved and act as 0 (R20). -/
def State.slotLane (s : State) (e p : Nat) : Nat :=
  let l := s.fget (FCH_PSRC_Lane e p); if l < 96 then l else 0

/-- FCH_PSTAT.State by R60. -/
def State.pathState (s : State) (e p : Nat) : Nat :=
  if !s.slotOn e p then 0 else if !s.flag (FCH_STATUS_Anchored e) then 1
  else if (s.slot e p).phase = 0 then 2 else (s.slot e p).phase

/-- Word width of a sample format and its reserved code (R19, R55). -/
def fmtWidth (f : Nat) : Nat := match f with | 1 => 8 | 2 => 4 | _ => 14
def fmtReserved (f : Nat) : Int := -(2 ^ (fmtWidth f - 1))

/-! ## The chain -/

/-- What a slot's chain computes with. -/
structure ChainCfg where
  nco : Bool
  inc : Nat
  phase : Nat
  d : Nat
  nc : Nat
  rsInc : Nat
  n : Nat
  k : Nat
  proto : Nat
  fftShift : Nat
  first : Nat
  count : Nat
  deriving DecidableEq, Repr

def State.chainCfg (s : State) (e p : Nat) : ChainCfg where
  nco := s.flag (FCH_CIC_NcoEn e p)
  inc := s.fget (FCH_NCOINC_Inc e p)
  phase := s.fget (FCH_NCOPHS_PhaseOffset e p)
  d := s.fget (FCH_CIC_DecimMinus1 e p) + 1
  nc := match s.fget (FCH_CIC_Order e p) with | 1 => 4 | 2 => 5 | _ => 3
  rsInc := s.fget (FCH_RSINC_Inc e p)
  n := s.fchN e
  k := s.fchK e
  proto := s.fget (FCH_PFB_Proto e)
  fftShift := s.fget (FCH_PFB_FftShift e)
  first := s.fget (FCH_CHSEL_First e)
  count := s.fchC e

/-- A sample below the start: zero, invalid, before the start index (R59, R60). -/
def Smp.none : Smp := ⟨0, 0, true, true⟩

/-- The NCO mixer at sample index S + i (R48). -/
def mixSample (c : ChainCfg) (i : Nat) (x : Smp) : Smp :=
  if c.nco then
    let phi := (c.phase + i * c.inc) % 2 ^ 32 / 2 ^ 16
    let cs := cosR 23170 phi 65536
    let sn := sinR 23170 phi 65536
    { x with re := rhuShift (x.re * cs + x.im * sn) 15, im := rhuShift (x.im * cs - x.re * sn) 15 }
  else x

/-- The list of sums of d neighbours, zero outside: one boxcar. -/
def boxcar (d : Nat) (l : List Int) : List Int :=
  (List.range (l.length + d - 1)).map fun i =>
    (List.range d).foldl (fun acc t => if t ≤ i then acc + (l[i - t]?).getD 0 else acc) 0

/-- Impulse response of nc boxcars of length d: what integrators and combs of R49 compute over their span. -/
def boxPow (d : Nat) : Nat → List Int
  | 0 => [1]
  | n + 1 => boxcar d (boxPow d n)

/-- Weighted sum over a newest-first history, with the marks of the span (R56). -/
def spanSum (coef : List Int) (hist : List Smp) : Int × Int × Bool × Bool :=
  ((List.range coef.length).zip coef).foldl (fun a tc =>
    let x := (hist[tc.1]?).getD Smp.none
    (a.1 + tc.2 * x.re, a.2.1 + tc.2 * x.im, a.2.2.1 || x.inv, a.2.2.2 || x.pre)) (0, 0, false, false)

/-- The CIC output over the newest nc·(d − 1) + 1 mixer outputs (R49). -/
def cicOut (c : ChainCfg) (hist : List Smp) : Smp :=
  let (re, im, inv, pre) := spanSum (boxPow c.d c.nc) hist
  let w := c.nc * clog2 c.d
  let sc := fun (v : Int) => if w ≤ 4 then v * 2 ^ (4 - w) else rhuShift v (w - 4)
  ⟨sc re, sc im, inv, pre⟩

/-- Droop FIR coefficients (R50). -/
def droopCoef (c : ChainCfg) : List Int :=
  (List.range 31).map fun t =>
    if c.d = 1 then (if t = 15 then 65536 else 0)
    else (Config.droopRom (c.nc - 2) (min t (30 - t))).toInt

/-- Resampler coefficients of a phase (R51). -/
def resampleCoef (p : Nat) : List Int :=
  (List.range 16).map fun t =>
    if p = 0 then (if t = 8 then 65536 else 0) else (Config.resampleRom p t).toInt

/-- A complex value clamped to 18 bits, and whether a part was clamped. -/
def sat18c (re im : Int) : (Int × Int) × Bool :=
  ((sat18 re, sat18 im), decide (sat18 re ≠ re) || decide (sat18 im ≠ im))

/-- A FIR stage of 18-bit output, scaled by 2^16 (R50, R51). -/
def firOut (coef : List Int) (hist : List Smp) : Smp × Bool :=
  let (re, im, inv, pre) := spanSum coef hist
  let (v, clamped) := sat18c (rhuShift re 16) (rhuShift im 16)
  (⟨v.1, v.2, inv, pre⟩, clamped)

/-- Twiddle tw[k] (R53). -/
def twiddle (k : Nat) : Int × Int := (cosR 65536 k 32768, rhuShift (-(cosSin k 32768).2 * 65536) 128)

/-- cmul of R53. -/
def cmul (d w : Int × Int) : Int × Int :=
  (rhuShift (d.1 * w.1 - d.2 * w.2) 16, rhuShift (d.1 * w.2 + d.2 * w.1) 16)

/-- Alternate elements of two lists. -/
def interleave {α : Type} : List α → List α → List α
  | a :: as, b :: bs => a :: b :: interleave as bs
  | _, _ => []

/-- Decimation in frequency over 2^r values; the result is in bin order (R53). -/
def fftRec : Nat → List (Int × Int) → List (Int × Int)
  | 0, d => d
  | r + 1, d =>
    let h := 2 ^ r
    let a := d.take h
    let b := d.drop h
    let top := (a.zip b).map fun p => (p.1.1 + p.2.1, p.1.2 + p.2.2)
    let bot := ((List.range h).zip (a.zip b)).map fun q =>
      cmul (q.2.1.1 - q.2.2.1, q.2.1.2 - q.2.2.2) (twiddle (q.1 * (32768 / 2 ^ (r + 1))))
    interleave (fftRec r top) (fftRec r bot)

/-- The K · N coefficients of the prototype (R52). The ROM of prototypes 0 to 6 is open but for Σ h² = N · 2^34: a table
without that sum is no ROM of the part, and a table that has it stands in its place. -/
def protoTable (c : ChainCfg) : List Int :=
  let ix := List.range (c.k * c.n)
  if c.proto = 7 then ix.map fun i => if i < c.n then 131071 else 0
  else
    let h := ix.map fun i => (Config.protoRom c.proto c.n c.k i).toInt
    if (h.map fun x => x * x).sum = c.n * 2 ^ 34 then h else ix.map fun i => if i < c.n then -131072 else 0

/-- What a slot's filterbank gives for one frame: index, selected channels before the gain, invalid, before start. -/
structure ChanFrame where
  j : Nat
  y : List (Int × Int)
  inv : Bool
  pre : Bool
  deriving DecidableEq, Repr

/-- The filterbank over the newest k·n resampler outputs, and how many values were clamped (R52 to R54). -/
def pfbFrame (c : ChainCfg) (j : Nat) (hist : List Smp) : ChanFrame × Nat :=
  let len := c.k * c.n
  let w := ((hist ++ List.replicate (len - hist.length) Smp.none).take len).reverse.toArray
  let h := (protoTable c).toArray
  let us := (List.range c.n).map fun b =>
    let acc := (List.range c.k).foldl (fun (a : Int × Int) q =>
      let x := (w[q * c.n + b]?).getD Smp.none
      let g := (h[q * c.n + b]?).getD 0
      (a.1 + g * x.re, a.2 + g * x.im)) (0, 0)
    sat18c (rhuShift acc.1 17) (rhuShift acc.2 17)
  let d := (fftRec (Nat.log2 c.n) (us.map fun u => (4 * u.1.1, 4 * u.1.2))).toArray
  let ys := (List.range c.n).map fun ch =>
    let v := (d[(ch + c.n / 2) % c.n]?).getD (0, 0)
    sat18c (rhuShift v.1 (c.fftShift + 2)) (rhuShift v.2 (c.fftShift + 2))
  let sats := (us.filter (·.2)).length + (ys.filter (·.2)).length
  (⟨j, ((ys.map (·.1)).drop c.first).take c.count, w.any (·.inv), w.any (·.pre)⟩, sats)

/-- What pushing samples has produced so far. -/
structure ChainOut where
  slot : SlotSt
  frames : List ChanFrame
  stageSat : Nat
  fftSat : Nat
  deriving DecidableEq, Repr

/-- Resampler outputs whose newest input is v[m] (R51). -/
def resampleAt (c : ChainCfg) (m : Nat) : Nat → ChainOut → ChainOut
  | 0, o => o
  | fuel + 1, o =>
    let pos := o.slot.k * c.rsInc
    if pos / 2 ^ 30 = m then
      let (x, cl) := firOut (resampleCoef (pos % 2 ^ 30 / 2 ^ 22)) o.slot.fir
      let rs := (x :: o.slot.rs).take (c.k * c.n)
      let k := o.slot.k
      let o := { o with
        slot := { o.slot with rs := rs, k := k + 1 }
        stageSat := o.stageSat + (if cl then 1 else 0) }
      let o :=
        if (k + 1) % c.n = 0 then
          let (f, sats) := pfbFrame c (((k + 1) / c.n - 1) % 2 ^ 48) rs
          { o with frames := o.frames ++ [f], fftSat := o.fftSat + sats }
        else o
      resampleAt c m fuel o
    else o

/-- One input sample through the chain (R48 to R56). -/
def chainPush (c : ChainCfg) (o : ChainOut) (x : Smp) : ChainOut :=
  let i := o.slot.i
  let mix := (mixSample c i x :: o.slot.mix).take (c.nc * (c.d - 1) + 1)
  let o := { o with slot := { o.slot with mix := mix, i := i + 1, x := idxAdd o.slot.x 1 } }
  if (i + 1) % c.d = 0 then
    let cic := (cicOut c mix :: o.slot.cic).take 31
    let (v, cl) := firOut (droopCoef c) cic
    let fir := (v :: o.slot.fir).take 16
    let o := { o with
      slot := { o.slot with cic := cic, fir := fir }
      stageSat := o.stageSat + (if cl then 1 else 0) }
    resampleAt c ((i + 1) / c.d - 1) 4 o
  else o

/-! ## Gains, the swap and the output frame (R55, R64) -/

def State.gainAt (s : State) (e bank i : Nat) : BitVec 32 :=
  tget 0x4000#32 s.fch.gain ((2 * e + bank) * 262144 + i % 262144)

/-- Every running slot of engine e has passed the armed swap frame: ActiveBank flips (R64). -/
def State.swapCheck (s : State) (e : Nat) : State :=
  if s.flag (FCH_STATUS_SwapPending e) &&
      (List.range 16).all fun p => !s.slotOn e p || (s.slot e p).swapped then
    let s := s.fset (FCH_CTRL_ActiveBank e) (1 - s.fget (FCH_CTRL_ActiveBank e))
    let s := s.fset (FCH_STATUS_SwapPending e) 0
    s.each (List.range 16) fun s p => s.modSlot e p fun t => { t with swapped := false }
  else s

/-- One channel sample through gain and requantizer, and whether a part was clamped (R55). -/
def requant (fmt shift : Nat) (g : BitVec 32) (y : Int × Int) : (Int × Int) × Bool :=
  let gr := toSigned 16 g.toNat
  let gi := toSigned 16 (g.toNat / 2 ^ 16)
  let lim : Int := 2 ^ (fmtWidth fmt - 1) - 1
  let qr := rhuShift (y.1 * gr - y.2 * gi) (14 + shift)
  let qi := rhuShift (y.1 * gi + y.2 * gr) (14 + shift)
  ((satTo lim qr, satTo lim qi), decide (satTo lim qr ≠ qr) || decide (satTo lim qi ≠ qi))

/-- The frame j of engine e gains slot p's channels. -/
def addFrame (j : Nat) (f : SlotFrame) : List EngFrame → List EngFrame
  | [] => [⟨j, [f]⟩]
  | g :: gs =>
    if idxDiff j g.j < 0 then ⟨j, [f]⟩ :: g :: gs
    else if j = g.j then { g with slots := g.slots ++ [f] } :: gs
    else g :: addFrame j f gs

/-- Slot p of engine e emits a frame: gain bank by the armed swap, requantization, counters, state (R55, R60, R64). A clamp
under an invalid sample is not counted in FCH_SATCNT (log entry 176). -/
def State.emitFrame (s : State) (e p : Nat) (f : ChanFrame) : State :=
  let t := s.slot e p
  let swap := s.flag (FCH_STATUS_SwapPending e) && (t.swapped || decide (0 ≤ idxDiff f.j (tget 0 s.fch.swapFrom e)))
  let act := s.fget (FCH_CTRL_ActiveBank e)
  let bank := if swap then 1 - act else act
  let fmt := s.fchFormat e
  let base := if s.flag (FCH_CTRL_GainMode e) then 0 else p * 2 ^ clog2 (s.fchC e)
  let qs := ((List.range f.y.length).zip f.y).map fun cy =>
    requant fmt (s.fget (FCH_REQ_Shift e)) (s.gainAt e bank (base + cy.1)) cy.2
  let r := fmtReserved fmt
  let data := if f.inv then f.y.map fun _ => (r, r) else qs.map (·.1)
  let sats := if f.inv then 0 else (qs.filter (·.2)).length
  let s := (s.incBy (FCH_SATCNT e) sats).pmc (224 + e) sats
  let s := if f.inv then s.incBy (FCH_INVOUT e) f.y.length else s
  let s := s.setSlot e p { t with
    phase := if t.phase = 3 && !f.pre then 4 else t.phase
    swapped := t.swapped || swap
    nextFrame := idxAdd f.j 1 }
  let s := { s with fch := { s.fch with
    pend := tmod [] s.fch.pend e (addFrame f.j ⟨p, data, t.contamTo.any fun c => decide (idxDiff f.j c < 0)⟩) } }
  s.swapCheck e

/-- Samples enter a slot's chain in index order. -/
def State.feed (s : State) (e p : Nat) (xs : List Smp) : State :=
  let o := xs.foldl (chainPush (s.chainCfg e p)) ⟨s.slot e p, [], 0, 0⟩
  let s := s.setSlot e p o.slot
  let s := { s with fch := { s.fch with seen := tmod 0 s.fch.seen e (max o.slot.i) } }
  let s := (s.incBy (FCH_STAGESAT e p) o.stageSat).incBy (FCH_FFTSAT e) o.fftSat
  s.each o.frames fun s f => s.emitFrame e p f

/-- The slot starts at the sample with index S (R58). -/
def State.slotStart (s : State) (e p : Nat) : State :=
  s.modSlot e p fun t => { SlotSt.idle with phase := 3, x := s.fchS e, swapped := t.swapped, contamTo := t.contamTo }

/-- Samples since S of index a, by the R45 difference from the newest index the engine has reached. -/
def State.sinceS (s : State) (e a : Nat) : Int :=
  let r := tget 0 s.fch.seen e
  r + idxDiff a (idxAdd (s.fchS e) r)

/-- The slot rejoins at index q, i samples after S (R59). The first frame it emits is the first whose window begins at or
after q (log entry 177). -/
def State.slotRejoin (s : State) (e p q i : Nat) : State :=
  let c := s.chainCfg e p
  let k := ceilDiv (i / c.d * 2 ^ 30) (max c.rsInc 1)
  let s := s.modSlot e p fun t =>
    { SlotSt.idle with phase := 3, x := q, i := i, k := k, nextFrame := k / c.n % 2 ^ 48, swapped := t.swapped, contamTo := t.contamTo }
  (s.inc (FCH_REJOIN e p)).log 9 0 (16 * e + p) (q % 2 ^ 32)

/-- A sample as the chain takes it: invalid by R43 where a part is −8,192 or the frame's clock is bad. -/
def smpOf (clockBad real : Bool) (v : Int × Int) : Smp :=
  let inv := clockBad || decide (v.1 = -8192) || (!real && decide (v.2 = -8192))
  if inv then ⟨0, 0, true, false⟩ else ⟨v.1, if real then 0 else v.2, false, false⟩

/-- Samples accepted by a slot: counted, and fed (R43, R46). FCH_INVIN counts invalid ones among them only (DESIGN CHOICE, log
entry 277). -/
def State.accept (s : State) (e p : Nat) (xs : List Smp) : State :=
  let s := s.incBy (FCH_INVIN e p) (xs.filter (·.inv)).length
  (s.pmc (208 + e) xs.length).feed e p xs

/-- A slot handles the samples of indices a, a + 1, … by R46, R58, R59 and R60. -/
def State.slotTake (s : State) (e p a : Nat) (xs : List Smp) : State :=
  let t := s.slot e p
  if xs = [] ∨ s.flag (FCH_STATUS_Anchored e) = false then s
  else if t.phase < 3 ∨ t.joining = true then
    let d := s.sinceS e a
    let cut := (-d).toNat
    if xs.length ≤ cut then s
    else if d ≤ 0 ∧ t.joining = false then (s.slotStart e p).accept e p (xs.drop cut)
    else
      let q := if d < 0 then s.fchS e else a
      (s.slotRejoin e p q d.toNat).accept e p (xs.drop cut)
  else
    let d := idxDiff a t.x
    if d = 0 then s.accept e p xs
    else if d < 0 then
      let cut := (-d).toNat
      let s := s.incBy (FCH_LATECNT e p) (min cut xs.length)
      s.accept e p (xs.drop cut)
    else if d ≤ min (s.fget (FCH_GAPLIM_Limit e)) 0x100000 then
      let s := (s.incBy (FCH_GAPCNT e p) d.toNat).feed e p (List.replicate d.toNat ⟨0, 0, true, false⟩)
      s.accept e p xs
    else (s.slotRejoin e p a (t.i + d.toNat)).accept e p xs

/-! ## The deframer (R39 to R44) -/

/-- The header of an ingest frame (R39). -/
structure IngestHdr where
  version : Nat
  format : Nat
  clockBad : Bool
  overrange : Bool
  index : Nat
  firstPath : Nat
  pathCount : Nat
  sampleCount : Nat
  deriving DecidableEq, Repr

def ingestHdr (f : List Byte) : IngestHdr where
  version := byteAt f 0 / 16
  format := byteAt f 0 % 16
  clockBad := decide (byteAt f 1 / 128 % 2 = 1)
  overrange := decide (byteAt f 1 / 64 % 2 = 1)
  index := beAt f 2 6
  firstPath := beAt f 8 2 / 16
  pathCount := beAt f 8 2 % 16
  sampleCount := beAt f 10 2

/-- Payload length in bytes, whole 8-byte words (R41). -/
def IngestHdr.payload (h : IngestHdr) : Nat :=
  ceilDiv (h.sampleCount * h.pathCount * (if h.format = 0 then 28 else 14)) 64 * 8

/-- The format checks of R42. -/
def IngestHdr.ok (h : IngestHdr) (len : Nat) : Bool :=
  decide (h.version = 1) && decide (h.format ≤ 1) && decide (1 ≤ h.pathCount) && decide (h.pathCount ≤ 8) &&
    decide (h.firstPath + h.pathCount ≤ 4096) && decide (1 ≤ h.sampleCount) && decide (h.payload ≤ 8192) &&
    decide (len = 16 + h.payload)

/-- The 14-bit sample word i of a payload, whose bytes have value v in len bits (R41). -/
def word14 (v len i : Nat) : Int := toSigned 14 (bits v (len - 14 * (i + 1)) 14)

/-- The samples of the path at position p of a frame (R41). -/
def pathSamples (h : IngestHdr) (f : List Byte) (p : Nat) : List (Int × Int) :=
  let v := ofBe (f.drop 16)
  let len := 8 * (f.length - 16)
  (List.range h.sampleCount).map fun t =>
    let i := t * h.pathCount + p
    if h.format = 0 then (word14 v len (2 * i), word14 v len (2 * i + 1)) else (word14 v len i, 0)

/-- The running slots that map a lane and path (R44). -/
def State.slotsOf (s : State) (lane path : Nat) : List (Nat × Nat) :=
  ((List.range 16).flatMap fun e => (List.range 16).map fun p => (e, p)).filter fun ep =>
    s.slotOn ep.1 ep.2 && decide (s.slotLane ep.1 ep.2 = lane) && decide (s.fget (FCH_PSRC_PathId ep.1 ep.2) = path)

/-- A frame's samples reach one mapped slot (R42, R44, R46); an engine in reset takes none (R318). -/
def State.toSlot (s : State) (lane : Nat) (h : IngestHdr) (xs : List (Int × Int)) (e p : Nat) : State :=
  if s.unitInReset e then s
  else if decide (h.format = 1) ≠ s.flag (FCH_PSRC_Real e p) then s.inc (LN_DFFMT lane)
  else if Config.inputBufferFull s.fresh then s.draw.inc (FCH_DROPFR e p)
  else
    let s := s.draw.when h.overrange fun s => s.inc (FCH_OVRFR e p)
    s.slotTake e p h.index (xs.map (smpOf h.clockBad (decide (h.format = 1))))

/-- The deframer's work on one whole frame of a lane (R42). -/
def State.deframe (s : State) (lane : Nat) (f : List Byte) : State :=
  if f.length < 16 then s.inc (LN_DFFMT lane)
  else if crc16 (f.take 14) ≠ beAt f 14 2 then s.inc (LN_DFHDR lane)
  else
    let h := ingestHdr f
    if !h.ok f.length then s.inc (LN_DFFMT lane)
    else
      (s.inc (LN_DFOK lane)).each (List.range h.pathCount) fun s p =>
        match s.slotsOf lane (h.firstPath + p) with
        | [] => s.inc (LN_DFUNMAP lane)
        | eps => s.each eps fun s ep => s.toSlot lane h (pathSamples h f p) ep.1 ep.2

/-- INGEST_FRAME (R42): the deframer of lane `lane` takes the oldest delivered frame; a held part discards it uncounted
(R368). A lane in another mode delivers nothing to the deframer (R23). -/
def execIngestFrame (lane : Nat) (s : State) : Host.Outcome State Fault Refusal :=
  reply (96 ≤ lane) <|
    match tget [] s.ln.rxq lane with
      | [] => s
      | (_, f) :: fs =>
        if s.fget (LN_CFG_Mode lane) = 1 && !s.xIsHeld 0 lane then
          let s := { s with ln := { s.ln with rxq := tset [] s.ln.rxq lane fs } }
          if s.isRun && !s.flag IMG_STATUS_SproutActive then s.deframe lane f else s
        else s

/-! ## Enables (R47) -/

/-- The slots of engine e whose FCH_PSRC.Enable is 1, slot p included where given. -/
def State.enabledSlots (s : State) (e : Nat) (plus : Option Nat) : List Nat :=
  (List.range 16).filter fun p => s.flag (FCH_PSRC_Enable e p) || decide (plus = some p)

/-- The limits of R47 that the part checks, over the given enabled slots. -/
def State.fchLimitsOk (s : State) (e : Nat) (on : List Nat) : Bool :=
  let n := s.fchN e
  let first := s.fget (FCH_CHSEL_First e)
  let last := s.fget (FCH_CHSEL_Last e)
  decide (on.length * ((s.fchK e - 1) * n) ≤ 1048576) && decide (first ≤ last) && decide (last ≤ n - 1) &&
    (s.flag (FCH_CTRL_GainMode e) || decide ((on.foldl (fun m p => max m (p + 1)) 0) * 2 ^ clog2 (s.fchC e) ≤ 262144)) &&
    on.all fun p => decide (0x20000000 ≤ s.fget (FCH_RSINC_Inc e p))

/-- A slot whose enables have both become 1 (R60): it waits for SYNC, or joins at its first sample. -/
def State.slotActivate (s : State) (e p : Nat) : State :=
  if s.slotOn e p then
    s.setSlot e p (if s.flag (FCH_STATUS_Anchored e) then { SlotSt.idle with phase := 2, joining := true } else SlotSt.idle)
  else s

/-- FCH_CTRL.Enable written to 1 (R47). -/
def State.fchEnable (s : State) (e : Nat) : State :=
  if s.flag (FCH_CTRL_Enable e) then s
  else if s.fchLimitsOk e (s.enabledSlots e none) then
    let s := s.fset (FCH_CTRL_Enable e) 1
    s.each (List.range 16) fun s p => s.slotActivate e p
  else s.fset (FCH_STATUS_ConfigErr e) 1

/-- FCH_PSRC.Enable written to 1 (R47). -/
def State.fchSlotEnable (s : State) (e p : Nat) : State :=
  if s.flag (FCH_PSRC_Enable e p) then s
  else if s.fchLimitsOk e (s.enabledSlots e (some p)) then (s.fset (FCH_PSRC_Enable e p) 1).slotActivate e p
  else s.fset (FCH_STATUS_ConfigErr e) 1

/-- FCH_PSRC.Enable written to 0 (R60 OFF): the chain stops, frames in progress are dropped. -/
def State.fchSlotDisable (s : State) (e p : Nat) : State :=
  ((s.fset (FCH_PSRC_Enable e p) 0).setSlot e p SlotSt.idle).swapCheck e

/-- FCH_CTRL.Enable written to 0. -/
def State.fchDisable (s : State) (e : Nat) : State :=
  let s := s.fset (FCH_CTRL_Enable e) 0
  (s.each (List.range 16) fun s p => s.setSlot e p SlotSt.idle).swapCheck e

/-- FCH_ENABLE (R47). -/
def execFchEnable (e : Nat) (s : State) : Host.Outcome State Fault Refusal :=
  reply (16 ≤ e) <|
    (s.hostEnable (FCH_CTRL_Enable e) fun s => s.fchEnable e)

/-- FCH_SLOT_ENABLE (R47). -/
def execFchSlotEnable (e p : Nat) (s : State) : Host.Outcome State Fault Refusal :=
  reply (16 ≤ e ∨ 16 ≤ p) <|
    (s.hostEnable (FCH_PSRC_Enable e p) fun s => s.fchSlotEnable e p)

/-! ## The gain table (R64) -/

/-- FCH_GADDR.Index advances, wrapping at 262,144. -/
def State.gaddrNext (s : State) (e : Nat) : State :=
  s.fset (FCH_GADDR_Index e) ((s.fget (FCH_GADDR_Index e) + 1) % 262144)

/-- The entry FCH_GDATA reads: of the bank FCH_GADDR.ReadActive selects. -/
def State.gdataRead (s : State) (e : Nat) : BitVec 32 :=
  let act := s.fget (FCH_CTRL_ActiveBank e)
  s.gainAt e (if s.flag (FCH_GADDR_ReadActive e) then act else 1 - act) (s.fget (FCH_GADDR_Index e))

/-- A write to FCH_GDATA by an initiator. -/
def State.gdataWrite (s : State) (init e : Nat) (v : BitVec 32) : State :=
  if s.flag (FCH_STATUS_SwapPending e) then s.log 4 0 init (FCH_GDATA e)
  else
    let key := (2 * e + (1 - s.fget (FCH_CTRL_ActiveBank e))) * 262144 + s.fget (FCH_GADDR_Index e)
    ({ s with fch := { s.fch with gain := tset 0x4000#32 s.fch.gain key v } }).gaddrNext e

/-- A write to FCH_GSWAP_HI by an initiator: the swap is armed. -/
def State.gswapArm (s : State) (init e : Nat) (v : BitVec 32) : State :=
  if s.flag (FCH_STATUS_SwapPending e) then s.log 4 0 init (FCH_GSWAP_HI e)
  else
    let s := s.fset (FCH_GSWAP_HI_FrameHigh e) ((FCH_GSWAP_HI_FrameHigh e).of v)
    let f := s.get2 (FCH_GSWAP_LO e) (FCH_GSWAP_HI e) % 2 ^ 48
    let s := s.fset (FCH_STATUS_SwapPending e) 1
    let s := { s with fch := { s.fch with swapFrom := tset 0 s.fch.swapFrom e f } }
    let late := (List.range 16).any fun p => s.slotOn e p && decide (idxDiff f (s.slot e p).nextFrame < 0)
    (s.when late fun s => s.fset (FCH_STATUS_LateSwap e) 1).swapCheck e

/-- A write to FCH_GSWAP_LO by an initiator: discarded while a swap is pending. -/
def State.gswapLow (s : State) (init e : Nat) (v : BitVec 32) : State :=
  if s.flag (FCH_STATUS_SwapPending e) then s.log 4 0 init (FCH_GSWAP_LO e) else s.setReg (FCH_GSWAP_LO e) v

/-- FCH_GDATA_WRITE (R64), by the host bridge (initiator 21). -/
def execFchGdataWrite (e : Nat) (v : Word) (s : State) : Host.Outcome State Fault Refusal :=
  reply (16 ≤ e) <|
    (s.hostWrite (FCH_GDATA e) fun s => s.gdataWrite 21 e v)

/-- FCH_GDATA_READ (R64, R310): the host has received the four bytes. -/
def execFchGdataRead (e : Nat) (s : State) : Host.Outcome State Fault Refusal :=
  reply (16 ≤ e) <|
    (s.hostPop (FCH_GDATA e) fun s => s.gaddrNext e)

/-- GAIN_SWAP_ARM (R64). -/
def execGainSwapArm (e : Nat) (v : Word) (s : State) : Host.Outcome State Fault Refusal :=
  reply (16 ≤ e) <|
    (s.hostWrite (FCH_GSWAP_HI e) fun s => s.gswapArm 21 e v)

/-! ## Anchor (R57) -/

/-- Engine e captures its next anchor index; its running slots enter WAIT_ANCHOR (R57, R64); its pattern
generator starts again (R345). -/
def State.engineSync (s : State) (e : Nat) : State :=
  let s := s.set2 (FCH_SYNCIDX_LO e) (FCH_SYNCIDX_HI e) (s.get2 (FCH_SYNCNEXT_LO e) (FCH_SYNCNEXT_HI e) % 2 ^ 48)
  let s := s.fset (FCH_STATUS_Anchored e) 1
  let s := { s with
    fch := { s.fch with
      pend := tset [] s.fch.pend e []
      swapFrom := tset 0 s.fch.swapFrom e 0
      seen := tset 0 s.fch.seen e 0 }
    img := { s.img with
      spN := terase s.img.spN e
      spCom := terase s.img.spCom e
      spOwn := s.img.spOwn.filter fun x => decide (x.1 / 16 ≠ e) } }
  s.each (List.range 16) fun s p =>
    if s.slotOn e p then s.setSlot e p { SlotSt.idle with phase := 2 } else s

/-- Entry to RUN (R369): running slots past WAIT_ANCHOR rejoin at their first sample; frames not yet sent are gone. -/
def State.fchEnterRun (s : State) : State :=
  let s := { s with fch := { s.fch with pend := [] } }
  s.each (List.range 256) fun s i =>
    let t := s.slot (i / 16) (i % 16)
    if 3 ≤ t.phase then s.setSlot (i / 16) (i % 16) { t with phase := 3, joining := true } else s

/-- The contamination mark of R349 on slot p of engine e: the frame being formed or output and the K after it. -/
def State.slotContam (s : State) (e p : Nat) : State :=
  s.modSlot e p fun t => t.mark (idxAdd t.nextFrame (s.fchK e + 1))

end Sys2Proof.Machine
end

