-- ==== Sys2Proof/Machine/Gensy.lean ====
section
/-! DEFINITION. Gensy frames and routing shared by the Hull, the egress packer, the timing block and the fabric unit:
the header (R237), next-hop choice (R245, R246), sequence numbers and origination (R237, R239), and the reachable set
(R251). -/

namespace Sys2Proof.Machine

/-- Words of the frames that lane l has received and no unit has taken (R292). -/
def State.rxWords (s : State) (l : Nat) : Nat := ceilDiv (((tget [] s.ln.rxq l).map fun f => f.2.length).foldl (· + ·) 0) 64

/-- The receive crossing of lane l, class 0 or 1 by its mode, is full or held: what the lane receives waits (R292, R295, R296). -/
def State.rxFull (s : State) (l : Nat) : Bool :=
  decide (32 ≤ s.rxWords l) || s.xIsHeld (if s.fget (LN_CFG_Mode l) = 1 then 0 else 1) l

/-- This part's node ID. -/
def State.node (s : State) : Nat := s.fget FAB_CTRL_NodeId

/-- A word that SECDED protects reads correctly (R353). -/
def State.eccOk (s : State) (a : Nat) : Bool := decide (tget 0 s.erl.eccBad a = 0)

/-- Virtual channel of a frame type (R239); link-local types have none. -/
def typeVc (ty : Nat) : Nat :=
  match ty with
  | 3 => 0 | 4 => 0 | 5 => 2 | 6 => 1 | 7 => 1 | 8 => 3 | 9 => 3 | 10 => 3 | 11 => 3 | _ => 0

/-- Routed types (R239). -/
def typeRouted (ty : Nat) : Bool := decide (3 ≤ ty) && decide (ty ≤ 9)

/-- Link-local types (R239). -/
def typeLocal (ty : Nat) : Bool := decide (ty ≤ 2)

/-- The 16 header bytes (R237). -/
def gensyHdr (f : QFrame) : List Byte :=
  let h := [BitVec.ofNat 8 (0x10 + f.ty),
      BitVec.ofNat 8 (f.vc * 64 + (if f.ts then 32 else 0) + (if f.down then 16 else 0) + f.hops)] ++
    beBytes 2 f.dest ++ beBytes 2 f.src ++ beBytes 2 f.seq ++ beBytes 2 f.flow ++ beBytes 2 f.payload.length ++
    beBytes 2 0
  h ++ beBytes 2 (crc16 h)

/-- The whole frame. -/
def gensyBytes (f : QFrame) : List Byte := gensyHdr f ++ f.payload

/-- Receive-buffer units a frame occupies (R240). -/
def frameUnits (len : Nat) : Nat := ceilDiv (16 + len) 64

/-- The fields of a received frame. -/
def parseFrame (b : List Byte) : QFrame where
  ty := byteAt b 0 % 16
  vc := byteAt b 1 / 64
  ts := decide (byteAt b 1 / 32 % 2 = 1)
  down := decide (byteAt b 1 / 16 % 2 = 1)
  hops := byteAt b 1 % 16
  dest := beAt b 2 2 % 4096
  src := beAt b 4 2 % 4096
  seq := beAt b 6 2
  flow := beAt b 8 2
  payload := b.drop 16
  via := none
  inLane := none
  rx := 0
  link := none
  bad := false

/-- Length of the payload by the header. -/
def hdrLength (b : List Byte) : Nat := beAt b 10 2 % 8192

/-- The first two checks of R238 on the header alone. -/
def fieldsOk (b : List Byte) : Bool :=
  let f := parseFrame b
  decide (16 ≤ b.length) && decide (crc16 (b.take 14) = beAt b 14 2) && decide (byteAt b 0 / 16 = 1) && decide (f.ty ≤ 11) &&
    (typeLocal f.ty || decide (f.vc = typeVc f.ty)) && decide (hdrLength b ≤ 4096)

/-- The first two checks of R238. -/
def headerOk (b : List Byte) : Bool := fieldsOk b && decide (hdrLength b + 16 = b.length)

/-- The lane is in link set i; a set word with an uncorrectable error reads empty (R245, R353). -/
def State.inSet (s : State) (i l : Nat) : Bool :=
  s.eccOk (FAB_LSET i (l / 32)) && (s.reg (FAB_LSET i (l / 32))).getLsbD (l % 32)

/-- The link of lane l is UP (R243). -/
def State.linkUp (s : State) (l : Nat) : Bool := decide (s.fget (FAB_LSTAT_State l) = 2)

/-- R246: may a frame for dest with this Down bit leave on lane l. -/
def State.upDownOk (s : State) (l dest : Nat) (down : Bool) : Bool :=
  !down || decide (s.fget (FAB_LCFG_Dir l) = 1) || decide (s.fget (FAB_LSTAT_PeerNode l) = dest)

/-- UP links of set i that R246 allows, in ascending lane number. -/
def State.usable (s : State) (i dest : Nat) (down : Bool) : List Nat :=
  (List.range 96).filter fun l => s.linkUp l && s.inSet i l && s.upDownOk l dest down

/-- FAB_NH[d] is valid. -/
def State.nhValid (s : State) (d : Nat) : Bool := s.flag (FAB_NH_Valid d) && s.eccOk (FAB_NH d)

/-- The links a frame for d may choose among: the primary set, else the alternate set (R245); in Sprout mode nothing is routed (R344). -/
def State.routeSet (s : State) (d : Nat) (down : Bool) : List Nat :=
  if s.nhValid d && !s.flag IMG_STATUS_SproutActive then
    match s.usable (s.fget (FAB_NH_PrimarySet d)) d down with
    | [] => if s.flag (FAB_NH_AltValid d) then s.usable (s.fget (FAB_NH_AltSet d)) d down else []
    | ls => ls
  else []

/-- The flow hash of R245. -/
def flowHash (flow src dest vc : Nat) : Nat :=
  (flow ^^^ crc16 (beBytes 2 dest ++ beBytes 2 src ++ [BitVec.ofNat 8 vc])) % 65536

/-- The lane R245 chooses for a frame. -/
def State.route (s : State) (dest flow src vc : Nat) (down : Bool) : Option Nat :=
  let ls := s.routeSet dest down
  if ls.length = 0 then none else ls[flowHash flow src dest vc % ls.length]?

def State.routeOf (s : State) (f : QFrame) : Option Nat :=
  match f.via with
  | some l => some l
  | none => s.route f.dest f.flow f.src f.vc f.down

/-- A frame without a usable link is discarded (R245, R246). -/
def State.noRoute (s : State) (dest : Nat) (down : Bool) : State :=
  let s := s.inc FAB_NOROUTE
  s.when (down && decide (s.routeSet dest false ≠ [])) fun s => s.inc FAB_UPDOWN

/-- The next Sequence toward (dest, vc) (R237). -/
def State.nextSeq (s : State) (dest vc : Nat) : Nat := tget 0 s.fab.seq (4 * dest + vc)

def State.bumpSeq (s : State) (dest vc : Nat) : State :=
  { s with fab := { s.fab with seq := tset 0 s.fab.seq (4 * dest + vc) ((s.nextSeq dest vc + 1) % 65536) } }

/-- A frame this node originates. -/
def State.ownFrame (s : State) (ty dest flow : Nat) (ts : Bool) (payload : List Byte) (via : Option Nat) : QFrame :=
  ⟨ty, typeVc ty, ts, false, s.fget FAB_CTRL_MaxHops, dest, s.node, s.nextSeq dest (typeVc ty), flow, payload, via, none, 0, via, false⟩

/-- A routed frame is originated: it waits for its link, or is discarded where none is usable (R245). -/
def State.originate (s : State) (ty dest flow : Nat) (ts : Bool) (payload : List Byte) : State :=
  let f := s.ownFrame ty dest flow ts payload none
  let s := s.bumpSeq dest f.vc
  match s.routeOf f with
  | none => s.noRoute dest false
  | some l => { s with fab := { s.fab with txq := s.fab.txq ++ [{ f with link := some l }] } }

/-- A frame for one lane (SEED, SEEDACK) waits for it. -/
def State.originateOn (s : State) (l ty dest : Nat) (payload : List Byte) : State :=
  let f := s.ownFrame ty dest 0 false payload (some l)
  { s.bumpSeq dest f.vc with fab := { (s.bumpSeq dest f.vc).fab with txq := s.fab.txq ++ [f] } }

/-- A link-local frame waits for lane l. -/
def State.linkLocal (s : State) (l ty : Nat) (payload : List Byte) : State :=
  { s with fab := { s.fab with llq := tmod [] s.fab.llq l fun q => q ++ [(ty, payload)] } }

/-- The node is in the reachable set that the fabric unit shows (R251). -/
def State.reachable (s : State) (n : Nat) : Bool :=
  decide (n = s.node) || (s.reg (FAB_REACH (n / 32))).getLsbD (n % 32)

end Sys2Proof.Machine
end

