-- ==== Sys2Proof/Machine/Hull.lean ====
section
/-! DEFINITION. The Hull (chapter 03): the outbound sender (R70 to R73), the inbound writer with tracking, closure and
the ring (R74 to R80), the operand loader (R81 to R85), and what partition, rejoin and SYNC do to them (R86, R87). -/

namespace Sys2Proof.Machine

/-! ## Settings -/

/-- M_h. -/
def State.hullPaths (s : State) : Nat := s.fget HULL_CFG_PathsMinus1 + 1
def State.hullFormat (s : State) : Nat := let f := s.fget HULL_CFG_Format; if f = 3 then 0 else f
def State.hullDepth (s : State) : Nat := 2 ^ s.fget HULL_CFG_DepthLog2
/-- R of R76. -/
def State.hullRing (s : State) : Nat := 16 * s.hullDepth
def State.ownCount (s : State) : Nat := s.fget HULL_OWNED_CountMinus1 + 1
/-- The owner of group g (R68); in Sprout mode every group is owned locally (R344). -/
def State.groupOwner (s : State) (g : Nat) : Nat :=
  if s.flag IMG_STATUS_SproutActive then s.node else s.fget (HULL_OWN_OwnerNode g)
def State.ownFirst (s : State) : Nat := s.fget HULL_OWNED_First
def State.ctBase (s : State) : Nat := s.get2 HULL_CTBASE_LO HULL_CTBASE_HI % 2 ^ 38
/-- Bytes of one complex sample in the stores (R29). -/
def fmtBytes (f : Nat) : Nat := match f with | 1 => 2 | 2 => 1 | _ => 4
/-- Address of sample 0 of Hull path h in local group gl and frame j (R76). -/
def State.ctAddr (s : State) (gl j h : Nat) : Nat :=
  s.ctBase + ((gl * s.hullRing + j % s.hullRing) * s.hullPaths + h) * 4 * fmtBytes s.hullFormat
/-- The Hull runs: enabled and not held (R368). -/
def State.hullOn (s : State) : Bool := s.flag HULL_CTRL_Enable && s.isRun
def State.streamT (s : State) (st : Nat) : Nat := s.fget (HULL_ST_TMinus1 st) + 1
def State.streamF0 (s : State) (st : Nat) : Nat := s.get2 (HULL_SF0_LO st) (HULL_SF0_HI st) % 2 ^ 48
/-- First frame index of window k of a stream. -/
def State.winStart (s : State) (st k : Nat) : Nat := idxAdd (s.streamF0 st) (k * s.streamT st)
def State.srcValid (s : State) (i : Nat) : Bool := s.flag (HULL_SRC_Valid i) && s.eccOk (HULL_SRC i)
/-- The HULL_OWN entry of group g is valid and no uncorrectable error stands in it (R353). -/
def State.ownValid (s : State) (g : Nat) : Bool := s.flag (HULL_OWN_Valid g) && s.eccOk (HULL_OWN g)
def State.sources (s : State) : List Nat := (List.range 256).filter s.srcValid
/-- The valid HULL_SRC entry of a node and engine. -/
def State.srcOf (s : State) (node eng : Nat) : Option Nat :=
  s.sources.find? fun i => s.fget (HULL_SRC_Node i) = node && s.fget (HULL_SRC_Engine i) = eng

/-- A sample as the stores hold it (R29). -/
def sampleLe (f : Nat) (v : Int × Int) : List Byte :=
  match f with
  | 1 => [BitVec.ofInt 8 v.1, BitVec.ofInt 8 v.2]
  | 2 => [BitVec.ofNat 8 (ofSigned 4 v.1 * 16 + ofSigned 4 v.2)]
  | _ => leBytes 2 (ofSigned 16 v.1) ++ leBytes 2 (ofSigned 16 v.2)

/-- A sample as a DATA frame carries it (R71). -/
def sampleBe (f : Nat) (v : Int × Int) : List Byte :=
  match f with
  | 1 => sampleLe 1 v
  | 2 => sampleLe 2 v
  | _ => beBytes 2 (ofSigned 16 v.1) ++ beBytes 2 (ofSigned 16 v.2)

/-- Byte order of the 14+14 containers of a run turned round (R29). -/
def swapPairs : List Byte → List Byte
  | a :: b :: t => b :: a :: swapPairs t
  | l => l

/-- Ascending order without repeats. -/
def insertNat (n : Nat) : List Nat → List Nat
  | [] => [n]
  | m :: t => if n < m then n :: m :: t else if n = m then m :: t else m :: insertNat n t

def sortNat (l : List Nat) : List Nat := l.foldl (fun a n => insertNat n a) []

/-! ## Tracking, the ring and the run writer -/

def trackKey (i tb : Nat) : Nat := i * 2 ^ 44 + tb % 2 ^ 44

/-- The difference of two time blocks, by R45 on their frame indices. -/
def tbDiff (a b : Nat) : Int := idxDiff (16 * a) (16 * b)

/-- Time block tb lies before tb_r of a node that came back (R86). -/
def State.beforeTbr (s : State) (node tb : Nat) : Bool :=
  match tget 0 s.hull.tbr node with
  | 0 => false
  | r + 1 => decide (tbDiff tb r < 0)

/-- The tracking entry in force: closed empty while its node is unreachable, and before its tb_r (R86). -/
def State.trackOf (s : State) (i tb : Nat) : Track :=
  let t := tget Track.fresh s.hull.track (trackKey i tb)
  let n := s.fget (HULL_SRC_Node i)
  if t.closed then t
  else if !s.reachable n || s.beforeTbr n tb then ⟨0, none, false, true, true⟩
  else t

def State.setTrack (s : State) (i tb : Nat) (t : Track) : State :=
  { s with hull := { s.hull with track := tset Track.fresh s.hull.track (trackKey i tb) t } }

/-- A hole widened to cover [lo, hi] (R78). -/
def widen (h : Option (Nat × Nat)) (lo hi : Nat) : Option (Nat × Nat) :=
  match h with
  | none => some (lo, hi)
  | some (a, b) => some (min a lo, max b hi)

/-- Every enabled stream has staged every pass group that covers time block tb (R80). -/
def State.blockStaged (s : State) (tb : Nat) : Bool :=
  (List.range 4).all fun st =>
    let x := tget StreamSt.zero s.hull.stream st
    !s.flag (HULL_SCTRL_Enable st) || (!x.waitRun && decide (idxDiff (16 * tb + 15) (s.winStart st x.win) < 0))

/-- Time block tb's ring slot holds another block that is not released (R80). -/
def State.ringBusy (s : State) (tb : Nat) : Bool :=
  match tget 0 s.hull.ring (tb % s.hullDepth) with
  | 0 => false
  | v + 1 => decide (v ≠ tb) && !s.blockStaged v

/-- One run for group index gl of frame j from source i (R76, R78, R80). A run that is late by R78 is not looked at by R80
(log entry 185), and a run that is not written leaves the contamination bit as it is (log entry 280). -/
def State.runWrite (s : State) (i j gl first : Nat) (bytes : List Byte) (contam : Bool) : State :=
  let tb := j / 16
  let pos := j % 16 * s.ownCount + gl
  let t := s.trackOf i tb
  if t.closed || decide (pos < t.next) then (s.inc HULL_LATERUN).pmc 242 1
  else
    let slot := tb % s.hullDepth
    if s.ringBusy tb then
      let s := (s.inc HULL_OVERRUN).pmc 243 1
      let s := s.setTrack i tb { t with hole := widen t.hole pos pos }
      (s.fset HULL_STATUS_Overrun 1).log 0x0A 0 i (tb % 2 ^ 32)
    else
      let hole := if t.next < pos then widen t.hole t.next (pos - 1) else t.hole
      let t := { t with next := pos + 1, hole := hole, contam := t.contam || contam }
      let t := { t with closed := decide (t.next = 16 * s.ownCount) }
      let s := { s with hull := { s.hull with ring := tset 0 s.hull.ring slot (tb + 1) } }
      let s := (s.setTrack i tb t).hbmWrite (s.ctAddr gl j first) bytes
      (s.inc HULL_RXRUN).pmc 241 1

/-- The writer learns which Hull paths a source's runs hold. -/
def State.learnPaths (s : State) (i first count : Nat) : State :=
  { s with hull := { s.hull with srcPaths := tset 0 s.hull.srcPaths i (first * 8192 + count) } }

/-- A frame the writer discards (R74). -/
def State.rxBad (s : State) : State := s.inc HULL_RXBAD

/-- The checks of R74 after the format check; the source entry where the frame is taken. -/
def State.writerCheck (s : State) (node eng first count g0 gn tag : Nat) : State × Option Nat :=
  match s.srcOf node eng with
  | none => (s.rxBad, none)
  | some i =>
    if s.hullPaths < first + count ∨ g0 < s.ownFirst ∨ s.ownFirst + s.ownCount < g0 + gn then (s.rxBad, none)
    else if s.hull.tag = some tag then (s, some i)
    else (s.rxBad.fset HULL_STATUS_AnchorMis 1, none)

/-- A delivered DATA frame at the inbound writer (R74, R78). -/
def State.takeData (s : State) (f : Inbound) : State :=
  let p := f.payload
  if !s.hullOn then s.rxBad
  else
    let count := beAt p 8 2 % 16 + 1
    let gn := byteAt p 12
    let run := count * 4 * fmtBytes s.hullFormat
    if byteAt p 0 / 16 ≠ 1 ∨ byteAt p 0 / 4 % 4 ≠ s.hullFormat ∨ gn = 0 ∨ 31 < gn ∨
        p.length < 16 ∨ p.length ≠ 16 + gn * run ∨ 4096 < p.length then s.rxBad
    else
      let first := beAt p 8 2 / 16
      let g0 := beAt p 10 2
      match s.writerCheck f.node (byteAt p 1 / 16) first count g0 gn (beAt p 14 2) with
      | (s, none) => s
      | (s, some i) =>
        let contam := f.bad || decide (byteAt p 0 / 2 % 2 = 1)
        (s.learnPaths i first count).each (List.range gn) fun s q =>
          let bs := (p.drop (16 + q * run)).take run
          let bs := if s.hullFormat = 0 then swapPairs bs else bs
          s.runWrite i (beAt p 2 6) (g0 + q - s.ownFirst) first bs contam

/-- HULL_DATA_FRAME (R74): the writer takes the oldest DATA frame delivered to it. -/
def execHullDataFrame (s : State) : Host.Outcome State Fault Refusal := .next <|
  match s.hull.inq with
  | [] => s
  | f :: fs => if s.unitInReset 16 || s.hbmHeld then s else (({ s with hull := { s.hull with inq := fs } }).takeData f)

/-! ## The outbound sender -/

/-- The lowest frame of engine e is complete: every slot that emits has reached it, or four later ones wait behind. -/
def State.frameComplete (s : State) (e j behind : Nat) : Bool :=
  decide (4 ≤ behind) || (List.range 16).all fun p =>
    let t := s.slot e p
    !s.slotOn e p || decide (t.phase < 3) || t.joining || decide (idxDiff j t.nextFrame < 0)

/-- The channels of slot p in a frame; a slot that did not emit it sends the reserved code. -/
def State.slotData (s : State) (e p : Nat) (f : EngFrame) : List (Int × Int) :=
  match f.slots.find? fun x => x.slot = p with
  | some x => x.data
  | none =>
    let r := fmtReserved (s.fchFormat e)
    List.replicate (s.fchC e) (r, r)

/-- The samples of one run: paths in order, 4 channels each (R71). -/
def runSamples (data : List (List (Int × Int))) (g : Nat) : List (Int × Int) :=
  data.flatMap fun d => (d.drop (4 * g)).take 4

/-- Groups in frames of n from the first on (R72: the last frame of an owner may carry fewer). -/
def takeGroups (n : Nat) : Nat → List Nat → List (List Nat)
  | 0, _ => []
  | fuel + 1, gs =>
    match gs with
    | [] => []
    | g :: _ =>
      let run := ((gs.zip (List.range gs.length)).takeWhile fun x => decide (x.1 = g + x.2) && decide (x.2 < n)).map (·.1)
      run :: takeGroups n fuel (gs.drop run.length)

/-- The Hull header (R70). -/
def hullHdr (fmt : Nat) (contam : Bool) (eng j first count g0 gn tag : Nat) : List Byte :=
  [BitVec.ofNat 8 (0x10 + fmt * 4 + (if contam then 2 else 0)), BitVec.ofNat 8 (eng * 16)] ++ beBytes 6 j ++
    beBytes 2 (first * 16 + (count - 1)) ++ beBytes 2 g0 ++ [BitVec.ofNat 8 gn, 0] ++ beBytes 2 tag

/-- The channel group lies in the range that the writer keeps (HULL_OWNED, R75). -/
def State.inOwned (s : State) (g : Nat) : Bool := decide (s.ownFirst ≤ g) && decide (g < s.ownFirst + s.ownCount)

/-- The local runs of an engine's frame go straight to the writer (R72, R74, R75). Runs that it discards count one in HULL_RXBAD
for the engine's frame (log entry 179). In Sprout mode, where every group is owned locally (R344), runs of groups outside HULL_OWNED
have no place in the ring: they are discarded and the others are written (DEDUCED, log entry 86). -/
def State.localRuns (s : State) (e : Nat) (f : EngFrame) (data : List (List (Int × Int))) (gs : List Nat)
    (contam : Bool) : State :=
  let first := s.fget (HULL_ENGPATH_First e)
  match gs.filter s.inOwned with
  | [] => if gs = [] then s else s.rxBad
  | g0 :: _ =>
    match s.writerCheck s.node e first data.length g0 1 (s.fchS e % 65536) with
    | (s, none) => s
    | (s, some i) =>
      let s := if gs.all s.inOwned then s else s.rxBad
      (s.learnPaths i first data.length).each (gs.filter s.inOwned) fun s g =>
        s.runWrite i f.j (g - s.ownFirst) first ((runSamples data g).flatMap (sampleLe s.hullFormat)) contam

/-- The DATA frames toward one remote owner (R70 to R72): what the sender holds of each, with no place yet, and its samples. -/
def State.remoteFrames (s : State) (e : Nat) (f : EngFrame) (data : List (List (Int × Int))) (dest : Nat)
    (gs : List Nat) (contam : Bool) : List (HeldData × List Byte) :=
  let fmt := s.fchFormat e
  (takeGroups (max 1 (s.fget HULL_TXCFG_GroupsPerFrame)) gs.length gs).map fun c =>
    let body := c.flatMap fun g => (runSamples data g).flatMap (sampleBe fmt)
    (⟨dest, c.length,
      hullHdr fmt contam e f.j (s.fget (HULL_ENGPATH_First e)) data.length (c.headD 0) c.length (s.fchS e % 65536),
      0, body.length⟩, body)

/-- The samples of held frames stand one after the other in the egress buffer from a place on (R73, R281). -/
def placeRuns : Nat → List (HeldData × List Byte) → Tbl Byte → List HeldData × Tbl Byte
  | _, [], t => ([], t)
  | a, (d, body) :: rest, t =>
    let r := placeRuns (a + body.length) rest (putBytes t a body)
    ({ d with place := a } :: r.1, r.2)

/-- The payload of a held DATA frame, read from the egress buffer. -/
def State.heldPayload (s : State) (d : HeldData) : List Byte := d.hdr ++ getBytes s.mtx.egress d.place d.len

/-- The local frame index rises to j (R79), and what lies more than 2^45 frames behind it is forgotten, so that the wrap of j
leaves no closed entry in the way of a new block (R76); nodes waiting for a first one take its block as tb_r (R86); streams
waiting after the entry to RUN take their first window (R369). -/
def State.localIndex (s : State) (j : Nat) : State :=
  let l := match s.hull.lfi with
    | none => j
    | some l => if 0 < idxDiff j l then j else l
  let s := { s with hull := { s.hull with lfi := some l } }
  let s := s.each s.hull.tbrWait fun s n =>
    { s with hull := { s.hull with tbr := tset 0 s.hull.tbr n (j / 16 + 1) } }
  let s := { s with hull := { s.hull with
    tbrWait := []
    tbr := s.hull.tbr.filter fun e => decide (-(2 ^ 45) ≤ tbDiff (e.2 - 1) (l / 16) * 16)
    track := s.hull.track.filter fun e => decide (-(2 ^ 45) ≤ idxDiff (16 * e.1) l) } }
  s.each (List.range 4) fun s st =>
    let x := tget StreamSt.zero s.hull.stream st
    if x.waitRun then
      let d := idxDiff j (s.streamF0 st)
      let k := if d ≤ 0 then 0 else ceilDiv d.toNat (s.streamT st)
      { s with hull := { s.hull with stream := tset StreamSt.zero s.hull.stream st { x with win := k, g := 0, waitRun := false } } }
    else s

/-- An output frame's DATA frames are held: their samples take a quarter of the engine's half MiB that no held frame has (R281).
A fifth held frame drops the unsent runs of the oldest (R73); a frame whose runs have all left still counts among the four
(log entry 279). -/
def State.holdFrame (s : State) (e j : Nat) (fs : List (HeldData × List Byte)) : State :=
  let q := tget [] s.hull.held e
  let (s, q) :=
    match q with
    | a :: b :: c :: d :: t =>
      let n := (a.frames.map HeldData.runs).foldl (· + ·) 0
      if 0 < n then (((s.incBy HULL_TXDROP n).pmc 247 n).fset HULL_STATUS_TxDrop 1, b :: c :: d :: t)
      else (s, b :: c :: d :: t)
    | q => (s, q)
  let slot := ((List.range 4).find? fun n => q.all fun h => decide (h.slot ≠ n)).getD 0
  let r := placeRuns (e * 2 ^ 19 + slot * 2 ^ 17) fs s.mtx.egress
  let s := { s with mtx := { s.mtx with egress := r.2 } }
  { s with hull := { s.hull with held := tset [] s.hull.held e (q ++ [⟨j, slot, r.1⟩]) } }

/-- An engine's complete frame at the Hull (R72, R73, R79, R86, R353). A Hull that does not run drops it and keeps its local
frame index (log entry 183). -/
def State.frameToHull (s : State) (e : Nat) (f : EngFrame) : State :=
  if !s.hullOn then s
  else
    let s := s.localIndex f.j
    let on := s.enabledSlots e none
    let data := on.map fun p => s.slotData e p f
    let contam := f.slots.any (·.contam)
    let groups := List.range (s.fchC e / 4)
    let lost := (groups.filter fun g => !s.eccOk (HULL_OWN g)).length
    let gs := groups.filter s.ownValid
    let s := s.incBy HULL_TXUNR lost
    let owners := sortNat (gs.map s.groupOwner)
    let (s, held) := owners.foldl (fun (a : State × List (HeldData × List Byte)) n =>
      let s := a.1
      let own := gs.filter fun g => s.groupOwner g = n
      if n = s.node then (s.localRuns e f data own contam, a.2)
      else if !s.reachable n then (s.incBy HULL_TXUNR own.length, a.2)
      else if s.beforeTbr n (f.j / 16) || decide (n ∈ s.hull.tbrWait) then (s, a.2)
      else (s, a.2 ++ s.remoteFrames e f data n own contam)) (s, [])
    s.holdFrame e f.j held

/-- SPECTRUM_FRAME_TO_HULL (R72): the next complete frame of engine e crosses, behind the anchor index the engine has passed
on (R75). Frames of the other engines wait for that index too (log entry 282). -/
def execSpectrumFrameToHull (e : Nat) (s : State) : Host.Outcome State Fault Refusal :=
  reply (16 ≤ e) <|
    if s.xIsHeld 3 e || s.hbmHeld || s.unitInReset e || s.unitInReset 16 || !s.hull.tagq.isEmpty then s
    else
      match tget [] s.fch.pend e with
      | [] => s
      | f :: fs =>
        if s.frameComplete e f.j fs.length then
          (({ s with fch := { s.fch with pend := tset [] s.fch.pend e fs } }).frameToHull e f)
        else s

/-- What the SYNC event does to the Hull when it gets there (R87). -/
def State.hullSync (s : State) : State :=
  { s with hull := { s.hull with
      held := [], track := [], ring := [], lfi := none, tbr := [], tbrWait := []
      staging := s.hull.staging.map fun p => (p.1, true)
      stream := s.hull.stream.filterMap fun e =>
        if e.2.seq = 0 then none else some (e.1, { StreamSt.zero with seq := e.2.seq }) } }

/-- HULL_ANCHOR_TAG (R75, R87): the SYNC event reaches the Hull with the captured anchor index. -/
def execHullAnchorTag (s : State) : Host.Outcome State Fault Refusal := .next <|
  match s.hull.tagq with
  | [] => s
  | (e, t) :: ts =>
    if s.xIsHeld 3 e || s.unitInReset 16 then s
    else { s.hullSync with hull := { s.hullSync.hull with tag := some (t % 65536), tagq := ts } }

/-- ENTRY_CLOSE (R79): source entry i, time block tb reaches its closure index. -/
def execEntryClose (i tb : Nat) (s : State) : Host.Outcome State Fault Refusal :=
  reply (256 ≤ i ∨ 2 ^ 44 ≤ tb) <|
    match s.hull.lfi with
      | none => s
      | some l =>
        let t := s.trackOf i tb
        let at' := idxAdd (16 * (tb + 1)) (s.fget HULL_SLACK_Frames)
        if s.hullOn && !s.unitInReset 16 && s.srcValid i && !t.closed && decide (0 ≤ idxDiff l at') then
          (s.setTrack i tb { t with closed := true, unreach := !s.reachable (s.fget (HULL_SRC_Node i)) })
        else s

/-! ## Enables (R67 to R69, R71, R77, R82) -/

/-- Region size in 4 KiB units (HULL_SREGION.Size; 0 means the whole half). -/
def State.regionUnits (s : State) (st : Nat) : Nat :=
  let n := s.fget (HULL_SREGION_Size st); if n = 0 then 32768 else n

/-- Bytes of a pass group of a stream (R81). -/
def State.pgBytes (s : State) (st : Nat) : Nat := s.hullPaths * s.streamT st * 4 * fmtBytes s.hullFormat

/-- The checks on a stream that is enabled or is to be: the region holds a pass group, lies in the half, overlaps no enabled
stream's region (R82), and the ring holds two windows (R77; that Depth is the smallest such power is Peltas's, log entry
181). -/
def State.streamCheck (s : State) (st : Nat) : Bool :=
  let o := s.fget (HULL_SREGION_Offset st)
  let n := s.regionUnits st
  decide (s.pgBytes st ≤ n * 4096) && decide (o + n ≤ 32768) && decide (2 * s.streamT st ≤ s.hullRing) &&
    (List.range 4).all fun d => decide (d = st) || !s.flag (HULL_SCTRL_Enable d) ||
      decide (o + n ≤ s.fget (HULL_SREGION_Offset d)) ||
      decide (s.fget (HULL_SREGION_Offset d) + s.regionUnits d ≤ o)

/-- The checks HULL_CTRL.Enable runs on what the part can see, those of the enabled streams among them. An engine of another
format and a DepthLog2 outside 1 to 13 are refused too (log entry 180). -/
def State.hullCheck (s : State) : Bool :=
  let engs := (List.range 16).filter fun e => s.flag (FCH_CTRL_Enable e)
  let b := fmtBytes s.hullFormat
  let owned := (List.range 8192).filter fun g => s.ownValid g && s.groupOwner g = s.node
  let gpf := s.fget HULL_TXCFG_GroupsPerFrame
  (engs.all fun e =>
    let n := (s.enabledSlots e none).length
    decide (s.fchC e % 4 = 0) && decide (s.fchC e / 4 ≤ 8192) &&
      decide (s.reg (FCH_CHSEL e) = s.reg (FCH_CHSEL (engs.headD 0))) &&
      decide (s.fchFormat e = s.hullFormat) && decide (s.fget (HULL_ENGPATH_Count e) = n) &&
      decide (s.fget (HULL_ENGPATH_First e) + n ≤ 4096) && decide (16 + gpf * n * 4 * b ≤ 4096) &&
      engs.all fun d => decide (d = e) || decide (n = 0) || decide (s.fget (HULL_ENGPATH_Count d) = 0) ||
        decide (s.fget (HULL_ENGPATH_First d) + s.fget (HULL_ENGPATH_Count d) ≤ s.fget (HULL_ENGPATH_First e)) ||
        decide (s.fget (HULL_ENGPATH_First e) + n ≤ s.fget (HULL_ENGPATH_First d))) &&
    decide (owned = (List.range s.ownCount).map fun i => s.ownFirst + i) && decide (gpf ≠ 0) &&
    decide (1 ≤ s.fget HULL_CFG_DepthLog2) && decide (s.fget HULL_CFG_DepthLog2 ≤ 13) &&
    decide (s.hullDepth * s.sources.length ≤ 131072) &&
    (List.range 4).all fun st => !s.flag (HULL_SCTRL_Enable st) || s.streamCheck st

/-- HULL_CTRL.Enable written to 1; over 1 it changes nothing (log entry 281). -/
def State.hullEnable (s : State) : State :=
  if s.flag HULL_CTRL_Enable then s
  else if s.hullCheck then (s.fset HULL_CTRL_Enable 1).fset HULL_STATUS_Running 1
  else s.fset HULL_STATUS_ConfigErr 1

/-- HULL_CTRL.Enable written to 0: held frames, tracking entries and ring slots stay (log entry
182). -/
def State.hullDisable (s : State) : State := (s.fset HULL_CTRL_Enable 0).fset HULL_STATUS_Running 0

/-- HULL_ENABLE. -/
def execHullEnable (s : State) : Host.Outcome State Fault Refusal := .next (s.hostEnable HULL_CTRL_Enable State.hullEnable)

/-- The pass groups that partitions present of a stream signal nothing any more: their regions are gone (R84). -/
def State.presentedDrop (s : State) (st : Nat) : State :=
  { s with array := { s.array with
      cur := s.array.cur.map fun e => if e.1 % 4 = st then (e.1, e.2.map fun p => { p with signalled := true }) else e } }

/-- HULL_SCTRL.Enable of a stream written to 1: it starts in half 0 at window 0 with both regions free (R82). A pass
group still being staged from before is dropped (log entry 186). A write of 1 over 1 changes nothing, and the checks are those
of this stream (log entry 281). -/
def State.streamEnable (s : State) (st : Nat) : State :=
  if s.flag (HULL_SCTRL_Enable st) then s
  else if s.streamCheck st then
    let s := (s.fset (HULL_SCTRL_Enable st) 1).presentedDrop st
    { s with hull := { s.hull with
        stream := tset StreamSt.zero s.hull.stream st StreamSt.zero
        staging := s.hull.staging.filter fun p => decide (p.1.st ≠ st)
        region := tset none (tset none s.hull.region (2 * st) none) (2 * st + 1) none
        taken := (List.range 8).foldl (fun t n => tset 0 t (4 * n + st) 0) s.hull.taken } }
  else s.fset HULL_STATUS_ConfigErr 1

/-- HULL_STREAM_ENABLE. -/
def execHullStreamEnable (st : Nat) (s : State) : Host.Outcome State Fault Refusal :=
  reply (4 ≤ st) <|
    (s.hostEnable (HULL_SCTRL_Enable st) fun s => s.streamEnable st)

/-! ## The operand loader (R81 to R85) -/

/-- The time blocks that overlap n frames from index a. -/
def blocksOf (a n : Nat) : List Nat :=
  (List.range ((a % 16 + n - 1) / 16 + 1)).map fun i => (a / 16 + i) % 2 ^ 44

/-- The stream's next pass group is ready (R83). -/
def State.streamReady (s : State) (st : Nat) : Bool :=
  let x := tget StreamSt.zero s.hull.stream st
  s.flag (HULL_SCTRL_Enable st) && !x.waitRun && decide (tget none s.hull.region (2 * st + x.half) = none) &&
    s.sources.all fun i => (blocksOf (s.winStart st x.win) (s.streamT st)).all fun tb => (s.trackOf i tb).closed

/-- Operand-stage bytes stored from an offset; their parity is generated as they are written (R349). -/
def State.stagePuts (s : State) : Nat → List Byte → State
  | _, [] => s
  | o, b :: bs =>
    let s := { s with hull := { s.hull with stage := tset 0 s.hull.stage o b } }
    s.stagePuts (o + 1) bs

/-- What staging has found so far. -/
structure StageAcc where
  s : State
  absent : Nat
  /-- Every absent run so far came from an unreachable or not yet used node. -/
  peer : Bool
  contam : Bool

/-- One source's share of a row that has been read: copied where its run is present, counted where it is absent (R85). -/
def stageRun (pg : PassGroup) (t : Nat) (row : List Byte) (a : StageAcc) (i : Nat) : StageAcc :=
  let s := a.s
  let j := idxAdd (s.winStart pg.st pg.k) t
  let e := s.trackOf i (j / 16)
  let pos := j % 16 * s.ownCount + pg.g
  let hole := match e.hole with
    | some (lo, hi) => decide (lo ≤ pos) && decide (pos ≤ hi)
    | none => false
  let notYet := match tget 0 s.hull.tbr (s.fget (HULL_SRC_Node i)) with
    | 0 => false
    | r + 1 => decide (idxDiff (s.winStart pg.st pg.k) (16 * r) < 0)
  if decide (e.next ≤ pos) || hole || notYet then
    { a with absent := a.absent + 1, peer := a.peer && (e.unreach || notYet), contam := a.contam || e.contam }
  else
    let v := tget 0 s.hull.srcPaths i
    let first := v / 8192
    let b := 4 * fmtBytes s.hullFormat
    let dst := pg.half * 2 ^ 27 + s.fget (HULL_SREGION_Offset pg.st) * 4096 + (t * s.hullPaths + first) * b
    { a with s := s.stagePuts dst ((row.drop (first * b)).take (v % 8192 * b)), contam := a.contam || e.contam }

/-- One row, read whole from HBM with its parity checked (R76, R83): the reserved code everywhere, then the runs that are
present (R85). A Hull path that no source carries keeps the reserved code (log entry 184). -/
def stageRow (pg : PassGroup) (a : StageAcc) (t : Nat) : StageAcc :=
  let s := a.s
  let f := s.hullFormat
  let n := s.hullPaths * 4 * fmtBytes f
  let src := s.ctAddr pg.g (idxAdd (s.winStart pg.st pg.k) t) 0
  let dst := pg.half * 2 ^ 27 + s.fget (HULL_SREGION_Offset pg.st) * 4096 + t * n
  let blank := (List.replicate (4 * s.hullPaths) (sampleLe f (fmtReserved f, fmtReserved f))).flatten
  s.sources.foldl (stageRun pg t (s.hbmBytes src n))
    { a with s := (s.noteRead src n).stagePuts dst blank, contam := a.contam || s.hbmAnyBad src n }

/-- The loader stages the next pass group of a stream (R83, R85). -/
def State.stage (s : State) (st : Nat) : State :=
  let x := tget StreamSt.zero s.hull.stream st
  let pg : PassGroup := ⟨st, x.g, x.win, x.half, x.seq, false, false, false, s.fget (HULL_SCTRL_ConsumerMask st)⟩
  let a := (List.range (s.streamT st)).foldl (stageRow pg) ⟨s, 0, true, false⟩
  let s := (a.s.incBy HULL_MISSRUN a.absent).pmc 244 a.absent
  let pg := { pg with incomplete := decide (0 < a.absent), unreach := decide (0 < a.absent) && a.peer, contam := a.contam }
  { s with hull := { s.hull with staging := some (pg, false) } }

/-- STAGING_START (R83): the loader begins with the lowest stream that holds a ready pass group. -/
def execStagingStart (s : State) : Host.Outcome State Fault Refusal := .next <|
  if s.hullOn && s.hull.staging = none && !s.unitInReset 17 && !s.hbmHeld && !s.xIsHeld 5 0 then
    match (List.range 4).find? s.streamReady with
    | some st => (s.stage st)
    | none => s
  else s

/-- Ring slots whose block every enabled stream has passed are released (R80). -/
def State.releaseRing (s : State) : State :=
  { s with hull := { s.hull with ring := s.hull.ring.filter fun e => !s.blockStaged (e.2 - 1) } }

/-- A pass group whose every consumer has signalled frees its region (R84). -/
def freeIfDone (p : PassGroup) : Option PassGroup := if p.mask = 0 then none else some p

/-- STAGING_DONE (R83): the pass group is ready for its partitions; the stream moves on (R82, R87). -/
def execStagingDone (s : State) : Host.Outcome State Fault Refusal := .next <|
  match (if s.isRun then s.hull.staging else none) with
  | none => s
  | some (pg, stale) =>
    let x := tget StreamSt.zero s.hull.stream pg.st
    let y := if stale then { x with seq := x.seq + 1 }
      else if pg.g + 1 < s.ownCount then { x with g := pg.g + 1, half := 1 - pg.half, seq := x.seq + 1 }
      else { x with win := pg.k + 1, g := 0, half := 1 - pg.half, seq := x.seq + 1 }
    let s := { s with hull := { s.hull with
      staging := none
      stream := tset StreamSt.zero s.hull.stream pg.st y
      region := tset none s.hull.region (2 * pg.st + pg.half) (freeIfDone pg) } }
    let s := s.setReg (HULL_SWIN pg.st) (BitVec.ofNat 32 pg.k)
    let s := (s.inc HULL_PGSTAGED).pmc 245 1
    let s := s.when (pg.incomplete || pg.contam) fun s => (s.inc HULL_PGFLAG).pmc 246 1
    s.releaseRing

/-- Partition n signals the end of its pass over the pass group in half h of stream st (R84). -/
def State.signalEnd (s : State) (n st h : Nat) : State :=
  match tget none s.hull.region (2 * st + h) with
  | none => s
  | some p =>
    let m := if p.mask / 2 ^ n % 2 = 1 then p.mask - 2 ^ n else p.mask
    { s with hull := { s.hull with region := tset none s.hull.region (2 * st + h) (freeIfDone { p with mask := m }) } }

/-! ## Partition, rejoin and SYNC (R86, R87, R369) -/

/-- NODE_UNREACHABLE: open entries of the node are forgotten, so that `trackOf` gives them closed and empty while the node is
away and, for blocks before tb_r, ever after; from tb_r onward they open anew. Its held runs are not sent (R73, R86). -/
def State.nodeLost (s : State) (n : Nat) : State :=
  let mine := fun (k : Nat) => decide (s.fget (HULL_SRC_Node (k / 2 ^ 44)) = n)
  let track := s.hull.track.filter fun e => !(mine e.1 && !e.2.closed)
  let runs := ((s.hull.held.flatMap Prod.snd).flatMap HeldFrame.frames).filter fun d => d.dest = n
  let held := s.hull.held.map fun e =>
    (e.1, e.2.map fun h => { h with frames := h.frames.filter fun d => decide (d.dest ≠ n) })
  let s := s.incBy HULL_TXUNR ((runs.map HeldData.runs).foldl (· + ·) 0)
  { s with hull := { s.hull with track := track, held := held, tbrWait := s.hull.tbrWait.filter (· ≠ n) } }

/-- NODE_REACHABLE: tb_r is the block after the local frame index (R86). -/
def State.nodeBack (s : State) (n : Nat) : State :=
  match s.hull.lfi with
  | some l => { s with hull := { s.hull with tbr := tset 0 s.hull.tbr n ((l / 16 + 1) % 2 ^ 44 + 1) } }
  | none => { s with hull := { s.hull with tbrWait := insertNat n s.hull.tbrWait } }

/-- What entry to RUN does to the Hull (R369). -/
def State.hullEnterRun (s : State) : State :=
  let s := { s with hull := { s.hull with held := [], track := [], ring := [], staging := none } }
  s.each (List.range 4) fun s st =>
    if s.flag (HULL_SCTRL_Enable st) then
      { s with hull := { s.hull with stream := tmod StreamSt.zero s.hull.stream st fun x => { x with g := 0, waitRun := true } } }
    else s

/-! ## The SYNC event (R57, R75, R426) -/

/-- The SYNC event takes effect in every F-engine. The lowest enabled engine passes it on to the Hull (R75); with no engine
enabled the Hull learns of it at once (log entry 282). -/
def State.syncApply (s : State) : State :=
  let s := s.each (List.range 16) fun s e => s.engineSync e
  let s := s.each (List.range 16) fun s e => s.swapCheck e
  match (List.range 16).find? fun e => s.flag (FCH_CTRL_Enable e) with
  | some e => { s with hull := { s.hull with tagq := s.hull.tagq ++ [(e, s.fchS e)] } }
  | none => { s.hullSync with hull := { s.hullSync.hull with tag := none, tagq := [] } }

end Sys2Proof.Machine
end

