-- ==== Sys2Proof/Machine/Account.lean ====
section
/-! DEFINITION. Frame labels and their TAI times (R61, R195), and the availability account: reports and spans (R359 to
R361). -/

namespace Sys2Proof.Machine

/-! ## Labels -/

/-- The enabled slots, by engine and number. -/
def State.slotsOn (s : State) : List (Nat × Nat) :=
  ((List.range 256).map fun i => (i / 16, i % 16)).filter fun x => s.slotOn x.1 x.2

/-- Hull path of an enabled slot: HULL_ENGPATH.First plus its place among the engine's enabled slots (R69). -/
def State.slotPath (s : State) (x : Nat × Nat) : Nat :=
  s.fget (HULL_ENGPATH_First x.1) + ((List.range x.2).filter fun p => s.slotOn x.1 p).length

/-- 2^31 times label(j) − S of R61, by the settings of slot p of engine e. -/
def State.labelOffset (s : State) (e p j : Nat) : Int :=
  let c := s.chainCfg e p
  let n : Int := s.fchN e
  let k : Int := s.fchK e
  (c.d : Int) * c.rsInc * (2 * ((j : Int) + 1) * n - k * n - 1) + 2 ^ 30 * ((c.d : Int) - 1) * (2 - c.nc) - 2 ^ 31 * 23 * c.d

/-- TMB_SREFT in 2^-32 s. -/
def State.srefT (s : State) : Nat :=
  (s.reg TMB_SREFT_FR).toNat + 2 ^ 32 * s.get2 TMB_SREFT_SL TMB_SREFT_SH

/-- tai(label(j)) of R195 in 2^-32 s, 80 bits, for slot p of engine e. -/
def State.taiFrame (s : State) (e p j : Nat) : Nat :=
  let d := s.labelOffset e p j * 256 / 2 ^ 31 + 256 * ((s.fchS e : Int) - s.get2 TMB_SREFIDX_LO TMB_SREFIDX_HI % 2 ^ 48)
  let d := toSigned 56 (d % 2 ^ 56).toNat
  (((s.srefT : Int) + d * s.get2 TMB_SPER_LO TMB_SPER_HI / 2 ^ 40) % 2 ^ 80).toNat

/-! ## Time-stamps (R196, R197) -/

/-- The time-stamp of a frame whose first block crosses the PCS/PMA boundary now, 48.32 (R196): the time counter at the
crossing in steps of 250 ps. The correction for the gearbox latency of the rate step is what makes it the time of the
crossing. Where in the tick it crosses is a free value; State.draw follows each use. -/
def State.stamp (s : State) : Nat :=
  (s.time + (Config.stampFine s.fresh).val * 2 ^ 80 / 4000000000) / 2 ^ 48 % 2 ^ 80

/-- A stamp of the time counter, 48.32, enters lane l's queue; a full queue drops it (R197). -/
def State.stampTx (s : State) (l id : Nat) : State :=
  let q := tget [] s.tim.txts l
  if 16 ≤ q.length then (s.fset (TMB_TXSTAT_Ovf l) 1).raise 12
  else ({ s with tim := { s.tim with txts := tset [] s.tim.txts l (q ++ [(id % 256, s.stamp)]) } }).draw

/-! ## The account (R359 to R361), in units of 2^-16 s -/

/-- The time counter in 2^-16 s. -/
def State.now16 (s : State) : Nat := s.time / 2 ^ 64 % 2 ^ 64

/-- Grace time (ERL_LPSCFG.GraceSec; 0 acts as 1). -/
def State.grace16 (s : State) : Nat := max 1 (s.fget ERL_LPSCFG_GraceSec) * 65536

/-- A span merged with those it overlaps or touches; the others keep their order. -/
def mergeSpan (x : Span) : List Span → List Span
  | [] => [x]
  | y :: t =>
    if y.hi < x.lo then y :: mergeSpan x t
    else if x.hi < y.lo then x :: y :: t
    else mergeSpan ⟨min x.lo y.lo, max x.hi y.hi, min x.cause y.cause⟩ t

/-- The smallest gap between neighbours. -/
def minGap : List Span → Option Nat
  | a :: b :: t =>
    match minGap (b :: t) with
    | none => some (b.lo - a.hi)
    | some g => some (min g (b.lo - a.hi))
  | _ => none

/-- The first two neighbours with gap g become one (R361). -/
def closeGap (g : Nat) : List Span → List Span
  | a :: b :: t => if b.lo - a.hi = g then ⟨a.lo, b.hi, min a.cause b.cause⟩ :: t else a :: closeGap g (b :: t)
  | l => l

/-- The report touches a span already held. -/
def touches (x : Span) (l : List Span) : Bool := l.any fun y => decide (y.lo ≤ x.hi) && decide (x.lo ≤ y.hi)

/-- The end of a span that begins at lo, clipped at the first of the moments inside it (R360). -/
def clipEnd (lo hi : Nat) (left : List Nat) : Nat := left.foldl (fun h t => if lo < t ∧ t < h then t else h) hi

/-- The part leaves RUN at time t: the spans held that run beyond it are clipped there, as those reported later will be (R360). -/
def State.clipSpans (s : State) (t : Nat) : State :=
  { s with erl := { s.erl with
      leftRun := t :: s.erl.leftRun
      spans := s.erl.spans.map fun x => { x with hi := clipEnd x.lo x.hi [t] } } }

/-- A span enters the account (R360 clip at leaving RUN, R361). -/
def State.addSpan (s : State) (lo hi cause : Nat) : State :=
  let hi := clipEnd lo hi s.erl.leftRun
  let edge := s.now16 - s.grace16
  let s := if lo < edge then (s.inc ERL_LPSCLIP).fset ERL_STATUS_Clipped 1 else s
  let lo := max lo edge
  if hi ≤ lo then s
  else
    let x : Span := ⟨lo, hi, cause⟩
    let full := decide (64 ≤ s.erl.spans.length) && !touches x s.erl.spans
    let s := if full then s.fset ERL_STATUS_SpanMerge 1 else s
    let spans := if full then
        match minGap s.erl.spans with
        | some g => closeGap g s.erl.spans
        | none => s.erl.spans
      else s.erl.spans
    { s with erl := { s.erl with spans := mergeSpan x spans } }

/-- A lost interval of context c is reported (R359): the log entry, the event counter and the span. -/
def State.reportLost (s : State) (c cause lo hi : Nat) : State :=
  ((s.log 0x16 0 c cause).pmc 470 1).addSpan lo hi cause

/-- Units of 2^-16 s of a 48.32 time. -/
def to16 (tai : Nat) : Nat := tai / 2 ^ 16

/-- One running total rises by n units; 0 is the total of all causes. -/
def State.addAcc (s : State) (i n : Nat) : State :=
  { s with erl := { s.erl with acc := tset 0 s.erl.acc i (tget 0 s.erl.acc i + n) } }

/-- The account's total and a cause rise by n units. -/
def State.addLoss (s : State) (cause n : Nat) : State := (s.addAcc 0 n).addAcc cause n

/-- The span's end lies more than the grace before the time counter, to its last bit (R361). -/
def State.spanOld (s : State) (x : Span) : Bool := decide ((x.hi + s.grace16) * 2 ^ 64 < s.time % 2 ^ 128)

/-- Spans whose end lies more than the grace before the time counter retire (R361). -/
def State.retireSpans (s : State) : State :=
  let old := s.erl.spans.filter s.spanOld
  let s := s.each old fun s x => s.addLoss x.cause (x.hi - x.lo)
  { s with erl := { s.erl with spans := s.erl.spans.filter fun x => !s.spanOld x } }

end Sys2Proof.Machine
end

