-- ==== Sys2Proof/Machine/PodCore.lean ====
section
/-! DEFINITION. What the pods, the contexts and the Husk share: a pod's position and banks, partitions (R100), stops
(R110), program faults (R106), Pip choice and retirement (R388 to R390), a context's settings (R148, R149), and what a
fault or a stop does to a context (R157, R158) and to its integration (R142). -/

namespace Sys2Proof.Machine

/-! ## Pods -/

def State.pod (s : State) (p : Nat) : PodSt := tget PodSt.idle s.array.pod p
def State.setPod (s : State) (p : Nat) (x : PodSt) : State :=
  { s with array := { s.array with pod := tset PodSt.idle s.array.pod p x } }
def State.modPod (s : State) (p : Nat) (f : PodSt → PodSt) : State := s.setPod p (f (s.pod p))

/-- A bank of a pod: 0 A, 1 B. -/
def PodSt.bank (x : PodSt) (h : Nat) : Bank := if h = 0 then x.bankA else x.bankB
def PodSt.setBank (x : PodSt) (h : Nat) (b : Bank) : PodSt := if h = 0 then { x with bankA := b } else { x with bankB := b }
def PodSt.act (x : PodSt) : Bank := x.bank x.active
def PodSt.setAct (x : PodSt) (b : Bank) : PodSt := x.setBank x.active b

/-- A slot value in the 40-bit two's complement of the cells (R94). -/
def wrap40 (v : Int) : Int := toSigned 40 (v % 2 ^ 40).toNat

/-- A sum and its valid products enter a slot: written when fresh, added otherwise (R92, R93, R94). -/
def Cell.add (c : Cell) (re im : Int) (n : Nat) : Cell :=
  if c.fresh then ⟨wrap40 re, wrap40 im, n % 2 ^ 17, false⟩
  else ⟨wrap40 (c.re + re), wrap40 (c.im + im), (c.cnt + n) % 2 ^ 17, false⟩

def cellKey (slot r c : Nat) : Nat := 1024 * slot + 32 * r + c
def Bank.cell (b : Bank) (slot r c : Nat) : Cell := tget Cell.empty b.cells (cellKey slot r c)

/-! ## Partitions (R100) -/

def State.isMember (s : State) (p : Nat) : Bool := s.flag (POD_PCFG_Member p)
def State.podPart (s : State) (p : Nat) : Nat := s.fget (POD_PCFG_Partition p)
def State.members (s : State) (n : Nat) : List Nat :=
  (List.range 64).filter fun p => s.isMember p && s.podPart p = n
/-- Operand format of a pod; the reserved code acts as 0 (R20). -/
def State.podFormat (s : State) (p : Nat) : Nat := let f := s.fget (POD_PCFG_Format p); if f = 3 then 0 else f
def State.podBeam (s : State) (p : Nat) : Bool := s.flag (POD_PCFG_Mode p)
def State.podPorts (s : State) (p : Nat) : Nat := s.fget (POD_PORTOWN_Ports p)
def State.ownsPort (s : State) (p port : Nat) : Bool := s.podPorts p / 2 ^ port % 2 = 1
/-- The lead of partition n. -/
def State.lead (s : State) (n : Nat) : Option Nat := (s.members n).head?
def State.isLead (s : State) (p : Nat) : Bool := s.isMember p && decide (s.lead (s.podPart p) = some p)
/-- The pods of partition n whose sequencers run. -/
def State.running (s : State) (n : Nat) : List Nat := (s.members n).filter fun p => (s.pod p).seq

def State.owner (s : State) (p : Nat) : Option Nat :=
  if s.flag (POD_OWNER_Owned p) then some (s.fget (POD_OWNER_Context p)) else none

/-- The pass group partition n presents for stream st (R99). -/
def State.presented (s : State) (n st : Nat) : Option Presented := tget none s.array.cur (4 * n + st)
def State.setPresented (s : State) (n st : Nat) (v : Option Presented) : State :=
  { s with array := { s.array with cur := tset none s.array.cur (4 * n + st) v } }

/-! ## Pip records (R388 to R390) -/

/-- Live value of an event counter. -/
def State.pmcLive (s : State) (n : Nat) : Nat := s.get2 (PMC_LIVE_LO n) (PMC_LIVE_HI n)

def State.pipSelected (s : State) (p : Nat) : Bool :=
  if p < 32 then (s.reg PMC_PIPMASK_LO).getLsbD p else (s.reg PMC_PIPMASK_HI).getLsbD (p - 32)

/-- The pod holds a record of the chosen instruction, or counts it lost (R388). -/
def State.pipChosen (s : State) (p op pc : Nat) (trigger : Bool) : State :=
  if (s.pod p).pip.isSome then s.pmc 8 1
  else s.modPod p fun x => { x with pip := some ⟨trigger, op, pc, s.pmcLive 0, [], 0, none, x.clk, none⟩ }

/-- An instruction stands at issue for the first time (R388). -/
def State.pipIssue (s : State) (p op pc : Nat) : State :=
  if !s.pipSelected p || s.unitInReset 22 then s
  else if s.fget PMC_PIPCFG_Mode = 1 then
    let n := (s.pod p).pipCount + 1
    if n < max 1 (s.fget PMC_PIPCFG_Period) then s.modPod p fun x => { x with pipCount := n }
    else (s.modPod p fun x => { x with pipCount := 0 }).pipChosen p op pc false
  else if s.fget PMC_PIPCFG_Mode = 2 ∧ (s.pod p).pipArmed = true then
    (s.modPod p fun x => { x with pipArmed := false }).pipChosen p op pc true
  else s

/-- n ACLK cycles pass at the issue of pod p. -/
def State.podClock (s : State) (p n : Nat) : State := s.modPod p fun x => { x with clk := x.clk + n }

/-- Cycles since the issue cycle of the record in progress (R390). -/
def State.pipAge (s : State) (p : Nat) : Nat :=
  match (s.pod p).pip with
  | some r => (s.pod p).clk - r.at'
  | none => 0

/-- The record in progress retires; `exact` is its latency where R390 and the pod's cycles give it. -/
def State.pipRetire (s : State) (p : Nat) (exact : Option Nat) (aborted : Bool) : State :=
  match (s.pod p).pip with
  | some r =>
    if r.done.isSome || (!aborted && decide (r.after ≠ 0)) then s
    else
      match exact with
      | some n => s.modPod p fun x => { x with pip := some { r with done := some (n, aborted) } }
      | none => (s.modPod p fun x => { x with pip := some { r with done := some (Config.pipLatency s.fresh, aborted) } }).draw
  | none => s

/-- The sampled instruction issued and retires when n completions of its kind have come (DRAIN, WLD, WINIT); `last`: the
pod's cycle in which it does, where the spec fixes it. -/
def State.pipWait (s : State) (p op n : Nat) (last : Option Nat) : State :=
  match (s.pod p).pip with
  | some r => if r.op = op ∧ r.done = none ∧ r.after = 0 then
      s.modPod p fun x => { x with pip := some { r with after := n, fixed := last.map fun e => e - r.at' } } else s
  | none => s

/-- Another user takes the W-bus from a sampled DRAIN or WINIT under way (R108): its retirement cycle is no longer fixed. -/
def State.pipVoid (s : State) (p : Nat) : State :=
  match (s.pod p).pip with
  | some r => if 0 < r.after ∧ r.op ≠ 0x0B then s.modPod p fun x => { x with pip := some { r with fixed := none } } else s
  | none => s

/-- One completion of the kind that opcode op starts. -/
def State.pipDone (s : State) (p op : Nat) : State :=
  match (s.pod p).pip with
  | some r =>
    if r.op = op ∧ r.done = none ∧ 0 < r.after then
      let s := s.modPod p fun x => { x with pip := some { r with after := r.after - 1 } }
      if r.after = 1 then s.pipRetire p (r.fixed.map fun n => n + tget 0 r.stalls 5) false else s
    else s
  | none => s

/-- The counter a stall cause counts in (R109, R390). -/
def stallReg (p cause : Nat) : Option Nat :=
  match cause with
  | 1 => some (POD_STALLDRN p) | 2 => some (POD_STALLOPND p) | 3 => some (POD_STALLPORT p)
  | 4 => some (POD_STALLW p) | 5 => some (POD_DRAINHOLD p) | _ => none

/-- n stalled cycles of pod p (R109, R380, R390); a paused drain stands beside the issue. -/
def State.stallFor (s : State) (p cause n : Nat) : State :=
  let s := match stallReg p cause with
    | some a => s.incBy a n
    | none => s
  let s := (s.pmc (80 + p) n).podClock p (if cause = 5 then 0 else n)
  match (s.pod p).pip with
  | some r => if r.done.isSome then s else
      s.modPod p fun x => { x with pip := some { r with stalls := tset 0 r.stalls cause (tget 0 r.stalls cause + n) } }
  | none => s

/-- A stalled cycle of pod p, whose instruction stands from now on (R109, R380). -/
def State.stall (s : State) (p cause : Nat) : State :=
  (s.modPod p fun x => if cause = 5 then x else { x with held := cause, heldN := x.heldN + 1 }).stallFor p cause 1

/-- The rest of the n ACLK cycles since the last ECLK tick in which the instruction of pod p has stood stalled (R380, log entry 27). -/
def State.stallTick (s : State) (n p : Nat) : State :=
  let x := s.pod p
  let s := s.when (x.seq && decide (x.held ≠ 0) && decide (x.heldN < n)) fun s => s.stallFor p x.held (n - x.heldN)
  if x.heldN = 0 then s else s.modPod p fun x => { x with heldN := 0 }

/-! ## Stopping a pod (R110) -/

/-- The sequencer starts at POD_CTRL.Entry with the active bank fresh and no valid weight set (R102, R106, R110). The pending
selections of SEL stay (log entry 283). -/
def State.podBegin (s : State) (p : Nat) : State :=
  let s := s.modPod p fun x =>
    { (x.setAct Bank.fresh) with
      seq := true, start := false, frames := [], bmacs := [], loop := none, beats := none, macd := false, wait := 0
      stood := false, held := 0, shadow := none, weights := none }
  let s := (s.fset (POD_STATUS_FaultCode p) 0).fset (POD_STATUS_Fault p) 0
  (s.fset (POD_STATUS_Halted p) 0).fset (POD_STATUS_Pc p) (s.fget (POD_CTRL_Entry p))

/-- A held swap, a drain, a WLD or a WINIT of the pod is outstanding (R110). -/
def PodSt.outstanding (x : PodSt) : Bool :=
  x.swap.isSome || !x.drains.isEmpty || !x.wlds.isEmpty || !x.winits.isEmpty

/-- POD_STATUS.Running and DrainBusy follow the sequencer and what is outstanding; a Run of 1 that waited for it, or for the
entry to RUN (R368, R369), takes effect (R110). -/
def State.podSettle (s : State) (p : Nat) : State :=
  let s := s.when ((s.pod p).start && !(s.pod p).outstanding && s.isRun) fun s => s.podBegin p
  let x := s.pod p
  (s.fset (POD_STATUS_Running p) (if x.seq || x.outstanding then 1 else 0)).fset (POD_STATUS_DrainBusy p)
    (if x.drains.isEmpty then 0 else 1)

/-- An open port ends when no listener has words to consume (R98). -/
def closeIfDone (o : OpenPort) : Option OpenPort := if o.listeners.all (fun l => decide (o.words ≤ l.pos)) then none else some o

/-- The pod leaves every listener set (R110). -/
def State.leavePorts (s : State) (p : Nat) : State :=
  let openp := (s.array.openp).filterMap fun e =>
    match e.2 with
    | some o =>
      match closeIfDone { o with listeners := o.listeners.filter fun l => decide (l.pod ≠ p) } with
      | some o => some (e.1, some o)
      | none => none
    | none => none
  let req := (s.array.req).filterMap fun e =>
    match e.2 with
    | some (lead, ls) => if lead = p then none else some (e.1, some (lead, ls.filter fun l => decide (l.1 ≠ p)))
    | none => none
  { s with array := { s.array with openp := openp, req := req } }

/-- The program of pod p ends: no instruction stands at issue, and the pod leaves its ports and barriers. -/
def State.podEnd (s : State) (p : Nat) : State :=
  let s := s.modPod p fun x =>
    { x with seq := false, loop := none, beats := none, wait := 0, stood := false, held := 0 }
  ((s.leavePorts p).fset (POD_STATUS_Waiting p) 0).podSettle p

/-- The sequencer of pod p is stopped by R106 or R110: a record in progress ends Aborted, with its cycles so far (R389). -/
def State.podHalt (s : State) (p : Nat) : State := (s.pipRetire p (some (s.pipAge p)) true).podEnd p

/-- A pod whose Run is 0 and that waits stops at once where R110 says so. -/
def State.podStopCheck (s : State) (p : Nat) : State :=
  let x := s.pod p
  let barrier := x.wait = 3 || x.wait = 4 || x.wait = 5
  if x.seq && !s.flag (POD_CTRL_Run p) && decide (x.wait ≠ 0) && (!x.macd || (barrier && x.swap.isNone)) then s.podHalt p
  else s

/-- POD_CTRL.Run written to 0 (R110). -/
def State.podRunStop (s : State) (p : Nat) : State :=
  ((s.fset (POD_CTRL_Run p) 0).modPod p fun x => { x with start := false }).podStopCheck p

/-- The pod's configuration agrees with every other member of its partition (R100). -/
def State.podConfigOk (s : State) (p : Nat) : Bool :=
  s.isMember p && (s.members (s.podPart p)).all fun q =>
    s.podBeam q = s.podBeam p && s.podFormat q = s.podFormat p && s.podPorts q = s.podPorts p

/-! ## Contexts -/

def State.ctx (s : State) (c : Nat) : CtxSt := tget CtxSt.idle s.ctxs.rt c
def State.setCtx (s : State) (c : Nat) (x : CtxSt) : State :=
  { s with ctxs := { s.ctxs with rt := tset CtxSt.idle s.ctxs.rt c x } }
def State.modCtx (s : State) (c : Nat) (f : CtxSt → CtxSt) : State := s.setCtx c (f (s.ctx c))

/-- 0 EMPTY, 1 STOPPED, 2 ARMED, 3 RUNNING, 4 DRAINING, 5 FAULTED. -/
def State.ctxState (s : State) (c : Nat) : Nat := s.fget (CTX_STATE_State c)
def State.ctxIdle (s : State) (c : Nat) : Bool := decide (s.ctxState c ≤ 1)

/-- No context owns the pod, or its owner is RUNNING (R101). -/
def State.ownerRuns (s : State) (p : Nat) : Bool :=
  match s.owner p with
  | some c => decide (s.ctxState c = 3)
  | none => true

/-- POD_CTRL.Run set to 1 (R100, R101, R110, R112): the sequencer starts once nothing of its last run is outstanding and the
part is in RUN. Over 1 of a pod whose sequencer runs it changes nothing. A pod that no context owns has no fill of R155. -/
def State.podRunStart (s : State) (p : Nat) : State :=
  if s.flag (POD_STATUS_Failed p) || !s.ownerRuns p || ((s.pod p).seq && s.flag (POD_CTRL_Run p)) then s
  else if !s.podConfigOk p then s.fset (POD_STATUS_ConfigErr p) 1
  else if (s.pod p).seq then s.fset (POD_CTRL_Run p) 1
  else ((s.fset (POD_CTRL_Run p) 1).modPod p fun x =>
    { x with start := true, fillBad := if (s.owner p).isSome then x.fillBad else none }).podSettle p

/-- Contexts that are not EMPTY or STOPPED. -/
def State.liveCtxs (s : State) : List Nat := (List.range 4096).filter fun c => !s.ctxIdle c

def State.ctxKind (s : State) (c : Nat) : Nat := s.fget (CTX_CFG_Kind c)
def State.ctxStream (s : State) (c : Nat) : Nat := s.fget (CTX_CFG_Stream c)
def State.ctxPart (s : State) (c : Nat) : Nat := s.fget (CTX_CFG_Partition c)
/-- P; W for TOPK. -/
def State.ctxP (s : State) (c : Nat) : Nat := s.fget (CTX_CFG_PassesMinus1 c) + 1
def State.ctxM (s : State) (c : Nat) : Nat := s.fget (CTX_PATHS_CountMinus1 c) + 1
def State.ctxT (s : State) (c : Nat) : Nat := s.streamT (s.ctxStream c)
def State.ctxGroups (s : State) (c : Nat) : Nat := s.fget (CTX_CHAN_GroupsMinus1 c) + 1
def State.ctxFirst (s : State) (c : Nat) : Nat := s.fget (CTX_CHAN_FirstGroup c)
def State.ctxBeams (s : State) (c : Nat) : Nat := s.fget (CTX_BEAM_BeamCount c)
def State.ctxEmit (s : State) (c : Nat) : Bool := s.flag (CTX_DEST_Emit c)
def State.ctxKeff (s : State) (c : Nat) : Nat := s.get2 (CTX_KEFF_LO c) (CTX_KEFF_HI c)
def State.ctxK0 (s : State) (c : Nat) : Nat := s.fget (CTX_K0_LO_WindowLow c) + 2 ^ 32 * s.fget (CTX_K0_HI_WindowHigh c)

/-- The full count F of R148. -/
def State.ctxF (s : State) (c : Nat) : Nat :=
  match s.ctxKind c with
  | 0 => s.ctxT c | 1 => s.ctxT c | 2 => s.ctxM c | _ => s.ctxM c * s.ctxT c

/-- The tile's pods in row-major order that lie in the grid; none for TOPK (CTX_TILE). -/
def State.tile (s : State) (c : Nat) : List Nat :=
  if s.flag (CTX_TILE_NoTile c) then []
  else
    let r0 := s.fget (CTX_TILE_Row0 c)
    let c0 := s.fget (CTX_TILE_Col0 c)
    ((List.range (s.fget (CTX_TILE_RowsMinus1 c) + 1)).flatMap fun i =>
      (List.range (s.fget (CTX_TILE_ColsMinus1 c) + 1)).map fun j => (r0 + i, c0 + j)).filterMap fun x =>
        if x.1 < 8 ∧ x.2 < 8 then some (8 * x.1 + x.2) else none

/-- The tile of c holds the lead of c's partition (R160). -/
def State.hasLead (s : State) (c : Nat) : Bool := (s.tile c).any fun p => decide (s.lead (s.ctxPart c) = some p)

/-- Path at a path-store position. -/
def State.pathAt (s : State) (i : Nat) : Nat :=
  if i % 2 = 0 then s.fget (PATHSTORE_PathEven (i / 2)) else s.fget (PATHSTORE_PathOdd (i / 2))

/-- A slot whose chain gives context c's labels (R61): all paths of one context share its settings (R63). It is the first
enabled slot of this part that carries a path of c's list, of its source's for TOPK; where there is none, the first enabled
slot (DESIGN CHOICE, log entry 194). -/
def State.ctxSlot (s : State) (c : Nat) : Nat × Nat :=
  let c := if s.ctxKind c = 5 then s.fget (HUSK_DTOPK_Source c) else c
  let paths := (List.range (s.ctxM c)).map fun i => s.pathAt (s.fget (CTX_PATHS_ListBase c) + i)
  match s.slotsOn.find? fun x => paths.contains (s.slotPath x) with
  | some x => x
  | none => s.slotsOn.headD (0, 0)

/-- TAI time of label(j) for the frames of context c, 48.32 (R195). -/
def State.taiOf (s : State) (c j : Nat) : Nat := s.taiFrame (s.ctxSlot c).1 (s.ctxSlot c).2 j

/-- First frame index of interval n of context c (R164). -/
def State.intervalFrame (s : State) (c k0 n : Nat) : Nat := s.winStart (s.ctxStream c) (k0 + n * s.ctxP c)

/-- Frames an interval of context c spans; a TOPK interval spans W source intervals (R164). -/
def State.intervalSpan (s : State) (c : Nat) : Nat :=
  if s.ctxKind c = 5 then
    let o := s.fget (HUSK_DTOPK_Source c)
    s.ctxP c * (s.ctxP o * s.ctxT o)
  else s.ctxP c * s.ctxT c

/-- TaiStart and end of the interval of context c whose first frame is f (R195, R360). -/
def State.taiSpan (s : State) (c f : Nat) : Nat × Nat := (s.taiOf c f, s.taiOf c (idxAdd f (s.intervalSpan c)))

/-- The open integration of a context that applies window w. -/
def HuskCtx.integ (h : HuskCtx) (p w : Nat) : Nat := (w - h.k0) / p

def State.huskCtx (s : State) (c : Nat) : Option HuskCtx := tget none s.husk.ctx c

/-- Pods of the tile have stopped, drains included (R157). -/
def State.tileStopped (s : State) (c : Nat) : Bool :=
  (s.tile c).all fun p => !s.flag (POD_STATUS_Running p) && (s.pod p).drains.isEmpty

/-- CTX_HBMSUM's true sum and CTX_PLOAD's (R152). -/
def State.hbmSum (s : State) : Nat :=
  (s.liveCtxs.filter fun c => decide (s.ctxState c ≠ 5)).foldl (fun a c => a + s.fget (CTX_LOAD_HbmLoad c))
    (s.fget CTX_HBMSTATIC_Static)
def State.partSum (s : State) (n : Nat) : Nat :=
  (s.liveCtxs.filter fun c => decide (s.ctxState c ≠ 5) && decide (s.ctxPart c = n)).foldl
    (fun a c => a + s.fget (CTX_LOAD_PartLoad c)) 0

/-- Indices nx of a context's spill (R122, R130). -/
def State.ctxNx (s : State) (c : Nat) : Nat :=
  match s.ctxKind c with
  | 0 => s.ctxM c * (s.ctxM c + 1) / 2
  | 1 => s.ctxM c
  | 4 => 2 * s.ctxBeams c
  | _ => s.ctxBeams c

/-- Sets a TOPK context uses: first and count (R143). -/
def State.topSets (s : State) (c : Nat) : Nat × Nat :=
  (s.fget (HUSK_DTOPK_SetBase c), if s.flag (HUSK_DTOPK_PerIndex c) then s.ctxNx (s.fget (HUSK_DTOPK_Source c)) else 1)

/-! ### The integration in progress is discarded (R142) -/

/-- The power-stage entry belongs to context c: keys are ((((lane·4096 + c)·2^48 + window)·2^13 + group)·2^24 + x)·4 + k. -/
def powerCtx (key : Nat) : Nat := key / (4 * 2 ^ 24 * 2 ^ 13 * 2 ^ 48) % 4096

/-- The sets of TOPK context o are emptied. -/
def State.topEmpty (s : State) (o : Nat) : State :=
  let (b, n) := s.topSets o
  { s with husk := { s.husk with
    top := s.husk.top.filter fun e => decide (e.1 < b) || decide (b + n ≤ e.1)
    topMarks := s.husk.topMarks.filter fun e => decide (e.1 < b) || decide (b + n ≤ e.1) } }

/-- The RUNNING TOPK contexts that watch c. -/
def State.watchers (s : State) (c : Nat) : List Nat :=
  s.liveCtxs.filter fun o => decide (s.ctxKind o = 5) && decide (s.fget (HUSK_DTOPK_Source o) = c)

/-- A watch integration in progress is discarded; the source's dumps under way no longer count (R161). -/
def State.watchDrop (s : State) (o : Nat) : State :=
  let s := s.topEmpty o
  let src := s.fget (HUSK_DTOPK_Source o)
  { s with husk := { s.husk with
      watch := tset none s.husk.watch o none
      dumps := tmod [] s.husk.dumps src fun l => l.map fun d => { d with watch := d.watch.filter (· ≠ o) } } }

/-- The source c leaves RUNNING: the watch integrations over it are discarded (R161). One that a dump made while the source was
DRAINING has begun goes on. -/
def State.watchersDrop (s : State) (c : Nat) : State := s.each (s.watchers c) fun s o => s.watchDrop o

/-- The chaff records of an integration discarded unemitted are stale (R142). -/
def State.chaffStale (s : State) (c n : Nat) : State :=
  { s with husk := { s.husk with stale := tset none s.husk.stale (65536 * c + n % 65536) (some []) } }

/-- The Husk drops what it holds of context c: the integration in progress, held drains, unsent voltage blocks of the
current window; of a TOPK context, its watch integration (R142, R147, R161). -/
def State.huskDiscard (s : State) (c : Nat) : State :=
  let s := if s.ctxKind c = 5 then s.watchDrop c else s
  let s := match s.huskCtx c with
    | some h => s.chaffStale c (h.integ (s.ctxP c) h.win)
    | none => s
  let volt := match s.huskCtx c with
    | some h => (tget [] s.husk.volt c).filter fun b => decide (b.win < h.win)
    | none => tget [] s.husk.volt c
  { s with husk := { s.husk with
      ctx := tset none s.husk.ctx c none
      power := s.husk.power.filter fun e => decide (powerCtx e.1 ≠ c)
      held := (s.husk.held.map fun e => (e.1, e.2.filter fun d => decide (d.ctx ≠ some c))).filter
        fun e => !e.2.isEmpty
      volt := tset [] s.husk.volt c volt
      voltPos := if volt.isEmpty then terase s.husk.voltPos c else s.husk.voltPos } }

/-! ### Losses (R35, R359, R360) -/

/-- First frame of the interval in progress of context c; of a TOPK context, of the watch integration in progress, or of the
source's interval with which one would begin. -/
def State.openFrame (s : State) (c : Nat) : Option Nat :=
  let src := if s.ctxKind c = 5 then s.fget (HUSK_DTOPK_Source c) else c
  let own := (s.huskCtx src).map fun h => s.intervalFrame src h.k0 (h.integ (s.ctxP src) h.win)
  match if s.ctxKind c = 5 then tget none s.husk.watch c else none with
  | some w => if w.seen = 0 then own else some w.frame
  | none => own

/-- The interval of context c whose first frame is f is reported lost, with its whole span. -/
def State.reportInterval (s : State) (c cause f : Nat) : State :=
  s.reportLost c cause (to16 (s.taiSpan c f).1) (to16 (s.taiSpan c f).2)

/-- A reload that will restart c notes the first interval c misses (R359, R360). -/
def State.reloadMark (s : State) (c : Nat) : State :=
  match s.img.reload, s.openFrame c with
  | some r, some f =>
    let again := r.again.map fun x => if x.1 = c && s.ctxEmit c then (c, some f) else x
    { s with img := { s.img with reload := some { r with again := again } } }
  | _, _ => s

/-- A pending loss is reported when the context leaves without being RUNNING again: it ends now (R359, R360). -/
def State.reportStop (s : State) (c : Nat) : State :=
  match (s.ctx c).loss with
  | some (cause, f) => (s.modCtx c fun x => { x with loss := none }).reportLost c cause (to16 (s.taiOf c f)) s.now16
  | none => s

/-! ### Becoming STOPPED -/

def State.setCtxState (s : State) (c st : Nat) : State := s.fset (CTX_STATE_State c) st

/-- The context becomes STOPPED; its pods lose their owner (R157). -/
def State.ctxStopped (s : State) (c : Nat) : State :=
  let s := s.each (s.tile c) fun s p => s.when (decide (s.owner p = some c)) fun s => s.setReg (POD_OWNER p) 0
  let s := (s.fset (CTX_STATE_Loading c) 0).setCtxState c 1
  s.setCtx c CtxSt.idle

/-- Contexts of c's partition that wait for the lead's K0eff become STOPPED with NO_LEAD (R151, R154); what a restart of
theirs has missed is lost (R159). -/
def State.leadGone (s : State) (c : Nat) : State :=
  if s.hasLead c then
    s.each (s.liveCtxs.filter fun o => decide (o ≠ c) && s.ctxState o = 2 && !(s.ctx o).fixed && s.ctxPart o = s.ctxPart c &&
        !s.hasLead o && decide (s.ctxKind o ≠ 5))
      fun s o => ((s.fset (CTX_STATE_LastRefusal o) 8).reportStop o).ctxStopped o
  else s

/-- An ARMED context becomes STOPPED (R151). -/
def State.ctxDisarm (s : State) (c : Nat) : State :=
  ((if s.ctxState c = 2 then s.leadGone c else s).reportStop c).ctxStopped c

/-! ### Faults (R106, R158) -/

/-- A context that faults during a reload is not restarted by it, and a STOP held back for it is not issued (R343). -/
def State.reloadDrop (s : State) (c : Nat) : State :=
  match s.img.reload with
  | some r =>
    { s with
      img := { s.img with reload := some { r with again := r.again.filter fun x => decide (x.1 ≠ c) } }
      ctxs := { s.ctxs with leadWait := if s.ctxs.draining then s.ctxs.leadWait else s.ctxs.leadWait.filter (· ≠ c) } }
  | none => s

/-- A fault of context c with its cause (R158). A second fault while FAULTED keeps the first cause (R163). R158 has an entry's ECC
error fault a context that is not STOPPED, and R151 moves only RUNNING and DRAINING to FAULTED: an ARMED context does not fault
(DESIGN CHOICE, log entry 290). -/
def State.ctxFault (s : State) (c cause : Nat) : State :=
  if s.ctxState c = 3 ∨ s.ctxState c = 4 then
    let draining := decide (s.ctxState c = 4)
    let loss := if s.ctxEmit c && !draining then (s.openFrame c).map fun f => (3, f) else none
    let s := if draining then s else s.watchersDrop c
    let s := ((s.fset (CTX_STATE_FaultCause c) cause).setCtxState c 5).reloadDrop c
    let s := s.modCtx c fun x => { x with stop := x.stop || draining, loss := loss }
    let s := s.each (s.tile c) fun s p => s.podRunStop p
    let s := ((s.huskDiscard c).log 0x0D 0 c cause).pmc 466 1
    let s := if s.flag GLB_CTXFAULT_Valid then s else (s.fset GLB_CTXFAULT_Context c).fset GLB_CTXFAULT_Valid 1
    s.raise 4
  else s

/-- Pod p halts with a fault code, and the fault is logged (R106). -/
def State.podFaultEnter (s : State) (p code : Nat) : State :=
  let s := (s.fset (POD_STATUS_FaultCode p) code).fset (POD_STATUS_Fault p) 1
  (s.podHalt p).log 0x0B 0 p code

/-- The context that owned a faulting pod faults with it (R158). -/
def State.faultOwner (s : State) (own : Option Nat) (code : Nat) : State :=
  match own with
  | some c => s.ctxFault c code
  | none => s

/-- A program fault of pod p (R106). -/
def State.podFault (s : State) (p code : Nat) : State := (s.podFaultEnter p code).faultOwner (s.owner p) code

end Sys2Proof.Machine
end

