-- ==== Sys2Proof/Machine/Ctx.lean ====
section
/-! DEFINITION. Contexts: commands and states (R151, R162), the START checks (R152), the weight fill and K0eff (R153 to
R155), starting and passing a window (R156), STOP (R157, R160), the entry's Valid bit and the scrub (R149). -/

namespace Sys2Proof.Machine

/-! ## The next window (R153) -/

/-- Window and group of the next pass group of stream st that partition n has not taken. -/
def State.nextPg (s : State) (st n : Nat) : Nat × Nat :=
  let t := tget 0 s.hull.taken (4 * n + st)
  let staged := ([0, 1].filterMap fun h => tget none s.hull.region (2 * st + h)) ++
    (match s.hull.staging with
      | some (p, _) => if p.st = st then [p] else []
      | none => [])
  match staged.find? fun p => p.seq = t with
  | some p => (p.k, p.g)
  | none => let x := tget StreamSt.zero s.hull.stream st; (x.win, x.g)

/-- W_n. -/
def State.nextWindow (s : State) (st n : Nat) : Nat :=
  let x := s.nextPg st n
  if x.2 = 0 then x.1 else x.1 + 1

/-! ## START (R152) -/

/-- The longest pass of a format (R27). -/
def maxPass (f : Nat) : Nat := if f = 0 then 4096 else 65536

def kindBeam (k : Nat) : Bool := k = 2 || k = 3 || k = 4

/-- BAD_ENTRY of R152. -/
def State.badEntry (s : State) (c : Nat) : Bool :=
  let k := s.ctxKind c
  let t := s.tile c
  let size := (s.fget (CTX_TILE_RowsMinus1 c) + 1) * (s.fget (CTX_TILE_ColsMinus1 c) + 1)
  let beams := s.ctxBeams c
  let base := s.fget (CTX_PATHS_ListBase c)
  decide (5 < k) || decide (s.fget (CTX_K0_HI_StartMode c) = 3) || s.flag (CTX_TILE_NoTile c) != decide (k = 5) ||
    (decide (k ≠ 5) && (decide (t.length ≠ size) ||
      t.any fun p => !s.isMember p || decide (s.podPart p ≠ s.ctxPart c) || s.podBeam p != kindBeam k ||
        decide (s.podFormat p ≠ s.hullFormat))) ||
    decide (s.ownCount < s.ctxFirst c + s.ctxGroups c) || decide (65536 < base + s.ctxM c) ||
    ((List.range (s.ctxM c)).any fun i => decide (s.hullPaths ≤ s.pathAt (base + i))) ||
    (decide (beams = 0) == kindBeam k) || decide (k = 4 ∧ beams % 2 = 1) || decide (4096 < beams) ||
    decide (256 < s.fget (CTX_WSIZE_Length c)) || decide (k = 2 ∧ s.fget (CTX_CFG_PassesMinus1 c) ≠ 0) ||
    (s.ctxEmit c && !s.flag (EGR_DCTRL_Valid (s.fget (CTX_DEST_Dest c))))

/-- BAD_DESCRIPTOR of R152. -/
def State.badDescriptor (s : State) (c : Nat) : Bool :=
  !s.flag (HUSK_DCFG_Valid c) || decide (20 < s.fget (HUSK_DCFG_ChaffBits c)) ||
    (decide (s.ctxKind c = 2) && (s.fget (HUSK_DAUX_VoltFormat c) = 0 || s.fget (HUSK_DAUX_VoltFormat c) = 3))

/-- The context whose tile holds the lead of partition n, while it is not EMPTY or STOPPED. -/
def State.leadCtx (s : State) (n : Nat) : Option Nat :=
  s.liveCtxs.find? fun c => decide (s.ctxPart c = n) && decide (s.ctxKind c ≠ 5) && s.hasLead c

/-- A tile pod is claimed by another context (R101). -/
def State.tileBusy (s : State) (c : Nat) : Bool :=
  (s.tile c).any fun p =>
    (match s.owner p with
      | some o => decide (o ≠ c)
      | none => false) || s.liveCtxs.any fun o => decide (o ≠ c) && (s.tile o).contains p

/-- TOPK_SOURCE of R152. -/
def State.badSource (s : State) (c : Nat) : Bool :=
  let k := s.ctxKind (s.fget (HUSK_DTOPK_Source c))
  let (b, n) := s.topSets c
  !(k = 1 || k = 3 || k = 4) || decide (4096 < b + n) ||
    s.liveCtxs.any fun o => decide (o ≠ c) && decide (s.ctxKind o = 5) &&
      (let (b', n') := s.topSets o
       decide (b < b' + n') && decide (b' < b + n))

/-- The code of R152: the first failing check, 0 when every check passes. `restart`: the context restarts itself from
FAULTED (R159); `next`: NEXT mode whatever StartMode holds. -/
def State.startCode (s : State) (c : Nat) (restart next : Bool) : Nat :=
  let topk := decide (s.ctxKind c = 5)
  let st := s.ctxStream c
  let n := s.ctxPart c
  let base := s.fget (CTX_PATHS_ListBase c)
  if (!restart && decide (s.ctxState c ≠ 1)) || s.ctxs.draining || s.ctxs.locked.contains c then 0x01
  else if !s.eccOk (CTX_CFG c) || (List.range (s.ctxM c)).any (fun i => !s.eccOk (PATHSTORE ((base + i) / 2))) then 0x02
  else if s.badEntry c then 0x03
  else if s.badDescriptor c then 0x04
  else if !topk && (!s.flag (HULL_SCTRL_Enable st) || s.fget (HULL_SCTRL_ConsumerMask st) / 2 ^ n % 2 = 0) then 0x05
  else if (s.tile c).any (fun p => s.flag (POD_STATUS_Failed p)) then 0x06
  else if s.tileBusy c then 0x07
  else if !topk && !s.hasLead c && !(match s.leadCtx n with
      | some l => decide (s.ctxState l = 2) || decide (s.ctxState l = 3)
      | none => false) then 0x08
  else if !topk && decide (maxPass s.hullFormat < s.ctxT c) then 0x09
  else if !topk && decide (2 ^ 32 ≤ s.ctxP c * s.ctxF c) then 0x0A
  else if decide (1024 < s.fget (CTX_LOAD_PartLoad c) + s.partSum n) then 0x0B
  else if decide (3200 < s.fget (CTX_LOAD_HbmLoad c) + s.hbmSum) then 0x0C
  else if topk && s.badSource c then 0x0D
  else if !topk && !next && decide (s.fget (CTX_K0_HI_StartMode c) = 0) && decide (s.ctxK0 c < s.nextWindow st n) then 0x0E
  else 0

/-- The context becomes ARMED and its fill begins (R151, R155). -/
def State.ctxArm (s : State) (c : Nat) (next : Bool) (loss : Option (Nat × Nat)) (restarted : Bool) : State :=
  let topk := decide (s.ctxKind c = 5)
  let s := s.setCtx c ⟨next, topk, false, false, restarted, loss, []⟩
  (s.setCtxState c 2).fset (CTX_STATE_Loading c) (if topk then 0 else 1)

/-- START of context c: the result code and the state (R151, R152). -/
def State.ctxStart (s : State) (c : Nat) (next : Bool) : State × Nat :=
  let code := s.startCode c false next
  if code = 0 then
    let s := ((s.fset (CTX_STATE_RestartCount c) 0).setReg (CTX_EMITTED c) 0).setReg (CTX_FLAGGED c) 0
    (s.ctxArm c next none false, 0)
  else
    let s := s.when (decide (code = 4)) fun s => s.fset HUSK_STATUS_ConfigErr 1
    ((s.fset (CTX_STATE_LastRefusal c) code).pmc 465 1, code)

/-! ## K0eff (R153, R154) -/

/-- An ARMED AT start that is too late (R151). -/
def State.ctxLate (s : State) (c : Nat) : State := (s.fset (CTX_STATE_LastRefusal c) 0x0E).ctxDisarm c

/-- 0 AT, 1 NEXT, 2 ASAP, as in force. -/
def State.startMode (s : State) (c : Nat) : Nat := if (s.ctx c).next then 1 else s.fget (CTX_K0_HI_StartMode c)

/-- K0eff by R153 from its lower bound; none: LATE. -/
def keffFrom (mode k0 p lo : Nat) : Option Nat :=
  match mode with
  | 0 => if k0 < lo then none else some k0
  | 1 => some ((k0 : Int) + (((lo : Int) - k0 + p - 1) / p) * p).toNat
  | _ => some lo

/-- K0eff of one context is fixed where its own fill and its lead's K0eff allow (R153, R154). While the lead's context is neither ARMED
nor RUNNING it stays open (DESIGN CHOICE, log entry 289). -/
def State.fixOne (s : State) (c : Nat) : State :=
  let x := s.ctx c
  if s.ctxState c = 2 ∧ x.filled = true ∧ x.fixed = false ∧ s.ctxKind c ≠ 5 then
    let wn := s.nextWindow (s.ctxStream c) (s.ctxPart c)
    let kl := if s.hasLead c then some 0 else
      match s.leadCtx (s.ctxPart c) with
      | some l => if (s.ctxState l = 2 ∨ s.ctxState l = 3) ∧ (s.ctx l).fixed = true then some (s.ctxKeff l) else none
      | none => none
    match kl with
    | none => s
    | some kl =>
      match keffFrom (s.startMode c) (s.ctxK0 c) (s.ctxP c) (max wn kl) with
      | none => s.ctxLate c
      | some k =>
        (((s.fset (CTX_KEFF_LO_WindowLow c) (k % 2 ^ 32)).fset (CTX_KEFF_HI_WindowHigh c) (k / 2 ^ 32)).modCtx c
          fun x => { x with fixed := true })
  else s

/-- A K0eff fixed before K_L is open again (R154). -/
def State.unfix (s : State) (o kl : Nat) : State :=
  if (s.ctx o).fixed = true ∧ s.ctxState o = 2 ∧ s.ctxKeff o < kl then s.modCtx o fun x => { x with fixed := false } else s

/-- K0eff of c is fixed, and then that of the contexts that waited for it or would begin before it (R154). -/
def State.fixKeff (s : State) (c : Nat) : State :=
  let s := s.fixOne c
  if s.hasLead c && (s.ctx c).fixed then
    s.each (s.liveCtxs.filter fun o => decide (o ≠ c) && decide (s.ctxPart o = s.ctxPart c)) fun s o =>
      (s.unfix o (s.ctxKeff c)).fixOne o
  else s

/-- The fill's bytes enter a pod's weight store (R155). -/
def State.fillStore (s : State) (p : Nat) (bytes : List Byte) : State :=
  { s with array := { s.array with store :=
      ((List.range bytes.length).zip bytes).foldl (fun t e => tset 0 t (p * 2 ^ 20 + e.1) e.2) s.array.store } }

/-- WEIGHT_FILL_DONE (R155): the tile's weight stores hold the fill, and K0eff may be fixed. -/
def State.fillDone (s : State) (c : Nat) : State :=
  let n := s.fget (CTX_WSIZE_Length c) * 4096
  let base := s.fget (CTX_WPTR_Base c) * 64
  let t := s.tile c
  let s := s.each ((List.range t.length).zip t) fun s e =>
    let a := base + e.1 * s.fget (CTX_WSIZE_Stride c) * 4096
    let bad := s.hbmAnyBad a n
    let s := (s.fillStore e.2 (s.hbmBytes a n)).noteRead a n
    s.when bad fun s => s.modCtx c fun x => { x with fillBad := x.fillBad ++ [e.2] }
  let s := (s.fset (CTX_STATE_Loading c) 0).modCtx c fun x => { x with filled := true }
  s.fixKeff c

def execWeightFillDone (c : Nat) (s : State) : Host.Outcome State Fault Refusal :=
  reply (4096 ≤ c) <|
    if s.ctxState c = 2 ∧ s.flag (CTX_STATE_Loading c) = true ∧ s.unitInReset 20 = false ∧ s.hbmHeld = false then (s.fillDone c)
    else s

/-! ## Starting, and passing a window (R156) -/

/-- A pending loss is reported when the context is RUNNING again (R359, R360). -/
def State.reportRestart (s : State) (c k : Nat) : State :=
  match (s.ctx c).loss with
  | some (cause, f) =>
    (s.modCtx c fun x => { x with loss := none }).reportLost c cause (to16 (s.taiOf c f))
      (to16 (s.taiOf c (s.winStart (s.ctxStream c) k)))
  | none => s

/-- The context becomes RUNNING with window k (R156). -/
def State.ctxRun (s : State) (c k : Nat) : State :=
  let bad := (s.ctx c).fillBad
  let s := s.setCtxState c 3
  let s := s.each (s.tile c) fun s p =>
    let s := s.fset (POD_CTRL_Entry p) (s.fget (CTX_BEAM_Entry c))
    let s := (s.fset (POD_OWNER_Owned p) 1).fset (POD_OWNER_Context p) c
    (s.modPod p fun x => { x with fillBad := if bad.contains p then some k else none }).podRunStart p
  let run := tget 0 s.husk.runs c + 1
  let s := { s with husk := { s.husk with
    ctx := tset none s.husk.ctx c (some ⟨k, k, [], [], [], none, run⟩), runs := tset 0 s.husk.runs c run } }
  s.reportRestart c k

/-- What taking window k's group g means for one ARMED context of the stream and partition (R151, R156). -/
def State.ctxTake (s : State) (k g : Nat) (c : Nat) : State :=
  let x := s.ctx c
  if s.ctxState c ≠ 2 then s
  else if x.fixed then
    if k = s.ctxKeff c ∧ g = 0 then s.ctxRun c k
    else if s.ctxKeff c ≤ k then
      if s.startMode c = 0 then s.ctxLate c else (s.modCtx c fun x => { x with fixed := false }).fixKeff c
    else s
  else if s.startMode c = 0 ∧ s.ctxK0 c ≤ k ∧ g = 0 then s.ctxLate c
  else s

/-- Every ARMED context of the stream and partition sees the take, the lead's context first (R154). -/
def State.ctxOnTake (s : State) (n st k g : Nat) : State :=
  let cs := s.liveCtxs.filter fun c => s.ctxState c = 2 && s.ctxPart c = n && s.ctxStream c = st && decide (s.ctxKind c ≠ 5)
  s.each (cs.filter s.hasLead ++ cs.filter fun c => !s.hasLead c) fun s c => s.ctxTake k g c

/-- A context of the stream is RUNNING in the partition (R84). -/
def State.streamRuns (s : State) (n st : Nat) : Bool :=
  s.liveCtxs.any fun c => decide (s.ctxState c = 3) && decide (s.ctxPart c = n) && decide (s.ctxStream c = st) &&
    decide (s.ctxKind c ≠ 5)

/-! ## STOP (R151, R157, R160, R161) -/

/-- Another context of c's partition is ARMED, RUNNING or DRAINING. -/
def State.othersLive (s : State) (c : Nat) : Bool :=
  s.liveCtxs.any fun o => decide (o ≠ c) && decide (s.ctxPart o = s.ctxPart c) && decide (s.ctxState o ≠ 5) &&
    decide (s.ctxKind o ≠ 5)

/-- STOP of context c; `own`: issued by the part itself (R160). -/
def State.ctxStop (s : State) (c : Nat) (own : Bool) : State × Nat :=
  let st := s.ctxState c
  if st ≤ 1 ∨ st = 4 then (s, 0)
  else if st = 5 then
    let s := (s.reportStop c).modCtx c fun x => { x with stop := true }
    (if s.tileStopped c then s.ctxStopped c else s, 0)
  else if s.ctxKind c = 5 then
    (((if st = 3 then s.reloadMark c else s).huskDiscard c).ctxStopped c, 0)
  else if !own && s.hasLead c && s.othersLive c then (s, 0x0F)
  else if st = 2 then (s.ctxDisarm c, 0)
  else
    let s := ((s.setCtxState c 4).modCtx c fun x => { x with stop := true }).watchersDrop c
    (s.each (s.tile c) fun s p => s.podRunStop p, 0)

/-- Another context of c's partition is not STOPPED or EMPTY. -/
def State.othersLeft (s : State) (c : Nat) : Bool :=
  s.liveCtxs.any fun o => decide (o ≠ c) && decide (s.ctxPart o = s.ctxPart c) && decide (s.ctxKind o ≠ 5)

/-- The result of a command for a context (R152). -/
def State.lastResult (s : State) (c code : Nat) : State := (s.fset CTX_CSTAT_LastCode code).fset CTX_CSTAT_LastContext c

/-- The command unit has executed a command (R152, R162). -/
def State.cmdResult (s : State) (c code : Nat) : State := (s.lastResult c code).pmc 464 1

/-- A STOP that the part issues itself. Those of a drain pass through the command unit (R370 step 1). -/
def State.ownStop (s : State) (c : Nat) : State :=
  let r := s.ctxStop c true
  if s.ctxs.draining then r.1.cmdResult c r.2 else r.1

/-- STOPs of leads' contexts that R370 and R341 hold back are issued where the others have stopped. -/
def State.leadRelease (s : State) : State :=
  s.each s.ctxs.leadWait fun s c =>
    if s.othersLeft c then s
    else { s with ctxs := { s.ctxs with leadWait := s.ctxs.leadWait.filter (· ≠ c) } }.ownStop c

/-- The part's own STOPs (R370 step 1, R341 step 1): contexts ARMED, RUNNING or FAULTED in ascending number, the lead's
context of a partition last. -/
def State.stopAll (s : State) (cs : List Nat) : State :=
  let s := s.each (cs.filter fun c => s.ctxState c = 2 || s.ctxState c = 3 || s.ctxState c = 5) fun s c =>
    if decide (s.ctxKind c ≠ 5) && s.hasLead c && s.othersLeft c then
      { s with ctxs := { s.ctxs with leadWait := s.ctxs.leadWait ++ [c] } }
    else s.ownStop c
  s.leadRelease

/-! ## The command unit (R162) -/

/-- The command leaves the head of the command unit's queue; none where another command stands there. -/
def State.takeCmd (s : State) (start : Bool) (c : Nat) : Option State :=
  match s.ctxs.queue with
  | [] => some s
  | q :: qs =>
    if q.start = start ∧ q.c = c then
      let s := { s with ctxs := { s.ctxs with queue := qs } }
      some (if q.sched then s else s.fset CTX_CSTAT_Busy 0)
    else none

/-- CTX_START (R152). -/
def execCtxStart (c : Nat) (s : State) : Host.Outcome State Fault Refusal :=
  reply (4096 ≤ c) <|
    match s.takeCmd true c with
      | none => s
      | some s =>
        let r := s.ctxStart c false
        r.1.cmdResult c r.2

/-- CTX_STOP (R151). The command waits while the crossing to a pod of the tile is held (class 6 of R292, R296). -/
def execCtxStop (c : Nat) (s : State) : Host.Outcome State Fault Refusal :=
  reply (4096 ≤ c) <|
    match if (s.tile c).any fun p => s.xIsHeld 6 p then none else s.takeCmd false c with
      | none => s
      | some s =>
        let r := s.ctxStop c false
        r.1.leadRelease.cmdResult c r.2

/-- A CTX_CMD write (R162). A reserved Op acts as no operation (R20). -/
def State.ctxCmd (s : State) (v : BitVec 32) : State :=
  let op := CTX_CMD_Op.of v
  if op ≠ 1 ∧ op ≠ 2 then s
  else if s.flag CTX_CSTAT_Busy then s.fset CTX_CSTAT_Overrun 1
  else
    let s := s.fset CTX_CSTAT_Busy 1
    { s with ctxs := { s.ctxs with queue := s.ctxs.queue ++ [⟨false, decide (op = 1), CTX_CMD_Context.of v⟩] } }

/-! ## The entry (R149, R151) -/

/-- The entry, its descriptor and its map entries may be written by software: STOPPED or EMPTY and not locked (R149, R342). -/
def State.ctxOpen (s : State) (c : Nat) : Bool := s.ctxIdle c && !s.ctxs.locked.contains c

/-- A write discarded under R15. -/
def State.writeLocked (s : State) (init addr : Nat) : State := s.log 4 0 init addr

/-- The descriptor mirrors the entry (HUSK_DCFG). -/
def State.mirrorCfg (s : State) (c : Nat) : State :=
  ((s.fset (HUSK_DCFG_Kind c) (s.ctxKind c)).fset (HUSK_DCFG_SpillFmt c) (s.fget (CTX_CFG_SpillFmt c))).fset
    (HUSK_DCFG_PassesMinus1 c) (s.fget (CTX_CFG_PassesMinus1 c))

/-- A write to the entry leaves its SECDED word correct. -/
def State.eccClear (s : State) (a : Nat) : State := { s with erl := { s.erl with eccBad := tset 0 s.erl.eccBad a 0 } }

/-- A write to CTX_CFG (R149, R151). -/
def State.ctxCfgWrite (s : State) (init c : Nat) (v : BitVec 32) : State :=
  if s.ctxOpen c then
    let s := ((s.setReg (CTX_CFG c) (v &&& 0xFFEFFFFF#32)).mirrorCfg c).eccClear (CTX_CFG c)
    s.setCtxState c (if s.flag (CTX_CFG_Valid c) then 1 else 0)
  else s.writeLocked init (CTX_CFG c)

/-- CTX_VALID_WRITE. -/
def execCtxValidWrite (c : Nat) (v : Word) (s : State) : Host.Outcome State Fault Refusal :=
  reply (4096 ≤ c) <|
    (s.hostWrite (CTX_CFG c) fun s => s.ctxCfgWrite 21 c v)

/-- CTX_SCRUB (R149): every entry is read; an uncorrectable one faults its context (R158). -/
def execCtxScrub (s : State) : Host.Outcome State Fault Refusal :=
  .next (s.each ((List.range 4096).filter fun c => !s.eccOk (CTX_CFG c)) fun s c => (s.ecc 1 c 0 false).ctxFault c 0x20)

end Sys2Proof.Machine
end

