-- ==== Sys2Proof/Machine/Operands.lean ====
section
/-! DEFINITION. The pods' operands: instruction fields (R105), port words and samples (R90, R91, R95), weights (R102),
WINIT values (R427), and the correlation and beam sums of one beat (R92, R103). -/

namespace Sys2Proof.Machine

/-! ## Samples from a port -/

/-- Frames of a beat, port words of a beat (R91). -/
def beatFrames (f : Nat) : Nat := if f = 2 then 4 else 1
def beatWords (f : Nat) : Nat := if f = 1 then 1 else 2

/-- Words a port delivers for a range of frames (R95). -/
def portWords (f count : Nat) : Nat := match f with | 0 => 2 * count | 1 => count | _ => (count + 1) / 2

/-- A sample from its stored bytes; none where a part is the reserved code (R29, R90). -/
def sampleOf (f : Nat) (b : Nat → Nat) : Option (Int × Int) :=
  let v := match f with
    | 1 => (toSigned 8 (b 0), toSigned 8 (b 1))
    | 2 => (toSigned 4 (b 0 / 16), toSigned 4 (b 0))
    | _ => (toSigned 14 (b 0 + 256 * b 1), toSigned 14 (b 2 + 256 * b 3))
  if v.1 = fmtReserved f ∨ v.2 = fmtReserved f then none else some v

/-- Sample of strip path i, channel k, frame offset t of an open port's pass group (R81, R95). -/
def State.portSample (s : State) (o : OpenPort) (f t i k : Nat) : Option (Int × Int) :=
  let path := o.desc.h0 + i
  if s.hullPaths ≤ path then none
  else if o.desc.t0 + o.desc.count ≤ t then some (Config.portTail s.fresh i k)
  else
    let st := o.cur.pg.st
    let a := o.cur.half * 2 ^ 27 + s.fget (HULL_SREGION_Offset st) * 4096 +
      ((t * s.hullPaths + path) * 4 + k) * fmtBytes f
    sampleOf f fun q => (tget 0 s.hull.stage (a + q)).toNat

/-- x · conj(y) (R92). -/
def mulConj (x y : Int × Int) : Int × Int := (x.1 * y.1 + x.2 * y.2, x.2 * y.1 - x.1 * y.2)

/-- x · y. -/
def mulC (x y : Int × Int) : Int × Int := (x.1 * y.1 - x.2 * y.2, x.1 * y.2 + x.2 * y.1)

/-- A sum of products and its valid products. -/
structure Sum where
  re : Int
  im : Int
  n : Nat

def Sum.zero : Sum := ⟨0, 0, 0⟩
def Sum.add (a : Sum) (v : Int × Int) : Sum := ⟨a.re + v.1, a.im + v.2, a.n + 1⟩

/-- One correlation beat at cell (r, c), channel k, from frame offsets tr and tc: the frame products whose operands are
both valid (R92). -/
def State.macSum (s : State) (ro co : OpenPort) (f tr tc r c k : Nat) : Sum :=
  (List.range (beatFrames f)).foldl (fun a q =>
    match s.portSample ro f (tr + q) r k, s.portSample co f (tc + q) c k with
    | some x, some y => a.add (mulConj x y)
    | _, _ => a) Sum.zero

/-! ## Weights (R102) -/

/-- Weight-store byte of pod p; the store wraps at 1 MiB. -/
def State.storeByte (s : State) (p i : Nat) : Nat := (tget 0 s.array.store (p * 2 ^ 20 + i % 2 ^ 20)).toNat

/-- n store bytes from i, least significant first. -/
def State.storeLe (s : State) (p i n : Nat) : Nat :=
  (List.range n).foldl (fun a q => a + s.storeByte p (i + q) * 256 ^ q) 0

/-- The weight of one descriptor at absolute channel ch (R102). -/
def weightOf (f : Nat) (d ch : Nat) : Int × Int :=
  let wb := fmtWidth f
  let lim : Int := 2 ^ (wb - 1) - 1
  let phi := d / 2 ^ 32 * ch % 2 ^ 32 / 2 ^ 16
  let cs := cosR 32767 phi 65536
  let sn := sinR 32767 phi 65536
  let re := toSigned 16 d
  let im := toSigned 16 (d / 2 ^ 16)
  (satTo lim (rhuShift (re * cs + im * sn) (31 - wb)), satTo lim (rhuShift (im * cs - re * sn) (31 - wb)))

/-- The four channels' weights of a set, the first at absolute channel ch. -/
def State.weightSet (s : State) (p set ch : Nat) : WSet :=
  ⟨set, ch, (List.range 4096).foldl (fun t i =>
    tset (0, 0) t i (weightOf (s.podFormat p) (s.storeLe p (set * 8192 + i / 4 * 8) 8) (ch + i % 4))) []⟩

/-- Absolute channel of channel 0 of local group g: FCH_CHSEL.First of the lowest enabled engine (R67, R102, R165). -/
def State.groupChan (s : State) (g : Nat) : Nat :=
  let e := ((List.range 16).find? fun e => s.flag (FCH_CTRL_Enable e)).getD 0
  s.fget (FCH_CHSEL_First e) + 4 * (s.ownFirst + g)

/-- One beam lane at row r: Σ over c of w[r][c] · x[c] over the valid samples (R103). -/
def State.bmacSum (s : State) (w : WSet) (o : OpenPort) (f t r k : Nat) : Sum :=
  (List.range 32).foldl (fun a c =>
    match s.portSample o f t c k with
    | some x => a.add (mulC (tget (0, 0) w.w (4 * (32 * r + c) + k)) x)
    | none => a) Sum.zero

/-- Slots 0 to n − 1 of a bank take the WINIT run of the store (R93, R427). -/
def State.winitBank (s : State) (p : Nat) (w : WInit) (b : Bank) : Bank :=
  { b with cells := (List.range (w.slots * 1024)).foldl (fun t i =>
      let a := w.set * 8192 + i * 10
      tset Cell.empty t i ⟨toSigned 40 (s.storeLe p a 5), toSigned 40 (s.storeLe p (a + 5) 5), 0, false⟩) b.cells }

/-! ## Instruction words (R105) -/

/-- Program word w of pod p. -/
def State.pmWord (s : State) (p w : Nat) : Nat := s.get2 (POD_PM_LO p w) (POD_PM_HI p w)

/-- Listed opcodes. -/
def opKnown (op : Nat) : Bool := decide (op ≤ 0x12) || decide (op = 0x3F)

def State.greg (s : State) (p i : Nat) : Nat := (s.reg (POD_GREG p i)).toNat
def State.setGreg (s : State) (p i v : Nat) : State := s.setReg (POD_GREG p i) (BitVec.ofNat 32 v)

/-- Beats of a MAC or BMAC word. -/
def State.beatsOf (s : State) (p w : Nat) : Nat :=
  (if bits w 47 1 = 1 then s.greg p (bits w 44 3) % 65536 else bits w 0 16) + 1

end Sys2Proof.Machine
end

