-- ==== Sys2Proof/Machine/Pods.lean ====
section
/-! DEFINITION. The pod sequencer and the pod array's events (chapter 04): issue (R104, R105), each instruction, ports
(R95 to R98), barriers and pass groups (R99), swap and drain (R107 to R110), steering (R109, R111, R112). -/

namespace Sys2Proof.Machine

/-! ## Issue -/

def State.pc (s : State) (p : Nat) : Nat := s.fget (POD_STATUS_Pc p)

/-- The sequencer goes to word n; beyond word 4,095 the program faults (R106). -/
def State.podGoto (s : State) (p n : Nat) : State :=
  let s := s.modPod p fun x => { x with wait := 0, stood := false, held := 0, beats := none }
  let s := s.fset (POD_STATUS_Waiting p) 0
  if 4096 ≤ n then s.podFault p 3 else s.fset (POD_STATUS_Pc p) n

/-- The instruction is done; the loop cache goes round where its last word was this one (R105). -/
def State.podNext (s : State) (p : Nat) : State :=
  match (s.pod p).loop with
  | some (a, b, left) =>
    if s.pc p = b then
      if 1 < left then (s.modPod p fun x => { x with loop := some (a, b, left - 1) }).podGoto p a
      else (s.modPod p fun x => { x with loop := none }).podGoto p (b + 1)
    else s.podGoto p (s.pc p + 1)
  | none => s.podGoto p (s.pc p + 1)

/-- Issue completes after n cycles, its record retires (R390), and the sequencer goes to f. -/
def State.podIssued (s : State) (p n : Nat) (f : State → State) : State := f ((s.pipRetire p (some n) false).podClock p n)

/-- Issue completes in one cycle (R390) and the sequencer goes on. -/
def State.podStep (s : State) (p : Nat) : State := s.podIssued p 1 fun s => s.podNext p

/-- A wait ends, after its stalled cycles and the cycle of issue (R390), and the sequencer goes on. -/
def State.podResume (s : State) (p : Nat) : State :=
  let s := s.podClock p 1
  (s.pipRetire p (some (s.pipAge p)) false).podNext p

/-- A DRAIN, WLD or WINIT has issued in one cycle and goes on without the sequencer (R104): its record retires with the n-th
completion of its kind, in the pod's cycle `last` where the spec fixes it. -/
def State.podLaunch (s : State) (p op n : Nat) (last : Option Nat) : State :=
  ((s.pipWait p op n last).podClock p 1).podNext p

/-- The sequencer waits: OPEN 1 and 2, BAR 3, NEXTPG 4 and 5, FENCE 6 (POD_STATUS.Waiting, R110). -/
def State.podWait (s : State) (p kind st cause : Nat) : State :=
  let s := s.modPod p fun x => { x with wait := kind, waitSt := st }
  ((s.fset (POD_STATUS_Waiting p) 1).stall p cause).podStopCheck p

/-- One instruction of pod p with opcode op at issue: f gives its effect from the state and the word. -/
def State.issue (s : State) (p op : Nat) (f : State → Nat → State) : State :=
  if !(s.pod p).seq || !s.isRun then s
  else
    let w := s.pmWord p (s.pc p)
    let o := w / 2 ^ 58
    if !opKnown o then s.podFault p 1
    else if o ≠ op then s
    else
      let s := if (s.pod p).stood then s.modPod p fun x => { x with held := 0 }
        else (s.modPod p fun x => { x with stood := true }).pipIssue p o (s.pc p)
      f s w

/-! ## Registers, control flow (R104, R105) -/

def execNop (p : Nat) (s : State) : Host.Outcome State Fault Refusal :=
  reply (64 ≤ p) <|
    s.issue p 0x00 fun s _ => s.podStep p

def execLdi (p : Nat) (s : State) : Host.Outcome State Fault Refusal :=
  reply (64 ≤ p) <|
    s.issue p 0x01 fun s w => (s.setGreg p (bits w 55 3) (bits w 0 32)).podStep p

def execAddi (p : Nat) (s : State) : Host.Outcome State Fault Refusal :=
  reply (64 ≤ p) <|
    s.issue p 0x02 fun s w => (s.setGreg p (bits w 55 3) (s.greg p (bits w 52 3) + bits w 0 32)).podStep p

/-- A jump costs one extra cycle (R104). -/
def State.podJump (s : State) (p n : Nat) : State := s.podIssued p 2 fun s => s.podGoto p n

def execBnz (p : Nat) (s : State) : Host.Outcome State Fault Refusal :=
  reply (64 ≤ p) <|
    s.issue p 0x03 fun s w =>
      let r := bits w 55 3
      if s.greg p r = 0 then s.podStep p else (s.setGreg p r (s.greg p r - 1)).podJump p (bits w 0 12)

def execJmp (p : Nat) (s : State) : Host.Outcome State Fault Refusal :=
  reply (64 ≤ p) <|
    s.issue p 0x04 fun s w => s.podJump p (bits w 0 12)

/-- BNZ, JMP, LOOP and HALT may not stand in a loop body (R105). -/
def noLoopOp (op : Nat) : Bool := op = 0x03 || op = 0x04 || op = 0x05 || op = 0x3F

def execLoop (p : Nat) (s : State) : Host.Outcome State Fault Refusal :=
  reply (64 ≤ p) <|
    s.issue p 0x05 fun s w =>
      let len := bits w 52 6 + 1
      let n := if bits w 51 1 = 1 then s.greg p (bits w 48 3) else bits w 0 16
      let a := s.pc p + 1
      if 4096 < a + len ∨ ((List.range len).any fun i => noLoopOp (s.pmWord p (a + i) / 2 ^ 58)) = true then s.podFault p 2
      else if n = 0 then s.podIssued p 1 fun s => s.podGoto p (a + len)
      else s.podIssued p 1 fun s => (s.modPod p fun x => { x with loop := some (a, a + len - 1, n) }).podGoto p a

def execHalt (p : Nat) (s : State) : Host.Outcome State Fault Refusal :=
  reply (64 ≤ p) <|
    s.issue p 0x3F fun s _ => (s.podIssued p 1 fun s => s.podEnd p).fset (POD_STATUS_Halted p) 1

/-- A counter as the window that PodShadow selects shows it (R382, R387). -/
def State.pmcView (s : State) (n : Nat) (shadow : Bool) : Nat :=
  if shadow && s.flag PMC_STATUS_Held then s.get2 (PMC_SHADOW_LO n) (PMC_SHADOW_HI n) else s.pmcLive n

def execRdpmc (p : Nat) (s : State) : Host.Outcome State Fault Refusal :=
  reply (64 ≤ p) <|
    s.issue p 0x11 fun s w =>
      let rd := bits w 55 3
      let n := bits w 0 9
      if !s.flag PMC_PERMIT_PodRead then ((s.setGreg p rd 0).fset (POD_STATUS_PmcDenied p) 1).podStep p
      else
        let v := s.pmcView n (s.flag PMC_PERMIT_PodShadow)
        if bits w 9 1 = 0 then
          ((s.setGreg p rd v).modPod p fun x => { x with pmc := some (n, v / 2 ^ 32) }).podStep p
        else
          let hi := match (s.pod p).pmc with
            | some (m, h) => if m = n then h else v / 2 ^ 32
            | none => v / 2 ^ 32
          (s.setGreg p rd hi).podStep p

/-! ## Ports (R95 to R98) -/

def State.setDesc (s : State) (q : Nat) (d : PortDesc) : State :=
  { s with array := { s.array with desc := tset none s.array.desc q (some d) } }

def execPdesc (p : Nat) (s : State) : Host.Outcome State Fault Refusal :=
  reply (64 ≤ p) <|
    s.issue p 0x06 fun s w =>
      let q := bits w 54 4
      if !s.isLead p then s.podFault p 4
      else if !s.ownsPort p q then s.podFault p 5
      else
        (s.setDesc q ⟨bits w 52 2, bits w 51 1 = 1, (bits w 36 12 + s.greg p (bits w 48 3)) % 4096, bits w 20 16,
          bits w 4 16 + 1⟩).podStep p

/-- A port requested or open (R97, R98). -/
def State.portBusy (s : State) (q : Nat) : Bool :=
  (tget none s.array.req q).isSome || (tget none s.array.openp q).isSome

/-- A port owned by pod p's partition is busy. -/
def State.portsBusy (s : State) (p : Nat) : Bool := (List.range 16).any fun q => s.ownsPort p q && s.portBusy q

/-- Listeners of port q by the pending selections of the running pods (R97). -/
def State.listeners (s : State) (n q : Nat) : List (Nat × Nat) :=
  (s.running n).flatMap fun p =>
    (if (s.pod p).selR = some q then [(p, 0)] else []) ++ (if (s.pod p).selC = some q then [(p, 1)] else [])

def State.setReq (s : State) (q : Nat) (v : Option (Nat × List (Nat × Nat))) : State :=
  { s with array := { s.array with req := tset none s.array.req q v } }

def State.setOpen (s : State) (q : Nat) (v : Option OpenPort) : State :=
  { s with array := { s.array with openp := tset none s.array.openp q v } }

def execOpenPorts (p : Nat) (s : State) : Host.Outcome State Fault Refusal :=
  reply (64 ≤ p) <|
    s.issue p 0x07 fun s w =>
      let ports := (List.range 16).filter fun q => bits w (42 + q) 1 = 1
      if (s.pod p).wait = 2 then s.podWait p 2 0 3
      else if !s.isLead p then s.podFault p 4
      else if ports.any fun q => !s.ownsPort p q then s.podFault p 5
      else if s.portsBusy p then s.podWait p 1 0 3
      else if ports.any fun q => (tget none s.array.desc q).isNone then s.podFault p 6
      else if ports = [] then s.podResume p
      else
        let s := s.each ports fun s q => s.setReq q (some (p, s.listeners (s.podPart p) q))
        (s.modPod p fun x => { x with wait := 2 }).fset (POD_STATUS_Waiting p) 1

/-- The checks of R95 and R96 on a port that opens; a Wide port claims the next one, which must be idle. -/
def State.portOk (s : State) (lead q : Nat) (d : PortDesc) : Bool :=
  decide (d.t0 + d.count ≤ s.streamT d.st) &&
    (!d.wide || (decide (q % 2 = 0) && s.ownsPort lead (q + 1) && !s.portBusy (q + 1) && decide (s.podFormat lead = 2) &&
      decide (d.t0 % 4 = 0) && decide (d.count % 4 = 0)))

/-- The ports that an OPEN of this lead has requested and that are not yet open, with their descriptors. -/
def State.requested (s : State) (lead : Nat) : List (Nat × PortDesc) :=
  (List.range 16).filterMap fun q =>
    match tget none s.array.req q, tget none s.array.desc q with
    | some (l, _), some d => if l = lead then some (q, d) else none
    | _, _ => none

/-- PORT_START (R97): a requested port opens once every stream of its OPEN has a pass group presented. A port of the
OPEN that fails its check faults the program before any of them opens (R106). -/
def execPortStart (q : Nat) (s : State) : Host.Outcome State Fault Refusal :=
  reply (16 ≤ q) <|
    if !s.isRun then s
    else
      match tget none s.array.req q, tget none s.array.desc q with
      | some (lead, ls), some d =>
        match s.presented (s.podPart lead) d.st with
        | none => s
        | some cur =>
          let reqs := s.requested lead
          if reqs.any fun e => (s.presented (s.podPart lead) e.2.st).isNone then s
          else if reqs.any fun e => !s.portOk lead e.1 e.2 then s.podFault lead 6
          else
            let s := s.setReq q none
            let s := s.setOpen q (closeIfDone ⟨d, cur, portWords (s.podFormat lead) d.count, ls.map fun l => ⟨l.1, l.2, 0⟩⟩)
            if (s.requested lead).isEmpty && decide ((s.pod lead).wait = 2) then s.podResume lead else s
      | _, _ => s

def execSel (p : Nat) (s : State) : Host.Outcome State Fault Refusal :=
  reply (64 ≤ p) <|
    s.issue p 0x08 fun s w =>
      let ren := bits w 57 1 = 1
      let cen := bits w 52 1 = 1
      let rp := bits w 53 4
      let cp := bits w 48 4
      if ren ∧ (s.podBeam p = true ∨ s.ownsPort p rp = false) ∨ cen ∧ s.ownsPort p cp = false then s.podFault p 5
      else
        (s.modPod p fun x => { x with
          selR := if ren then some rp else none, selC := if cen then some cp else none }).podStep p

/-! ## MAC and BMAC (R92, R94, R103, R109) -/

/-- The open port that feeds a bus, and the words the bus has consumed. -/
def State.feeding (s : State) (p bus : Nat) : Option (Nat × OpenPort × Nat) :=
  s.array.openp.findSome? fun e =>
    match e.2 with
    | some o => (o.listeners.find? fun l => l.pod = p && l.bus = bus).map fun l => (e.1, o, l.pos)
    | none => none

/-- Words at the bus now: those sent while every listener's 16-word FIFO had room (R98). -/
def wordsReady (o : OpenPort) (pos : Nat) : Nat :=
  min o.words ((o.listeners.map Listener.pos).foldl min pos + 16) - pos

/-- A bus has consumed n more words. -/
def OpenPort.consume (o : OpenPort) (p bus n : Nat) : OpenPort :=
  { o with listeners := o.listeners.map fun l => if l.pod = p ∧ l.bus = bus then { l with pos := l.pos + n } else l }

def State.consume (s : State) (p bus n : Nat) : State :=
  match s.feeding p bus with
  | some (q, o, _) => s.setOpen q (closeIfDone (o.consume p bus n))
  | none => s

/-- A bank takes words of a presented pass group: marks, identity, bad fill (R109, R115, R155). -/
def Bank.mark (b : Bank) (cur : Presented) (fillBad : Option Nat) : Bank :=
  let pg := if b.taken then b.pg else some cur.pg
  let fill := match pg with
    | some g => decide (fillBad = some g.k)
    | none => false
  { b with
    pg := pg, taken := true, contam := b.contam || cur.contam || fill
    incMiss := b.incMiss || cur.incMiss, incPeer := b.incPeer || cur.incPeer }

/-- n correlation beats into slot group g (R92). -/
def State.macBeats (s : State) (p g n : Nat) (r c : OpenPort × Nat) : State :=
  let f := s.podFormat p
  let x := s.pod p
  let b := (x.act.mark c.1.cur x.fillBad).mark r.1.cur x.fillBad
  let cells := (List.range n).foldl (fun t beat =>
    let tr := r.1.desc.t0 + (r.2 / beatWords f + beat) * beatFrames f
    let tc := c.1.desc.t0 + (c.2 / beatWords f + beat) * beatFrames f
    (List.range 4096).foldl (fun t i =>
      let k := i / 1024
      let a := s.macSum r.1 c.1 f tr tc (i / 32 % 32) (i % 32) k
      tmod Cell.empty t (cellKey (4 * g + k) (i / 32 % 32) (i % 32)) fun v => v.add a.re a.im a.n) t) b.cells
  s.setPod p (x.setAct { b with cells := cells })

/-- n beam beats from entry base, the first being beat `done` of its instruction (R103). -/
def State.bmacBeats (s : State) (p base done n : Nat) (w : WSet) (c : OpenPort × Nat) : State :=
  let f := s.podFormat p
  let lanes := 4 * beatFrames f
  let x := s.pod p
  let b := x.act.mark c.1.cur x.fillBad
  let cells := (List.range n).foldl (fun t beat =>
    (List.range (32 * lanes)).foldl (fun t i =>
      let l := i % lanes
      let e := base + lanes * (done + beat) + l
      let a := s.bmacSum w c.1 f (c.1.desc.t0 + (c.2 / beatWords f + beat) * beatFrames f + l / 4) (i / lanes) (l % 4)
      tmod Cell.empty t (cellKey (e / 32) (i / lanes) (e % 32)) fun v => v.add a.re a.im a.n) t) b.cells
  s.setPod p (x.setAct { b with cells := cells })

/-- Cycles per beat (R105, chapter 04): four at 14+14, one at 8+8, and at 4+4 one from Wide ports, else two. -/
def beatCycles (f : Nat) (wide : Bool) : Nat := match f with | 0 => 4 | 1 => 1 | _ => if wide then 1 else 2

/-- n beats of `cpb` cycles have issued (R104): the instruction ends with the last one, in whose last cycle L its last operation
enters stage 1, and its product lands `tail` cycles later (R390: 3 in a MAC, 10 in a BMAC). -/
def State.beatsDone (s : State) (p done left n cpb tail : Nat) : State :=
  let s := (s.incBy (POD_BEATS p) n).pmc (16 + p) n
  let s := (if 0 < n ∧ s.podFormat p = 2 then s.draw else s).podClock p (n * cpb)
  if left ≤ n then
    let s := s.modPod p fun x => { x with lastL := x.clk - 1 }
    (s.pipRetire p (some (s.pipAge p - 1 + tail)) false).podNext p
  else s.modPod p fun x => { x with beats := some (done + n, left - n) }

/-- The bank the next product would enter is not yet there: its drain has not left (R109), or the swap is held. -/
def State.bankStall (s : State) (p : Nat) : Option Nat :=
  let x := s.pod p
  if x.drains.any fun d => decide (d.half = x.active) then some 1 else if x.swap.isSome then some 2 else none

/-- Slots that a WINIT under way writes in the active bank. -/
def PodSt.winitSlots (x : PodSt) : List Nat := (x.winits.filter fun w => w.half = x.active).map WInit.slots

/-- A MAC's beats as far as words are ready. -/
def State.macRun (s : State) (p g done left : Nat) : State :=
  match s.feeding p 0, s.feeding p 1 with
  | some (_, ro, rp), some (_, co, cp) =>
    let wb := beatWords (s.podFormat p)
    let n := min left (min (wordsReady ro rp / wb) (wordsReady co cp / wb))
    if n = 0 then s.stall p 2
    else (((s.macBeats p g n (ro, rp) (co, cp)).consume p 0 (n * wb)).consume p 1 (n * wb)).beatsDone p done left n
      (beatCycles (s.podFormat p) (ro.desc.wide && co.desc.wide)) 3
  | _, _ => s.stall p 2

/-- MAC (R92, R94, R109): it waits for its bank and for a WINIT over its slot group; then the count of its slot group is
checked and raised, and its beats issue. -/

def execMac (p : Nat) (s : State) : Host.Outcome State Fault Refusal :=
  reply (64 ≤ p) <|
    s.issue p 0x09 fun s w =>
      let g := bits w 56 2
      let x := s.pod p
      match x.beats with
      | some (done, left) => s.macRun p g done left
      | none =>
        let n := s.beatsOf p w
        let f := s.podFormat p
        let total := tget 0 x.frames g + n * beatFrames f
        if s.podBeam p then s.podFault p 8
        else
          match s.bankStall p with
          | some cause => s.stall p cause
          | none =>
            if x.winitSlots.any fun m => decide (4 * g < m) && decide (m < 4 * g + 4) then s.podFault p 6
            else if x.winitSlots.any fun m => decide (4 * g + 4 ≤ m) then s.stall p 4
            else if maxPass f < total then s.podFault p 6
            else
              (s.modPod p fun x => { x with
                beats := some (0, n), frames := tset 0 x.frames g total, macd := true }).macRun p g 0 n

/-- A BMAC's beats as far as words are ready. -/
def State.bmacRun (s : State) (p base done left : Nat) : State :=
  match (s.pod p).weights, s.feeding p 1 with
  | some w, some (_, co, cp) =>
    let wb := beatWords (s.podFormat p)
    let n := min left (wordsReady co cp / wb)
    if n = 0 then s.stall p 2
    else ((s.bmacBeats p base done n w (co, cp)).consume p 1 (n * wb)).beatsDone p done left n
      (beatCycles (s.podFormat p) co.desc.wide) 10
  | _, _ => s.stall p 2

/-- BMAC (R94, R103, R109, R111): where several causes of a fault hold at once the order of the checks is the model's
(DESIGN CHOICE, log entry 188). -/

def execBmac (p : Nat) (s : State) : Host.Outcome State Fault Refusal :=
  reply (64 ≤ p) <|
    s.issue p 0x0A fun s w =>
      let base := bits w 49 9
      let x := s.pod p
      match x.beats with
      | some (done, left) => s.bmacRun p base done left
      | none =>
        let n := s.beatsOf p w
        let ents := (List.range (n * (4 * beatFrames (s.podFormat p)))).map fun i => base + i
        if !s.podBeam p then s.podFault p 8
        else if x.weights.isNone then s.podFault p 7
        else if 512 < base + ents.length then s.podFault p 6
        else
          match s.bankStall p with
          | some cause => s.stall p cause
          | none =>
            if x.reloading then s.stall p 4
            else if ents.any fun e => decide (128 ≤ tget 0 x.bmacs e) then s.podFault p 6
            else
              let counts := ents.foldl (fun t e => tmod 0 t e (· + 1)) x.bmacs
              (s.modPod p fun x => { x with beats := some (0, n), bmacs := counts, macd := true }).bmacRun p base 0 n

/-! ## Weights and initial values (R102, R427) -/

def execWld (p : Nat) (s : State) : Host.Outcome State Fault Refusal :=
  reply (64 ≤ p) <|
    s.issue p 0x0B fun s w =>
      if !s.podBeam p then s.podFault p 8
      else
        match s.presented (s.podPart p) (bits w 52 2) with
        | none => s.stall p 4
        | some cur =>
          let set := s.weightSet p ((bits w 0 7 + s.greg p (bits w 55 3)) % 128) (s.groupChan cur.pg.g)
          let free := (s.pod p).wlds.isEmpty
          let s := (s.pipVoid p).modPod p fun x => { x with wlds := x.wlds ++ [set] }
          s.podLaunch p 0x0B (s.pod p).wlds.length (if free then some ((s.pod p).clk + 40) else none)

/-- WLD_COMPLETE: the oldest WLD's weights are in the shadow registers. -/
def execWldComplete (p : Nat) (s : State) : Host.Outcome State Fault Refusal :=
  reply (64 ≤ p) <|
    if !s.fastClk then s
    else
      match (s.pod p).wlds with
      | [] => s
      | w :: ws => (((s.modPod p fun x => { x with wlds := ws, shadow := some w }).pipDone p 0x0B).podSettle p)

/-- WSWAP (R102, R109): the set loaded last becomes active; a second WSWAP with no new WLD makes the same set active again (DESIGN
CHOICE, log entry 284). -/
def execWswap (p : Nat) (s : State) : Host.Outcome State Fault Refusal :=
  reply (64 ≤ p) <|
    s.issue p 0x0C fun s _ =>
      if !s.podBeam p then s.podFault p 8
      else if (s.pod p).wlds ≠ [] then s.stall p 4
      else (s.modPod p fun x => { x with weights := x.shadow }).podResume p

def execWinit (p : Nat) (s : State) : Host.Outcome State Fault Refusal :=
  reply (64 ≤ p) <|
    s.issue p 0x0D fun s w =>
      let free := (s.pod p).wlds.isEmpty && (s.pod p).winits.isEmpty
      let s := (s.pipVoid p).modPod p fun x => { x with
        winits := x.winits ++ [⟨x.active, bits w 49 4 + 1, (bits w 0 7 + s.greg p (bits w 55 3)) % 128⟩] }
      s.podLaunch p 0x0D (s.pod p).winits.length (if free then some ((s.pod p).clk + 32 * (bits w 49 4 + 1)) else none)

/-- WINIT_COMPLETE: the oldest WINIT's values are in their slots, wherever their bank now is. A pending WLD has the
W-bus first (R108). A bank that has left by then takes nothing (DEDUCED, log entry 36). What a BMAC or a MAC of the other bank
finds meanwhile: DESIGN CHOICE, log entry 189. -/
def execWinitComplete (p : Nat) (s : State) : Host.Outcome State Fault Refusal :=
  reply (64 ≤ p) <|
    if !s.fastClk ∨ (s.pod p).wlds ≠ [] then s
    else
      match (s.pod p).winits with
      | [] => s
      | w :: ws =>
        let s := s.modPod p fun x =>
          let x := { x with winits := ws }
          if w.half = x.active then x.setBank w.half (s.winitBank p w (x.bank w.half))
          else { x with drains := x.drains.map fun d => if d.half = w.half then { d with bank := s.winitBank p w d.bank } else d };
        ((s.pipDone p 0x0D).podSettle p)

/-! ## Drain and swap (R107 to R110) -/

/-- DRAIN (R107, R109): a swap that is still held stalls it as a drain that has not left does (DESIGN CHOICE, log entry 285). Alone on
the W-bus its last step leaves 32 n cycles after the later of its issue and L + 4, or L + 11 in beam mode (R107, R390). -/
def execDrain (p : Nat) (s : State) : Host.Outcome State Fault Refusal :=
  reply (64 ≤ p) <|
    s.issue p 0x0E fun s w =>
      let x := s.pod p
      if x.swap.isSome || x.drains.any fun d => decide (d.half = x.active) then s.stall p 1
      else
        let tag := (s.greg p (bits w 48 3) + bits w 0 32) % 2 ^ 32
        let s := s.modPod p fun x => { x with swap := some (tag, bits w 53 4 + 1) }
        let at' := max x.clk (x.lastL + if s.podBeam p then 11 else 4)
        let free := x.drains.isEmpty && x.wlds.isEmpty && x.winits.isEmpty
        s.podLaunch p 0x0E (x.drains.length + 1) (if free then some (at' + 32 * (bits w 53 4 + 1)) else none)

/-- The pod is failed (R112): its program faults, and a Run of 1 that waits does not start it. -/
def State.podFailEnter (s : State) (p : Nat) : State :=
  let s := ((s.modPod p fun x => { x with steer := [], start := false }).fset (POD_STATUS_Failed p) 1).raise 5
  if (s.pod p).seq then s.podFaultEnter p 9 else s

/-- The context that faults with a pod that fails. -/
def State.failOwner (s : State) (p : Nat) : Option Nat := if (s.pod p).seq then s.owner p else none

/-- The pod fails (R112). -/
def State.podFail (s : State) (p : Nat) : State := (s.podFailEnter p).faultOwner (s.failOwner p) 9

/-- A steering condition arises for a physical column (R111, R112). -/
def State.steerRequest (s : State) (p col : Nat) : State :=
  if s.flag (POD_STATUS_Failed p) || (s.pod p).steer.contains col then s
  else if s.flag (POD_COLMAP_Steered p) || s.flag (POD_COLMAP_SpareBad p) then s.podFail p
  else s.modPod p fun x => { x with steer := x.steer ++ [col] }

/-- Pending steering applies at a swap (R111). Of two columns requested before one swap the first is steered out, and the
second fails the pod: DESIGN CHOICE, log entry 190. A steered-out spare shows its own number, 32, in FailedColumn: DESIGN
CHOICE, log entry 286. The entries stand in ascending Code (R356). -/
def State.applySteer (s : State) (p : Nat) : State :=
  match (s.pod p).steer with
  | [] => s
  | col :: more =>
    let s := s.modPod p fun x => { x with steer := more }
    let s := (s.fset (POD_COLMAP_FailedColumn p) col).setReg (POD_COLERR p col) 0
    let s := if col = 32 then s.fset (POD_COLMAP_SpareBad p) 1
      else (s.fset (POD_COLMAP_Steered p) 1).when (s.podBeam p) fun s => (s.pipVoid p).modPod p fun x => { x with reloading := true }
    if more = [] then s.log 0x0C 0 p col
    else ((s.podFailEnter p).log 0x0C 0 p col).faultOwner (s.failOwner p) 9

/-- The held swap takes effect (R107): the filled bank drains, the other becomes active and fresh. -/
def State.bankSwap (s : State) (p tag slots : Nat) : State :=
  let x := s.pod p
  let rec' : DrainRec := ⟨p, x.active, x.act, tag, slots, s.podBeam p, (s.reg (POD_COLMAP p)).toNat, s.owner p, 0, false, 0⟩
  let s := s.setPod p { ({ x with active := 1 - x.active }.setAct Bank.fresh) with
    swap := none, drains := x.drains ++ [rec'], frames := [], bmacs := [], macd := false }
  let s := s.applySteer p
  let s := if (s.pod p).seq && !s.flag (POD_CTRL_Run p) then s.podHalt p else s
  s.podSettle p

/-- BANK_SWAP. -/
def execBankSwap (p : Nat) (s : State) : Host.Outcome State Fault Refusal :=
  reply (64 ≤ p) <|
    if !s.isRun then s
    else
      match (s.pod p).swap with
      | some (tag, slots) => (s.bankSwap p tag slots)
      | none => s

/-- A drain that has left its pod reaches the back end of its Husk lane, unless a reset has lost some of it (R32, R115). -/
def State.deliverDrain (s : State) (p : Nat) (d : DrainRec) : State :=
  { s with husk := { s.husk with
      held := if tget 0 s.husk.lost p = 0 then tmod [] s.husk.held (p % 8) fun q => q ++ [{ d with took := tget 0 s.husk.took p }]
        else s.husk.held
      took := tset 0 s.husk.took p 0
      lost := tset 0 s.husk.lost p 0 } }

/-- DRAIN_END (R107, R115): the drain whose last step has left is delivered to its Husk lane, whose crossing lets it through
(R296). -/
def execDrainEnd (p : Nat) (s : State) : Host.Outcome State Fault Refusal :=
  reply (64 ≤ p) <|
    if !s.fastClk || s.xIsHeld 7 (p % 8) then s
    else
      match (s.pod p).drains with
      | [] => s
      | d :: ds =>
        if d.steps < 32 * d.slots then s
        else
          let s := (s.modPod p fun x => { x with drains := ds }).deliverDrain p d
          let s := ((s.inc (POD_DRAINS p)).pmc (144 + p) 1).inc HUSK_DRAINS;
          ((s.pipDone p 0x0E).podSettle p)

def execFence (p : Nat) (s : State) : Host.Outcome State Fault Refusal :=
  reply (64 ≤ p) <|
    s.issue p 0x12 fun s _ =>
      let x := s.pod p
      if x.swap.isSome || !x.drains.isEmpty || !x.wlds.isEmpty || !x.winits.isEmpty then s.podWait p 6 0 7
      else s.podResume p

/-! ## Barriers and pass groups (R84, R99, R116) -/

def execBar (p : Nat) (s : State) : Host.Outcome State Fault Refusal :=
  reply (64 ≤ p) <|
    s.issue p 0x0F fun s _ => s.podWait p 3 0 6

def execNextpg (p : Nat) (s : State) : Host.Outcome State Fault Refusal :=
  reply (64 ≤ p) <|
    s.issue p 0x10 fun s w => s.podWait p (if (s.pod p).wait = 5 then 5 else 4) (bits w 52 2) 3

/-- BAR_COMPLETE: every running pod of the partition has reached BAR. -/
def execBarComplete (n : Nat) (s : State) : Host.Outcome State Fault Refusal :=
  reply (8 ≤ n) <|
    let ps := s.running n
      if s.isRun && !ps.isEmpty && ps.all fun p => decide ((s.pod p).wait = 3) then (s.each ps fun s p => s.podResume p)
      else s

/-- A port of partition n is requested or open. -/
def State.partBusy (s : State) (n : Nat) : Bool := (s.members n).any fun p => s.portsBusy p

/-- The crossing of a pod of partition n is held (class 6 of R292): Run, Entry and end-of-pass signals wait (R296). -/
def State.podsHeld (s : State) (n : Nat) : Bool := (s.members n).any fun p => s.xIsHeld 6 p

/-- The bank of a pod is mixed by a NEXTPG of stream st (R116). A bank whose DRAIN has issued is not (DEDUCED, log entry
191). -/
def PodSt.mix (x : PodSt) (st : Nat) : PodSt :=
  match x.act.pg with
  | some g => if x.act.taken ∧ g.st = st ∧ x.swap = none then x.setAct { x.act with mixed := true } else x
  | none => x

/-- NEXTPG_COMPLETE (R99): every running pod has issued NEXTPG of the stream and every port is idle; the partition
signals the end of its pass. -/
def execNextpgComplete (n st : Nat) (s : State) : Host.Outcome State Fault Refusal :=
  reply (8 ≤ n ∨ 4 ≤ st) <|
    let ps := s.running n
      if s.isRun && !ps.isEmpty && !s.podsHeld n && !s.partBusy n &&
          ps.all fun p => decide ((s.pod p).wait = 4 ∧ (s.pod p).waitSt = st) then
        let s := s.each (s.members n) fun s p => s.modPod p fun x => x.mix st
        let s := match s.presented n st with
          | some c => if c.signalled then s else s.signalEnd n st c.half
          | none => s;
        ((s.setPresented n st none).each ps fun s p => s.modPod p fun x => { x with wait := 5 })
      else s

/-- The staged pass group that partition n takes next of stream st, with its region half. -/
def State.stagedNext (s : State) (n st : Nat) : Option (Nat × PassGroup) :=
  [0, 1].findSome? fun h =>
    match tget none s.hull.region (2 * st + h) with
    | some p => if p.seq = tget 0 s.hull.taken (4 * n + st) ∧ p.mask / 2 ^ n % 2 = 1 then some (h, p) else none
    | none => none

/-- Partition n takes pass group p of stream st from region half h (R84, R99, R156). -/
def State.passTake (s : State) (n st h : Nat) (p : PassGroup) : State :=
  let s := { s with hull := { s.hull with taken := tset 0 s.hull.taken (4 * n + st) (p.seq + 1) } }
  let s := s.setPresented n st (some ⟨h, ⟨st, p.k, p.g⟩, p.contam, p.incomplete && !p.unreach, p.incomplete && p.unreach, false⟩)
  let ps := (s.running n).filter fun q => decide ((s.pod q).wait = 5) && decide ((s.pod q).waitSt = st)
  let s := s.each ps fun s q => s.podResume q
  let s := s.ctxOnTake n st p.k p.g
  if s.streamRuns n st then s
  else
    (s.signalEnd n st h).setPresented n st
      (some ⟨h, ⟨st, p.k, p.g⟩, p.contam, p.incomplete && !p.unreach, p.incomplete && p.unreach, true⟩)

/-- PASS_GROUP_TAKE: the next pass group is taken when none is presented, or when the one presented was signalled at
once (R84) and no context of the stream is RUNNING in the partition, nor a pod that no context owns. -/
def execPassGroupTake (n st : Nat) (s : State) : Host.Outcome State Fault Refusal :=
  reply (8 ≤ n ∨ 4 ≤ st) <|
    let free := match s.presented n st with
        | none => true
        | some c => c.signalled && !s.streamRuns n st && (s.running n).all fun p => (s.owner p).isSome
      match s.stagedNext n st with
      | some (h, p) => if s.isRun && !s.podsHeld n && free then (s.passTake n st h p) else s
      | none => s

/-! ## Run, steering, parity (R100, R109 to R112) -/

def execPodRunStart (p : Nat) (s : State) : Host.Outcome State Fault Refusal :=
  reply (64 ≤ p) <|
    (s.hostWrite (POD_CTRL p) fun s => s.podRunStart p)

def execPodRunStop (p : Nat) (s : State) : Host.Outcome State Fault Refusal :=
  reply (64 ≤ p) <|
    (s.hostWrite (POD_CTRL p) fun s => s.podRunStop p)

/-- STEER_REQUEST; a column above 32 is ignored (POD_CMD). -/
def execSteerRequest (p col : Nat) (s : State) : Host.Outcome State Fault Refusal :=
  reply (64 ≤ p ∨ 64 ≤ col) <|
    if 32 < col then s
    else (s.hostWrite (POD_CMD p) fun s => s.steerRequest p col)

/-- The mark of a parity error in pod p: the draining bank or the active one (R109). -/
def State.podContam (s : State) (p : Nat) (draining : Bool) : State :=
  s.modPod p fun x =>
    match draining, x.drains with
    | true, d :: ds => { x with drains := { d with bank := { d.bank with contam := true } } :: ds }
    | _, _ => x.setAct { x.act with contam := true }

/-- A parity error in a physical column: counted, and steered out at the limit (R109, R111). -/
def State.colError (s : State) (p col : Nat) : State :=
  let s := (s.inc (POD_COLERR p col)).inc (POD_PARITY p)
  if s.flag (POD_SPARECFG_AutoSteer p) && decide (max 1 (s.fget (POD_SPARECFG_Limit p)) ≤ (s.reg (POD_COLERR p col)).toNat) then
    s.steerRequest p col
  else s

/-- CELL_PARITY_ERROR: site 0x09 (R349). -/
def execCellParityError (p col : Nat) (draining : Bool) (s : State) : Host.Outcome State Fault Refusal :=
  reply (64 ≤ p ∨ 33 ≤ col) <|
    (if s.fastClk then ((s.podContam p draining).parity 9 p col).colError p col else s)

/-- STEER_RELOAD_DONE: the weights are formed again from the store (R111). -/
def execSteerReloadDone (p : Nat) (s : State) : Host.Outcome State Fault Refusal :=
  reply (64 ≤ p) <|
    if !s.fastClk then s
    else if (s.pod p).reloading then
      let again := fun (w : WSet) => s.weightSet p w.set w.chan
      s.modPod p fun x => { x with reloading := false, weights := x.weights.map again, shadow := x.shadow.map again }
    else s

end Sys2Proof.Machine
end

