-- ==== Sys2Proof/Machine/Husk.lean ====
section
/-! DEFINITION. The Husk (chapter 05): the lane front end (R115), placing and ordering drains (R116 to R121), the spill
(R122 to R128), the power stage (R129 to R131), voltages (R132), counts and chaff (R133 to R137), integrations and the
start of a dump (R138, R140). -/

namespace Sys2Proof.Machine

/-! ## A context's settings in the Husk -/

/-- The context spills complex values (VIS, AUTO). -/
def State.ctxCplx (s : State) (c : Nat) : Bool := decide (s.ctxKind c ≤ 1)
def State.ctxS64 (s : State) (c : Nat) : Bool := !s.flag (CTX_CFG_SpillFmt c)
/-- v of R122 and R130: bytes of a stored value. -/
def State.valueBytes (s : State) (c : Nat) : Nat :=
  (if s.ctxCplx c then 2 else 1) * (if s.ctxS64 c then 8 else 4)
/-- Start of the buffer of integration n (R122, R138). -/
def State.spillBuf (s : State) (c n : Nat) : Nat :=
  s.fget (HUSK_DSPILL_Base c) * 64 + n % 2 * (s.fget (HUSK_DBUFSZ_Size c) * 64)
/-- Start of the half of the chaff region of integration n: HUSK_DCHAFF.Base · 64, then A and B, each a mark block of 8,192
bytes and 2^ChaffBits buckets of 64 bytes (R134). -/
def State.chaffHalf (s : State) (c n : Nat) : Nat :=
  s.fget (HUSK_DCHAFF_Base c) * 64 + n % 2 * (8192 + 64 * 2 ^ s.fget (HUSK_DCFG_ChaffBits c))
/-- Address of element e = (g_c · nx + x) · 4 + k of integration n: the buffer plus e · v (R122, R130); nx is
State.ctxNx. -/
def State.elemAddr (s : State) (c n e : Nat) : Nat := s.spillBuf c n + e * s.valueBytes c

def State.setHusk (s : State) (c : Nat) (h : Option HuskCtx) : State :=
  { s with husk := { s.husk with ctx := tset none s.husk.ctx c h } }

/-! ## Draws (R127) -/

def xorshift (x : Nat) : Nat :=
  let x := x ^^^ (x * 8192 % 2 ^ 32)
  let x := x ^^^ (x / 131072)
  x ^^^ (x * 32 % 2 ^ 32)

/-- The generator's state at the start of a batch. -/
def State.batchSeed (s : State) (lane window batch c : Nat) : Nat :=
  let x := (s.fget HUSK_SEED_Seed + lane) % 2 ^ 32
  let x := x ^^^ (window * 2654435761 % 2 ^ 32)
  let x := x ^^^ (batch * 2246822519 % 2 ^ 32)
  let x := x ^^^ (c * 3266489917 % 2 ^ 32)
  if x = 0 then lane + 1 else x

/-! ## Mark bytes (R137) -/

/-- Bits m are ORed into the mark byte at address a, which is read first: a byte of wrong parity gets Contaminated (R349 site
0x06). -/
def State.markOr (s : State) (a m : Nat) : State :=
  (s.noteRead a 1).hbmWrite a [s.hbmByte a ||| BitVec.ofNat 8 (if s.hbmByteBad a then m ||| 1 else m)]

/-- Bits enter the mark byte of group g for integration n: the first write of the current integration sets the byte,
later ones OR into it. A VOLT context has no mark block; its marks wait for the next block of the group. -/
def State.markGroup (s : State) (c n g m : Nat) : State :=
  match s.huskCtx c with
  | some h =>
    if s.ctxKind c = 2 then s.setHusk c (some { h with marks := tmod 0 h.marks g fun b => b ||| m })
    else
      let a := s.chaffHalf c n + g
      if h.integ (s.ctxP c) h.win = n ∧ tget 0 h.written g = 0 then
        (s.setHusk c (some { h with written := tset 0 h.written g 1 })).hbmWrite a [BitVec.ofNat 8 m]
      else if m = 0 then s
      else s.markOr a m
  | none =>
    let a := s.chaffHalf c n + g
    if m = 0 then s else s.markOr a m

/-- A parity error on a spill or chaff read (R147). -/
def State.spillParity (s : State) (c n g : Nat) (bad : Bool) : State :=
  s.when bad fun s => (s.inc HUSK_PARITY).markGroup c n g 1

/-! ## Spill and chaff (R122 to R126, R133 to R136) -/

/-- The stored words of a value of binary32 parts after one contribution (R123 to R126). -/
def spillWords (first s64 : Bool) (old vals us : List Nat) : List Nat :=
  ((List.range vals.length).zip (vals.zip us)).flatMap fun e =>
    let (p, v, u) := e
    if s64 then
      if first then [v, 0]
      else let r := neumaier (old.getD (2 * p) 0) (old.getD (2 * p + 1) 0) v; [r.1, r.2]
    else if first then [v] else [stochastic (old.getD p 0) v u]

/-- n binary32 words from address a. -/
def State.hbmWords (s : State) (a n : Nat) : List Nat := (List.range n).map fun i => ofLe (s.hbmBytes (a + 4 * i) 4)

/-- A contribution enters the spill at address a (R125, R126, R147). -/
def State.spillPut (s : State) (c n g a : Nat) (first : Bool) (vals us : List Nat) : State :=
  let s64 := s.ctxS64 c
  let words := vals.length * (if s64 then 2 else 1)
  let out := spillWords first s64 (if first then [] else s.hbmWords a words) vals us
  let bad := !first && s.hbmAnyBad a (4 * words)
  let s := if first then s else (s.noteRead a (4 * words)).spillParity c n g bad
  s.hbmWrite a (out.flatMap fun w => leBytes 4 w)

/-- The bucket of a key (R136). -/
def chaffBucket (bits g x : Nat) : Nat :=
  (x + g * 1540483477) % 2 ^ 32 * 2654435761 % 2 ^ 32 / 2 ^ (32 - bits)

/-- A chaff record as a number (R135). -/
def chaffRecord (n g x d : Nat) : Nat := 2 ^ 96 + n % 65536 * 2 ^ 80 + g * 2 ^ 56 + x * 2 ^ 32 + d

/-- The bucket's records of integration number n are those of one that was discarded (R142). -/
def State.chaffOld (s : State) (c n b : Nat) : Bool :=
  match tget none s.husk.stale (65536 * c + n % 65536) with
  | some done => !done.contains b
  | none => false

/-- Live records of a bucket: group, index, deficit (R135, R142). -/
def State.chaffLive (s : State) (c n b : Nat) : List (Nat × Nat × Nat) :=
  if s.chaffOld c n b then []
  else
    let a := s.chaffHalf c n + 8192 + 64 * b
    (List.range 4).filterMap fun i =>
      let w := ofLe (s.hbmBytes (a + 16 * i) 16)
      if bits w 96 1 = 1 ∧ bits w 80 16 = n % 65536 then some (bits w 56 13, bits w 32 24, bits w 0 32) else none

/-- The bucket's records are again those of the current integration n. -/
def State.chaffNew (s : State) (c n b : Nat) : State :=
  { s with husk := { s.husk with
      stale := tmod none s.husk.stale (65536 * c + n % 65536) fun v => v.map fun done => b :: done } }

/-- Insertion in ascending (group, index). -/
def chaffInsert (k : Nat × Nat × Nat) : List (Nat × Nat × Nat) → List (Nat × Nat × Nat)
  | [] => [k]
  | e :: t => if k.1 < e.1 ∨ k.1 = e.1 ∧ k.2.1 < e.2.1 then k :: e :: t else e :: chaffInsert k t

/-- A deficit is added to the record of (g, x) (R136). -/
def State.chaffAdd (s : State) (c n g x d : Nat) : State :=
  let b := chaffBucket (s.fget (HUSK_DCFG_ChaffBits c)) g x
  let a := s.chaffHalf c n + 8192 + 64 * b
  let live := s.chaffLive c n b
  let bad := s.hbmAnyBad a 64
  let s := (s.noteRead a 64).spillParity c n g bad
  let put := fun (l : List (Nat × Nat × Nat)) =>
    let body := l.flatMap fun e => leBytes 16 (chaffRecord n e.1 e.2.1 e.2.2)
    let s := s.hbmWrite a (body ++ List.replicate (64 - body.length) 0)
    ((if s.chaffOld c n b then s.chaffNew c n b else s).inc HUSK_CHAFFINS).pmc 275 1
  if live.any fun e => decide (e.1 = g) && decide (e.2.1 = x) then
    put (live.map fun e => if e.1 = g ∧ e.2.1 = x then (e.1, e.2.1, min (2 ^ 32 - 1) (e.2.2 + d)) else e)
  else if live.length < 4 then put (chaffInsert (g, x, d) live)
  else ((s.inc HUSK_CHAFFOVF).fset HUSK_STATUS_ChaffFull 1).markGroup c n g 8

/-- A deficit of a value with k = 0, where it is above 0 (R133). -/
def State.deficit (s : State) (c n g x full cnt : Nat) : State :=
  if cnt < full then s.chaffAdd c n g x (full - cnt) else s

/-! ## Placing a drain (R117, R118, R120) -/

/-- First drain-map entry of a drain of context c (R117). -/
def State.mapIndex (s : State) (c : Nat) (d : DrainRec) : Nat :=
  let per := s.fget (HUSK_DMAP_MapPeriodMinus1 c) + 1
  let q := (s.tile c).idxOf d.pod
  (s.fget (HUSK_DMAP_MapBase c) + q * per + d.tag % per) % 16384

/-- The entries a drain uses; none for a map miss (R117). -/
def State.mapEntries (s : State) (c : Nat) (d : DrainRec) : Option (List Nat) :=
  let idx := s.mapIndex c d
  let l := if d.beam then [idx] else (List.range (d.slots / 4)).map fun i => (idx + i) % 16384
  if (s.tile c).contains d.pod && (d.beam || decide (d.slots % 4 = 0)) && l.all fun i =>
      s.flag (HUSK_MAP_HI_Valid i) && s.fget (HUSK_MAP_HI_Context i) = c && s.flag (HUSK_MAP_HI_Kind i) = d.beam then some l
  else none

/-- Entries of a beam drain that are kept: row, entry, cell (R120). -/
def State.beamKept (s : State) (c i : Nat) (d : DrainRec) : List (Nat × Nat × Cell) :=
  ((List.range (32 * d.slots)).flatMap fun k =>
    (List.range 32).map fun col => (31 - k / d.slots, 32 * (k % d.slots) + col)).filterMap fun e =>
      if e.2 / 4 ≤ s.fget (HUSK_MAP_LO_FramesMinus1 i) ∧ s.fget (HUSK_MAP_HI_RowOrBeamBase i) + e.1 < s.ctxBeams c then
        some (e.1, e.2, d.bank.cell (e.2 / 32) e.1 (e.2 % 32))
      else none

/-! ## The power stage (R129 to R131) -/

def powerKey (lane c w g x k : Nat) : Nat := ((((lane * 4096 + c) * 2 ^ 48 + w) * 2 ^ 13 + g) * 2 ^ 24 + x) * 4 + k

def cellPower (v : Cell) : Int := v.re * v.re + v.im * v.im

/-- What a beam drain adds: key, sum, count; and the values it discards for want of a Stokes partner. -/
def State.powerAdds (s : State) (n c w g : Nat) (i : Nat) (d : DrainRec) : List (Nat × Int × Nat) × Nat :=
  let kept := s.beamKept c i d
  let base := s.fget (HUSK_MAP_HI_RowOrBeamBase i)
  if s.ctxKind c = 3 then
    (kept.map fun e => (powerKey n c w g (base + e.1) (e.2.1 % 4), cellPower e.2.2, e.2.2.cnt), 0)
  else
    let partner := fun (row e : Nat) => kept.find? fun y => y.1 = row && y.2.1 = e
    let adds := kept.flatMap fun e =>
      let b := base + e.1
      if b % 2 = 0 then
        match partner (e.1 + 1) e.2.1 with
        | some y =>
          let px := cellPower e.2.2
          let py := cellPower y.2.2
          let xy := mulConj (e.2.2.re, e.2.2.im) (y.2.2.re, y.2.2.im)
          [(0, px + py), (1, px - py), (2, 2 * xy.1), (3, -2 * xy.2)].map fun v =>
            (powerKey n c w g (2 * b + v.1) (e.2.1 % 4), v.2, e.2.2.cnt)
        | none => []
      else []
    (adds, kept.length - adds.length / 2)

/-- Entries of lane n in use. -/
def State.powerUsed (s : State) (n : Nat) : Nat :=
  (s.husk.power.filter fun e => decide (powerKey n 0 0 0 0 0 ≤ e.1) && decide (e.1 < powerKey (n + 1) 0 0 0 0 0)).length

/-- Entries a drain needs that are not there yet. -/
def State.powerNew (s : State) (adds : List (Nat × Int × Nat)) : Nat :=
  ((adds.map (·.1)).eraseDups.filter fun k => tget none s.husk.power k = none).length

def State.powerAdd (s : State) (adds : List (Nat × Int × Nat)) : State :=
  { s with husk := { s.husk with power := adds.foldl (fun t e =>
      tmod none t e.1 fun v => match v with
        | some (a, n) => some (a + e.2.1, n + e.2.2)
        | none => some (e.2.1, e.2.2)) s.husk.power } }

/-- Flush of one lane's entries of a complete pass group (R130). -/
def State.flushLane (s : State) (c w g n : Nat) (first : Bool) (lane : Nat) : State :=
  let lo := powerKey lane c w g 0 0
  let es := s.husk.power.filter fun e => decide (lo ≤ e.1) && decide (e.1 < lo + 2 ^ 26)
  let s := { s with husk := { s.husk with power := s.husk.power.filter fun e => decide (e.1 < lo) || decide (lo + 2 ^ 26 ≤ e.1) } }
  let full := s.ctxM c * s.ctxT c
  let lines := es.map fun e => s.elemAddr c n ((g * s.ctxNx c + (e.1 - lo) / 4) * 4 + (e.1 - lo) % 4) / 64
  let r := es.foldl (fun (a : State × Nat) e =>
    match e.2 with
    | some (v, cnt) =>
      let x := (e.1 - lo) / 4
      let k := (e.1 - lo) % 4
      let u := xorshift a.2
      let s := a.1.spillPut c n g (a.1.elemAddr c n ((g * a.1.ctxNx c + x) * 4 + k)) first [fOfInt v] [u]
      (if k = 0 then s.deficit c n g x full cnt else s, u)
    | none => a) (s, s.batchSeed lane w (65536 + g) c)
  let m := lines.eraseDups.length
  (r.1.incBy HUSK_RMW m).pmc 272 m

/-- A complete pass group's entries flush (R130). -/
def State.flushGroup (s : State) (c w g n : Nat) (first : Bool) : State :=
  s.each (List.range 8) fun s lane => s.flushLane c w g n first lane

/-! ## Voltages (R132, R168) -/

/-- One requantized voltage part and whether it was clamped. -/
def voltPart (fmt shift : Nat) (v : Int) : Int × Bool :=
  let q := rhuShift v shift
  let lim : Int := 2 ^ (fmtWidth fmt - 1) - 1
  (satTo lim q, decide (satTo lim q ≠ q))

/-- The block of a VOLT drain: samples per frame, its beams, its deficit, and the samples clamped. -/
def State.voltBlock (s : State) (c i : Nat) (d : DrainRec) : List (List Byte) × Nat × Nat × Nat :=
  let fmt := s.fget (HUSK_DAUX_VoltFormat c)
  let sh := s.fget (HUSK_DAUX_VoltShift c)
  let base := s.fget (HUSK_MAP_HI_RowOrBeamBase i)
  let rows := min 32 (s.ctxBeams c - base)
  let frames := min (s.fget (HUSK_MAP_LO_FramesMinus1 i) + 1) (8 * d.slots)
  let cell := fun (f r k : Nat) => d.bank.cell ((4 * f + k) / 32) r ((4 * f + k) % 32)
  let body := (List.range frames).map fun f => (List.range rows).flatMap fun r => (List.range 4).flatMap fun k =>
    let v := cell f r k
    if v.cnt = 0 then sampleLe fmt (fmtReserved fmt, fmtReserved fmt)
    else sampleLe fmt ((voltPart fmt sh v.re).1, (voltPart fmt sh v.im).1)
  let all := (List.range frames).flatMap fun f => (List.range rows).flatMap fun r => (List.range 4).map fun k => (f, r, k)
  let sat := (all.filter fun e =>
    let v := cell e.1 e.2.1 e.2.2
    decide (v.cnt ≠ 0) && ((voltPart fmt sh v.re).2 || (voltPart fmt sh v.im).2)).length
  let def' := all.foldl (fun a e => if e.2.2 = 0 then a + (s.ctxM c - (cell e.1 e.2.1 0).cnt) else a) 0
  (body, rows, def', sat)

/-! ## Correlation drains (R118, R119) -/

structure SpillAcc where
  s : State
  rng : Nat
  disc : Nat
  lines : List Nat

/-- One value of a correlation drain: step k, logical column col. -/
def corrValue (c g n : Nat) (first : Bool) (ents : List Nat) (d : DrainRec) (a : SpillAcc) (k col : Nat) : SpillAcc :=
  let s := a.s
  let u1 := xorshift a.rng
  let u2 := xorshift u1
  let slot := k % d.slots
  let row := 31 - k / d.slots
  let i := s.fget (HUSK_MAP_HI_RowOrBeamBase (ents.getD (slot / 4) 0)) + row
  let j := s.fget (HUSK_MAP_LO_ColBaseOrFrameBase (ents.getD (slot / 4) 0)) % 4096 + col
  let auto := decide (s.ctxKind c = 1)
  if j < i ∨ s.ctxM c ≤ j ∨ auto = true ∧ i ≠ j then { a with rng := u2, disc := a.disc + 1 }
  else
    let x := if auto then i else j * (j + 1) / 2 + i
    let v := d.bank.cell slot row col
    let s := if slot % 4 = 0 then s.deficit c n g x (s.ctxT c) v.cnt else s
    let addr := s.elemAddr c n ((g * s.ctxNx c + x) * 4 + slot % 4)
    let line := addr / 64
    ⟨s.spillPut c n g addr first [fOfInt v.re, fOfInt v.im] [u1, u2], u2, a.disc,
      if a.lines.contains line then a.lines else line :: a.lines⟩

/-- A correlation drain enters the spill, in step order (R107, R127). -/
def State.corrApply (s : State) (lane c g w n idx : Nat) (first : Bool) (ents : List Nat) (d : DrainRec) : State :=
  let a := ((List.range (32 * d.slots)).flatMap fun k => (List.range 32).map fun col => (k, col)).foldl
    (fun a e => corrValue c g n first ents d a e.1 e.2) ⟨s, s.batchSeed lane w idx c, 0, []⟩
  ((a.s.incBy HUSK_DISCARD a.disc).incBy HUSK_RMW a.lines.length).pmc 272 a.lines.length

/-! ## Windows, integrations, the start of a dump (R121, R138, R140) -/

/-- TOPK contexts that watch c see a dump begin (R161). -/
def State.armWatchers (s : State) (c : Nat) : State :=
  s.each (s.watchers c) fun s o =>
    let s := if s.ctxState o = 2 then s.setCtxState o 3 else s
    if s.ctxState o = 3 ∧ tget none s.husk.watch o = none then
      { s with husk := { s.husk with watch := tset none s.husk.watch o (some ⟨0, 0, 0, (0, 0)⟩) } }
    else s

/-- A dump is queued for the packer. -/
def State.addDump (s : State) (c : Nat) (d : Dump) : State :=
  { s with husk := { s.husk with dumps := tmod [] s.husk.dumps c fun l => l ++ [d] } }

/-- DUMP_START (R140): integration n of context c. -/
def State.dumpStart (s : State) (c k0 n : Nat) : State :=
  let s := s.armWatchers c
  let f := s.intervalFrame c k0 n
  s.addDump c ⟨n, tget 0 s.husk.runs c, f, s.ctxP c * s.ctxF c % 2 ^ 32, s.fget FAB_STATUS_PartEpoch, s.taiSpan c f, 0, [], false, 0,
    (s.watchers c).filter fun o => decide (s.ctxState o = 3), []⟩

/-- An interval whose packets were formed ends: counters, and its loss report (R171, R359, R360). -/
def State.intervalEnd (s : State) (c flags : Nat) (dropped : Bool) (tai : Nat × Nat) : State :=
  let s := (s.inc (CTX_EMITTED c)).pmc 468 1
  let s := if flags = 0 then s else (s.inc (CTX_FLAGGED c)).pmc 469 1
  let cause := if flags % 2 = 1 then 1 else if flags / 2 % 2 = 1 then 2 else if dropped then 5 else 0
  if cause = 0 then s else s.reportLost c cause (to16 tai.1) (to16 tai.2)

/-- A VOLT window whose expected drains are complete, whether or not the last one gave a block: the newest block of the
window ends the interval and takes the marks that wait for one; where every block has left, the interval ends now (R121,
R165, R168). -/
def State.voltClose (s : State) (c : Nat) (h : HuskCtx) : State :=
  let marks := h.marks.foldl (fun a e => a ||| e.2) 0
  let q := tget [] s.husk.volt c
  match q.getLast? with
  | some b =>
    if b.win = h.win then
      let q := q.dropLast ++ [{ b with last := true, marks := b.marks ||| marks }]
      { s with husk := { s.husk with volt := tset [] s.husk.volt c q } }
    else s
  | none =>
    let pos := tget (0, 0, false, 0) s.husk.voltPos c
    if pos.1 = 0 then s
    else
      ({ s with husk := { s.husk with voltPos := tset (0, 0, false, 0) s.husk.voltPos c (0, 0, false, 0) } }).intervalEnd c
        (pos.2.2.2 ||| marks) pos.2.2.1 (h.tai.getD (0, 0))

/-- A drain has arrived for group g of the window being applied; the group, the window and the integration may be
complete (R121, R130, R138, R140). -/
def State.arrive (s : State) (c g : Nat) : State :=
  match s.huskCtx c with
  | none => s
  | some h =>
    let exp := s.fget (HUSK_DAUX_DrainsPerPgMinus1 c) + 1
    let n := h.integ (s.ctxP c) h.win
    let first := decide ((h.win - h.k0) % s.ctxP c = 0)
    let h := { h with arrived := tset 0 h.arrived g (tget 0 h.arrived g + 1) }
    let s := s.setHusk c (some h)
    if tget 0 h.arrived g < exp then s
    else
      let s := if s.ctxKind c = 3 ∨ s.ctxKind c = 4 then s.flushGroup c h.win g n first else s
      if (List.range (s.ctxGroups c)).all fun q => decide (exp ≤ tget 0 h.arrived q) then
        match s.huskCtx c with
        | none => s
        | some h =>
          let done := decide ((h.win + 1 - h.k0) % s.ctxP c = 0)
          let s := if s.ctxKind c = 2 then s.voltClose c h else s
          let s := s.setHusk c (some { h with win := h.win + 1, arrived := [], marks := [], tai := none,
                                              written := if done then [] else h.written })
          let s := if done then s.modCtx c fun x => { x with restarted := false } else s
          if done && decide (s.ctxKind c ≠ 2) then s.dumpStart c h.k0 n else s
      else s

/-! ## Deciding and applying a drain (R115 to R121, R129, R141, R147) -/

/-- What the back end may do with a drain now. -/
inductive Verdict where
  | stopped
  | miss (group : Option Nat) (idx : Nat)
  | mixed (group : Nat)
  | excess (group idx : Nat)
  | order
  | late
  | stage
  | apply (group idx : Nat) (ents : List Nat)
  deriving DecidableEq, Repr

/-- Another integration whose dump has not finished holds the buffer of integration m of this run (R141). -/
def State.bufferBusy (s : State) (c run m : Nat) : Bool :=
  decide (s.ctxKind c ≠ 2) && (tget [] s.husk.dumps c).any fun x =>
    decide (x.n % 2 = m % 2) && !(decide (x.run = run) && decide (x.n = m))

/-- The decision for a drain at lane n. -/
def State.verdict (s : State) (n : Nat) (d : DrainRec) : Verdict :=
  match d.ctx with
  | none => .stopped
  | some c =>
    match s.huskCtx c with
    | none => .stopped
    | some h =>
      if s.ctxState c ≠ 3 ∧ s.ctxState c ≠ 4 then .stopped
      else
        match d.bank.pg with
        | none => .miss none (s.mapIndex c d)
        | some pg =>
          if pg.g < s.ctxFirst c ∨ s.ctxFirst c + s.ctxGroups c ≤ pg.g ∨ pg.k < h.k0 then .miss none (s.mapIndex c d)
          else
            let g := pg.g - s.ctxFirst c
            if h.win < pg.k then .order
            else if s.bufferBusy c h.run (h.integ (s.ctxP c) pg.k) then .late
            else if d.bank.mixed then .mixed g
            else
              match s.mapEntries c d with
              | none => .miss (some g) (s.mapIndex c d)
              | some ents =>
                if pg.k < h.win ∨ s.fget (HUSK_DAUX_DrainsPerPgMinus1 c) < tget 0 h.arrived g then .excess g (s.mapIndex c d)
                else if (s.ctxKind c = 3 ∨ s.ctxKind c = 4) ∧
                    4096 < s.powerUsed n + s.powerNew (s.powerAdds n c pg.k g (ents.headD 0) d).1 then .stage
                else .apply g (s.mapIndex c d) ents

def Verdict.holds : Verdict → Bool
  | .order => true
  | .late => true
  | .stage => true
  | _ => false

/-- The mark bits of a drain's bank (R137). -/
def Bank.markBits (b : Bank) : Nat := (if b.contam then 1 else 0) + (if b.incMiss then 2 else 0) + (if b.incPeer then 4 else 0)

/-- Window w belongs to the current integration of a context (R117): of a VOLT context, it is the window being applied. -/
def State.currentWin (s : State) (c w : Nat) (h : HuskCtx) : Bool :=
  if s.ctxKind c = 2 then decide (w = h.win) else decide (h.integ (s.ctxP c) w = h.integ (s.ctxP c) h.win)

/-- A discarded drain that names a group marks that group's byte of the current integration where its window lies there, and
still arrives for a group of the window being applied (R116, R117, R121). The byte of an integration that is over belongs to
another one (DEDUCED, log entry 287). -/
def State.discardArrive (s : State) (c g : Nat) (d : DrainRec) : State :=
  match s.huskCtx c, d.bank.pg with
  | some h, some pg =>
    let s := s.when (s.currentWin c pg.k h) fun s => s.markGroup c (h.integ (s.ctxP c) pg.k) g 1
    if pg.k = h.win ∧ tget 0 h.arrived g ≤ s.fget (HUSK_DAUX_DrainsPerPgMinus1 c) then s.arrive c g else s
  | _, _ => s

/-- A parity error that waits in lane n, as the bit of a mark byte (R349 site 0x0A). -/
def State.huskBit (s : State) (n : Nat) : Nat := if tget 0 s.husk.parity n ≠ 0 then 1 else 0

/-- A voltage block goes to the packer (R132). -/
def State.voltApply (s : State) (lane c g i : Nat) (d : DrainRec) : State :=
  match s.huskCtx c with
  | none => s
  | some h =>
    let (body, _, def', sat) := s.voltBlock c i d
    let marks := d.bank.markBits ||| tget 0 h.marks g ||| (if 0 < sat then 16 else 0) ||| s.huskBit lane
    let exp := s.fget (HUSK_DAUX_DrainsPerPgMinus1 c) + 1
    let last := (List.range (s.ctxGroups c)).all fun q => decide (exp ≤ tget 0 h.arrived q + (if q = g then 1 else 0))
    let tai := h.tai.getD (s.taiSpan c (s.winStart (s.ctxStream c) h.win))
    let b : VoltBlock := ⟨h.k0, s.fget FAB_STATUS_PartEpoch, tai, h.win, g, s.fget (HUSK_MAP_HI_RowOrBeamBase i), s.fget (HUSK_MAP_LO_ColBaseOrFrameBase i), body,
      def', marks, last⟩
    let s := (s.incBy HUSK_SATCNT sat)
    let s := s.when (s.ctxEmit c) fun s => { s with husk := { s.husk with volt := tmod [] s.husk.volt c fun l => l ++ [b] } }
    (s.setHusk c (some { h with marks := tset 0 h.marks g 0, tai := some tai }))

/-- Values of a beam drain that R120 discards. -/
def State.beamDiscards (s : State) (c i : Nat) (d : DrainRec) : Nat := 1024 * d.slots - (s.beamKept c i d).length

/-- The drain enters its context's sums (R118 to R132). -/
def State.drainInto (s : State) (lane c g idx : Nat) (ents : List Nat) (d : DrainRec) : State :=
  match s.huskCtx c with
  | none => s
  | some h =>
    let n := h.integ (s.ctxP c) h.win
    let first := decide ((h.win - h.k0) % s.ctxP c = 0)
    let i := ents.headD 0
    let s :=
      if !d.beam then s.corrApply lane c g h.win n idx first ents d
      else
        let s := s.incBy HUSK_DISCARD (s.beamDiscards c i d)
        if s.ctxKind c = 2 then s.voltApply lane c g i d
        else
          let adds := s.powerAdds lane c h.win g i d
          (s.powerAdd adds.1).incBy HUSK_DISCARD adds.2
    let bits := d.bank.markBits ||| s.huskBit lane
    let s := if s.ctxKind c = 2 then s else s.markGroup c n g bits
    ({ s with husk := { s.husk with parity := tset 0 s.husk.parity lane 0 } }).arrive c g

/-- The back end deals with one drain that it may apply or discard; a parity error on its mark byte is logged before the drain's
own entry (R356). -/
def State.drainTake (s : State) (lane : Nat) (d : DrainRec) (v : Verdict) : State :=
  let c := d.ctx.getD 0
  match v with
  | .stopped => s.inc HUSK_MAPMISS
  | .miss g idx =>
    let s := (s.inc HUSK_MAPMISS).fset HUSK_STATUS_MapMiss 1
    (match g with
    | some g => s.discardArrive c g d
    | none => s).log 0x0F 0 c idx
  | .mixed g => (((s.inc HUSK_MIXED).fset HUSK_STATUS_Mixed 1).discardArrive c g d).log 0x0E 0 c d.pod
  | .excess g idx => ((s.inc HUSK_EXCESS).discardArrive c g d).log 0x10 0 c idx
  | .apply g idx ents => s.drainInto lane c g idx ents d
  | _ => s

/-- A hold by R141 is counted once per drain; a hold by R129 counts a cycle. -/
def State.noteHold (s : State) (n i : Nat) (d : DrainRec) : Verdict → State
  | .late =>
    if d.late then s
    else
      let q := (tget [] s.husk.held n).set i { d with late := true }
      let s := { s with husk := { s.husk with held := tset [] s.husk.held n q } }
      ((s.inc HUSK_DUMPLATE).fset HUSK_STATUS_DumpLate 1).pmc 279 1
  | .stage => s.inc HUSK_STAGEHOLD
  | _ => s

/-- The lane's drains from place i on: holds are noted, the first that may be dealt with is. -/
def State.applyFrom (s : State) (n i : Nat) : List DrainRec → State
  | [] => s
  | d :: ds =>
    let v := s.verdict n d
    if v.holds then (s.noteHold n i d v).applyFrom n (i + 1) ds
    else
      let s := { s with husk := { s.husk with held := tmod [] s.husk.held n fun q => q.eraseIdx i } }
      s.drainTake n d v

/-- Drains under way to lane n, with the steps that the back end has taken. -/
def State.underWay (s : State) (n : Nat) : List DrainRec :=
  (List.range 8).filterMap fun r => (s.pod (8 * r + n)).drains.head?.map fun d => { d with took := tget 0 s.husk.took (8 * r + n) }

/-- The back end takes from lane n's buffer the values that have come of a drain under way which nothing holds (R115). -/
def State.laneTake (s : State) (n : Nat) : State :=
  { s with husk := { s.husk with took := (s.underWay n).foldl (fun t d =>
      if (s.verdict n d).holds then t else tset 0 t d.pod d.steps) s.husk.took } }

/-- DRAIN_APPLY (R121); a held crossing reads empty (R296), and no spill reaches the HBM through one (log entry 288). -/
def execDrainApply (n : Nat) (s : State) : Host.Outcome State Fault Refusal :=
  reply (8 ≤ n) <|
    if s.isRun && !s.unitInReset 18 && !s.xIsHeld 7 n && !s.hbmHeld then
      (s.applyFrom n 0 (tget [] s.husk.held n)).laneTake n
    else s

/-- The power stage holds a drain: HUSK_STATUS.StageFull (R129). -/
def State.stageFull (s : State) : Bool :=
  (List.range 8).any fun n => (tget [] s.husk.held n).any fun d => decide (s.verdict n d = .stage)

/-! ## The front end (R108, R115) -/

/-- Values in lane n's buffer (R115): what the lane has accepted, delivered or under way, and the back end has not taken. -/
def State.frontUsed (s : State) (n : Nat) : Nat :=
  (tget [] s.husk.held n ++ s.underWay n).foldl (fun a d => a + 32 * (d.steps - d.took)) 0

/-- A pod offers a drain step: its drain is under way and nothing else uses its W-bus (R107, R108). -/
def PodSt.offers (x : PodSt) : Bool :=
  x.wlds.isEmpty && x.winits.isEmpty && !x.reloading &&
    match x.drains with
    | d :: _ => decide (d.steps < 32 * d.slots)
    | [] => false

/-- The rows whose pods offer lane n a step, in round robin (R115). -/
def State.laneRows (s : State) (n : Nat) : List Nat :=
  ((List.range 8).map fun i => (tget 0 s.husk.last n + i) % 8).filter fun r => (s.pod (8 * r + n)).offers

/-- Lane n takes no step: it is off, in reset or held, or its buffer has no room (R115, R296). -/
def State.laneRefuses (s : State) (n : Nat) : Bool :=
  !s.flag HUSK_CTRL_Enable || s.unitInReset 18 || s.xIsHeld 7 n || decide (16384 < s.frontUsed n + 32)

/-- k ACLK cycles in which lane n refuses every step (R115, R380). -/
def State.refuse (s : State) (n k : Nat) (rows : List Nat) : State :=
  ((s.incBy HUSK_FEHOLD k).pmc (264 + n) k).each rows fun s q => s.stallFor (8 * q + n) 5 k

/-- The rest of the k ACLK cycles since the last ECLK tick in which lane n has refused steps (R380, log entry 27). -/
def State.refuseTick (s : State) (k n : Nat) : State :=
  let was := tget 0 s.husk.refused n
  let rows := s.laneRows n
  let s := s.when (!rows.isEmpty && s.laneRefuses n && decide (was < k)) fun s => s.refuse n (k - was) rows
  if was = 0 then s else { s with husk := { s.husk with refused := tset 0 s.husk.refused n 0 } }

/-- HUSK_STEP_ACCEPT (R115): the next pod of the column round robin has its step taken, or every step is refused. -/
def execHuskStepAccept (n : Nat) (s : State) : Host.Outcome State Fault Refusal :=
  reply (8 ≤ n) <|
      match s.laneRows n with
      | [] => s
      | r :: others =>
        if !s.isRun then s
        else if s.laneRefuses n then
          { s.refuse n 1 (r :: others) with husk := { s.husk with refused := tmod 0 s.husk.refused n (· + 1) } }
        else
          let s := { s with husk := { s.husk with last := tset 0 s.husk.last n (r + 1) } }
          let s := s.modPod (8 * r + n) fun x => { x with drains :=
            match x.drains with
            | d :: ds => { d with steps := d.steps + 1 } :: ds
            | [] => [] };
          ((s.pmc (256 + n) 1).each others fun s q => s.stall (8 * q + n) 5)

end Sys2Proof.Machine
end

