-- ==== Sys2Proof/Machine/Egress.lean ====
section
/-! DEFINITION. The egress packer and the end of an interval (chapter 06): packets (R165 to R172), destinations (R174 to
R176), the end of a dump with the top-k unit (R140, R143 to R145, R161), loss reports (R359), the end of DRAINING
(R157) and the automatic restart (R159). -/

namespace Sys2Proof.Machine

/-! ## Destinations (R174 to R176) -/

/-- Bytes a packet may hold after its header (R171, R174). -/
def State.pktRoom (s : State) (c : Nat) : Nat :=
  let d := s.fget (CTX_DEST_Dest c)
  let lim := if s.flag (EGR_DCTRL_Kind d) then 4096 else 8972
  min lim (max 128 (s.fget (EGR_DMAX_MaxPacket d))) - 64

/-- Whole items of a size that fit, at least one. -/
def fitCount (room size : Nat) : Nat := max 1 (room / size)

/-- The enabled EGRESS_ETH lane of an Ethernet port whose link is up (R175, R236). -/
def State.portLane (s : State) (port : Nat) : Option Nat :=
  (List.range 96).find? fun l => s.flag (LN_CFG_Enable l) && decide (s.fget (LN_CFG_Mode l) = 3) &&
    decide (s.fget (LN_CFG_EthPort l) = port) && decide (s.fget (LN_STATUS_State l) = 2)

/-- The port of packet Sequence q of destination d, and its lane (R175). -/
def State.pickPort (s : State) (d q : Nat) : Option (Nat × Nat) :=
  let up := (List.range 8).filterMap fun p =>
    if s.fget (EGR_DCTRL_Ports d) / 2 ^ p % 2 = 1 then (s.portLane p).map fun l => (p, l) else none
  if up.length = 0 then none else up[q % up.length]?

/-- One's complement sum of 16-bit words, the IPv4 header checksum. -/
def ipSum : List Byte → Nat → Nat
  | a :: b :: t, n => ipSum t (n + a.toNat * 256 + b.toNat)
  | _, n => let m := n % 65536 + n / 65536; 65535 - (m % 65536 + m / 65536)

/-- The Ethernet frame without its FCS (R174). -/
def State.ethFrame (s : State) (d l : Nat) (body : List Byte) : List Byte :=
  let head := fun (sum : Nat) => [0x45, BitVec.ofNat 8 (s.fget (EGR_DMAX_Dscp d) * 4)] ++ beBytes 2 (28 + body.length) ++
    beBytes 2 0 ++ beBytes 2 0x4000 ++ [64, 17] ++ beBytes 2 sum ++ beBytes 4 (s.fget (LN_ETHIP_Address l)) ++
    beBytes 4 (s.fget (EGR_DIP_Address d))
  beBytes 2 (s.fget (EGR_DMAC_HI_MacHigh d)) ++ beBytes 4 (s.fget (EGR_DMAC_LO_MacLow d)) ++
    beBytes 2 (s.fget (LN_ETHMAC_HI_MacHigh l)) ++ beBytes 4 (s.fget (LN_ETHMAC_LO_MacLow l)) ++ beBytes 2 0x0800 ++
    head (ipSum (head 0) 0) ++ beBytes 2 (s.fget (EGR_DUDP_SrcPort d)) ++ beBytes 2 (s.fget (EGR_DUDP_DstPort d)) ++
    beBytes 2 (8 + body.length) ++ beBytes 2 0 ++ body

/-- A packet dropped by R176. -/
def State.dropPacket (s : State) (d : Nat) : State := (s.inc (EGR_DDROP d)).pmc 278 1

/-- A packet that left. -/
def State.sentPacket (s : State) (d : Nat) : State := (s.inc (EGR_DSENT d)).pmc 277 1

/-- A packet goes into the Sprout capture ring, the 64 MiB at 0x600_0000 (R344). -/
def State.capture (s : State) (body : List Byte) : State :=
  let p := s.ctxs.ring
  let n := min body.length (0x4000000 - p)
  let s := (s.hbmWrite (0x6000000 + p) (body.take n)).when (decide (n < body.length)) fun s => s.hbmWrite 0x6000000 (body.drop n)
  { s with ctxs := { s.ctxs with ring := (p + body.length) % 0x4000000 } }

/-- The packer writes a packet into the packet half of the egress buffer (R281). -/
def State.packetPut (s : State) (body : List Byte) : State :=
  let p := s.mtx.pkt
  let n := min body.length (2 ^ 23 - p)
  { s with mtx := { s.mtx with
      egress := putBytes (putBytes s.mtx.egress (2 ^ 23 + p) (body.take n)) (2 ^ 23) (body.drop n)
      pkt := (p + body.length) % 2 ^ 23 } }

/-- A packet leaves toward its context's destination; whether the interval lost it (R174 to R176, R197, R352). -/
def State.sendPacket (s : State) (c n q : Nat) (last : Bool) (body : List Byte) : State × Bool :=
  let d := s.fget (CTX_DEST_Dest c)
  let s := s.packetPut body
  if !s.flag (EGR_DCTRL_Valid d) then (s.dropPacket d, true)
  else if s.flag IMG_STATUS_SproutActive then ((s.sentPacket d).capture body, false)
  else if s.flag (EGR_DCTRL_Kind d) then
    let node := s.fget (EGR_DCTRL_Node d)
    if s.reachable node then ((s.sentPacket d).originate 4 node c false body, false) else (s.dropPacket d, true)
  else
    match s.pickPort d q with
    | none => (s.dropPacket d, true)
    | some (p, l) =>
      let bad := decide (tget 0 s.ctxs.portBad p ≠ 0)
      let s := (((s.sentPacket d).inc (LN_ETHTX l)).emit (.packet p (s.ethFrame d l body) bad)).when last
        fun s => s.stampTx l n
      ({ s with ctxs := { s.ctxs with portBad := tset 0 s.ctxs.portBad p 0 } }, bad)

/-! ## Packets (R165 to R172) -/

/-- What the header of an interval's packets shares. -/
structure PktId where
  ctx : Nat
  n : Nat
  seq : Nat
  frame : Nat
  tai : Nat
  count : Nat
  epoch : Nat
  last : Bool
  deriving DecidableEq, Repr

/-- A product packet; ty, element format, flags, the twelve Locator bytes, nx (R165, R166). -/
def State.pktBytes (s : State) (i : PktId) (ty fmt flags nx : Nat) (loc body : List Byte) : List Byte :=
  let h := [BitVec.ofNat 8 (16 + ty), BitVec.ofNat 8 (s.ctxKind i.ctx * 32), BitVec.ofNat 8 fmt,
      BitVec.ofNat 8 ((if i.last then 128 else 0) + flags % 32)] ++ beBytes 2 i.ctx ++ beBytes 2 s.node ++
    beBytes 4 i.n ++ beBytes 4 i.seq ++ beBytes 6 i.frame ++ beBytes 10 i.tai ++ beBytes 4 i.count ++ loc ++
    beBytes 2 i.epoch ++ beBytes 2 (s.groupChan (s.ctxFirst i.ctx)) ++ beBytes 3 nx ++ [0] ++
    beBytes 2 (s.fget (CTX_CHAN_GroupsMinus1 i.ctx)) ++ beBytes 2 body.length ++ beBytes 2 0
  h ++ beBytes 2 (crc16 h) ++ body

/-- The Locator of R166: 48-bit first, 16-bit count, last word. -/
def locator (first count tail : Nat) : List Byte := beBytes 6 first ++ beBytes 2 count ++ beBytes 4 tail

/-- An error at site 0x0B that waits marks the packet being formed (R352). -/
def State.egressMark (s : State) (flags : Nat) : State × Nat :=
  if s.ctxs.egressBad then ({ s with ctxs := { s.ctxs with egressBad := false } }, flags ||| 1) else (s, flags)

/-- Elements of a spilling context's dump (R167). -/
def State.elemCount (s : State) (c : Nat) : Nat := s.ctxGroups c * s.ctxNx c * 4
def State.elemGroup (s : State) (c e : Nat) : Nat := e / (4 * s.ctxNx c)
def State.elemBytes (s : State) (c : Nat) : Nat := if s.ctxCplx c then 8 else 4

/-- The output values of element e: real and imaginary part, or one value (R140). -/
def State.elemOut (s : State) (c n e : Nat) : List Nat :=
  let a := s.elemAddr c n e
  let scale := (s.reg (HUSK_DSCALE c)).toNat
  (List.range (if s.ctxCplx c then 2 else 1)).map fun p =>
    if s.ctxS64 c then
      let w := s.hbmWords (a + 8 * p) 2
      fMul (fAdd (w.getD 0 0) (w.getD 1 0)) scale
    else fMul ((s.hbmWords (a + 4 * p) 1).getD 0 0) scale

/-- Elements of the range whose spill words have wrong parity. -/
def State.elemsBad (s : State) (c n lo cnt : Nat) : List Nat :=
  if s.hbmAnyBad (s.elemAddr c n lo) (cnt * s.valueBytes c) then
    ((List.range cnt).map fun i => lo + i).filter fun e => s.hbmAnyBad (s.elemAddr c n e) (s.valueBytes c)
  else []

/-- The dump reads a range of the spill: counts, and marks of bad elements (R140). -/
def State.dumpRead (s : State) (c n lo cnt : Nat) : State :=
  let bad := s.elemsBad c n lo cnt
  (s.noteRead (s.elemAddr c n lo) (cnt * s.valueBytes c)).each bad fun s e => s.spillParity c n (s.elemGroup c e) true

/-- Mark byte of group g of integration n, as the dump reads it. -/
def State.markByte (s : State) (c n g : Nat) : Nat := (s.hbmByte (s.chaffHalf c n + g)).toNat

/-- The OR of the mark bytes of every group. -/
def State.allMarks (s : State) (c n : Nat) : Nat := (List.range (s.ctxGroups c)).foldl (fun a g => a ||| s.markByte c n g) 0

/-- Live chaff records with their buckets, in bucket order (R140, R169). -/
def State.countRecords (s : State) (c n : Nat) : List (Nat × Nat × Nat × Nat) :=
  (List.range (2 ^ s.fget (HUSK_DCFG_ChaffBits c))).flatMap fun b => (s.chaffLive c n b).map fun r => (b, r)

/-- Address of a bucket of integration n (R134). -/
def State.bucketAddr (s : State) (c n b : Nat) : Nat := s.chaffHalf c n + 8192 + 64 * b

/-- The dump reads the buckets from lo to hi for the records of one COUNTS packet: counts, marks of the groups of records in bad
buckets, and whether a byte had wrong parity (R140, R147, R352). -/
def State.countRead (s : State) (c n lo hi : Nat) (part : List (Nat × Nat × Nat × Nat)) : State × Bool :=
  let bad := s.hbmAnyBad (s.bucketAddr c n lo) (64 * (hi + 1 - lo))
  let gs := if bad then ((part.filter fun r => s.hbmAnyBad (s.bucketAddr c n r.1) 64).map fun r => r.2.1).eraseDups else []
  ((s.noteRead (s.bucketAddr c n lo) (64 * (hi + 1 - lo))).each gs fun s g => s.spillParity c n g true, bad)

/-- One packet of a spilling interval: type, format, flags, locator, body; and the state after its reads. -/
def State.dumpPacket (s : State) (c : Nat) (d : Dump) : State × (Nat × Nat × Nat × List Byte × List Byte) × Nat :=
  let room := s.pktRoom c
  let perM := fitCount room 1
  let perD := fitCount room (s.elemBytes c)
  let perC := fitCount room 12
  let groups := s.ctxGroups c
  let nm := ceilDiv groups perM
  let nd := ceilDiv (s.elemCount c) perD
  let recs := s.countRecords c d.n
  let total := nm + nd + ceilDiv recs.length perC
  if d.sent < nm then
    let lo := d.sent * perM
    let cnt := min perM (groups - lo)
    let a := s.chaffHalf c d.n + lo
    let flags := s.allMarks c d.n ||| (if s.hbmAnyBad a cnt then 1 else 0)
    (s.noteRead a cnt, (1, 4, flags, locator lo cnt 0, s.hbmBytes a cnt), total)
  else if d.sent < nm + nd then
    let lo := (d.sent - nm) * perD
    let cnt := min perD (s.elemCount c - lo)
    let es := (List.range cnt).map fun i => lo + i
    let s := s.dumpRead c d.n lo cnt
    let g0 := s.elemGroup c lo
    let gs := (List.range (s.elemGroup c (lo + cnt - 1) - g0 + 1)).map fun i => g0 + i
    let flags := gs.foldl (fun a g => a ||| s.markByte c d.n g) 0
    (s, (0, if s.ctxCplx c then 0 else 1, flags, locator lo cnt 0,
      es.flatMap fun e => (s.elemOut c d.n e).flatMap fun v => beBytes 4 v), total)
  else
    let lo := (d.sent - nm - nd) * perC
    let part := (recs.drop lo).take perC
    let b0 := if lo = 0 then 0 else (part.headD (0, 0, 0, 0)).1
    let b1 := if recs.length ≤ lo + perC then 2 ^ s.fget (HUSK_DCFG_ChaffBits c) - 1 else (part.getLastD (0, 0, 0, 0)).1
    let r := s.countRead c d.n b0 b1 part
    (r.1, (2, 5, r.1.allMarks c d.n ||| (if r.2 then 1 else 0), locator lo part.length 0,
      part.flatMap fun r => beBytes 4 r.2.2.1 ++ beBytes 2 r.2.1 ++ beBytes 2 0 ++ beBytes 4 r.2.2.2), total)

/-- One packet of a TOPK interval (R170). -/
def State.setsPacket (s : State) (c : Nat) (d : Dump) : (Nat × Nat × Nat × List Byte × List Byte) × Nat :=
  let k := s.fget (HUSK_DTOPK_KMinus1 c)
  let per := fitCount (s.pktRoom c) (24 + 16 * k)
  let lo := d.sent * per
  let part := (d.sets.drop lo).take per
  ((3, 6, part.foldl (fun a x => a ||| x.2) 0, locator lo part.length (k * 2 ^ 24), part.flatMap fun x => x.1),
    ceilDiv d.sets.length per)

/-! ## The end of an interval (R140, R359, R360) -/

def State.setDumps (s : State) (c : Nat) (l : List Dump) : State :=
  { s with husk := { s.husk with dumps := tset [] s.husk.dumps c l } }

/-- Packets of a dump or a TOPK interval. -/
def State.pktTotal (s : State) (c : Nat) (d : Dump) : Nat :=
  if s.ctxKind c = 5 then (s.setsPacket c d).2 else (s.dumpPacket c d).2.2

/-- The next packet of a spilling or TOPK interval. -/
def State.sendDump (s : State) (c : Nat) (d : Dump) (rest : List Dump) : State :=
  let r := if s.ctxKind c = 5 then (s, s.setsPacket c d) else s.dumpPacket c d
  let (ty, fmt, flags, loc, body) := r.2.1
  let last := decide (r.2.2 ≤ d.sent + 1)
  let m := r.1.egressMark (flags % 32)
  let nx := if s.ctxKind c = 5 then s.ctxNx (s.fget (HUSK_DTOPK_Source c)) else s.ctxNx c
  let out := m.1.sendPacket c d.n d.sent last
    (s.pktBytes ⟨c, d.n, d.sent, d.frame, d.tai.1, d.count, d.epoch, last⟩ ty fmt m.2 nx loc body)
  let d := { d with sent := d.sent + 1, flags := d.flags ||| m.2, dropped := d.dropped || out.2 }
  if last && decide (s.ctxKind c = 5) then
    (out.1.intervalEnd c d.flags d.dropped d.tai).setDumps c rest
  else out.1.setDumps c (d :: rest)

/-- The next packet of a VOLT context: whole frames of its oldest block (R132, R168). -/
def State.sendVolt (s : State) (c : Nat) (b : VoltBlock) (rest : List VoltBlock) : State :=
  let (q, f0, lost, acc) := tget (0, 0, false, 0) s.husk.voltPos c
  let per := fitCount (s.pktRoom c) ((b.frames.headD []).length)
  let part := (b.frames.drop f0).take per
  let whole := decide (b.frames.length ≤ f0 + per)
  let last := whole && b.last
  let n := b.win - b.k0
  let frame := s.winStart (s.ctxStream c) b.win
  let m := s.egressMark b.marks
  let fmt := s.fget (HUSK_DAUX_VoltFormat c)
  let loc := beBytes 2 b.g ++ beBytes 2 b.beam0 ++ beBytes 2 (b.frame0 + f0) ++ beBytes 2 part.length ++
    beBytes 4 (32 * 2 ^ 24)
  let out := m.1.sendPacket c n q last
    (s.pktBytes ⟨c, n, q, frame, b.tai.1, b.deficit, b.epoch, last⟩ 0 (fmt + 1) m.2 (s.ctxBeams c) loc
      part.flatten)
  let s := out.1
  let pos := (q + 1, if whole then 0 else f0 + per, lost || out.2, acc ||| m.2)
  let s := { s with husk := { s.husk with
    volt := tset [] s.husk.volt c (if whole then rest else b :: rest)
    voltPos := tset (0, 0, false, 0) s.husk.voltPos c (if last then (0, 0, false, 0) else pos) } }
  if last then s.intervalEnd c pos.2.2.2 pos.2.2.1 b.tai else s

/-- The crossing to a lane that an Ethernet destination of context c may send on is held (class 2 of R292, R296). -/
def State.txHeld (s : State) (c : Nat) : Bool :=
  let d := s.fget (CTX_DEST_Dest c)
  !s.flag (EGR_DCTRL_Kind d) && (List.range 8).any fun p =>
    s.fget (EGR_DCTRL_Ports d) / 2 ^ p % 2 = 1 && (s.portLane p).any fun l => s.xIsHeld 2 l

/-- PACKET_SEND (R174): the packer forms and sends the next packet of context c. It waits while the spill or a lane it may take
stands behind a held crossing. -/
def execPacketSend (c : Nat) (s : State) : Host.Outcome State Fault Refusal :=
  reply (4096 ≤ c) <|
    if !s.isRun || !s.ctxEmit c || s.unitInReset 18 || s.unitInReset 19 || s.hbmHeld || s.txHeld c then s
    else if s.ctxKind c = 2 then
      match tget [] s.husk.volt c with
      | b :: rest => (s.sendVolt c b rest)
      | [] => s
    else
      match tget [] s.husk.dumps c with
      | d :: rest => (if d.sent < s.pktTotal c d then s.sendDump c d rest else s)
      | [] => s

/-! ## The top-k unit (R143 to R145) -/

/-- Linear position of an entry in source context o (R144). -/
def State.topLin (s : State) (o : Nat) (e : TopEnt) : Int :=
  (e.x : Int) * (4 * s.ctxGroups o) + ((e.chan : Int) - s.groupChan (s.ctxFirst o))

/-- a ranks above b. -/
def State.topAbove (s : State) (o : Nat) (a b : TopEnt) : Bool :=
  if fRank a.value ≠ fRank b.value then decide (fRank b.value < fRank a.value)
  else if s.topLin o a ≠ s.topLin o b then decide (s.topLin o a < s.topLin o b)
  else decide (a.off < b.off)

/-- A candidate in rank order. -/
def topInsert (above : TopEnt → TopEnt → Bool) (e : TopEnt) : List TopEnt → List TopEnt
  | [] => [e]
  | x :: t => if above e x then e :: x :: t else x :: topInsert above e t

/-- A set sees a candidate (R144). -/
def State.topSee (s : State) (o set k : Nat) (e : TopEnt) : State :=
  let l := tget [] s.husk.top set
  let put := fun (s : State) => { s with husk := { s.husk with
    top := tset [] s.husk.top set ((topInsert (s.topAbove o) e l).take k) } }
  if l.length < k then put s
  else
    match l.getLast? with
    | some w => if s.topAbove o e w then (put s).pmc 276 1 else s
    | none => s

/-- The values of a dump of c enter the sets of the watching context t (R143, R145). -/
def State.topFeed (s : State) (c : Nat) (d : Dump) (t : Nat) (off : Nat) : State :=
  let k := s.fget (HUSK_DTOPK_KMinus1 t) + 1
  let base := s.fget (HUSK_DTOPK_SetBase t)
  let nx := s.ctxNx c
  s.each (List.range (s.elemCount c)) fun s e =>
    let g := e / (4 * nx)
    let x := e / 4 % nx
    if s.ctxKind c = 4 ∧ x % 4 ≠ 0 then s
    else
      let set := if s.flag (HUSK_DTOPK_PerIndex t) then base + x else base
      let m := s.markByte c d.n g % 2 + 8 * (s.markByte c d.n g / 8 % 2)
      let s := { s with husk := { s.husk with topMarks := tmod 0 s.husk.topMarks set fun a => a ||| m } }
      s.topSee c set k ⟨(s.elemOut c d.n e).headD 0, s.groupChan (s.ctxFirst c) + 4 * g + e % 4, x, off⟩

/-- A set as it is sent (R170). -/
def topBytes (k x marks : Nat) (l : List TopEnt) : List Byte :=
  beBytes 4 x ++ [BitVec.ofNat 8 marks, 0, 0, 0] ++
    (l.flatMap fun e => beBytes 4 e.value ++ beBytes 2 e.chan ++ beBytes 2 e.off ++ beBytes 4 e.x ++ [0x80, 0, 0, 0]) ++
    List.replicate (16 * (k - l.length)) 0

/-- A watch integration ends: its sets are emitted and emptied (R145). -/
def State.watchEnd (s : State) (t c : Nat) (w : Watch) (epoch : Nat) : State :=
  let k := s.fget (HUSK_DTOPK_KMinus1 t) + 1
  let (b, n) := s.topSets t
  let sets := (List.range n).map fun i =>
    let m := tget 0 s.husk.topMarks (b + i)
    (topBytes k i m (tget [] s.husk.top (b + i)), m)
  let s := if s.ctxEmit t then
      s.addDump t ⟨w.m, 0, w.frame, s.ctxP c * s.ctxF c % 2 ^ 32, epoch, w.tai, 0, [], false, 0, [], sets⟩ else s
  let s := (s.topEmpty t).pmc 471 n
  let s := s.modCtx t fun x => { x with restarted := false }
  { s with husk := { s.husk with watch := tset none s.husk.watch t (some ⟨w.m + 1, 0, 0, (0, 0)⟩) } }

/-- A TOPK context has seen the whole dump (R143, R161). -/
def State.watchSee (s : State) (c : Nat) (d : Dump) (t : Nat) : State :=
  match tget none s.husk.watch t with
  | some w =>
    if s.ctxState t = 3 then
      let s := s.topFeed c d t w.seen
      let w := if w.seen = 0 then { w with frame := d.frame, tai := d.tai } else w
      let w := { w with seen := w.seen + 1, tai := (w.tai.1, d.tai.2) }
      if s.ctxP t ≤ w.seen then s.watchEnd t c w d.epoch
      else { s with husk := { s.husk with watch := tset none s.husk.watch t (some w) } }
    else s
  | none => s

/-- DUMP_END (R140): every packet has left, or none is formed (R171). -/
def execDumpEnd (c : Nat) (s : State) : Host.Outcome State Fault Refusal :=
  reply (4096 ≤ c) <|
    match tget [] s.husk.dumps c with
      | [] => s
      | d :: rest =>
        if s.ctxKind c = 5 || !s.isRun || s.unitInReset 18 || (s.ctxEmit c && decide (d.sent < s.pktTotal c d)) then s
        else
          let s := if s.ctxEmit c then s else s.dumpRead c d.n 0 (s.elemCount c)
          let s := ((s.inc HUSK_DUMPS).pmc 273 1).pmc 274 (s.elemCount c)
          let s := s.each d.watch fun s t => s.watchSee c d t
          let s := if s.ctxEmit c then s.intervalEnd c d.flags d.dropped d.tai else s
          s.setDumps c rest

/-! ## The end of DRAINING (R157) and the automatic restart (R159) -/

/-- The window being applied will be complete with the drains that have been delivered. -/
def State.windowDue (s : State) (c : Nat) : Bool :=
  match s.huskCtx c with
  | none => false
  | some h =>
    let here := (s.husk.held.flatMap (·.2)).filterMap fun d =>
      match d.bank.pg with
      | some pg => if d.ctx = some c ∧ pg.k = h.win then some (pg.g - s.ctxFirst c) else none
      | none => none
    (List.range (s.ctxGroups c)).all fun q =>
      decide (s.fget (HUSK_DAUX_DrainsPerPgMinus1 c) < tget 0 h.arrived q + (here.filter (· = q)).length)

/-- Drains of c that the Husk still has to deal with: those that no hold keeps back, and those that wait for an entry of the power
stage in a window whose drains have all come (R129, R157). -/
def State.drainsLeft (s : State) (c : Nat) : Bool :=
  (List.range 8).any fun n => (tget [] s.husk.held n).any fun d =>
    decide (d.ctx = some c) && (!(s.verdict n d).holds || (decide (s.verdict n d = .stage) && s.windowDue c))

/-- Packets of c's complete intervals that have not left. -/
def State.emitLeft (s : State) (c : Nat) : Bool :=
  !(tget [] s.husk.dumps c).isEmpty ||
    match s.huskCtx c with
    | some h => (tget [] s.husk.volt c).any fun b => decide (b.win < h.win)
    | none => !(tget [] s.husk.volt c).isEmpty

/-- DRAINING_DONE (R157, R151). -/
def execDrainingDone (c : Nat) (s : State) : Host.Outcome State Fault Refusal :=
  reply (4096 ≤ c) <|
    if s.ctxState c = 4 ∧ s.tileStopped c = true ∧ s.drainsLeft c = false ∧ s.emitLeft c = false then
      (((s.reloadMark c).huskDiscard c).ctxStopped c).leadRelease
    else if s.ctxState c = 5 ∧ (s.ctx c).stop = true ∧ s.tileStopped c = true then (s.ctxStopped c).leadRelease
    else s

/-- The restart of R159 is admitted. -/
def State.mayRestart (s : State) (c : Nat) : Bool :=
  let cause := s.fget (CTX_STATE_FaultCause c)
  decide (s.ctxState c = 5) && s.flag (CTX_CFG_AutoRestart c) && s.tileStopped c && decide (cause ≠ 0x09) &&
    decide (cause ≠ 0x20) && !(s.ctx c).restarted && !(s.ctx c).stop

/-- AUTO_RESTART (R159). -/
def execAutoRestart (c : Nat) (s : State) : Host.Outcome State Fault Refusal :=
  reply (4096 ≤ c) <|
    if s.mayRestart c then
      let code := s.startCode c true true
      if code = 0 then
        let n := s.fget (CTX_STATE_RestartCount c)
        let s := s.fset (CTX_STATE_RestartCount c) (min 255 (n + 1));
        ((s.ctxArm c true (s.ctx c).loss true).pmc 467 1)
      else
        let s := (s.when (decide (code = 4)) fun s => s.fset HUSK_STATUS_ConfigErr 1).modCtx c
          fun x => { x with restarted := true };
        ((s.fset (CTX_STATE_LastRefusal c) code).pmc 465 1)
    else s

end Sys2Proof.Machine
end

