-- ==== Sys2Proof/Machine/RegAccess.lean ====
section
/-! DEFINITION. What a register write does to a register's own bits by the access codes of R13, the shadows of R17, and
the pulse crossings and flags of class 10 (R292, R293, R426). -/

namespace Sys2Proof.Machine

/-- One field of a word after a write of v (R13); a locked RWL field keeps its value (R15). -/
def FieldSpec.written (f : FieldSpec) (open' : Bool) (v old : BitVec 32) : BitVec 32 :=
  let m : BitVec 32 := BitVec.ofNat 32 (2 ^ f.width - 1) <<< f.lo
  match f.acc with
  | .rw => (old &&& ~~~m) ||| (v &&& m)
  | .rwl => if open' then (old &&& ~~~m) ||| (v &&& m) else old
  | .w1c => old &&& ~~~(v &&& m)
  | .ro => old
  | .wo => old

/-- The word of row r after a write. -/
def RegRow.written (r : RegRow) (open' : Bool) (v old : BitVec 32) : BitVec 32 :=
  r.fields.foldl (fun w f => f.written open' v w) old

/-- A write with no effect beyond the register's bits. -/
def State.putReg (s : State) (a : Nat) (open' : Bool) (v : BitVec 32) : State :=
  match findRow a with
  | some (r, _) => s.setReg a (r.written open' v (s.reg a))
  | none => s

/-- The host bridge's shadow of an upper word (R17). -/
def State.setShadow (s : State) (a : Nat) (v : BitVec 32) : State :=
  { s with shadow := tset (regReset a) s.shadow a v }

/-! ## Crossing flags and pulses (R293, R296) -/

/-- MTX_XSTAT of class k: Overrun or Lost becomes set; FirstInstance where both were clear. -/
def State.xFlag (s : State) (k inst : Nat) (overrun : Bool) : State :=
  let s := if s.flag (MTX_XSTAT_Overrun k) || s.flag (MTX_XSTAT_Lost k) then s
    else s.fset (MTX_XSTAT_FirstInstance k) inst
  s.fset (if overrun then MTX_XSTAT_Overrun k else MTX_XSTAT_Lost k) 1

/-- Items of class k discarded (R296). -/
def State.xDiscard (s : State) (k n : Nat) : State := s.incBy (MTX_XDISC k) n

/-- A pulse is sent on instance i of class 10: 0 SYNC, 1 snapshot, 2 freeze, 3 thaw. One that meets a pending pulse
merges and sets Overrun (R293); a SYNC event in STANDBY is discarded (R426). -/
def State.pulseSend (s : State) (i : Nat) : State :=
  if i = 0 ∧ s.pwrState ≤ 1 then s
  else if s.xIsHeld 10 i then s.xDiscard 10 1
  else if tget 0 s.mtx.pulse i ≠ 0 then s.xFlag 10 i true
  else { s with mtx := { s.mtx with pulse := tset 0 s.mtx.pulse i (s.time / 2 ^ 48 % 2 ^ 80 + 1) } }

/-- The pulse has reached its receiver. -/
def State.pulseTake (s : State) (i : Nat) : State :=
  { s with mtx := { s.mtx with pulse := tset 0 s.mtx.pulse i 0 } }

end Sys2Proof.Machine
end

