-- ==== Sys2Proof/Machine/Matrix.lean ====
section
/-! DEFINITION. The on-chip matrix: targets (R280 to R282), order, credits (R284 to R288), initiator reset and unit reset
(R289, R290, R318); the crossings' reset handshake (R296, R297). -/

namespace Sys2Proof.Machine

/-! ## Targets (R280 to R282) -/

/-- Target ports an initiator may address (R280). -/
def mayAddress (i t : Nat) : Bool :=
  if i ≤ 15 then decide (t = 27)
  else if i = 16 then decide (t ≤ 23)
  else if i = 17 then decide (t ≤ 24)
  else if i = 18 then decide (t ≤ 23) || decide (t = 25)
  else if i = 19 then decide (t = 27) || decide (t = 25)
  else if i = 20 then decide (t ≤ 23)
  else if i = 21 then decide (t ≤ 27)
  else if i = 22 then decide (t ≤ 23) || decide (t = 26) || decide (t = 27)
  else decide (t = 26)

/-- A register-space offset of the context table: CTX entries and the path store (R282). -/
def isCtxTable (r : Nat) : Bool :=
  (decide (0x900000 ≤ r) && decide (r < 0x940000)) || (decide (0x980000 ≤ r) && decide (r < 0x9A0000))

/-- The target port of a matrix address (R282). -/
def State.mtxTarget (s : State) (a : Nat) : Option Nat :=
  if a < 0x4000000000 then some (if s.hbmIn a then s.hbmPc a / 8 else 0)
  else if 0x4000000000 ≤ a ∧ a < 0x4010000000 then some 24
  else if 0x8000000000 ≤ a ∧ a < 0x8010000000 then some (if isCtxTable (a - 0x8000000000) then 25 else 26)
  else if 0xA000000000 ≤ a ∧ a < 0xA001000000 then some 27
  else none

/-- Request credits of a target port (R281). -/
def targetCredits (t : Nat) : Nat :=
  if t ≤ 23 then 64 else if t = 24 then 32 else if t = 25 then 8 else if t = 26 then 4 else 32

/-- Widths of the initiator and target ports (R280, R281). -/
def portWidth (i : Nat) : Nat := if i = 16 ∨ i = 19 then 4 else if i = 17 then 8 else if i = 18 then 24 else 1

def targetWidth (t : Nat) : Nat := if t ≤ 23 then 4 else if t = 24 ∨ t = 27 then 8 else 1

/-- A transaction has the form of R283. -/
def burstOk (a beats : Nat) : Bool :=
  decide (1 ≤ beats) && decide (beats ≤ 64) && decide (a % 64 = 0) && decide (a < 2 ^ 40) &&
    decide (a % 4096 + 64 * beats ≤ 4096) &&
    (decide (0x4000000000 ≤ a) || (decide (beats ≤ 4) && decide (a % 256 + 64 * beats ≤ 256)))

/-! ## Outstanding transactions (R284, R285, R287) -/

def State.mtxOut (s : State) (i : Nat) : List MtxTxn := tget [] s.mtx.out i

/-- MTX_PSTAT.Outstanding follows the port. -/
def State.setMtxOut (s : State) (i : Nat) (l : List MtxTxn) : State :=
  { s.fset (MTX_PSTAT_Outstanding i) l.length with mtx := { s.mtx with out := tset [] s.mtx.out i l } }

def State.fencedIds (s : State) (i : Nat) : List Nat := tget [] s.mtx.fenced i

def State.setFenced (s : State) (i : Nat) (l : List Nat) : State :=
  { s.fset (MTX_PSTAT_Fenced i) l.length with mtx := { s.mtx with fenced := tset [] s.mtx.fenced i l } }

def State.portState (s : State) (i : Nat) : Nat := s.fget (MTX_PSTAT_State i)

/-- Transactions outstanding at a target. -/
def State.targetUse (s : State) (t : Nat) : Nat :=
  ((List.range 24).map fun i => ((s.mtxOut i).filter fun x => x.target = t).length).foldl (· + ·) 0

/-- A request obtains a credit of its target now (R287). -/
def State.creditGrant (s : State) (i t : Nat) : Bool :=
  let free := targetCredits t - s.targetUse t
  let q := tget [] s.mtx.wait t
  decide (2 ≤ free) || (decide (free = 1) && (q.isEmpty || decide (q.head? = some i)))

def State.setWait (s : State) (t : Nat) (q : List Nat) : State :=
  { s with mtx := { s.mtx with wait := tset [] s.mtx.wait t q } }

/-- Why a request is held at its port this cycle: the counter it adds to; none where it is accepted (R284, R285, R287). -/
def State.mtxHold (s : State) (i id t : Nat) : Option Nat :=
  if 128 ≤ (s.mtxOut i).length then some (MTX_OSTALL i)
  else if (s.mtxOut i).any fun x => decide (x.id = id) && decide (x.target ≠ t) then some (MTX_ORDHOLD i)
  else if t < 32 && !s.creditGrant i t then some (MTX_CREDHOLD i)
  else none

/-- n held cycles (R284, R285, R287, R380). -/
def State.mtxHeld (s : State) (i t c n : Nat) : State :=
  let q := tget [] s.mtx.wait t
  let s := (s.incBy c n).pmc (432 + i) n
  if c = MTX_CREDHOLD i && !q.contains i then s.setWait t (q ++ [i]) else s

/-- The transaction is accepted: it is outstanding. -/
def State.mtxAccept (s : State) (i : Nat) (x : MtxTxn) : State :=
  (s.setMtxOut i (s.mtxOut i ++ [x])).setWait x.target ((tget [] s.mtx.wait x.target).filter (· ≠ i))

def State.portQ (s : State) (i : Nat) : List MtxReq := tget [] s.mtx.port i

def State.setPort (s : State) (i : Nat) (l : List MtxReq) : State := { s with mtx := { s.mtx with port := tset [] s.mtx.port i l } }

def State.ungrantedAt (s : State) (t : Nat) : List (Nat × MtxReq) := tget [] s.mtx.ungranted t

def State.setUngranted (s : State) (t : Nat) (l : List (Nat × MtxReq)) : State :=
  { s with mtx := { s.mtx with ungranted := tset [] s.mtx.ungranted t l } }

def State.burstsAt (s : State) (t : Nat) : List MtxBurst := tget [] s.mtx.bursts t

def State.setBursts (s : State) (t : Nat) (l : List MtxBurst) : State :=
  { s with mtx := { s.mtx with bursts := tset [] s.mtx.bursts t l } }

/-- The target port a request of initiator i finds; 32 where it is answered DECODE_ERR (R282). -/
def State.reqTarget (s : State) (i a : Nat) : Nat := ((s.mtxTarget a).filter (mayAddress i)).getD 32

/-- DECODE_ERR (R282). -/
def State.decodeErr (s : State) (i a : Nat) : State :=
  let s := (s.inc (MTX_DECERR i)).setReg MTX_DECLO (BitVec.ofNat 32 a)
  let s := (s.fset MTX_DECHI_Initiator i).fset MTX_DECHI_AddrHigh (a / 2 ^ 32)
  (s.fset MTX_STATUS_DecodeErr 1).log 7 0 i (a % 2 ^ 32)

/-! ## Initiator and unit reset (R289, R290, R318) -/

/-- The initiator of GLB_URESET bit u. -/
def unitPort (u : Nat) : Nat := if u ≤ 20 then u else u + 1

/-- The GLB_URESET bit of an initiator; the host bridge has none. -/
def portUnit (i : Nat) : Option Nat := if i ≤ 20 then some i else if i = 21 then none else some (i - 1)

/-- The unit leaves reset: QUIESCED, and its request has ended. -/
def State.unitLeave (s : State) (u : Nat) : State :=
  let i := unitPort u
  if s.portState i = 2 && !(s.reg GLB_URESET).getLsbD u then
    (s.fset (MTX_PSTAT_State i) 0).setReg GLB_URSTAT (s.reg GLB_URSTAT &&& ~~~(1#32 <<< u))
  else s

def State.unitLeavePort (s : State) (i : Nat) : State :=
  match portUnit i with
  | some u => s.unitLeave u
  | none => s

/-- A quiescing port with nothing outstanding is QUIESCED (R289). -/
def State.portSettle (s : State) (i : Nat) : State :=
  if s.portState i = 1 && (s.mtxOut i).isEmpty then (s.fset (MTX_PSTAT_State i) 2).unitLeavePort i else s

/-- The list without its first element equal to x. -/
def eraseTxn (x : MtxTxn) : List MtxTxn → List MtxTxn
  | [] => []
  | y :: t => if y = x then t else y :: eraseTxn x t

/-- Requests at the head of initiator i's port are accepted while nothing holds them (R284, R285, R287): each then waits for its
target's grant, or is answered DECODE_ERR. The first argument bounds their number. -/
def State.portAccept : Nat → Nat → State → State
  | 0, _, s => s
  | n + 1, i, s =>
    match s.portQ i with
    | [] => s
    | r :: rest =>
      let t := s.reqTarget i r.addr
      match s.mtxHold i r.id t with
      | some c => if c = MTX_CREDHOLD i then s.mtxHeld i t c 0 else s
      | none =>
        let zeros := if r.write.isSome then 0 else 64 * r.beats
        let x : MtxTxn := ⟨r.id, t, r.write.isSome, if t = 32 then .done else .accepted,
          if t = 32 then List.replicate zeros 0 else [], if t = 32 then List.replicate zeros false else []⟩
        let s := (s.setPort i rest).mtxAccept i x
        State.portAccept n i (if t = 32 then s.decodeErr i r.addr else s.setUngranted t (s.ungrantedAt t ++ [(i, r)]))

/-- The ports that wait are looked at again: the longest waiting for target t first, then port i. -/
def State.portsRetry (s : State) (t i : Nat) : State :=
  s.each (tget [] s.mtx.wait t ++ [i]) fun s p => State.portAccept (s.portQ p).length p s

/-- MATRIX_RESPONSE (R285, R289, R290): nothing returns before the oldest transaction of the ID is done. -/
def execMatrixResponse (i id : Nat) (s : State) : Host.Outcome State Fault Refusal :=
  reply (24 ≤ i ∨ 32 ≤ id) <|
    match (s.mtxOut i).find? fun x => x.id = id with
      | none => s
      | some x =>
        if x.stage ≠ .done then s
        else
          let rest := eraseTxn x (s.mtxOut i)
          let s := (s.setMtxOut i rest).portsRetry x.target i
          if (s.fencedIds i).contains id then
            (if rest.any fun y => y.id = id then s else s.setFenced i ((s.fencedIds i).filter (· ≠ id)))
          else if s.portState i = 1 then (s.portSettle i)
          else (s.emit (.matrix i id x.bytes x.bad (decide (x.target = 32))))

/-! ## What stands in the crossings (R292, R295, R296) -/

/-- Instances of a crossing class (R292); class 12 has one for each of R380's events of a clock other than MCLK, ascending. -/
def xInstances (k : Nat) : Nat :=
  match k with
  | 0 => 96 | 1 => 96 | 2 => 96 | 3 => 16 | 4 => 24 | 5 => 1 | 6 => 64 | 7 => 8 | 8 => 1 | 9 => 102 | 10 => 4 | 11 => 1
  | 12 => 403 | 13 => 96 | _ => 0

/-- The spectrum frames of engine e that are complete, oldest first: their words cross to the Hull. -/
def State.pendReady (s : State) (e : Nat) : List EngFrame → List EngFrame
  | [] => []
  | f :: fs => if s.frameComplete e f.j fs.length then f :: s.pendReady e fs else []

/-- 64-byte words of a frame of engine e. -/
def State.frameWords (s : State) (e : Nat) (f : EngFrame) : Nat :=
  ceilDiv ((f.slots.map fun x => x.data.length).foldl (· + ·) 0 * fmtBytes (s.fchFormat e)) 64

/-- Words of engine e's frames that stand in its crossing: at most 64, the rest being in the engine's output buffers (R292). -/
def State.pendWords (s : State) (e : Nat) : Nat :=
  min 64 (((s.pendReady e (tget [] s.fch.pend e)).map (s.frameWords e)).foldl (· + ·) 0)

/-- The frames left where n words at the head of the list are discarded: a frame that loses a word is lost. -/
def State.dropWords (s : State) (e : Nat) : Nat → List EngFrame → List EngFrame
  | 0, l => l
  | _, [] => []
  | n + 1, f :: fs => s.dropWords e (n + 1 - max 1 (s.frameWords e f)) fs

/-- The target port behind a crossing of class 4, 5 or 8. -/
def xTarget (k n : Nat) : Nat := if k = 4 then n else if k = 5 then 24 else 26

/-- Beats of granted write bursts that have not passed at target t, and beats of its responses that have not returned. -/
def State.beatsIn (s : State) (t : Nat) : Nat := ((s.burstsAt t).map MtxBurst.left).foldl (· + ·) 0

def State.beatsOut (s : State) (t : Nat) : Nat :=
  (((List.range 24).flatMap s.mtxOut).filter fun x => decide (x.target = t) && decide (x.stage = .done)).foldl
    (fun a x => a + max 1 (x.bytes.length / 64)) 0

/-- Items that stand in a crossing: words of a lane's received frames, words of an engine's frames and its anchor indices, beats and
responses of a target port, values of a Husk lane, a pulse, scheduled actions. -/
def State.xItems (s : State) (k n : Nat) : Nat :=
  match k with
  | 0 => if s.fget (LN_CFG_Mode n) = 1 then min 32 (s.rxWords n) else 0
  | 1 => if s.fget (LN_CFG_Mode n) = 2 then min 32 (s.rxWords n) else 0
  | 3 => s.pendWords n + (s.hull.tagq.filter fun x => decide (x.1 = n)).length
  | 4 | 5 | 8 => s.beatsIn (xTarget k n) + s.beatsOut (xTarget k n)
  | 7 => min 16384 (s.frontUsed n)
  | 10 => if tget 0 s.mtx.pulse n ≠ 0 then 1 else 0
  | 11 => (s.ctxs.queue.filter CtxCmd.sched).length
  | _ => 0

/-- The beats at target t and its responses are gone: their transactions stay outstanding. -/
def State.targetEmpty (s : State) (t : Nat) : State :=
  (s.setBursts t []).each (List.range 24) fun s i => s.setMtxOut i ((s.mtxOut i).map fun x =>
    if x.target = t ∧ x.stage = .done then { x with stage := .granted, bytes := [], bad := [] } else x)

/-- They are discarded. Of a drain under way the steps that had left are, so that it does not emerge (R32). -/
def State.xEmpty (s : State) (k n : Nat) : State :=
  match k with
  | 0 => if s.fget (LN_CFG_Mode n) = 1 then { s with ln := { s.ln with rxq := tset [] s.ln.rxq n [] } } else s
  | 1 => if s.fget (LN_CFG_Mode n) = 2 then { s with ln := { s.ln with rxq := tset [] s.ln.rxq n [] } } else s
  | 3 => { s with
      fch := { s.fch with pend := tmod [] s.fch.pend n fun q => s.dropWords n (s.pendWords n) q }
      hull := { s.hull with tagq := s.hull.tagq.filter fun x => decide (x.1 ≠ n) } }
  | 4 | 5 | 8 => s.targetEmpty (xTarget k n)
  | 7 => { s with husk := { s.husk with
      held := tset [] s.husk.held n []
      took := (s.underWay n).foldl (fun t d => tset 0 t d.pod d.steps) s.husk.took
      lost := (s.underWay n).foldl (fun t d => if 0 < d.steps then tset 0 t d.pod 1 else t) s.husk.lost } }
  | 10 => s.pulseTake n
  | 11 => { s with ctxs := { s.ctxs with queue := s.ctxs.queue.filter fun x => !x.sched } }
  | _ => s

/-- The items of a crossing are discarded; a running side counts them (R296, R297). -/
def State.xClear (s : State) (k n : Nat) (counted : Bool) : State :=
  (s.xDiscard k (if counted then s.xItems k n else 0)).xEmpty k n

/-- The units of GLB_URESET at a crossing's ends, where R280 and R292 name one. -/
def State.xUnits (s : State) (k n : Nat) : List Nat :=
  match k with
  | 1 => [21]
  | 2 => if s.fget (LN_CFG_Mode n) = 2 then [21] else if s.fget (LN_CFG_Mode n) = 3 then [19] else []
  | 3 => [n, 16]
  | 7 => [18]
  | _ => []

/-- First frames of the intervals of context c that a reset of the Husk (18) or of the egress packer (19) discards: dumps
under way, voltage windows not sent in full, integrations of which the Husk holds drains or power sums, and watch integrations that
have seen a dump (R318, R359). -/
def State.discardedBy (s : State) (u c : Nat) : List Nat :=
  let sent := (tget [] s.husk.dumps c).map (·.frame) ++
    (tget [] s.husk.volt c).map fun b => s.winStart (s.ctxStream c) b.win
  let open' := match s.huskCtx c with
    | some h =>
      let first := fun w => s.intervalFrame c h.k0 (h.integ (s.ctxP c) w)
      let drains := (s.husk.held.flatMap (·.2)).filterMap fun d =>
        match d.bank.pg with
        | some pg => if d.ctx = some c ∧ h.win ≤ pg.k then some (first pg.k) else none
        | none => none
      let sums := if s.husk.power.any fun e => decide (powerCtx e.1 = c) then [first h.win] else []
      drains ++ sums
    | none =>
      match tget none s.husk.watch c with
      | some w => if 0 < w.seen then [w.frame] else []
      | none => []
  (if u = 18 then sent ++ open' else sent).eraseDups

/-- They are reported lost, for the RUNNING contexts with Emit 1 (R35, R359 cause 4). -/
def State.discardReport (s : State) (u : Nat) : State :=
  s.each (s.liveCtxs.filter fun c => decide (s.ctxState c = 3) && s.ctxEmit c) fun s c =>
    s.each (s.discardedBy u c) fun s f => s.reportInterval c 4 f

/-- The working state of unit u is cleared; configuration registers and counters stay (R318). What stands in its own crossing is
discarded, and counted by the other side where that runs (R296). The pod program loader (20) keeps no state of its own here: a
fill is one event (log entry 291). -/
def State.unitClear (s : State) (u : Nat) : State :=
  if u ≤ 15 then
    let s := s.xClear 3 u (!s.unitInReset 16)
    let s : State := { s with fch := { s.fch with pend := tset [] s.fch.pend u [] } }
    (s.each (List.range 16) fun s p => s.setSlot u p SlotSt.idle).each (List.range 16) fun s p => s.slotActivate u p
  else if u = 16 then { s with hull := { s.hull with inq := [], track := [] } }
  else if u = 17 then { s with hull := { s.hull with staging := none } }
  else if u = 18 then
    let s := (s.discardReport 18).each (List.range 8) fun s n => s.xClear 7 n true
    { s with husk := { s.husk with
        held := [], power := [], dumps := [], volt := [], voltPos := [], top := [], topMarks := [], watch := [], parity := [] } }
  else if u = 19 then
    let s := s.discardReport 19
    { s with
      husk := { s.husk with dumps := [], volt := [], voltPos := [] }
      ctxs := { s.ctxs with products := [], egressBad := false, portBad := [] } }
  else if u = 21 then
    { s with
      shadowFab := []
      fab := { s.fab with mreadq := [], mrespq := [], seedq := [], seedackq := [], seedTx := [], seedLane := none, seedGot := 0, seedCount := 0 } }
  else if u = 22 then
    s.each (List.range 64) fun s p => s.modPod p fun x => { x with pipCount := 0, pipArmed := false, pip := none }
  else s

/-- The burst completer of port i: requests that no target has granted are withdrawn, and the beats left of its write bursts go
with their strobes off (R289). -/
def State.portQuiesce (s : State) (i : Nat) : State :=
  let s := (s.setPort i []).setMtxOut i ((s.mtxOut i).filter fun x => decide (x.stage ≠ .accepted))
  s.each (List.range 28) fun s t =>
    let s := s.setWait t ((tget [] s.mtx.wait t).filter (· ≠ i))
    let s := s.setUngranted t ((s.ungrantedAt t).filter fun x => decide (x.1 ≠ i))
    let s := s.setBursts t ((s.burstsAt t).map fun b => if b.init = i then { b with off := true } else b)
    s.portsRetry t i

/-- A bit of GLB_URESET becomes 1 (R289, R318). -/
def State.unitResetSet (s : State) (u : Nat) : State :=
  if (s.reg GLB_URESET).getLsbD u then s
  else
    let i := unitPort u
    let s := s.setReg GLB_URESET (s.reg GLB_URESET ||| (1#32 <<< u))
    let s := s.setReg GLB_URSTAT (s.reg GLB_URSTAT ||| (1#32 <<< u))
    let s := (s.unitClear u).fset (MTX_PSTAT_State i) 1
    (s.portQuiesce i).portSettle i

/-- A bit of GLB_URESET becomes 0 (R318). -/
def State.unitResetClear (s : State) (u : Nat) : State :=
  (s.setReg GLB_URESET (s.reg GLB_URESET &&& ~~~(1#32 <<< u))).unitLeave u

/-- UNIT_RESET (R318). -/
def execUnitReset (u : Nat) (s : State) : Host.Outcome State Fault Refusal :=
  reply (23 ≤ u) <|
    (s.hostWrite GLB_URESET fun s => s.unitResetSet u)

/-- UNIT_RESET_RELEASE (R318). -/
def execUnitResetRelease (u : Nat) (s : State) : Host.Outcome State Fault Refusal :=
  reply (23 ≤ u) <|
    (s.hostWrite GLB_URESET fun s => s.unitResetClear u)

/-- QUIESCED (R289). -/
def execQuiesced (i : Nat) (s : State) : Host.Outcome State Fault Refusal :=
  reply (24 ≤ i) <|
    (s.portSettle i)

/-- Distinct IDs outstanding, in order of first use. -/
def distinctIds : List MtxTxn → List Nat
  | [] => []
  | x :: t => x.id :: (distinctIds t).filter (· ≠ x.id)

/-- QUIESCE_TIMEOUT (R290). -/
def execQuiesceTimeout (i : Nat) (s : State) : Host.Outcome State Fault Refusal :=
  reply (24 ≤ i) <|
    if s.portState i = 1 then
      (((s.setFenced i (distinctIds (s.mtxOut i))).fset (MTX_PSTAT_State i) 2).unitLeavePort i)
    else s

/-! ## The reset handshake of crossings (R292, R296, R297) -/

def State.xHold (s : State) (k n v : Nat) : State :=
  { s with mtx := { s.mtx with xheld := tset 0 s.mtx.xheld (1024 * k + n) v } }

/-- PEER_RESET_SEEN (R296 step 2). With both sides in reset nothing is counted (R297); the part names both only in class 3. -/
def execPeerResetSeen (k inst : Nat) (s : State) : Host.Outcome State Fault Refusal :=
  reply (14 ≤ k ∨ xInstances k ≤ inst) <|
    if !s.awake then s
    else
      let s := (s.xClear k inst (decide (k ≠ 3) || !(s.xUnits k inst).all s.unitInReset)).xHold k inst 1
      if k = 12 ∨ k = 13 then s.xFlag k inst false else s

/-- PEER_READY_SEEN (R296 steps 4 and 5): not while a unit at either end is in reset (R297). -/
def execPeerReadySeen (k inst : Nat) (s : State) : Host.Outcome State Fault Refusal :=
  reply (14 ≤ k ∨ xInstances k ≤ inst) <|
    if (s.xUnits k inst).any s.unitInReset then s else s.xHold k inst 0

end Sys2Proof.Machine
end

