-- ==== Sys2Proof/Machine/Timing.lean ====
section
/-! DEFINITION. The timing block: reference inputs (R177 to R181), selection (R182 to R184), the drift monitor (R185),
the loop (R186 to R189), the time counter (R190 to R193), the calendar (R194), time-stamps (R197), and the VBAT
registers of the account (R362, R363). -/

namespace Sys2Proof.Machine

/-! ## Inputs 0 to 6 -/

def State.refState (s : State) (i : Nat) : Nat := s.fget (TMB_REFSTAT_State i)
def State.refRank (s : State) (i : Nat) : Nat := s.fget (TMB_REFCFG_Rank i)
/-- The offset last measured, in 0.01 ppb. -/
def State.refOffset (s : State) (i : Nat) : Int := tget 0 s.tim.offset i
/-- Loop state: 0 FREE_RUN, 1 ACQUIRING, 2 LOCKED, 3 HOLDOVER, 4 LOST. -/
def State.loopState (s : State) : Nat := s.fget TMB_STATUS_State
/-- Selected input; 7 none. -/
def State.selected (s : State) : Nat := s.fget TMB_STATUS_Selected

/-- An input enters a state other than WTR. -/
def State.setRef (s : State) (i st : Nat) : State := (s.fset (TMB_REFSTAT_State i) st).fset (TMB_REFSTAT_WtrLeft i) 0

/-- Loop bandwidth of an input in mHz (R177): by its code, or the default of its type. Reserved codes act as 0 (R20). -/
def State.refBw (s : State) (i : Nat) : Nat :=
  match s.fget (TMB_REFCFG_Bw i) with
  | 1 => 1
  | 2 => 10
  | 3 => 100
  | 4 => 1000
  | 5 => 10000
  | _ => if i = 6 then 10000 else if i = 4 ∨ i = 5 then 1 else if s.fget (TMB_REFCFG_Type i) = 2 then 1000 else 100

/-- The fabric-recovered input is in LOS (R179, R200): its lane gives no clock, is not in FABRIC mode, reports LOS or LOL,
or leads to a node that the fabric unit does not reach. -/
def State.fabInLos (s : State) : Bool :=
  let l := s.fget TMB_FABSEL_Lane
  decide (96 ≤ l) || !s.mclk || !s.flag (LN_CFG_Enable l) || decide (s.fget (LN_CFG_Mode l) ≠ 2) || s.flag (LN_STATUS_Los l) ||
    s.flag (LN_STATUS_Lol l) || (s.flag FAB_CTRL_Enable && !s.reachable (s.fget (FAB_LSTAT_PeerNode l)))

/-- An input enters WTR with its full time (R181). -/
def State.refWtr (s : State) (i : Nat) : State :=
  let s := (s.fset (TMB_REFSTAT_State i) 4).fset (TMB_REFSTAT_WtrLeft i) (max 1 (s.fget TMB_QUAL_WtrSec))
  { s with tim := { s.tim with wtr := tset 0 s.tim.wtr i 0 } }

/-- An input found good (R181). -/
def State.refGood (s : State) (i : Nat) : State :=
  if tget 0 s.tim.everQual i ≠ 0 then s.refWtr i else s.setRef i 5

/-! ## Selection (R182, R184) -/

def State.refDisagree (s : State) (a b : Nat) : Bool :=
  decide ((s.fget TMB_DISAGREE_Limit : Int) < (s.refOffset a - s.refOffset b).natAbs)

/-- TMB_SEL.ForceInput; the reserved code acts as 0 (R20). -/
def State.forceInput (s : State) : Nat := s.fget TMB_SEL_ForceInput % 7

/-- The first pair of a list that disagrees. -/
def State.firstPair (s : State) : List Nat → Option (Nat × Nat)
  | [] => none
  | a :: t =>
    match t.find? fun b => s.refDisagree a b with
    | some b => some (a, b)
    | none => s.firstPair t

/-- The input of best rank, the lowest code among equals. -/
def State.bestOf (s : State) : List Nat → Option Nat
  | [] => none
  | a :: t =>
    match s.bestOf t with
    | some b => if s.refRank b < s.refRank a then some b else some a
    | none => some a

/-- The selection: input or 7, and whether R184 applied. -/
def State.selectRef (s : State) : Nat × Bool :=
  let q := (List.range 7).filter fun i => decide (s.refState i = 5)
  let cur := s.selected
  if s.flag TMB_SEL_Force then (if q.contains s.forceInput then s.forceInput else 7, false)
  else
    match s.bestOf q with
    | none => (7, false)
    | some b =>
      let pair := s.firstPair (q.filter fun i => s.refRank i = s.refRank b)
      if q.contains cur && (!s.flag TMB_SEL_Revertive || decide (s.refRank cur = s.refRank b)) then
        (cur, pair.isSome || q.any fun i => decide (s.refRank i = s.refRank cur) && s.refDisagree i cur)
      else
        match pair with
        | none => (b, false)
        | some (x, y) =>
          match s.bestOf (q.filter fun i => decide (i ≠ x) && decide (i ≠ y)) with
          | none => (7, true)
          | some t =>
            let dx := (s.refOffset x - s.refOffset t).natAbs
            let dy := (s.refOffset y - s.refOffset t).natAbs
            (if dy < dx then y else x, true)

/-! ## The loop (R186 to R189) -/

/-- A status bit of TMB_STATUS becomes 1 and raises its cause (R312). -/
def State.tmbFlag (s : State) (f : Fld) (cause : Nat) : State := if s.flag f then s else (s.fset f 1).raise cause

/-- The loop changes state. -/
def State.loopTo (s : State) (st : Nat) : State :=
  if s.loopState = st then s
  else ((s.fset TMB_STATUS_State st).tmbFlag TMB_STATUS_StateChg 10).pmc 472 1

/-- Mean of a list; 0 of none. -/
def meanOf (l : List Int) : Int := l.foldl (· + ·) 0 / (max 1 l.length : Nat)

/-- The holdover model (R187): the mean loop frequency over the WindowSec seconds of lock that ended 10 s ago, over all the
lock where it has not lasted longer; without any lock since, the model in force. -/
def State.holdModel (s : State) : Int :=
  match s.tim.hist with
  | [] => s.tim.model
  | h => meanOf (if h.length ≤ 10 then h else (h.drop 10).take (max 1 (s.fget TMB_DRIFT_WindowSec)))

/-- The model takes the mean, and the lock's seconds begin anew. -/
def State.takeModel (s : State) : State := { s with tim := { s.tim with model := s.holdModel, hist := [] } }

/-- Clamp to the FreqOffset field. -/
def satOffset (v : Int) : Int := if v > 524287 then 524287 else if v < -524288 then -524288 else v

/-- An input's offset is v, which FreqOffset reports as far as the field goes (R180). -/
def State.setOffset (s : State) (i : Nat) (v : Int) : State :=
  { s with tim := { s.tim with offset := tset 0 s.tim.offset i v } }.fset (TMB_REFSTAT_FreqOffset i) (ofSigned 20 (satOffset v))

/-- The loop's frequency moves by d: the offsets of the measured inputs against ECLK move by -d. -/
def State.retune (s : State) (d : Int) : State :=
  { s with tim := { s.tim with freq := s.tim.freq + d } }.each ((List.range 7).filter fun i => decide (3 ≤ s.refState i))
    fun s i => s.setOffset i (s.refOffset i - d)

/-- The loop's frequency as its state goes from st to next with input n: from FREE_RUN it is set to the input's measured
offset (R188); in HOLDOVER it holds the model; in FREE_RUN it is that of XTAL_SYS (R187). -/
def State.loopTune (s : State) (st next n : Nat) : State :=
  if st = next then s
  else if next = 1 then (if st = 0 then s.retune (tget 0 s.tim.offset n) else if st = 2 then s.takeModel else s)
  else if next = 2 then { s with tim := { s.tim with hist := [], model := s.tim.freq } }
  else if next = 3 then { s.takeModel with tim := { s.takeModel.tim with freq := s.takeModel.tim.model } }
  else if next = 0 then { s with tim := { s.tim with freq := 0 } }
  else s

/-- Selection and then the loop state follow what the tick has changed (R183, R186). -/
def State.refSettle (s : State) : State :=
  let (n, dis) := s.selectRef
  let old := s.selected
  let st := s.loopState
  let failed := decide (old < 7) && decide (s.refState old ≠ 5)
  let s := s.when dis fun s => s.tmbFlag TMB_STATUS_RefDisagree 10
  let s := if n = old then s else
    let s := ((s.fset TMB_STATUS_Selected n).inc TMB_SWITCHES).pmc 473 1
    let off := if 7 ≤ n then s.tim.stored else if st = 0 then 0 else tget 0 s.tim.phase n
    { s with tim := { s.tim with lockCount := 0, stored := off, driftAcc := 0 } }
  let next :=
    if n < 7 then
      (if n = old ∧ st = 2 ∨ n = old ∧ st = 1 ∧ 10 ≤ s.tim.lockCount then 2 else 1)
    else if st = 1 then (if s.flag TMB_STATUS_HistoryValid then 3 else 0)
    else if st = 2 then 3
    else st
  let s := (s.loopTune st next n).when (decide (next = 2)) fun s => s.fset TMB_STATUS_HistoryValid 1
  let s := s.loopTo next
  if failed && (decide (st = 1) || decide (st = 2)) && decide (next ≠ st) then s.tmbFlag TMB_STATUS_RefLost 2 else s

/-- An input enters LOS (R179, R181). -/
def State.refLos (s : State) (i : Nat) : State :=
  let stamps := if i = 4 ∨ i = 5 then terase s.tim.stamps (i - 4) else s.tim.stamps
  let s := { s with tim := { s.tim with los := tset 0 s.tim.los i 1, stamps := stamps } }
  if s.refRank i = 0 then s else s.setRef i 1

/-- A write to TMB_REFCFG has changed a rank (R178, R181). -/
def State.refConfig (s : State) (i : Nat) : State :=
  if s.refRank i = 0 then s.setRef i 0
  else if s.refState i = 0 then s.setRef i (if tget 0 s.tim.los i ≠ 0 then 1 else 2)
  else s

/-- REF_LOS (R179). -/
def execRefLos (i : Nat) (s : State) : Host.Outcome State Fault Refusal :=
  reply (7 ≤ i) <|
    (if s.awake then s.refLos i else s)

/-- The limit of R180 in 0.01 ppb. -/
def State.freqLimit (s : State) : Nat :=
  if s.loopState = 0 ∨ s.loopState = 4 then s.fget TMB_QUAL_WidePpm * 100000 else s.fget TMB_QUAL_Limit

/-- The offset last measured is outside the limit of R180. -/
def State.offLimit (s : State) (i : Nat) : Bool := decide (s.freqLimit < (tget 0 s.tim.offset i).natAbs)

/-- The selected input is disqualified (R185). -/
def State.driftDisq (s : State) (i : Nat) : State := (s.tmbFlag TMB_STATUS_DriftDisq 10).refWtr i

/-- The lock criteria of R187 over one measurement of the selected input, and the loop's frequency after it: err is the
phase error with the stored offset held (R189). -/
def State.lockStep (s : State) (i : Nat) (offset err : Int) : State :=
  if i = s.selected ∧ (s.loopState = 1 ∨ s.loopState = 2) then
    let n := if err.natAbs ≤ 5000 ∧ offset.natAbs ≤ 100 then s.tim.lockCount + 1 else 0
    let f := Config.loopFreq (s.refBw i) s.tim.freq offset err
    let hist := if s.loopState = 2 then (f :: s.tim.hist).take 265 else s.tim.hist
    { s with tim := { s.tim with lockCount := n, freq := f, hist := hist } }
  else s

/-- The phase error against the holdover model's prediction grows with each 1 s measurement of the selected input, by what the input's
frequency against XTAL_SYS differs from the model (R185; DEDUCED, log entry 301): 0.01 ppb over 1 s is 10 ps. -/
def State.driftStep (s : State) (i : Nat) (offset : Int) : State :=
  if i = s.selected ∧ s.refState i = 5 then
    { s with tim := { s.tim with driftAcc := s.tim.driftAcc + (s.tim.freq + offset - s.tim.model) * 10 } }
  else s

/-- A measurement updates an enabled input (R180, R181). The tick judges a selected input that leaves a limit (R185). -/
def State.refMeasure (s : State) (i : Nat) (offset phasePs : Int) : State :=
  let s := { s with tim := { s.tim with phase := tset 0 s.tim.phase i phasePs } }
  let s := (s.setOffset i offset).driftStep i offset
  let err := phasePs - s.tim.stored
  let s := if i = s.selected then s.setReg TMB_PHERR (BitVec.ofInt 32 err) else s
  let st := s.refState i
  let s :=
    if s.offLimit i then (if i = s.selected ∧ st = 5 then s else s.setRef i 3)
    else if st = 4 ∨ st = 5 then s
    else s.refGood i
  s.lockStep i offset err

/-- FREQ_MEASUREMENT (R180, R187): the 1 s gate of a clock input ends. A gate that finds an input in LOS with its clock back
makes it MEASURING (R181); a PPS input has no gate. -/
def execFreqMeasurement (i : Nat) (offset phasePs : Int) (s : State) : Host.Outcome State Fault Refusal :=
  reply (7 ≤ i) <|
    if !s.awake || decide (s.refRank i = 0) || decide (i = 4) || decide (i = 5) || (decide (i = 6) && s.fabInLos) then s
    else
      let s := { s with tim := { s.tim with los := tset 0 s.tim.los i 0 } }
      if s.refState i = 1 then s.setRef i 2 else s.refMeasure i offset phasePs

/-- ECLK periods of 125 ps in a second. -/
def secUnits : Nat := 8000000000

/-- A pulse at stamp t comes within 10 µs of 1 s after the one at p (R179). -/
def ppsInWindow (p t : Nat) : Bool := decide (((t : Int) - p - secUnits).natAbs ≤ 80000)

/-- Offset of a PPS input against ECLK in 0.01 ppb, by the stamps of its last 16 pulses, newest first (R180). -/
def ppsOffset (l : List Nat) : Int :=
  let d : Int := (l.headD 0 : Int) - l.getLastD 0 - 15 * secUnits
  d * (-100000000000) / (15 * secUnits : Nat)

/-- Phase of a pulse against ECLK's seconds, in ps. -/
def ppsPhase (t : Nat) : Int :=
  let r := t % secUnits
  125 * (if 2 * r < secUnits then (r : Int) else (r : Int) - secUnits)

/-- A pulse of PPS input m at stamp t enters the last 16, and completes a measurement over them (R180). -/
def State.ppsMeasure (s : State) (m t : Nat) : State :=
  let l := (t :: tget [] s.tim.stamps m).take 16
  let s := { s with tim := { s.tim with los := tset 0 s.tim.los (4 + m) 0, stamps := tset [] s.tim.stamps m l } }
  let s := if s.refState (4 + m) = 1 then s.setRef (4 + m) 2 else s
  if l.length = 16 ∧ s.refRank (4 + m) ≠ 0 then s.refMeasure (4 + m) (ppsOffset l) (ppsPhase t) else s

/-- PPS_IN_PULSE: a pulse at stamp t, in 125 ps of ECLK. It is time-stamped (TMB_PPSERR) and measured, and a pulse outside
the window is LOS (R179, R180). -/
def execPpsInPulse (m t : Nat) (s : State) : Host.Outcome State Fault Refusal :=
  reply (2 ≤ m) <|
    if !s.awake then s
    else
      let s := s.setReg (TMB_PPSERR m) (BitVec.ofNat 32 s.frac32)
      match tget [] s.tim.stamps m with
      | [] => { s with tim := { s.tim with stamps := tset [] s.tim.stamps m [t] } }
      | p :: _ =>
        if ppsInWindow p t then s.ppsMeasure m t
        else
          let s := s.refLos (4 + m)
          { s with tim := { s.tim with stamps := tset [] s.tim.stamps m [t] } }

/-- WTR_EXPIRY (R181): the input's time has run out. -/
def execWtrExpiry (i : Nat) (s : State) : Host.Outcome State Fault Refusal :=
  reply (7 ≤ i) <|
    (if s.refState i = 4 then s.setRef i 5 else s)

/-- CLEAR_WTR (R181). -/
def State.clearWtr (s : State) (mask : Nat) : State :=
  s.each ((List.range 7).filter fun i => decide (mask / 2 ^ i % 2 = 1) && decide (s.refState i = 4)) fun s i => s.setRef i 5

def execClearWtr (mask : Nat) (s : State) : Host.Outcome State Fault Refusal := .next (s.hostWrite TMB_CMD fun s => s.clearWtr mask)

/-- The phase in ps that the holdover model predicts over a drift window: 0.01 ppb over 1 s is 10 ps. -/
def State.predicted (s : State) : Int := s.tim.model * 10 * (max 1 (s.fget TMB_DRIFT_WindowSec) : Nat)

/-- DRIFT_WINDOW_END (R185): over the window the selected input's phase moved by phasePs against XTAL_SYS. What that differs
from the predicted phase is judged in the tick. -/
def execDriftWindowEnd (phasePs : Int) (s : State) : Host.Outcome State Fault Refusal := .next <|
  if s.selected < 7 then { s with tim := { s.tim with drift := some (phasePs - s.predicted) } } else s

/-- The tick updates an input's state (R179 to R181): the lane of input 6, and the limit of R180 as it now is. -/
def State.refJudge (s : State) (i : Nat) : State :=
  if s.refRank i = 0 then s
  else
    let st := s.refState i
    if i = 6 ∧ s.fabInLos = true then (if st = 1 then s else s.setRef 6 1)
    else if i = 6 ∧ st = 1 then s.setRef 6 2
    else if st = 3 then (if s.offLimit i then s else s.refGood i)
    else if st = 4 ∧ s.offLimit i = true then s.setRef i 3
    else if st = 5 ∧ s.offLimit i = true ∧ i ≠ s.selected then s.setRef i 3
    else s

/-- Inputs that are QUALIFIED at the tick have been so since RESET_N (R181). -/
def State.noteQual (s : State) : State :=
  let q := (List.range 7).foldl (fun t i => if s.refState i = 5 then tset 0 t i 1 else t) s.tim.everQual
  { s with tim := { s.tim with everQual := q } }

/-- A phase error within the drift window beyond the limit of R185. Without history there is no model to compare with. -/
def State.driftBeyond (s : State) (e : Int) : Bool :=
  s.flag TMB_STATUS_HistoryValid && decide (s.fget TMB_DRIFT_PhaseLimitPs < e.natAbs)

/-- The drift monitor's part of the tick (R185): the phase error so far in the window, that of a window's end, and the offset. -/
def State.driftTick (s : State) : State :=
  let beyond := s.driftBeyond (s.tim.drift.getD s.tim.driftAcc)
  let pass := s.tim.drift.isSome
  let n := s.selected
  let s := { s with tim := { s.tim with drift := none, driftAcc := if pass then 0 else s.tim.driftAcc } }
  if 7 ≤ n ∨ s.refState n ≠ 5 then s
  else if beyond || s.offLimit n then s.driftDisq n
  else if pass then { s with tim := { s.tim with model := s.holdModel } }
  else s

/-- HOLDOVER_LIMIT (R186). -/
def execHoldoverLimit (s : State) : Host.Outcome State Fault Refusal :=
  .next (if s.loopState = 3 ∧ s.fget TMB_HOLD_LimitSec ≠ 0 then s.loopTo 4 else s)

/-! ## Multi-word values (R191) -/

/-- The lower words that a highest word commits. -/
def commitLows (a : Nat) : List Nat :=
  if a = TMB_INCRF then [TMB_INCR]
  else if a = TMB_TSET_HI then [TMB_TSET_LO]
  else if a = TMB_STEP_HI then [TMB_STEP_LO]
  else if a = TMB_SREFIDX_HI then [TMB_SREFIDX_LO]
  else if a = TMB_SREFT_SH then [TMB_SREFT_FR, TMB_SREFT_SL]
  else if a = TMB_SPER_HI then [TMB_SPER_LO]
  else if a = SCH_DUE_SH then [SCH_DUE_FR, SCH_DUE_SL]
  else []

/-- The address is a lower word of such a value. -/
def isHeldWord (a : Nat) : Bool :=
  [TMB_INCR, TMB_TSET_LO, TMB_STEP_LO, TMB_SREFIDX_LO, TMB_SREFT_FR, TMB_SREFT_SL, TMB_SPER_LO, SCH_DUE_FR,
    SCH_DUE_SL].contains a

/-- A write to a lower word is held. -/
def State.holdWord (s : State) (a : Nat) (v : BitVec 32) : State :=
  { s with tim := { s.tim with held := tset none s.tim.held a (some v) } }

/-- A write to the highest word: the value takes effect as a whole. -/
def State.commitWord (s : State) (a : Nat) (v : BitVec 32) : State :=
  let s := s.each (commitLows a) fun s l =>
    match tget none s.tim.held l with
    | some w => { s.setReg l w with tim := { s.tim with held := tset none s.tim.held l none } }
    | none => s
  s.putReg a true v

/-- INCREMENT_COMMIT. -/
def execIncrementCommit (a : Nat) (v : Word) (s : State) : Host.Outcome State Fault Refusal :=
  reply (commitLows (a / 4 * 4) = []) <|
    (s.hostWrite (a / 4 * 4) fun s => s.commitWord (a / 4 * 4) v)

/-! ## The time counter (R190, R192, R193) -/

/-- The increment I in units of 2^-80 s. -/
def State.timeInc (s : State) : Nat := (s.reg TMB_INCR).toNat * 2 ^ 32 + (s.reg TMB_INCRF).toNat

/-- TMB_CMD.SetTime. -/
def State.setTimeCmd (s : State) : State :=
  { s.fset TMB_STATUS_SetPending 1 with
    tim := { s.tim with pendSet := some (s.get2 TMB_TSET_LO TMB_TSET_HI % 2 ^ 48) } }

/-- TMB_CMD.Realign. -/
def State.realignCmd (s : State) : State :=
  { s.fset TMB_STATUS_Realigning 1 with
    tim := { s.tim with pendStep := some (toSigned 48 (s.get2 TMB_STEP_LO TMB_STEP_HI)) } }

def execSetTime (s : State) : Host.Outcome State Fault Refusal := .next (s.hostWrite TMB_CMD State.setTimeCmd)
def execRealign (s : State) : Host.Outcome State Fault Refusal := .next (s.hostWrite TMB_CMD State.realignCmd)

/-- Actions that are due at the time counter's value leave the queue for execution, in insertion order (R201, R203). -/
def State.dueNow (s : State) (stepped : Bool) : State :=
  let now := fun (a : SchAct) => decide (a.due * 2 ^ 48 ≤ s.time)
  let out := (s.tim.queue.filter now).map fun a => (a, if stepped then 2 else if a.late then 1 else 0)
  { s with tim := { s.tim with due := s.tim.due ++ out, queue := s.tim.queue.filter fun a => !now a } }

/-- A pending SetTime applies. -/
def State.applySet (s : State) : State :=
  match s.tim.pendSet with
  | some v => { s.fset TMB_STATUS_SetPending 0 with time := v * 2 ^ 80, tim := { s.tim with pendSet := none } }
  | none => s

/-- A pending Realign applies. -/
def State.applyStep (s : State) : State :=
  match s.tim.pendStep with
  | some v =>
    { (s.fset TMB_STATUS_Realigning 0).pmc 477 1 with
      time := (((s.time : Int) + v * 2 ^ 48) % 2 ^ 128).toNat
      tim := { s.tim with pendStep := none } }
  | none => s

/-! ### The calendar (R194) -/

def State.calSec (s : State) : Nat := s.get2 CAL_SEC_LO CAL_SEC_HI
def State.setCal (s : State) (v : Nat) : State := s.set2 CAL_SEC_LO CAL_SEC_HI (v % 2 ^ 48)

/-- A pending Capture applies. -/
def State.applyCapture (s : State) : State :=
  if s.tim.pendCap then
    let s := { s.setCal s.sec with tim := { s.tim with pendCap := false, calDiv := 0 } }
    s.fset CAL_STATUS_Valid (if s.flag CAL_STATUS_OscFail then 0 else 1)
  else s

/-- CAL_CMD.Capture. -/
def State.captureCmd (s : State) : State := { s with tim := { s.tim with pendCap := true } }

def execCalendarCapture (s : State) : Host.Outcome State Fault Refusal := .next (s.hostWrite CAL_CMD State.captureCmd)

/-- The calendar's divider holds n. -/
def State.setDiv (s : State) (n : Nat) : State := { s with tim := { s.tim with calDiv := n } }

/-- CALENDAR_SECOND: the edges that its divider still lacks have come, it reaches 32,768 and counts a second; none passes without edges
of the crystal. Capture's reset of the divider delays this event (log entry 302). -/
def execCalendarSecond (s : State) : Host.Outcome State Fault Refusal :=
  .next (if s.flag CAL_STATUS_OscFail then s else (s.setCal (s.calSec + 1)).setDiv 0)

/-- CAL_OSC_FAIL. -/
def execCalOscFail (s : State) : Host.Outcome State Fault Refusal :=
  .next ((s.fset CAL_STATUS_OscFail 1).fset CAL_STATUS_Valid 0)

/-- CAL_OSC_RESTORE: an edge arrives and is counted. -/
def execCalOscRestore (s : State) : Host.Outcome State Fault Refusal :=
  .next ((s.fset CAL_STATUS_OscFail 0).setDiv (min 32767 (s.tim.calDiv + 1)))

/-! ### The account's VBAT registers (R362, R363) -/

/-- A total in 2^-16 s enters its Frac and Sec words. -/
def State.setTotal (s : State) (fr sec n : Nat) : State :=
  (s.setReg fr (BitVec.ofNat 32 (n % 2 ^ 16))).setReg sec (BitVec.ofNat 32 (n / 2 ^ 16))

/-- Summed length of the unretired spans. -/
def State.pendUnits (s : State) : Nat := s.erl.spans.foldl (fun a x => a + (x.hi - x.lo)) 0

/-- The account as the VBAT domain is to hold it. -/
def State.account (s : State) : VbatWrite := ⟨s.erl.acc, s.erl.fab, s.pendUnits⟩

/-- The account reaches the VBAT registers. -/
def State.accountPut (s : State) (w : VbatWrite) : State :=
  let s := s.setTotal ERL_LPS_FR ERL_LPS_SEC (tget 0 w.acc 0)
  let s := s.each ((List.range 7).map fun i => i + 1) fun s c =>
    s.setTotal (ERL_LPSCAUSE_FR c) (ERL_LPSCAUSE_SEC c) (tget 0 w.acc c)
  let s := s.setTotal ERL_FABLPS_FR ERL_FABLPS_SEC (w.fab / 2 ^ 64)
  s.setReg ERL_LPSPEND (BitVec.ofNat 32 (min (2 ^ 32 - 1) w.pend))

/-- A second boundary starts the write through the crossing to the VBAT domain (R32, R362). -/
def State.accountWrite (s : State) : State := { s with erl := { s.erl with vbat := some s.account } }

/-- The write has crossed; a RESET_N or a loss of supply before this leaves the previous second's values (R364). -/
def State.accountLand (s : State) : State :=
  match s.erl.vbat with
  | some w => { s.accountPut w with erl := { s.erl with vbat := none } }
  | none => s

/-- Node n is a configured member (R252). -/
def State.isMemberNode (s : State) (n : Nat) : Bool :=
  decide (n = s.node) || (s.reg (FAB_MEMBER (n / 32))).getLsbD (n % 32)

/-- The fabric's account runs (R363). -/
def State.fabLosing (s : State) : Bool :=
  s.flag FAB_STATUS_IsAnchor && s.inRun && (List.range 4096).any fun n => s.isMemberNode n && !s.reachable n

/-! ### The tick -/

/-- Cycle counters of R380 over one ECLK tick of 4 ns. -/
def State.clockCounts (s : State) : State :=
  let k := s.pmcLive 4
  let s := s.when s.fastClk fun s => ((s.pmc 0 5).pmc 2 4).pmc 3 (32 * (k + 1) / 5 - 32 * k / 5)
  let s := s.when s.mclk fun s => s.pmc 1 4
  (s.pmc 4 1).pmc 5 1

/-- Wait-to-restore times count down in seconds of ECLK; at the end of the last one the input is QUALIFIED (R181). -/
def State.wtrTick (s : State) : State :=
  s.each ((List.range 7).filter fun i => s.refState i = 4) fun s i =>
    let n := tget 0 s.tim.wtr i + 1
    let left := s.fget (TMB_REFSTAT_WtrLeft i)
    if n < 250000000 then { s with tim := { s.tim with wtr := tset 0 s.tim.wtr i n } }
    else
      let s := { s with tim := { s.tim with wtr := tset 0 s.tim.wtr i 0 } }
      if left ≤ 1 then s.setRef i 5 else s.fset (TMB_REFSTAT_WtrLeft i) (left - 1)

/-- The references' part of a tick (R183): every input's state, the drift monitor, the selection, the loop. -/
def State.refTick (s : State) : State :=
  ((s.each (List.range 7) State.refJudge).wtrTick.noteQual.driftTick).refSettle

/-- Period of REF_OUT in 125 ps (R193); the reserved code acts as 1 (R20). -/
def State.refPeriod (s : State) : Nat :=
  match s.fget TMB_OUTCFG_RefOutFreq with
  | 2 => 800
  | 3 => 80
  | _ => 1600

/-- The fine delay from the ECLK edge after a second boundary to the edge of PPS_OUT, in 125 ps (R193): the boundary plus one
ECLK period. -/
def State.ppsFine (s : State) : Nat := 32 - min 32 (s.time % 2 ^ 80 * secUnits / 2 ^ 80)

/-- PPS_OUT rises, and a REF_OUT that is to start does so with the same edge (R193). -/
def State.ppsRise (s : State) : State :=
  let fine := s.ppsFine
  let s := if s.flag TMB_OUTCFG_PpsEn then
      { s.emit (.ppsOut fine) with tim := { s.tim with pps := max 1 (s.fget TMB_OUTCFG_PpsWidthUs) * 250 } }
    else s
  if s.flag TMB_OUTCFG_RefEn && s.tim.refOut.isNone then
    { s with tim := { s.tim with refOut := some ((s.refPeriod - fine % s.refPeriod) % s.refPeriod) } }
  else s

/-- REF_OUT is high: the first half of its period. -/
def State.refOutHigh (s : State) : Bool :=
  match s.tim.refOut with
  | some x => decide (2 * x < s.refPeriod)
  | none => false

/-- A write to TMB_OUTCFG: an output that is not enabled is low (R193). -/
def State.outConfig (s : State) : State :=
  let pps := if s.flag TMB_OUTCFG_PpsEn then s.tim.pps else 0
  let ref := if s.flag TMB_OUTCFG_RefEn then s.tim.refOut.map fun x => x % s.refPeriod else none
  { s with tim := { s.tim with pps := pps, refOut := ref } }

/-- At a Realign REF_OUT and PPS_OUT stop; they restart from the new second boundary (R192). -/
def State.outStop (s : State) : State := { s with tim := { s.tim with pps := 0, refOut := none } }

/-- A second boundary of the time counter (R192 to R194, R203, R362). -/
def State.secondBoundary (s : State) : State :=
  let t := s.time
  let s := s.when s.tim.pendStep.isSome State.outStop
  let s := s.applySet.applyStep
  let s := s.when (decide (s.time % 2 ^ 80 < s.timeInc)) State.ppsRise
  let s := if t < s.time then s.dueNow true else s
  s.applyCapture.accountWrite

/-- The time counter advances. -/
def State.timeStep (s : State) : State :=
  { s with time := (s.time + s.timeInc) % 2 ^ 128, tim := { s.tim with ticks := s.tim.ticks + 1 } }

/-- The fabric's account advances by one tick (R363). -/
def State.fabAccrue (s : State) (i : Nat) : State :=
  if s.fabLosing then { s with erl := { s.erl with fab := s.erl.fab + i } } else s

/-- PPS_OUT's high time runs down unless the time counter stands (R190), and REF_OUT's phase goes on by one ECLK period (R193). -/
def State.ppsTick (s : State) : State :=
  { s with tim := { s.tim with pps := if s.timeInc = 0 then s.tim.pps else s.tim.pps - 1, refOut := s.tim.refOut.map fun x => (x + 32) % s.refPeriod } }

/-- What the tick does where the increment is not 0: due actions, then a second boundary (R190, R202). -/
def State.tickEvents (s : State) (before : Nat) : State :=
  let s := s.dueNow false
  if s.time / 2 ^ 80 = before / 2 ^ 80 then s else s.secondBoundary

/-- PMC_SNAPTIME takes a 48.32 time (R383). -/
def State.setSnapTime (s : State) (v : Nat) : State :=
  let s := s.set2 PMC_SNAPTIME_FR PMC_SNAPTIME_SL v
  { s.setReg PMC_SNAPTIME_SH (BitVec.ofNat 32 (v / 2 ^ 64 % 2 ^ 16)) with cnt := { s.cnt with snapWait := false } }

/-- The first tick after a capture by PMC_CMD dates it (R383). -/
def State.snapTick (s : State) : State := if s.cnt.snapWait then s.setSnapTime (s.time / 2 ^ 48) else s

/-- What ECLK_TICK does beside the matrix (R183, R190). Spans retire by the new time and ahead of a second boundary's VBAT
write (R361, R364). -/
def State.eclkTick (s : State) : State :=
  let r := ((s.accountLand.clockCounts.timeStep.retireSpans.fabAccrue s.timeInc).ppsTick).snapTick
  (if s.timeInc = 0 then r else r.tickEvents s.time).refTick

/-- SPAN_RETIRE (R361). -/
def execSpanRetire (s : State) : Host.Outcome State Fault Refusal := .next (if s.awake then s.retireSpans else s)

/-! ## Transmit time-stamps (R197) -/

/-- The words a read of the head of lane l's queue shows. -/
def State.txHead (s : State) (l : Nat) : BitVec 32 × BitVec 32 × BitVec 32 :=
  match tget [] s.tim.txts l with
  | (id, t) :: _ =>
    (BitVec.ofNat 32 t, BitVec.ofNat 32 (t / 2 ^ 32), BitVec.ofNat 32 (2 ^ 31 + id * 2 ^ 16 + t / 2 ^ 64 % 2 ^ 16))
  | [] => (0, 0, 0)

/-- The head entry of lane l's queue is popped; its other words are latched (R17). -/
def State.txtsPop (s : State) (l : Nat) : State :=
  let h := s.txHead l
  let s := (s.setShadow (TMB_TXTS_SL l) h.2.1).setShadow (TMB_TXTS_SH l) h.2.2
  { s with tim := { s.tim with txts := tset [] s.tim.txts l ((tget [] s.tim.txts l).drop 1) } }

/-- TXTS_POP. -/
def execTxtsPop (l : Nat) (s : State) : Host.Outcome State Fault Refusal :=
  reply (96 ≤ l) <|
    (s.hostPop (TMB_TXTS_FR l) fun s => s.txtsPop l)

end Sys2Proof.Machine
end

