-- ==== Sys2Proof/Machine/FabCore.lean ====
section
/-! DEFINITION. The fabric unit's link state, reachability and credit (R240, R243, R244, R249 to R251): what the lanes and
the frame commands share. -/

namespace Sys2Proof.Machine

/-- Sprout mode (R344). -/
def State.sprout (s : State) : Bool := s.flag IMG_STATUS_SproutActive

/-- The fabric unit runs: enabled, with MCLK. -/
def State.fabOn (s : State) : Bool := s.flag FAB_CTRL_Enable && s.mclk

/-- The lane's mode (R206). -/
def State.lnMode (s : State) (l : Nat) : Nat := s.fget (LN_CFG_Mode l)

/-- FAB_LSTAT.State (R243). -/
def State.linkState (s : State) (l : Nat) : Nat := s.fget (FAB_LSTAT_State l)

/-- The Role this node holds (R252). -/
def State.role (s : State) : Nat := s.fget FAB_STATUS_Role
def State.epoch (s : State) : Nat := s.fget FAB_STATUS_PartEpoch
def State.anchor (s : State) : Nat := s.fget FAB_PARTSTAT_AnchorNode

/-! ## Credit (R240) -/

/-- Units of this part's receive buffer per channel. -/
def vcUnits (vc : Nat) : Nat := if vc = 0 then 1024 else if vc = 1 then 128 else if vc = 2 then 32 else 1024

/-- The sender's credit on lane l and channel vc. -/
def State.credit (s : State) (l vc : Nat) : Nat :=
  let k := 4 * l + vc
  (tget 0 s.fab.peerInit k + 65536 - (tget 0 s.fab.sent k + 65536 - tget 0 s.fab.freed k) % 65536) % 65536

/-- Units sent on lane l. -/
def State.spend (s : State) (l vc n : Nat) : State :=
  { s with fab := { s.fab with sent := tmod 0 s.fab.sent (4 * l + vc) fun x => (x + n) % 65536 } }

/-- Units in use in the receive buffer of lane l. -/
def State.rxInUse (s : State) (l vc : Nat) : Nat :=
  (tget 0 s.fab.rxUnits (4 * l + vc) + 65536 - tget 0 s.fab.rxFreed (4 * l + vc)) % 65536

/-- A frame of n units enters the receive buffer. -/
def State.rxTake (s : State) (l vc n : Nat) : State :=
  { s with fab := { s.fab with rxUnits := tmod 0 s.fab.rxUnits (4 * l + vc) fun x => (x + n) % 65536 } }

/-- Its units are freed. -/
def State.rxFree (s : State) (l vc n : Nat) : State :=
  { s with fab := { s.fab with rxFreed := tmod 0 s.fab.rxFreed (4 * l + vc) fun x => (x + n) % 65536 } }

/-- A forwarded frame leaves the receive buffer that holds it. -/
def State.leaveBuffer (s : State) (f : QFrame) : State :=
  match f.inLane with
  | some l => s.rxFree l f.vc (frameUnits f.payload.length)
  | none => s

/-! ## Reachability (R251) -/

/-- A report's distances to nodes 0 to 4095; a node it does not give is at 15. -/
def ReachRep.all (r : ReachRep) : List Nat := r.dist.take 4096 ++ List.replicate (4096 - r.dist.length) 15

/-- Distances to nodes 0 to 4095 from the latest REACH of each UP link. -/
def State.distances (s : State) : List Nat :=
  let reps := (List.range 96).filterMap fun l =>
    if s.linkUp l then (tget none s.fab.report l).map ReachRep.all else none
  let least := reps.foldl (fun acc d => List.zipWith min acc d) (List.replicate 4096 15)
  (least.zip (List.range 4096)).map fun x => if x.2 = s.node then 0 else min 15 (x.1 + 1)

/-- The nodes that are reachable by R251, ascending. -/
def State.reachNow (s : State) : List Nat :=
  ((s.distances.zip (List.range 4096)).filter fun x =>
    decide (x.2 = s.node) || (decide (x.1 < 15) && !(s.routeSet x.2 false).isEmpty)).map (·.2)

/-- Reachable configured members, ascending. -/
def State.halfNow (s : State) : List Nat := (List.range 4096).filter fun n => s.isMemberNode n && s.reachable n

/-- The words of FAB_REACH for a set of nodes. -/
def reachWord (ns : List Nat) (w : Nat) : BitVec 32 :=
  BitVec.ofNat 32 ((ns.filter fun n => n / 32 = w).foldl (fun a n => a + 2 ^ (n % 32)) 0)

/-- The reachable set follows the graph: FAB_REACH, ReachChg, FAB_PARTSTAT.Reachable, and what the Hull does for nodes
lost and regained (R86, R251). -/
def State.reachUpdate (s : State) : State :=
  let now := s.reachNow
  let lost := (List.range 4096).filter fun n => s.reachable n && !now.contains n
  let back := now.filter fun n => !s.reachable n
  let s := s.each (List.range 128) fun s w => s.setReg (FAB_REACH w) (reachWord now w)
  let s := s.fset FAB_PARTSTAT_Reachable s.halfNow.length
  if lost.isEmpty && back.isEmpty then s
  else ((((s.fset FAB_STATUS_ReachChg 1).raise 11).each lost State.nodeLost).each back State.nodeBack)

/-- Entries of FAB_NH or FAB_LSET may have become Valid or not Valid: the second condition of reachability (R251). -/
def State.routesChanged (s : State) : State := if s.flag FAB_CTRL_Enable && !s.sprout then s.reachUpdate else s

/-! ## Links (R243, R244, R249) -/

/-- Receive buffer, credit and reports of lane l are cleared. -/
def State.clearLink (s : State) (l : Nat) : State :=
  let lane := fun {α : Type} (t : Tbl α) => t.filter fun e => decide (e.1 / 4 ≠ l)
  let off := fun {α : Type} (t : Tbl α) => t.filter fun e => decide (e.1 ≠ l)
  { s with
    ln := { s.ln with rxq := off s.ln.rxq }
    fab := { s.fab with
      sent := lane s.fab.sent
      freed := lane s.fab.freed
      peerInit := lane s.fab.peerInit
      rxUnits := lane s.fab.rxUnits
      rxFreed := lane s.fab.rxFreed
      heard := off s.fab.heard
      good := off s.fab.good
      report := off s.fab.report
      llq := off s.fab.llq
      helloq := off s.fab.helloq
      creditq := off s.fab.creditq
      reachq := off s.fab.reachq
      seedq := off s.fab.seedq
      seedackq := off s.fab.seedackq
      dataRun := off s.fab.dataRun
      begun := off s.fab.begun
      seedTx := off s.fab.seedTx
      txq := s.fab.txq.filter fun f => decide (f.via ≠ some l) && decide (f.inLane ≠ some l) } }

/-- A routed frame waits for a link that is not UP. -/
def State.strands (s : State) (f : QFrame) : Bool := f.via.isNone && !(f.link.any s.linkUp)

/-- A frame is discarded unsent: where it is this node's MREAD, the read ends as NO_ROUTE (R257). -/
def State.unsent (s : State) (f : QFrame) : State :=
  if decide (f.ty = 8) && f.inLane.isNone && s.flag FAB_MSTAT_Busy then s.setReg FAB_MSTAT 3#32 else s

/-- Frames queued for a link that is no longer UP are chosen anew, in their order; those that no usable link serves are
discarded (R245, R249). -/
def State.rechoose (s : State) : State :=
  let dead := s.fab.txq.filter fun f => s.strands f && (s.routeOf f).isNone
  let q := (s.fab.txq.filter fun f => !(s.strands f && (s.routeOf f).isNone)).map fun f =>
    if s.strands f then { f with link := s.routeOf f } else f
  { s with fab := { s.fab with txq := q } }.each dead fun s f => ((s.leaveBuffer f).unsent f).noRoute f.dest f.down

/-- Frames that lane l had begun and that are lost as its link goes DOWN: a free value (R249). -/
def State.lostBegun (s : State) (l : Nat) : Nat :=
  let n := tget 0 s.fab.begun l
  if n = 0 then 0 else Config.lostFrames s.fresh % (n + 1)

/-- The link of lane l goes DOWN (R249). -/
def State.linkDown (s : State) (l : Nat) : State :=
  if s.linkState l = 0 then s
  else
    let n := s.lostBegun l
    let s := (((s.draw.fset (FAB_LSTAT_State l) 0).fset (FAB_LSTAT_Cause l) 0).clearLink l).incBy FAB_LINKLOSS n
    let s := ((s.inc FAB_REROUTE).pmc 459 1).log 0x12 0 l n
    s.rechoose.reachUpdate

/-- The link of lane l enters CHECKING (R243); in Sprout mode it shows UP with its own node (R344). -/
def State.linkChecking (s : State) (l : Nat) : State :=
  if s.fabOn && decide (s.lnMode l = 2) && decide (s.linkState l = 0) then
    let s := s.fset (FAB_LSTAT_Cause l) 0
    if s.sprout then (s.fset (FAB_LSTAT_PeerNode l) s.node).fset (FAB_LSTAT_State l) 2
    else s.fset (FAB_LSTAT_State l) 1
  else s

end Sys2Proof.Machine
end

