-- ==== Sys2Proof/Machine/FabSeed.lean ====
section
/-! DEFINITION. The sending side of a seed: SEED frames of the applied image to an unassigned peer, SEEDACK, resending,
stopping and trying again (R258, R335). -/

namespace Sys2Proof.Machine

/-- HBM byte address of an image slot (R329). -/
def slotBase (slot : Nat) : Nat := slot * 0x3000000

/-- ImageHash of the loaded image (R242, R326). -/
def State.imageHash (s : State) : Nat := s.get2 IMG_HASH_LO IMG_HASH_HI

def State.seedOf (s : State) (l : Nat) : SeedTx := tget SeedTx.idle s.fab.seedTx l

def State.setSeed (s : State) (l : Nat) (x : SeedTx) : State :=
  { s with fab := { s.fab with seedTx := tset SeedTx.idle s.fab.seedTx l x } }

/-- Image bytes of one SEED frame, and of the unacknowledged window (R258). -/
def seedChunk : Nat := 4080
def seedWindow : Nat := 262144

/-- The SEED payload for n bytes at an offset (R258). -/
def State.seedPayload (s : State) (x : SeedTx) (n : Nat) : List Byte :=
  beBytes 4 x.next ++ beBytes 4 x.len ++ beBytes 8 x.hash ++ s.hbmBytes (slotBase x.slot + x.next) n

/-- SEED frames enter the link's queue while the window allows; the first argument bounds their number. Fabric control reads them
over the matrix: in reset it sends none (R289), and none come through a held crossing. -/
def State.seedFill : Nat → State → Nat → State
  | 0, s, _ => s
  | fuel + 1, s, l =>
    let x := s.seedOf l
    let n := min seedChunk (x.len - x.next)
    if x.active && decide (0 < n) && decide (x.next + n - x.acked ≤ seedWindow) && !s.unitInReset 21 && !s.hbmHeld then
      let t := s.originateOn l 10 0 (s.seedPayload x n)
      State.seedFill fuel ((t.noteRead (slotBase x.slot + x.next) n).setSeed l { x with next := x.next + n }) l
    else s

/-- Frames that fit in the window. -/
def State.seedSend (s : State) (l : Nat) : State := State.seedFill 65 s l

/-- SEED frames that still wait for lane l are withdrawn. -/
def State.seedWithdraw (s : State) (l : Nat) : State :=
  { s with fab := { s.fab with txq := s.fab.txq.filter fun f => !(decide (f.ty = 10) && decide (f.via = some l)) } }

/-- The transfer resends from the acknowledged offset. -/
def State.seedAgain (s : State) (l : Nat) : State :=
  let x := s.seedOf l
  ((s.seedWithdraw l).setSeed l { x with next := x.acked, dup := 0 }).seedSend l

/-- A transfer of the applied image begins on lane l (R243, R335). -/
def State.seedStart (s : State) (l : Nat) : State :=
  if s.img.appliedLen = 0 || s.unitInReset 21 then s
  else (s.setSeed l ⟨true, 0, 0, 0, s.fget IMG_STATUS_Slot, s.img.appliedLen, s.imageHash⟩).seedSend l

/-- The acknowledged offset (R258). -/
def State.seedAcked (s : State) (l o : Nat) : State :=
  let x := s.seedOf l
  if !x.active || decide (x.len < o) || decide (o < x.acked) then s
  else if x.acked < o then (s.setSeed l { x with acked := o, next := max o x.next, dup := 1 }).seedSend l
  else if x.dup + 1 < 3 then s.setSeed l { x with dup := x.dup + 1 }
  else s.seedAgain l

/-- SEEDACK (R258). -/
def execSeedAck (l : Nat) (s : State) : Host.Outcome State Fault Refusal :=
  reply (96 ≤ l) <|
    match tget [] s.fab.seedackq l with
      | [] => s
      | p :: rest =>
        if s.unitInReset 21 then s else
        let s : State := { s with fab := { s.fab with seedackq := tset [] s.fab.seedackq l rest } }
        if 4 ≤ p.length ∧ s.linkState l = 4 then s.seedAcked l (beAt p 0 4) else s

/-- SEED_RESEND: 200 µs have passed without progress (R258). -/
def execSeedResend (l : Nat) (s : State) : Host.Outcome State Fault Refusal :=
  reply (96 ≤ l) <|
    (if !s.unitInReset 21 && (s.seedOf l).active && decide ((s.seedOf l).acked < (s.seedOf l).len) then s.seedAgain l else s)

/-- SEED_STOP: no SEEDACK for 1 ms (R258). -/
def execSeedStop (l : Nat) (s : State) : Host.Outcome State Fault Refusal :=
  reply (96 ≤ l) <|
    (if (s.seedOf l).active then (s.seedWithdraw l).setSeed l { s.seedOf l with active := false } else s)

/-- SEED_RETRY: 100 ms after the stop the transfer begins again (R258). -/
def execSeedRetry (l : Nat) (s : State) : Host.Outcome State Fault Refusal :=
  reply (96 ≤ l) <|
    (if s.fabOn && !s.unitInReset 21 && decide (s.linkState l = 4) && !(s.seedOf l).active then s.seedStart l else s)

end Sys2Proof.Machine
end

