-- ==== Sys2Proof/Machine/Dmc.lean ====
section
/-! DEFINITION. DRAM controllers (chapter 10): requests and their queues (R260 to R266), refresh (R267 to R269), training
and staleness (R270 to R272), self-refresh (R273), retirement (R275 to R277) and the DMW window (R279). -/

namespace Sys2Proof.Machine

def State.pcState (s : State) (pc : Nat) : Nat := s.fget (DMC_PCSTAT_State pc)

/-- The controllers run: enabled, with DCLK, and not in self-refresh (R273). -/
def State.dmcOn (s : State) : Bool := s.flag DMC_CTRL_Enable && s.fastClk && !s.dmc.asleep

/-! ## The scheduler of a pseudo-channel (R264, R267, R268) -/

/-- Requests queued in all banks of a pseudo-channel. -/
def State.pcQueued (s : State) (pc : Nat) : Nat :=
  ((List.range 48).map fun b => min 8 (s.bankQ (48 * pc + b)).length).foldl (· + ·) 0

/-- The banks that hold a request, in rotating order after the one that received the last activate (R264). -/
def State.pcBanks (s : State) (pc : Nat) : List Nat :=
  ((List.range 48).map fun i => 48 * pc + (tget 0 s.dmc.rot pc + 1 + i) % 48).filter fun k => decide (s.bankQ k ≠ [])

/-- The bank's access is to its open row; with `first`, it is a read or in a write drain. -/
def State.bankHits (s : State) (first : Bool) (k : Nat) : Bool :=
  match s.bankPick k with
  | some r => rowHit (tget 0 s.dmc.row k) r && (!first || !r.write || s.bankDrains k)
  | none => false

/-- One access of the pseudo-channel issues: to an open row, reads before writes; else the next bank in rotation is
activated for its access (R264). -/
def State.pcIssue (s : State) (pc : Nat) : State :=
  let ks := s.pcBanks pc
  match ks.find? (s.bankHits true), ks.find? (s.bankHits false), ks.head? with
  | some k, _, _ => s.bankIssue k
  | none, some k, _ => s.bankIssue k
  | none, none, some k => s.bankIssue k
  | none, none, none => s

def State.pcIssues : Nat → Nat → State → State
  | 0, _, s => s
  | n + 1, pc, s => State.pcIssues n pc (s.pcIssue pc)

/-- The accesses that have issued since the pseudo-channel was last looked at: a free number, none while it is stalled or an
urgent refresh waits (R264, R268). -/
def State.pcTime (s : State) (pc : Nat) : State :=
  let n := s.pcQueued pc
  if n = 0 || s.pcStalled pc || s.pcUrgent pc then s
  else State.pcIssues (Config.dramIssued s.fresh % (n + 1)) pc s.draw

/-! ## Requests (R260, R264, R266, R274) -/

def strobeMask (l : List Bool) : Nat := (l.zip (List.range 64)).foldl (fun a x => if x.1 then a + 2 ^ x.2 else a) 0

/-- The strobed bytes of a line write are stored with their parity; each bad beat counts (R274). -/
def State.lineStore (s : State) (a : Nat) (w : LineWrite) : State :=
  let cells := (w.bytes.zip (w.strobes.zip w.badParity)).zip (List.range 64)
  let s := s.each cells fun s x => if x.1.2.1 then s.hbmPut (a + x.2) x.1.1 x.1.2.2 else s
  let s := s.when (w.strobes.all id) fun s => s.cleanMark a 64
  s.each [0, 32] fun s b =>
    if cells.any fun x => decide (b ≤ x.2) && decide (x.2 < b + 32) && x.1.2.1 && x.1.2.2 then s.beatError a (a + b)
    else s

def lineWriteOk (w : LineWrite) : Bool :=
  decide (w.bytes.length = 64) && decide (w.strobes.length = 64) && decide (w.badParity.length = 64)

/-- The pseudo-channel takes requests: it is trained, or FAILED in its slot (R270, R273, R277). -/
def State.pcOpen (s : State) (pc : Nat) : Bool :=
  decide (s.pcState pc = 2) || decide (s.pcState pc = 7)

/-- The stack will report uncorrectable errors with the next reads of these bursts of the line at a (R263). -/
def State.severeNote (s : State) (a : Nat) (bursts : List Nat) : State :=
  if s.hbmIn a then
    { s with dmc := { s.dmc with sev := (bursts.map fun b => s.hbmKey (a + 32 * b) / 32) ++ s.dmc.sev } }
  else s

/-- A line read at its unit: its bytes and their parity, and what comes back with them (R263, R266, R274). -/
def State.lineFetch (s : State) (a pc k : Nat) : State :=
  let bytes := s.hbmBytes a 64
  let bad := (List.range 64).map fun i => s.hbmByteBad (a + i)
  let s := s.beatsBack a
  let s := if s.pcFailed pc then s else s.queueRead pc k (s.hbmPa a / 64)
  s.emit (.dram bytes bad)

/-- A line request at its unit (R260, R261, R264, R266, R274, R277). A full queue refuses it. Out of the map a read's two beats
return with wrong parity, and a write's are checked before they are discarded. -/
def State.lineRequest (s : State) (a : Nat) (w : Option LineWrite) : State :=
  if !s.hbmIn a then
    let s := s.inc (DMC_OOR 0)
    match w with
    | some w => s.lineStore a w
    | none => (s.beatsBack a).emit (.dram (List.replicate 64 0) (List.replicate 64 true))
  else
    let pc := s.hbmPc a
    let pa := s.hbmPa a
    let k := 48 * pc + bankOf pa
    if !s.pcOpen pc then s
    else
      let s := s.pcTime pc
      if 8 ≤ (s.bankQ k).length then s
      else
        let s := s.pmc (384 + pc / 8) 1
        match w with
        | some w =>
          let s := s.lineStore a w
          if s.pcFailed pc then s else s.queueWrite k (pa / 64) (strobeMask w.strobes)
        | none => s.lineFetch a pc k

/-- A beat of a matrix write at a DMC port: a line write by its strobes, counted and queued (R260, R264, R283). -/
def State.lineBeat (s : State) (a : Nat) (w : LineWrite) : State :=
  if w.strobes.any id then
    let s := if s.hbmIn a then s.pmc (384 + s.hbmPc a / 8) 1 else s.inc (DMC_OOR 0)
    (s.lineEnter a (some (strobeMask w.strobes))).lineStore a w
  else s

/-- DRAM_REQUEST (R263, R264). It waits in a held crossing to the units (R296). -/
def execDramRequest (addr : Nat) (access : LineAccess) (s : State) : Host.Outcome State Fault Refusal :=
  reply (addr % 64 ≠ 0 ∨ 2 ^ 38 ≤ addr ∨ access.write.all lineWriteOk = false ∨ access.severe.any (2 ≤ ·)) <|
    if s.dmcOn && !s.hbmHeld then (s.severeNote addr access.severe).lineRequest addr access.write else s

/-- ROW_IDLE_PRECHARGE (R265). -/
def execRowIdlePrecharge (pc bank : Nat) (s : State) : Host.Outcome State Fault Refusal :=
  reply (192 ≤ pc ∨ 48 ≤ bank) <|
    if !s.dmcOn then s
    else { s with dmc := { s.dmc with row := tset 0 s.dmc.row (48 * pc + bank) 0 } }

/-! ## Refresh (R267 to R269) -/

/-- DMC_PCSTAT.Owed shows the owed count, at most 8. -/
def State.setOwed (s : State) (pc n : Nat) : State :=
  { s.fset (DMC_PCSTAT_Owed pc) (min 8 n) with dmc := { s.dmc with owed := tset 0 s.dmc.owed pc n } }

/-- The pseudo-channel is refreshed by the controllers: they run and it is neither OFF nor in self-refresh. -/
def State.pcRefreshed (s : State) (pc : Nat) : Bool :=
  s.dmcOn && decide (s.pcState pc ≠ 0) && decide (s.pcState pc ≠ 3)

/-- REFRESH_DUE (R267, R268). -/
def execRefreshDue (pc : Nat) (s : State) : Host.Outcome State Fault Refusal :=
  reply (192 ≤ pc) <|
    (if s.pcRefreshed pc then s.setOwed pc (s.owed pc + 1) else s)

/-- DMC_STATUS.TrainStale follows the pseudo-channels (R272). -/
def State.noteStale (s : State) : State :=
  s.fset DMC_STATUS_TrainStale (if (List.range 192).any fun p => s.flag (DMC_PCSTAT_TrainStale p) then 1 else 0)

/-- The last temperature reading of a pseudo-channel's stack, in tenths of a degree. -/
def State.pcTemp (s : State) (pc : Nat) : Int := tget 0 s.dmc.temp (pc / 32)

/-- The pseudo-channel tags its training results with a load index (R271). -/
def State.pcTag (s : State) (pc load : Nat) : State :=
  let t := s.pcTemp pc
  let s := (s.fset (DMC_PCSTAT_TagTempC pc) (ofSigned 8 (t / 10))).fset (DMC_PCSTAT_TagLoadPct pc) load
  let s := (s.fset (DMC_PCSTAT_TrainStale pc) 0).noteStale
  { s with dmc := { s.dmc with steps := tset 0 s.dmc.steps pc 0, tagTemp := tset 0 s.dmc.tagTemp pc t } }

/-- The load index: the part of the data slots, 400,000,000 lines a second, that moved data over the last second, in percent; a
traffic generator that runs takes its share (R271). -/
def State.pcLoad (s : State) (pc : Nat) : Nat :=
  let gen := if s.flag DMC_CTRL_TGenRun then max 1 (s.fget DMC_TGEN_LoadPct) else 0
  min 100 (s.sumSecond (tget [] s.dmc.load pc) / 4000000 + gen)

/-- The pseudo-channel is stalled for n nanoseconds more. -/
def State.pcStall (s : State) (pc n : Nat) : State :=
  let t := max s.tim.ticks (tget 0 s.dmc.stall pc) + ceilDiv n 4
  { s with dmc := { s.dmc with stall := tset 0 s.dmc.stall pc t } }

/-- A retraining step after a refresh of a stale pseudo-channel (R272). -/
def State.pcRetrain (s : State) (pc : Nat) : State :=
  if s.flag (DMC_PCSTAT_TrainStale pc) then
    let s := s.pcStall pc (s.fget DMC_TIMING_StepNs)
    let taken := Config.dramStepTaken pc s.fresh
    let done := Config.dramConverged pc s.fresh
    let n := tget 0 s.dmc.steps pc + 1
    let s := s.draw
    if taken then
      let s := s.inc (DMC_RETRAIN pc)
      if done || decide (2048 ≤ n) then s.pcTag pc (s.pcLoad pc)
      else { s with dmc := { s.dmc with steps := tset 0 s.dmc.steps pc n } }
    else s
  else s

/-- Nanoseconds of tRFC (R267). -/
def State.trfc (s : State) : Nat := 5 * s.fget DMC_TIMING_Trfc

/-- Free refresh tokens of the 24 (R267). -/
def State.tokensFree (s : State) : Nat := 24 - (s.dmc.tokens.filter fun e => decide (s.tim.ticks < e.2)).length

/-- The pseudo-channel takes a token for tRFC, which stalls it (R267). -/
def State.takeToken (s : State) (pc : Nat) : State :=
  let held := s.dmc.tokens.filter fun e => decide (s.tim.ticks < e.2)
  ({ s with dmc := { s.dmc with tokens := held ++ [(pc, s.tim.ticks + ceilDiv s.trfc 4)] } }).pcStall pc s.trfc

/-- Pseudo-channels whose urgent refresh waits for a token only, ascending (R268). -/
def State.urgents (s : State) : List Nat :=
  (List.range 192).filter fun p => s.pcRefreshed p && s.pcUrgent p && !s.pcStalled p

/-- A token is free for the pseudo-channel: urgent refreshes come first, in ascending number (R268). -/
def State.tokenFor (s : State) (pc : Nat) : Bool :=
  let first := if s.pcUrgent pc then s.urgents.filter fun p => decide (p < pc) else s.urgents
  decide (first.length < s.tokensFree)

/-- One refresh of pseudo-channel pc is counted. -/
def State.refreshed (s : State) (pc : Nat) : State :=
  let s := s.when (s.pcUrgent pc) fun s => s.inc (DMC_URGENT pc)
  ((s.setOwed pc (s.owed pc - 1)).inc (DMC_REFCNT pc)).pmc (408 + pc / 8) 1

/-- REFRESH_ISSUE (R267, R268, R272): where a refresh is owed, the queues allow it or it is urgent, and a token is free. -/
def execRefreshIssue (pc : Nat) (s : State) : Host.Outcome State Fault Refusal :=
  reply (192 ≤ pc) <|
    if s.pcRefreshed pc && decide (1 ≤ s.owed pc) && !s.pcStalled pc && s.tokenFor pc then
      let s := s.pcTime pc
      if s.pcUrgent pc || decide (s.pcQueued pc < max 1 (s.fget DMC_CFG_PostponeDepth)) then
        ((s.takeToken pc).refreshed pc).pcRetrain pc
      else s
    else s

/-- TrainStale of a pseudo-channel by its tag (R272). -/
def State.pcStaleCheck (s : State) (pc : Nat) : State :=
  if (s.pcState pc = 2 ∨ s.pcState pc = 4 ∨ s.pcState pc = 5) ∧ s.flag (DMC_PCSTAT_TrainStale pc) = false then
    let dt := s.pcTemp pc - tget 0 s.dmc.tagTemp pc
    let dp := (s.pcLoad pc : Int) - s.fget (DMC_PCSTAT_TagLoadPct pc)
    if 100 < dt ∨ dt < -100 ∨ 50 < dp ∨ dp < -50 then
      ((s.fset (DMC_PCSTAT_TrainStale pc) 1).fset DMC_STATUS_TrainStale 1).raise 8
    else s
  else s

/-- The owed counts of a stack whose temperature class changes (R269). -/
def State.recount (s : State) (n : Nat) (hot : Bool) : State :=
  s.each ((List.range 32).map fun i => 32 * n + i) fun s pc =>
    s.setOwed pc (if hot then s.owed pc * 2 else (s.owed pc + 1) / 2)

/-- STACK_TEMP_READ (R267, R269, R272): a reading in tenths of a degree. DMC_STACK shows it rounded down. -/
def execStackTempRead (n : Nat) (tenths : Int) (s : State) : Host.Outcome State Fault Refusal :=
  reply (6 ≤ n ∨ tenths < -1280 ∨ 1279 < tenths) <|
    if s.dmcOn then
      let was := s.flag (DMC_STACK_Hot n)
      let hot := if 850 < tenths then true else if tenths ≤ 830 then false else was
      let s := (s.fset (DMC_STACK_TempC n) (ofSigned 8 (tenths / 10))).fset (DMC_STACK_Hot n) (if hot then 1 else 0)
      let s : State := { s with dmc := { s.dmc with temp := tset 0 s.dmc.temp n tenths } }
      let s := if hot = was then s else s.recount n hot;
      (s.each ((List.range 32).map fun i => 32 * n + i) State.pcStaleCheck)
    else s

/-! ## Training (R270, R271) -/

/-- The slots of the map below n_a are valid (R262). -/
def State.slotsValid (s : State) : State :=
  s.each (List.range 192) fun s i => s.fset (DMC_PCMAP_Valid i) (if i < s.nActive then 1 else 0)

/-- Software sets DMC_CTRL.Enable again: the slots below n_a are valid, and a trained pseudo-channel is ACTIVE in a slot and
RESERVE out of the map (R262). -/
def State.dmcEnable (s : State) : State :=
  (s.slotsValid.each ((List.range 192).filter fun p => s.pcState p = 2 ∨ s.pcState p = 4) fun s p =>
    s.fset (DMC_PCSTAT_State p) (if s.pcMapped p then 2 else 4)).noteReserve

/-- A pseudo-channel takes a state in which it serves nothing for a time; that it is RETIRED or FAILED is kept. -/
def State.pcAside (s : State) (p v : Nat) : State :=
  let st := s.pcState p
  let s : State := if 6 ≤ st then { s with dmc := { s.dmc with was := tset 0 s.dmc.was p st } } else s
  s.fset (DMC_PCSTAT_State p) v

/-- The controllers start at an entry to READY: the map's slots are valid and every pseudo-channel trains (R262, R270). -/
def State.dmcStart (s : State) : State :=
  let s := s.fset DMC_CTRL_Enable 1
  let s := s.slotsValid
  let s := s.each (List.range 192) fun s p => s.pcAside p 1
  { s.fset DMC_STATUS_Ready 0 with dmc := { s.dmc with train := [], again := [], slow := false, asleep := false } }

/-- Ready is set when no slot's pseudo-channel still trains, but for one that is out of service (R270). -/
def State.noteReady (s : State) : State :=
  let pend := (List.range s.nActive).any fun i =>
    decide (s.pcState (s.fget (DMC_PCMAP_Pc i)) < 2) && decide (tget 0 s.dmc.was (s.fget (DMC_PCMAP_Pc i)) = 0)
  if pend then s else s.fset DMC_STATUS_Ready 1

/-- DMC_CTRL.WarmTrain. -/
def State.dmcWarm (s : State) : State :=
  if s.dmcOn && s.flag DMC_STATUS_Ready then s.fset DMC_STATUS_WarmBusy 1 else s

/-- DMC_WARM_TRAIN (R271). -/
def execDmcWarmTrain (s : State) : Host.Outcome State Fault Refusal := .next (s.hostWrite DMC_CTRL State.dmcWarm)

/-- DMC_WARM_TRAIN_DONE (R271): the generator has run for 100 ms, and every active pseudo-channel retags. -/
def execDmcWarmTrainDone (s : State) : Host.Outcome State Fault Refusal := .next <|
  if s.flag DMC_STATUS_WarmBusy then
    let s := s.fset DMC_STATUS_WarmBusy 0
    let lines := 400000 * max 1 (s.fget DMC_TGEN_LoadPct);
    (s.each ((List.range 192).filter fun p => s.pcState p = 2) fun s p =>
      let s := s.addLines p lines
      s.pcTag p (s.pcLoad p))
  else s

/-! ## Self-refresh (R273) -/

/-- Every owed refresh of a pseudo-channel issues. -/
def State.refreshAll : Nat → Nat → State → State
  | 0, _, s => s
  | n + 1, pc, s => State.refreshAll n pc (s.refreshed pc)

/-- Queued requests and owed refreshes are done, the rows close, the stacks refresh themselves in every pseudo-channel, and DCLK stops
to the units. -/
def State.selfRefresh (s : State) : State :=
  let s := s.each (s.dmc.queue.map (·.1)) State.bankEmpty
  let s := s.each (List.range 192) fun s p => State.refreshAll (s.owed p) p s
  let s := s.each ((List.range 192).filter fun p => s.pcState p ≠ 0) fun s p => s.pcAside p 3
  let s := s.fset DMC_STATUS_Ready 0
  { s with dmc := { s.dmc with queue := [], row := [], drain := [], asleep := true } }

/-! ## Retirement (R263, R275 to R278) -/

/-- RETIRE_PLANNED (R275, R278). -/
def execRetirePlanned (pc : Nat) (s : State) : Host.Outcome State Fault Refusal :=
  reply (192 ≤ pc) <|
    (if s.dmcOn && s.pcMapped pc then s.retirePlanned pc else s)

/-- The bytes of one pseudo-channel at another's place. -/
def copyPc {α : Type} [DecidableEq α] (d : α) (t : Tbl α) (p q : Nat) : Tbl α :=
  let from' := t.filter fun e => e.1 / pcBytes = p
  from'.foldl (fun t e => tset d t (q * pcBytes + e.1 % pcBytes) e.2) (t.filter fun e => e.1 / pcBytes ≠ q)

/-- The lines of pseudo-channel p that read with wrong parity whatever their bytes: those of unwritten blocks of a clean map, and
those copied so (R275, R276). By block, the lines that are right. -/
def State.rightOf (s : State) (p : Nat) : Tbl Nat :=
  let clean := decide (tget 0 s.dmc.cleanOf (p / 8) = p + 1)
  let wrong := decide (tget 0 s.dmc.wrong p ≠ 0)
  let src := (if clean then s.dmc.cleanLines else s.dmc.rightLines).filter fun e => decide (e.1 / 196608 = p)
  src.filterMap fun e =>
    let m := if clean then (if e.2 = 2 ^ 64 - 1 then 2 ^ 64 - 1 else 0) else e.2
    let m := if clean && wrong then m &&& tget 0 s.dmc.rightLines e.1 else m
    if m = 0 then none else some (e.1 % 196608, m)

/-- Pseudo-channel p has such lines. -/
def State.hasWrong (s : State) (p : Nat) : Bool :=
  decide (tget 0 s.dmc.cleanOf (p / 8) = p + 1) || decide (tget 0 s.dmc.wrong p ≠ 0)

/-- Lines of p with a byte of wrong parity in the HBM tables. -/
def State.badLines (s : State) (p : Nat) : List Nat :=
  ((s.hbmBad.filter fun e => decide (e.1 / pcBytes = p)).map fun e => e.1 % pcBytes / 64).eraseDups

/-- Number of bits set among the low n. -/
def bitCount (m : Nat) : Nat → Nat
  | 0 => 0
  | n + 1 => bitCount m n + (if m.testBit n then 1 else 0)

/-- Lines of a pseudo-channel. -/
def pcLines : Nat := 12582912

/-- The copy of p counts and logs each line with a parity error once (R274, R278, R350): the lines that are not right whatever
their bytes, and of the others those with a byte of wrong parity. -/
def State.copyErrors (s : State) (p : Nat) : State :=
  let right := s.rightOf p
  let wrong := if s.hasWrong p then pcLines - right.foldl (fun a e => a + bitCount e.2 64) 0 else 0
  let bad := (s.badLines p).filter fun l => !s.hasWrong p || (tget 0 right (l / 64)).testBit (l % 64)
  let s := (s.incBy (DMC_PAR p) wrong).parities 6 p 0 wrong
  s.each bad fun s l => (s.inc (DMC_PAR p)).parity 6 p (64 * l % 2 ^ 32)

/-- What q holds of p's lines of wrong parity (R275). -/
def State.copyWrong (s : State) (p q : Nat) : State :=
  let right := (s.rightOf p).map fun e => (q * 196608 + e.1, e.2)
  let old := s.dmc.rightLines.filter fun e => decide (e.1 / 196608 ≠ q)
  { s with dmc := { s.dmc with
      wrong := tset 0 s.dmc.wrong q (if s.hasWrong p then 1 else 0)
      rightLines := if s.hasWrong p then right.foldl (fun t e => tset 0 t e.1 e.2) old else old
      cleanOf := tmod 0 s.dmc.cleanOf (p / 8) fun c => if c = p + 1 then 0 else c } }

/-- RETIRE_COPY_DONE (R275): the map switches p's slot to q, which has become COPYING. The lines copied have used data slots of
both (R271, log entry 308). -/
def execRetireCopyDone (pc : Nat) (s : State) : Host.Outcome State Fault Refusal :=
  reply (192 ≤ pc) <|
    match tget 0 s.dmc.copy pc with
      | 0 => s
      | q + 1 =>
        if s.pcState q ≠ 5 then s else
        let s := (((s.copyErrors pc).copyWrong pc q).addLines pc pcLines).addLines q pcLines
        let s : State := { s with
          hbm := copyPc 0 s.hbm pc q
          hbmBad := copyPc 0 s.hbmBad pc q
          dmc := { s.dmc with copy := tset 0 s.dmc.copy pc 0 } }
        let s := ((s.remapPc pc q).fset (DMC_PCSTAT_State q) 2).fset (DMC_PCSTAT_State pc) 6
        let s := (s.fset DMC_STATUS_RetireDone 1).raise 6
        s.noteReserve.log 0x14 0 pc q

/-- RETIRE_SUDDEN (R276 to R278). -/
def execRetireSudden (pc : Nat) (s : State) : Host.Outcome State Fault Refusal :=
  reply (192 ≤ pc) <|
    (if s.dmcOn && s.pcMapped pc then s.retireSudden pc else s)

/-- A write to DMC_RETIRE (R275, R276). -/
def State.retireCmd (s : State) (v : BitVec 32) : State :=
  let p := DMC_RETIRE_Pc.of v
  if DMC_RETIRE_Go.of v = 1 ∧ p < 192 ∧ s.flag DMC_CTRL_Enable = true ∧ s.pcMapped p = true then
    (if DMC_RETIRE_Sudden.of v = 1 then s.retireSudden p else s.retirePlanned p)
  else s

/-- Pseudo-channel p faults (R263, R276). Out of the map there is no slot to move: it is RETIRED, and a copy to it begins again on
the next reserve (log entry 307). -/
def State.pcFault (s : State) (p : Nat) : State :=
  if s.pcMapped p then s.retireSudden p
  else if s.pcState p = 1 ∨ s.pcState p = 4 ∨ s.pcState p = 5 then
    let from' := (s.dmc.copy.filter fun e => decide (e.2 = p + 1)).map (·.1)
    let s : State := { s.fset (DMC_PCSTAT_State p) 6 with dmc := { s.dmc with
      copy := s.dmc.copy.filter (fun e => decide (e.2 ≠ p + 1)), was := tset 0 s.dmc.was p 0 } }
    s.noteReserve.each from' State.retirePlanned
  else s

/-- COMMAND_ADDRESS_PARITY_ERROR (R263): the first error is answered by one reissue, which changes nothing the part
shows; a second one in the same command faults the pseudo-channel (R276). -/
def execCommandAddressParityError (pc : Nat) (second : Bool) (s : State) : Host.Outcome State Fault Refusal :=
  reply (192 ≤ pc) <|
    (if second && s.dmcOn then s.pcFault pc else s)

/-! ## The DMW window (R279) -/

/-- HBM address behind an offset of the window. -/
def State.dmwAddr (s : State) (off : Nat) : Nat := s.fget DMC_DMWBASE_Base * 2 ^ 28 + off

/-- A 4-byte read through the window: the word and the state after it. The whole line is read. -/
def State.dmwRead (s : State) (off : Nat) : BitVec 32 × State :=
  let a := s.dmwAddr off
  let v := BitVec.ofNat 32 (ofLe (s.hbmBytes a 4))
  let bad := s.hbmAnyBad a 4
  let s := s.noteRead a 4
  (v, if bad then (s.fset DMC_STATUS_DmwPar 1).parity 0x0D 0 (a % 2 ^ 32) else s)

/-- A 4-byte write through the window, with 4 strobes on. -/
def State.dmwWrite (s : State) (off : Nat) (v : BitVec 32) : State := s.hbmWrite (s.dmwAddr off) (leBytes 4 v.toNat)

/-- DMW_ACCESS (R279); it waits at a held crossing (R296). -/
def execDmwAccess (offset : Nat) (write : Option Word) (s : State) : Host.Outcome State Fault Refusal :=
  reply (2 ^ 28 ≤ offset) <|
    let off := offset / 4 * 4
    if s.dmcOn && !s.regHeld (0x10000000 + off) then
      match write with
      | some v => (s.dmwWrite off v)
      | none =>
        let (v, t) := s.dmwRead off
        t.emit (.dram (leBytes 4 v.toNat) ((List.range 4).map fun i => s.hbmByteBad (s.dmwAddr off + i)))
    else s

end Sys2Proof.Machine
end

