-- ==== Sys2Proof/Machine/Fec.lean ====
section
/-! DEFINITION. Lane FEC, RS(272,258) over GF(2^10) with the field polynomial x^10 + x^3 + 1 (R213): the field, the 14 parity
symbols of a codeword sent, and the decoding of a codeword received. The generator's roots are α^0 to α^13, and the first bit
of a symbol on the line is its least significant one (log 220). -/

namespace Sys2Proof.Machine

/-! ## The field -/

/-- Product by x. -/
def gfDouble (a : Nat) : Nat := let b := 2 * a; if b < 1024 then b else b ^^^ 1033

/-- Product of two field elements. -/
def gfMul (a b : Nat) : Nat :=
  if a = 0 then 0
  else (List.range 10).foldl (fun acc i => let d := gfDouble acc; if b.testBit (9 - i) then d ^^^ a else d) 0

/-- a^1022, which is the inverse of a. -/
def gfInv (a : Nat) : Nat :=
  ((List.range 9).foldl (fun x _ => let q := gfMul x.1 x.1; (q, gfMul x.2 q)) (a, 1)).2

/-- α^0 to α^(n-1). -/
def gfPowers (n : Nat) : List Nat := (List.range n).map fun i => (List.range i).foldl (fun a _ => gfDouble a) 1

/-- The generator polynomial, highest coefficient first, its leading 1 left out. -/
def fecGen : List Nat :=
  ((gfPowers 14).foldl (fun g r => List.zipWith (· ^^^ ·) (g ++ [0]) (0 :: g.map (gfMul r))) [1]).drop 1

/-! ## Parity (R213) -/

/-- A codeword starts. -/
def FecTx.start : FecTx := ⟨0, 0, 0, List.replicate 14 0⟩

/-- The 14 parity symbols of the message so far, with one more symbol. -/
def fecParity (rem : List Nat) (sym : Nat) : List Nat :=
  let fb := sym ^^^ rem.headD 0
  List.zipWith (fun a g => a ^^^ gfMul fb g) (rem.drop 1 ++ [0]) fecGen

/-- Whole symbols leave the bits that wait, the oldest first; the first argument bounds their number. Symbol 258 ends the
message, and the parity follows it. -/
def fecTake : Nat → FecTx → FecTx × List LineBlock
  | 0, f => (f, [])
  | n + 1, f =>
    if f.len < 10 then (f, [])
    else
      let p := fecParity f.rem (f.bits % 1024)
      let g := { f with bits := f.bits / 1024, len := f.len - 10, syms := f.syms + 1, rem := p }
      if g.syms = 258 then
        let r := fecTake n { g with syms := 0, rem := List.replicate 14 0 }
        (r.1, .parity p :: r.2)
      else fecTake n g

/-- Scrambled blocks fill the message bits of successive codewords in transmission order; the parity of a codeword stands after
the block that holds its last message bit (R213). -/
def fecLines : FecTx → List LineBlock → FecTx × List LineBlock
  | f, [] => (f, [])
  | f, .native w :: t =>
    let a := fecTake 7 { f with bits := f.bits + w * 2 ^ f.len, len := f.len + 66 }
    let r := fecLines a.1 t
    (r.1, .native w :: (a.2 ++ r.2))
  | f, b :: t => let r := fecLines f t; (r.1, b :: r.2)

/-! ## Decoding (R213) -/

/-- The 14 syndromes of a received codeword, its symbols in the order sent. -/
def fecSyndromes (c : List Nat) : List Nat := (gfPowers 14).map fun a => c.foldl (fun acc x => gfMul acc a ^^^ x) 0

/-- The search for the shortest error locator (Berlekamp and Massey): locator, its length, the locator before the last change
of length already shifted, and the discrepancy there. -/
structure FecLoc where
  loc : List Nat
  len : Nat
  prev : List Nat
  disc : Nat

/-- Two polynomials, lowest coefficient first, added. -/
def polyAdd : List Nat → List Nat → List Nat
  | [], b => b
  | a, [] => a
  | x :: a, y :: b => (x ^^^ y) :: polyAdd a b

/-- Syndrome n, with the syndromes before it, newest first. -/
def fecLocStep (n : Nat) (newest : List Nat) (f : FecLoc) : FecLoc :=
  let d := (List.zipWith gfMul f.loc newest).foldl (· ^^^ ·) 0
  if d = 0 then { f with prev := 0 :: f.prev }
  else
    let loc := polyAdd f.loc (f.prev.map (gfMul (gfMul d (gfInv f.disc))))
    if 2 * f.len ≤ n then ⟨loc, n + 1 - f.len, 0 :: f.loc, d⟩ else { f with loc := loc, prev := 0 :: f.prev }

def fecLocate : Nat → List Nat → List Nat → FecLoc → FecLoc
  | _, _, [], f => f
  | n, seen, s :: t, f => fecLocate (n + 1) (s :: seen) t (fecLocStep n (s :: seen) f)

/-- The error locator's roots among the 272 places of a codeword. -/
def fecRoots (loc : List Nat) : Nat :=
  let step := gfInv 2
  ((List.range 272).foldl (fun (x : Nat × Nat) _ =>
    (gfMul x.1 step, if loc.foldr (fun c acc => gfMul acc x.1 ^^^ c) 0 = 0 then x.2 + 1 else x.2)) (1, 0)).2

/-- Symbol errors of a received codeword where there are at most 7, which are corrected; none where it is uncorrectable. -/
def fecDecode (c : List Nat) : Option Nat :=
  let syn := fecSyndromes c
  if syn.all (· = 0) then some 0
  else
    let f := fecLocate 0 [] syn ⟨[1], 0, [0, 1], 1⟩
    if f.len ≤ 7 ∧ fecRoots f.loc = f.len then some f.len else none

end Sys2Proof.Machine
end

