-- ==== Sys2Proof/Machine/Line.lean ====
section
/-! DEFINITION. The codings of the serial lanes: native blocks and their scrambler (R209 to R211), legacy blocks with
scrambler and stuffing (R215, R216), and the line form of what a lane sends. -/

namespace Sys2Proof.Machine

/-! ## Native coding (R209, R210) -/

/-- n scrambled bits, n at most 39, of the bits d after the 58 line bits h, and the 58 line bits that then came last. Bit 57
of h is the latest; bit 0 of d is scrambled first. -/
def scramPart (n h d : Nat) : Nat × Nat :=
  let o := (d ^^^ h / 2 ^ 19 ^^^ h) % 2 ^ n
  (o, (h % 2 ^ 58 + o * 2 ^ 58) / 2 ^ n)

/-- The 64 bits of a block scrambled by x^58 + x^39 + 1. -/
def scramble (h d : Nat) : Nat × Nat :=
  let a := scramPart 39 h (d % 2 ^ 39)
  let b := scramPart 25 a.2 (d / 2 ^ 39)
  (a.1 + b.1 * 2 ^ 39, b.2)

/-- The 64 bits of a block descrambled. -/
def descramble (h o : Nat) : Nat × Nat :=
  let x := h % 2 ^ 58 + o % 2 ^ 64 * 2 ^ 58
  ((x / 2 ^ 58 ^^^ x / 2 ^ 19 ^^^ x) % 2 ^ 64, x / 2 ^ 64)

/-- A block with its sync header, 1 for data and 2 for control, and its 8 bytes, as it goes on the line. -/
def nativeLine (h : Nat) (b : Nat × List Byte) : LineBlock × Nat :=
  let o := scramble h (ofLe b.2)
  (.native (b.1 + 4 * o.1), o.2)

/-- Blocks one after another. -/
def nativeLines (h : Nat) : List (Nat × List Byte) → List LineBlock × Nat
  | [] => ([], h)
  | b :: t =>
    let x := nativeLine h b
    let r := nativeLines x.2 t
    (x.1 :: r.1, r.2)

/-- The bytes of an IDLE block (R210). -/
def idleBlock : List Byte := [0x1E, 0, 0, 0, 0, 0, 0, 0]

/-- A list filled with zero bytes to length n. -/
def padTo (n : Nat) (l : List Byte) : List Byte := (l ++ List.replicate (n - l.length) 0).take n

/-- Types of TERM0 to TERM7 (R210). -/
def termTypes : List Nat := [0x87, 0x99, 0xAA, 0xB4, 0xCC, 0xD2, 0xE1, 0xFF]

/-- n of TERMn (R210). -/
def termLen (ty : Nat) : Option Nat :=
  (termTypes.zip (List.range 8)).findSome? fun x => if x.1 = ty then some x.2 else none

/-- The TERM block of the last bytes. -/
def termBlock (r : List Byte) : Nat × List Byte := (2, BitVec.ofNat 8 (termTypes.getD (r.length % 8) 0) :: padTo 7 r)

/-- Data blocks and the TERM block; the first argument bounds their number. -/
def dataBlocks : Nat → List Byte → List (Nat × List Byte)
  | 0, r => [termBlock r]
  | n + 1, r => if 8 ≤ r.length then (1, r.take 8) :: dataBlocks n (r.drop 8) else [termBlock r]

/-- The blocks of a frame (R211). -/
def frameBlocks (f : List Byte) : List (Nat × List Byte) := (2, 0x78#8 :: padTo 7 (f.take 7)) :: dataBlocks f.length (f.drop 7)

/-! ## Legacy coding (R215, R216) -/

/-- The comma: 12 ones, then 12 zeros. -/
def legacyComma : List Bool := List.replicate 12 true ++ List.replicate 12 false

/-- The additive scrambler x^7 + x^6 + 1 over the bits after a comma, from its state. -/
def legacyScram : Nat → List Bool → List Bool
  | _, [] => []
  | st, b :: t =>
    let k := (st / 64 + st / 32) % 2
    (b != decide (k = 1)) :: legacyScram ((2 * st + k) % 128) t

/-- The stuffer: the last transmitted bit and how many identical ones stand before. -/
def stuffBits (last : Bool) : Nat → List Bool → List Bool
  | _, [] => []
  | run, b :: t =>
    let n := if run ≠ 0 ∧ b = last then run + 1 else 1
    if n = 9 then b :: (!b) :: stuffBits (!b) 1 t else b :: stuffBits b n t

/-- The destuffer. -/
def unstuffBits (last : Bool) : Nat → List Bool → List Bool
  | _, [] => []
  | run, b :: t => if run = 9 then unstuffBits b 1 t else b :: unstuffBits b (if run ≠ 0 ∧ b = last then run + 1 else 1) t

/-- The bits of a byte, most significant first. -/
def byteBits (b : Byte) : List Bool := (List.range 8).map fun i => b.getLsbD (7 - i)

/-- The byte of eight bits, most significant first. -/
def bitsByte (l : List Bool) : Byte := BitVec.ofNat 8 (l.foldl (fun a b => 2 * a + (if b then 1 else 0)) 0)

/-- The bytes of a bit string; the first argument bounds their number. -/
def bitsBytes : Nat → List Bool → List Byte
  | 0, _ => []
  | n + 1, l => bitsByte (l.take 8) :: bitsBytes n (l.drop 8)

/-- A legacy block as it goes on the line: type and 256 payload bytes. -/
def legacyLine (b : Nat × List Byte) : LineBlock :=
  .legacy (legacyComma ++ stuffBits false 0 (legacyScram 127 ((BitVec.ofNat 8 b.1 :: b.2).flatMap byteBits)))

/-- Type and payload of a legacy block on the line; none where it is no such block. -/
def legacyRead (l : List Bool) : Option (List Byte) :=
  let d := legacyScram 127 (unstuffBits false 0 (l.drop 24))
  if l.take 24 = legacyComma ∧ d.length = 2056 then some (bitsBytes 257 d) else none

/-- The DATA and DATA_END blocks of the rest of a frame. -/
def legacyRest : Nat → List Byte → List (Nat × List Byte)
  | 0, r => [(0x92, BitVec.ofNat 8 r.length :: padTo 255 r)]
  | n + 1, r =>
    if 256 ≤ r.length then (0x90, r.take 256) :: legacyRest n (r.drop 256)
    else [(0x92, BitVec.ofNat 8 r.length :: padTo 255 r)]

/-- The legacy blocks of a frame (R216). -/
def legacyBlocks (f : List Byte) : List (Nat × List Byte) :=
  if f.length < 256 then [(0x93, BitVec.ofNat 8 f.length :: padTo 255 f)]
  else (0x91, f.take 256) :: legacyRest (f.length / 256) (f.drop 256)

/-- The last block of a frame is replaced by a bad one. -/
def badLast (bad : Nat × List Byte) (l : List (Nat × List Byte)) : List (Nat × List Byte) := l.take (l.length - 1) ++ [bad]

/-! ## What a lane sends -/

/-- Blocks of native lane p in the order sent, with the parity of each codeword that ends in them at S3 and S4 (R213). -/
def State.fecSend (s : State) (p : Nat) (b : List LineBlock) : State × List LineBlock :=
  if 3 ≤ s.fget (LN_STATUS_Step p) then
    let f := fecLines (tget FecTx.start s.ln.fecTx p) b
    ({ s with ln := { s.ln with fecTx := tset FecTx.start s.ln.fecTx p f.1 } }, f.2)
  else (s, b)

def isParity : LineBlock → Bool
  | .parity _ => true
  | _ => false

/-- Native blocks, or legacy blocks, in the line form that physical lane p sends them in. IDLE blocks have gone before, of which
the parity that fell among them is shown. -/
def State.onLine (s : State) (p : Nat) (native legacy : List (Nat × List Byte)) : State × List LineBlock :=
  if s.flag (LN_STATUS_Native p) then
    let idle := nativeLines (tget 0 s.ln.txScr p) (List.replicate (Config.idleBlocks p s.wireOut.length) (2, idleBlock))
    let r := nativeLines idle.2 native
    let i := s.fecSend p idle.1
    let f := i.1.fecSend p r.1
    ({ f.1 with ln := { f.1.ln with txScr := tset 0 f.1.ln.txScr p r.2 } }, i.2.filter isParity ++ f.2)
  else (s, legacy.map legacyLine)

/-- A frame leaves on physical lane p; `bad` ends it with a bad block (R247, R349). -/
def State.sendFrame (s : State) (p : Nat) (f : List Byte) (bad : Bool) : State :=
  let nat := if bad then badLast (2, padTo 8 []) (frameBlocks f) else frameBlocks f
  let leg := if bad then badLast (0xFF, padTo 256 []) (legacyBlocks f) else legacyBlocks f
  let r := s.onLine p nat leg
  r.1.emit (.frame p f bad r.2)

/-- A LINK message leaves on physical lane p (R218). -/
def State.sendLink (s : State) (p : Nat) (msg : List Byte) : State :=
  let r := s.onLine p [(2, 0x55#8 :: padTo 7 msg)] [(0xA0, padTo 256 msg)]
  r.1.emit (.link p msg r.2)

/-- A COMMA block leaves on physical lane p (R214). -/
def State.sendCommaOn (s : State) (p : Nat) (block : List Byte) : State :=
  let r := s.onLine p [(2, block)] []
  r.1.emit (.comma p block r.2)

/-! ## What a lane receives -/

/-- Sync header and bytes of a received block; the bytes of a legacy block are its type and payload (R209, R215). -/
def State.readLine (s : State) (l : Nat) : LineBlock → Option (Nat × List Byte)
  | .native w => some (w % 4, leBytes 8 (descramble (tget 0 s.ln.rxScr l) (w / 4)).1)
  | .legacy b => (legacyRead b).map fun x => (0, x)
  | .parity _ => none

/-- The descrambler after a received block. -/
def State.lineRead (s : State) (l : Nat) : LineBlock → State
  | .native w => { s with ln := { s.ln with rxScr := tset 0 s.ln.rxScr l (descramble (tget 0 s.ln.rxScr l) (w / 4)).2 } }
  | _ => s

/-- A block has the form of its coding: 66 bits, or a comma and a type and 256 bytes. -/
def blockOk (native : Bool) : LineBlock → Bool
  | .native w => native && decide (w < 2 ^ 66)
  | .legacy b => !native && (legacyRead b).isSome
  | .parity _ => false

/-- Line bits of a block. -/
def lineBits : LineBlock → Nat
  | .native _ => 66
  | .legacy b => b.length
  | .parity p => 10 * p.length

end Sys2Proof.Machine
end

