-- ==== Sys2Proof/Machine/Lanes.lean ====
section
/-! DEFINITION. Serial lanes (chapter 08): the bring-up ladder (R219 to R224), lock and FEC (R212, R213, R217), commas,
training tags and retraining (R214, R225, R226), LOS and LOL (R227), Degraded and Failing (R228). The swaps of R229 to
R234 that these lead to stand here too; their own commands are in `LaneSpare`. -/

namespace Sys2Proof.Machine

def State.lrun (s : State) (l : Nat) : LaneRun := tget LaneRun.off s.ln.run l
/-- A lane with no run: its comma counter goes on until the top rung (R214), and so does the record of the last second's blocks
(R225). -/
def LaneRun.rest (r : LaneRun) : LaneRun := { LaneRun.off with commaTx := r.commaTx, load := r.load }
def State.setRun (s : State) (l : Nat) (r : LaneRun) : State :=
  { s with ln := { s.ln with run := tset LaneRun.off s.ln.run l r } }
def State.modRun (s : State) (l : Nat) (f : LaneRun → LaneRun) : State := s.setRun l (f (s.lrun l))
def State.lswap (s : State) (l : Nat) : Option SwapSt := tget none s.ln.swap l
def State.setSwap (s : State) (l : Nat) (w : Option SwapSt) : State :=
  { s with ln := { s.ln with swap := tset none s.ln.swap l w } }

def State.lnState (s : State) (l : Nat) : Nat := s.fget (LN_STATUS_State l)
def State.lnStep (s : State) (l : Nat) : Nat := s.fget (LN_STATUS_Step l)
def State.lnNative (s : State) (l : Nat) : Bool := s.flag (LN_STATUS_Native l)

/-- The lane is UP: UP, or a spare idle or carrying. -/
def State.lnUp (s : State) (l : Nat) : Bool := decide (s.lnState l = 2) || decide (4 ≤ s.lnState l)

/-- The lane runs the ladder's rules: modes 0 to 2, not stopped. -/
def State.lnRuns (s : State) (l : Nat) : Bool := decide (s.lnMode l ≤ 2) && decide (s.lnState l ≠ 0)

/-! ## Link messages (R218) -/

def linkMsg (m b1 b2 : Nat) (rest : List Byte) : List Byte := [BitVec.ofNat 8 m, BitVec.ofNat 8 b1, BitVec.ofNat 8 b2] ++ rest

/-- Highest step of a lane; a code without a step acts as 0. -/
def State.lnMax (s : State) (l : Nat) : Nat :=
  let m := s.fget (LN_CFG_MaxStep l)
  if 4 < m then 0 else m

/-- This lane's CAPAB. -/
def State.capab (s : State) (l : Nat) : List Byte :=
  linkMsg 0 (32 + (if s.flag (LN_CFG_LegacyOnly l) then 0 else 16) + 8 + s.lnMax l) l (beBytes 4 (s.reg GLB_SERIAL_LO).toNat)

/-- A STEP_REQ or STEP_OK leaves lane l. -/
def State.sendStep (s : State) (l m step : Nat) : State := s.sendLink l (linkMsg m step 0 [0, 0, 0, 0])

/-! ## Swaps: which lane carries what (R229 to R234) -/

/-- The working lane whose swap uses spare p. -/
def State.swapOn (s : State) (p : Nat) : Option (Nat × SwapSt) :=
  (List.range 96).findSome? fun l =>
    match s.lswap l with
    | some w => if w.spare = p then some (l, w) else none
    | none => none

/-- The lanes that carry the transmit stream of working lane l. -/
def State.txLanes (s : State) (l : Nat) : List Nat :=
  match s.lswap l with
  | none => [l]
  | some w =>
    let old := if w.done then w.spare else l
    let new := if w.done then l else w.spare
    if w.done && !w.back then [w.spare]
    else match w.bridge with
      | .old => [old]
      | .atComma => [old]
      | .both => [old, new]
      | .new => [new]

/-- The working lane for which physical lane p delivers frames. -/
def State.rxFor (s : State) (p : Nat) : Option Nat :=
  match s.lswap p with
  | some w =>
    if w.done then (if w.back && w.taken then some p else none)
    else if w.taken || w.awaiting || w.oldAt then none else some p
  | none =>
    match s.swapOn p with
    | some (l, w) =>
      if w.done then (if w.back && (w.taken || w.oldAt) then none else some l) else if w.taken then some l else none
    | none => if s.lnMode p = 1 ∨ s.lnMode p = 2 then some p else none

/-- The working lane's traffic is carried by its spare. -/
def State.carried (s : State) (l : Nat) : Bool :=
  match s.lswap l with
  | some w => w.done
  | none => false

/-- R229: the spare named by l can protect it. -/
def State.spareOk (s : State) (l : Nat) : Bool :=
  let p := s.fget (LN_SPARE_Lane l)
  s.flag (LN_SPARE_Valid l) && decide (p < 96) && decide (p ≠ l) && decide (s.lnMode p = 0) &&
    decide (s.lnState l = 2) && decide (4 ≤ s.lnState p) && decide (s.lnStep l = s.lnStep p) && s.lnNative l && s.lnNative p &&
    decide (s.reg (LN_PEERTAG p) = s.reg (LN_PEERTAG l)) && s.flag (LN_PEER_SpareCap l)

/-- LN_STATUS.SpareMismatch of a working lane that names a spare. -/
def State.spareMismatch (s : State) (l : Nat) : Bool :=
  (decide (s.lnMode l = 1) || decide (s.lnMode l = 2)) && s.flag (LN_SPARE_Valid l) && !s.spareOk l

/-- The spare is free to take l. -/
def State.canProtect (s : State) (l : Nat) : Bool :=
  s.spareOk l && decide (s.lnState (s.fget (LN_SPARE_Lane l)) = 4) && (s.swapOn (s.fget (LN_SPARE_Lane l))).isNone &&
    (s.lswap l).isNone

def SwapSt.start (spare : Nat) : SwapSt where
  spare := spare
  sudden := false
  back := false
  bridge := .old
  aligned := false
  verified := false
  taken := false
  awaiting := false
  sentSw := false
  gotSw := false
  sentRel := false
  gotRel := false
  fails := 0
  done := false
  count := 0
  switch := none
  oldAt := false
  newAt := false
  buf := []

/-- A planned swap is abandoned (R230, R232). -/
def State.swapAbandon (s : State) (l : Nat) : State :=
  match s.lswap l with
  | none => s
  | some w =>
    let was := s.flag (LN_STATUS_SwapFail l)
    let s := s.setSwap l (if w.done then some { SwapSt.start w.spare with done := true, taken := true, count := w.count } else none)
    let s := s.fset (LN_STATUS_SwapFail l) 1
    if was then s else s.raiseLane l

/-- A planned swap begins at this end (R230 step 1). -/
def State.plannedSwap (s : State) (l : Nat) : State :=
  if s.canProtect l then
    let p := s.fget (LN_SPARE_Lane l)
    (s.setSwap l (some { SwapSt.start p with bridge := .atComma })).sendLink p (linkMsg 3 0 l [0, 0, 0, 0])
  else s

/-- A sudden swap begins, or a planned one becomes sudden (R231 step 1). -/
def State.suddenSwap (s : State) (l : Nat) (w : SwapSt) : State :=
  let w := { w with sudden := true, awaiting := true, taken := false, verified := false }
  let s := s.setSwap l (some { w with switch := none, oldAt := false, newAt := false, buf := [] })
  let s := s.sendLink w.spare (linkMsg 3 1 l [0, 0, 0, 0])
  s.modRun l fun r => { r with frame := none, frameBad := false }

/-! ## Tags (R225) -/

/-- Line bits of blocks in a second at the lane's rate step, lane FEC's parity left out (R207, R208). -/
def State.blockRate (s : State) (l : Nat) : Nat :=
  match s.lnStep l with
  | 0 => 1250000000
  | 1 => 10312500000
  | 2 => 28125000000
  | 3 => 53354779411
  | _ => 106709558823

/-- The load index: the part of the last second's blocks that carried frame bytes, in percent. -/
def State.loadPct (s : State) (l : Nat) : Nat :=
  min 100 (100 * s.sumSecond (s.lrun l).load / s.blockRate l)

/-- A block that carried frame bytes. -/
def State.addLoad (s : State) (l bits : Nat) : State := s.modRun l fun r => { r with load := s.addNow bits r.load }

/-- The lane tags its equaliser results. -/
def State.retag (s : State) (l : Nat) : State :=
  let t := Config.octetTempC (l / 8) s.fresh
  let p := s.loadPct l
  let s := (s.draw.fset (LN_TRAINTAG_TempC l) t.toNat).fset (LN_TRAINTAG_LoadPct l) p
  (s.fset (LN_STATUS_TrainStale l) 0).modRun l fun r => { r with retrain := 0 }

/-- One comma interval (or 64 legacy blocks) of R226: staleness is judged, or retraining takes a step. -/
def State.retrainTick (s : State) (l : Nat) : State :=
  if s.flag (LN_STATUS_TrainStale l) then
    let n := (s.lrun l).retrain + 1
    if Config.laneConverged l s.fresh || decide (4096 ≤ n) then s.draw.retag l
    else s.draw.modRun l fun r => { r with retrain := n }
  else
    let t := toSigned 8 (Config.octetTempC (l / 8) s.fresh).toNat
    let p := s.loadPct l
    let dt := t - toSigned 8 (s.fget (LN_TRAINTAG_TempC l))
    let dp := (p : Int) - s.fget (LN_TRAINTAG_LoadPct l)
    let s := s.draw
    if 10 < dt ∨ dt < -10 ∨ 50 < dp ∨ dp < -50 then (s.fset (LN_STATUS_TrainStale l) 1).raise 8 else s

/-! ## A link going DOWN with a frame on its way in (R247) -/

/-- The physical lane that receives for working lane l. -/
def State.rxLane (s : State) (l : Nat) : Nat := ((List.range 96).find? fun p => decide (s.rxFor p = some l)).getD l

/-- The lane on which a frame that is still arriving on link l is being cut through (R247): it is for another node, its
header is complete and good, and the output is idle, at the same rate step, and holds credit. -/
def State.cutThrough (s : State) (l : Nat) (b : List Byte) : Option Nat :=
  let f := parseFrame b
  if s.linkUp l && fieldsOk b && typeRouted f.ty && decide (f.dest ≠ s.node) && decide (f.hops ≠ 0) then
    match s.routeOf f with
    | some m =>
      if m ≠ l ∧ s.lnStep m = s.lnStep l ∧ frameUnits (hdrLength b) ≤ s.credit m f.vc ∧ tget [] s.fab.llq m = [] ∧
        s.fab.txq.all (fun x => decide (x.link ≠ some m)) = true then some m else none
    | none => none
  else none

/-- The bytes sent of a frame that is cut through: its header as forwarded, and what has arrived of its payload. -/
def State.cutBytes (s : State) (m : Nat) (b : List Byte) : List Byte :=
  let f := parseFrame b
  let down := f.down || decide (s.fget (FAB_LCFG_Dir m) = 1)
  (gensyBytes { f with hops := f.hops - 1, down := down, payload := padTo (hdrLength b) f.payload }).take b.length

/-- A frame that is being cut through as its input link goes DOWN ends with a bad block (R247). -/
def State.cutOff (s : State) (l : Nat) : State :=
  match (s.lrun (s.rxLane l)).frame with
  | some (_, b) =>
    match s.cutThrough l b with
    | some m =>
      let s := (((s.inc FAB_FWDFRM).pmc 457 1).inc FAB_LINKLOSS).spend m (parseFrame b).vc (frameUnits (hdrLength b))
      s.each (s.txLanes m) fun s p => s.sendFrame p (s.cutBytes m b) true
    | none => s
  | none => s

/-- The link of lane l goes DOWN (R247, R249). -/
def State.linkLost (s : State) (l : Nat) : State := (s.cutOff l).linkDown l

/-! ## Leaving and reaching UP -/

/-- The lane leaves UP: the interrupt, and the link where the lane itself carries it (R224, R244). -/
def State.leaveUp (s : State) (l : Nat) : State :=
  if s.lnUp l then
    let s := s.raiseLane l
    let s := match s.lswap l with
      | some w => if w.done && !w.back then s else s.swapAbandon l
      | none => s
    if s.carried l then s else s.linkLost l
  else s

/-- The transmitter takes a rung and its coding; the codeword that it was sending ends there (R213, R221, R222). -/
def State.setRung (s : State) (l rung coding : Nat) : State :=
  let s := (s.fset (LN_STATUS_Step l) rung).fset (LN_STATUS_Native l) coding
  { s with ln := { s.ln with fecTx := tset FecTx.start s.ln.fecTx l FecTx.start } }

/-- The lane stands at S0 with legacy coding, its CAPAB to be sent (R219). -/
def State.ladderFrom (s : State) (l : Nat) : State :=
  let s := ((s.fset (LN_STATUS_State l) 1).modRun l fun r => { r.rest with phase := .capab }).setRung l 0 0
  ((s.fset (LN_STATUS_Capped l) 0).fset (LN_STATUS_TrainStale l) 0).fset (LN_STATUS_Lol l) 0

/-- A working lane whose spare is lost is FAILED (R232). Where its own signal or lock is lost it tries to regain them (R224);
otherwise its ladder restarts (R358, log 304). -/
def State.workingLost (s : State) (l : Nat) : State :=
  let s := (s.raiseLane l).fset (LN_STATUS_State l) 3
  if !s.flag (LN_CFG_Enable l) || !s.mclk then s
  else if decide ((s.lrun l).phase = .top) && (s.flag (LN_STATUS_Los l) || s.flag (LN_STATUS_Lol l)) then
    s.modRun l fun r => { r with phase := .relock, frame := none, frameBad := false }
  else s.ladderFrom l

/-- The stream that a lost spare carried has no lane left (R232). -/
def State.spareLost (s : State) (p : Nat) : State :=
  match s.swapOn p with
  | none => s
  | some (l, w) =>
    if w.done then (((s.linkLost l).setSwap l none).fset (LN_SPARE_ActiveFor p) 0).when (decide (s.lnState l ≠ 0)) fun s =>
      s.workingLost l
    else if w.sudden then (s.setSwap l none).workingLost l
    else s.swapAbandon l

/-- Lane l takes State v and ladder position r, leaving UP where it was. -/
def State.toState (s : State) (l v : Nat) (r : LaneRun) : State :=
  let s := (s.leaveUp l).spareLost l
  (s.fset (LN_STATUS_State l) v).setRun l r

/-- The ladder starts at S0 with legacy coding (R219). -/
def State.startLadder (s : State) (l : Nat) : State :=
  (s.toState l 1 { (s.lrun l).rest with phase := .capab }).ladderFrom l

/-- The lane stops: Enable 0, or LCLK is gone. -/
def State.laneStop (s : State) (l : Nat) : State :=
  if s.lnState l = 0 then s
  else
    let s := s.toState l 0 (s.lrun l).rest
    let s := s.setReg (LN_STATUS l) (s.reg (LN_STATUS l) &&& 0xC600#32)
    s.setSwap l (match s.lswap l with | some w => if w.done then some w else none | none => none)

/-- The ends swap from S back to L, which is UP (R234). -/
def State.returnStart (s : State) (l : Nat) (w : SwapSt) : State :=
  let w := { w with bridge := .atComma, aligned := false, verified := false, taken := false }
  (s.setSwap l (some w)).sendLink l (linkMsg 3 0 w.spare [0, 0, 0, 0])

/-- The lane is UP at its rung: its mode's traffic begins (R221, R222, R224). -/
def State.laneTop (s : State) (l : Nat) : State :=
  let s := s.fset (LN_STATUS_State l) (if s.lnMode l = 0 then 4 else 2)
  let s := s.modRun l fun r => { r with phase := .top, corr := [], corrNow := 0, uncNow := 0 }
  match s.lswap l with
  | some w => if w.done && w.back then s.returnStart l w else s
  | none => s.linkChecking l

/-- The top rung is reached by the ladder: the comma counter restarts (R214). -/
def State.ladderTop (s : State) (l : Nat) : State :=
  (s.modRun l fun r => { r with commaTx := 0 }).laneTop l

/-- STEP_REQ for the next rung is sent (R221 step 1). -/
def State.requestStep (s : State) (l : Nat) : State :=
  (s.modRun l fun r => { r with phase := .request, reqTx := true }).sendStep l 1 ((s.lrun l).rung + 1)

/-- Both CAPAB messages are known: ceiling and coding by R220. -/
def State.capabDone (s : State) (l : Nat) : State :=
  let legacy := s.flag (LN_CFG_LegacyOnly l) || decide (s.fget (LN_STATUS_PeerClass l) = 0) || !(s.lrun l).native
  let m := min (s.lnMax l) (s.fget (LN_PEER_MaxStep l))
  let c := if legacy then min m 2 else m
  let s := (s.modRun l fun r => { r with native := !legacy, ceil := c }).retag l
  if c = 0 then s.ladderTop l else s.requestStep l

/-- Rung n + 1 is reached (R221 step 5). -/
def State.stepReached (s : State) (l : Nat) : State :=
  let s := s.modRun l fun r => { r with rung := r.rung + 1, fails := 0, prevFails := r.fails, reqTx := false, okRx := 0 }
  let s := s.retag l
  if (s.lrun l).ceil ≤ (s.lrun l).rung then s.ladderTop l else s.requestStep l

/-- The coding in force at a rung. -/
def State.codingAt (s : State) (l rung : Nat) : Nat := if rung ≠ 0 && (s.lrun l).native then 1 else 0

/-- A step fails (R222): back to rung n, quiet time there. -/
def State.stepFail (s : State) (l : Nat) : State :=
  let s := s.inc (LN_STEPFAIL l)
  let r := s.lrun l
  (s.setRung l r.rung (s.codingAt l r.rung)).setRun l
    { r with phase := .backQuiet, fails := r.fails + 1, reqTx := false, reqRx := 0, okRx := 0 }

/-- Lock is lost at a rung that the peer has not reached: its step has failed and it has gone back, and this end does the same
(R222). The retries go on from those that this rung took (log 303). -/
def State.stepBack (s : State) (l : Nat) : State :=
  if (s.lrun l).rung = 0 then s
  else (s.modRun l fun r => { r with rung := r.rung - 1, fails := r.prevFails, prevFails := 0 }).stepFail l

/-- STEP_OK(n) has been exchanged after a failure: retry, or the final rung (R222). -/
def State.backDone (s : State) (l : Nat) : State :=
  let r := s.lrun l
  if r.fails < 4 then (s.setRun l { r with okRx := 0 }).requestStep l
  else
    let s := s.fset (LN_STATUS_Capped l) 1
    if r.rung = 0 && !Config.modeFitsS0 (s.lnMode l) then (s.fset (LN_STATUS_State l) 3).modRun l fun r => { r with phase := .idle }
    else s.ladderTop l

/-! ## Losing signal or lock (R224, R227, R228, R232) -/

/-- Lane l is FAILED without sparing; it tries to regain lock where it lost it, and its ladder restarts (R224, R232, R358,
log 304). -/
def State.laneFailed (s : State) (l : Nat) (lost : Bool) : State :=
  let s := s.toState l 3 { s.lrun l with phase := .relock, frame := none, frameBad := false }
  if lost then s else s.startLadder l

/-- An UP lane becomes Failing (R228); it leaves UP unless a spare protects it (R224, R231, R232, R358). A planned swap in progress
becomes sudden; where this end has its stream from the spare already, it stays there (log 306). -/
def State.laneFailing (s : State) (l : Nat) (lost : Bool) : State :=
  let s := if s.flag (LN_STATUS_Failing l) then s else (s.fset (LN_STATUS_Failing l) 1).raiseLane l
  if !s.lnUp l then s
  else if s.lnMode l = 0 then
    if (s.swapOn l).isSome then s.laneFailed l lost
    else if lost then s.toState l 1 { s.lrun l with phase := .relock } else s
  else
    match s.lswap l with
    | some w =>
      if w.done then s.laneFailed l lost
      else if w.awaiting || w.sudden && w.taken then s
      else if w.taken then (s.setSwap l (some { w with sudden := true })).sendLink w.spare (linkMsg 3 1 l [0, 0, 0, 0])
      else (s.linkLost l).suddenSwap l w
    | none =>
      let p := s.fget (LN_SPARE_Lane l)
      if s.canProtect l then (s.linkLost l).suddenSwap l (SwapSt.start p)
      else if s.flag (LN_SPARE_Valid l) && decide (p < 96) && decide (s.lnMode p = 0) && (s.swapOn p).isSome then
        s.laneFailed l lost
      else if lost then s.toState l 1 { s.lrun l with phase := .relock } else s.laneFailed l false

/-- LOS or LOL is asserted on lane l: what the ladder or the UP lane does. -/
def State.laneLoss (s : State) (l : Nat) : State :=
  match (s.lrun l).phase with
  | .quiet => s.stepFail l
  | .confirm => s.stepFail l
  | .request => s.stepBack l
  | .backConfirm => s.modRun l fun r => { r with phase := .backQuiet }
  | .top => s.laneFailing l true
  | .relockQuiet => s.startLadder l
  | _ => s

/-- LOL is asserted (R227). -/
def State.laneLol (s : State) (l : Nat) : State :=
  if s.flag (LN_STATUS_Lol l) then s
  else
    let s := (s.fset (LN_STATUS_Lol l) 1).inc (LN_LOLCNT l)
    (s.modRun l fun r => { r with blockLock := false, fecLock := false, legacyLock := false }).laneLoss l

/-! ## Ladder commands -/

/-- The Ethernet port of lane l is already in use by another enabled lane (R236). -/
def State.ethClash (s : State) (l : Nat) : Bool :=
  (List.range 96).any fun m => decide (m ≠ l) && s.flag (LN_CFG_Enable m) && decide (s.lnMode m = 3) &&
    decide (s.fget (LN_CFG_EthPort m) = s.fget (LN_CFG_EthPort l))

/-- An enabled lane starts: its ladder, or link training (R219, R236). -/
def State.laneStart (s : State) (l : Nat) : State :=
  if s.flag (LN_CFG_Enable l) && s.mclk then
    if s.lnMode l = 3 then s.toState l 1 LaneRun.off else s.startLadder l
  else s

/-- LN_CFG.Enable becomes 1. -/
def State.laneOn (s : State) (l : Nat) : State :=
  if s.flag (LN_CFG_Enable l) then s
  else if s.lnMode l = 3 && s.ethClash l then s.fset (LN_STATUS_ConfigErr l) 1
  else (s.fset (LN_CFG_Enable l) 1).laneStart l

/-- LANE_ENABLE (R219, R236). -/
def execLaneEnable (l : Nat) (s : State) : Host.Outcome State Fault Refusal :=
  reply (96 ≤ l) <|
    (s.hostEnable (LN_CFG_Enable l) fun s => s.laneOn l)

/-- LN_CMD.Restart. -/
def State.laneRestart (s : State) (l : Nat) : State :=
  if s.flag (LN_CFG_Enable l) && decide (s.lnMode l ≤ 2) && s.mclk then s.startLadder l else s

/-- LANE_RESTART (R219). -/
def execLaneRestart (l : Nat) (s : State) : Host.Outcome State Fault Refusal :=
  reply (96 ≤ l) <|
    (s.hostWrite (LN_CMD l) fun s => s.laneRestart l)

/-- CAPAB_SEND (R219, R220). -/
def execCapabSend (l : Nat) (s : State) : Host.Outcome State Fault Refusal :=
  reply (96 ≤ l) <|
    let r := s.lrun l
      if r.phase = .capab ∧ (r.capabTx && r.capabRx) = false then
        let s := (s.sendLink l (s.capab l)).setRun l { r with capabTx := true }
        if r.capabRx then s.capabDone l else s
      else s

/-- CAPAB_RECEIVE (R218, R220); in Sprout mode the lane takes its own CAPAB as its peer's (R344). -/
def execCapabReceive (l : Nat) (msg : List Byte) (s : State) : Host.Outcome State Fault Refusal :=
  reply (96 ≤ l ∨ msg.length ≠ 7) <|
    let r := s.lrun l
      let msg := if s.sprout then s.capab l else msg
      if r.phase = .capab ∧ byteAt msg 0 = 0 then
        let b := byteAt msg 1
        let s := (s.fset (LN_PEER_SpareCap l) (b / 8 % 2)).fset (LN_PEER_MaxStep l) (b % 8)
        let s := (s.fset (LN_PEER_PeerLane l) (byteAt msg 2 % 128)).fset (LN_STATUS_PeerClass l) (b / 32)
        let s := s.setReg (LN_PEERTAG l) (BitVec.ofNat 32 (beAt msg 3 4))
        let s := s.setRun l { r with capabRx := true, native := decide (b / 16 % 2 = 1) }
        if r.capabTx then s.capabDone l else s
      else s

/-- CAPAB_TIMEOUT: S0 starts again (R219). -/
def execCapabTimeout (l : Nat) (s : State) : Host.Outcome State Fault Refusal :=
  reply (96 ≤ l) <|
    (if (s.lrun l).phase = .capab ∧ (s.lrun l).capabRx = false then s.startLadder l else s)

/-- STEP_REQ (R221 step 1). -/
def execStepReq (l target : Nat) (s : State) : Host.Outcome State Fault Refusal :=
  reply (96 ≤ l ∨ 8 ≤ target) <|
    (if s.lnState l = 1 then s.modRun l fun r => { r with reqRx := target } else s)

/-- STEP_SWITCH (R221 step 2). -/
def execStepSwitch (l : Nat) (s : State) : Host.Outcome State Fault Refusal :=
  reply (96 ≤ l) <|
    let r := s.lrun l
      if r.phase = .request ∧ r.reqTx = true ∧ r.reqRx = r.rung + 1 then
        let s := s.setRung l (r.rung + 1) (s.codingAt l (r.rung + 1))
        s.setRun l { r with
          phase := .adapt, blockLock := false, fecLock := false, legacyLock := false, uncRun := 0, corRun := 0
          cwPhase := 10, cwBad := false, cwPrev := false, cwFirst := false }
      else s

/-- RECEIVER_LOCK (R221 step 3). -/
def execReceiverLock (l : Nat) (s : State) : Host.Outcome State Fault Refusal :=
  reply (96 ≤ l) <|
    if (s.lrun l).phase = .adapt then
      let nat := s.lnNative l
      let s := s.fset (LN_STATUS_Lol l) 0;
      (s.modRun l fun r => { r with
        phase := .quiet, blockLock := nat, fecLock := nat && decide (3 ≤ s.lnStep l), legacyLock := !nat })
    else s

/-- QUIET_DONE (R221 steps 4 and 5, R222, R224). -/
def execQuietDone (l : Nat) (s : State) : Host.Outcome State Fault Refusal :=
  reply (96 ≤ l) <|
    let r := s.lrun l
      if s.flag (LN_STATUS_Los l) || s.flag (LN_STATUS_Lol l) then s
      else match r.phase with
        | .quiet =>
          let s := (s.setRun l { r with phase := .confirm }).sendStep l 2 (r.rung + 1)
          if r.okRx = r.rung + 2 then s.stepReached l else s
        | .backQuiet =>
          let s := (s.setRun l { r with phase := .backConfirm }).sendStep l 2 r.rung
          if r.okRx = r.rung + 1 then s.backDone l else s
        | .relockQuiet => (s.laneTop l)
        | _ => s

/-- STEP_OK (R221 step 5, R222). -/
def execStepOk (l step : Nat) (s : State) : Host.Outcome State Fault Refusal :=
  reply (96 ≤ l ∨ 8 ≤ step) <|
    if s.lnState l = 1 then
      let s := s.modRun l fun r => { r with okRx := step + 1 }
      let r := s.lrun l;
      (if r.phase = .confirm ∧ step = r.rung + 1 then s.stepReached l
        else if r.phase = .backConfirm ∧ step = r.rung then s.backDone l else s)
    else s

/-- STEP_TIMEOUT (R221 steps 3 and 5, R222). -/
def execStepTimeout (l : Nat) (s : State) : Host.Outcome State Fault Refusal :=
  reply (96 ≤ l) <|
    (if (s.lrun l).phase = .adapt ∨ (s.lrun l).phase = .confirm then s.stepFail l else s)

/-- LOCK_LOSS_RETRY (R224). -/
def execLockLossRetry (l : Nat) (regained : Bool) (s : State) : Host.Outcome State Fault Refusal :=
  reply (96 ≤ l) <|
    if (s.lrun l).phase = .relock then
      (if regained then
        (s.fset (LN_STATUS_Lol l) 0).modRun l fun r => { r with phase := .relockQuiet }
      else s.startLadder l)
    else s

/-! ## Lock, FEC, signal -/

/-- BLOCK_LOCK (R212). -/
def execBlockLock (l : Nat) (s : State) : Host.Outcome State Fault Refusal :=
  reply (96 ≤ l) <|
    (if s.lnRuns l && s.lnNative l then
        (s.modRun l fun r => { r with blockLock := true }).when (decide (s.lnStep l < 3)) fun s => s.fset (LN_STATUS_Lol l) 0
      else s)

/-- BLOCK_LOCK_LOSS (R212): LOL. -/
def execBlockLockLoss (l : Nat) (s : State) : Host.Outcome State Fault Refusal :=
  reply (96 ≤ l) <|
    (if s.lnRuns l && s.lnNative l && (s.lrun l).blockLock then s.laneLol l else s)

/-- LEGACY_LOCK (R217). -/
def execLegacyLock (l : Nat) (s : State) : Host.Outcome State Fault Refusal :=
  reply (96 ≤ l) <|
    (if s.lnRuns l && !s.lnNative l then
        (s.modRun l fun r => { r with legacyLock := true }).fset (LN_STATUS_Lol l) 0
      else s)

/-- LEGACY_LOCK_LOSS (R217): LOL. -/
def execLegacyLockLoss (l : Nat) (s : State) : Host.Outcome State Fault Refusal :=
  reply (96 ≤ l) <|
    (if s.lnRuns l && !s.lnNative l && (s.lrun l).legacyLock then s.laneLol l else s)

/-- A correctable codeword (R213). -/
def State.fecGood (s : State) (l n : Nat) : State :=
  let r := s.lrun l
  let lock := r.fecLock || decide (3 ≤ r.corRun)
  let s := (s.incBy (LN_FECCORR l) n).setRun l { r with
    uncRun := 0, corRun := r.corRun + 1, corrNow := r.corrNow + n, fecLock := lock
    cwPhase := (r.cwPhase + 1) % 11, cwPrev := r.cwBad, cwBad := false, cwFirst := true }
  s.when (lock && r.blockLock) fun s => s.fset (LN_STATUS_Lol l) 0

/-- An uncorrectable codeword (R213, R228). -/
def State.fecBad (s : State) (l : Nat) : State :=
  let r := s.lrun l
  let r := { r with
    uncRun := r.uncRun + 1, corRun := 0, uncNow := r.uncNow + 1
    cwPhase := (r.cwPhase + 1) % 11, cwPrev := r.cwBad, cwBad := true, cwFirst := true }
  let s := (s.inc (LN_FECUNC l)).setRun l r
  let s := s.when (decide (r.uncNow = 4)) fun s => s.laneFailing l false
  s.when ((s.lrun l).fecLock && decide (8 ≤ (s.lrun l).uncRun)) fun s => s.laneLol l

/-- FEC_CODEWORD (R213, R235). -/
def execFecCodeword (l : Nat) (read : FecRead) (s : State) : Host.Outcome State Fault Refusal :=
  reply (96 ≤ l ∨ !fecReadOk read) <|
    match read with
    | .ethernet n =>
      if s.lnMode l = 3 ∧ s.lnState l = 2 then
        (if n ≤ 15 then s.incBy (LN_ETHFECC l) n else s.inc (LN_ETHFECU l)) else s
    | .lane c =>
      if s.lnRuns l && s.lnNative l && decide (3 ≤ s.lnStep l) then
        (match fecDecode c with
        | some n => s.fecGood l n
        | none => s.fecBad l)
      else s

/-- LOS_ASSERT (R227). -/
def execLosAssert (l : Nat) (s : State) : Host.Outcome State Fault Refusal :=
  reply (96 ≤ l) <|
    if s.lnState l = 0 || s.flag (LN_STATUS_Los l) then s
    else (((s.fset (LN_STATUS_Los l) 1).inc (LN_LOSCNT l)).laneLoss l)

/-- LOS_CLEAR (R227). -/
def execLosClear (l : Nat) (s : State) : Host.Outcome State Fault Refusal :=
  reply (96 ≤ l) <|
    (s.fset (LN_STATUS_Los l) 0)

/-- LOL_ASSERT: clock recovery loses lock (R227). -/
def execLolAssert (l : Nat) (s : State) : Host.Outcome State Fault Refusal :=
  reply (96 ≤ l) <|
    (if s.lnState l = 0 then s else s.laneLol l)

/-! ## Warm training (R225) -/

/-- LN_CMD.WarmTrain. -/
def State.laneWarm (s : State) (l : Nat) : State :=
  if s.lnUp l && decide (s.lnMode l ≤ 2) then (s.modRun l fun r => { r with warm := true }).emit (.generator l) else s

/-- LANE_WARM_TRAIN (R225). -/
def execLaneWarmTrain (l : Nat) (s : State) : Host.Outcome State Fault Refusal :=
  reply (96 ≤ l) <|
    (s.hostWrite (LN_CMD l) fun s => s.laneWarm l)

/-- LANE_WARM_TRAIN_DONE (R225). -/
def execLaneWarmTrainDone (l : Nat) (s : State) : Host.Outcome State Fault Refusal :=
  reply (96 ≤ l) <|
    (if (s.lrun l).warm then (s.modRun l fun r => { r with warm := false }).retag l else s)

end Sys2Proof.Machine
end

