-- ==== Sys2Proof/Machine/LaneSpare.lean ====
section
/-! DEFINITION. Received blocks and commas of the lanes (R210, R211, R213, R214, R216), hitless sparing (R229 to R234) and the Ethernet
subset (R235, R236). -/

namespace Sys2Proof.Machine

/-! ## Frames -/

/-- A frame in progress is discarded and counted; with `rest` its later blocks are ignored. -/
def State.frameDrop (s : State) (l : Nat) (rest : Bool) : State :=
  (s.when ((s.lrun l).frame.isSome && !(s.lrun l).frameWarm) fun s => s.inc (LN_FRERR l)).modRun l fun r =>
    { r with frame := none, frameBad := rest }

/-- The swap whose new lane is p. -/
def State.swapNew (s : State) (p : Nat) : Option (Nat × SwapSt) :=
  match s.lswap p with
  | some w => if w.done && w.back then some (p, w) else none
  | none =>
    match s.swapOn p with
    | some (l, w) => if w.done then none else some (l, w)
    | none => none

/-- The swap whose old lane is p. -/
def State.swapOld (s : State) (p : Nat) : Option (Nat × SwapSt) :=
  match s.lswap p with
  | some w => if w.done then none else some (p, w)
  | none =>
    match s.swapOn p with
    | some (l, w) => if w.done && w.back then some (l, w) else none
    | none => none

/-- Frames enter the receive queue of working lane w. -/
def State.rxPut (s : State) (w : Nat) (fs : List (Nat × List Byte)) : State :=
  { s with ln := { s.ln with rxq := tmod [] s.ln.rxq w fun q => q ++ fs } }

/-- A good frame goes to the unit of the working lane whose stream it is; in Sprout mode to none (R206, R344). The frames of
a new lane that is ahead of the old one wait for its comma (R230), and the generator's are discarded (R225). -/
def State.frameDeliver (s : State) (l : Nat) (f : Nat × List Byte) : State :=
  let warm := (s.lrun l).frameWarm
  let s := s.modRun l fun r => { r with frame := none, frameBad := false }
  if s.lnUp l && !s.sprout && !warm then
    match s.rxFor l with
    | some w => (s.pmc (288 + l) 1).rxPut w [f]
    | none =>
      match s.swapNew l with
      | some (w, x) => if x.newAt && !x.taken then s.setSwap w (some { x with buf := x.buf ++ [f] }) else s
      | none => s
  else s

/-- A frame begins; its first block is stamped (R196). -/
def State.frameOpen (s : State) (l : Nat) (bs : List Byte) : State :=
  (s.modRun l fun r => { r with frame := some (s.stamp, bs), frameBad := false }).draw

/-- A bad block (R210, R216). -/
def State.badBlock (s : State) (l : Nat) : State := (s.inc (LN_BADBLK l)).frameDrop l (s.lrun l).frame.isSome

/-- The lane on which the messages of a swap travel: the new one. -/
def SwapSt.newLane (w : SwapSt) (l : Nat) : Nat := if w.done then l else w.spare

/-- A swap to the spare, or back from it, is complete when its messages have gone both ways (R230 step 5, R234). -/
def State.swapSettle (s : State) (l : Nat) : State :=
  match s.lswap l with
  | none => s
  | some w =>
    if w.sentSw && w.gotSw then
      if w.done then
        let s := if w.sentRel then s else s.sendLink l (linkMsg 5 0 l [0, 0, 0, 0])
        if w.gotRel then
          let s := (s.setSwap l none).fset (LN_SPARE_ActiveFor w.spare) 0
          let s := s.modRun l fun r => { r with commaTx := w.count }
          let s := s.fset (LN_STATUS_State w.spare) (if s.lnState w.spare = 5 then 4 else s.lnState w.spare)
          (s.inc (LN_SWAPS l)).log 0x13 0 l (w.spare + 512)
        else s.setSwap l (some { w with sentRel := true })
      else
        let n := (s.lrun l).commaTx
        let s := s.setSwap l (some { SwapSt.start w.spare with done := true, taken := true, sudden := w.sudden, count := n })
        let s := (s.raiseLane l).fset (LN_STATUS_State l) 3
        let s := s.modRun l LaneRun.rest
        let s := (s.fset (LN_STATUS_State w.spare) 5).fset (LN_SPARE_ActiveFor w.spare) l
        (s.inc (LN_SWAPS l)).log 0x13 0 l (w.spare + (if w.sudden then 256 else 0))
    else s

/-- The receive stream of l comes from the new lane from this comma on; SWITCHED is sent (R230 step 4, R231 step 3). -/
def State.takeStream (s : State) (l count : Nat) (w : SwapSt) : State :=
  let s := (s.rxPut l w.buf).pmc (288 + w.newLane l) w.buf.length
  let s := s.setSwap l (some { w with taken := true, awaiting := false, verified := true, sentSw := true, buf := [] })
  let old := if w.done then w.spare else l
  let s := s.sendLink (w.newLane l) (linkMsg 4 0 old (beBytes 2 count ++ [0, 0]))
  let s := if w.sudden && !w.done then s.linkChecking l else s
  s.swapSettle l

/-! ## Commas (R214) -/

/-- The CommaCount that stream l sends next: that of the carried stream, or of the lane itself. -/
def State.nextComma (s : State) (l : Nat) (carried : Bool) : Nat :=
  match carried, s.lswap l with
  | true, some w => w.count
  | _, _ => (s.lrun l).commaTx

/-- The count after it. -/
def State.bumpComma (s : State) (l n : Nat) (carried : Bool) : State :=
  match carried, s.lswap l with
  | true, some w => s.setSwap l (some { w with count := (n + 1) % 65536 })
  | _, _ => s.modRun l fun r => { r with commaTx := (n + 1) % 65536 }

/-- A COMMA block of stream l leaves on the given lanes; `carried`: the stream that a spare carries for l. -/
def State.sendComma (s : State) (l : Nat) (carried : Bool) (on : List Nat) : State :=
  let n := s.nextComma l carried
  (s.bumpComma l n carried).each on fun s p =>
    s.sendCommaOn p ([0x4B, 0x1B, BitVec.ofNat 8 l, 0] ++ leBytes 2 n ++ [0, 0])

/-- The transmit stream on physical lane p is its own, or that of a working lane. -/
def State.txStream (s : State) (p : Nat) : Option Nat :=
  match s.lswap p with
  | some w =>
    if w.done then
      (if !w.back then none
      else match w.bridge with
        | .old => some p
        | .atComma => some p
        | _ => none)
    else if w.bridge = .new then none else some p
  | none =>
    match s.swapOn p with
    | none => some p
    | some (l, w) =>
      if w.done then (if w.back && decide (w.bridge = .new) then some p else some l)
      else match w.bridge with
        | .both => none
        | .new => some l
        | _ => some p

/-- COMMA_SEND (R214); a swap that waits for the next comma begins to bridge (R230). -/
def execCommaSend (l : Nat) (s : State) : Host.Outcome State Fault Refusal :=
  reply (96 ≤ l) <|
    if s.lnRuns l && s.lnNative l then
      match s.txStream l with
      | none => s
      | some w =>
        let s := match s.lswap w with
          | some x => if decide (x.bridge = Bridge.atComma) && (decide (w = l) != x.done) then s.setSwap w (some { x with bridge := .both }) else s
          | none => s
        (if w = l && s.carried w then s.sendComma w false [l] else s.sendComma w (s.carried w) (s.txLanes w))
    else s

/-- Lane l becomes Degraded (R228), which starts a planned swap where AutoSpare is 1 (R230). -/
def State.laneDegraded (s : State) (l : Nat) : State :=
  if s.flag (LN_STATUS_Degraded l) then s
  else
    let s := (s.fset (LN_STATUS_Degraded l) 1).raiseLane l
    if s.flag (LN_CFG_AutoSpare l) && decide (s.lnMode l ≠ 0) then s.plannedSwap l else s

/-- The end of a comma interval on lane l: the trend of corrected symbols, and staleness while it is UP (R226, R228). -/
def State.commaInterval (s : State) (l : Nat) : State :=
  let r := s.lrun l
  let full := decide (63 ≤ r.corr.length)
  let sum := r.corr.foldl (· + ·) 0 + r.corrNow
  let s := s.setRun l { r with corr := (r.corrNow :: r.corr).take 63, corrNow := 0, uncNow := 0 }
  let s := s.when (s.lnUp l) fun s => s.retrainTick l
  s.when (full && decide (64 * s.fget (LN_FECCFG_TrendLimit l) < sum)) fun s => s.laneDegraded l

/-- The old lane of a swap of l. -/
def SwapSt.oldLane (w : SwapSt) (l : Nat) : Nat := if w.done then w.spare else l

/-- Comma `count` of the stream of l has come on one of the two lanes of a verified planned swap, `other` being the last that
has come on the other one. The next comma that both have still to receive is that of the switch, and the new lane's stream
is taken when both have received it (R230 step 4). -/
def State.switchAt (s : State) (l count other : Nat) (onNew : Bool) (w : SwapSt) : State :=
  let n := w.switch.getD (if other = count then (count + 1) % 65536 else count)
  let hit := decide (n = count)
  let w := { w with switch := some n, oldAt := w.oldAt || (hit && !onNew), newAt := w.newAt || (hit && onNew) }
  if w.oldAt && w.newAt then s.takeStream l n w else s.setSwap l (some w)

/-- A measured skew is within the tolerance of 2 µs (R230 step 3). -/
def skewOk (v : BitVec 32) : Bool := decide (v.toInt.natAbs ≤ 2000000)

/-- A comma of stream l (by the peer's number) on its new lane: recognition and alignment by CommaCount, switch (R230 steps 3
and 4, R231). The copy may lead the old lane by part of an interval or follow it. -/
def State.swapComma (s : State) (l sender count : Nat) (w : SwapSt) : State :=
  if sender = s.fget (LN_PEER_PeerLane (w.oldLane l)) ∨ sender = s.fget (LN_PEER_PeerLane l) then
    if w.taken then s
    else if w.awaiting then s.takeStream l count { w with aligned := true }
    else
      let other := (s.lrun (w.oldLane l)).commaRx
      let skew := Config.laneSkew l s.fresh
      let near := decide (count = other ∨ count = (other + 1) % 65536)
      let s := if w.aligned then s else s.draw.setReg (LN_SKEW l) skew
      let w := if near then { w with aligned := w.aligned || skewOk skew } else { w with aligned := false, verified := false }
      if w.verified then s.switchAt l count other true w else s.setSwap l (some w)
  else s

/-- A comma on the old lane of a swap of l. -/
def State.swapOldComma (s : State) (l count : Nat) (w : SwapSt) : State :=
  if w.verified && !w.taken && !w.awaiting then s.switchAt l count (s.lrun (w.newLane l)).commaRx false w else s

/-- A COMMA block has come on lane l (R210, R214, R226, R228, R230, R231). -/
def State.commaIn (s : State) (l : Nat) (block : List Byte) : State :=
  if byteAt block 1 ≠ 0x1B then s.badBlock l
  else
    let count := ofLe ((block.drop 4).take 2)
    let s := (s.modRun l fun r => { r with commaRx := count }).commaInterval l
    let s := match s.swapNew l with
      | some (w, x) => s.swapComma w (byteAt block 2) count x
      | none => s
    match s.swapOld l with
    | some (w, x) => s.swapOldComma w count x
    | none => s

/-! ## Received blocks -/

/-- The block is marked errored by R213: it has a bit in an uncorrectable codeword. The 2,580 message bits of eleven
codewords hold 430 blocks, so the first block that ends in a codeword straddles it and the one before, but for one
codeword in eleven. -/
def State.blockErrored (s : State) (l : Nat) : Bool :=
  let r := s.lrun l
  decide (3 ≤ s.lnStep l) && (r.cwBad || (r.cwFirst && r.cwPrev && decide (r.cwPhase ≠ 0)))

/-- One native block (R210, R211, R213): its sync header and bytes. -/
def State.nativeBlock (s : State) (l sync : Nat) (b : List Byte) : State :=
  let r := s.lrun l
  let bad := s.blockErrored l
  let s := s.modRun l fun r => { r with cwFirst := false }
  if bad then s.frameDrop l (r.frame.isSome || r.frameBad)
  else if sync = 1 then
    let s := s.addLoad l 66
    match r.frame with
    | some f => s.modRun l fun r => { r with frame := some (f.1, f.2 ++ b) }
    | none => if r.frameBad then s else (s.inc (LN_FRERR l)).modRun l fun r => { r with frameBad := true }
  else if sync = 2 then
    let ty := byteAt b 0
    if ty = 0x78 then ((s.addLoad l 66).frameDrop l false).frameOpen l (b.drop 1)
    else if ty = 0x1E then s.frameDrop l false
    else if ty = 0x55 then s
    else if ty = 0x4B then s.commaIn l b
    else match termLen ty with
      | some n =>
        let s := s.when (decide (0 < n)) fun s => s.addLoad l 66
        (match r.frame with
        | some f => s.frameDeliver l (f.1, f.2 ++ (b.drop 1).take n)
        | none => s.frameDrop l false)
      | none => s.badBlock l
  else s.badBlock l

/-- One legacy block: type byte, then 256 payload bytes (R216), which took `bits` on the line; staleness is judged once per
64 blocks (R226). -/
def State.legacyBlock (s : State) (l bits : Nat) (b : List Byte) : State :=
  let n := (s.lrun l).commaRx + 1
  let s := s.modRun l fun r => { r with commaRx := n % 64 }
  let s := s.when (decide (n = 64) && s.lnUp l) fun s => s.retrainTick l
  let r := s.lrun l
  let ty := byteAt b 0
  let p := b.drop 1
  let n := byteAt p 0
  let s := s.when (decide (ty = 0x90 ∨ ty = 0x91) || decide (ty = 0x92 ∨ ty = 0x93) && decide (0 < n)) fun s => s.addLoad l bits
  if ty = 0x80 ∨ ty = 0xA0 then s.frameDrop l false
  else if ty = 0x90 then
    match r.frame with
    | some f => s.modRun l fun r => { r with frame := some (f.1, f.2 ++ p) }
    | none => s
  else if ty = 0x91 then (s.frameDrop l false).frameOpen l p
  else if ty = 0x92 then
    match r.frame with
    | some f => s.frameDeliver l (f.1, f.2 ++ (p.drop 1).take n)
    | none => s
  else if ty = 0x93 then ((s.frameDrop l false).draw).frameDeliver l (s.stamp, (p.drop 1).take n)
  else s.badBlock l

/-- A block on lane l's line. -/
def State.lineBlock (s : State) (l : Nat) (b : LineBlock) : State :=
  match s.readLine l b with
  | some (sync, bytes) =>
    let s := s.lineRead l b
    if s.lnNative l then s.nativeBlock l sync bytes else s.legacyBlock l (lineBits b) bytes
  | none => s

/-- LANE_FRAME_RECEIVE (R206, R209, R211, R215, R216): the blocks that the lane has received. They wait while the crossing behind
the lane whose stream it is stands full or held (R295, R296). -/
def execLaneFrameReceive (l : Nat) (frame : LineFrame) (s : State) : Host.Outcome State Fault Refusal :=
  reply (96 ≤ l ∨ !frame.blocks.all (fun b => blockOk true b || blockOk false b)) <|
    if s.lnRuns l && frame.blocks.all (blockOk (s.lnNative l)) && !(s.rxFor l).any s.rxFull then
      ((s.modRun l fun r => { r with frameWarm := frame.warm }).each frame.blocks fun s b => s.lineBlock l b)
    else s

/-- The block on the line is a COMMA of native coding. -/
def State.commaBlock (s : State) (l : Nat) (block : LineBlock) : Option (List Byte) :=
  match s.readLine l block with
  | some (2, b) => if byteAt b 0 = 0x4B then some b else none
  | _ => none

/-- COMMA_RECEIVE (R210, R214, R226, R228, R230, R231). -/
def execCommaReceive (l : Nat) (block : LineBlock) (s : State) : Host.Outcome State Fault Refusal :=
  reply (96 ≤ l ∨ !blockOk true block) <|
    if s.lnRuns l && s.lnNative l then
      match s.commaBlock l block with
      | some b => (s.lineRead l block).commaIn l b
      | none => s
    else s

/-! ## Swap commands -/

/-- LN_CMD.SwapNow. -/
def State.swapNow (s : State) (l : Nat) : State :=
  if s.lnMode l = 1 ∨ s.lnMode l = 2 then s.plannedSwap l else s

/-- SWAP_NOW (R230). -/
def execSwapNow (l : Nat) (s : State) : Host.Outcome State Fault Refusal :=
  reply (96 ≤ l) <|
    (s.hostWrite (LN_CMD l) fun s => s.swapNow l)

/-- The working lane whose peer end has number n, of the device that lane p leads to (R230, R231). -/
def State.byPeer (s : State) (p n : Nat) : Option Nat :=
  (List.range 96).find? fun l => decide (s.lnMode l = 1 ∨ s.lnMode l = 2) && decide (s.fget (LN_PEER_PeerLane l) = n) &&
    decide (s.reg (LN_PEERTAG l) = s.reg (LN_PEERTAG p)) && decide (s.lnState l ≠ 0)

/-- A SPARE_REQ for working lane l on spare p (R230 step 2, R231 step 2). -/
def State.spareAsked (s : State) (p l : Nat) (sudden : Bool) : State :=
  let cur := match s.lswap l with
    | some w => if w.spare = p && !w.done then some w else none
    | none => if s.lnState l = 2 ∧ s.lnState p = 4 ∧ (s.swapOn p).isNone = true then some (SwapSt.start p) else none
  match cur with
  | none => s
  | some w =>
    if !sudden then s.setSwap l (some { w with bridge := if w.bridge = .old then .atComma else w.bridge })
    else
      let s := s.setSwap l (some { w with bridge := .new, sudden := true, verified := w.verified || w.aligned })
      let s := s.sendComma l false [p]
      if w.aligned || w.awaiting || w.taken then s
      else (s.linkLost l).suddenSwap l { w with bridge := .new, sudden := true }

/-- SPARE_REQ (R230, R231, R232, R234). -/
def execSpareReq (l : Nat) (msg : List Byte) (s : State) : Host.Outcome State Fault Refusal :=
  reply (96 ≤ l ∨ msg.length ≠ 7) <|
    if s.lnUp l && decide (byteAt msg 0 = 3) && decide (s.lnMode l = 0) then
      (match s.byPeer l (byteAt msg 2) with
        | some w => s.spareAsked l w (decide (byteAt msg 1 % 2 = 1))
        | none => s)
    else s

/-- SWAP_VERIFIED (R230 step 4). -/
def execSwapVerified (l : Nat) (clean : Bool) (s : State) : Host.Outcome State Fault Refusal :=
  reply (96 ≤ l) <|
    match s.lswap l with
      | none => s
      | some w =>
        if w.aligned && !w.taken && !w.sudden && !w.verified && (w.back || !w.done) then
          (if clean then s.setSwap l (some { w with verified := true })
            else if w.fails = 2 then s.swapAbandon l
            else s.setSwap l (some { w with fails := w.fails + 1 }))
        else s

/-- The comma that a SWITCHED names has been sent on stream l (R218). -/
def State.commaSent (s : State) (l count : Nat) : Bool :=
  decide ((s.nextComma l (s.carried l) + 65535 - count % 65536) % 65536 < 32768)

/-- SWITCHED (R218, R230 step 5, R231): the peer's own number of the lane left names the swap, and its CommaCount the comma. -/
def execSwitched (l : Nat) (msg : List Byte) (s : State) : Host.Outcome State Fault Refusal :=
  reply (96 ≤ l ∨ msg.length ≠ 7) <|
    if decide (byteAt msg 0 = 4) then
      match s.swapNew l with
      | some (w, x) =>
        let old := if x.done then x.spare else w;
        (if byteAt msg 2 = s.fget (LN_PEER_PeerLane old) ∧ s.commaSent w (beAt msg 3 2) = true then
          (s.setSwap w (some { x with gotSw := true })).swapSettle w else s)
      | none => s
    else s

/-- LN_CMD.Release: the lane runs its ladder, and a carried one returns when it is UP, or at once where it is UP already (R234).
Once it has begun to return, a further Release does nothing. -/
def State.laneRelease (s : State) (l : Nat) : State :=
  if s.flag (LN_CFG_Enable l) && s.mclk then
    match s.lswap l with
    | some w =>
      if !w.done then s
      else if w.back && decide (s.lnState l ≠ 3) then s
      else
        let w := { SwapSt.start w.spare with done := true, back := true, count := w.count }
        if s.lnState l = 3 then (s.setSwap l (some w)).startLadder l
        else if s.lnState l = 2 then s.returnStart l w
        else s.setSwap l (some w)
    | none => if s.lnState l = 3 then s.startLadder l else s
  else s

/-- RELEASE_COMMAND (R234). -/
def execReleaseCommand (l : Nat) (s : State) : Host.Outcome State Fault Refusal :=
  reply (96 ≤ l) <|
    (s.hostWrite (LN_CMD l) fun s => s.laneRelease l)

/-- RELEASE (R234). -/
def execRelease (l : Nat) (msg : List Byte) (s : State) : Host.Outcome State Fault Refusal :=
  reply (96 ≤ l ∨ msg.length ≠ 7) <|
    match s.lswap l with
      | some w =>
        (if byteAt msg 0 = 5 ∧ w.done = true ∧ w.back = true ∧ byteAt msg 2 = s.fget (LN_PEER_PeerLane l) then
          (s.setSwap l (some { w with gotRel := true })).swapSettle l else s)
      | none => s

/-! ## Ethernet lanes (R235, R236) -/

/-- ETH_LINK_UP (R236). -/
def execEthLinkUp (l : Nat) (s : State) : Host.Outcome State Fault Refusal :=
  reply (96 ≤ l) <|
    (if s.lnMode l = 3 ∧ s.lnState l = 1 then
      ((s.fset (LN_STATUS_State l) 2).fset (LN_STATUS_Step l) 5).fset (LN_STATUS_Lol l) 0 else s)

/-- ETH_LINK_DOWN (R175): the port is down; link training starts again. -/
def execEthLinkDown (l : Nat) (s : State) : Host.Outcome State Fault Refusal :=
  reply (96 ≤ l) <|
    (if s.lnMode l = 3 ∧ s.lnState l = 2 then
      ((s.raiseLane l).fset (LN_STATUS_State l) 1).fset (LN_STATUS_Step l) 0 else s)

/-- ETH_FRAME_RECEIVE: every frame is discarded and counted (R235). -/
def execEthFrameReceive (l : Nat) (s : State) : Host.Outcome State Fault Refusal :=
  reply (96 ≤ l) <|
    (if s.lnMode l = 3 ∧ s.lnState l = 2 then (s.inc (LN_ETHRXD l)).pmc (288 + l) 1 else s)

/-- ETH_COEFF_REQUEST: the transmit coefficient takes the step the peer asks for (R236). -/
def execEthCoeffRequest (l coef : Nat) (up : Bool) (s : State) : Host.Outcome State Fault Refusal :=
  reply (96 ≤ l ∨ 5 ≤ coef) <|
    (if s.lnMode l = 3 ∧ s.lnState l ≠ 0 then
      { s with ln := { s.ln with coeff := tmod 0 s.ln.coeff (5 * l + coef) fun c => if up then c + 1 else c - 1 } }
      else s)

end Sys2Proof.Machine
end

