-- ==== Sys2Proof/Machine/TimeEx.lean ====
section
/-! DEFINITION. The fabric time exchange (R198 to R200): messages, the election of the master, the slave's exchange. -/

namespace Sys2Proof.Machine

/-- StateClass (R198). -/
def State.timeClass (s : State) : Nat := if s.loopState = 2 then 0 else if s.loopState = 3 then 1 else 2
def State.timeRank (s : State) : Nat := s.fget TMB_FTCFG_TimeRank
def State.ftOn (s : State) : Bool := s.flag TMB_FTCFG_Enable
def State.ftMaster (s : State) : Bool := s.flag TMB_FTSTAT_IsMaster

/-- Order of keys (R199). -/
def keyLess (a b : Nat × Nat × Nat) : Bool :=
  decide (a.1 < b.1) || (decide (a.1 = b.1) && (decide (a.2.1 < b.2.1) || (decide (a.2.1 = b.2.1) && decide (a.2.2 < b.2.2))))

/-- This node's key. -/
def State.timeKey (s : State) : Nat × Nat × Nat := (s.timeRank, s.timeClass, s.node)

/-- A 32-byte TIME payload (R198). -/
def State.timePayload (s : State) (msg seq master req stamp : Nat) (corr : Int) : List Byte :=
  [BitVec.ofNat 8 (16 + msg), BitVec.ofNat 8 (s.timeRank * 16 + s.timeClass * 4)] ++ beBytes 2 seq ++ beBytes 2 master ++
    beBytes 2 req ++ beBytes 10 stamp ++ beBytes 4 (ofSigned 32 corr) ++ List.replicate 10 0

/-- Fields of a TIME payload. -/
def tmMsg (p : List Byte) : Nat := byteAt p 0 % 16
def tmKey (p : List Byte) : Nat × Nat × Nat := (byteAt p 1 / 16, byteAt p 1 / 4 % 4, beAt p 4 2 % 4096)
def tmSeq (p : List Byte) : Nat := beAt p 2 2
def tmMaster (p : List Byte) : Nat := beAt p 4 2 % 4096
def tmReq (p : List Byte) : Nat := beAt p 6 2 % 4096
def tmStamp (p : List Byte) : Nat := beAt p 8 10
def tmCorr (p : List Byte) : Int := toSigned 32 (beAt p 18 4)

/-- A TIME payload of the right form. -/
def tmOk (p : List Byte) : Bool := decide (p.length = 32) && decide (byteAt p 0 / 16 = 1) && decide (tmMsg p ≤ 3)

/-- A forwarding node adds its residence time to the Correction of a frame that is time-stamped (R199). -/
def addResidence (p : List Byte) (units : Int) : List Byte :=
  p.take 18 ++ beBytes 4 (ofSigned 32 (tmCorr p + units)) ++ p.drop 22

/-- A TIME frame is delivered with its receive stamp. -/
def State.timeDeliver (s : State) (rx : Nat) (p : List Byte) : State :=
  if tmOk p then { s with tim := { s.tim with timeq := s.tim.timeq ++ [⟨rx, p⟩] } } else s

/-- The oldest TIME frame, where it is of kind msg. -/
def State.timeTake (s : State) (msg : Nat) : Option (TimeMsg × State) :=
  match s.tim.timeq with
  | m :: rest => if tmMsg m.payload = msg then some (m, { s with tim := { s.tim with timeq := rest } }) else none
  | [] => none

/-! ## Election (R199) -/

def State.setExch (s : State) (l : List Exch) : State := { s with tim := { s.tim with exch := l } }

/-- The results of an earlier master go. -/
def State.ftForget (s : State) : State :=
  { s.fset TMB_FTSTAT_Valid 0 with tim := { s.tim with exch := [], results := [] } }

/-- This node becomes a candidate, and the master as far as it knows. -/
def State.ftCandidate (s : State) : State :=
  let s := s.ftForget
  let s := (s.fset TMB_FTSTAT_IsMaster 1).fset TMB_FTSTAT_MasterNode s.node
  { s with tim := { s.tim with heard := none } }

/-- The node follows the master it hears. -/
def State.ftFollow (s : State) (k : Nat × Nat × Nat) : State :=
  let s := if (s.tim.heard.map fun h => h.2.2) = some k.2.2 then s else s.ftForget
  let s := (s.fset TMB_FTSTAT_IsMaster 0).fset TMB_FTSTAT_MasterNode k.2.2
  { s with tim := { s.tim with heard := some k } }

/-- TMB_FTCFG.Enable written to 0. -/
def State.ftDisable (s : State) : State :=
  let s := s.ftForget.fset TMB_FTSTAT_IsMaster 0
  { s with tim := { s.tim with heard := none } }

/-- TSYNC_SEND (R199): to every node it reaches. -/
def execTsyncSend (s : State) : Host.Outcome State Fault Refusal := .next <|
  if s.ftOn && s.ftMaster then
    let p := s.timePayload 0 s.tim.ftSeq s.node 0 0 0
    let s := s.each ((List.range 4096).filter fun n => decide (n ≠ s.node) && s.reachable n)
      fun s n => s.originate 5 n 0 true p
    { s with tim := { s.tim with ftSeq := (s.tim.ftSeq + 1) % 65536 } }
  else s

/-- A TIME frame of this node has crossed the PCS/PMA boundary at the stamp: TFOLLOW carries t1, an exchange takes t3. -/
def State.timeSent (s : State) (dest stamp : Nat) (p : List Byte) : State :=
  if tmMsg p = 0 then s.originate 5 dest 0 false (s.timePayload 1 (tmSeq p) s.node 0 stamp 0)
  else if tmMsg p = 2 then
    s.setExch (s.tim.exch.map fun x => if x.seq = tmSeq p ∧ x.master = dest then { x with t3 := some stamp } else x)
  else s

/-- Another master with a smaller key than k is heard (R199). -/
def State.hearsBetter (s : State) (k : Nat × Nat × Nat) : Bool :=
  match s.tim.heard with
  | some h => decide (h.2.2 ≠ k.2.2) && keyLess h k
  | none => false

/-- TSYNC_RECEIVE (R199): a TSYNC of a larger key than this node's makes it a candidate; of the others it follows the one
with the smallest key. -/
def execTsyncReceive (s : State) : Host.Outcome State Fault Refusal := .next <|
  match s.timeTake 0 with
  | none => s
  | some (m, s) =>
    let k := tmKey m.payload
    if !s.ftOn || s.hearsBetter k then s
    else if decide (s.timeRank ≠ 0) && keyLess s.timeKey k then (if s.ftMaster then s else s.ftCandidate)
    else
      let s := s.ftFollow k
      let x : Exch := ⟨tmSeq m.payload, k.2.2, m.rx, tmCorr m.payload, none, none, none⟩
      let s := s.setExch (s.tim.exch ++ [x])
      s.originate 5 k.2.2 0 true (s.timePayload 2 x.seq k.2.2 s.node 0 0)

/-- Offset and delay of a complete exchange (R199), in 2^-32 s. -/
def Exch.result (x : Exch) (asym : Int) : Option (Int × Int) :=
  match x.t1, x.t3, x.t4 with
  | some t1, some t3, some (t4, corrReq) =>
    let a := (x.t2 : Int) - t1 - x.corrSync
    let b := (t4 : Int) - t3 - corrReq
    some ((a - b) / 2 + asym, (a + b) / 2)
  | _, _, _ => none

/-- Exchanges that have become complete enter the results. -/
def State.exchSettle (s : State) : State :=
  let asym := toSigned 32 (s.reg TMB_FTASYM).toNat
  let done := s.tim.exch.filterMap fun x => x.result asym
  if done = [] then s
  else
    let results := (done.reverse ++ s.tim.results).take 16
    let s := s.setExch (s.tim.exch.filter fun x => (x.result asym).isNone)
    let s : State := { s with tim := { s.tim with results := results } }
    let s := s.setReg TMB_FTOFS (BitVec.ofInt 32 (meanOf (results.map (·.1))))
    let s := s.setReg TMB_FTDLY (BitVec.ofInt 32 (meanOf (results.map (·.2))))
    (s.pmc 474 done.length).fset TMB_FTSTAT_Valid (if results.length = 16 then 1 else 0)

/-- TFOLLOW_RECEIVE (R199). -/
def execTfollowReceive (s : State) : Host.Outcome State Fault Refusal := .next <|
  match s.timeTake 1 with
  | none => s
  | some (m, s) =>
    let p := m.payload;
    (s.setExch (s.tim.exch.map fun x =>
      if x.seq = tmSeq p ∧ x.master = tmMaster p then { x with t1 := some (tmStamp p) } else x)).exchSettle

/-- TDREQ_RECEIVE (R199): the master answers with t4. -/
def execTdreqReceive (s : State) : Host.Outcome State Fault Refusal := .next <|
  match s.timeTake 2 with
  | none => s
  | some (m, s) =>
    let p := m.payload;
    (if s.ftOn && s.ftMaster && decide (tmMaster p = s.node) then
      s.originate 5 (tmReq p) 0 false (s.timePayload 3 (tmSeq p) s.node (tmReq p) m.rx (tmCorr p)) else s)

/-- TDRESP_RECEIVE (R199). -/
def execTdrespReceive (s : State) : Host.Outcome State Fault Refusal := .next <|
  match s.timeTake 3 with
  | none => s
  | some (m, s) =>
    let p := m.payload;
    (s.setExch (s.tim.exch.map fun x =>
      if x.seq = tmSeq p ∧ x.master = tmMaster p then { x with t4 := some (tmStamp p, tmCorr p) } else x)).exchSettle

/-- The message of kind msg for an exchange has been taken, or waits in the queue. -/
def State.exchHas (s : State) (x : Exch) (msg : Nat) (taken : Bool) : Bool :=
  taken || s.tim.timeq.any fun m =>
    decide (tmMsg m.payload = msg) && decide (tmSeq m.payload = x.seq) && decide (tmMaster m.payload = x.master)

/-- EXCHANGE_TIMEOUT (R199): the oldest exchange is dropped, unless its messages have arrived. -/
def execExchangeTimeout (s : State) : Host.Outcome State Fault Refusal := .next <|
  match s.tim.exch with
  | [] => s
  | x :: rest =>
    if s.exchHas x 1 x.t1.isSome && s.exchHas x 3 x.t4.isSome then s else (((s.setExch rest).inc TMB_FTDROP).pmc 475 1)

/-- MASTER_SILENCE (R199, R200). -/
def execMasterSilence (s : State) : Host.Outcome State Fault Refusal := .next <|
  if !s.ftOn || s.ftMaster then s
  else if s.timeRank = 0 then
    let s := s.fset TMB_FTSTAT_Valid 0
    { s with tim := { s.tim with heard := none } }
  else s.ftCandidate

end Sys2Proof.Machine
end

