-- ==== Sys2Proof/Machine/Fabric.lean ====
section
/-! DEFINITION. Gensy frames at the links: receipt (R238, R239), forwarding (R245, R246), sending (R240, R241), HELLO and
link states (R242 to R244), credit (R240), REACH (R250, R251). -/

namespace Sys2Proof.Machine

/-! ## Receipt -/

/-- A product packet with Contaminated set in its Flags and its HeaderCrc computed again (R165, R352). -/
def flagPacket (p : List Byte) : List Byte :=
  if p.length < 64 then p
  else
    let h := p.take 3 ++ [BitVec.ofNat 8 (byteAt p 3 / 2 * 2 + 1)] ++ (p.drop 4).take 58
    h ++ beBytes 2 (crc16 h) ++ p.drop 64

/-- A link-local payload enters the buffer of its type, which holds two (R240). -/
def putLocal (l : Nat) (p : List Byte) (t : Tbl (List (List Byte))) : Tbl (List (List Byte)) :=
  tmod [] t l fun x => if x.length < 2 then x ++ [p] else x

/-- A frame is delivered to the unit of R239 with its receive stamp; a parity error at site 0x04 acts by R349. -/
def State.deliver (s : State) (l stamp : Nat) (f : QFrame) (bad : Bool) : State :=
  let p := f.payload
  let q := fun (t : Tbl (List (List Byte))) => tmod [] t l fun x => x ++ [p]
  let fab := s.fab
  match f.ty with
  | 0 => { s with fab := { fab with helloq := putLocal l p fab.helloq } }
  | 1 => { s with fab := { fab with creditq := putLocal l p fab.creditq } }
  | 2 => { s with fab := { fab with reachq := putLocal l p fab.reachq } }
  | 3 => { s with hull := { s.hull with inq := s.hull.inq ++ [⟨f.src, p, bad⟩] } }
  | 4 =>
    let body := if bad then flagPacket p else p
    { s with ctxs := { s.ctxs with products := s.ctxs.products ++ [(f.src, f.flow, body)] } }
  | 5 => if bad then s else s.timeDeliver stamp p
  | 6 => if bad then s else { s with fab := { fab with rejoinq := fab.rejoinq ++ [(f.src, f.seq, p)] } }
  | 7 => if bad then s else { s with fab := { fab with ackq := fab.ackq ++ [(f.src, f.seq, p)] } }
  | 8 => if bad then s else { s with fab := { fab with mreadq := fab.mreadq ++ [(f.src, f.seq, p)] } }
  | 9 => if bad then s else { s with fab := { fab with mrespq := fab.mrespq ++ [(f.src, f.seq, p)] } }
  | 10 => if bad then s else { s with fab := { fab with seedq := q fab.seedq } }
  | _ => if bad then s else { s with fab := { fab with seedackq := q fab.seedackq } }

/-- A frame for another node, with its receive stamp (R245, R246). -/
def State.forward (s : State) (l stamp : Nat) (f : QFrame) : State :=
  let u := frameUnits f.payload.length
  if f.hops = 0 then (s.inc FAB_HOPS).rxFree l f.vc u
  else
    let f := { f with hops := f.hops - 1, inLane := some l, rx := stamp }
    match s.routeOf f with
    | none => (s.noRoute f.dest f.down).rxFree l f.vc u
    | some m =>
      { (s.inc FAB_FWDFRM).pmc 457 1 with fab := { s.fab with txq := s.fab.txq ++ [{ f with link := some m }] } }

/-- A frame taken from lane l's receiver, with its receive stamp (R238). -/
def State.frameIn (s : State) (l stamp : Nat) (b : List Byte) (bad : Bool) : State :=
  if !headerOk b then s.inc FAB_HDRERR
  else
    let f := parseFrame b
    let u := frameUnits f.payload.length
    if !typeLocal f.ty && decide (vcUnits f.vc < s.rxInUse l f.vc + u) then s.inc FAB_CREDERR
    else if !s.linkUp l && !typeLocal f.ty && decide (f.ty < 10) then s.inc FAB_NOROUTE
    else
      let s := if typeLocal f.ty then s else s.rxTake l f.vc u
      if typeRouted f.ty && decide (f.dest ≠ s.node) then s.forward l stamp { f with bad := bad }
      else
        let s := ((s.inc FAB_RXFRM).pmc 458 1).deliver l stamp f bad
        if typeLocal f.ty then s else s.rxFree l f.vc u

/-- GENSY_FRAME_RECEIVE (R238): the frame at the head of the lane's receive FIFO. -/
def execGensyFrameReceive (l : Nat) (s : State) : Host.Outcome State Fault Refusal :=
  reply (96 ≤ l) <|
    if s.fabOn && decide (s.lnMode l = 2) && !s.xIsHeld 1 l then
      match tget [] s.ln.rxq l with
      | [] => s
      | (stamp, b) :: bs =>
        let bad := decide (tget 0 s.fab.rxBad l ≠ 0)
        let s : State := { s with
          ln := { s.ln with rxq := tset [] s.ln.rxq l bs }
          fab := { s.fab with rxBad := tset 0 s.fab.rxBad l 0 } }
        s.frameIn l stamp b bad
    else s

/-! ## Sending -/

/-- First frame index and interval number in a product packet's header (R165). -/
def pktFrame (p : List Byte) : Nat := beAt p 16 6
def pktInterval (p : List Byte) : Nat := beAt p 8 4

/-- A PRODUCT frame of this node is lost at LANE_TX (R352, R359 cause 5): its interval has a packet dropped, which is reported as
its dump ends, or at once where the dump has ended. -/
def State.productLost (s : State) (c : Nat) (p : List Byte) : State :=
  let mine := fun (d : Dump) => decide (d.n % 2 ^ 32 = pktInterval p)
  let ds := tget [] s.husk.dumps c
  let pos := tget (0, 0, false, 0) s.husk.voltPos c
  if ds.any mine then
    { s with husk := { s.husk with
        dumps := tset [] s.husk.dumps c (ds.map fun d => if mine d then { d with dropped := true } else d) } }
  else if pos.1 ≠ 0 ∧ s.ctxKind c = 2 ∧
      (match tget [] s.husk.volt c with
      | b :: _ => decide ((b.win - b.k0) % 2 ^ 32 = pktInterval p)
      | [] => true) = true then
    { s with husk := { s.husk with voltPos := tset (0, 0, false, 0) s.husk.voltPos c (pos.1, pos.2.1, true, pos.2.2.2) } }
  else if s.ctxEmit c then s.reportInterval c 5 (pktFrame p) else s

/-- The parity of a frame that came with a wrong byte is found wrong again at the lane's PCS input: site 0x0C (R348, R349; DEDUCED,
log entry 293). -/
def State.carriedBad (s : State) (l : Nat) (f : QFrame) : State := s.when f.bad fun s => s.parity 12 l 0

/-- A frame leaves on lane l: counts, credit, Down, stamps, and the lanes that carry the stream (R196, R197, R230, R237,
R246). A frame that ends bad is discarded by its receiver (R349 site 0x0C). -/
def State.sendOn (s : State) (l : Nat) (f : QFrame) : State :=
  let own := f.inLane.isNone
  let s := s.leaveBuffer f
  let s := if typeLocal f.ty then s else s.spend l f.vc (frameUnits f.payload.length)
  let s := if own then (s.inc FAB_TXFRM).pmc 456 1 else s
  let s := if f.ty = 10 then s.inc FAB_SEEDFR else s
  let down := f.down || decide (s.fget (FAB_LCFG_Dir l) = 1)
  let now := s.stamp
  let s := s.when (decide (f.ty = 5) && f.ts) State.draw
  let residence : Int := (now : Int) - f.rx
  let payload := if decide (f.ty = 5) && f.ts && !own then addResidence f.payload residence else f.payload
  let s := if f.ts then
      (if f.ty = 5 then (if own then s.timeSent f.dest now f.payload else s) else s.stampTx l (f.seq % 256))
    else s
  let bad := decide (tget 0 s.fab.txBad l ≠ 0) || f.bad
  let s := (s.carriedBad l f).when (bad && own && decide (f.ty = 4)) fun s => s.productLost f.flow f.payload
  let s : State := { s with fab := { s.fab with
    txBad := tset 0 s.fab.txBad l 0
    begun := tmod 0 s.fab.begun l fun n => n + 1 } }
  let bytes := gensyBytes { f with down := down, payload := payload }
  s.each (s.txLanes l) fun s p => s.sendFrame p bytes bad

/-- Frames of one flow (R239). -/
def sameFlow (f g : QFrame) : Bool :=
  decide (f.src = g.src) && decide (f.dest = g.dest) && decide (f.vc = g.vc) && decide (f.flow = g.flow)

/-- The first frame of a queue that may leave on lane l: of the channel, in lane l's queue, and behind no frame of its flow
in another link's queue (R248). The first list holds the frames before. -/
def firstReady (l vc : Nat) : List QFrame → List QFrame → Option QFrame
  | _, [] => none
  | before, f :: t =>
    if f.vc = vc ∧ f.link = some l ∧ before.all (fun g => !sameFlow f g || decide (g.link = some l)) = true then some f
    else firstReady l vc (f :: before) t

/-- The first waiting frame of a channel that may leave on lane l. -/
def State.headFor (s : State) (l vc : Nat) : Option QFrame :=
  match firstReady l vc [] s.fab.txq with
  | some f => if s.linkUp l || f.via.isSome then some f else none
  | none => none

/-- The list without its first element equal to x. -/
def eraseOne {α : Type} [DecidableEq α] (x : α) : List α → List α
  | [] => []
  | y :: t => if y = x then t else y :: eraseOne x t

/-- The first held DATA frame of an engine that leaves on lane l: engine and frame (R73). A stopped or held sender sends
none (R72, R368). R72 does not say which engine's frame a link takes first: the lowest engine's, behind the DATA frames that the
fabric unit holds already (DESIGN CHOICE, log entry 278). -/
def State.hullHead (s : State) (l : Nat) : Option (Nat × HeldData) :=
  if !s.linkUp l || !s.hullOn then none
  else (List.range 16).findSome? fun e =>
    let ds := (tget [] s.hull.held e).flatMap HeldFrame.frames
    (ds.find? fun d => decide (s.route d.dest e s.node 0 false = some l)).map fun d => (e, d)

/-- The first held frame equal to d leaves its engine's buffer. -/
def dropHeld (d : HeldData) : List HeldFrame → List HeldFrame
  | [] => []
  | h :: t => if h.frames.contains d then { h with frames := eraseOne d h.frames } :: t else h :: dropHeld d t

/-- The held DATA frame becomes a Gensy frame (R72, R239). -/
def State.pullHull (s : State) (e : Nat) (d : HeldData) : State × QFrame :=
  let f := s.ownFrame 3 d.dest e false (s.heldPayload d) none
  let s := (s.bumpSeq d.dest 0).inc HULL_TXFRM
  let s := s.pmc 240 1
  ({ s with hull := { s.hull with held := tmod [] s.hull.held e (dropHeld d) } }, f)

/-- The sender holds credit for a payload of n bytes on a channel. -/
def State.credited (s : State) (l vc n : Nat) : Bool := decide (frameUnits n ≤ s.credit l vc)

/-- The head of a channel is sent where credit allows. -/
def State.sendVc (s : State) (l vc : Nat) : Option State :=
  match s.headFor l vc with
  | some f =>
    if s.credited l vc f.payload.length then
      some ({ s with fab := { s.fab with txq := eraseOne f s.fab.txq } }.sendOn l f)
    else none
  | none => none

/-- A DATA frame is sent: one that waits, else one the Hull holds. -/
def State.sendData (s : State) (l : Nat) : Option State :=
  match s.headFor l 0 with
  | some _ => s.sendVc l 0
  | none =>
    match s.hullHead l with
    | some (e, d) =>
      if s.credited l 0 (d.hdr.length + d.len) then
        let (s, f) := s.pullHull e d
        some (s.sendOn l f)
      else none
    | none => none

def State.setRunCount (s : State) (l n : Nat) : State := { s with fab := { s.fab with dataRun := tset 0 s.fab.dataRun l n } }

/-- A DATA frame is ready and lacks credit. -/
def State.dataStarved (s : State) (l : Nat) : Bool :=
  ((s.headFor l 0).isSome || (s.hullHead l).isSome) && (s.sendData l).isNone

/-- The rest of the n MCLK cycles since the last ECLK tick in which link l had DATA and no credit for it (R241, R380, log entry 90). -/
def State.starveTick (s : State) (n l : Nat) : State :=
  let was := tget 0 s.fab.starved l
  let s := s.when (decide (s.linkState l ≠ 0) && decide (was < n) && s.dataStarved l) fun s => s.pmc 460 (n - was)
  if was = 0 then s else { s with fab := { s.fab with starved := tset 0 s.fab.starved l 0 } }

/-- DATA and MGMT share the link (R241). -/
def State.sendShared (s : State) (l : Nat) : State :=
  let n := tget 0 s.fab.dataRun l
  match s.sendData l, s.sendVc l 3 with
  | some a, some b => if 15 ≤ n then b.setRunCount l 0 else a.setRunCount l (n + 1)
  | some a, none => a.setRunCount l (min 15 (n + 1))
  | none, some b => b.setRunCount l 0
  | none, none => s

/-- GENSY_FRAME_SEND (R241). Nothing leaves through a held crossing to a lane (R296). -/
def execGensyFrameSend (l : Nat) (s : State) : Host.Outcome State Fault Refusal :=
  reply (96 ≤ l) <|
    if s.fabOn && decide (s.linkState l ≠ 0) && !s.sprout && !(s.txLanes l).any (s.xIsHeld 2) then
      let s := s.when (s.dataStarved l) fun s =>
        { s.pmc 460 1 with fab := { s.fab with starved := tmod 0 s.fab.starved l (· + 1) } }
      match tget [] s.fab.llq l with
      | (ty, p) :: rest =>
        let f := s.ownFrame ty (s.fget (FAB_LSTAT_PeerNode l)) 0 false p none
        let s := s.bumpSeq f.dest f.vc;
        ({ s with fab := { s.fab with llq := tset [] s.fab.llq l rest } }.sendOn l f)
      | [] =>
        match s.sendVc l 2 with
        | some t => t
        | none =>
          match s.sendVc l 1 with
          | some t => t
          | none => (s.sendShared l)
    else s

/-! ## HELLO and link states (R242 to R244) -/

/-- Part serial number. -/
def State.serial (s : State) : Nat := s.get2 GLB_SERIAL_LO GLB_SERIAL_HI

/-- A HELLO from the link has been accepted within the last 30 µs, 7,500 ECLK cycles (R242). -/
def State.heardYou (s : State) (l : Nat) : Bool :=
  let h := tget 0 s.fab.heard l
  decide (h ≠ 0) && decide (s.tim.ticks < h + 7500)

/-- The HELLO payload of lane l (R242). -/
def State.helloPayload (s : State) (l : Nat) : List Byte :=
  [BitVec.ofNat 8 (16 + (if s.img.unassigned then 8 else 0) + (if s.heardYou l then 4 else 0) + s.role), BitVec.ofNat 8 l] ++
    beBytes 2 (if s.img.unassigned then 0 else s.node) ++ beBytes 8 s.serial ++ beBytes 8 s.imageHash ++
    beBytes 2 s.epoch ++ beBytes 2 s.anchor ++ (List.range 4).flatMap fun vc => beBytes 2 (vcUnits vc)

/-- HELLO_SEND (R242). -/
def execHelloSend (l : Nat) (s : State) : Host.Outcome State Fault Refusal :=
  reply (96 ≤ l) <|
    (if s.fabOn && decide (s.linkState l ≠ 0) && !s.sprout then s.linkLocal l 0 (s.helloPayload l) else s)

/-- What the checks of R243 give, HeardYou apart: the state and cause. -/
def State.helloCheck (s : State) (l : Nat) (p : List Byte) : Nat × Nat :=
  let serialKnown := s.img.nodeMap.any fun e => decide (e.1 = beAt p 4 8)
  if byteAt p 0 / 8 % 2 = 1 then
    if s.flag FAB_CTRL_SeedEn && serialKnown then (4, 0) else (3, 4)
  else if s.flag (FAB_LCFG_ExpectValid l) && decide (beAt p 2 2 % 4096 ≠ s.fget (FAB_LCFG_ExpectNode l)) then (3, 1)
  else if s.flag (FAB_LCFG_LaneCheck l) && decide (byteAt p 1 % 128 ≠ s.fget (FAB_LCFG_ExpectLane l)) then (3, 2)
  else if decide (beAt p 12 8 ≠ s.imageHash) && !s.flag FAB_CTRL_HashLax then (3, 3)
  else (2, 0)

/-- Link-local types that a link of this state carries (R243). An unassigned part returns credit on a link it holds
QUARANTINED, so that it can be seeded (R258). -/
def State.carriesLocal (s : State) (st ty : Nat) : Bool :=
  decide (ty = 0) || (decide (ty = 1) && (decide (st ≠ 3) || s.img.unassigned)) || (decide (ty = 2) && decide (st = 1 ∨ st = 2))

/-- Link-local frames that the link's state no longer carries are withdrawn (R243). -/
def State.localFilter (s : State) (l st : Nat) : State :=
  { s with fab := { s.fab with llq := tmod [] s.fab.llq l fun q => q.filter fun x => s.carriesLocal st x.1 } }

/-- At link UP the credit is the peer's InitCredits (R240). -/
def State.creditUp (s : State) (l : Nat) : State :=
  s.each (List.range 4) fun s vc =>
    { s with fab := { s.fab with sent := tset 0 s.fab.sent (4 * l + vc) (tget 0 s.fab.freed (4 * l + vc)) } }

/-- The link changes between the states in which its lane is UP; reachability follows UP (R251). -/
def State.linkTo (s : State) (l st : Nat) : State :=
  let was := s.linkState l
  let s := s.fset (FAB_LSTAT_State l) st
  if was = st then s
  else
    let s := s.localFilter l st
    if was = 2 then s.rechoose.reachUpdate
    else if st = 2 then (s.creditUp l).reachUpdate
    else s

/-- The credit the peer advertises at UP, and in SEEDING (R240). -/
def State.takeCredits (s : State) (l : Nat) (p : List Byte) : State :=
  s.each (List.range 4) fun s vc =>
    { s with fab := { s.fab with peerInit := tset 0 s.fab.peerInit (4 * l + vc) (beAt p (24 + 2 * vc) 2) } }

/-- The link enters QUARANTINED (R243). -/
def State.quarantine (s : State) (l cause : Nat) : State :=
  let s := (s.inc FAB_QUAR).fset FAB_STATUS_QuarChg 1
  let s := (s.fset (FAB_LSTAT_Cause l) cause).linkTo l 3
  let s : State := { s with fab := { s.fab with good := tset 0 s.fab.good l 0 } }
  (s.raise 11).log 0x11 0 l cause

/-- An accepted HELLO: the peer's node, its credits, and that it was heard. -/
def State.helloAccept (s : State) (l : Nat) (p : List Byte) : State :=
  let s := (s.fset (FAB_LSTAT_PeerNode l) (beAt p 2 2 % 4096)).takeCredits l p
  { s with fab := { s.fab with heard := tset 0 s.fab.heard l (s.tim.ticks + 1) } }

/-- A HELLO in CHECKING or UP (R243). -/
def State.helloChecked (s : State) (l : Nat) (p : List Byte) : State :=
  match s.helloCheck l p with
  | (4, _) => (((s.helloAccept l p).fset (FAB_LSTAT_Cause l) 0).linkTo l 4).seedStart l
  | (3, c) => s.quarantine l c
  | _ =>
    let s := (s.helloAccept l p).fset (FAB_LSTAT_Cause l) 0
    s.linkTo l (if byteAt p 0 / 4 % 2 = 1 then 2 else 1)

/-- A HELLO on a QUARANTINED link (R243). -/
def State.helloQuarantined (s : State) (l : Nat) (p : List Byte) : State :=
  let n := if (s.helloCheck l p).1 = 3 then 0 else tget 0 s.fab.good l + 1
  let s : State := { s with fab := { s.fab with good := tset 0 s.fab.good l (if n = 16 then 0 else n) } }
  let s := if s.img.unassigned then s.takeCredits l p else s
  if n = 16 then (s.fset (FAB_LSTAT_Cause l) 0).linkTo l 1 else s

/-- HELLO_RECEIVE (R243). -/
def execHelloReceive (l : Nat) (s : State) : Host.Outcome State Fault Refusal :=
  reply (96 ≤ l) <|
    match tget [] s.fab.helloq l with
      | [] => s
      | p :: rest =>
        let s : State := { s with fab := { s.fab with helloq := tset [] s.fab.helloq l rest } }
        if p.length ≠ 32 ∨ byteAt p 0 / 16 ≠ 1 then s
        else (match s.linkState l with
          | 1 => s.helloChecked l p
          | 2 => s.helloChecked l p
          | 3 => s.helloQuarantined l p
          | 4 => if byteAt p 0 / 8 % 2 = 1 then s.helloAccept l p
            else
              ((s.seedWithdraw l).setSeed l SeedTx.idle).linkTo l 1
          | _ => s)

/-- HELLO_TIMEOUT (R244): the link goes DOWN; its lane is UP, so it goes on to CHECKING (R243). -/
def execHelloTimeout (l : Nat) (s : State) : Host.Outcome State Fault Refusal :=
  reply (96 ≤ l) <|
    (if s.linkState l = 0 || s.sprout then s else (s.linkLost l).linkChecking l)

/-! ## CREDIT (R240) -/

/-- The link carries CREDIT frames (R243). -/
def State.carriesCredit (s : State) (l : Nat) : Bool :=
  decide (s.linkState l ≠ 0) && s.carriesLocal (s.linkState l) 1

/-- CREDIT_SEND. -/
def execCreditSend (l : Nat) (s : State) : Host.Outcome State Fault Refusal :=
  reply (96 ≤ l) <|
      (if s.fabOn && !s.sprout && s.carriesCredit l then
        s.linkLocal l 1 ((List.range 4).flatMap fun vc => beBytes 2 (tget 0 s.fab.rxFreed (4 * l + vc)))
      else s)

/-- CREDIT_RECEIVE. -/
def execCreditReceive (l : Nat) (s : State) : Host.Outcome State Fault Refusal :=
  reply (96 ≤ l) <|
    match tget [] s.fab.creditq l with
      | [] => s
      | p :: rest =>
        let s : State := { s with fab := { s.fab with creditq := tset [] s.fab.creditq l rest } }
        if p.length ≠ 8 ∨ s.carriesCredit l = false then s
        else (s.each (List.range 4) fun s vc =>
          { s with fab := { s.fab with freed := tset 0 s.fab.freed (4 * l + vc) (beAt p (2 * vc) 2) } })

/-! ## REACH (R250, R251, R253) -/

/-- Two distances per byte. -/
def packDist : List Nat → List Byte
  | a :: b :: t => BitVec.ofNat 8 (a * 16 + b) :: packDist t
  | _ => []

def unpackDist (p : List Byte) : List Nat := p.flatMap fun b => [b.toNat / 16, b.toNat % 16]

/-- The REACH payload (R250). -/
def State.reachPayload (s : State) : List Byte :=
  [BitVec.ofNat 8 (16 + s.role), 0] ++ beBytes 2 s.node ++ beBytes 2 s.epoch ++ beBytes 2 s.anchor ++ packDist s.distances

/-- REACH_SEND (R250). -/
def execReachSend (s : State) : Host.Outcome State Fault Refusal := .next <|
  if s.fabOn && !s.sprout then
    let p := s.reachPayload
    s.each ((List.range 96).filter s.linkUp) fun s l => (s.linkLocal l 2 p).pmc 461 1
  else s

/-- Count a is newer than b, modulo 32,768 (R253). -/
def newerCount (a b : Nat) : Bool :=
  let d := (a % 32768 + 32768 - b % 32768) % 32768
  decide (0 < d) && decide (d < 16384)

/-- A non-anchor PRIMARY node takes a newer epoch of a neighbour with the same anchor (R253). -/
def State.adoptEpoch (s : State) (r : ReachRep) : State :=
  if decide (s.role = 1) && !s.flag FAB_STATUS_IsAnchor && decide (r.role = 1) && decide (r.anchor = s.anchor) && newerCount r.epoch s.epoch then
    s.fset FAB_STATUS_PartEpoch r.epoch
  else s

/-- REACH_RECEIVE (R251, R253). -/
def execReachReceive (l : Nat) (s : State) : Host.Outcome State Fault Refusal :=
  reply (96 ≤ l) <|
    match tget [] s.fab.reachq l with
      | [] => s
      | p :: rest =>
        let s : State := { s with fab := { s.fab with reachq := tset [] s.fab.reachq l rest } }
        if p.length ≠ 2056 ∨ byteAt p 0 / 16 ≠ 1 ∨ (s.linkState l ≠ 1 ∧ s.linkState l ≠ 2) then s
        else
          let r : ReachRep := ⟨byteAt p 0 % 4, beAt p 4 2, beAt p 6 2 % 4096, unpackDist (p.drop 8)⟩
          let s : State := { s with fab := { s.fab with report := tset none s.fab.report l (some r) } }
          if s.linkUp l then s.reachUpdate.adoptEpoch r else s

end Sys2Proof.Machine
end

