-- ==== Sys2Proof/Machine/Members.lean ====
section
/-! DEFINITION. Membership of the fabric: enable, partition decision, epochs (R252, R253), REJOIN and ACK (R255, R256), and
the requester's side of remote reads (R257). -/

namespace Sys2Proof.Machine

/-- The configured members, ascending (R252). -/
def State.fabMembers (s : State) : List Nat := (List.range 4096).filter s.isMemberNode

/-- A change of role (R252). -/
def State.setRole (s : State) (r : Nat) : State :=
  if s.role = r then s else ((s.fset FAB_STATUS_Role r).fset FAB_STATUS_RoleChg 1).raise 3

def State.setAnchor (s : State) (a : Nat) : State :=
  (s.fset FAB_PARTSTAT_AnchorNode a).fset FAB_STATUS_IsAnchor (if a = s.node then 1 else 0)

def State.setEpoch (s : State) (e : Nat) : State := s.fset FAB_STATUS_PartEpoch e

/-- Count + 1, wrapping from 0x7FFF to 0x0001, marker 0 (R253). -/
def nextEpoch (e : Nat) : Nat := if e % 32768 = 32767 then 1 else e % 32768 + 1

def State.clearRejoin (s : State) : State :=
  { s.fset FAB_STATUS_RejoinPending 0 with fab := { s.fab with rejoin := none } }

/-! ## Enable (R252, R253) -/

/-- The role that a fabric unit starts with: PRIMARY for a part on its own; MINORITY where a reload of its section stopped it in
another role than FORMING (R340); else FORMING (R252). -/
def State.startRole (s : State) (n : Nat) : Nat := if n = 1 then 1 else if s.fab.again then 2 else 0

/-- The epoch that goes with it (R253): a MINORITY node keeps its last PRIMARY count with the marker. -/
def State.startEpoch (s : State) (n : Nat) : Nat :=
  if n = 1 then 1 else if s.fab.again then s.epoch % 32768 + 32768 else 0x8000

/-- The fabric unit starts with the role and epoch of its start; every UP lane's link leaves DOWN. -/
def State.fabStart (s : State) : State :=
  let n := if s.sprout then 1 else s.fabMembers.length
  let t := ((s.clearRejoin.setRole (s.startRole n)).setEpoch (s.startEpoch n)).fset FAB_STATUS_IsAnchor 0
  let s : State := { t with fab := { t.fab with
      half := if n = 1 then [s.node] else []
      wasPrimary := decide (n = 1) || (s.fab.again && s.fab.wasPrimary)
      again := false, rejWait := [], rejMsg := [] } }
  let s := s.fset FAB_MEMBERS_Count n
  let s := if n = 1 then s.setAnchor s.node else s
  let s := s.reachUpdate
  s.each ((List.range 96).filter fun l => decide (s.lnState l = 2) || s.carried l) fun s l => s.linkChecking l

/-- FAB_CTRL.Enable becomes 1. -/
def State.fabEnable (s : State) : State :=
  if s.flag FAB_CTRL_Enable then s else (s.fset FAB_CTRL_Enable 1).fabStart

/-- FAB_CTRL.Enable becomes 0: every link is DOWN (R243). -/
def State.fabDisable (s : State) : State :=
  if s.flag FAB_CTRL_Enable then
    let s := (s.fset FAB_CTRL_Enable 0).each (List.range 96) State.linkLost
    let s := s.each s.fab.txq State.unsent
    { s with fab := { s.fab with txq := [] } }
  else s

/-- FABRIC_ENABLE (R252, R253): a register of MCLK. -/
def execFabricEnable (s : State) : Host.Outcome State Fault Refusal :=
  .next (s.hostEnable FAB_CTRL_Enable State.fabEnable)

/-! ## REJOIN (R255) -/

/-- The first point of the grid at or after frame index a (R255). -/
def State.gridAt (s : State) (a : Nat) : Nat :=
  let g0 := s.get2 FAB_GRID0_LO FAB_GRID0_HI % 2 ^ 48
  let len := s.fget FAB_GRIDLEN_Frames
  if len = 0 then a % 2 ^ 48
  else if g0 ≤ a then (g0 + ceilDiv (a - g0) len * len) % 2 ^ 48
  else (g0 - (g0 - a) / len * len) % 2 ^ 48

/-- RejoinFrame of an anchor that holds no local frame index. -/
def noFrame : Nat := 2 ^ 48 - 1

/-- J at the anchor. -/
def State.rejoinFrame (s : State) : Nat :=
  match s.hull.lfi with
  | some l => s.gridAt (l + s.fget FAB_REJLEAD_Frames)
  | none => noFrame

def rejoinPayload (epoch anchor j : Nat) : List Byte :=
  [0x10, 0] ++ beBytes 2 epoch ++ beBytes 2 anchor ++ [0, 0] ++ beBytes 6 j ++ [0, 0]

/-- REJOIN takes effect (R253, R255). -/
def State.rejoinTake (s : State) (r : RejoinSt) : State :=
  let s := ((s.clearRejoin.setRole 1).setEpoch r.epoch).setAnchor r.anchor
  { s with fab := { s.fab with wasPrimary := true } }

/-- A REJOIN reaches this node (R255, R256). -/
def State.rejoinHold (s : State) (r : RejoinSt) : State :=
  match s.hull.lfi with
  | none => s.rejoinTake r
  | some l =>
    if r.frame = noFrame then s.rejoinTake r
    else
      let keep := match s.fab.rejoin with
        | some o => !newerCount r.epoch o.epoch
        | none => false
      let late := decide (0 < idxDiff l r.frame)
      let s := if late then s.inc FAB_REJLATE else s
      if keep then s
      else
        let r := if late then { r with frame := s.gridAt (l + 1) } else r
        let s := (s.set2 FAB_REJ_LO FAB_REJ_HI r.frame).fset FAB_STATUS_RejoinPending 1
        { s with fab := { s.fab with rejoin := some r } }

/-- Member n has the REJOIN to acknowledge; copies of these Sequences have gone to it. -/
def State.rejoinWaits (s : State) (n : Nat) (copies : List Nat) : State :=
  { s with fab := { s.fab with rejWait := tset none s.fab.rejWait n (some copies) } }

/-- One REJOIN frame to a member; its Sequence awaits an ACK. A unit in reset sends none yet (R289). -/
def State.rejoinTo (s : State) (n : Nat) : State :=
  let sent := (tget none s.fab.rejWait n).getD []
  if s.unitInReset 21 then s.rejoinWaits n sent
  else
    let q := s.nextSeq n 1
    ((s.originate 6 n 0 false s.fab.rejMsg).pmc 462 1).rejoinWaits n (q :: sent)

/-- The anchor sends REJOIN to every reachable configured member, itself included (R255, R256). -/
def State.rejoinSend (s : State) (epoch : Nat) (half : List Nat) : State :=
  let j := s.rejoinFrame
  let s : State := { s with fab := { s.fab with rejMsg := rejoinPayload epoch s.node j, rejWait := [] } }
  (s.each (half.filter fun n => n ≠ s.node) State.rejoinTo).rejoinHold ⟨epoch, s.node, j⟩

/-- The anchor cancels its REJOIN by a new decision (R256). -/
def State.rejoinCancel (s : State) : State :=
  { s.clearRejoin with fab := { s.clearRejoin.fab with rejMsg := [], rejWait := [] } }

/-- The pending REJOIN takes effect; a node that does not reach its anchor then stays as it is (R256). -/
def State.rejoinEnd (s : State) (r : RejoinSt) : State := if s.reachable r.anchor then s.rejoinTake r else s.clearRejoin

/-- A REJOIN whose frame J the local frame index has reached is applied (R255). -/
def State.rejoinDue (s : State) : State :=
  match s.fab.rejoin, s.hull.lfi with
  | some r, some l => if 0 ≤ idxDiff l r.frame then s.rejoinEnd r else s
  | some r, none => s.rejoinEnd r
  | none, _ => s

/-! ## The decision (R252) -/

/-- A neighbour over an UP link reports this role. -/
def State.seesRole (s : State) (r : Nat) : Bool :=
  (List.range 96).any fun l => s.linkUp l &&
    match tget none s.fab.report l with
    | some x => decide (x.role = r)
    | none => false

/-- The node that a neighbour's REACH shows PRIMARY. -/
def State.shownPrimary (s : State) (n : Nat) : Bool :=
  (List.range 96).any fun l => s.linkUp l && decide (s.fget (FAB_LSTAT_PeerNode l) = n) &&
    match tget none s.fab.report l with
    | some x => decide (x.role = 1)
    | none => false

/-- A PRIMARY node's decision stays PRIMARY: anchor, epoch, and REJOIN for members regained (R253, R255, R256). The anchor is the
lowest of the members that were in the half already: a member regained takes part from its REJOIN on (DEDUCED, log entry 292). -/
def State.stayPrimary (s : State) (half : List Nat) : State :=
  let s := s.setAnchor ((half.filter s.fab.half.contains).headD s.node)
  if s.flag FAB_STATUS_IsAnchor then
    let lost := s.fab.half.any fun n => !half.contains n
    let back := half.any fun n => !s.fab.half.contains n
    let s : State := { s with fab := { s.fab with rejWait := s.fab.rejWait.filter fun e => half.contains e.1 } }
    let s := if lost then s.rejoinCancel.setEpoch (nextEpoch s.epoch) else s
    if back then s.rejoinSend (nextEpoch s.epoch) half else s
  else s

/-- A node that was not PRIMARY decides PRIMARY (R252, R253, R255, R256). -/
def State.becomePrimary (s : State) (half : List Nat) : State :=
  let history := s.fab.wasPrimary || s.seesRole 2
  let s := (s.setRole 1).setAnchor (half.headD s.node)
  let s := if history then s else s.setEpoch 1
  let s : State := { s with fab := { s.fab with wasPrimary := true } }
  let others := half.any fun n => decide (n ≠ s.node) && !s.shownPrimary n
  if s.flag FAB_STATUS_IsAnchor && (others || history) then
    s.rejoinSend (if history then nextEpoch s.epoch else s.epoch) half
  else s

/-- PARTITION_DECISION (R252). A REJOIN whose J is reached is applied first (R256). -/
def execPartitionDecision (s : State) : Host.Outcome State Fault Refusal := .next <|
  if !s.fabOn || s.sprout then s
  else
    let s := s.rejoinDue
    let ms := s.fabMembers
    let half := s.halfNow
    let n := ms.length
    let r := half.length
    let primary := decide (n < 2 * r) || (decide (2 * r = n) && half.contains (ms.headD s.node))
    let t :=
      if s.role = 1 then
        if primary then s.stayPrimary half
        else
          let s := s.when (s.flag FAB_STATUS_IsAnchor) State.rejoinCancel
          ((s.setRole 2).setEpoch (s.epoch % 32768 + 32768)).fset FAB_STATUS_IsAnchor 0
      else if primary && !s.seesRole 1 then s.becomePrimary half
      else s
    { t with fab := { t.fab with half := half } }

/-- REJOIN_RETRY (R255). -/
def execRejoinRetry (n : Nat) (s : State) : Host.Outcome State Fault Refusal :=
  reply (4096 ≤ n) <|
    (if s.fabOn && !s.unitInReset 21 && s.flag FAB_STATUS_IsAnchor && (tget none s.fab.rejWait n).isSome then s.rejoinTo n else s)

/-- REJOIN_RECEIVE (R255): answered with an ACK. -/
def execRejoinReceive (s : State) : Host.Outcome State Fault Refusal := .next <|
  match s.fab.rejoinq with
  | [] => s
  | (src, seq, p) :: rest =>
    if s.unitInReset 21 then s else
    let s : State := { s with fab := { s.fab with rejoinq := rest } }
    if p.length ≠ 16 ∨ byteAt p 0 / 16 ≠ 1 then s
    else ((s.originate 7 src 0 false (beBytes 2 seq)).rejoinHold ⟨beAt p 2 2, beAt p 4 2 % 4096, beAt p 8 6⟩)

/-- REJOIN_APPLY (R255, R256): the local frame index has reached J. -/
def execRejoinApply (s : State) : Host.Outcome State Fault Refusal := .next s.rejoinDue

/-- ACK (R255): a member has acknowledged a copy of the REJOIN, by its Sequence. -/
def execAck (s : State) : Host.Outcome State Fault Refusal := .next <|
  match s.fab.ackq with
  | [] => s
  | (src, _, p) :: rest =>
    if s.unitInReset 21 then s else
    let hit := decide (p.length = 2) && (tget none s.fab.rejWait src).any fun q => q.contains (beAt p 0 2)
    let wait := if hit then terase s.fab.rejWait src else s.fab.rejWait
    { s with fab := { s.fab with ackq := rest, rejWait := wait } }

/-! ## Remote reads, requester (R257) -/

/-- A write to FAB_MREQ. -/
def State.mreadSend (s : State) (v : BitVec 32) : State :=
  if FAB_MREQ_Go.of v = 1 ∧ s.flag FAB_MSTAT_Busy = false then
    let d := FAB_MREQ_Node.of v
    if s.fabOn && (s.route d 0 s.node 3 false).isSome then
      (s.originate 8 d 0 false (beBytes 4 (s.reg FAB_MADDR).toNat)).setReg FAB_MSTAT 0x80000000#32
    else
      let s := s.bumpSeq d 3
      (s.noRoute d false).setReg FAB_MSTAT 3#32
  else s

/-- MREAD_REQUEST (R257): a register of MCLK. -/
def execMreadRequest (v : Word) (s : State) : Host.Outcome State Fault Refusal :=
  .next (s.hostWrite FAB_MREQ fun s => s.mreadSend v)

/-- MRESP (R257). -/
def execMresp (s : State) : Host.Outcome State Fault Refusal := .next <|
  match s.fab.mrespq with
  | [] => s
  | (_, _, p) :: rest =>
    if s.unitInReset 21 then s else
    let s : State := { s with fab := { s.fab with mrespq := rest } };
    (if p.length = 12 ∧ s.flag FAB_MSTAT_Busy = true then
      (s.setReg FAB_MRESP (BitVec.ofNat 32 (beAt p 4 4))).setReg FAB_MSTAT (BitVec.ofNat 32 (byteAt p 8 % 4))
    else s)

/-- MREAD_TIMEOUT (R257). -/
def execMreadTimeout (s : State) : Host.Outcome State Fault Refusal :=
  .next (if s.flag FAB_MSTAT_Busy then s.setReg FAB_MSTAT 2#32 else s)

end Sys2Proof.Machine
end

