-- ==== Sys2Proof/Machine/Sched.lean ====
section
/-! DEFINITION. Scheduled actions (R201 to R204) and the SYNC event (R205, R426). -/

namespace Sys2Proof.Machine

/-- Actions queued; those that are due have run before an insertion of their tick (R202). -/
def State.schCount (s : State) : Nat := s.tim.queue.length

/-- The entry of a handle. -/
def handleEntry (h : Nat) : Nat := h % 1024

/-- Entries in use. -/
def State.schUsed (s : State) (e : Nat) : Bool :=
  s.tim.queue.any fun a => decide (handleEntry a.handle = e)

def State.schResult (s : State) (code handle : Nat) : State :=
  (s.fset SCH_RESULT_Code code).fset SCH_RESULT_Handle handle

/-- A refused insertion: no action has a handle to report, so the field is a free value. -/
def State.schRefuse (s : State) (code : Nat) : State :=
  (s.schResult code (Config.refusedHandle s.fresh).toNat).draw

/-- Due time of SCH_DUE, 48.32. -/
def State.schDue (s : State) : Nat := (s.reg SCH_DUE_FR).toNat + 2 ^ 32 * s.get2 SCH_DUE_SL SCH_DUE_SH

/-- An action enters the queue. -/
def State.schEnter (s : State) (e n : Nat) (a : SchAct) : State :=
  { s with tim := { s.tim with uses := tset 0 s.tim.uses e n, queue := s.tim.queue ++ [a] } }

/-- A write to SCH_INSERT (R202). -/
def State.schInsert (s : State) (v : BitVec 32) : State :=
  let ty := SCH_INSERT_Type.of v
  let due := s.schDue
  let passed := decide (due * 2 ^ 48 ≤ s.time)
  if ty = 0 ∨ 7 < ty then s.schRefuse 3
  else if passed && SCH_INSERT_Asap.of v = 0 then ((s.schRefuse 1).inc SCH_LATECNT).pmc 478 1
  else
    match (List.range 1024).find? fun e => !s.schUsed e with
    | none => s.schRefuse 2
    | some e =>
      let n := tget 0 s.tim.uses e
      let h := n % 64 * 1024 + e
      let a : SchAct := ⟨h, due, ty, SCH_INSERT_Arg.of v, passed⟩
      (s.schEnter e ((n + 1) % 64) a).schResult 0 h

def execSchInsert (v : Word) (s : State) : Host.Outcome State Fault Refusal := .next (s.hostWrite SCH_INSERT fun s => s.schInsert v)

/-- A write to SCH_CANCEL (R202). -/
def State.schCancel (s : State) (v : BitVec 32) : State :=
  let h := SCH_CANCEL_Handle.of v
  if s.tim.queue.any fun a => decide (a.handle = h) then
    { s with tim := { s.tim with queue := s.tim.queue.filter fun a => decide (a.handle ≠ h) } }.schResult 4 h
  else s.schResult 5 h

def execSchCancel (v : Word) (s : State) : Host.Outcome State Fault Refusal := .next (s.hostWrite SCH_CANCEL fun s => s.schCancel v)

/-- The SYNC event of this ECLK tick (R205), counted where it arises (R380): a second in one tick is the same event. -/
def State.syncEvent (s : State) : State :=
  let k := s.pmcLive 4 + 1
  if s.tim.syncTick = k then s else ({ s with tim := { s.tim with syncTick := k } }.pmc 476 1).pulseSend 0

/-- What an action of type ty does at its tick (R201). -/
def State.runAction (s : State) (a : SchAct) : State :=
  match a.ty with
  | 1 => s.syncEvent
  | 2 => { s with ctxs := { s.ctxs with queue := s.ctxs.queue ++ [⟨true, true, a.arg % 4096⟩] } }
  | 3 => { s with ctxs := { s.ctxs with queue := s.ctxs.queue ++ [⟨true, false, a.arg % 4096⟩] } }
  | 4 => s.pulseSend 1
  | 5 => s.pulseSend 2
  | 6 => s.pulseSend 3
  | _ => s.raise 13

/-- The FIFO of crossing class 11 takes no action now: it holds its 16, or its peer is in reset; a START, STOP or MARK waits
(R162, R292, R296). -/
def State.ctxFifoFull (s : State) (ty : Nat) : Bool :=
  (decide (ty = 2) || decide (ty = 3) || decide (ty = 7)) &&
    (s.xIsHeld 11 0 || decide (16 ≤ (s.ctxs.queue.filter CtxCmd.sched).length))

/-- ACTION_DUE: the first due action runs (R201, R204). -/
def execActionDue (s : State) : Host.Outcome State Fault Refusal := .next <|
  match s.tim.due with
  | [] => s
  | (a, st) :: rest =>
    if s.ctxFifoFull a.ty then s else
    let s := { s with tim := { s.tim with due := rest } }
    let s := ((s.runAction a).inc SCH_EXECCNT).pmc 11 1
    let s := if st = 0 then s else ((s.inc SCH_LATEEXECCNT).pmc 479 1).raise 14
    if s.tim.done.length < 64 then
      { s with tim := { s.tim with done := s.tim.done ++ [(a.handle, st, if a.ty = 7 then a.arg % 4096 else 0)] } }
    else ((s.fset SCH_STATUS_DoneOvf 1).raise 14)

/-- The oldest done entry is popped (R204). -/
def State.schDonePop (s : State) : State := { s with tim := { s.tim with done := s.tim.done.drop 1 } }

/-- SCH_DONE_POP (R204). -/
def execSchDonePop (s : State) : Host.Outcome State Fault Refusal := .next (s.hostPop SCH_DONE State.schDonePop)

/-- SCH_DONE as a read shows it. -/
def State.schDone (s : State) : BitVec 32 :=
  match s.tim.done with
  | (h, st, v) :: _ => BitVec.ofNat 32 (2 ^ 31 + st * 2 ^ 28 + v * 2 ^ 16 + h)
  | [] => 0

/-- SYNC_PIN (R205). -/
def execSyncPin (s : State) : Host.Outcome State Fault Refusal :=
  .next (if s.flag TMB_OUTCFG_SyncPinEn then s.syncEvent else s)

/-- SYNC_EVENT: the event takes effect where FCLK runs, is held in RETAIN and discarded in STANDBY or in a held crossing (R57, R296,
R426). One that no pulse under way stands for is counted here. -/
def execSyncEvent (s : State) : Host.Outcome State Fault Refusal := .next <|
  let s := if tget 0 s.mtx.pulse 0 = 0 then s.pmc 476 1 else s
  if s.fastClk && decide (2 ≤ s.pwrState) && !s.xIsHeld 10 0 then (s.pulseTake 0).syncApply else s.pulseSend 0

end Sys2Proof.Machine
end

