-- ==== Sys2Proof/Machine/Pmc.lean ====
section
/-! DEFINITION. The shadow bank of the event counters (R382 to R384), the pulse crossings of class 10 (R293), and the
Pip sampler: trigger, configuration, records and their buffer (R388 to R391). -/

namespace Sys2Proof.Machine

/-! ## Shadow bank (R382 to R384) -/

def State.pmcHeld (s : State) : Bool := s.flag PMC_STATUS_Held

/-- Counter n as the shadow bank shows it (R382): the live value while TRACKING. -/
def State.pmcShadow (s : State) (n : Nat) : Nat := s.pmcView n true

/-- All live values are captured; the bank is HELD. -/
def State.pmcCapture (s : State) : State :=
  let s := s.each (List.range 512) fun s n =>
    (s.setReg (PMC_SHADOW_LO n) (s.reg (PMC_LIVE_LO n))).setReg (PMC_SHADOW_HI n) (s.reg (PMC_LIVE_HI n))
  s.fset PMC_STATUS_Held 1

/-- PMC_SNAPTIME: the tick of a scheduled action, or the first tick after the capture (R383). -/
def State.snapDate (s : State) (at' : Option Nat) : State :=
  match at' with
  | some t => s.setSnapTime t
  | none => { s with cnt := { s.cnt with snapWait := true } }

/-- SNAP (R382). -/
def State.pmcSnap (s : State) (at' : Option Nat) : State := ((s.pmcCapture.pmc 6 1).snapDate at').raise 16

/-- FREEZE (R382): from HELD it has no effect. -/
def State.pmcFreeze (s : State) (at' : Option Nat) : State := if s.pmcHeld then s else s.pmcCapture.snapDate at'

/-- THAW (R382). -/
def State.pmcThaw (s : State) : State := s.fset PMC_STATUS_Held 0

/-- The operations of one PMC_CMD word in the order of R384. -/
def State.pmcCmd (s : State) (v : BitVec 32) : State :=
  let s := s.when (decide (PMC_CMD_Thaw.of v = 1)) State.pmcThaw
  let s := s.when (decide (PMC_CMD_Snap.of v = 1)) fun s => s.pmcSnap none
  s.when (decide (PMC_CMD_Freeze.of v = 1)) fun s => s.pmcFreeze none

/-- PMC_SNAP: PMC_CMD.Snap reaches the bank; MCLK runs, or the access has been discarded (R291, R382). -/
def execPmcSnap (s : State) : Host.Outcome State Fault Refusal :=
  .next (s.hostWrite PMC_CMD fun s => s.pmcSnap none)

/-- PMC_FREEZE (R382). -/
def execPmcFreeze (s : State) : Host.Outcome State Fault Refusal :=
  .next (s.hostWrite PMC_CMD fun s => s.pmcFreeze none)

/-- PMC_THAW (R382). -/
def execPmcThaw (s : State) : Host.Outcome State Fault Refusal :=
  .next (s.hostWrite PMC_CMD State.pmcThaw)

/-- The pulse of one scheduled operation on the bank takes effect. -/
def State.pulseAct (s : State) (inst at' : Nat) : State :=
  let s := s.pulseTake inst
  if inst = 1 then s.pmcSnap (some at') else if inst = 2 then s.pmcFreeze (some at') else s.pmcThaw

/-- PULSE_CROSSING: the pending pulse of an instance reaches its receiver, where the receiver's clock runs (R293, R426). The operations
on the bank that were sent at one tick take effect in one MCLK cycle, in the order THAW, SNAP, FREEZE (R384, log entry 275). -/
def execPulseCrossing (inst : Nat) (s : State) : Host.Outcome State Fault Refusal :=
  reply (4 ≤ inst) <|
    let p := tget 0 s.mtx.pulse inst
      if p = 0 ∨ s.awake = false ∨ s.xIsHeld 10 inst = true then s
      else if inst = 0 then (if s.fastClk then (s.pulseTake 0).syncApply else s)
      else if !s.mclk then s
      else s.each [3, 1, 2] fun s k => if tget 0 s.mtx.pulse k = p && !s.xIsHeld 10 k then s.pulseAct k (p - 1) else s

/-! ## Choosing (R388) -/

/-- Every pod's count restarts and every pod disarms; advances so far count for nothing. -/
def State.pipRestart (s : State) : State :=
  let s := s.each (List.range 64) fun s p => s.modPod p fun x => { x with pipCount := 0, pipArmed := false }
  { s with array := { s.array with pipSeen := s.pmcLive (s.fget PMC_PIPTRIG_Event) } }

/-- An advance of the trigger counter arms the selected pods; one that finds a pod armed merges and is counted. -/
def State.pipTrigger (s : State) : State :=
  let n := s.pmcLive (s.fget PMC_PIPTRIG_Event)
  if n = s.array.pipSeen then s
  else
    let s := { s with array := { s.array with pipSeen := n } }
    if s.fget PMC_PIPCFG_Mode ≠ 2 then s
    else
      let sel := (List.range 64).filter s.pipSelected
      let merged := sel.any fun p => (s.pod p).pipArmed
      let s := s.each sel fun s p => s.modPod p fun x => { x with pipArmed := true }
      if merged then s.inc PMC_PIPMERGE else s

/-- PIP_TRIGGER (R388). -/
def execPipTrigger (s : State) : Host.Outcome State Fault Refusal := .next (if s.awake && s.mclk then s.pipTrigger else s)

/-- A write to PMC_PIPCFG, PMC_PIPTRIG or PMC_PIPMASK: a change to Mode, Period or the mask restarts the choice; a
change of the trigger counter starts from its value now (R388). -/
def State.pipWrite (s : State) (a : Nat) (v : BitVec 32) : State :=
  let r := s.putReg a true v
  let changed := decide (r.fget PMC_PIPCFG_Mode ≠ s.fget PMC_PIPCFG_Mode) ||
    decide (r.fget PMC_PIPCFG_Period ≠ s.fget PMC_PIPCFG_Period) ||
    decide (r.reg PMC_PIPMASK_LO ≠ s.reg PMC_PIPMASK_LO) || decide (r.reg PMC_PIPMASK_HI ≠ s.reg PMC_PIPMASK_HI)
  if changed then r.pipRestart
  else if r.fget PMC_PIPTRIG_Event ≠ s.fget PMC_PIPTRIG_Event then
    { r with array := { r.array with pipSeen := r.pmcLive (r.fget PMC_PIPTRIG_Event) } }
  else r

/-- The registers of PIP_CONFIG_WRITE. -/
def isPipConfig (a : Nat) : Bool :=
  decide (a = PMC_PIPCFG) || decide (a = PMC_PIPTRIG) || decide (a = PMC_PIPMASK_LO) || decide (a = PMC_PIPMASK_HI)

/-- PIP_CONFIG_WRITE (R388). -/
def execPipConfigWrite (a : Nat) (v : Word) (s : State) : Host.Outcome State Fault Refusal :=
  reply (!isPipConfig (a / 4 * 4)) <|
    (s.hostWrite (a / 4 * 4) fun s => s.pipWrite (a / 4 * 4) v)

/-! ## Records (R389 to R391) -/

/-- The cause with the most stalled cycles among codes n down to 1; a tie goes to the lower code (R390). -/
def worstCause (t : Tbl Nat) : Nat → Nat
  | 0 => 0
  | n + 1 => let c := worstCause t n; if tget 0 t c < tget 0 t (n + 1) then n + 1 else c

/-- The four words of pod p's finished record (R389). -/
def PipRec.words (r : PipRec) (p latency : Nat) (aborted : Bool) : List (BitVec 32) :=
  let stalls := ((List.range 7).map fun i => tget 0 r.stalls (i + 1)).foldl (· + ·) 0
  let w0 := 2 ^ 31 + (if r.trigger then 2 ^ 30 else 0) + (if aborted then 2 ^ 29 else 0) + p * 2 ^ 23 + r.op % 64 * 2 ^ 17 +
    r.pc % 4096 * 2 ^ 5 + worstCause r.stalls 7
  [BitVec.ofNat 32 w0, BitVec.ofNat 32 r.issue, BitVec.ofNat 32 (min stalls 65535 * 2 ^ 16 + r.issue / 2 ^ 32 % 2 ^ 16),
   BitVec.ofNat 32 (min latency (2 ^ 32 - 1))]

def State.pipUnread (s : State) : Nat := s.fget PMC_PIPCOUNT_Unread

/-- The threshold of R391. -/
def State.pipThreshold (s : State) : Nat := max 1 (min 1024 (s.fget PMC_PIPTRIG_Threshold))

/-- Unread and PipFull. -/
def State.setUnread (s : State) (n : Nat) : State :=
  (s.fset PMC_PIPCOUNT_Unread n).fset PMC_STATUS_PipFull (if n = 1024 then 1 else 0)

/-- A record enters the buffer in the next slot (R391). -/
def State.pipStore (s : State) (ws : List (BitVec 32)) : State :=
  let n := s.fget PMC_PIPCOUNT_NextSlot
  let s := s.each (List.range 4) fun s w => s.setReg (PMC_PIPRING n w) ((ws.drop w).headD 0)
  let s := (s.fset PMC_PIPCOUNT_NextSlot ((n + 1) % 1024)).pmc 7 1
  let u := s.pipUnread
  if u = 1024 then s.pmc 8 1
  else
    let s := s.setUnread (u + 1)
    if u + 1 = s.pipThreshold then s.raise 16 else s

/-- The pod with a finished record that is served next: ascending, after the pod served last (R391). -/
def State.pipNext (s : State) : Option Nat :=
  (List.range 64).map (fun i => (s.array.pipLast + 1 + i) % 64) |>.find? fun p =>
    match (s.pod p).pip with
    | some r => r.done.isSome
    | none => false

/-- The record of pod p is collected, or lost with StopFull (R391). -/
def State.pipCollect (s : State) (p : Nat) : State :=
  match (s.pod p).pip with
  | some r =>
    match r.done with
    | some (latency, aborted) =>
      let s := s.modPod p fun x => { x with pip := none }
      let s := { s with array := { s.array with pipLast := p } }
      if s.flag PMC_PIPCFG_StopFull && decide (s.pipUnread = 1024) then
        let s := (s.pmc 8 1).fset PMC_STATUS_PipStopped 1
        { s with cnt := { s.cnt with pipStop := true } }
      else s.pipStore (r.words p latency aborted)
    | none => s
  | none => s

/-- PIP_RECORD_COLLECT: one record per command, while the sampler and MCLK run (R289, R391). -/
def execPipRecordCollect (s : State) : Host.Outcome State Fault Refusal := .next <|
  if !s.mclk || s.cnt.pipStop || decide (s.portState 23 ≠ 0) then s
  else
    match s.pipNext with
    | some p => (s.pipCollect p)
    | none => s

/-- Slot of the oldest unread record. -/
def State.pipOldest (s : State) : Nat := (s.fget PMC_PIPCOUNT_NextSlot + 1024 - s.pipUnread) % 1024

/-- PMC_PIP0 as a read shows it: word 0 of the oldest unread record, 0 where there is none. -/
def State.pipHead (s : State) : BitVec 32 := if s.pipUnread = 0 then 0 else s.reg (PMC_PIPRING s.pipOldest 0)

/-- PMC_PIP1 to PMC_PIP3 take the words of the oldest unread record (R17, R391). -/
def State.pipLatch (s : State) : State :=
  if s.pipUnread = 0 then s
  else s.each (List.range 3) fun s w => s.setShadow (PMC_PIPW w) (s.reg (PMC_PIPRING s.pipOldest (w + 1)))

/-- PIP_POP: the host has received PMC_PIP0 in full (R310, R391). -/
def State.pipPop (s : State) : State :=
  if s.pipUnread = 0 then s
  else { s.pipLatch.setUnread (s.pipUnread - 1) with cnt := { s.cnt with pipStop := false } }

def execPipPop (s : State) : Host.Outcome State Fault Refusal := .next (s.hostPop PMC_PIP0 State.pipPop)

end Sys2Proof.Machine
end

