-- ==== Sys2Proof/Machine/RegRead.lean ====
section
/-! DEFINITION. What a register read returns: values the part derives, the R17 shadows, reads behind stopped clocks (R291), and the remote read server (R257, R385, R386). -/

namespace Sys2Proof.Machine

/-! ## Wide values (R17) -/

/-- The upper words that a read of the word at a latches; none where a is not the least significant word of a value
wider than 32 bits. -/
def upperWords (a : Nat) : List Nat :=
  let two := [a + 4]
  let three := [a + 4, a + 8]
  let four := [a + 4, a + 8, a + 12]
  if a < 0x200000 then
    if 0x100000 ≤ a ∧ a < 0x118000 then (if a % 1024 = 0x40 then two else [])
    else if TMB_TXTS_FR 0 ≤ a ∧ a < TMB_TXTS_FR 96 then (if a % 16 = 0 then three else [])
    else if EGR_DCTRL 0 ≤ a ∧ a < EGR_DCTRL 64 then (if a % 32 = 4 then two else [])
    else if [TMB_TIME_FR, TMB_SREFT_FR, SCH_DUE_FR].contains a then three
    else if [TMB_TSET_LO, TMB_STEP_LO, TMB_SREFIDX_LO, TMB_SPER_LO, CAL_SEC_LO, FAB_GRID0_LO, FAB_REJ_LO, GLB_SERIAL_LO].contains a
      then two
    else []
  else if a < 0x300000 then (if [0x10, 0x18, 0x30].contains (a % 65536) then two else [])
  else if a < 0x400000 then
    (if a = HULL_CTBASE_LO || (List.range 4).any fun st => decide (a = HULL_SF0_LO st) then two else [])
  else if a < 0x800000 then (if 0x8000 ≤ a % 65536 ∧ a % 8 = 0 then two else [])
  else if 0x900000 ≤ a ∧ a < 0x940000 then (if a % 64 = 0x18 ∨ a % 64 = 0x38 then two else [])
  else if a = MTX_DECLO ∨ a = IMG_HASH_LO then two
  else if 0xC00000 ≤ a ∧ a < 0xC04000 then
    (if a = PMC_SNAPTIME_FR then three
    else if a = PMC_PIP0 then four
    else if (0xC01000 ≤ a ∧ a < 0xC03000) ∧ a % 8 = 0 then two
    else [])
  else if a = ERL_E0 then four
  else if a = ERL_LPS_FR ∨ a = ERL_FABLPS_FR ∨ (List.range 7).any (fun i => decide (a = ERL_LPSCAUSE_FR (i + 1))) = true then two
  else []

/-- The word is read through its shadow. -/
def isUpperWord (a : Nat) : Bool :=
  (decide (4 ≤ a) && (upperWords (a - 4)).contains a) || (decide (8 ≤ a) && (upperWords (a - 8)).contains a) ||
    (decide (12 ≤ a) && (upperWords (a - 12)).contains a)

/-! ## Derived values -/

/-- Slot of the oldest unread error-log entry (R354). -/
def State.logOldest (s : State) : Nat := (s.fget ERL_COUNT_NextSlot + 256 - s.fget ERL_COUNT_Unread) % 256

/-- Word w of the oldest unread entry; 0 where there is none. -/
def State.logHead (s : State) (w : Nat) : BitVec 32 :=
  if s.fget ERL_COUNT_Unread = 0 then 0 else s.reg (ERL_RING s.logOldest w)

def boolNat (b : Bool) : Nat := if b then 1 else 0

/-- GLB_STATUS: Alert, and the enables after the first SCL edge (R302). -/
def State.glbStatus (s : State) : BitVec 32 :=
  let w := GLB_STATUS_Alert.into (s.reg GLB_STATUS) (boolNat s.alert)
  let w := GLB_STATUS_HjEnabled.into w (boolNat (s.i3c.hjEn && s.i3c.sclSeen))
  GLB_STATUS_IbiEnabled.into w (boolNat (s.i3c.ibiEn && s.i3c.sclSeen))

/-- MTX_STATUS from the crossings and the ports. -/
def State.mtxStatus (s : State) : BitVec 32 :=
  let w := MTX_STATUS_XOverrun.into (s.reg MTX_STATUS) (boolNat ((List.range 14).any fun k => s.flag (MTX_XSTAT_Overrun k)))
  let w := MTX_STATUS_XLost.into w (boolNat ((List.range 14).any fun k => s.flag (MTX_XSTAT_Lost k)))
  MTX_STATUS_Quiescing.into w (boolNat ((List.range 24).any fun i => decide (s.portState i = 1)))

/-- An enabled lane is in LADDER. -/
def State.lanesLeft (s : State) : Bool :=
  (List.range 96).any fun l => s.flag (LN_CFG_Enable l) && decide (s.lnState l = 1)

/-- A table word whose entry has an uncorrectable error reads as not Valid (R353). -/
def State.maskValid (s : State) (a : Nat) : BitVec 32 :=
  let w := s.reg a
  if s.eccOk a then w
  else if (FAB_NH 0 ≤ a ∧ a < FAB_NH 4096) then (FAB_NH_Valid 0).into w 0
  else if (HULL_SRC 0 ≤ a ∧ a < HULL_SRC 256) then (HULL_SRC_Valid 0).into w 0
  else if (HULL_OWN 0 ≤ a ∧ a < HULL_OWN 8192) then (HULL_OWN_Valid 0).into w 0
  else w

/-- Derived values of the blocks below 0x0020_0000. -/
def State.peekLow (s : State) (a : Nat) : BitVec 32 :=
  if a = GLB_STATUS then s.glbStatus
  else if a = PWR_STATUS then
    PWR_STATUS_LanesPending.into (s.reg a) (boolNat (s.flag PWR_STATUS_LanesPending && s.lanesLeft))
  else if a = GLB_I3C then GLB_I3C_StaticAddr.into (s.reg a) (0x30 + s.fget GLB_STRAP_AddrSel)
  else if a = GLB_INTTOP then BitVec.ofNat 32 s.topCause
  else if a = TMB_TIME_FR then BitVec.ofNat 32 s.frac32
  else if a = TMB_TIME_SL then BitVec.ofNat 32 s.sec
  else if a = TMB_TIME_SH then BitVec.ofNat 32 (s.sec / 2 ^ 32)
  else if isHeldWord a then (tget none s.tim.held a).getD (s.reg a)
  else if TMB_TXTS_FR 0 ≤ a ∧ a < TMB_TXTS_FR 96 then
    let l := (a - TMB_TXTS_FR 0) / 16
    let h := s.txHead l
    if a % 16 = 0 then h.1
    else if a % 16 = 4 then h.2.1
    else if a % 16 = 8 then h.2.2
    else (TMB_TXSTAT_Count l).into (s.reg a) (tget [] s.tim.txts l).length
  else if a = SCH_STATUS then
    SCH_STATUS_Full.into (SCH_STATUS_Count.into (s.reg a) s.schCount) (boolNat (decide (1024 ≤ s.schCount)))
  else if a = SCH_DONE then s.schDone
  else if 0x100000 ≤ a ∧ a < 0x118000 ∧ a % 1024 = 4 then
    let l := (a - 0x100000) / 1024
    (LN_STATUS_SpareMismatch l).into (s.reg a) (boolNat (s.spareMismatch l))
  else s.maskValid a

/-- Derived values of the blocks from 0x0020_0000 up. -/
def State.peekHigh (s : State) (a : Nat) : BitVec 32 :=
  if a < 0x300000 then
    let e := (a - 0x200000) / 65536
    let off := a % 65536
    if off = 0x3C then s.gdataRead e
    else if 0x100 ≤ off ∧ off < 0x500 ∧ off % 64 = 4 then
      let p := (off - 0x100) / 64
      (FCH_PSTAT_State e p).into (s.reg a) (s.pathState e p)
    else s.reg a
  else if a < 0x400000 then s.maskValid a
  else if a < 0x800000 then
    if a % 65536 = 8 then
      let p := (a - 0x400000) / 65536
      (POD_PCFG_Lead p).into (s.reg a) (boolNat (s.isLead p))
    else s.reg a
  else if a = HUSK_STATUS then
    HUSK_STATUS_StageFull.into (HUSK_STATUS_Running.into (s.reg a) (boolNat (s.flag HUSK_CTRL_Enable))) (boolNat s.stageFull)
  else if a = CTX_HBMSUM then BitVec.ofNat 32 (min 65535 s.hbmSum)
  else if CTX_PLOAD 0 ≤ a ∧ a < CTX_PLOAD 8 then BitVec.ofNat 32 (min 4095 (s.partSum ((a - CTX_PLOAD 0) / 4)))
  else if a = MTX_STATUS then s.mtxStatus
  else if 0xC02000 ≤ a ∧ a < 0xC03000 ∧ s.pmcHeld = false then s.reg (a - 0x1000)
  else if a = PMC_PIP0 then s.pipHead
  else if PMC_PIPW 0 ≤ a ∧ a < PMC_PIPW 3 then
    (if s.pipUnread = 0 then tget 0 s.shadow a else s.reg (PMC_PIPRING s.pipOldest ((a - PMC_PIPW 0) / 4 + 1)))
  else if a = ERL_E0 then s.logHead 0
  else if a = ERL_E1 then s.logHead 1
  else if a = ERL_E2 then s.logHead 2
  else if a = ERL_E3 then s.logHead 3
  else s.reg a

/-- The value of the register at a, live (R12: 0 where none is allocated). -/
def State.peek (s : State) (a : Nat) : BitVec 32 :=
  if (findRow a).isNone then 0 else if a < 0x200000 then s.peekLow a else s.peekHigh a

/-! ## Reads -/

/-- The word of a shadow table. -/
def shadowOf (t : Tbl (BitVec 32)) (a : Nat) : BitVec 32 := tget (regReset a) t a

/-- What a host read of the word at a returns where its clock runs (R17). -/
def State.readReg (s : State) (a : Nat) : BitVec 32 := if isUpperWord a then shadowOf s.shadow a else s.peek a

/-- The latch of a low-word read by the host (R17). -/
def State.latch (s : State) (a : Nat) : State := s.each (upperWords a) fun s u => s.setShadow u (s.peek u)

/-- The latch of a low-word read by fabric control (R385). -/
def State.latchFab (s : State) (a : Nat) : State :=
  s.each (upperWords a) fun s u => { s with shadowFab := tset (regReset u) s.shadowFab u (s.peek u) }

/-- LOW_WORD_READ (R17, R385). -/
def execLowWordRead (a : Nat) (byFabric : Bool) (s : State) : Host.Outcome State Fault Refusal :=
  reply ((upperWords (a / 4 * 4)).isEmpty) <|
    if !s.awake || s.regHeld (a / 4 * 4) || !s.clockOn (a / 4 * 4) then s
    else if byFabric then s.latchFab (a / 4 * 4) else s.latch (a / 4 * 4)

/-! ## Reads that pop (R310) -/

/-- The oldest unread error-log entry is popped; E1 to E3 are latched (R354). -/
def State.logPop (s : State) : State :=
  let n := s.fget ERL_COUNT_Unread
  if n = 0 then s
  else
    let s := ((s.setShadow ERL_E1 (s.logHead 1)).setShadow ERL_E2 (s.logHead 2)).setShadow ERL_E3 (s.logHead 3)
    (s.fset ERL_COUNT_Unread (n - 1)).fset ERL_STATUS_NotEmpty (if n = 1 then 0 else 1)

/-- What the host's receipt of all four bytes of the register at a does. A read behind a stopped clock has returned 0 and pops
nothing (R291, R310). -/
def State.popReg (s : State) (a : Nat) : State :=
  if !s.clockOn a then s
  else if a = ERL_E0 then s.logPop
  else if a = PMC_PIP0 then s.pipPop
  else if a = SCH_DONE then s.schDonePop
  else if TMB_TXTS_FR 0 ≤ a ∧ a < TMB_TXTS_FR 96 ∧ a % 16 = 0 then s.txtsPop ((a - TMB_TXTS_FR 0) / 16)
  else if 0x200000 ≤ a ∧ a < 0x300000 ∧ a % 65536 = 0x3C then s.gaddrNext ((a - 0x200000) / 65536)
  else s

/-! ## Reads by the peripheral bridge (R279, R291) -/

/-- A register read by initiator i at a 4-byte address: the word, and the state with latches, counts and log. -/
def State.fetchReg (s : State) (i a : Nat) : BitVec 32 × State :=
  if s.regOff a then (0, s.log 6 0 i (a % 2 ^ 32))
  else if isDmw a then s.dmwRead (a - 0x10000000)
  else (s.readReg a, s.latch a)

/-! ## The remote read server (R257, R386) -/

/-- An address that a remote node may read (R386). -/
def State.mreadAllowed (s : State) (a : Nat) : Bool :=
  let live := decide (0xC01000 ≤ a) && decide (a < 0xC02000)
  let shadow := decide (0xC02000 ≤ a) && decide (a < 0xC03000)
  let other := [PMC_STATUS, PMC_SNAPTIME_FR, PMC_SNAPTIME_SL, PMC_SNAPTIME_SH].contains a
  s.flag PMC_PERMIT_FabricRead && ((live && !s.flag PMC_PERMIT_ShadowOnly) || shadow || other)

/-- MRESP payload. -/
def mrespPayload (addr : List Byte) (data : Nat) (result : Nat) : List Byte :=
  addr ++ beBytes 4 data ++ [BitVec.ofNat 8 result, 0, 0, 0]

/-- One MREAD is served and answered. -/
def State.mreadServe (s : State) (src : Nat) (p : List Byte) : State :=
  let a := beAt p 0 4 / 4 * 4
  if s.mreadAllowed a then
    let v := if isUpperWord a then shadowOf s.shadowFab a else s.peek a
    ((s.latchFab a).pmc 463 1).originate 9 src 0 false (mrespPayload (p.take 4) v.toNat 0)
  else s.originate 9 src 0 false (mrespPayload (p.take 4) 0 1)

/-- MREAD (R257): the oldest delivered MREAD is taken; a payload that is not 4 bytes is dropped. It waits at a held crossing (R296). -/
def execMread (s : State) : Host.Outcome State Fault Refusal := .next <|
  match s.fab.mreadq with
  | [] => s
  | (src, _, p) :: rest =>
    if s.unitInReset 21 || decide (p.length = 4) && s.regHeld (beAt p 0 4 / 4 * 4) then s else
    let s : State := { s with fab := { s.fab with mreadq := rest } }
    if p.length = 4 ∧ s.fabOn = true then s.mreadServe src p else s

end Sys2Proof.Machine
end

