-- ==== Sys2Proof/Machine/I3c.lean ====
section
/-! DEFINITION. The I3C target (R298 to R310, R315): CCCs, addresses, private transfers, posted writes and prefetch, in-band
interrupts and Hot-Join. Posted writes are executed in Bridge.lean. -/

namespace Sys2Proof.Machine

/-- The part sees the bus: powered, out of reset; the SCL edge is recorded. -/
def State.scl (s : State) : State := { s with i3c := { s.i3c with sclSeen := true } }

def State.daValid (s : State) : Bool := s.flag GLB_STATUS_DaValid
def State.hdrActive (s : State) : Bool := s.flag GLB_STATUS_HdrActive

/-- The bus is in SDR and the part listens (R298). -/
def State.sdrOn (s : State) : Bool := s.awake && !s.hdrActive && !s.i3c.hdrIgnore

/-- The bus is in HDR-DDR and the part is addressed. -/
def State.ddrOn (s : State) : Bool := s.awake && s.hdrActive && s.daValid

/-- A CCC or header in SDR: f where the part listens. -/
def State.onBus (s : State) (f : State → State) : State := if s.sdrOn then f s.scl else s

/-- A direct CCC to the part's dynamic address; a part without one does not acknowledge (R299). -/
def State.direct (s : State) (f : State → State) : State :=
  s.onBus fun s => if s.daValid then f s else s.emit .nack

def State.setI3c (s : State) (x : I3cSt) : State := { s with i3c := x }

/-- Bytes returned on the bus. -/
def State.answer (s : State) (bs : List Byte) : State := s.emit (.i3c bs)

/-- An event of R306 or R307: the GLB_BUSSTAT bit and its log entry. -/
def State.busEvent (s : State) (bit : Nat) : State :=
  (s.setReg GLB_BUSSTAT (s.reg GLB_BUSSTAT ||| (1#32 <<< bit))).log 8 0 0 bit

/-- A parity or CRC error (R306, R307): also counted, and shown by GETSTATUS. -/
def State.busError (s : State) (bit : Nat) : State :=
  let s := (s.busEvent bit).inc GLB_BUSERR
  s.setI3c { s.i3c with errSince := true }

/-! ## Addresses (R299, R300) -/

def State.setDa (s : State) (da : Nat) : State :=
  let s := (s.fset GLB_I3C_DynAddr da).fset GLB_STATUS_DaValid 1
  s.setI3c { s.i3c with hjDone := true }

/-- ECLK ticks in the 50 ms of R301. -/
def hotJoinTicks : Nat := 12500000

/-- No dynamic address is held; an IBI cannot be requested (R315). -/
def State.clearDa (s : State) : State :=
  let s := (s.fset GLB_I3C_DynAddr 0).fset GLB_STATUS_DaValid 0
  s.setI3c { s.i3c with ibiReq := false }

/-- PID of R300. -/
def State.pid (s : State) : Nat := 0x01B4 * 2 ^ 33 + 0x9601 * 2 ^ 16 + s.fget GLB_STRAP_AddrSel * 2 ^ 12 + 1

/-- BCR and DCR of R300. -/
def bcr : Nat := 0x2F
def dcr : Nat := 0x00

/-- RSTDAA (R302). -/
def execRstdaa (s : State) : Host.Outcome State Fault Refusal := .next <|
    s.onBus State.clearDa

/-- ENTDAA (R300): a part without a dynamic address presents its identity and takes the one assigned. -/
def execEntdaa (da : Nat) (s : State) : Host.Outcome State Fault Refusal :=
  reply (128 ≤ da) <|
    s.onBus fun s =>
      if s.daValid then s
      else (s.answer (beBytes 6 s.pid ++ [BitVec.ofNat 8 bcr, BitVec.ofNat 8 dcr])).setDa da

/-- SETDASA (R299): answered at the static address while no dynamic address is held. -/
def execSetdasa (static da : Nat) (s : State) : Host.Outcome State Fault Refusal :=
  reply (128 ≤ da) <|
    s.onBus fun s =>
      if static ≠ 0x30 + s.fget GLB_STRAP_AddrSel then s else if s.daValid then s.emit .nack else s.setDa da

/-- SETNEWDA (R302). -/
def execSetnewda (da : Nat) (s : State) : Host.Outcome State Fault Refusal :=
  reply (128 ≤ da) <|
    s.direct fun s => s.setDa da

/-! ## Other CCCs (R302) -/

/-- ENEC: event bits ENINT (0) and ENHJ (3); IBIs enabled while causes are pending bring one for them (R316). -/
def execEnec (events : Nat) (s : State) : Host.Outcome State Fault Refusal :=
  reply (256 ≤ events) <|
    s.onBus fun s =>
      let int := decide (events % 2 = 1)
      let x := { s.i3c with ibiEn := s.i3c.ibiEn || int, hjEn := s.i3c.hjEn || decide (events / 8 % 2 = 1) }
      s.setI3c (if int && !s.i3c.ibiEn then { x with ackSet := 0 } else x)

/-- DISEC. Once the requests of R301 may have begun it ends them. -/
def execDisec (events : Nat) (s : State) : Host.Outcome State Fault Refusal :=
  reply (256 ≤ events) <|
    s.onBus fun s =>
      let int := decide (events % 2 = 1)
      s.setI3c { s.i3c with
        ibiEn := s.i3c.ibiEn && !int
        ibiReq := s.i3c.ibiReq && !int
        hjEn := s.i3c.hjEn && !decide (events / 8 % 2 = 1)
        hjDone := s.i3c.hjDone || (decide (events / 8 % 2 = 1) && decide (hotJoinTicks ≤ s.tim.ticks)) }

/-- ENTAS0 to ENTAS3: acknowledged, no effect. -/
def execEntas (n : Nat) (s : State) : Host.Outcome State Fault Refusal :=
  reply (4 ≤ n) <|
    s.onBus fun s => s

/-- A length clamped to its range. -/
def clampLen (lo hi n : Nat) : Nat := max lo (min hi n)

/-- SETMWL. -/
def execSetmwl (len : Nat) (s : State) : Host.Outcome State Fault Refusal :=
  reply (65536 ≤ len) <|
    s.onBus fun s => s.fset GLB_LEN_Mwl (clampLen 8 1028 len)

/-- SETMRL: an IBI payload size other than 1 is not acknowledged. -/
def execSetmrl (len ibi : Nat) (s : State) : Host.Outcome State Fault Refusal :=
  reply (65536 ≤ len ∨ 256 ≤ ibi) <|
    s.onBus fun s => if ibi = 1 then s.fset GLB_LEN_Mrl (clampLen 4 4096 len) else s.emit .nack

/-- ENTHDR0: HDR-DDR begins. -/
def execEnthdr0 (s : State) : Host.Outcome State Fault Refusal := .next <|
    s.onBus fun s => s.fset GLB_STATUS_HdrActive 1

/-- ENTHDR of another mode: a CCC that the part does not implement, and the bus is ignored until the HDR Exit Pattern (R298, R302). -/
def execEnthdrOther (s : State) : Host.Outcome State Fault Refusal := .next <|
    s.onBus fun s => (s.fset GLB_BUSSTAT_CccUnsupp 1).setI3c { s.i3c with hdrIgnore := true }

/-- HDR_EXIT. -/
def execHdrExit (s : State) : Host.Outcome State Fault Refusal :=
  .next (if s.awake then
    let s := s.scl.fset GLB_STATUS_HdrActive 0
    s.setI3c { s.i3c with hdrIgnore := false }
  else s)

/-- Reset of the I3C target logic (R302). -/
def State.targetReset (s : State) : State :=
  let s := s.clearDa
  s.setI3c { s.i3c with ptr := 0, prefetch := [], posted := [] }

/-- RSTACT. -/
def execRstact (defByte : Nat) (s : State) : Host.Outcome State Fault Refusal :=
  reply (256 ≤ defByte) <|
    s.onBus fun s => if defByte = 0 then s else if defByte = 1 then s.targetReset else s.emit .nack

/-- TARGET_RESET_PATTERN (R298). -/
def execTargetResetPattern (s : State) : Host.Outcome State Fault Refusal :=
  .next (if s.awake then s.scl.targetReset else s)

/-- GETMWL. -/
def execGetmwl (s : State) : Host.Outcome State Fault Refusal := .next <|
    s.direct fun s => s.answer (beBytes 2 (s.fget GLB_LEN_Mwl))

/-- GETMRL, with the IBI payload size. -/
def execGetmrl (s : State) : Host.Outcome State Fault Refusal := .next <|
    s.direct fun s => s.answer (beBytes 2 (s.fget GLB_LEN_Mrl) ++ [1])

/-- GETPID. -/
def execGetpid (s : State) : Host.Outcome State Fault Refusal := .next <|
    s.direct fun s => s.answer (beBytes 6 s.pid)

/-- GETBCR. -/
def execGetbcr (s : State) : Host.Outcome State Fault Refusal := .next <|
    s.direct fun s => s.answer [BitVec.ofNat 8 bcr]

/-- GETDCR. -/
def execGetdcr (s : State) : Host.Outcome State Fault Refusal := .next <|
    s.direct fun s => s.answer [BitVec.ofNat 8 dcr]

/-- Enabled causes that are pending. -/
def State.causeCount (s : State) : Nat := ((List.range 16).filter fun i => s.enabledCauses.getLsbD i).length

/-- The status word of GETSTATUS, format 1. -/
def State.i3cStatus (s : State) : Nat :=
  s.topCause * 2 ^ 8 + (if s.i3c.errSince then 2 ^ 5 else 0) + min 15 s.causeCount

/-- GETSTATUS. -/
def execGetstatus (s : State) : Host.Outcome State Fault Refusal := .next <|
    s.direct fun s => (s.answer (beBytes 2 s.i3cStatus)).setI3c { s.i3c with errSince := false }

/-- GETMXDS: 12.5 MHz both ways and no read turnaround, in the two bytes of format 1 (log entry 120). -/
def execGetmxds (s : State) : Host.Outcome State Fault Refusal := .next <|
    s.direct fun s => s.answer [0x00, 0x00]

/-- GETCAPS: HDR-DDR, and version 1.1 (log entry 120). -/
def execGetcaps (s : State) : Host.Outcome State Fault Refusal := .next <|
    s.direct fun s => s.answer ([0x01, 0x01] ++ Config.getCapsRest)

/-- UNSUPPORTED_CCC: not acknowledged when direct, ignored when broadcast; CccUnsupp. -/
def execUnsupportedCcc (code : Nat) (s : State) : Host.Outcome State Fault Refusal :=
  reply (256 ≤ code) <|
    s.onBus fun s =>
      let s := s.fset GLB_BUSSTAT_CccUnsupp 1
      if 128 ≤ code then s.emit .nack else s

/-! ## Private writes (R303, R306 to R308) -/

/-- Bytes the write buffer holds. -/
def State.bufUsed (s : State) : Nat := s.i3c.posted.foldl (fun n p => n + (if p.first then 8 else 4)) 0

/-- A write header is acknowledged (R308). -/
def State.bufRoom (s : State) : Bool := decide (s.bufUsed + s.fget GLB_LEN_Mwl ≤ 2056)

/-- The header is declined. -/
def State.writeNack (s : State) : State := (s.emit .nack).inc GLB_WRNACK

/-- Complete registers among data bytes, from address a on. -/
def regWords : Nat → Nat → Bool → List Byte → List Posted
  | 0, _, _, _ => []
  | n + 1, a, first, bs =>
    if 4 ≤ bs.length then
      ⟨a, BitVec.ofNat 32 (ofLe (bs.take 4)), first⟩ :: regWords n ((a + 4) % 2 ^ 32) false (bs.drop 4)
    else []

/-- The address bytes set the pointer; the registers after them are posted (R303, R305, R309). -/
def State.postWrite (s : State) (bs : List Byte) : State :=
  let a := beAt bs 0 4 / 4 * 4
  let ws := regWords bs.length a true (bs.drop 4)
  s.setI3c { s.i3c with ptr := (a + 4 * ws.length) % 2 ^ 32, prefetch := [], posted := s.i3c.posted ++ ws }

/-- The bytes of a write after the address rules of R307: short addresses and partial registers. -/
def State.takeWrite (s : State) (bs : List Byte) : State :=
  if bs.length < 4 then s.busEvent 2
  else
    let s := s.postWrite bs
    if bs.length % 4 ≠ 0 then s.busEvent 2 else s

/-- Bytes beyond the maximum write length are discarded (R307). -/
def State.clipWrite (s : State) (bs : List Byte) : List Byte × State :=
  let m := s.fget GLB_LEN_Mwl
  let s := s.pmc 480 (min m bs.length)
  (bs.take m, if m < bs.length then s.busEvent 3 else s)

/-- SDR_WRITE (R303, R307, R308). -/
def execSdrWrite (bytes : List Byte) (badParity : Option Nat) (s : State) : Host.Outcome State Fault Refusal := .next <|
    s.direct fun s =>
      if !s.bufRoom then s.writeNack
      else
        let (bs, s) := s.clipWrite bytes
        match badParity with
        | some j =>
          if j < bs.length then
            let s := s.busError 0
            if j < 4 then s else s.postWrite (bs.take (j / 4 * 4))
          else s.takeWrite bs
        | none => s.takeWrite bs

/-- REG_WRITE: HDR-DDR words, so an even number of bytes (R306). -/
def execRegWrite (bytes : List Byte) (crcOk : Bool) (s : State) : Host.Outcome State Fault Refusal :=
  reply (bytes.length % 2 ≠ 0) <|
    if !s.ddrOn then s
    else if !s.bufRoom then s.writeNack
    else if !crcOk then (s.busError 1)
    else
      let (bs, s) := s.clipWrite bytes
      s.takeWrite bs

/-- SET_ADDR: two address words (R306). -/
def execSetAddr (bytes : List Byte) (s : State) : Host.Outcome State Fault Refusal :=
  reply (bytes.length % 2 ≠ 0 ∨ 4 < bytes.length) <|
    if !s.ddrOn then s
    else if !s.bufRoom then s.writeNack
    else ((s.pmc 480 bytes.length).takeWrite bytes)

/-! ## Private reads (R304, R309, R310) -/

/-- Address of the next register to be fetched. -/
def State.fetchAt (s : State) : Nat := (s.i3c.ptr + 4 * s.i3c.prefetch.length) % 2 ^ 32

/-- The next register is fetched into the prefetch buffer. -/
def State.prefetch (s : State) : State :=
  let (v, s) := s.fetchReg 21 s.fetchAt
  s.setI3c { s.i3c with prefetch := s.i3c.prefetch ++ [v] }

/-- READ_FETCH_DONE: no fetch completes before every earlier posted write has (R308, R309), nor through a held crossing (R296). -/
def execReadFetchDone (s : State) : Host.Outcome State Fault Refusal :=
  .next (if s.awake && s.i3c.posted.isEmpty && decide (s.i3c.prefetch.length < 8) && !s.regHeld s.fetchAt then s.prefetch else s)

/-- The read is declined or ended (R309). -/
def State.readShort (s : State) : State := ((s.fset GLB_BUSSTAT_ReadShort 1).inc GLB_RDSHORT).pmc 483 1

/-- The register at the pointer has been sent in full: it pops what it pops, and the pointer rises (R304, R310). -/
def State.regSent (s : State) : State :=
  let s := s.popReg s.i3c.ptr
  s.setI3c { s.i3c with ptr := (s.i3c.ptr + 4) % 2 ^ 32, prefetch := s.i3c.prefetch.drop 1 }

/-- Up to n bytes from the pointer; `first` while no byte has been sent. The bytes sent come before the state. -/
def State.sendBytes (s : State) : Nat → Nat → Bool → List Byte → List Byte × State
  | 0, _, _, sent => (sent, s)
  | fuel + 1, n, first, sent =>
    if n = 0 then (sent, s)
    else
      let ready := !s.i3c.prefetch.isEmpty ||
        (!first && s.i3c.posted.isEmpty && !s.regHeld s.fetchAt && Config.fetchInTime s.fresh)
      if !ready then (sent, (if first then s else s.draw).readShort)
      else
        let s := if s.i3c.prefetch.isEmpty then s.draw.prefetch else s
        let w := leBytes 4 (s.i3c.prefetch.headD 0).toNat
        if n < 4 then (sent ++ w.take n, s)
        else State.sendBytes s.regSent fuel (n - 4) false (sent ++ w)

/-- A private read of len bytes, at most the maximum read length. -/
def State.privateRead (s : State) (len : Nat) : State :=
  let n := min len (s.fget GLB_LEN_Mrl)
  let (bs, s) := s.sendBytes n n true []
  if bs.isEmpty then s.emit .nack else (s.answer bs).pmc 481 bs.length

/-- SDR_READ. -/
def execSdrRead (len : Nat) (s : State) : Host.Outcome State Fault Refusal :=
  reply (len = 0) <|
    s.direct fun s => s.privateRead len

/-- REG_READ (R306). -/
def execRegRead (len : Nat) (s : State) : Host.Outcome State Fault Refusal :=
  reply (len = 0 ∨ len % 2 ≠ 0) <|
    (if s.ddrOn then s.privateRead len else s)

/-! ## Hot-Join and in-band interrupts (R301, R315) -/

/-- HOT_JOIN_REQUEST (R301): from 50 ms after RESET_N release, and every 50 ms until an assignment or DISEC. -/
def execHotJoinRequest (s : State) : Host.Outcome State Fault Refusal := .next <|
    s.onBus fun s =>
      if s.daValid || !s.i3c.hjEn || s.i3c.hjDone || decide (s.tim.ticks < s.i3c.hjAt + hotJoinTicks) then s
      else (s.emit .hotJoin).setI3c { s.i3c with hjAt := s.tim.ticks }

/-- An enabled cause is pending that was not at the last acknowledge. -/
def State.ibiWanted (s : State) : Bool :=
  s.i3c.ibiEn && s.daValid && decide (s.enabledCauses &&& ~~~s.i3c.ackSet ≠ 0)

/-- A request may be made: none stands, or its last attempt, which the controller declined, lies 100 µs back (R315). -/
def State.ibiMay (s : State) : Bool := s.i3c.ibiAt = 0 || decide (s.i3c.ibiAt - 1 + 25000 ≤ s.tim.ticks)

/-- IBI_REQUEST: a request is made, or one that stands is made again while an enabled cause is pending, or withdrawn where none is
(R315). -/
def execIbiRequest (s : State) : Host.Outcome State Fault Refusal := .next <|
    s.onBus fun s =>
      if s.ibiWanted || s.i3c.ibiReq && decide (s.enabledCauses ≠ 0) then
        if s.ibiMay then (s.emit .ibiRequest).setI3c { s.i3c with ibiReq := true, ibiAt := s.tim.ticks + 1 }
        else s
      else s.setI3c { s.i3c with ibiReq := false, ibiAt := 0 }

/-- IBI_ACK: the mandatory byte carries the top cause at this moment. -/
def execIbiAck (s : State) : Host.Outcome State Fault Refusal := .next <|
    s.onBus fun s =>
      if s.i3c.ibiReq then
        let s := ((s.emit (.ibi s.topCause)).inc GLB_IBICNT).pmc 482 1
        s.setI3c { s.i3c with ibiReq := false, ibiAt := 0, ackSet := s.enabledCauses }
      else s

/-- Causes cleared by software count as new when set again (R315, R316). -/
def State.ackPrune (s : State) : State := s.setI3c { s.i3c with ackSet := s.i3c.ackSet &&& s.enabledCauses }

end Sys2Proof.Machine
end

