-- ==== Sys2Proof/Machine/RegWrite.lean ====
section
/-! DEFINITION. What a register write does, block by block: the access codes of R13 with the locks of R15, and the effect
the chapters give to a command register or an enable. The commands of the image loader and of the power unit are added in
Bridge.lean. -/

namespace Sys2Proof.Machine

/-! ## Locks (R15) -/

/-- A destination may be written: every context that names it with Emit 1 is STOPPED or EMPTY (chapter 06). -/
def State.destOpen (s : State) (d : Nat) : Bool :=
  (List.range 4096).all fun c => !(s.flag (CTX_DEST_Emit c) && decide (s.fget (CTX_DEST_Dest c) = d)) || s.ctxIdle c

/-- The owning unit of a row's RWL fields is stopped (R15, R65, R149 and the register sections). -/
def State.ownerOpen (s : State) (o : Owner) (ix : List Nat) : Bool :=
  let i := ix.headD 0
  let j := (ix.drop 1).headD 0
  match o with
  | .none => true
  | .slot => !s.flag (FCH_PSRC_Enable i j)
  | .engine => !s.flag (FCH_CTRL_Enable i)
  | .stream => !s.flag (HULL_SCTRL_Enable i)
  | .hull => !s.flag HULL_CTRL_Enable
  | .pod => !s.flag (POD_STATUS_Running i)
  | .husk => !s.flag HUSK_CTRL_Enable
  | .ctx => s.ctxOpen i
  | .dest => s.destOpen i
  | .lane => !s.flag (LN_CFG_Enable i)
  | .fab => !s.flag FAB_CTRL_Enable
  | .dmc => !s.flag DMC_CTRL_Enable

def RegRow.hasRwl (r : RegRow) : Bool := r.fields.any fun f => decide (f.acc = .rwl)

/-- The fields of the word at a take v by their access codes; a write to a locked field is logged WRITE_LOCKED with its
initiator (R12, R13, R15). -/
def State.rowWrite (s : State) (init a : Nat) (v : BitVec 32) : State :=
  match findRow a with
  | none => s
  | some (r, ix) =>
    let o := s.ownerOpen r.owner ix
    let s := s.setReg a (r.written o v (s.reg a))
    if !o && r.hasRwl then s.writeLocked init a else s

/-- A write to a word that holds an enable: its other fields first, judged against the state before the write (R65). -/
def State.enableWrite (s : State) (init : Nat) (f : Fld) (v : BitVec 32) (on off : State → State) : State :=
  let s := s.rowWrite init f.addr (f.into v (s.fget f))
  if f.of v = 1 then on s else off s

/-- A write to a SECDED-protected word that is accepted leaves it correct (R353). -/
def State.storeWrite (s : State) (init a key : Nat) (v : BitVec 32) (o : Bool) : State :=
  if o then (s.rowWrite init a v).eccClear key else s.writeLocked init a

/-! ## Blocks -/

/-- GLB (R312 to R318). -/
def State.writeGlb (s : State) (init a : Nat) (v : BitVec 32) : State :=
  if a = GLB_INTPEND ∨ a = GLB_INTEN then (s.rowWrite init a v).ackPrune
  else if a = GLB_URESET then
    s.each (List.range 23) fun s u =>
      if v.getLsbD u then s.unitResetSet u else if (s.reg GLB_URESET).getLsbD u then s.unitResetClear u else s
  else s.rowWrite init a v

/-- TMB_CMD. -/
def State.tmbCmd (s : State) (v : BitVec 32) : State :=
  let s := s.when (decide (TMB_CMD_ClearWtr.of v = 1)) fun s => s.clearWtr (TMB_CMD_WtrMask.of v)
  let s := s.when (decide (TMB_CMD_SetTime.of v = 1)) State.setTimeCmd
  s.when (decide (TMB_CMD_Realign.of v = 1)) State.realignCmd

/-- TMB, CAL and SCH (R178 to R205). -/
def State.writeTime (s : State) (init a : Nat) (v : BitVec 32) : State :=
  if a = TMB_CMD then s.tmbCmd v
  else if a = CAL_CMD then s.when (decide (CAL_CMD_Capture.of v = 1)) State.captureCmd
  else if a = SCH_INSERT then s.schInsert v
  else if a = SCH_CANCEL then s.schCancel v
  else if isHeldWord a then s.holdWord a v
  else if commitLows a ≠ [] then s.commitWord a v
  else if TMB_REFCFG 0 ≤ a ∧ a < TMB_REFCFG 7 then (s.rowWrite init a v).refConfig ((a - TMB_REFCFG 0) / 4)
  else if a = TMB_FTCFG then
    let was := s.ftOn
    let s := s.rowWrite init a v
    if was && !s.ftOn then s.ftDisable else s
  else if a = TMB_OUTCFG then (s.rowWrite init a v).outConfig
  else s.rowWrite init a v

/-- LN_CMD. -/
def State.laneCmd (s : State) (l : Nat) (v : BitVec 32) : State :=
  let s := s.when (decide ((LN_CMD_Restart l).of v = 1)) fun s => s.laneRestart l
  let s := s.when (decide ((LN_CMD_WarmTrain l).of v = 1)) fun s => s.laneWarm l
  let s := s.when (decide ((LN_CMD_SwapNow l).of v = 1)) fun s => s.swapNow l
  s.when (decide ((LN_CMD_Release l).of v = 1)) fun s => s.laneRelease l

/-- LN_CFG.Enable written to 0. -/
def State.laneOff (s : State) (l : Nat) : State :=
  if s.flag (LN_CFG_Enable l) then (s.laneStop l).fset (LN_CFG_Enable l) 0 else s

/-- LN (R219 to R236). -/
def State.writeLane (s : State) (init a : Nat) (v : BitVec 32) : State :=
  let l := (a - 0x100000) / 1024
  if a % 1024 = 0 then s.enableWrite init (LN_CFG_Enable l) v (fun s => s.laneOn l) (fun s => s.laneOff l)
  else if a % 1024 = 8 then s.laneCmd l v
  else s.rowWrite init a v

/-- FAB (R252 to R257). -/
def State.writeFab (s : State) (init a : Nat) (v : BitVec 32) : State :=
  if a = FAB_CTRL then s.enableWrite init FAB_CTRL_Enable v State.fabEnable State.fabDisable
  else if a = FAB_MREQ then s.mreadSend v
  else if (FAB_LSET 0 0 ≤ a ∧ a < FAB_LSET 64 0 ∧ a % 16 ≠ 12) ∨ (FAB_NH 0 ≤ a ∧ a < FAB_NH 4096) then
    let o := s.ownerOpen .fab []
    s.storeWrite init a a v o
  else s.rowWrite init a v

/-- FCH (R47, R64, R65). -/
def State.writeFch (s : State) (init a : Nat) (v : BitVec 32) : State :=
  let e := (a - 0x200000) / 65536
  let off := a % 65536
  if off = 0 then s.enableWrite init (FCH_CTRL_Enable e) v (fun s => s.fchEnable e) fun s =>
    if s.flag (FCH_CTRL_Enable e) then s.fchDisable e else s
  else if off = 0x30 then s.gswapLow init e v
  else if off = 0x34 then s.gswapArm init e v
  else if off = 0x3C then s.gdataWrite init e v
  else if 0x100 ≤ off ∧ off < 0x500 ∧ off % 64 = 0 then
    let p := (off - 0x100) / 64
    s.enableWrite init (FCH_PSRC_Enable e p) v (fun s => s.fchSlotEnable e p) fun s =>
      if s.flag (FCH_PSRC_Enable e p) then s.fchSlotDisable e p else s
  else s.rowWrite init a v

/-- HULL (R67 to R87). -/
def State.writeHull (s : State) (init a : Nat) (v : BitVec 32) : State :=
  if a = HULL_CTRL then s.enableWrite init HULL_CTRL_Enable v State.hullEnable fun s =>
    if s.flag HULL_CTRL_Enable then s.hullDisable else s
  else if HULL_SCTRL 0 ≤ a ∧ a < HULL_SCTRL 4 ∧ a % 32 = 0 then
    let st := (a - HULL_SCTRL 0) / 32
    s.enableWrite init (HULL_SCTRL_Enable st) v (fun s => s.streamEnable st) fun s => s.fset (HULL_SCTRL_Enable st) 0
  else if (HULL_SRC 0 ≤ a ∧ a < HULL_SRC 256) ∨ (HULL_OWN 0 ≤ a ∧ a < HULL_OWN 8192) then
    s.storeWrite init a a v (s.ownerOpen .hull [])
  else s.rowWrite init a v

/-- POD (R100, R110, R111). -/
def State.writePod (s : State) (init a : Nat) (v : BitVec 32) : State :=
  let p := (a - 0x400000) / 65536
  if a % 65536 = 0 then s.enableWrite init (POD_CTRL_Run p) v (fun s => s.podRunStart p) (fun s => s.podRunStop p)
  else if a % 65536 = 0x1C then
    (if (POD_CMD_Steer p).of v = 1 ∧ (POD_CMD_Column p).of v < 33 then s.steerRequest p ((POD_CMD_Column p).of v) else s)
  else s.rowWrite init a v

/-- HUSK: descriptors and map entries (R117, chapter 05). A map entry is written while the contexts named by the old and
the new word are open. -/
def State.writeHusk (s : State) (init a : Nat) (v : BitVec 32) : State :=
  if HUSK_MAP_LO 0 ≤ a ∧ a < HUSK_MAP_LO 16384 then
    let i := (a - HUSK_MAP_LO 0) / 8
    let old := s.fget (HUSK_MAP_HI_Context i)
    let new := if a % 8 = 4 then (HUSK_MAP_HI_Context i).of v else old
    if s.ctxOpen old && s.ctxOpen new then s.rowWrite init a v else s.writeLocked init a
  else s.rowWrite init a v

/-- Contexts whose path list covers one of the positions of path-store word w. -/
def State.pathUsers (s : State) (w : Nat) : List Nat :=
  (List.range 4096).filter fun c =>
    let b := s.fget (CTX_PATHS_ListBase c)
    let e := b + s.fget (CTX_PATHS_CountMinus1 c)
    decide (s.ctxState c ≠ 0) && decide (b ≤ 2 * w + 1) && decide (2 * w ≤ e)

/-- The key of context c's entry among the words with errors. -/
def ctxKey (a : Nat) : Nat := CTX_CFG ((a - 0x900000) / 64)

/-- CTX: entries, the command register, the path store (R149, R151, R162). -/
def State.writeCtx (s : State) (init a : Nat) (v : BitVec 32) : State :=
  if a < 0x940000 then
    let c := (a - 0x900000) / 64
    if a % 64 = 0 then s.ctxCfgWrite init c v
    else
      let o := s.ctxOpen c
      let r := s.rowWrite init a v
      if o && (match findRow a with | some (x, _) => x.hasRwl | none => false) then r.eccClear (ctxKey a) else r
  else if a = CTX_CMD then s.ctxCmd v
  else if 0x980000 ≤ a ∧ a < 0x9A0000 then
    s.storeWrite init a a v ((s.pathUsers ((a - 0x980000) / 4)).all s.ctxIdle)
  else s.rowWrite init a v

/-- DMC (R262, R271, R275). -/
def State.writeDmc (s : State) (init a : Nat) (v : BitVec 32) : State :=
  if a = DMC_CTRL then
    let was := s.flag DMC_CTRL_Enable
    let s := s.rowWrite init a v
    let s := s.when (!was && s.flag DMC_CTRL_Enable) State.dmcEnable
    s.when (decide (DMC_CTRL_WarmTrain.of v = 1)) State.dmcWarm
  else if a = DMC_RETIRE then s.retireCmd v
  else s.rowWrite init a v

/-- ERL_CMD.ClearLps (R362). -/
def State.clearLps (s : State) : State :=
  let s := s.setTotal ERL_LPS_FR ERL_LPS_SEC 0
  let s := s.each ((List.range 7).map fun i => i + 1) fun s c => s.setTotal (ERL_LPSCAUSE_FR c) (ERL_LPSCAUSE_SEC c) 0
  { s.setReg ERL_LPSPEND 0 with
    erl := { s.erl with acc := [], vbat := s.erl.vbat.map fun w => { w with acc := [], pend := 0 } } }

/-- ERL_CMD.ClearFab (R362). -/
def State.clearFab (s : State) : State :=
  { s.setTotal ERL_FABLPS_FR ERL_FABLPS_SEC 0 with
    erl := { s.erl with fab := 0, vbat := s.erl.vbat.map fun w => { w with fab := 0 } } }

/-- ERL. -/
def State.writeErl (s : State) (init a : Nat) (v : BitVec 32) : State :=
  if a = ERL_CMD then
    (s.when (decide (ERL_CMD_ClearLps.of v = 1)) State.clearLps).when (decide (ERL_CMD_ClearFab.of v = 1)) State.clearFab
  else s.rowWrite init a v

/-- PMC (R382 to R391). -/
def State.writePmc (s : State) (init a : Nat) (v : BitVec 32) : State :=
  if a = PMC_CMD then s.pmcCmd v
  else if isPipConfig a then s.pipWrite a v
  else s.rowWrite init a v

/-- A register write at a 4-byte address whose clock runs, by its block. -/
def State.blockWrite (s : State) (init a : Nat) (v : BitVec 32) : State :=
  if a < 0x10000 then s.writeGlb init a v
  else if a < 0x20000 then s.rowWrite init a v
  else if a < 0x100000 then s.writeTime init a v
  else if a < 0x118000 then s.writeLane init a v
  else if a < 0x160000 then s.writeFab init a v
  else if a < 0x200000 then s.rowWrite init a v
  else if a < 0x300000 then s.writeFch init a v
  else if a < 0x400000 then s.writeHull init a v
  else if a < 0x800000 then s.writePod init a v
  else if a < 0x900000 then s.writeHusk init a v
  else if a < 0xA00000 then s.writeCtx init a v
  else if a < 0xB00000 then s.writeDmc init a v
  else if a < 0xC00000 then s.rowWrite init a v
  else if a < 0xD00000 then s.writePmc init a v
  else if a < 0xE00000 then s.writeErl init a v
  else if isDmw a then s.dmwWrite (a - 0x10000000) v
  else s.rowWrite init a v

/-! ## The golden copy (R337) -/

/-- Bits of a row's RW and RWL fields. -/
def RegRow.rwMask (r : RegRow) : BitVec 32 :=
  r.fields.foldl (fun m f => if f.acc = .rw ∨ f.acc = .rwl then m ||| (BitVec.ofNat 32 (2 ^ f.width - 1) <<< f.lo) else m) 0

/-- The golden word after a write of v that left the register at now: fields that took v take it (R337). -/
def RegRow.golden (r : RegRow) (v now old : BitVec 32) : BitVec 32 :=
  r.fields.foldl (fun g f =>
    let m : BitVec 32 := BitVec.ofNat 32 (2 ^ f.width - 1) <<< f.lo
    if (f.acc = .rw ∨ f.acc = .rwl) ∧ now &&& m = v &&& m then (g &&& ~~~m) ||| (v &&& m) else g) old

/-- A word of the golden copy follows an accepted write. -/
def State.goldenFollow (s : State) (a : Nat) (v : BitVec 32) : State :=
  match s.goldenOf a, findRow a with
  | some g, some (r, _) => s.setGolden a (some (r.golden v (s.reg a) g))
  | _, _ => s

/-- A register write with its effect, and the golden copy. -/
def State.regWrite (s : State) (init a : Nat) (v : BitVec 32) : State := (s.blockWrite init a v).goldenFollow a v

/-- Every RW and RWL field of the word holds what was written (R334: no unit refused the write). -/
def State.wroteOk (s : State) (a : Nat) (v : BitVec 32) : Bool :=
  match findRow a with
  | some (r, _) => decide (s.reg a &&& r.rwMask = v &&& r.rwMask)
  | none => true

end Sys2Proof.Machine
end

