-- ==== Sys2Proof/Machine/ImgCheck.lean ====
section
/-! DEFINITION. The Shell image's format (R319 to R327) and the checks of R328. -/

namespace Sys2Proof.Machine

/-- The k bytes from position i, least significant first (R319). -/
def leAt (bs : List Byte) (i k : Nat) : Nat := ofLe ((bs.drop i).take k)

/-! ## Header and section table (R320, R322) -/

/-- The longest image (R319). -/
def maxImage : Nat := 50331648

def hdrCount (b : List Byte) : Nat := leAt b 6 2
def hdrTotal (b : List Byte) : Nat := leAt b 8 4
def hdrReserve (b : List Byte) : Nat := byteAt b 14
def hdrSigned (b : List Byte) : Bool := decide (byteAt b 15 % 2 = 1)

/-- Bytes of header and section table, as far as the image reaches; the header alone until it is there. -/
def headLen (b : List Byte) : Nat := if b.length < 32 then 32 else max 32 (min (32 + 16 * hdrCount b) (hdrTotal b))

/-- One entry of the section table. -/
structure ImgSec where
  ty : Nat
  off : Nat
  len : Nat
  crc : Nat
  deriving DecidableEq, Repr

def secAt (b : List Byte) (i : Nat) : ImgSec :=
  ⟨byteAt b (32 + 16 * i), leAt b (36 + 16 * i) 4, leAt b (40 + 16 * i) 4, leAt b (44 + 16 * i) 4⟩

def secTable (b : List Byte) : List ImgSec := (List.range (min 10 (hdrCount b))).map (secAt b)

/-- First byte past the section bodies: the end, or the signature block. -/
def bodyEnd (b : List Byte) : Nat := hdrTotal b - (if hdrSigned b then 200 else 0)

/-- Entry i of the table keeps R322. -/
def secOk (b : List Byte) (i : Nat) : Bool :=
  let x := secAt b i
  decide (1 ≤ x.ty) && decide (x.ty ≤ 10) && decide (x.off % 8 = 0) && decide (32 + 16 * hdrCount b ≤ x.off) &&
    decide (x.len % 8 = 0) && decide (x.off + x.len ≤ bodyEnd b) &&
    ((List.range i).map (secAt b)).all fun y =>
      decide (y.ty ≠ x.ty) && (decide (y.off + y.len ≤ x.off) || decide (x.off + x.len ≤ y.off))

/-- A failed check: code of R328, section at fault, byte offset. -/
structure ImgErr where
  code : Nat
  sec : Nat
  off : Nat
  deriving DecidableEq, Repr

/-- The checks of R328 on the header and table bytes that have arrived, in the order of its table. HeaderCrc covers as many entries
as SectionCount names; an image that ends before them keeps those that are there (DEDUCED, log entry 135). -/
def State.headErr (s : State) (b : List Byte) : Option ImgErr :=
  if 4 ≤ b.length ∧ leAt b 0 4 ≠ 0x58524249 then some ⟨1, 0, 0⟩
  else if b.length < 32 then none
  else if leAt b 4 2 ≠ 1 then some ⟨2, 0, 4⟩
  else if byteAt b 15 / 4 ≠ 0 then some ⟨2, 0, 15⟩
  else if leAt b 24 4 ≠ 0 then some ⟨2, 0, 24⟩
  else if byteAt b 12 ≠ s.fget GLB_ID_PartCode then some ⟨3, 0, 12⟩
  else if s.fget GLB_ID_Stepping < byteAt b 13 then some ⟨3, 0, 13⟩
  else if maxImage < hdrTotal b ∨ hdrTotal b % 8 ≠ 0 then some ⟨4, 0, 8⟩
  else if b.length < headLen b then none
  else if leAt b 28 4 ≠ crc32c (b.take 28 ++ (b.drop 32).take (16 * hdrCount b)) then some ⟨5, 0, 28⟩
  else if hdrCount b = 0 ∨ 10 < hdrCount b ∨ hdrTotal b < 32 + 16 * hdrCount b then some ⟨6, 0, 6⟩
  else
    match (List.range (hdrCount b)).find? fun i => !secOk b i with
    | some i => some ⟨6, (secAt b i).ty % 16, 32 + 16 * i⟩
    | none => none

/-! ## Sections and their registers (R324) -/

/-- First registers of the rows that a section may write. -/
def secBases (t : Nat) : List Nat :=
  match t with
  | 1 => [LN_CFG 0, LN_SPARE 0, LN_FECCFG 0, LN_ETHMAC_LO 0, LN_ETHMAC_HI 0, LN_ETHIP 0]
  | 2 => [FAB_CTRL, FAB_PARTCFG, FAB_GRID0_LO, FAB_GRID0_HI, FAB_GRIDLEN, FAB_REJLEAD, FAB_LCFG 0, FAB_LSET 0 0,
      FAB_MEMBER 0, FAB_NH 0]
  | 3 => [TMB_SEL, TMB_QUAL, TMB_DISAGREE, TMB_DRIFT, TMB_HOLD, TMB_OUTCFG, TMB_FABSEL, TMB_REFCFG 0, TMB_FTCFG, TMB_FTASYM]
  | 4 => [FCH_CTRL 0, FCH_SYNCNEXT_LO 0, FCH_SYNCNEXT_HI 0, FCH_PFB 0, FCH_CHSEL 0, FCH_REQ 0, FCH_GAPLIM 0, FCH_GADDR 0,
      FCH_GDATA 0, FCH_PSRC 0 0, FCH_NCOINC 0 0, FCH_NCOPHS 0 0, FCH_CIC 0 0, FCH_RSINC 0 0]
  | 5 => [HULL_CTRL, HULL_STATUS, HULL_CFG, HULL_SLACK, HULL_CTBASE_LO, HULL_CTBASE_HI, HULL_OWNED, HULL_TXCFG, HULL_ENGPATH 0,
      HULL_SCTRL 0, HULL_ST 0, HULL_SF0_LO 0, HULL_SF0_HI 0, HULL_SREGION 0, HULL_SRC 0, HULL_OWN 0]
  | 6 => [POD_PCFG 0, POD_PORTOWN 0, POD_SPARECFG 0]
  | 7 => [POD_PM_LO 0 0, POD_PM_HI 0 0]
  | 8 => [HUSK_CTRL, HUSK_SEED, HUSK_DCFG 0, HUSK_DSCALE 0, HUSK_DSPILL 0, HUSK_DBUFSZ 0, HUSK_DCHAFF 0, HUSK_DMAP 0,
      HUSK_DTOPK 0, HUSK_DAUX 0, HUSK_MAP_LO 0, HUSK_MAP_HI 0]
  | 9 => [CTX_CFG 0, CTX_PATHS 0, CTX_CHAN 0, CTX_TILE 0, CTX_BEAM 0, CTX_K0_LO 0, CTX_K0_HI 0, CTX_WPTR 0, CTX_WSIZE 0,
      CTX_DEST 0, CTX_LOAD 0, PATHSTORE 0, CTX_HBMSTATIC]
  | 10 => [EGR_DCTRL 0, EGR_DMAC_LO 0, EGR_DMAC_HI 0, EGR_DIP 0, EGR_DUDP 0, EGR_DMAX 0]
  | _ => []

/-- The section whose row holds the register at a; 0 where none does. -/
def secOf (a : Nat) : Nat :=
  match findRow a with
  | none => 0
  | some (r, _) =>
    if a % 4 ≠ 0 then 0 else ((List.range 11).find? fun t => (secBases t).contains r.base).getD 0

/-! ## Records (R323) -/

inductive RecBody where
  | regs (addr : Nat) (words : List (BitVec 32))
  | fill (addr : Nat) (word : BitVec 32) (count : Nat)
  | hbm (addr : Nat) (bytes : List Byte)
  | nodemap (entries : List (Nat × Nat))
  deriving DecidableEq, Repr

/-- A record: its byte offset in the image, the nodes it applies to, what it carries. -/
structure ImgRec where
  off : Nat
  all : Bool
  node : Nat
  body : RecBody
  deriving DecidableEq, Repr

/-- Bytes of the record that opens with this header. -/
def recLen (kind count : Nat) : Nat :=
  match kind with
  | 1 => 8 + ceilDiv (4 + 4 * count) 8 * 8
  | 2 => 16
  | 3 => 16 + 64 * count
  | _ => 8 + 16 * count

def recBody (kind count : Nat) (b : List Byte) : RecBody :=
  match kind with
  | 1 => .regs (leAt b 8 4) ((List.range count).map fun i => BitVec.ofNat 32 (leAt b (12 + 4 * i) 4))
  | 2 => .fill (leAt b 8 4) (BitVec.ofNat 32 (leAt b 12 4)) count
  | 3 => .hbm (leAt b 8 8) ((b.drop 16).take (64 * count))
  | _ => .nodemap ((List.range count).map fun i => (leAt b (8 + 16 * i) 8, leAt b (16 + 16 * i) 2))

/-- The records of a section body from byte offset off on, and the offset of the first malformed one. The first argument
bounds their number. -/
def parseRecs : Nat → Nat → List Byte → List ImgRec × Option Nat
  | 0, _, _ => ([], none)
  | fuel + 1, off, b =>
    if b.length = 0 then ([], none)
    else
      let kind := byteAt b 0
      let count := leAt b 4 4
      let n := recLen kind count
      if kind = 0 ∨ 4 < kind ∨ b.length < n then ([], some off)
      else
        let nd := leAt b 2 2
        let (rest, bad) := parseRecs fuel (off + n) (b.drop n)
        (⟨off, decide (nd / 2 ^ 15 % 2 = 1), nd % 4096, recBody kind count b⟩ :: rest, bad)

/-- The register words a record writes, in ascending address. -/
def ImgRec.words (r : ImgRec) : List (Nat × BitVec 32) :=
  match r.body with
  | .regs a ws => (List.range ws.length).zip ws |>.map fun e => (a + 4 * e.1, e.2)
  | .fill a w n => (List.range n).map fun i => (a + 4 * i, w)
  | _ => []

/-- A record of section t may cover the word at a: it is in the section's row, or holds RO and reserved bits only, which ignore the
write (R324). A WO register is in no row. -/
def wordOk (t a : Nat) : Bool :=
  decide (a % 4 = 0) && (decide (secOf a = t) ||
    match findRow a with
    | some (r, _) => r.fields.all fun f => decide (f.acc = .ro)
    | none => true)

/-- A record of section t may cover the n words from address a. -/
def runOk (t a n : Nat) : Bool := decide (a + 4 * n ≤ 2 ^ 24) && (List.range n).all fun i => wordOk t (a + 4 * i)

/-- A record of section t keeps the limits of R323 and R324. -/
def ImgRec.ok (t : Nat) (r : ImgRec) : Bool :=
  match r.body with
  | .regs a ws => runOk t a ws.length
  | .fill a _ n => runOk t a n
  | .hbm a _ => decide (t = 7) && decide (a % 64 = 0) && decide (a < 2 ^ 38)
  | .nodemap _ => decide (t = 2) && r.all

/-- The record applies to a part with this node ID. -/
def ImgRec.mine (node : Nat) (r : ImgRec) : Bool := r.all || decide (r.node = node)

/-! ## An image in the store (R328, R329) -/

/-- Bytes of the image in a slot. -/
def State.slotBytes (s : State) (slot off n : Nat) : List Byte := s.hbmBytes (slotBase slot + off) n

/-- Header and section table of the image in a slot. -/
def State.slotHead (s : State) (slot : Nat) : List Byte := s.slotBytes slot 0 (headLen (s.slotBytes slot 0 32))

/-- The byte of the signature block that names the key (R330). -/
def State.slotKey (s : State) (slot : Nat) (h : List Byte) : List Byte := s.slotBytes slot (hdrTotal h - 200) 1

def State.secBytes (s : State) (slot : Nat) (x : ImgSec) : List Byte := s.slotBytes slot x.off x.len

/-- The records of a section and its first malformed one. -/
def State.secRecs (s : State) (slot : Nat) (x : ImgSec) : List ImgRec × Option Nat :=
  parseRecs (x.len / 8) x.off (s.secBytes slot x)

/-- Section t of the image, where it is present. -/
def State.secFind (s : State) (slot t : Nat) : Option ImgSec := (secTable (s.slotHead slot)).find? fun x => decide (x.ty = t)

/-- The first bad record of a section. -/
def State.badRecord (s : State) (slot : Nat) (x : ImgSec) : Option ImgErr :=
  let (rs, bad) := s.secRecs slot x
  match rs.find? fun r => !r.ok x.ty with
  | some r => some ⟨0x0B, x.ty, r.off⟩
  | none => bad.map fun o => ⟨0x0B, x.ty, o⟩

/-- The node maps of the FABRIC section (R325). -/
def State.nodeMaps (s : State) (slot : Nat) : List (List (Nat × Nat)) :=
  match s.secFind slot 2 with
  | none => []
  | some x => (s.secRecs slot x).1.filterMap fun r => match r.body with | .nodemap es => some es | _ => none

/-- The node ID the image gives this part: 0 without a FABRIC section (R325). -/
def State.nodeIn (s : State) (slot : Nat) : Option Nat :=
  if (s.secFind slot 2).isNone then some 0
  else
    match s.nodeMaps slot with
    | [m] => (m.find? fun e => decide (e.1 = s.get2 GLB_SERIAL_LO GLB_SERIAL_HI)).map fun e => e.2 % 4096
    | _ => none

/-- The signature checks of R327. -/
def State.sigErr (s : State) (slot : Nat) : Option ImgErr :=
  let h := s.slotHead slot
  let total := hdrTotal h
  if !hdrSigned h then (if s.flag IMG_FUSE_Require then some ⟨8, 0, 15⟩ else none)
  else
    let g := s.slotBytes slot (total - 200) 200
    let key := (g.drop 4).take 97
    let k := byteAt g 0
    if decide (3 < k) || decide (s.fget IMG_FUSE_KeyValid / 2 ^ k % 2 = 0) || decide (s.fget IMG_FUSE_KeyRevoked / 2 ^ k % 2 = 1) ||
        decide (sha384 key ≠ Config.keyHash k) then some ⟨9, 0, total - 200⟩
    else if p384Verify (sha384 (s.slotBytes slot 0 (total - 200))) key (beAt g 104 48) (beAt g 152 48) then none
    else some ⟨0x0A, 0, total - 96⟩

/-- The checks at the end of the stream (R328, R339). -/
def State.endErr (s : State) (slot : Nat) (stage : Bool) : Option ImgErr :=
  let h := s.slotHead slot
  let secs := secTable h
  match secs.find? fun x => decide (crc32c (s.secBytes slot x) ≠ x.crc) with
  | some x => some ⟨7, x.ty, x.off⟩
  | none =>
    match s.sigErr slot with
    | some e => some e
    | none =>
      match secs.findSome? (s.badRecord slot) with
      | some e => some e
      | none =>
        let mapOff := match s.secFind slot 2 with | some x => x.off | none => 0
        match s.nodeIn slot with
        | none => some ⟨0x0C, 2, mapOff⟩
        | some n =>
          if stage && decide (min 16 (hdrReserve h) ≠ min 16 (s.fget DMC_CFG_Reserve)) then some ⟨0x11, 0, 14⟩
          else if stage && decide (n ≠ s.fget IMG_NODE_NodeId) then some ⟨0x0C, 2, mapOff⟩
          else none

end Sys2Proof.Machine
end

