-- ==== Sys2Proof/Machine/Image.lean ====
section
/-! DEFINITION. The image loader: streams from the host and from a peer (R331, R332, R335, R258), the change of the
reserve (R330), the full load (R333, R334). -/

namespace Sys2Proof.Machine

def State.imgSt (s : State) : Nat := s.fget IMG_STATUS_State

def State.modImg (s : State) (f : ImgSt → ImgSt) : State := { s with img := f s.img }

/-- IMG_STATUS.State takes v; a change raises the IMG cause (R312). -/
def State.imgTo (s : State) (v : Nat) : State := if s.imgSt = v then s else (s.fset IMG_STATUS_State v).raise 15

/-- IMG_STATUS.Code, Section and IMG_ERROFF. -/
def State.imgCode (s : State) (e : ImgErr) : State :=
  ((s.fset IMG_STATUS_Code e.code).fset IMG_STATUS_Section e.sec).setReg IMG_ERROFF (BitVec.ofNat 32 e.off)

/-- The slot that receives the next image (R329). -/
def State.nextSlot (s : State) : Nat := if s.img.appliedLen = 0 then 0 else 1 - s.fget IMG_STATUS_Slot

/-- A load or a reload is under way (R332, R372). -/
def State.loaderBusy (s : State) : Bool := s.img.open' || s.img.check || s.img.reload.isSome || s.img.romHbm

/-- DMC_STATUS.Ready. -/
def State.dmcReady (s : State) : Bool := s.flag DMC_STATUS_Ready

/-- Contexts that keep a full load out: ARMED, RUNNING, DRAINING or FAULTED (R328). -/
def State.anyLive (s : State) : Bool := !s.liveCtxs.isEmpty

/-! ## The end of an image that is refused (R328, R330, R335) -/

/-- The image is refused: FAILED, or EMPTY where a new map has already replaced the old one. -/
def State.imgRefuse (s : State) (e : ImgErr) : State :=
  let seed := s.img.seed
  let lost := s.img.mapLost
  let s := s.modImg fun x => { x with open' := false, check := false, seed := false, seedHold := x.seedHold || seed }
  let s := if seed then { s with fab := { s.fab with seedLane := none } } else s
  (s.imgCode e).imgTo (if lost then 0 else 5)

/-! ## Streams (R331, R332) -/

/-- A stream being received ends because another one opens: a host stream ends as SHORT, a seed is abandoned. -/
def State.supersede (s : State) : State :=
  if !s.img.open' then s
  else
    let s := if s.img.seed then { s with fab := { s.fab with seedLane := none } }
      else s.imgCode ⟨0x0E, 0, s.fget IMG_RXCOUNT_Bytes⟩
    s.modImg fun x => { x with open' := false, seed := false }

/-- A stream opens. A map lost before stays lost until an image is applied (R330). -/
def State.openStream (s : State) (stage seed : Bool) : State :=
  let s := s.modImg fun x => { x with open' := true, stage := stage, seed := seed, head := [], check := false }
  (s.setReg IMG_RXCOUNT 0).imgTo 1

/-- LOAD or STAGE (R331, R332, R339): a staged image is discarded. -/
def State.startStream (s : State) (stage : Bool) : State :=
  if s.img.check || s.img.reload.isSome || s.img.romHbm || (!stage && s.anyLive) then s.fset IMG_STATUS_Code 0x0F
  else
    let s := s.supersede.modImg fun x => { x with stagedLen := 0 }
    if s.dmcReady then s.openStream stage false else s.imgRefuse ⟨0x10, 0, 0⟩

/-- IMG_LOAD (R331). -/
def execImgLoad (s : State) : Host.Outcome State Fault Refusal := .next (if s.awake then s.startStream false else s)

/-- IMG_STAGE (R339). -/
def execImgStage (s : State) : Host.Outcome State Fault Refusal := .next (if s.awake then s.startStream true else s)

/-- ABORT ends the stream (R331). -/
def State.imgAbort (s : State) : State :=
  if s.img.open' then s.imgRefuse ⟨0x13, 0, s.fget IMG_RXCOUNT_Bytes⟩ else s

/-- IMG_ABORT (R331). -/
def execImgAbort (s : State) : Host.Outcome State Fault Refusal := .next (if s.awake then s.imgAbort else s)

/-! ## The reserve (R330, R262) -/

/-- Every slot of the map names the pseudo-channel of its own number. -/
def State.mapIdentity (s : State) : Bool := (List.range s.nActive).all fun i => decide (s.fget (DMC_PCMAP_Pc i) = i)

/-- A FAILED pseudo-channel leaves its slot for a reserve that the image leaves (R277, log entry 309). -/
def State.failedOut (s : State) : State :=
  s.each ((List.range 192).filter fun p => s.pcState p = 7 ∧ s.pcMapped p = true) State.retireSudden

/-- The controllers restart with the image's reserve and the map of R262: the applied image in the store is lost. -/
def State.remap (s : State) (r : Nat) : State :=
  let s := s.fset DMC_CFG_Reserve r
  let s := s.each (List.range 192) fun s i =>
    let s := (s.fset (DMC_PCMAP_Pc i) i).fset (DMC_PCMAP_Valid i) (if i < s.nActive then 1 else 0)
    let st := s.fget (DMC_PCSTAT_State i)
    if st = 7 ∨ st = 1 then s else s.fset (DMC_PCSTAT_State i) (if i < s.nActive then 2 else 4)
  let s : State := { s with dmc := { s.dmc with copy := [], cleanOf := [], cleanLines := [], wrong := [], rightLines := [], sudden := [] } }
  (s.failedOut.modImg fun x => { x with appliedLen := 0, mapLost := true }).noteReserve

/-- Header and table are there and good: the map is the image's before a byte is stored (R330). -/
def State.headDone (s : State) (h : List Byte) : State :=
  let s := if !s.img.stage && (decide (min 16 (hdrReserve h) ≠ min 16 (s.fget DMC_CFG_Reserve)) || !s.mapIdentity)
    then s.remap (hdrReserve h) else s
  s.hbmWrite (slotBase s.nextSlot) h

/-! ## Arrival of bytes (R328, R330, R331) -/

/-- The last byte has arrived. -/
def State.streamEnd (s : State) : State := (s.modImg fun x => { x with open' := false, check := true }).imgTo 2

/-- IMG_RXCOUNT rises by n; the stream ends at TotalLength bytes. -/
def State.streamCount (s : State) (n : Nat) : State :=
  let s := s.incBy IMG_RXCOUNT n
  if hdrTotal s.img.head ≤ s.fget IMG_RXCOUNT_Bytes then s.streamEnd else s

/-- Bytes behind the header and table are stored; bytes beyond TotalLength are discarded. -/
def State.streamBody (s : State) (bs : List Byte) : State :=
  let rx := s.fget IMG_RXCOUNT_Bytes
  let bs := bs.take (hdrTotal s.img.head - rx)
  (s.hbmWrite (slotBase s.nextSlot + rx) bs).streamCount bs.length

/-- Bytes reach the open stream. -/
def State.streamPut (s : State) (bs : List Byte) : State :=
  if !s.img.open' then s
  else if !s.dmcReady then s.imgRefuse ⟨0x10, 0, s.fget IMG_RXCOUNT_Bytes⟩
  else if 32 ≤ s.img.head.length ∧ s.img.head.length = headLen s.img.head then s.streamBody bs
  else
    let all := s.img.head ++ bs
    let h := all.take (headLen all)
    let got := h.length - s.img.head.length
    let s := s.modImg fun x => { x with head := h }
    match s.headErr h with
    | some e => (s.incBy IMG_RXCOUNT got).imgRefuse e
    | none =>
      if h.length < headLen h then s.incBy IMG_RXCOUNT got
      else
        let s := (s.headDone h).streamCount got
        if s.img.open' then s.streamBody (all.drop h.length) else s

/-- A write to IMG_WIN (R331). -/
def State.winWrite (s : State) (v : BitVec 32) : State := if s.img.seed then s else s.streamPut (leBytes 4 v.toNat)

/-- IMG_WIN_WRITE; it waits while the HBM cannot be reached (R296). -/
def execImgWinWrite (v : Word) (s : State) : Host.Outcome State Fault Refusal :=
  .next (if s.awake && !s.hbmHeld then s.winWrite v else s)

/-! ## A seed (R258, R335) -/

/-- SEEDACK with the next offset expected. -/
def State.seedAckNow (s : State) (l : Nat) : State :=
  let s := s.originateOn l 11 (s.fget (FAB_LSTAT_PeerNode l)) (beBytes 4 s.fab.seedGot)
  { s with fab := { s.fab with seedCount := 0 } }

/-- A SEED frame at the expected offset. -/
def State.seedStore (s : State) (l total : Nat) (data : List Byte) : State :=
  let data := data.take (total - s.fab.seedGot)
  let n := s.fab.seedCount + 1
  let s : State := { s with fab := { s.fab with seedGot := s.fab.seedGot + data.length, seedCount := n } }
  let s := if n = 16 then s.seedAckNow l else s
  let s := if s.img.seed then s.streamPut data else s
  if total ≤ s.fab.seedGot && s.img.open' && s.img.seed then s.imgRefuse ⟨0x0E, 0, s.fget IMG_RXCOUNT_Bytes⟩ else s

/-- A new seed may be accepted. -/
def State.seedFree (s : State) : Bool :=
  s.img.unassigned && !s.img.seedHold && s.fab.seedLane.isNone && !s.loaderBusy

/-- A first SEED frame opens the stream that lane l feeds. -/
def State.seedOpen (s : State) (l : Nat) : State :=
  ({ s with fab := { s.fab with seedLane := some l, seedGot := 0, seedCount := 0 } } : State).openStream false true

/-- A SEED payload of lane l. -/
def State.seedTake (s : State) (l : Nat) (p : List Byte) : State :=
  let s := s.inc FAB_SEEDFR
  let off := beAt p 0 4
  let s := s.when (s.seedFree && decide (off = 0)) fun s => s.seedOpen l
  if s.fab.seedLane = some l then
    (if off = s.fab.seedGot then s.seedStore l (beAt p 4 4) (p.drop 16) else s.seedAckNow l)
  else s

/-- SEED (R258); it waits while the HBM cannot be reached (R296). -/
def execSeed (l : Nat) (s : State) : Host.Outcome State Fault Refusal :=
  reply (96 ≤ l) <|
    match tget [] s.fab.seedq l with
      | [] => s
      | p :: rest =>
        if s.hbmHeld then s else
        let s : State := { s with fab := { s.fab with seedq := tset [] s.fab.seedq l rest } }
        if 16 ≤ p.length then s.seedTake l p else s

/-- SEEDACK_SEND: 20 µs have passed since the last frame (R258). -/
def execSeedAckSend (s : State) : Host.Outcome State Fault Refusal := .next <|
  match s.fab.seedLane with
  | some l => (if s.fab.seedCount = 0 then s else s.seedAckNow l)
  | none => s

/-- NEW_SEED_ACCEPT: 100 ms after a seed's image was refused (R335). -/
def execNewSeedAccept (s : State) : Host.Outcome State Fault Refusal := .next <|
  if s.img.seedHold then
    let s := s.modImg fun x => { x with seedHold := false }
    if s.img.unassigned && !s.loaderBusy then s.imgTo 6 else s
  else s

/-! ## Registers of R324 back at reset (R333 step 1, R374) -/

/-- The enabled lanes stop. -/
def State.lanesStop (s : State) : State :=
  s.each ((List.range 96).filter fun l => s.flag (LN_CFG_Enable l)) fun s l => s.laneStop l

/-- The pods' sequencers halt. -/
def State.podsHalt (s : State) : State :=
  s.each ((List.range 64).filter fun p => (s.pod p).seq) fun s p => (s.podHalt p).fset (POD_CTRL_Run p) 0

/-- The pods hold no work, steering apart. -/
def State.podsIdle (s : State) : State :=
  s.each (List.range 64) fun s p => (s.setPod p { PodSt.idle with steer := (s.pod p).steer }).podSettle p

/-- The array's ports hold nothing. -/
def State.portsIdle (s : State) : State :=
  { s with array := { s.array with desc := [], req := [], openp := [], cur := [] } }

/-- Every enabled lane stops; fabric unit, F-engines, Hull and sequencers stop. -/
def State.stopUnits (s : State) : State :=
  let s := s.lanesStop.when (s.lanesStop.flag FAB_CTRL_Enable) State.fabDisable
  let s := s.each (List.range 16) fun s e => s.fchDisable e
  (s.when (s.flag HULL_CTRL_Enable) State.hullDisable).podsHalt.podsIdle.portsIdle

/-- Every context entry becomes EMPTY; what the contexts held is discarded. -/
def State.emptyContexts (s : State) : State :=
  let s := s.each ((List.range 4096).filter fun c => s.ctxState c ≠ 0) fun s c => s.setCtxState c 0
  let s := s.each (List.range 64) fun s p => (s.fset (POD_OWNER_Owned p) 0).fset (POD_OWNER_Context p) 0
  { s with
    ctxs := { s.ctxs with rt := [], leadWait := [], locked := [] }
    husk := { s.husk with
      held := [], power := [], ctx := [], dumps := [], volt := [], voltPos := [], watch := [] } }

/-- An address keeps its value over a return to reset: it lies in no section, or in TIMING where that is kept. -/
def keptReg (keepTiming : Bool) (a : Nat) : Bool := decide (secOf a = 0) || (keepTiming && decide (secOf a = 3))

/-- Every register that a section may write returns to its reset value; Sprout mode ends; no golden copy is left. -/
def State.sectionReset (s : State) (keepTiming : Bool) : State :=
  let s := s.stopUnits.emptyContexts
  let ft := s.ftOn
  let s : State := { s with
    regs := s.regs.filter fun e => keptReg keepTiming e.1
    fch := { s.fch with gain := [] }
    fab := { s.fab with again := false }
    erl := { s.erl with eccBad := s.erl.eccBad.filter fun e => keptReg keepTiming e.1 }
    img := { s.img with golden := [], goldenBad := [], reload := none } }
  let s := s.fset IMG_STATUS_SproutActive 0
  if keepTiming then s
  else
    let s := s.each (List.range 7) fun s i => s.refConfig i
    (s.when ft State.ftDisable).outConfig

/-! ## The full load (R333, R334) -/

/-- Words of the golden copy: every section but CTXINIT, without FCH_GADDR and FCH_GDATA (R337). -/
def goldenWord (t a : Nat) : Bool :=
  decide (t ≠ 9) && !(decide (t = 4) && (decide (a % 65536 = 0x38) || decide (a % 65536 = 0x3C)))

/-- The word a section writes at a: FAB_CTRL carries the node ID of the map (R325). -/
def nodeWord (node a : Nat) (v : BitVec 32) : BitVec 32 := if a = FAB_CTRL then FAB_CTRL_NodeId.into v node else v

/-- A word of the golden copy is written: it is whole again (R353). -/
def State.goldenLoad (s : State) (a : Nat) (v : BitVec 32) : State :=
  { s.setGolden a (some v) with img := { (s.setGolden a (some v)).img with goldenBad := tset 0 s.img.goldenBad a 0 } }

/-- One word is written by the loader; none where a unit refuses it (R334). A word outside the section's row ignores the write
(R324). A gain word is refused while a swap is pending (R64). -/
def State.loadWord (s : State) (t node a : Nat) (v : BitVec 32) : Option State :=
  if secOf a ≠ t then some s else
  let v := nodeWord node a v
  let gain := decide (t = 4) && decide (a % 65536 = 0x3C)
  let held := gain && s.flag (FCH_STATUS_SwapPending ((a - 0x200000) / 65536))
  let s := s.regWrite 21 a v
  if held || (!gain && !isHeldWord a && !s.wroteOk a v) then none
  else some (if goldenWord t a then s.goldenLoad a v else s)

/-- Words in order; the state reached where one is refused is kept (R334). -/
def State.loadWords (s : State) (t node : Nat) : List (Nat × BitVec 32) → State × Bool
  | [] => (s, true)
  | (a, v) :: ws =>
    match s.loadWord t node a v with
    | some s => s.loadWords t node ws
    | none => (s.regWrite 21 a (nodeWord node a v), false)

/-- Records in order; some offset: the record at which a unit refused a write. -/
def State.loadRecs (s : State) (t node : Nat) : List ImgRec → State × Option Nat
  | [] => (s, none)
  | r :: rs =>
    match r.body with
    | .hbm a bs => (s.hbmWrite a bs).loadRecs t node rs
    | _ =>
      match s.loadWords t node r.words with
      | (s, true) => s.loadRecs t node rs
      | (s, false) => (s, some r.off)

/-- Sections in the order of R333: type and records that apply to this part. -/
def State.applyPlan (s : State) (slot node : Nat) : List (Nat × List ImgRec) :=
  [3, 1, 2, 4, 5, 6, 7, 8, 10, 9].filterMap fun t =>
    (s.secFind slot t).map fun x => (t, (s.secRecs slot x).1.filter (ImgRec.mine node))

/-- Sections in order; some: section and record at which a unit refused a write. -/
def State.loadSections (s : State) (node : Nat) : List (Nat × List ImgRec) → State × Option ImgErr
  | [] => (s, none)
  | (t, rs) :: rest =>
    let s := if t = 2 then s.fset FAB_CTRL_NodeId node else s
    match s.loadRecs t node rs with
    | (s, none) => s.loadSections node rest
    | (s, some off) => (s, some ⟨0x0D, t, off⟩)

/-- The first 8 bytes of the digest of the FABRIC body (R326). -/
def State.hashIn (s : State) (slot : Nat) : Nat :=
  match s.secFind slot 2 with
  | some x => ofBe ((sha384 (s.secBytes slot x)).take 8)
  | none => 0

/-- What the loader shows of an applied image. -/
def State.showImage (s : State) (slot node hash : Nat) (h key : List Byte) (map : List (Nat × Nat)) : State :=
  let s := (s.fset IMG_STATUS_Slot slot).fset IMG_STATUS_Mixed 0
  let s := s.fset IMG_STATUS_Signed (if hdrSigned h then 1 else 0)
  let s := s.fset IMG_FUSE_KeyUsed (if hdrSigned h then byteAt key 0 else 0)
  let s := (s.fset IMG_NODE_Valid 1).fset IMG_NODE_NodeId node
  let s := (s.set2 IMG_HASH_LO IMG_HASH_HI hash).setReg IMG_BUILD (BitVec.ofNat 32 (leAt h 16 4))
  s.modImg fun x => { x with appliedLen := hdrTotal h, nodeMap := map, unassigned := false, seedHold := false }

/-- Nothing is applied any more. -/
def State.hideImage (s : State) : State :=
  let s := ((s.setReg IMG_NODE 0).set2 IMG_HASH_LO IMG_HASH_HI 0).setReg IMG_BUILD 0
  let s := (s.fset IMG_STATUS_Mixed 0).fset IMG_STATUS_Signed 0
  s.modImg fun x => { x with appliedLen := 0, stagedLen := 0, nodeMap := [] }

/-- What follows a load of sections: the refusal where one failed, else the end. -/
def loadEnd (r : State × Option ImgErr) (bad : State → ImgErr → State) (good : State → State) : State :=
  match r with
  | (s, some e) => bad s e
  | (s, none) => good s

/-- The start of a full load: the old image is hidden and the section registers return to their reset values (R333). -/
def State.fullStart (s : State) (slot total : Nat) : State :=
  (((s.noteRead (slotBase slot) total).imgTo 3).hideImage.sectionReset false).modImg fun x => { x with mapLost := false }

/-- The end of a full load whose sections all loaded. -/
def State.fullDone (s : State) (slot node hash : Nat) (h : List Byte) (map : List (Nat × Nat)) (key : List Byte) : State :=
  let s := (s.showImage slot node hash h key map).inc IMG_LOADS
  let s : State := { s with fab := { s.fab with seedLane := none } }
  ((s.modImg fun x => { x with check := false, seed := false }).imgCode ⟨0, 0, 0⟩).imgTo 4

/-- IMAGE_APPLY (R333, R334) of the checked image in a slot. -/
def State.fullApply (s : State) (slot : Nat) : State :=
  let h := s.slotHead slot
  let node := (s.nodeIn slot).getD 0
  loadEnd ((s.fullStart slot (hdrTotal h)).loadSections node (s.applyPlan slot node))
    (fun t e => (t.modImg fun x => { x with golden := [] }).imgRefuse e)
    (fun t => t.fullDone slot node (s.hashIn slot) h ((s.nodeMaps slot).headD []) (s.slotKey slot h))

/-- IMAGE_CHECK_DONE (R328): the image is refused, staged, or applied. -/
def execImageCheckDone (s : State) : Host.Outcome State Fault Refusal := .next <|
  if !s.img.check || s.hbmHeld then s
  else
    let slot := s.nextSlot
    match s.endErr slot s.img.stage with
    | some e => (s.imgRefuse e)
    | none =>
      if s.img.stage then
        let s := s.modImg fun x => { x with check := false, stagedLen := hdrTotal x.head };
        ((s.imgCode ⟨0, 0, 0⟩).imgTo 7)
      else (s.fullApply slot)

end Sys2Proof.Machine
end

