-- ==== Sys2Proof/Machine/Reload.lean ====
section
/-! DEFINITION. In-service reload (R339 to R343) and scrubbing (R337, R338). -/

namespace Sys2Proof.Machine

/-! ## What a reload would change (R340) -/

/-- The bits of the word at a that a section can write. -/
def rwBits (a : Nat) : BitVec 32 :=
  match findRow a with
  | some (r, _) => r.rwMask
  | none => 0

/-- The word would take a value different from its golden copy or from the register. -/
def State.wordChanges (s : State) (node a : Nat) (v : BitVec 32) : Bool :=
  let m := rwBits a
  let v := nodeWord node a v &&& m
  decide (v ≠ s.peek a &&& m) ||
    match s.goldenOf a with
    | some g => decide (v ≠ g &&& m)
    | none => false

/-- Records of section t of the staged image that apply to this part. -/
def State.stagedRecs (s : State) (t : Nat) : List ImgRec :=
  match s.secFind s.nextSlot t with
  | some x => (s.secRecs s.nextSlot x).1.filter (ImgRec.mine (s.fget IMG_NODE_NodeId))
  | none => []

/-- Addresses and values of section t that would change. -/
def State.changes (s : State) (t : Nat) : List (Nat × BitVec 32) :=
  ((s.stagedRecs t).flatMap ImgRec.words).filter fun e => s.wordChanges (s.fget IMG_NODE_NodeId) e.1 e.2

/-- The unit that a word of section t belongs to; none where the section names none for it (R340). -/
def unitOf (t a : Nat) : Option (Nat × Nat) :=
  match t with
  | 1 => some (1, (a - 0x100000) / 1024)
  | 2 => some (2, 0)
  | 4 => some (4, (a - 0x200000) / 65536)
  | 5 => some (5, if HULL_SCTRL 0 ≤ a ∧ a < HULL_SCTRL 4 then (a - HULL_SCTRL 0) / 32 else 4)
  | 6 => some (6, (a - 0x400000) / 65536)
  | 7 => some (6, (a - 0x400000) / 65536)
  | 8 => if a < HUSK_DCFG 0 then some (8, 0) else none
  | 10 => some (10, (a - EGR_DCTRL 0) / 32)
  | _ => none

/-- A list without repeats, first uses kept. -/
def dedup {α : Type} [DecidableEq α] : List α → List α
  | [] => []
  | x :: t => x :: (dedup t).filter fun y => decide (y ≠ x)

/-- The staged section t holds another node map than the one applied (R325). -/
def State.mapChanges (s : State) (t : Nat) : Bool :=
  (s.stagedRecs t).any fun r =>
    match r.body with
    | .nodemap es => decide (es ≠ s.img.nodeMap)
    | _ => false

/-- Units that section t would touch. A changed node map touches the fabric unit (R422; DEDUCED, log entry 295). -/
def State.touchedUnits (s : State) (t : Nat) : List (Nat × Nat) :=
  (if s.mapChanges t then [(2, 0)] else []) ++ (s.changes t).filterMap fun e => unitOf t e.1

/-- Contexts that are not EMPTY. -/
def State.usedCtxs (s : State) : List Nat := (List.range 4096).filter fun c => s.ctxState c ≠ 0

/-- The weight range of context c overlaps n bytes at a (R155). -/
def State.weightHit (s : State) (c a n : Nat) : Bool :=
  let len := s.fget (CTX_WSIZE_Length c) * 4096
  let base := s.fget (CTX_WPTR_Base c) * 64
  let last := base + ((s.tile c).length - 1) * (s.fget (CTX_WSIZE_Stride c) * 4096)
  kindBeam (s.ctxKind c) && decide (0 < len) && decide (a < last + len) && decide (base < a + n)

/-- A context spills (R122, R130): all kinds but VOLT and TOPK. -/
def State.spills (s : State) (c : Nat) : Bool := decide (s.ctxKind c ≠ 2) && decide (s.ctxKind c ≠ 5)

/-- Contexts that a word of section t touches. -/
def State.ctxsOf (s : State) (t a : Nat) (v : BitVec 32) : List Nat :=
  let used := s.usedCtxs
  match t with
  | 5 =>
    if HULL_SCTRL 0 ≤ a ∧ a < HULL_SCTRL 4 then
      used.filter fun c => decide (s.ctxStream c = (a - HULL_SCTRL 0) / 32) && decide (s.ctxKind c ≠ 5)
    else used
  | 6 =>
    let p := (a - 0x400000) / 65536
    if s.isMember p then used.filter fun c => decide (s.ctxPart c = s.podPart p) && decide (s.ctxKind c ≠ 5) else []
  | 7 =>
    let p := (a - 0x400000) / 65536
    used.filter fun c => decide (s.owner p = some c) || (!s.ctxIdle c && (s.tile c).contains p)
  | 8 =>
    if a < HUSK_DCFG 0 then used.filter s.spills
    else if a < HUSK_MAP_LO 0 then [(a - HUSK_DCFG 0) / 32]
    else
      let i := (a - HUSK_MAP_LO 0) / 8
      s.fget (HUSK_MAP_HI_Context i) :: (if a % 8 = 4 then [(HUSK_MAP_HI_Context i).of v] else [])
  | 9 =>
    if a < CTX_CMD then [(a - CTX_CFG 0) / 64]
    else if PATHSTORE 0 ≤ a then s.pathUsers ((a - PATHSTORE 0) / 4)
    else []
  | 10 => used.filter fun c => s.ctxEmit c && decide (s.fget (CTX_DEST_Dest c) = (a - EGR_DCTRL 0) / 32)
  | _ => []

/-- Contexts that section t would touch, its HBM records included. -/
def State.touchedCtxs (s : State) (t : Nat) : List Nat :=
  (s.changes t).flatMap (fun e => s.ctxsOf t e.1 e.2) ++
    (s.stagedRecs t).flatMap fun r =>
      match r.body with
      | .hbm a bs => s.usedCtxs.filter fun c => s.weightHit c a bs.length
      | _ => []

/-- Section types set in a mask and present in the staged image, in the order of R333. -/
def State.chosenSecs (s : State) (mask : Nat) : List Nat :=
  [3, 1, 2, 4, 5, 6, 7, 8, 10, 9].filter fun t => decide (mask / 2 ^ (t - 1) % 2 = 1) && (s.secFind s.nextSlot t).isSome

/-- A touched lead's context makes the live contexts of its partition touched (R341 step 1). -/
def State.withLeads (s : State) (cs : List Nat) : List Nat :=
  let leads := cs.filter fun c => decide (s.ctxKind c ≠ 5) && s.hasLead c
  let more := s.liveCtxs.filter fun o => decide (s.ctxState o ≠ 5) && decide (s.ctxKind o ≠ 5) &&
    leads.any fun c => decide (s.ctxPart c = s.ctxPart o)
  sortNat (dedup (cs ++ more))

/-! ## Start of a reload (R341 steps 1 and 2) -/

/-- RELOAD (R341, R343). -/
def State.reloadStart (s : State) (restart : Bool) (mask : Nat) : State :=
  if s.img.reload.isSome || s.img.check then s.fset IMG_STATUS_Code 0x0F
  else if s.img.stagedLen = 0 then s.fset IMG_STATUS_Code 6
  else if !s.dmcReady then s.fset IMG_STATUS_Code 0x10
  else
    let ts := s.chosenSecs mask
    let units := dedup (ts.flatMap s.touchedUnits)
    let cs := s.withLeads (ts.flatMap s.touchedCtxs)
    let part := if ts.contains 6 then s.touchedCtxs 6 else []
    let again := (cs.filter fun c => (s.ctxState c = 2 || s.ctxState c = 3) && !part.contains c).map fun c => (c, none)
    let s := (s.fset IMG_TOUCHED_Contexts cs.length).fset IMG_TOUCHED_Units units.length
    let s := (s.modImg fun x => { x with reload := some ⟨restart, mask, units, cs, if restart then again else []⟩ }).imgTo 8
    { s with ctxs := { s.ctxs with locked := cs } }.stopAll cs

/-- IMG_RELOAD (R341). -/
def execImgReload (restart : Bool) (mask : Nat) (s : State) : Host.Outcome State Fault Refusal :=
  reply (1024 ≤ mask) <|
    (if s.awake then s.reloadStart restart mask else s)

/-! ## Enables of the touched units (R341 steps 3 and 5) -/

/-- An enable of a unit: section type, index, and for an F-engine the slot, 16 for the engine's own. -/
def enablesOf (u : Nat × Nat) : List (Nat × Nat × Nat) :=
  if u.1 = 4 then (4, u.2, 16) :: (List.range 16).map fun p => (4, u.2, p)
  else if u.1 = 10 then []
  else [(u.1, u.2, 0)]

/-- The field of an enable. -/
def enableFld (x : Nat × Nat × Nat) : Fld :=
  match x with
  | (1, l, _) => LN_CFG_Enable l
  | (2, _, _) => FAB_CTRL_Enable
  | (4, e, p) => if p = 16 then FCH_CTRL_Enable e else FCH_PSRC_Enable e p
  | (5, i, _) => if i < 4 then HULL_SCTRL_Enable i else HULL_CTRL_Enable
  | (6, p, _) => POD_CTRL_Run p
  | _ => HUSK_CTRL_Enable

/-- The fabric unit stops for a reload: it will be MINORITY (R340), unless it is FORMING still (R253; DEDUCED, log entry 296). -/
def State.fabPause (s : State) : State :=
  { s.fabDisable with fab := { s.fabDisable.fab with again := s.fabOn && decide (s.role ≠ 0) } }

/-- The loader clears an enable. -/
def State.enableClear (s : State) (x : Nat × Nat × Nat) : State :=
  match x with
  | (1, l, _) => s.laneOff l
  | (2, _, _) => s.fabPause
  | (4, e, p) => if p = 16 then s.fchDisable e else s.fchSlotDisable e p
  | (5, i, _) => if i < 4 then s.fset (HULL_SCTRL_Enable i) 0 else s.hullDisable
  | (6, p, _) => s.podRunStop p
  | _ => s.fset HUSK_CTRL_Enable 0

/-- The loader clears an enable, which the golden copy follows (R337). -/
def State.enableOff (s : State) (x : Nat × Nat × Nat) : State := (s.enableClear x).goldenFld (enableFld x) 0

/-- The loader sets an enable again. -/
def State.enableSet (s : State) (x : Nat × Nat × Nat) : State :=
  match x with
  | (1, l, _) => s.laneOn l
  | (2, _, _) => s.fabEnable
  | (4, e, p) => if p = 16 then s.fchEnable e else s.fchSlotEnable e p
  | (5, i, _) => if i < 4 then s.streamEnable i else s.hullEnable
  | (6, p, _) => s.podRunStart p
  | _ => s.fset HUSK_CTRL_Enable 1

/-- The loader sets an enable again, which the golden copy follows (R337). -/
def State.enableOn (s : State) (x : Nat × Nat × Nat) : State := (s.enableSet x).goldenFld (enableFld x) 1

/-- The unit is not being reset (R343). -/
def State.unitCalm (s : State) (u : Nat × Nat) : Bool :=
  let busy := fun (b : Nat) => (s.reg GLB_URSTAT).getLsbD b
  match u with
  | (4, e) => !busy e
  | (5, _) => !busy 16 && !busy 17
  | (8, _) => !busy 18
  | (10, _) => !busy 19
  | (2, _) => !busy 21
  | _ => true

/-! ## The apply (R341 steps 3 to 6) -/

/-- Words of a section for touched units and contexts. -/
def State.reloadWords (s : State) (r : ReloadSt) (t node : Nat) (ws : List (Nat × BitVec 32)) : List (Nat × BitVec 32) :=
  ws.filter fun e =>
    s.wordChanges node e.1 e.2 ||
      match unitOf t e.1 with
      | some u => r.units.contains u
      | none => false

/-- The records of one section are applied, HBM records where they overlap a touched context's weights (R341 step 4); some offset: the
record at which a write was refused. -/
def State.reloadRecs (s : State) (r : ReloadSt) (t node : Nat) : List ImgRec → State × Option Nat
  | [] => (s, none)
  | x :: xs =>
    match x.body with
    | .hbm a bs =>
      (if r.ctxs.any fun c => s.weightHit c a bs.length then s.hbmWrite a bs else s).reloadRecs r t node xs
    | _ =>
      match s.loadWords t node (s.reloadWords r t node x.words) with
      | (s, true) => s.reloadRecs r t node xs
      | (s, false) => (s, some x.off)

/-- The selected sections, in order. -/
def State.reloadSections (s : State) (r : ReloadSt) (node : Nat) : List (Nat × List ImgRec) → State × Option ImgErr
  | [] => (s, none)
  | (t, rs) :: rest =>
    match s.reloadRecs r t node rs with
    | (s, none) => s.reloadSections r node rest
    | (s, some off) => (s, some ⟨0x0D, t, off⟩)

/-- Step 6: the contexts start again in NEXT mode, those with a partition's lead first. A refusal is recorded (R152). -/
def State.restartAll (s : State) (again : List (Nat × Option Nat)) : State :=
  let lead := again.filter fun x => s.hasLead x.1
  let rest := again.filter fun x => !s.hasLead x.1
  s.each (lead ++ rest) fun s x =>
    if s.ctxState x.1 ≠ 1 then s
    else
      let r := s.ctxStart x.1 true
      if r.2 = 0 then r.1.modCtx x.1 fun y => { y with loss := x.2.map fun f => (6, f) } else r.1.lastResult x.1 r.2

/-- The locks go and no reload is in progress. -/
def State.reloadClear (s : State) : State :=
  let s := s.modImg fun x => { x with reload := none }
  { s with ctxs := { s.ctxs with locked := [], leadWait := if s.ctxs.draining then s.ctxs.leadWait else [] } }

/-- What IMG shows after a reload: the slot is the applied one where the mask covered every section; else Mixed. -/
def State.reloadShow (s : State) (r : ReloadSt) : State :=
  let slot := s.nextSlot
  let h := s.slotHead slot
  let node := s.fget IMG_NODE_NodeId
  let fab := (s.chosenSecs r.mask).contains 2
  let map := (s.nodeMaps slot).headD []
  if (secTable h).all fun x => decide (r.mask / 2 ^ (x.ty - 1) % 2 = 1) then
    let s := s.showImage slot node (s.hashIn slot) h (s.slotKey slot h) map
    (s.modImg fun x => { x with stagedLen := 0 }).imgTo 4
  else
    let s := s.when fab fun s =>
      (s.set2 IMG_HASH_LO IMG_HASH_HI (s.hashIn slot)).modImg fun x => { x with nodeMap := map }
    (s.fset IMG_STATUS_Mixed 1).imgTo 7

/-- Every touched context has stopped, or faulted meanwhile. -/
def State.reloadStopped (s : State) (r : ReloadSt) : Bool :=
  r.ctxs.all fun c => (s.ctxIdle c || (decide (s.ctxState c = 5) && !(s.ctx c).stop)) && !s.ctxs.leadWait.contains c

/-- The application of PART (R95, R112): no port holds a descriptor, and a pod in no partition is no longer failed. -/
def State.partApplied (s : State) : State :=
  let s := { s with array := { s.array with desc := [] } }
  s.each ((List.range 64).filter fun p => !s.isMember p) fun s p => s.fset (POD_STATUS_Failed p) 0

/-- The sections that R333 applies after PART. -/
def partBefore (t : Nat) : Bool := [7, 8, 10, 9].contains t

/-- Steps 3 to 6. Where a section after PART is refused, PART has been applied. -/
def State.reloadApply (s : State) (r : ReloadSt) : State :=
  let node := s.fget IMG_NODE_NodeId
  let plan := (s.chosenSecs r.mask).map fun t => (t, s.stagedRecs t)
  let written := plan.flatMap fun x => (x.2.flatMap ImgRec.words).map (·.1)
  let on := (r.units.flatMap enablesOf).filter fun x => s.flag (enableFld x)
  let back := on.filter fun x => !written.contains (enableFld x).addr
  let s := s.reloadClear.each on State.enableOff
  loadEnd (s.reloadSections r node plan)
    (fun s e =>
      let s := s.when ((plan.map (·.1)).contains 6 && partBefore e.sec) State.partApplied
      ((s.modImg fun x => { x with stagedLen := 0 }).imgCode e).imgTo 5)
    (fun s =>
      let s := s.when ((plan.map (·.1)).contains 6) State.partApplied
      ((((s.each back State.enableOn).inc IMG_LOADS).imgCode ⟨0, 0, 0⟩).reloadShow r).restartAll r.again)

/-- RELOAD_STOP_DONE (R341). -/
def execReloadStopDone (s : State) : Host.Outcome State Fault Refusal := .next <|
  match s.img.reload with
  | some r => (if s.reloadStopped r && r.units.all s.unitCalm && s.dmcReady && !s.hbmHeld then s.reloadApply r else s)
  | none => s

/-- RELOAD_STOP_TIMEOUT (R341 step 2): nothing is written; contexts that have stopped start again as in step 6. -/
def execReloadStopTimeout (s : State) : Host.Outcome State Fault Refusal := .next <|
  match s.img.reload with
  | some r =>
    if s.reloadStopped r then s
    else (((s.reloadClear.restartAll r.again).imgCode ⟨0x12, 0, 0⟩).imgTo 7)
  | none => s

/-! ## Scrubbing (R338, R353) -/

/-- One word of the golden copy. -/
def State.scrubWord (s : State) (a : Nat) (g : BitVec 32) : State :=
  let m := rwBits a
  if tget 0 s.img.goldenBad a ≠ 0 || !s.clockOn a then s
  else if s.reg a &&& m ≠ g &&& m || !s.eccOk a then
    let s := (s.setReg a ((s.reg a &&& ~~~m) ||| (g &&& m))).eccClear a
    (s.inc IMG_SCRUBFIX).log 5 0 0 a
  else s

/-- SCRUB_PASS (R338). -/
def execScrubPass (s : State) : Host.Outcome State Fault Refusal := .next <|
  if !s.awake || s.img.golden.isEmpty then s
  else
    let s := s.each s.img.golden fun s e =>
      match e.2 with
      | some g => s.scrubWord e.1 g
      | none => s
    s.routesChanged.inc IMG_SCRUBRUN

end Sys2Proof.Machine
end

