-- ==== Sys2Proof/Machine/Sprout.lean ====
section
/-! DEFINITION. Sprout mode: the ROM image and the applied one (R344, R346, R347), the pattern generators (R345), the
self-test (R346). The end of DRAM training is here too, because it lets the ROM image's HBM records be applied (R375). -/

namespace Sys2Proof.Machine

/-! ## The ROM image (R346) -/

/-- Records of the ROM image's section t. -/
def romRecs (t : Nat) : List ImgRec :=
  let b := Config.sproutSection t
  (parseRecs (b.length / 8) 0 b).1

/-- The node ID the ROM image gives this part (R325). -/
def State.romNode (s : State) : Nat :=
  let maps := (romRecs 2).flatMap fun r => match r.body with | .nodemap es => es | _ => []
  match maps.find? fun e => decide (e.1 = s.get2 GLB_SERIAL_LO GLB_SERIAL_HI) with
  | some e => e.2 % 4096
  | none => 0

def RecBody.isHbm : RecBody → Bool
  | .hbm _ _ => true
  | _ => false

/-- Its register records, section by section in the order of R333. -/
def romPlan (node : Nat) : List (Nat × List ImgRec) :=
  [3, 1, 2, 4, 5, 6, 7, 8, 10, 9].map fun t => (t, (romRecs t).filter fun r => r.mine node && !r.body.isHbm)

/-- The first byte behind the egress staging area: image store, capture ring and a tail that the spec does not size. -/
def stagingEnd : Nat := 0xA000000 + Config.stagingTail

/-- An HBM record's bytes are written; those of the ROM image lie in the egress staging area (R420; DEDUCED, log entry 297). Another
record is left. -/
def State.hbmRecord (s : State) (r : ImgRec) : State :=
  match r.body with
  | .hbm a bs => if a + bs.length ≤ stagingEnd then s.hbmWrite a bs else s
  | _ => s

/-- Its HBM records are written and the image is applied (R375). -/
def State.romHbm (s : State) : State :=
  let s := s.each ((romRecs 7).filter (ImgRec.mine (s.fget IMG_NODE_NodeId))) State.hbmRecord
  ((s.modImg fun x => { x with romHbm := false }).inc IMG_LOADS).imgTo 4

/-- The ROM image's reserve (R330). -/
def State.romReserve (s : State) : State :=
  let r := Config.sproutReserve.val
  (s.when (decide (r ≠ min 16 (s.fget DMC_CFG_Reserve)) || !s.mapIdentity) fun s => s.remap r).modImg fun x => { x with appliedLen := 0, stagedLen := 0, mapLost := false }

/-- The end of a Sprout ROM load whose sections all loaded. -/
def State.romDone (s : State) (node : Nat) : State :=
  let body := Config.sproutSection 2
  let s := (s.fset IMG_NODE_Valid 1).fset IMG_NODE_NodeId node
  let s := s.set2 IMG_HASH_LO IMG_HASH_HI (if body.isEmpty then 0 else ofBe ((sha384 body).take 8))
  let s := s.setReg IMG_BUILD (Config.sproutBuild.setWidth 32)
  let s := (s.modImg fun x => { x with unassigned := false, testArmed := true, romHbm := true }).imgCode ⟨0, 0, 0⟩
  s.when s.dmcReady State.romHbm

/-- The ROM image is applied by R333 and Sprout mode begins; HBM records wait for DMC_STATUS.Ready. -/
def State.romApply (s : State) : State :=
  let node := s.romNode
  loadEnd ((((s.romReserve.imgTo 3).hideImage.sectionReset false).fset IMG_STATUS_SproutActive 1).loadSections node
      (romPlan node))
    (fun s e => ((s.fset IMG_STATUS_SproutActive 0).modImg fun x => { x with golden := [] }).imgRefuse e)
    (fun s => s.romDone node)

/-- IMG_CMD.Op SPROUT with FromRom 1. -/
def State.sproutRom (s : State) : State :=
  if s.img.check || s.img.reload.isSome || s.img.romHbm || s.anyLive then s.fset IMG_STATUS_Code 0x0F
  else
    let s := s.supersede
    if s.dmcReady then s.romApply else s.imgRefuse ⟨0x10, 0, 0⟩

/-- IMG_SPROUT_ROM (R346). -/
def execImgSproutRom (s : State) : Host.Outcome State Fault Refusal := .next (if s.awake then s.sproutRom else s)

/-! ## The applied image (R344, R347) -/

/-- Sprout mode begins: enabled lanes run their ladders in loopback; a running fabric unit is alone. -/
def State.sproutEnter (s : State) : State :=
  let s := s.fset IMG_STATUS_SproutActive 1
  let s := s.when (s.flag FAB_CTRL_Enable) fun s => (s.each (List.range 96) State.linkLost).fabStart
  s.each ((List.range 96).filter fun l => s.flag (LN_CFG_Enable l)) fun s l => (s.laneStop l).laneStart l

/-- IMG_CMD.Op SPROUT with FromRom 0: an image must be applied. -/
def State.sproutApplied (s : State) : State :=
  if decide (s.img.appliedLen = 0) || s.sprout then s else s.sproutEnter

/-- IMG_SPROUT_APPLIED (R347). -/
def execImgSproutApplied (s : State) : Host.Outcome State Fault Refusal :=
  .next (if s.awake then s.sproutApplied else s)

/-! ## The pattern generators (R345) -/

/-- A start state; 0 is replaced by 1. -/
def spStart (x : Nat) : Nat := if x % 2 ^ 32 = 0 then 1 else x % 2 ^ 32

/-- Bits [hi : lo] as the signed byte of R345. -/
def signedByte (w lo : Nat) : Int := toSigned 8 (w / 2 ^ lo)

/-- One sample from the common value u and the slot's own value w. -/
def State.spValue (s : State) (n u w : Nat) : Int × Int :=
  let com : Int := s.fget IMG_SPGEN_ComAmp
  let own : Int := s.fget IMG_SPGEN_OwnAmp
  let every := s.fget IMG_SPGEN_InvEvery
  if s.fget IMG_SPGEN_Pattern ≠ 1 then (0, 0)
  else if 0 < every ∧ n % every = 0 then (-8192, -8192)
  else (signedByte u 0 * com + signedByte w 0 * own, signedByte u 8 * com + signedByte w 8 * own)

/-- Engine e's generator delivers the next sample of every enabled slot. -/
def State.spSample (s : State) (e : Nat) : State :=
  let seed := s.fget IMG_SPSEED_Seed
  let n := tget 0 s.img.spN e
  let u := xorshift ((tget none s.img.spCom e).getD (spStart seed))
  let own := fun (p : Nat) => xorshift ((tget none s.img.spOwn (16 * e + p)).getD (spStart (seed + 16 * e + p + 1)))
  let slots := (List.range 16).filter fun p => s.slotOn e p
  let t := s.modImg fun x => { x with
    spN := tset 0 x.spN e (n + 1)
    spCom := tset none x.spCom e (some u)
    spOwn := (List.range 16).foldl (fun a p => tset none a (16 * e + p) (some (own p))) x.spOwn }
  t.each slots fun t p => t.slotTake e p n [smpOf false (t.flag (FCH_PSRC_Real e p)) (s.spValue n u (own p))]

/-- SPROUT_PATTERN_SAMPLE (R345). -/
def execSproutPatternSample (e : Nat) (s : State) : Host.Outcome State Fault Refusal :=
  reply (16 ≤ e) <|
    (if s.sprout && s.isRun && s.flag (FCH_STATUS_Anchored e) then s.spSample e else s)

/-! ## The self-test (R346) -/

/-- It starts at the entry to RUN that follows the ROM image. -/
def State.selfTestStart (s : State) : State :=
  if s.img.testArmed && s.sprout then
    (s.setReg IMG_SPRESULT 0).modImg fun x => { x with testArmed := false, testStage := 1 }
  else s

/-- The pass condition of a stage (R346): LANES, every lane at S4 and none failed; HBM, warm training complete; FCHAIN, PODS and HUSK, the
ROM image's CRC-32C values; CONTEXTS, the same bits. -/
def State.stagePass (s : State) (stage : Nat) (r : StageResult) : Bool :=
  match stage with
  | 0 => r.clean && (List.range 96).all fun l =>
      decide (s.fget (LN_STATUS_Step l) = 4) && (decide (s.lnState l = 2) || decide (4 ≤ s.lnState l))
  | 1 => r.clean && !s.flag DMC_STATUS_WarmBusy
  | 5 => r.clean
  | _ => decide (r.crcs = Config.stageCrcs stage)

/-- A pod has its spare column free and no steering pending (R111, R112). -/
def State.canSteer (s : State) (p : Nat) : Bool :=
  !s.flag (POD_STATUS_Failed p) && !s.flag (POD_COLMAP_Steered p) && !s.flag (POD_COLMAP_SpareBad p) && (s.pod p).steer.isEmpty

/-- A pod that failed stage 3 has its column steered where that repairs it. -/
def State.stageSteer (s : State) (fix : List (Nat × Nat)) : State := s.each fix fun s e => s.when (s.canSteer e.1) fun s => s.steerRequest e.1 e.2

/-- A stage ends with its result; the last one sets Done, and Pass where none failed. The spec does not say to which code
IMG_STATUS.State then changes: it is open. -/
def State.stageEnd (s : State) (stage : Nat) (pass : Bool) : State :=
  let s := if pass then s else s.fset IMG_SPRESULT_StageFail (s.fget IMG_SPRESULT_StageFail ||| 2 ^ stage)
  if stage < 5 then s.modImg fun x => { x with testStage := stage + 2 }
  else
    let s := (s.fset IMG_SPRESULT_Done 1).fset IMG_SPRESULT_Pass (if s.fget IMG_SPRESULT_StageFail = 0 then 1 else 0)
    let st := (s.imgSt + 1 + (Config.selfTestState s.fresh).val) % 9
    (s.draw.modImg fun x => { x with testStage := 0 }).imgTo st

/-- SELF_TEST_STAGE_DONE: the stages end in order. A stage 3 that finds columns to steer is judged after the repair, by a further
command. The last stage ends with every context stopped (R420; DEDUCED, log entry 298). -/
def execSelfTestStageDone (stage : Nat) (result : StageResult) (s : State) : Host.Outcome State Fault Refusal :=
  reply (6 ≤ stage ∨ result.columns.any fun e => decide (64 ≤ e.1) || decide (33 ≤ e.2)) <|
    if s.img.testStage = stage + 1 then
      let fix := if stage = 3 then result.columns.filter fun e => s.canSteer e.1 else []
      let pass := s.stagePass stage result
      let s := if stage = 5 then s.stopAll s.liveCtxs else s
      if fix ≠ [] then s.stageSteer fix else if decide (stage = 5) && s.anyLive then s else s.stageEnd stage pass
    else s

/-! ## The end of a training step (R270, R276, R375) -/

/-- Once Ready is set, HBM records of the ROM image that wait are written. -/
def State.readyNow (s : State) : State :=
  let s := s.noteReady
  if s.dmcReady && s.img.romHbm then s.romHbm else s

/-- What a trained pseudo-channel is: RETIRED or FAILED as before, ACTIVE in a slot, COPYING where a copy to it waits, else RESERVE
(R262, R270, R275). -/
def State.trainedState (s : State) (pc : Nat) : Nat :=
  if tget 0 s.dmc.was pc ≠ 0 then tget 0 s.dmc.was pc
  else if s.pcMapped pc then 2
  else if s.dmc.copy.any fun e => decide (e.2 = pc + 1) then 5 else 4

/-- A pseudo-channel is trained: its results are tagged with a load of 0 (R270, R271). -/
def State.pcTrained (s : State) (pc : Nat) : State :=
  let s := (s.fset (DMC_PCSTAT_State pc) (s.trainedState pc)).pcTag pc 0
  { s with dmc := { s.dmc with
      train := tset 0 s.dmc.train pc 0, again := tset 0 s.dmc.again pc 0, was := tset 0 s.dmc.was pc 0 } }

/-- The way out of RETAIN begins with one refresh per pseudo-channel (R270), counted with the first that is seen of it. -/
def State.exitRefresh (s : State) (pc : Nat) : State :=
  s.when (decide (s.pwr.phase = .exit) && decide (tget 0 s.dmc.train pc = 0)) fun s => (s.inc (DMC_REFCNT pc)).pmc (408 + pc / 8) 1

/-- A pseudo-channel has trained on the way out of RETAIN. -/
def State.exitTrained (s : State) (pc : Nat) : State := (s.exitRefresh pc).pcTrained pc

/-- Verification of the training begins on the way out of RETAIN. -/
def State.dmcTrainNew (s : State) : State :=
  { s with dmc := { s.dmc with train := [], again := [], slow := false, asleep := false } }

/-- Training runs: at the start from STANDBY, or on the way out of RETAIN. -/
def State.dmcTrains (s : State) : Bool := s.dmcOn || decide (s.pwr.phase = .exit)

/-- A step of a pseudo-channel passes: the steps before it have passed too (R270). -/
def State.stepPass (s : State) (pc step : Nat) : State :=
  let s := s.exitRefresh pc
  if step = 3 then ((s.pcTrained pc).noteReserve.readyNow)
  else { s with dmc := { s.dmc with train := tset 0 s.dmc.train pc (step + 1), again := tset 0 s.dmc.again pc 0 } }

/-- A step of a pseudo-channel fails: a verification on the way out of RETAIN is repeated as a full step, and a full step that
fails retires the pseudo-channel (R270, R276, R373). -/
def State.stepFailed (s : State) (pc step : Nat) : State :=
  let s := s.exitRefresh pc
  if s.pwr.phase = .exit ∧ 1 ≤ step ∧ tget 0 s.dmc.again pc ≠ step + 1 then
    { s with dmc := { s.dmc with
        train := tset 0 s.dmc.train pc step
        again := tset 0 s.dmc.again pc (step + 1)
        slow := true } }
  else
    let s := (s.fset DMC_STATUS_TrainFail 1).raise 6
    let s : State := { s with dmc := { s.dmc with again := tset 0 s.dmc.again pc 0 } }
    let was := tget 0 s.dmc.was pc
    let s := if was ≠ 0 then { s.fset (DMC_PCSTAT_State pc) was with dmc := { s.dmc with was := tset 0 s.dmc.was pc 0 } }
      else s.pcFault pc
    s.noteReserve.readyNow

/-- TRAINING_STEP_DONE (R270, R276, R373): the step, in the order of R270's table, and whether it passed. -/
def execTrainingStepDone (pc : Nat) (result : StepResult) (s : State) : Host.Outcome State Fault Refusal :=
  reply (192 ≤ pc ∨ 4 ≤ result.step) <|
    if s.dmcTrains && decide (s.pcState pc = 1) && decide (tget 0 s.dmc.train pc ≤ result.step) then
      (if result.pass then s.stepPass pc result.step else s.stepFailed pc result.step)
    else s

end Sys2Proof.Machine
end

