-- ==== Sys2Proof/Machine/Erl.lean ====
section
/-! DEFINITION. Integrity (chapter 14): parity errors and the responses of their sites (R348 to R352), SECDED errors (R353), the
error log's pop (R354) and the account's clears (R362).

What the operands of a parity error name, by site: `inst` is the lane (of site 0x0A: of the Husk), engine, pod,
pseudo-channel or initiator of R357;
`info` is the address or index at fault. Where the response needs more, info says which: site 0x01 the path ID, site 0x02
the slots of the engine as a mask, sites 0x07 and 0x09 the physical column. -/

namespace Sys2Proof.Machine

/-! ## Responses (R349) -/

/-- Site 0x02 on slot p of engine e: the frame being output, or else the one being formed, and the K frames after it. -/
def State.storeContam (s : State) (e p : Nat) : State :=
  let q := tget [] s.fch.pend e
  let j := match q.find? fun f => f.slots.any fun x => decide (x.slot = p) with
    | some f => f.j
    | none => (s.slot e p).nextFrame
  let hi := idxAdd j (s.fchK e + 1)
  let mark := fun (f : EngFrame) =>
    if idxDiff f.j hi < 0 then { f with slots := f.slots.map fun x => if x.slot = p then { x with contam := true } else x } else f
  let s : State := { s with fch := { s.fch with pend := tset [] s.fch.pend e (q.map mark) } }
  s.modSlot e p fun t => t.mark hi

/-- The Contam bit of a DATA frame's Hull header (R70). -/
def setContam : List Byte → List Byte
  | [] => []
  | b :: bs => (b ||| 2#8) :: bs

/-- The oldest DATA frame of the list that still holds runs is marked. -/
def markHeld : List HeldFrame → Option (List HeldFrame)
  | [] => none
  | h :: t =>
    match h.frames with
    | f :: fs => some ({ h with frames := { f with hdr := setContam f.hdr } :: fs } :: t)
    | [] => (markHeld t).map (h :: ·)

/-- The last time block up to b whose low 31 bits are those of n. -/
def blockBefore (b n : Nat) : Nat := (b + 2 ^ 44 - (b + 2 ^ 44 - n % 2 ^ 31) % 2 ^ 31) % 2 ^ 44

/-- Site 0x03: in the sender (info 0) the oldest outbound DATA frame of engine e is marked; where none waits, the frame next
at the Hull. At the writer's input for local runs (info: the low 31 bits of the time block, plus 1) the engine's entry is (R78). -/
def State.hullTxContam (s : State) (e info : Nat) : State :=
  if info ≠ 0 then
    match s.srcOf s.node e, s.hull.lfi with
    | some i, some l =>
      let tb := blockBefore (l / 16) (info - 1)
      s.setTrack i tb { s.trackOf i tb with contam := true }
    | _, _ => s
  else match markHeld (tget [] s.hull.held e) with
  | some q => { s with hull := { s.hull with held := tset [] s.hull.held e q } }
  | none =>
    match tget [] s.fch.pend e with
    | [] => s
    | f :: fs =>
      let f := { f with slots := f.slots.map fun x => { x with contam := true } }
      { s with fch := { s.fch with pend := tset [] s.fch.pend e (f :: fs) } }

/-- Site 0x0C on lane l, by its mode: the next frame leaves bad. -/
def State.laneTxBad (s : State) (l : Nat) : State :=
  if s.lnMode l = 2 then { s with fab := { s.fab with txBad := tset 0 s.fab.txBad l 1 } }
  else
    match (List.range 8).find? fun p => s.portLane p = some l with
    | some p => { s with ctxs := { s.ctxs with portBad := tset 0 s.ctxs.portBad p 1 } }
    | none => s

/-- Instances of a site: lanes, engines, pods, pseudo-channels, initiators. -/
def siteInstances (site : Nat) : Nat :=
  match site with
  | 1 => 96 | 2 => 16 | 3 => 16 | 4 => 96 | 5 => 24 | 6 => 192 | 7 => 64 | 8 => 64 | 9 => 64 | 10 => 8 | 12 => 96 | _ => 4096

/-- Count, log and response of a parity error (R349, R350). Site 0x06: the mark comes with the read that meets the error. -/
def State.parityAt (s : State) (site inst info : Nat) : State :=
  if site = 6 then s.dmcParity inst info
  else
    let s := s.parity site inst info
    match site with
    | 1 => s.each (s.slotsOf inst info) fun s ep => s.slotContam ep.1 ep.2
    | 2 => s.each ((List.range 16).filter fun p => info / 2 ^ p % 2 = 1 && s.slotOn inst p) fun s p => s.storeContam inst p
    | 3 => s.hullTxContam inst info
    | 4 => { s with fab := { s.fab with rxBad := tset 0 s.fab.rxBad inst 1 } }
    | 5 => s.inc MTX_PARITY
    | 7 => if info < 33 then (s.podContam inst false).colError inst info else (s.podContam inst false).inc (POD_PARITY inst)
    | 8 => (s.podContam inst false).inc (POD_PARITY inst)
    | 9 => if info < 33 then (s.podContam inst false).colError inst info else (s.podContam inst false).inc (POD_PARITY inst)
    | 10 => { s.inc HUSK_PARITY with husk := { s.husk with parity := tset 0 s.husk.parity inst 1 } }
    | 11 => { s with ctxs := { s.ctxs with egressBad := true } }
    | 12 => s.laneTxBad inst
    | 13 => s.fset DMC_STATUS_DmwPar 1
    | _ => s

/-- PARITY_ERROR (R349, R350): sites 0x01 to 0x0D. The sites stand in parts whose clocks run. -/
def execParityError (site inst info : Nat) (s : State) : Host.Outcome State Fault Refusal :=
  reply (site = 0 ∨ 13 < site ∨ siteInstances site ≤ inst ∨ 2 ^ 32 ≤ info) <|
    (if s.awake then s.parityAt site inst info else s)

/-! ## SECDED (R353) -/

/-- Words of a store. -/
def storeSize (store : Nat) : Nat :=
  match store with
  | 1 => 4096 | 2 => 32768 | 3 => 4096 | 4 => 192 | 5 => 8192 | 6 => 256 | _ => 2 ^ 30

/-- The key of a word among those with errors: its register address; a context entry goes by its first word, and the
golden copy's word by the address of the register it copies. -/
def storeKey (store i : Nat) : Nat :=
  match store with
  | 1 => CTX_CFG i
  | 2 => PATHSTORE i
  | 3 => FAB_NH i
  | 4 => FAB_LSET (i / 3) (i % 3)
  | 5 => HULL_OWN i
  | 6 => HULL_SRC i
  | _ => 4 * i

/-- A SECDED error of word i of a store (R353): corrected on read, or handled as the store's row says. -/
def State.eccAt (s : State) (store i syndrome : Nat) (correctable : Bool) : State :=
  let s := s.ecc store i syndrome correctable
  if correctable then s
  else if store = 7 then
    ({ s with img := { s.img with goldenBad := tset 0 s.img.goldenBad (4 * i) 1 } }).fset ERL_STATUS_GoldenEcc 1
  else
    let s : State := { s with erl := { s.erl with eccBad := tset 0 s.erl.eccBad (storeKey store i) 1 } }
    if store = 1 then s.ctxFault i 0x20
    else s.when (decide (store = 3 ∨ store = 4)) State.routesChanged

/-- ECC_ERROR: store codes 1 to 7. -/
def execEccError (store index syndrome : Nat) (correctable : Bool) (s : State) : Host.Outcome State Fault Refusal :=
  reply (store = 0 ∨ 7 < store ∨ storeSize store ≤ index ∨ 2 ^ 32 ≤ syndrome) <|
    (if s.awake then s.eccAt store index syndrome correctable else s)

/-! ## Log and account -/

/-- ERROR_LOG_POP (R354). -/
def execErrorLogPop (s : State) : Host.Outcome State Fault Refusal := .next (if s.awake then s.logPop else s)

/-- CLEAR_LPS (R362). -/
def execClearLps (s : State) : Host.Outcome State Fault Refusal := .next (if s.awake then s.clearLps else s)

/-- CLEAR_FAB (R362). -/
def execClearFab (s : State) : Host.Outcome State Fault Refusal := .next (if s.awake then s.clearFab else s)

end Sys2Proof.Machine
end

