-- ==== Sys2Proof/Machine/Power.lean ====
section
/-! DEFINITION. Power states (chapter 15): PWR_CMD and its transitions (R367), the drain (R370, R371), RETAIN (R372, R373),
STANDBY (R374), the start from STANDBY (R375, R336), temperature (R376, R377); supplies, RESET_N and the test access port
(R400 to R406, R410). -/

namespace Sys2Proof.Machine

/-! ## Transitions (R367) -/

def State.modPwr (s : State) (f : PwrSt → PwrSt) : State := { s with pwr := f s.pwr }

def State.setPhase (s : State) (p : PwrPhase) : State := s.modPwr fun x => { x with phase := p }

/-- The result code of the last command. -/
def State.pwrCode (s : State) (c : Nat) : State := s.fset PWR_STATUS_LastCode c

/-- A transition begins and waits. -/
def State.pwrBegin (s : State) (target : Nat) (p : PwrPhase) : State :=
  ((s.fset PWR_STATUS_Target target).fset PWR_STATUS_Busy 1).setPhase p

/-- A transition completes with OK; PWR_TTIME shows how long it took. -/
def State.pwrDone (s : State) (target : Nat) : State :=
  let us := min (2 ^ 32 - 1) ((s.tim.ticks - s.pwr.began) / 250)
  let s := ((s.fset PWR_STATUS_State target).fset PWR_STATUS_Target target).fset PWR_STATUS_Busy 0
  ((((s.pwrCode 0).inc PWR_TRANS).setReg PWR_TTIME (BitVec.ofNat 32 us)).setPhase .none).modPwr fun x => { x with last := target }

/-- A transition ends without completing: PWR_STATUS.Target shows the last one completed. -/
def State.pwrBreak (s : State) : State :=
  ((s.fset PWR_STATUS_Busy 0).fset PWR_STATUS_Target s.pwr.last).setPhase .none

/-- The transitions of R367. -/
def mayGo (src dst : Nat) : Bool :=
  (decide (src = 1) && decide (dst = 3)) || (decide (src = 2) && (decide (dst = 3) || decide (dst = 1))) ||
    (decide (src = 3) && (decide (dst = 4) || decide (dst = 2) || decide (dst = 1))) ||
    (decide (src = 4) && (decide (dst = 3) || decide (dst = 2)))

/-! ## RUN (R369, R370) -/

/-- The held units start with the enables as written (R368, R369), and an armed self-test begins (R346). -/
def State.enterRun (s : State) : State :=
  let s := s.fchEnterRun.hullEnterRun
  let s := s.each ((List.range 64).filter fun p => s.flag (POD_CTRL_Run p) && !(s.pod p).seq &&
    !s.flag (POD_STATUS_Halted p) && !s.flag (POD_STATUS_Fault p)) fun s p => s.podRunStart p
  s.selfTestStart

/-- The units are held (R368): no sequencer runs. -/
def State.holdUnits (s : State) : State := s.each ((List.range 64).filter fun p => (s.pod p).seq) fun s p => s.podHalt p

/-- The state leaves RUN: the account's spans end here (R360), and START is accepted again (R371). -/
def State.leaveRun (s : State) : State :=
  let s := s.clipSpans s.now16
  { s with ctxs := { s.ctxs with draining := false } }

/-- The drain of R370 begins: START is refused (R371) and every context gets its STOP. -/
def State.drainStart (s : State) (target : Nat) : State :=
  let s := s.pwrBegin target .drain
  ({ s with ctxs := { s.ctxs with draining := true } }).stopAll s.liveCtxs

/-- Every context is STOPPED or EMPTY: READY, or the waits of R372 with the units held. The state is RUN until RETAIN (R371, R372; DEDUCED,
log entry 157). -/
def State.drainEnd (s : State) : State :=
  let s := s.holdUnits
  if s.fget PWR_STATUS_Target = 2 then s.setPhase .retain else s.leaveRun.pwrDone 3

/-- DRAIN_COMPLETE. -/
def execDrainComplete (s : State) : Host.Outcome State Fault Refusal :=
  .next (if s.pwr.phase = .drain ∧ s.anyLive = false then s.drainEnd else s)

/-- DRAIN_TIMEOUT: STOPs not yet issued are dropped; contexts that stopped stay STOPPED. -/
def execDrainTimeout (s : State) : Host.Outcome State Fault Refusal := .next <|
  if s.pwr.phase = .drain then
    if s.anyLive then
      let s : State := { s with ctxs := { s.ctxs with
        draining := false, leadWait := s.ctxs.leadWait.filter s.ctxs.locked.contains } };
      ((s.pwrCode 3).pwrBreak)
    else s.drainEnd
  else s

/-! ## STANDBY (R374) -/

/-- The controllers stop without self-refresh: HBM is lost. -/
def State.dmcStop (s : State) : State :=
  let s := ((s.fset DMC_CTRL_Enable 0).fset DMC_STATUS_Ready 0).fset DMC_STATUS_WarmBusy 0
  let s := s.each (List.range 192) fun s p =>
    s.fset (DMC_PCSTAT_State p) (if 6 ≤ s.pcState p then s.pcState p else tget 0 s.dmc.was p)
  { s with dmc := DmcSt.reset, hbm := [], hbmBad := [] }

/-- The loader holds nothing: its streams and checks end, and the boot source acts again at the next READY. -/
def State.imgEmpty (s : State) : State :=
  let s := s.hideImage.modImg fun x => { ImgSt.reset with spN := x.spN, spCom := x.spCom, spOwn := x.spOwn }
  s.imgTo 0

/-- Entry to STANDBY. -/
def State.toStandby (s : State) : State :=
  let s := ((s.sectionReset true).dmcStop.imgEmpty).pulseTake 0
  s.pwrDone 1

/-! ## RETAIN (R372, R373) -/

/-- None of the things R372 waits for is under way. -/
def State.retainFree (s : State) : Bool :=
  !s.loaderBusy && s.dmc.copy.isEmpty && !s.flag DMC_STATUS_WarmBusy && !s.flag DMC_CTRL_TGenRun &&
    (List.range 96).all fun l => !(s.lrun l).warm

/-- SELF_REFRESH_ENTRY (R273, R372 step 2): nothing that the entry to RETAIN waits for is under way. -/
def execSelfRefreshEntry (s : State) : Host.Outcome State Fault Refusal :=
  .next (if s.dmcOn && decide (s.pwr.phase = .retain) && s.retainFree then s.selfRefresh else s)

/-- RETAIN_ENTRY_DONE: self-refresh is entered and the fast clocks stop. -/
def execRetainEntryDone (s : State) : Host.Outcome State Fault Refusal := .next <|
  if s.pwr.phase = .retain ∧ s.retainFree = true then
    let s := s.when (decide (s.pwrState = 4)) State.leaveRun;
    ((if s.dmc.asleep then s else s.selfRefresh).pwrDone 2)
  else s

/-- RETAIN_EXIT: the verifications still open have passed (R270), unless a pseudo-channel repeats a step in full, for which the
exit waits (R373). A SYNC event held in its crossing takes effect (R426). -/
def execRetainExit (slow : Bool) (s : State) : Host.Outcome State Fault Refusal := .next <|
  if s.pwr.phase = .exit ∧ s.dmc.again.isEmpty = true then
    let s := s.each ((List.range 192).filter fun p => s.pcState p = 3 ∨ s.pcState p = 1) State.exitTrained
    let s := (s.noteReserve.noteReady).when (slow || s.dmc.slow) fun s => s.fset PWR_STATUS_SlowExit 1
    let s := s.pwrDone 3
    if tget 0 s.mtx.pulse 0 = 0 then s else (s.pulseTake 0).syncApply
  else s

/-! ## Start from STANDBY (R375, R336) -/

/-- BOOT_SRC FABRIC: every lane climbs in FABRIC mode to S4; the fabric unit runs unassigned (R258). -/
def State.bootFabric (s : State) : State :=
  let s := s.each (List.range 96) fun s l => ((s.fset (LN_CFG_Mode l) 2).fset (LN_CFG_MaxStep l) 4).laneOn l
  ((s.modImg fun x => { x with unassigned := true }).fabEnable).imgTo 6

/-- The action of the boot source at the first entry to READY. -/
def State.bootSource (s : State) : State :=
  if s.img.booted then s
  else
    let s := s.modImg fun x => { x with booted := true }
    match s.fget GLB_STRAP_BootSrc with
    | 0 => s
    | 1 => s.bootFabric
    | 2 => s.romApply
    | _ => s.fset IMG_STATUS_StrapBad 1

/-- PLL_LOCK: the boot source acts, the controllers train, enabled lanes start (R375). On the way out of RETAIN the
controllers leave self-refresh and verify their training (R373). -/
def execPllLock (s : State) : Host.Outcome State Fault Refusal := .next <|
  if s.pwr.phase = .pll then
    let s := (s.setPhase .start).bootSource.dmcStart
    s.each ((List.range 96).filter fun l => s.flag (LN_CFG_Enable l) && decide (s.lnState l = 0)) fun s l => s.laneStart l
  else if s.pwr.phase = .exit then
    (s.each ((List.range 192).filter fun p => s.pcState p = 3) fun s p => s.fset (DMC_PCSTAT_State p) 1).dmcTrainNew
  else s

/-- STANDBY_READY_DONE (R375 step 4). -/
def execStandbyReadyDone (after400ms : Bool) (s : State) : Host.Outcome State Fault Refusal := .next <|
  if s.pwr.phase = .start ∧ (after400ms = true ∨ s.dmcReady = true ∧ s.lanesLeft = false) then
    ((s.fset PWR_STATUS_LanesPending (if s.lanesLeft then 1 else 0)).pwrDone 3)
  else s

/-! ## PWR_CMD (R367, R377, R378) -/

/-- An allowed transition. -/
def State.pwrGo (s : State) (target : Nat) : State :=
  match s.pwrState, target with
  | 1, _ => s.pwrBegin 3 .pll
  | 4, t => s.drainStart t
  | _, 4 => (s.pwrDone 4).enterRun
  | _, 1 => s.toStandby
  | 3, _ => s.pwrBegin 2 .retain
  | _, _ => s.pwrBegin 3 .exit

/-- A write of PWR_CMD.Target. -/
def State.pwrCmd (s : State) (target : Nat) : State :=
  if s.flag PWR_STATUS_Tripped then s.pwrCode 4
  else if s.flag PWR_STATUS_Busy then s.pwrCode 2
  else if target = s.pwrState then s.pwrCode 0
  else if mayGo s.pwrState target then (s.modPwr fun x => { x with began := s.tim.ticks }).pwrGo target
  else s.pwrCode 1

/-- PWR_STANDBY. -/
def execPwrStandby (s : State) : Host.Outcome State Fault Refusal := .next (if s.awake then s.pwrCmd 1 else s)

/-- PWR_RETAIN. -/
def execPwrRetain (s : State) : Host.Outcome State Fault Refusal := .next (if s.awake then s.pwrCmd 2 else s)

/-- PWR_READY. -/
def execPwrReady (s : State) : Host.Outcome State Fault Refusal := .next (if s.awake then s.pwrCmd 3 else s)

/-- PWR_RUN. -/
def execPwrRun (s : State) : Host.Outcome State Fault Refusal := .next (if s.awake then s.pwrCmd 4 else s)

/-! ## Temperature (R376, R377) -/

/-- The hottest of the readings and the first sensor that shows it. -/
def hottest : List Int → Nat → Nat × Int → Nat × Int
  | [], _, b => b
  | q :: t, i, b => hottest t (i + 1) (if b.2 < q then (i, q) else b)

/-- A signed byte as a field. -/
def byteOf (v : Int) : Nat := (v % 256).toNat

/-- One period's readings, in quarter degrees. -/
def State.thermal (s : State) (sensor : Nat) (q : Int) : State :=
  let c := q / 4
  let peak := if s.pwr.read then max c (toSigned 8 (s.fget PWR_TEMP_PeakC)) else c
  let s := ((s.fset PWR_TEMP_Sensor sensor).fset PWR_TEMP_JunctionC (byteOf c)).fset PWR_TEMP_PeakC (byteOf peak)
  let s := s.fset PWR_STATUS_OverMax (if 380 < q then 1 else 0)
  let s := s.modPwr fun x => { x with read := true }
  if 360 ≤ q && s.pwr.warnArmed then
    let s := s.modPwr fun x => { x with warnArmed := false }
    ((s.fset PWR_STATUS_ThermWarn 1).inc PWR_WARNCNT).raise 1
  else if q < 352 then s.modPwr fun x => { x with warnArmed := true }
  else s

/-- THERMAL_READING: sixteen sensors. -/
def execThermalReading (quarters : List Int) (s : State) : Host.Outcome State Fault Refusal :=
  reply (quarters.length ≠ 16 ∨ quarters.any (fun x => decide (x < -512) || decide (511 < x))) <|
    match quarters with
    | [] => s
    | q :: rest => if s.awake then s.thermal (hottest rest 1 (0, q)).1 (hottest rest 1 (0, q)).2 else s

/-- THERMAL_TRIP: the latch is armed whenever VDD_IO is there, RESET_N low or not (R406); a transition stops where it is (R378). -/
def execThermalTrip (s : State) : Host.Outcome State Fault Refusal := .next <|
  if s.pwr.fromVbat then s
  else
    let s := (s.modPwr fun x => { x with trip := true }).fset PWR_STATUS_Tripped 1;
    (if s.awake then s.pwrBreak else s)

/-! ## RESET_N and supplies (R18, R362, R400 to R405) -/

/-- Registers of the VBAT domain: the calendar and the account (R194, R362). -/
def isVbat (a : Nat) : Bool :=
  a = CAL_SEC_LO || a = CAL_SEC_HI || a = CAL_STATUS || (decide (ERL_LPS_FR ≤ a) && decide (a ≤ ERL_LPSPEND))

/-- Fuse words: the serial number and the fuse bits of IMG_FUSE. -/
def isFuse (a : Nat) : Bool := a = GLB_SERIAL_LO || a = GLB_SERIAL_HI || a = IMG_FUSE

/-- RESET_N low: everything but the VBAT domain, with the calendar's divider, the test access port and the trip latch, which holds
PWR_STATUS.Tripped (R402); what the model itself holds for commands, free values and outputs stays. -/
def State.resetAll (s : State) : State :=
  let t : State := { State.reset with
    pending := s.pending
    fresh := s.fresh
    wireOut := s.wireOut
    regs := s.regs.filter fun e => isVbat e.1 || isFuse e.1
    tim := { TimSt.reset with calDiv := s.tim.calDiv }
    pwr := { PwrSt.reset with
      off := s.pwr.off, inReset := true, trip := s.pwr.trip, fromVbat := s.pwr.fromVbat, tap := s.pwr.tap
      boundary := s.pwr.boundary, vbatLow := s.pwr.vbatLow } }
  (t.setReg IMG_FUSE (s.reg IMG_FUSE &&& 0x80000F0F#32)).fset PWR_STATUS_Tripped (if s.pwr.trip then 1 else 0)

/-- RESET_ASSERT: a pulse under 1 µs is filtered; one from 1 µs to 10 µs may or may not reset the part. -/
def execResetAssert (widthNs : Nat) (s : State) : Host.Outcome State Fault Refusal := .next <|
  if s.pwr.inReset then s
  else if widthNs < 1000 then s
  else if widthNs < 10000 then (if Config.shortReset s.fresh then s.draw.resetAll else s.draw)
  else s.resetAll

/-- Two words of the account, in 2^-16 s. -/
def State.getTotal (s : State) (fr sec : Nat) : Nat := (s.reg fr).toNat % 2 ^ 16 + 2 ^ 16 * (s.reg sec).toNat

/-- The account at RESET_N release (R362): it reads 0 where Valid was lost; else ERL_LPSPEND is added as PENDING. -/
def State.accountLoad (s : State) : State :=
  if s.flag CAL_STATUS_Valid then
    let p := (s.reg ERL_LPSPEND).toNat
    let s := s.each ((List.range 7).map fun i => i + 1) fun s c =>
      s.addAcc c (s.getTotal (ERL_LPSCAUSE_FR c) (ERL_LPSCAUSE_SEC c))
    let s := (s.addAcc 0 (s.getTotal ERL_LPS_FR ERL_LPS_SEC)).addLoss 7 p
    let fab := s.getTotal ERL_FABLPS_FR ERL_FABLPS_SEC * 2 ^ 64
    let s : State := { s with erl := { s.erl with fab := fab } }
    (s.accountPut ⟨s.erl.acc, s.erl.fab, 0⟩).fset ERL_STATUS_PendingAdded 1
  else s.clearLps.clearFab

/-- The shadows of R17 of words that do not come out of reset at 0. -/
def State.loadShadows (s : State) : State :=
  s.each ([GLB_SERIAL_HI, CAL_SEC_HI, TMB_TIME_SL, TMB_TIME_SH, ERL_LPS_SEC, ERL_FABLPS_SEC] ++
    (List.range 7).map fun i => ERL_LPSCAUSE_SEC (i + 1)) fun s a => s.setShadow a (s.peek a)

/-- RESET_N rises: straps are sampled, the time counter and the account load, and the part is in STANDBY. -/
def State.resetEnd (s : State) (addrSel bootSrc : Nat) : State :=
  let s := s.modPwr fun x => { x with off := false, inReset := false, fromVbat := false }
  let s := (s.fset GLB_STRAP_AddrSel addrSel).fset GLB_STRAP_BootSrc bootSrc
  let sec := if s.flag CAL_STATUS_Valid then s.get2 CAL_SEC_LO CAL_SEC_HI + 1 else 0
  let s : State := { s with time := sec % 2 ^ 48 * 2 ^ 80 }
  s.accountLoad.loadShadows

/-- RESET_RELEASE. -/
def execResetRelease (addrSel bootSrc : Nat) (s : State) : Host.Outcome State Fault Refusal :=
  reply (8 ≤ addrSel ∨ 4 ≤ bootSrc) <|
    (if s.pwr.inReset then s.resetEnd addrSel bootSrc else s)

/-- The VBAT domain runs from VBAT: below 1.6 V Valid clears (R194, R405). A second-boundary write that has not landed leaves the
previous second's values (R364, R406). -/
def State.onVbat (s : State) : State :=
  let s : State := { s with erl := { s.erl with vbat := none }, pwr := { s.pwr with fromVbat := true } }
  s.when s.pwr.vbatLow fun s => s.fset CAL_STATUS_Valid 0

/-- MAIN_SUPPLY_LOSS: the part is OFF; the trip latch and the test access port lose their state, the VBAT domain runs
from VBAT. -/
def execMainSupplyLoss (s : State) : Host.Outcome State Fault Refusal := .next <|
  let s := (s.resetAll.fset PWR_STATUS_Tripped 0).onVbat
  s.modPwr fun x => { x with off := true, trip := false, tap := .idcode, boundary := 0 }

/-- VDD_IO_SWITCHOVER (R405). -/
def execVddIoSwitchover (fromVbat : Bool) (s : State) : Host.Outcome State Fault Refusal :=
  .next (if fromVbat then s.onVbat else s.modPwr fun x => { x with fromVbat := false })

/-- VBAT_LOW (R194): VBAT falls below 1.6 V; it clears Valid while the domain runs from VBAT, or as it comes to. No command brings VBAT
back (DESIGN CHOICE, log entry 299). -/
def execVbatLow (s : State) : Host.Outcome State Fault Refusal := .next <|
  let s := s.modPwr fun x => { x with vbatLow := true };
  (if s.pwr.fromVbat then s.fset CAL_STATUS_Valid 0 else s)

/-! ## The test access port (R410) -/

/-- The instruction selects the boundary register. -/
def tapBound : TapIns → Bool
  | .samplePreload | .extest | .extestPulse | .extestTrain => true
  | .bypass | .idcode | .highz => false

/-- What a data scan of the test access port shifts out first: the device identification by IDCODE (R410), the 0 of the bypass register
by BYPASS and HIGHZ (IEEE 1149.1, which R410 implements), else the boundary register. -/
def State.tapCapture (s : State) : BitVec 64 :=
  match s.pwr.tap with
  | .idcode => 0x19601369#64
  | .bypass | .highz => 0#64
  | .samplePreload | .extest | .extestPulse | .extestTrain => s.pwr.boundary

/-- TAP_RESET: IDCODE is in force and the pins return to the part. -/
def execTapReset (s : State) : Host.Outcome State Fault Refusal :=
  .next (s.modPwr fun x => { x with tap := .idcode })

/-- The boundary register takes what its pins and TDI bring: a free value (R410). -/
def State.boundScan (s : State) : State := s.draw.modPwr fun x => { x with boundary := Config.boundaryScan s.fresh }

/-- TAP_INSTRUCTION. The port works while VDD_IO is there, RESET_N low or not (R395), and a data scan follows (DESIGN CHOICE, log
entry 300). -/
def execTapInstruction (ins : TapIns) (s : State) : Host.Outcome State Fault Refusal := .next <|
  if s.pwr.fromVbat then s
  else
    let s := (s.modPwr fun x => { x with tap := ins }).when (tapBound ins) State.boundScan
    let s := s.modPwr fun x => { x with tapUsed := x.tapUsed || s.pinsAway }
    s.emit (.tdo s.tapCapture)

end Sys2Proof.Machine
end

