-- ==== Sys2Proof/Machine/Bridge.lean ====
section
/-! DEFINITION. Register writes as the host bridge, the peripheral bridge and the write buffer make them (R13, R291, R308), and
matrix transactions (R280 to R288). -/

namespace Sys2Proof.Machine

/-! ## One register write -/

/-- A write of IMG_CMD; other operation codes have no effect. -/
def State.imgCmd (s : State) (v : BitVec 32) : State :=
  match IMG_CMD_Op.of v with
  | 1 => s.startStream false
  | 2 => s.startStream true
  | 3 => s.reloadStart (decide (IMG_CMD_Restart.of v = 1)) (IMG_CMD_SectionMask.of v)
  | 4 => s.imgAbort
  | 5 => if IMG_CMD_FromRom.of v = 1 then s.sproutRom else s.sproutApplied
  | _ => s

/-- A register write by initiator i at a 4-byte address; a stopped clock discards it (R291). -/
def State.writeAny (s : State) (i a : Nat) (v : BitVec 32) : State :=
  if s.regOff a then s.log 6 0 i (a % 2 ^ 32)
  else if a = IMG_CMD then s.imgCmd v
  else if IMG_WIN 0 ≤ a ∧ a < IMG_WIN 1024 then s.winWrite v
  else if a = PWR_CMD then s.pwrCmd (PWR_CMD_Target.of v)
  else s.regWrite i a v

/-- REGISTER_WRITE: the host's write, through the host bridge (initiator 21). It waits behind a held crossing (R296). Address bits [1:0] are ignored here and in every
command that names a register by its address (R11). -/
def execRegisterWrite (addr : Nat) (value : Word) (s : State) : Host.Outcome State Fault Refusal :=
  reply (2 ^ 32 ≤ addr) <|
    (if s.awake && !s.regHeld (addr / 4 * 4) then s.writeAny 21 (addr / 4 * 4) value else s)

/-- POSTED_WRITE (R308): the oldest posted write is executed. -/
def execPostedWrite (s : State) : Host.Outcome State Fault Refusal := .next <|
  match s.i3c.posted with
  | [] => s
  | w :: ws =>
    if s.awake && !s.regHeld (w.addr / 4 * 4) then
      let s : State := { s with i3c := { s.i3c with posted := ws } }
      s.writeAny 21 (w.addr / 4 * 4) w.value
    else s

/-! ## The peripheral bridge (R291) -/

/-- One 4-byte group of a beat: skipped where only some strobes are on. -/
def State.groupAccess (s : State) (i a : Nat) (write : Option Word) (allStrobes : Bool) : State × BitVec 32 :=
  if !allStrobes then (s.inc (MTX_DECERR i), 0)
  else
    match write with
    | some v => (s.writeAny i a v, 0)
    | none => ((s.fetchReg i a).2, (s.fetchReg i a).1)

/-- BRIDGE_ACCESS. -/
def execBridgeAccess (i addr : Nat) (write : Option Word) (allStrobes : Bool) (s : State) : Host.Outcome State Fault Refusal :=
  reply (24 ≤ i ∨ mayAddress i 26 = false ∨ 2 ^ 28 ≤ addr) <|
    if !s.awake || s.regHeld (addr / 4 * 4) then s
    else
      let (s, w) := s.groupAccess i (addr / 4 * 4) write allStrobes
      if write.isNone then s.emit (.bridge i w) else s

/-- REG_CLK_OFF: an access to a register whose clock is stopped. -/
def execRegClkOff (i addr : Nat) (s : State) : Host.Outcome State Fault Refusal :=
  reply (24 ≤ i ∨ 2 ^ 28 ≤ addr) <|
    (if s.awake && s.regOff (addr / 4 * 4) then s.log 6 0 i (addr / 4 * 4) else s)

/-! ## Transactions (R280 to R288) -/

/-- Register reads of n 4-byte groups from address a upward; the bytes read. -/
def State.regBurst (s : State) (i a : Nat) : Nat → State × List Byte
  | 0 => (s, [])
  | n + 1 =>
    let (s, v) := s.groupAccess i a none true
    let (s, rest) := s.regBurst i (a + 4) n
    (s, leBytes 4 v.toNat ++ rest)

/-- Strobed bytes of a beat stored in a byte table from address a on. -/
def putStrobed (t : Tbl Byte) (a : Nat) (w : LineWrite) : Tbl Byte :=
  ((w.bytes.zip w.strobes).zip (List.range 64)).foldl (fun t x => if x.1.2 then tset 0 t (a + x.2) x.1.1 else t) t

/-- One write beat at the registers: each 4-byte group with strobes on is an access (R291). -/
def State.regBeat (s : State) (i a : Nat) (w : LineWrite) : State :=
  s.each (List.range 16) fun s g =>
    let st := (w.strobes.drop (4 * g)).take 4
    if st.any id then
      (s.groupAccess i (a + 4 * g) (some (BitVec.ofNat 32 (ofLe ((w.bytes.drop (4 * g)).take 4)))) (st.all id)).1
    else s

/-- One write beat at target t: its parity is checked (R283, R349), and its strobed bytes are stored. -/
def State.beatWrite (s : State) (i t a : Nat) (w : LineWrite) : State :=
  let s := s.when ((w.strobes.zip w.badParity).any fun x => x.1 && x.2) fun s => (s.parity 5 i (a % 2 ^ 32)).inc MTX_PARITY
  if t ≤ 23 then s.lineBeat a w
  else if t = 24 then { s with hull := { s.hull with stage := putStrobed s.hull.stage (a - 0x4000000000) w } }
  else if t ≤ 26 then s.regBeat i (a - 0x8000000000) w
  else { s with mtx := { s.mtx with egress := putStrobed s.mtx.egress (a - 0xA000000000) w } }

/-- A read burst at target t: the state after it, the bytes of its response, and which have wrong parity. -/
def State.burstRead (s : State) (i t a n : Nat) : State × List Byte × List Bool :=
  if t ≤ 23 then (s.noteRead a n, s.hbmBytes a n, (List.range n).map fun j => s.hbmByteBad (a + j))
  else
    let ok := List.replicate n false
    if t = 24 then (s, getBytes s.hull.stage (a - 0x4000000000) n, ok)
    else if t ≤ 26 then
      let r := s.regBurst i (a - 0x8000000000) (n / 4)
      (r.1, r.2, ok)
    else (s, getBytes s.mtx.egress (a - 0xA000000000) n, ok)

/-- The oldest transaction of the list with this ID, direction and stage goes on. -/
def stepTxn (id : Nat) (write : Bool) (src : TxnStage) (f : MtxTxn → MtxTxn) : List MtxTxn → List MtxTxn
  | [] => []
  | x :: t => if x.id = id ∧ x.write = write ∧ x.stage = src then f x :: t else x :: stepTxn id write src f t

def State.txnStep (s : State) (i id : Nat) (write : Bool) (src : TxnStage) (f : MtxTxn → MtxTxn) : State :=
  s.setMtxOut i (stepTxn id write src f (s.mtxOut i))

/-- The initiator that target t grants next, and the turn after it: weighted round robin among those that hold a credit, the
weights being the port widths (R288). -/
def State.nextTurn (s : State) (t : Nat) : Nat × Nat :=
  let (cur, left) := tget (23, 0) s.mtx.turn t
  let has := fun i => (s.ungrantedAt t).any fun x => decide (x.1 = i)
  if 0 < left ∧ has cur = true then (cur, left - 1)
  else
    let n := (((List.range 24).map fun k => (cur + 1 + k) % 24).find? has).getD cur
    (n, portWidth n - 1)

/-- The first beat of the oldest burst passes; with its last beat the write is done (R288). -/
def State.beatPass (s : State) (t : Nat) : State :=
  match s.burstsAt t with
  | [] => s
  | b :: rest =>
    let w : LineWrite := ⟨b.data.bytes.take 64, b.data.strobes.take 64, b.data.badParity.take 64⟩
    let s := if b.off then s else s.beatWrite b.init t b.addr w
    if b.left ≤ 1 then (s.setBursts t rest).txnStep b.init b.id true .granted fun x => { x with stage := .done }
    else
      let d : LineWrite := ⟨b.data.bytes.drop 64, b.data.strobes.drop 64, b.data.badParity.drop 64⟩
      s.setBursts t ({ b with addr := b.addr + 64, left := b.left - 1, data := d } :: rest)

/-- Beats that pass in one cycle: those of the oldest burst that both ports' widths take. -/
def State.beatsPass : Nat → Nat → State → State
  | 0, _, s => s
  | n + 1, t, s =>
    match s.burstsAt t with
    | [] => s
    | b :: _ => if b.left ≤ 1 then s.beatPass t else State.beatsPass n t (s.beatPass t)

/-- MCLK cycles are counted with four to an ECLK tick. -/
def State.cycle (s : State) : Nat := 4 * s.tim.ticks

/-- Write data passes at target t in the cycles of this tick, at most n of them. -/
def State.flow : Nat → Nat → State → State
  | 0, _, s => s
  | n + 1, t, s =>
    let c := max s.cycle (tget 0 s.mtx.beatAt t)
    match s.burstsAt t with
    | [] => s
    | b :: _ =>
      if c < s.cycle + 4 then
        let s := { s with mtx := { s.mtx with beatAt := tset 0 s.mtx.beatAt t (c + 1) } }
        State.flow n t (State.beatsPass (min (portWidth b.init) (targetWidth t)) t s)
      else s

/-- The crossing behind target port t (R292). -/
def targetCrossing (t : Nat) : Option (Nat × Nat) :=
  if t ≤ 23 then some (4, t) else if t = 24 then some (5, 0) else if t = 26 then some (8, 0) else none

/-- It is held: the target neither grants nor passes beats (R296). -/
def State.targetHeld (s : State) (t : Nat) : Bool := (targetCrossing t).any fun x => s.xIsHeld x.1 x.2

/-- The request that target t grants next. -/
def State.nextGrant (s : State) (t : Nat) : Option (Nat × MtxReq) :=
  (s.ungrantedAt t).find? fun x => decide (x.1 = (s.nextTurn t).1)

/-- The crossing of target t has room for the request: 128 beats each way to a DMC unit, 64 to the operand stage (R292). A register
access finds no held crossing. -/
def State.grantRoom (s : State) (t : Nat) (r : MtxReq) : Bool :=
  let n := if r.write.isSome then s.beatsIn t else s.beatsOut t
  if t ≤ 23 then decide (n + r.beats ≤ 128)
  else if t = 24 then decide (n + r.beats ≤ 64)
  else if t = 26 then !(List.range (16 * r.beats)).any fun j => s.regHeld (r.addr - 0x8000000000 + 4 * j)
  else true

/-- Target t grants its next request (R288): a read is done at once, a write burst goes to the data path. -/
def State.grant (s : State) (t : Nat) : State :=
  let turn := s.nextTurn t
  match s.nextGrant t with
  | none => s
  | some (i, r) =>
    let s := { s with mtx := { s.mtx with turn := tset (23, 0) s.mtx.turn t turn } }
    let s := s.setUngranted t (eraseOne (i, r) (s.ungrantedAt t))
    match r.write with
    | some w =>
      (s.txnStep i r.id true .accepted fun x => { x with stage := .granted }).setBursts t
        (s.burstsAt t ++ [⟨i, r.id, r.addr, r.beats, w, false⟩])
    | none =>
      let (s, bytes, bad) := s.burstRead i t r.addr (64 * r.beats)
      s.txnStep i r.id false .accepted fun x => { x with stage := .done, bytes := bytes, bad := bad }

/-- Target t grants in the cycles of this tick, one request a cycle (R288), at most n of them. -/
def State.grants : Nat → Nat → State → State
  | 0, _, s => s
  | n + 1, t, s =>
    let c := max s.cycle (tget 0 s.mtx.grantAt t)
    if !((s.nextGrant t).any fun x => s.grantRoom t x.2) || decide (s.cycle + 4 ≤ c) then s
    else
      let s := { s with mtx := { s.mtx with grantAt := tset 0 s.mtx.grantAt t (c + 1) } }
      State.grants n t (s.grant t)

/-- What target t does in the cycles of this tick. -/
def State.targetRun (s : State) (t : Nat) : State := if s.targetHeld t then s else State.flow 4 t (State.grants 4 t s)

/-- The targets at which something waits. -/
def State.busyTargets (s : State) : List Nat :=
  (List.range 28).filter fun t => !(s.ungrantedAt t).isEmpty || !(s.burstsAt t).isEmpty

/-- A request at its port: accepted, and granted where its target has a cycle left in this tick; held otherwise (R284 to R288). -/
def State.mtxRequest (s : State) (i : Nat) (r : MtxReq) : State :=
  let first := (s.portQ i).isEmpty
  let t := s.reqTarget i r.addr
  let s := State.portAccept 1 i (s.setPort i (s.portQ i ++ [r]))
  if first && !(s.portQ i).isEmpty then
    match s.mtxHold i r.id t with
    | some c => s.mtxHeld i t c 1
    | none => s
  else if t < 28 then s.targetRun t
  else s

/-- The request has the form of R283, from an initiator of R280 with a 5-bit ID. -/
def matrixOk (i id addr : Nat) (write : Option LineWrite) (beats : Nat) : Bool :=
  decide (i < 24) && decide (id < 32) && burstOk addr beats &&
    (match write with
    | some w => decide (w.bytes.length = 64 * beats) && decide (w.strobes.length = 64 * beats) &&
        decide (w.badParity.length = 64 * beats)
    | none => true)

/-- The ID a request goes by: initiators 16 to 19 set it to the number of the target port (R285). -/
def State.reqId (s : State) (i id addr : Nat) : Nat :=
  let t := s.reqTarget i addr
  if 16 ≤ i ∧ i ≤ 19 ∧ t < 32 then t else id

/-- MATRIX_REQUEST. A port in reset issues nothing (R289), and a fenced ID is not reused (R290). -/
def execMatrixRequest (i id addr : Nat) (write : Option LineWrite) (beats : Nat) (s : State) :
    Host.Outcome State Fault Refusal :=
  reply (matrixOk i id addr write beats = false) <|
    let id := s.reqId i id addr
    if s.awake && s.mclk && decide (s.portState i = 0) && !(s.fencedIds i).contains id &&
        (s.dmcOn || decide (23 < s.reqTarget i addr)) then
      s.mtxRequest i ⟨id, addr, beats, write⟩
    else s

/-! ## The tick (R183, R190, R288) -/

/-- The cycles of a tick at the matrix: requests held at their ports are counted, and the targets go on. -/
def State.mtxTick (s : State) : State :=
  let s := s.each (s.mtx.port.map Prod.fst) fun s i =>
    match s.portQ i with
    | [] => s
    | r :: _ =>
      let t := s.reqTarget i r.addr
      match s.mtxHold i r.id t with
      | some c => s.mtxHeld i t c 4
      | none => s
  s.each s.busyTargets State.targetRun

/-- What pods, Husk lanes and links count while they stand still for a tick of 5 ACLK and 4 MCLK cycles (R380). -/
def State.holdTick (s : State) : State :=
  let s := s.when s.isRun fun s => (s.each (List.range 64) (fun s p => s.stallTick 5 p)).each (List.range 8) (fun s n => s.refuseTick 5 n)
  s.when (s.fabOn && !s.sprout) fun s => s.each (List.range 96) (fun s l => s.starveTick 4 l)

/-- ECLK_TICK (R183, R190). -/
def execEclkTick (s : State) : Host.Outcome State Fault Refusal :=
  .next (if s.awake then (s.eclkTick.when s.mclk State.mtxTick).holdTick else s)

end Sys2Proof.Machine
end

