-- ==== Sys2Proof/Machine/Dispatch.lean ====
section
/-! DEFINITION. The commands and their meanings: one arm per constructor of Instr. -/

namespace Sys2Proof.Machine

/-- The effect of a command on everything but the queue. -/
def exec (i : Instr) (s : State) : Host.Outcome State Fault Refusal :=
  match i with
  | .registerWrite addr value => Sys2Proof.Machine.execRegisterWrite addr value s
  | .lowWordRead addr byFabric => Sys2Proof.Machine.execLowWordRead addr byFabric s
  | .ingestFrame lane => Sys2Proof.Machine.execIngestFrame lane s
  | .syncEvent => Sys2Proof.Machine.execSyncEvent s
  | .fchEnable e => Sys2Proof.Machine.execFchEnable e s
  | .fchSlotEnable e slot => Sys2Proof.Machine.execFchSlotEnable e slot s
  | .fchGdataWrite e value => Sys2Proof.Machine.execFchGdataWrite e value s
  | .fchGdataRead e => Sys2Proof.Machine.execFchGdataRead e s
  | .gainSwapArm e value => Sys2Proof.Machine.execGainSwapArm e value s
  | .hullEnable => Sys2Proof.Machine.execHullEnable s
  | .hullStreamEnable st => Sys2Proof.Machine.execHullStreamEnable st s
  | .spectrumFrameToHull e => Sys2Proof.Machine.execSpectrumFrameToHull e s
  | .hullAnchorTag => Sys2Proof.Machine.execHullAnchorTag s
  | .hullDataFrame => Sys2Proof.Machine.execHullDataFrame s
  | .entryClose src tb => Sys2Proof.Machine.execEntryClose src tb s
  | .stagingStart => Sys2Proof.Machine.execStagingStart s
  | .stagingDone => Sys2Proof.Machine.execStagingDone s
  | .nop p => Sys2Proof.Machine.execNop p s
  | .ldi p => Sys2Proof.Machine.execLdi p s
  | .addi p => Sys2Proof.Machine.execAddi p s
  | .bnz p => Sys2Proof.Machine.execBnz p s
  | .jmp p => Sys2Proof.Machine.execJmp p s
  | .loop p => Sys2Proof.Machine.execLoop p s
  | .pdesc p => Sys2Proof.Machine.execPdesc p s
  | .openPorts p => Sys2Proof.Machine.execOpenPorts p s
  | .portStart port => Sys2Proof.Machine.execPortStart port s
  | .sel p => Sys2Proof.Machine.execSel p s
  | .mac p => Sys2Proof.Machine.execMac p s
  | .bmac p => Sys2Proof.Machine.execBmac p s
  | .wld p => Sys2Proof.Machine.execWld p s
  | .wldComplete p => Sys2Proof.Machine.execWldComplete p s
  | .wswap p => Sys2Proof.Machine.execWswap p s
  | .winit p => Sys2Proof.Machine.execWinit p s
  | .winitComplete p => Sys2Proof.Machine.execWinitComplete p s
  | .drain p => Sys2Proof.Machine.execDrain p s
  | .bankSwap p => Sys2Proof.Machine.execBankSwap p s
  | .drainEnd p => Sys2Proof.Machine.execDrainEnd p s
  | .bar p => Sys2Proof.Machine.execBar p s
  | .barComplete part => Sys2Proof.Machine.execBarComplete part s
  | .nextpg p => Sys2Proof.Machine.execNextpg p s
  | .nextpgComplete part st => Sys2Proof.Machine.execNextpgComplete part st s
  | .passGroupTake part st => Sys2Proof.Machine.execPassGroupTake part st s
  | .rdpmc p => Sys2Proof.Machine.execRdpmc p s
  | .fence p => Sys2Proof.Machine.execFence p s
  | .halt p => Sys2Proof.Machine.execHalt p s
  | .podRunStart p => Sys2Proof.Machine.execPodRunStart p s
  | .podRunStop p => Sys2Proof.Machine.execPodRunStop p s
  | .steerRequest p col => Sys2Proof.Machine.execSteerRequest p col s
  | .cellParityError p col draining => Sys2Proof.Machine.execCellParityError p col draining s
  | .steerReloadDone p => Sys2Proof.Machine.execSteerReloadDone p s
  | .huskStepAccept n => Sys2Proof.Machine.execHuskStepAccept n s
  | .drainApply n => Sys2Proof.Machine.execDrainApply n s
  | .dumpEnd c => Sys2Proof.Machine.execDumpEnd c s
  | .packetSend c => Sys2Proof.Machine.execPacketSend c s
  | .ctxStart c => Sys2Proof.Machine.execCtxStart c s
  | .ctxStop c => Sys2Proof.Machine.execCtxStop c s
  | .ctxValidWrite c value => Sys2Proof.Machine.execCtxValidWrite c value s
  | .weightFillDone c => Sys2Proof.Machine.execWeightFillDone c s
  | .drainingDone c => Sys2Proof.Machine.execDrainingDone c s
  | .autoRestart c => Sys2Proof.Machine.execAutoRestart c s
  | .ctxScrub => Sys2Proof.Machine.execCtxScrub s
  | .eclkTick => Sys2Proof.Machine.execEclkTick s
  | .spanRetire => Sys2Proof.Machine.execSpanRetire s
  | .setTime => Sys2Proof.Machine.execSetTime s
  | .realign => Sys2Proof.Machine.execRealign s
  | .clearWtr mask => Sys2Proof.Machine.execClearWtr mask s
  | .incrementCommit addr value => Sys2Proof.Machine.execIncrementCommit addr value s
  | .refLos k => Sys2Proof.Machine.execRefLos k s
  | .ppsInPulse m t => Sys2Proof.Machine.execPpsInPulse m t s
  | .freqMeasurement idx offset phasePs => Sys2Proof.Machine.execFreqMeasurement idx offset phasePs s
  | .wtrExpiry idx => Sys2Proof.Machine.execWtrExpiry idx s
  | .driftWindowEnd phasePs => Sys2Proof.Machine.execDriftWindowEnd phasePs s
  | .holdoverLimit => Sys2Proof.Machine.execHoldoverLimit s
  | .calendarCapture => Sys2Proof.Machine.execCalendarCapture s
  | .calendarSecond => Sys2Proof.Machine.execCalendarSecond s
  | .calOscFail => Sys2Proof.Machine.execCalOscFail s
  | .vbatLow => Sys2Proof.Machine.execVbatLow s
  | .txtsPop lane => Sys2Proof.Machine.execTxtsPop lane s
  | .tsyncSend => Sys2Proof.Machine.execTsyncSend s
  | .tsyncReceive => Sys2Proof.Machine.execTsyncReceive s
  | .tfollowReceive => Sys2Proof.Machine.execTfollowReceive s
  | .tdreqReceive => Sys2Proof.Machine.execTdreqReceive s
  | .tdrespReceive => Sys2Proof.Machine.execTdrespReceive s
  | .exchangeTimeout => Sys2Proof.Machine.execExchangeTimeout s
  | .masterSilence => Sys2Proof.Machine.execMasterSilence s
  | .actionDue => Sys2Proof.Machine.execActionDue s
  | .schInsert value => Sys2Proof.Machine.execSchInsert value s
  | .schCancel value => Sys2Proof.Machine.execSchCancel value s
  | .schDonePop => Sys2Proof.Machine.execSchDonePop s
  | .syncPin => Sys2Proof.Machine.execSyncPin s
  | .laneEnable l => Sys2Proof.Machine.execLaneEnable l s
  | .laneRestart l => Sys2Proof.Machine.execLaneRestart l s
  | .capabSend l => Sys2Proof.Machine.execCapabSend l s
  | .capabReceive l msg => Sys2Proof.Machine.execCapabReceive l msg s
  | .capabTimeout l => Sys2Proof.Machine.execCapabTimeout l s
  | .stepReq l target => Sys2Proof.Machine.execStepReq l target s
  | .stepSwitch l => Sys2Proof.Machine.execStepSwitch l s
  | .receiverLock l => Sys2Proof.Machine.execReceiverLock l s
  | .quietDone l => Sys2Proof.Machine.execQuietDone l s
  | .stepOk l step => Sys2Proof.Machine.execStepOk l step s
  | .stepTimeout l => Sys2Proof.Machine.execStepTimeout l s
  | .lockLossRetry l regained => Sys2Proof.Machine.execLockLossRetry l regained s
  | .blockLock l => Sys2Proof.Machine.execBlockLock l s
  | .blockLockLoss l => Sys2Proof.Machine.execBlockLockLoss l s
  | .fecCodeword l read => Sys2Proof.Machine.execFecCodeword l read s
  | .legacyLock l => Sys2Proof.Machine.execLegacyLock l s
  | .legacyLockLoss l => Sys2Proof.Machine.execLegacyLockLoss l s
  | .laneFrameReceive l frame => Sys2Proof.Machine.execLaneFrameReceive l frame s
  | .commaSend l => Sys2Proof.Machine.execCommaSend l s
  | .commaReceive l block => Sys2Proof.Machine.execCommaReceive l block s
  | .losAssert l => Sys2Proof.Machine.execLosAssert l s
  | .losClear l => Sys2Proof.Machine.execLosClear l s
  | .lolAssert l => Sys2Proof.Machine.execLolAssert l s
  | .laneWarmTrain l => Sys2Proof.Machine.execLaneWarmTrain l s
  | .laneWarmTrainDone l => Sys2Proof.Machine.execLaneWarmTrainDone l s
  | .swapNow l => Sys2Proof.Machine.execSwapNow l s
  | .spareReq l msg => Sys2Proof.Machine.execSpareReq l msg s
  | .swapVerified l clean => Sys2Proof.Machine.execSwapVerified l clean s
  | .switched l msg => Sys2Proof.Machine.execSwitched l msg s
  | .releaseCommand l => Sys2Proof.Machine.execReleaseCommand l s
  | .release l msg => Sys2Proof.Machine.execRelease l msg s
  | .ethLinkUp l => Sys2Proof.Machine.execEthLinkUp l s
  | .ethFrameReceive l => Sys2Proof.Machine.execEthFrameReceive l s
  | .ethCoeffRequest l coef up => Sys2Proof.Machine.execEthCoeffRequest l coef up s
  | .fabricEnable => Sys2Proof.Machine.execFabricEnable s
  | .gensyFrameReceive l => Sys2Proof.Machine.execGensyFrameReceive l s
  | .gensyFrameSend l => Sys2Proof.Machine.execGensyFrameSend l s
  | .helloSend l => Sys2Proof.Machine.execHelloSend l s
  | .helloReceive l => Sys2Proof.Machine.execHelloReceive l s
  | .helloTimeout l => Sys2Proof.Machine.execHelloTimeout l s
  | .creditSend l => Sys2Proof.Machine.execCreditSend l s
  | .creditReceive l => Sys2Proof.Machine.execCreditReceive l s
  | .reachSend => Sys2Proof.Machine.execReachSend s
  | .reachReceive l => Sys2Proof.Machine.execReachReceive l s
  | .partitionDecision => Sys2Proof.Machine.execPartitionDecision s
  | .rejoinRetry node => Sys2Proof.Machine.execRejoinRetry node s
  | .rejoinReceive => Sys2Proof.Machine.execRejoinReceive s
  | .rejoinApply => Sys2Proof.Machine.execRejoinApply s
  | .ack => Sys2Proof.Machine.execAck s
  | .mreadRequest value => Sys2Proof.Machine.execMreadRequest value s
  | .mread => Sys2Proof.Machine.execMread s
  | .mresp => Sys2Proof.Machine.execMresp s
  | .mreadTimeout => Sys2Proof.Machine.execMreadTimeout s
  | .seed l => Sys2Proof.Machine.execSeed l s
  | .seedAck l => Sys2Proof.Machine.execSeedAck l s
  | .seedAckSend => Sys2Proof.Machine.execSeedAckSend s
  | .seedResend l => Sys2Proof.Machine.execSeedResend l s
  | .seedStop l => Sys2Proof.Machine.execSeedStop l s
  | .seedRetry l => Sys2Proof.Machine.execSeedRetry l s
  | .dramRequest addr access => Sys2Proof.Machine.execDramRequest addr access s
  | .refreshDue pc => Sys2Proof.Machine.execRefreshDue pc s
  | .refreshIssue pc => Sys2Proof.Machine.execRefreshIssue pc s
  | .stackTempRead n tempC => Sys2Proof.Machine.execStackTempRead n tempC s
  | .rowIdlePrecharge pc bank => Sys2Proof.Machine.execRowIdlePrecharge pc bank s
  | .trainingStepDone pc result => Sys2Proof.Machine.execTrainingStepDone pc result s
  | .dmcWarmTrain => Sys2Proof.Machine.execDmcWarmTrain s
  | .dmcWarmTrainDone => Sys2Proof.Machine.execDmcWarmTrainDone s
  | .selfRefreshEntry => Sys2Proof.Machine.execSelfRefreshEntry s
  | .retirePlanned pc => Sys2Proof.Machine.execRetirePlanned pc s
  | .retireCopyDone pc => Sys2Proof.Machine.execRetireCopyDone pc s
  | .retireSudden pc => Sys2Proof.Machine.execRetireSudden pc s
  | .dmwAccess offset write => Sys2Proof.Machine.execDmwAccess offset write s
  | .matrixRequest idx id addr write beats => Sys2Proof.Machine.execMatrixRequest idx id addr write beats s
  | .matrixResponse idx id => Sys2Proof.Machine.execMatrixResponse idx id s
  | .unitReset u => Sys2Proof.Machine.execUnitReset u s
  | .unitResetRelease u => Sys2Proof.Machine.execUnitResetRelease u s
  | .quiesced idx => Sys2Proof.Machine.execQuiesced idx s
  | .quiesceTimeout idx => Sys2Proof.Machine.execQuiesceTimeout idx s
  | .bridgeAccess idx addr write allStrobes => Sys2Proof.Machine.execBridgeAccess idx addr write allStrobes s
  | .regClkOff idx addr => Sys2Proof.Machine.execRegClkOff idx addr s
  | .pulseCrossing inst => Sys2Proof.Machine.execPulseCrossing inst s
  | .peerResetSeen k inst => Sys2Proof.Machine.execPeerResetSeen k inst s
  | .peerReadySeen k inst => Sys2Proof.Machine.execPeerReadySeen k inst s
  | .enec events => Sys2Proof.Machine.execEnec events s
  | .disec events => Sys2Proof.Machine.execDisec events s
  | .entas n => Sys2Proof.Machine.execEntas n s
  | .rstdaa => Sys2Proof.Machine.execRstdaa s
  | .entdaa da => Sys2Proof.Machine.execEntdaa da s
  | .setmwl len => Sys2Proof.Machine.execSetmwl len s
  | .setmrl len ibi => Sys2Proof.Machine.execSetmrl len ibi s
  | .enthdr0 => Sys2Proof.Machine.execEnthdr0 s
  | .enthdrOther => Sys2Proof.Machine.execEnthdrOther s
  | .hdrExit => Sys2Proof.Machine.execHdrExit s
  | .rstact defByte => Sys2Proof.Machine.execRstact defByte s
  | .setdasa static da => Sys2Proof.Machine.execSetdasa static da s
  | .setnewda da => Sys2Proof.Machine.execSetnewda da s
  | .getmwl => Sys2Proof.Machine.execGetmwl s
  | .getmrl => Sys2Proof.Machine.execGetmrl s
  | .getpid => Sys2Proof.Machine.execGetpid s
  | .getbcr => Sys2Proof.Machine.execGetbcr s
  | .getdcr => Sys2Proof.Machine.execGetdcr s
  | .getstatus => Sys2Proof.Machine.execGetstatus s
  | .getmxds => Sys2Proof.Machine.execGetmxds s
  | .getcaps => Sys2Proof.Machine.execGetcaps s
  | .unsupportedCcc code => Sys2Proof.Machine.execUnsupportedCcc code s
  | .targetResetPattern => Sys2Proof.Machine.execTargetResetPattern s
  | .sdrWrite bytes badParity => Sys2Proof.Machine.execSdrWrite bytes badParity s
  | .sdrRead len => Sys2Proof.Machine.execSdrRead len s
  | .regWrite bytes crcOk => Sys2Proof.Machine.execRegWrite bytes crcOk s
  | .setAddr bytes => Sys2Proof.Machine.execSetAddr bytes s
  | .regRead len => Sys2Proof.Machine.execRegRead len s
  | .readFetchDone => Sys2Proof.Machine.execReadFetchDone s
  | .postedWrite => Sys2Proof.Machine.execPostedWrite s
  | .hotJoinRequest => Sys2Proof.Machine.execHotJoinRequest s
  | .ibiRequest => Sys2Proof.Machine.execIbiRequest s
  | .ibiAck => Sys2Proof.Machine.execIbiAck s
  | .imgLoad => Sys2Proof.Machine.execImgLoad s
  | .imgStage => Sys2Proof.Machine.execImgStage s
  | .imgReload restart mask => Sys2Proof.Machine.execImgReload restart mask s
  | .imgAbort => Sys2Proof.Machine.execImgAbort s
  | .imgSproutRom => Sys2Proof.Machine.execImgSproutRom s
  | .imgSproutApplied => Sys2Proof.Machine.execImgSproutApplied s
  | .imgWinWrite value => Sys2Proof.Machine.execImgWinWrite value s
  | .imageCheckDone => Sys2Proof.Machine.execImageCheckDone s
  | .reloadStopDone => Sys2Proof.Machine.execReloadStopDone s
  | .reloadStopTimeout => Sys2Proof.Machine.execReloadStopTimeout s
  | .scrubPass => Sys2Proof.Machine.execScrubPass s
  | .selfTestStageDone stage result => Sys2Proof.Machine.execSelfTestStageDone stage result s
  | .parityError site inst info => Sys2Proof.Machine.execParityError site inst info s
  | .eccError store index syndrome correctable => Sys2Proof.Machine.execEccError store index syndrome correctable s
  | .errorLogPop => Sys2Proof.Machine.execErrorLogPop s
  | .clearLps => Sys2Proof.Machine.execClearLps s
  | .clearFab => Sys2Proof.Machine.execClearFab s
  | .pwrStandby => Sys2Proof.Machine.execPwrStandby s
  | .pwrRetain => Sys2Proof.Machine.execPwrRetain s
  | .pwrReady => Sys2Proof.Machine.execPwrReady s
  | .pwrRun => Sys2Proof.Machine.execPwrRun s
  | .drainComplete => Sys2Proof.Machine.execDrainComplete s
  | .drainTimeout => Sys2Proof.Machine.execDrainTimeout s
  | .retainEntryDone => Sys2Proof.Machine.execRetainEntryDone s
  | .retainExit slow => Sys2Proof.Machine.execRetainExit slow s
  | .pllLock => Sys2Proof.Machine.execPllLock s
  | .standbyReadyDone after400ms => Sys2Proof.Machine.execStandbyReadyDone after400ms s
  | .thermalReading quarters => Sys2Proof.Machine.execThermalReading quarters s
  | .thermalTrip => Sys2Proof.Machine.execThermalTrip s
  | .resetAssert widthNs => Sys2Proof.Machine.execResetAssert widthNs s
  | .resetRelease addrSel bootSrc => Sys2Proof.Machine.execResetRelease addrSel bootSrc s
  | .vddIoSwitchover fromVbat => Sys2Proof.Machine.execVddIoSwitchover fromVbat s
  | .tapReset => Sys2Proof.Machine.execTapReset s
  | .tapInstruction ins => Sys2Proof.Machine.execTapInstruction ins s
  | .pmcSnap => Sys2Proof.Machine.execPmcSnap s
  | .pmcFreeze => Sys2Proof.Machine.execPmcFreeze s
  | .pmcThaw => Sys2Proof.Machine.execPmcThaw s
  | .pipTrigger => Sys2Proof.Machine.execPipTrigger s
  | .pipConfigWrite addr value => Sys2Proof.Machine.execPipConfigWrite addr value s
  | .pipRecordCollect => Sys2Proof.Machine.execPipRecordCollect s
  | .pipPop => Sys2Proof.Machine.execPipPop s
  | .sproutPatternSample e => Sys2Proof.Machine.execSproutPatternSample e s
  | .mainSupplyLoss => Sys2Proof.Machine.execMainSupplyLoss s
  | .ethLinkDown l => Sys2Proof.Machine.execEthLinkDown l s
  | .commandAddressParityError pc second => Sys2Proof.Machine.execCommandAddressParityError pc second s
  | .calOscRestore => Sys2Proof.Machine.execCalOscRestore s
  | .newSeedAccept => Sys2Proof.Machine.execNewSeedAccept s

end Sys2Proof.Machine
end

