-- ==== Sys2Proof/WellFormed.lean ====
section
/-! DEFINITION. Which commands are well formed: every operand in the range the spec gives it. A meaning refuses exactly the
others, under the name illFormed. -/

namespace Sys2Proof

open Sys2Proof.Machine

/-- Every operand lies in the range its rule gives. -/
def Instr.wf : Instr → Bool
  | .registerWrite addr _ => decide (addr < 2 ^ 32)
  | .lowWordRead addr _ => !(upperWords (addr / 4 * 4)).isEmpty
  | .ingestFrame lane => decide (lane < 96)
  | .syncEvent => true
  | .fchEnable e => decide (e < 16)
  | .fchSlotEnable e slot => decide (e < 16) && decide (slot < 16)
  | .fchGdataWrite e _ => decide (e < 16)
  | .fchGdataRead e => decide (e < 16)
  | .gainSwapArm e _ => decide (e < 16)
  | .hullEnable => true
  | .hullStreamEnable st => decide (st < 4)
  | .spectrumFrameToHull e => decide (e < 16)
  | .hullAnchorTag => true
  | .hullDataFrame => true
  | .entryClose src tb => decide (src < 256) && decide (tb < 2 ^ 44)
  | .stagingStart => true
  | .stagingDone => true
  | .nop p => decide (p < 64)
  | .ldi p => decide (p < 64)
  | .addi p => decide (p < 64)
  | .bnz p => decide (p < 64)
  | .jmp p => decide (p < 64)
  | .loop p => decide (p < 64)
  | .pdesc p => decide (p < 64)
  | .openPorts p => decide (p < 64)
  | .portStart port => decide (port < 16)
  | .sel p => decide (p < 64)
  | .mac p => decide (p < 64)
  | .bmac p => decide (p < 64)
  | .wld p => decide (p < 64)
  | .wldComplete p => decide (p < 64)
  | .wswap p => decide (p < 64)
  | .winit p => decide (p < 64)
  | .winitComplete p => decide (p < 64)
  | .drain p => decide (p < 64)
  | .bankSwap p => decide (p < 64)
  | .drainEnd p => decide (p < 64)
  | .bar p => decide (p < 64)
  | .barComplete part => decide (part < 8)
  | .nextpg p => decide (p < 64)
  | .nextpgComplete part st => decide (part < 8) && decide (st < 4)
  | .passGroupTake part st => decide (part < 8) && decide (st < 4)
  | .rdpmc p => decide (p < 64)
  | .fence p => decide (p < 64)
  | .halt p => decide (p < 64)
  | .podRunStart p => decide (p < 64)
  | .podRunStop p => decide (p < 64)
  | .steerRequest p col => decide (p < 64) && decide (col < 64)
  | .cellParityError p col _ => decide (p < 64) && decide (col < 33)
  | .steerReloadDone p => decide (p < 64)
  | .huskStepAccept n => decide (n < 8)
  | .drainApply n => decide (n < 8)
  | .dumpEnd c => decide (c < 4096)
  | .packetSend c => decide (c < 4096)
  | .ctxStart c => decide (c < 4096)
  | .ctxStop c => decide (c < 4096)
  | .ctxValidWrite c _ => decide (c < 4096)
  | .weightFillDone c => decide (c < 4096)
  | .drainingDone c => decide (c < 4096)
  | .autoRestart c => decide (c < 4096)
  | .ctxScrub => true
  | .eclkTick => true
  | .spanRetire => true
  | .setTime => true
  | .realign => true
  | .clearWtr _ => true
  | .incrementCommit addr _ => !(commitLows (addr / 4 * 4)).isEmpty
  | .refLos i => decide (i < 7)
  | .ppsInPulse m _ => decide (m < 2)
  | .freqMeasurement i _ _ => decide (i < 7)
  | .wtrExpiry i => decide (i < 7)
  | .driftWindowEnd _ => true
  | .holdoverLimit => true
  | .calendarCapture => true
  | .calendarSecond => true
  | .calOscFail => true
  | .vbatLow => true
  | .txtsPop lane => decide (lane < 96)
  | .tsyncSend => true
  | .tsyncReceive => true
  | .tfollowReceive => true
  | .tdreqReceive => true
  | .tdrespReceive => true
  | .exchangeTimeout => true
  | .masterSilence => true
  | .actionDue => true
  | .schInsert _ => true
  | .schCancel _ => true
  | .schDonePop => true
  | .syncPin => true
  | .laneEnable l => decide (l < 96)
  | .laneRestart l => decide (l < 96)
  | .capabSend l => decide (l < 96)
  | .capabReceive l msg => decide (l < 96) && decide (msg.length = 7)
  | .capabTimeout l => decide (l < 96)
  | .stepReq l target => decide (l < 96) && decide (target < 8)
  | .stepSwitch l => decide (l < 96)
  | .receiverLock l => decide (l < 96)
  | .quietDone l => decide (l < 96)
  | .stepOk l step => decide (l < 96) && decide (step < 8)
  | .stepTimeout l => decide (l < 96)
  | .lockLossRetry l _ => decide (l < 96)
  | .blockLock l => decide (l < 96)
  | .blockLockLoss l => decide (l < 96)
  | .fecCodeword l read => decide (l < 96) && fecReadOk read
  | .legacyLock l => decide (l < 96)
  | .legacyLockLoss l => decide (l < 96)
  | .laneFrameReceive l frame => decide (l < 96) && frame.blocks.all fun b => blockOk true b || blockOk false b
  | .commaSend l => decide (l < 96)
  | .commaReceive l block => decide (l < 96) && blockOk true block
  | .losAssert l => decide (l < 96)
  | .losClear l => decide (l < 96)
  | .lolAssert l => decide (l < 96)
  | .laneWarmTrain l => decide (l < 96)
  | .laneWarmTrainDone l => decide (l < 96)
  | .swapNow l => decide (l < 96)
  | .spareReq l msg => decide (l < 96) && decide (msg.length = 7)
  | .swapVerified l _ => decide (l < 96)
  | .switched l msg => decide (l < 96) && decide (msg.length = 7)
  | .releaseCommand l => decide (l < 96)
  | .release l msg => decide (l < 96) && decide (msg.length = 7)
  | .ethLinkUp l => decide (l < 96)
  | .ethFrameReceive l => decide (l < 96)
  | .ethCoeffRequest l coef _ => decide (l < 96) && decide (coef < 5)
  | .fabricEnable => true
  | .gensyFrameReceive l => decide (l < 96)
  | .gensyFrameSend l => decide (l < 96)
  | .helloSend l => decide (l < 96)
  | .helloReceive l => decide (l < 96)
  | .helloTimeout l => decide (l < 96)
  | .creditSend l => decide (l < 96)
  | .creditReceive l => decide (l < 96)
  | .reachSend => true
  | .reachReceive l => decide (l < 96)
  | .partitionDecision => true
  | .rejoinRetry node => decide (node < 4096)
  | .rejoinReceive => true
  | .rejoinApply => true
  | .ack => true
  | .mreadRequest _ => true
  | .mread => true
  | .mresp => true
  | .mreadTimeout => true
  | .seed l => decide (l < 96)
  | .seedAck l => decide (l < 96)
  | .seedAckSend => true
  | .seedResend l => decide (l < 96)
  | .seedStop l => decide (l < 96)
  | .seedRetry l => decide (l < 96)
  | .dramRequest addr access => decide (addr % 64 = 0) && decide (addr < 2 ^ 38) && access.write.all lineWriteOk && access.severe.all (· < 2)
  | .refreshDue pc => decide (pc < 192)
  | .refreshIssue pc => decide (pc < 192)
  | .stackTempRead n tenths => decide (n < 6) && decide (-1280 ≤ tenths) && decide (tenths ≤ 1279)
  | .rowIdlePrecharge pc bank => decide (pc < 192) && decide (bank < 48)
  | .trainingStepDone pc result => decide (pc < 192) && decide (result.step < 4)
  | .dmcWarmTrain => true
  | .dmcWarmTrainDone => true
  | .selfRefreshEntry => true
  | .retirePlanned pc => decide (pc < 192)
  | .retireCopyDone pc => decide (pc < 192)
  | .retireSudden pc => decide (pc < 192)
  | .dmwAccess offset _ => decide (offset < 2 ^ 28)
  | .matrixRequest i id addr write beats => matrixOk i id addr write beats
  | .matrixResponse i id => decide (i < 24) && decide (id < 32)
  | .unitReset u => decide (u < 23)
  | .unitResetRelease u => decide (u < 23)
  | .quiesced i => decide (i < 24)
  | .quiesceTimeout i => decide (i < 24)
  | .bridgeAccess i addr _ _ => decide (i < 24) && mayAddress i 26 && decide (addr < 2 ^ 28)
  | .regClkOff i addr => decide (i < 24) && decide (addr < 2 ^ 28)
  | .pulseCrossing inst => decide (inst < 4)
  | .peerResetSeen k inst => decide (k < 14) && decide (inst < xInstances k)
  | .peerReadySeen k inst => decide (k < 14) && decide (inst < xInstances k)
  | .enec events => decide (events < 256)
  | .disec events => decide (events < 256)
  | .entas n => decide (n < 4)
  | .rstdaa => true
  | .entdaa da => decide (da < 128)
  | .setmwl len => decide (len < 65536)
  | .setmrl len ibi => decide (len < 65536) && decide (ibi < 256)
  | .enthdr0 => true
  | .enthdrOther => true
  | .hdrExit => true
  | .rstact defByte => decide (defByte < 256)
  | .setdasa _ da => decide (da < 128)
  | .setnewda da => decide (da < 128)
  | .getmwl => true
  | .getmrl => true
  | .getpid => true
  | .getbcr => true
  | .getdcr => true
  | .getstatus => true
  | .getmxds => true
  | .getcaps => true
  | .unsupportedCcc code => decide (code < 256)
  | .targetResetPattern => true
  | .sdrWrite _ _ => true
  | .sdrRead len => decide (len ≠ 0)
  | .regWrite bytes _ => decide (bytes.length % 2 = 0)
  | .setAddr bytes => decide (bytes.length % 2 = 0) && decide (bytes.length ≤ 4)
  | .regRead len => decide (len ≠ 0) && decide (len % 2 = 0)
  | .readFetchDone => true
  | .postedWrite => true
  | .hotJoinRequest => true
  | .ibiRequest => true
  | .ibiAck => true
  | .imgLoad => true
  | .imgStage => true
  | .imgReload _ mask => decide (mask < 1024)
  | .imgAbort => true
  | .imgSproutRom => true
  | .imgSproutApplied => true
  | .imgWinWrite _ => true
  | .imageCheckDone => true
  | .reloadStopDone => true
  | .reloadStopTimeout => true
  | .scrubPass => true
  | .selfTestStageDone stage r => decide (stage < 6) && r.columns.all fun e => decide (e.1 < 64) && decide (e.2 < 33)
  | .parityError site inst info => decide (site ≠ 0) && decide (site ≤ 13) && decide (inst < siteInstances site) && decide (info < 2 ^ 32)
  | .eccError store index syndrome _ => decide (store ≠ 0) && decide (store ≤ 7) && decide (index < storeSize store) && decide (syndrome < 2 ^ 32)
  | .errorLogPop => true
  | .clearLps => true
  | .clearFab => true
  | .pwrStandby => true
  | .pwrRetain => true
  | .pwrReady => true
  | .pwrRun => true
  | .drainComplete => true
  | .drainTimeout => true
  | .retainEntryDone => true
  | .retainExit _ => true
  | .pllLock => true
  | .standbyReadyDone _ => true
  | .thermalReading quarters => decide (quarters.length = 16) && quarters.all fun x => decide (-512 ≤ x) && decide (x ≤ 511)
  | .thermalTrip => true
  | .resetAssert _ => true
  | .resetRelease addrSel bootSrc => decide (addrSel < 8) && decide (bootSrc < 4)
  | .vddIoSwitchover _ => true
  | .tapReset => true
  | .tapInstruction _ => true
  | .pmcSnap => true
  | .pmcFreeze => true
  | .pmcThaw => true
  | .pipTrigger => true
  | .pipConfigWrite addr _ => isPipConfig (addr / 4 * 4)
  | .pipRecordCollect => true
  | .pipPop => true
  | .sproutPatternSample e => decide (e < 16)
  | .mainSupplyLoss => true
  | .ethLinkDown l => decide (l < 96)
  | .commandAddressParityError pc _ => decide (pc < 192)
  | .calOscRestore => true
  | .newSeedAccept => true

end Sys2Proof
end

