-- ==== Sys2Proof/Safety.lean ====
section
/-! DEFINITION. What counts as a safe run, in the terms the statements use: the stores' canonical forms, the invariant of the
steps, and what it means that a command gives a result. -/

namespace Sys2Proof.Machine

/-- The byte memories and the register table are canonical: rising addresses, no entry equal to what an unlisted one reads as.
In order: registers, HBM and its parity, operand stage, weight stores, egress buffer, gain words. -/
def Memory.wf (s : State) : Bool :=
  twf regReset s.regs && twf (fun _ => 0) s.hbm && twf (fun _ => 0) s.hbmBad && twf (fun _ => 0) s.hull.stage &&
    twf (fun _ => 0) s.array.store && twf (fun _ => 0) s.mtx.egress && twf (fun _ => 0x4000#32) s.fch.gain

/-- Supplies, reset and the transition in progress agree: a part without supplies is in reset, a part in reset is in no
transition. -/
def State.powerOk (s : State) : Prop :=
  (s.pwr.off = true → s.pwr.inReset = true) ∧ (s.pwr.inReset = true → s.pwr.phase = .none)

/-- The invariant that every step keeps. -/
structure State.Inv (s : State) : Prop where
  memory : Memory.wf s = true
  power : s.powerOk

/-- The parts of the state, the byte memories beside the units that hold them; the queue is apart. -/
inductive Part
  | regs | shadow | shadowFab | hbm | hbmBad | fresh | time | wireOut | fch | gain | hull | stage | array | store | husk | ctxs
  | tim | ln | fab | dmc | mtx | egress | img | i3c | erl | pwr | cnt
  deriving DecidableEq, Repr

/-- Part p holds the same in both states. -/
def State.same (p : Part) (s t : State) : Prop :=
  match p with
  | .regs => t.regs = s.regs
  | .shadow => t.shadow = s.shadow
  | .shadowFab => t.shadowFab = s.shadowFab
  | .hbm => t.hbm = s.hbm
  | .hbmBad => t.hbmBad = s.hbmBad
  | .fresh => t.fresh = s.fresh
  | .time => t.time = s.time
  | .wireOut => t.wireOut = s.wireOut
  | .fch => t.fch = s.fch
  | .gain => t.fch.gain = s.fch.gain
  | .hull => t.hull = s.hull
  | .stage => t.hull.stage = s.hull.stage
  | .array => t.array = s.array
  | .store => t.array.store = s.array.store
  | .husk => t.husk = s.husk
  | .ctxs => t.ctxs = s.ctxs
  | .tim => t.tim = s.tim
  | .ln => t.ln = s.ln
  | .fab => t.fab = s.fab
  | .dmc => t.dmc = s.dmc
  | .mtx => t.mtx = s.mtx
  | .egress => t.mtx.egress = s.mtx.egress
  | .img => t.img = s.img
  | .i3c => t.i3c = s.i3c
  | .erl => t.erl = s.erl
  | .pwr => t.pwr = s.pwr
  | .cnt => t.cnt = s.cnt

/-- The parts of the state that a command may change (derived: the model's own upper bound, from its rules' effects). -/
def mayTouch : Instr → List Part
  | .registerWrite _ _ | .postedWrite | .pllLock
    => [.regs, .shadowFab, .hbm, .hbmBad, .fresh, .wireOut, .fch, .gain, .hull, .array, .husk, .ctxs, .tim, .ln, .fab,
      .dmc, .mtx, .img, .i3c, .erl, .pwr, .cnt]
  | .lowWordRead _ _
    => [.shadow, .shadowFab]
  | .ingestFrame _
    => [.regs, .fresh, .fch, .ln, .erl]
  | .syncEvent
    => [.regs, .fch, .hull, .mtx, .img]
  | .fchEnable _ | .fchSlotEnable _ _ | .sproutPatternSample _
    => [.regs, .fch, .img, .erl]
  | .gainSwapArm _ _
    => [.regs, .fch, .erl]
  | .fchGdataWrite _ _
    => [.regs, .fch, .gain, .erl]
  | .fchGdataRead _ | .holdoverLimit | .calOscFail | .losClear _ | .ethLinkUp _ | .ethFrameReceive _ | .mreadTimeout
  | .quiesced _ | .ethLinkDown _ | .wtrExpiry _
    => [.regs]
  | .vbatLow | .standbyReadyDone _ | .thermalReading _ | .thermalTrip
    => [.regs, .pwr]
  | .calendarSecond | .calOscRestore | .refLos _ | .ppsInPulse _ _ | .freqMeasurement _ _ _ | .tfollowReceive
  | .tdrespReceive | .exchangeTimeout | .masterSilence
    => [.regs, .tim]
  | .hullEnable
    => [.regs, .img, .erl]
  | .ctxValidWrite _ _ | .dmcWarmTrain | .unitResetRelease _ | .regClkOff _ _ | .clearLps | .clearFab | .pmcThaw
  | .clearWtr _
    => [.regs, .erl]
  | .scrubPass
    => [.regs, .hull, .erl]
  | .hullStreamEnable _
    => [.regs, .hull, .array, .img, .erl]
  | .spectrumFrameToHull _
    => [.regs, .hbm, .hbmBad, .fch, .hull, .dmc, .mtx, .egress, .erl]
  | .hullAnchorTag | .entryClose _ _
    => [.hull]
  | .hullDataFrame
    => [.regs, .hbm, .hbmBad, .hull, .dmc, .erl]
  | .stagingStart
    => [.regs, .hull, .stage, .dmc, .erl]
  | .stagingDone
    => [.regs, .hull]
  | .nop _ | .ldi _ | .addi _ | .bnz _ | .jmp _ | .loop _ | .pdesc _ | .openPorts _ | .portStart _ | .sel _ | .mac _
  | .bmac _ | .wld _ | .wswap _ | .winit _ | .drain _ | .bankSwap _ | .bar _ | .barComplete _ | .nextpg _ | .rdpmc _
  | .fence _ | .halt _ | .steerRequest _ _ | .cellParityError _ _ _ | .drainingDone _ | .ctxScrub | .imgReload _ _
  | .ctxStop _ | .selfTestStageDone _ _
    => [.regs, .fresh, .array, .husk, .ctxs, .img, .erl]
  | .eccError _ _ _ _ | .passGroupTake _ _
    => [.regs, .fresh, .hull, .array, .husk, .ctxs, .img, .erl]
  | .wldComplete _ | .winitComplete _
    => [.regs, .fresh, .array]
  | .drainEnd _
    => [.regs, .fresh, .array, .husk]
  | .nextpgComplete _ _
    => [.hull, .array]
  | .podRunStart _ | .pipConfigWrite _ _
    => [.regs, .array, .erl]
  | .podRunStop _
    => [.regs, .fresh, .array, .erl]
  | .steerReloadDone _
    => [.array]
  | .huskStepAccept _
    => [.regs, .array, .husk]
  | .drainApply _ | .dumpEnd _
    => [.regs, .hbm, .hbmBad, .husk, .ctxs, .dmc, .erl]
  | .packetSend _
    => [.regs, .hbm, .hbmBad, .fresh, .wireOut, .husk, .ctxs, .tim, .fab, .dmc, .mtx, .egress, .erl]
  | .ctxStart _ | .autoRestart _
    => [.regs, .ctxs]
  | .weightFillDone _
    => [.regs, .array, .store, .ctxs, .dmc, .erl]
  | .eclkTick
    => [.regs, .shadow, .shadowFab, .hbm, .hbmBad, .fresh, .time, .wireOut, .fch, .gain, .hull, .stage, .array, .husk,
      .ctxs, .tim, .ln, .fab, .dmc, .mtx, .egress, .img, .i3c, .erl, .pwr, .cnt]
  | .spanRetire
    => [.erl]
  | .setTime | .realign | .incrementCommit _ _ | .calendarCapture | .schCancel _
    => [.regs, .tim, .erl]
  | .driftWindowEnd _ | .schDonePop
    => [.tim]
  | .txtsPop _
    => [.shadow, .tim]
  | .tsyncSend | .tsyncReceive | .tdreqReceive
    => [.regs, .tim, .fab]
  | .actionDue
    => [.regs, .ctxs, .tim, .mtx]
  | .schInsert _
    => [.regs, .fresh, .tim, .erl]
  | .syncPin
    => [.regs, .tim, .mtx]
  | .laneEnable _
    => [.regs, .fresh, .wireOut, .hull, .ln, .fab, .img, .erl]
  | .laneRestart _ | .capabTimeout _ | .lockLossRetry _ _ | .releaseCommand _ | .helloTimeout _ | .imgSproutApplied
  | .blockLockLoss _ | .fecCodeword _ _ | .legacyLockLoss _ | .losAssert _ | .lolAssert _ | .spareReq _ _
    => [.regs, .fresh, .wireOut, .hull, .ln, .fab, .erl]
  | .capabSend _ | .capabReceive _ _ | .quietDone _ | .stepOk _ _
    => [.regs, .fresh, .wireOut, .ln]
  | .stepReq _ _ | .ethCoeffRequest _ _ _
    => [.ln]
  | .stepSwitch _ | .receiverLock _ | .stepTimeout _ | .blockLock _ | .legacyLock _ | .swapVerified _ _
    => [.regs, .ln]
  | .laneFrameReceive _ _ | .commaReceive _ _
    => [.regs, .fresh, .wireOut, .ln, .erl]
  | .laneWarmTrainDone _
    => [.regs, .fresh, .ln]
  | .commaSend _
    => [.wireOut, .ln]
  | .laneWarmTrain _ | .swapNow _ | .switched _ _ | .release _ _
    => [.regs, .wireOut, .ln, .erl]
  | .fabricEnable
    => [.regs, .hull, .fab, .img, .erl]
  | .gensyFrameReceive _
    => [.regs, .hull, .ctxs, .tim, .ln, .fab]
  | .gensyFrameSend _
    => [.regs, .fresh, .wireOut, .hull, .husk, .tim, .ln, .fab, .erl]
  | .helloSend _ | .creditSend _ | .creditReceive _ | .ack | .seedAckSend | .seedStop _
    => [.fab]
  | .helloReceive _
    => [.regs, .hull, .fab, .dmc, .erl]
  | .reachSend | .partitionDecision | .rejoinRetry _ | .rejoinReceive | .rejoinApply | .mresp
    => [.regs, .fab]
  | .reachReceive _
    => [.regs, .hull, .fab]
  | .mreadRequest _
    => [.regs, .fab, .erl]
  | .mread
    => [.regs, .shadowFab, .fab]
  | .seed _ | .imgWinWrite _
    => [.regs, .hbm, .hbmBad, .fab, .dmc, .img, .erl]
  | .seedAck _ | .seedResend _ | .seedRetry _
    => [.regs, .fab, .dmc, .erl]
  | .dramRequest _ _
    => [.regs, .hbm, .hbmBad, .fresh, .wireOut, .dmc, .erl]
  | .refreshDue _ | .selfRefreshEntry | .stackTempRead _ _ | .dmcWarmTrainDone
    => [.regs, .dmc]
  | .refreshIssue _
    => [.regs, .fresh, .dmc]
  | .rowIdlePrecharge _ _
    => [.dmc]
  | .trainingStepDone _ _
    => [.regs, .hbm, .hbmBad, .dmc, .img, .erl]
  | .retirePlanned _ | .retireSudden _ | .commandAddressParityError _ _
    => [.regs, .dmc, .erl]
  | .retireCopyDone _
    => [.regs, .hbm, .hbmBad, .dmc, .erl]
  | .dmwAccess _ _
    => [.regs, .hbm, .hbmBad, .wireOut, .dmc, .erl]
  | .matrixRequest _ _ _ _ _
    => [.regs, .shadow, .shadowFab, .hbm, .hbmBad, .fresh, .wireOut, .fch, .gain, .hull, .stage, .array, .husk, .ctxs,
      .tim, .ln, .fab, .dmc, .mtx, .egress, .img, .i3c, .erl, .pwr, .cnt]
  | .matrixResponse _ _
    => [.regs, .wireOut, .mtx, .erl]
  | .unitReset _
    => [.regs, .shadowFab, .fch, .hull, .array, .husk, .ctxs, .ln, .fab, .mtx, .erl]
  | .quiesceTimeout _
    => [.regs, .mtx]
  | .bridgeAccess _ _ _ _
    => [.regs, .shadow, .shadowFab, .hbm, .hbmBad, .fresh, .wireOut, .fch, .gain, .hull, .array, .husk, .ctxs, .tim,
      .ln, .fab, .dmc, .mtx, .img, .i3c, .erl, .pwr, .cnt]
  | .pulseCrossing _
    => [.regs, .fch, .hull, .mtx, .img, .cnt]
  | .peerResetSeen _ _
    => [.regs, .fch, .hull, .husk, .ctxs, .ln, .mtx]
  | .peerReadySeen _ _
    => [.mtx]
  | .enec _ | .disec _ | .entas _
    => [.i3c]
  | .enthdrOther | .rstdaa | .setmwl _ | .enthdr0 | .hdrExit | .targetResetPattern
    => [.regs, .i3c]
  | .entdaa _ | .setmrl _ _ | .rstact _ | .setdasa _ _ | .setnewda _ | .unsupportedCcc _ | .ibiAck
    => [.regs, .wireOut, .i3c]
  | .getmwl | .getmrl | .getpid | .getbcr | .getdcr | .getstatus | .getmxds | .getcaps | .hotJoinRequest | .ibiRequest
    => [.wireOut, .i3c]
  | .sdrWrite _ _ | .regWrite _ _ | .setAddr _
    => [.regs, .wireOut, .i3c, .erl]
  | .sdrRead _ | .regRead _
    => [.regs, .shadow, .fresh, .wireOut, .tim, .dmc, .i3c, .erl, .cnt]
  | .readFetchDone
    => [.regs, .shadow, .dmc, .i3c, .erl]
  | .imgLoad | .imgStage | .imgAbort
    => [.regs, .fab, .img]
  | .imgSproutRom | .imageCheckDone | .reloadStopDone
    => [.regs, .shadowFab, .hbm, .hbmBad, .fresh, .wireOut, .fch, .gain, .hull, .array, .husk, .ctxs, .tim, .ln, .fab,
      .dmc, .mtx, .img, .i3c, .erl, .cnt]
  | .reloadStopTimeout
    => [.regs, .ctxs, .img]
  | .parityError _ _ _
    => [.regs, .fresh, .fch, .hull, .array, .husk, .ctxs, .fab, .dmc, .img, .erl]
  | .errorLogPop
    => [.regs, .shadow]
  | .pwrStandby | .pwrRetain | .pwrReady | .pwrRun
    => [.regs, .hbm, .hbmBad, .fresh, .wireOut, .fch, .gain, .hull, .array, .husk, .ctxs, .tim, .ln, .fab, .dmc, .mtx,
      .img, .erl, .pwr]
  | .drainComplete | .drainTimeout
    => [.regs, .fresh, .array, .ctxs, .erl, .pwr]
  | .retainEntryDone
    => [.regs, .ctxs, .dmc, .erl, .pwr]
  | .retainExit _
    => [.regs, .fch, .hull, .dmc, .mtx, .img, .pwr]
  | .resetAssert _ | .mainSupplyLoss
    => [.regs, .shadow, .shadowFab, .hbm, .hbmBad, .fresh, .time, .wireOut, .fch, .gain, .hull, .stage, .array,
      .store, .husk, .ctxs, .tim, .ln, .fab, .dmc, .mtx, .egress, .img, .i3c, .erl, .pwr, .cnt]
  | .resetRelease _ _
    => [.regs, .shadow, .time, .erl, .pwr]
  | .vddIoSwitchover _
    => [.regs, .erl, .pwr]
  | .tapReset
    => [.pwr]
  | .tapInstruction _
    => [.fresh, .wireOut, .pwr]
  | .pmcSnap | .pmcFreeze
    => [.regs, .erl, .cnt]
  | .pipTrigger
    => [.regs, .array]
  | .pipRecordCollect
    => [.regs, .array, .cnt]
  | .pipPop
    => [.regs, .shadow, .cnt]
  | .newSeedAccept
    => [.regs, .img]

/-! ## Terms of the pod statements (R104, R105) -/

/-- The word after the one at the program counter: the next in order, or where a loop whose last word this is goes (R105). -/
def State.nextPc (s : State) (p : Nat) : Nat :=
  match (s.pod p).loop with
  | some (a, b, left) => if s.pc p = b then (if 1 < left then a else b + 1) else s.pc p + 1
  | none => s.pc p + 1

/-- Pod p of the grid is at issue in RUN with instruction word w, and a word of the memory follows it. -/
def State.atIssue (s : State) (p w : Nat) : Prop :=
  p < 64 ∧ s.isRun = true ∧ (s.pod p).seq = true ∧ s.pmWord p (s.pc p) = w ∧ s.nextPc p < 4096

/-- Pod p has gone on from s to t: its program counter has moved as the loop cache says and it waits for nothing. -/
def wentOn (s t : State) (p : Nat) : Prop := t.pc p = s.nextPc p ∧ (t.pod p).wait = 0 ∧ t.fget (POD_STATUS_Waiting p) = 0

/-- Every other pod, and every general register of pod p but r, holds what it held. -/
def podAlone (s t : State) (p r : Nat) : Prop :=
  (∀ q, q ≠ p → t.pod q = s.pod q) ∧
    ∀ q i, q < 64 → i < 8 → (q ≠ p ∨ i ≠ r) → t.greg q i = s.greg q i

/-- Pod p's program has faulted with this code: its sequencer has stopped on the faulting word (R106). -/
def podFaulted (s t : State) (p code : Nat) : Prop :=
  (t.pod p).seq = false ∧ t.fget (POD_STATUS_Fault p) = 1 ∧ t.fget (POD_STATUS_FaultCode p) = code ∧ t.pc p = s.pc p

/-- The product x · conj(y) of one frame of a correlation beat, where both samples are valid (R92). -/
def corrProduct (x y : Option (Int × Int)) : Option (Int × Int) :=
  match x, y with
  | some (a, b), some (c, d) => some (a * c + b * d, b * c - a * d)
  | _, _ => none

/-- The valid products that n frames give cell (r, c) in channel k: x from the row bus from frame tr on, y from the column bus from
frame tc on (R92). -/
def State.corrProducts (s : State) (ro co : OpenPort) (f tr tc n r c k : Nat) : List (Int × Int) :=
  (List.range n).filterMap fun q => corrProduct (s.portSample ro f (tr + q) r k) (s.portSample co f (tc + q) c k)

/-- The valid products of row r of a beam beat in channel k at frame t: the weights of the row times the column bus's samples
(R103). -/
def State.beamProducts (s : State) (w : WSet) (co : OpenPort) (f t r k : Nat) : List (Int × Int) :=
  (List.range 32).filterMap fun c => (s.portSample co f t c k).map fun x =>
    let v := tget (0, 0) w.w (4 * (32 * r + c) + k)
    (v.1 * x.1 - v.2 * x.2, v.1 * x.2 + v.2 * x.1)

/-- A cell after products: their sums over what it held, nothing where it was fresh, in 40 bits, and their count (R92 to R94). -/
def cellAfter (old : Cell) (ps : List (Int × Int)) : Cell :=
  let base : Int × Int × Nat := if old.fresh then (0, 0, 0) else (old.re, old.im, old.cnt)
  ⟨wrap40 (base.1 + (ps.map Prod.fst).sum), wrap40 (base.2.1 + (ps.map Prod.snd).sum), (base.2.2 + ps.length) % 2 ^ 17, false⟩

/-- What every decision for a drain d of context c rests on: the context runs or drains, the bank holds pass group g of its range and
of a window at or after K0eff that is not ahead of the one being applied, and no dump holds its buffer (R117, R121, R141). -/
def State.drainOf (s : State) (d : DrainRec) (c : Nat) (h : HuskCtx) (pg : PgId) (g : Nat) : Prop :=
  c < 4096 ∧ d.ctx = some c ∧ s.huskCtx c = some h ∧ (s.ctxState c = 3 ∨ s.ctxState c = 4) ∧ d.bank.pg = some pg ∧
    pg.g = s.ctxFirst c + g ∧ g < s.ctxGroups c ∧ h.k0 ≤ pg.k ∧ pg.k ≤ h.win ∧
    s.bufferBusy c h.run (h.integ (s.ctxP c) pg.k) = false

/-- The element in which a correlation drain's value of step k and logical column col lies; none where R119 discards it. -/
def State.corrElem (s : State) (c g : Nat) (ents : List Nat) (d : DrainRec) (k col : Nat) : Option Nat :=
  let e := ents.getD (k % d.slots / 4) 0
  let i := s.fget (HUSK_MAP_HI_RowOrBeamBase e) + (31 - k / d.slots)
  let j := s.fget (HUSK_MAP_LO_ColBaseOrFrameBase e) % 4096 + col
  if j < i ∨ s.ctxM c ≤ j ∨ s.ctxKind c = 1 ∧ i ≠ j then none
  else some ((g * s.ctxNx c + if s.ctxKind c = 1 then i else j * (j + 1) / 2 + i) * 4 + k % d.slots % 4)

/-- Draw number j of a drain's batch (R127). -/
def State.batchDraw (s : State) (lane window batch c j : Nat) : Nat := (List.range j).foldl (fun x _ => xorshift x) (s.batchSeed lane window batch c)

/-- Reads change neither the map of HBM nor a pseudo-channel's state: no retirement follows a parity error and none waits. -/
def State.mapStays (s : State) : Prop :=
  s.dmc.sudden = [] ∧ (s.flag DMC_CTRL_AutoRetire = false ∨
    s.hbmBad = [] ∧ s.dmc.wrong = [] ∧ s.dmc.cleanOf = [] ∧ s.dmc.sev = [])

/-- n bytes from a lie in the map, in pseudo-channels that are not FAILED and of which each stands in one slot. -/
def State.hbmHolds (s : State) (a n : Nat) : Prop :=
  (∀ i < n, s.hbmIn (a + i) = true ∧ s.pcFailed (s.hbmPc (a + i)) = false) ∧
    ∀ i j, i < s.nActive → j < s.nActive → s.fget (DMC_PCMAP_Pc i) = s.fget (DMC_PCMAP_Pc j) → i = j

/-- The bytes of the next packet of a spilling or TOPK interval (R165 to R170). -/
def State.dumpBody (s : State) (c : Nat) (d : Dump) : List Byte :=
  let r := if s.ctxKind c = 5 then s.setsPacket c d else (s.dumpPacket c d).2
  let nx := s.ctxNx (if s.ctxKind c = 5 then s.fget (HUSK_DTOPK_Source c) else c)
  s.pktBytes ⟨c, d.n, d.sent, d.frame, d.tai.1, d.count, d.epoch, decide (r.2 ≤ d.sent + 1)⟩ r.1.1 r.1.2.1
    (r.1.2.2.1 % 32 ||| (if s.ctxs.egressBad then 1 else 0)) nx r.1.2.2.2.1 r.1.2.2.2.2

/-- The bytes of the next packet of a voltage block: as many whole frames from where the last one ended as fit (R132, R168). -/
def State.voltBody (s : State) (c : Nat) (b : VoltBlock) : List Byte :=
  let q := (tget (0, 0, false, 0) s.husk.voltPos c).1
  let f0 := (tget (0, 0, false, 0) s.husk.voltPos c).2.1
  let part := (b.frames.drop f0).take (fitCount (s.pktRoom c) (b.frames.headD []).length)
  s.pktBytes ⟨c, b.win - b.k0, q, s.winStart (s.ctxStream c) b.win, b.tai.1, b.deficit, b.epoch,
      decide (b.frames.length ≤ f0 + fitCount (s.pktRoom c) (b.frames.headD []).length) && b.last⟩ 0
    (s.fget (HUSK_DAUX_VoltFormat c) + 1) (b.marks ||| (if s.ctxs.egressBad then 1 else 0)) (s.ctxBeams c)
    (beBytes 2 b.g ++ beBytes 2 b.beam0 ++ beBytes 2 (b.frame0 + f0) ++ beBytes 2 part.length ++ beBytes 4 (32 * 2 ^ 24)) part.flatten

/-- What becomes of a packet with these bytes: at an Ethernet destination it leaves on the port and lane that the next one picks, or
is dropped where none is up; at a fabric destination it waits as a PRODUCT frame for the lane of its route, without one it is
discarded there, and at a node out of reach it is dropped; at a destination that is not valid it is dropped (R174 to R176, R245). -/
def packetGoes (s t : State) (c x q : Nat) (body : List Byte) : Prop :=
  (s.flag (EGR_DCTRL_Valid x) = false → t.reg (EGR_DDROP x) = s.reg (EGR_DDROP x) + 1 ∧ t.wireOut = s.wireOut ∧
    t.fab.txq = s.fab.txq) ∧
  (s.flag (EGR_DCTRL_Valid x) = true → s.flag IMG_STATUS_SproutActive = false →
    (s.flag (EGR_DCTRL_Kind x) = false → s.pickPort x q = none → t.reg (EGR_DDROP x) = s.reg (EGR_DDROP x) + 1 ∧
      t.reg (EGR_DSENT x) = s.reg (EGR_DSENT x) ∧ t.wireOut = s.wireOut) ∧
    (∀ port l, s.flag (EGR_DCTRL_Kind x) = false → s.pickPort x q = some (port, l) →
      t.reg (EGR_DSENT x) = s.reg (EGR_DSENT x) + 1 ∧ t.reg (LN_ETHTX l) = s.reg (LN_ETHTX l) + 1 ∧
      (s.pinsAway = false → t.wireOut = s.wireOut ++ [.packet port (s.ethFrame x l body)
        (decide (tget 0 s.ctxs.portBad port ≠ 0))])) ∧
    (∀ node, s.flag (EGR_DCTRL_Kind x) = true → node = s.fget (EGR_DCTRL_Node x) → s.reachable node = false →
      t.reg (EGR_DDROP x) = s.reg (EGR_DDROP x) + 1 ∧ t.fab.txq = s.fab.txq) ∧
    (∀ node f, s.flag (EGR_DCTRL_Kind x) = true → node = s.fget (EGR_DCTRL_Node x) → s.reachable node = true →
      f = s.ownFrame 4 node c false body none →
      t.reg (EGR_DSENT x) = s.reg (EGR_DSENT x) + 1 ∧
      (s.routeOf f = none → t.fab.txq = s.fab.txq ∧ t.reg FAB_NOROUTE = s.reg FAB_NOROUTE + 1) ∧
      ∀ l, s.routeOf f = some l → t.fab.txq = s.fab.txq ++ [{ f with link := some l }]))

/-- A host's access to the register at a reaches it: the block is awake, no crossing on its way is held and its clock runs. -/
def State.takes (s : State) (a : Nat) : Prop := s.awake = true ∧ s.regHeld a = false ∧ s.clockOn a = true

/-- Nothing waits at the matrix: no request at a port or for a grant, no write burst on its way. -/
def State.mtxIdle (s : State) : Prop := s.mtx.port = [] ∧ s.mtx.ungranted = [] ∧ s.mtx.bursts = []

/-- Target t is free for a request of ID id from initiator i: its crossing is not held, no request waits for its grant, no write burst is on its way, its
data path and its grants have this tick's cycles left, and every earlier transaction of the ID is done. -/
def State.targetFree (s : State) (i id t : Nat) : Prop :=
  s.targetHeld t = false ∧ s.ungrantedAt t = [] ∧ s.burstsAt t = [] ∧ tget 0 s.mtx.grantAt t ≤ s.cycle ∧
    tget 0 s.mtx.beatAt t ≤ s.cycle ∧ ∀ x ∈ s.mtxOut i, x.id = id → x.stage = .done

/-- What a byte at b holds after a write of n bytes at a, where it held old: the written byte where its strobe is on. -/
def strobed (w : LineWrite) (n a b : Nat) (old : Byte) : Byte :=
  if a ≤ b ∧ b < a + n ∧ w.strobes.getD (b - a) false = true then w.bytes.getD (b - a) 0 else old

/-- Every register but those listed holds what it held. -/
def regsBut (s t : State) (l : List Nat) : Prop := ∀ a, a ∉ l → t.reg a = s.reg a

/-- The word that register r reads as in a burst at the registers from address base on: an upper word of a wide value is as latched,
by the read of its low word in the same burst where that came before it (R17, R291). -/
def State.burstWord (s : State) (base r : Nat) : Word :=
  if isUpperWord r then
    if [4, 8, 12].any fun d => decide (base + d ≤ r) && (upperWords (r - d)).contains r then s.peek r else shadowOf s.shadow r
  else s.peek r

/-- The command word whose write is the command c, and its value. -/
def commandWord (c : Instr) : Option (Nat × Word) :=
  match c with
  | .setTime => some (TMB_CMD, TMB_CMD_SetTime.into 0 1)
  | .realign => some (TMB_CMD, TMB_CMD_Realign.into 0 1)
  | .clearWtr mask => some (TMB_CMD, TMB_CMD_ClearWtr.into (TMB_CMD_WtrMask.into 0 mask) 1)
  | .incrementCommit a v => some (a / 4 * 4, v)
  | .calendarCapture => some (CAL_CMD, CAL_CMD_Capture.into 0 1)
  | .schInsert v => some (SCH_INSERT, v)
  | .schCancel v => some (SCH_CANCEL, v)
  | .laneRestart l => some (LN_CMD l, (LN_CMD_Restart l).into 0 1)
  | .laneWarmTrain l => some (LN_CMD l, (LN_CMD_WarmTrain l).into 0 1)
  | .swapNow l => some (LN_CMD l, (LN_CMD_SwapNow l).into 0 1)
  | .releaseCommand l => some (LN_CMD l, (LN_CMD_Release l).into 0 1)
  | .mreadRequest v => some (FAB_MREQ, v)
  | .gainSwapArm e v => some (FCH_GSWAP_HI e, v)
  | .fchGdataWrite e v => some (FCH_GDATA e, v)
  | .steerRequest p col => some (POD_CMD p, (POD_CMD_Steer p).into ((POD_CMD_Column p).into 0 col) 1)
  | .ctxValidWrite c v => some (CTX_CFG c, v)
  | .retirePlanned pc => some (DMC_RETIRE, DMC_RETIRE_Go.into (DMC_RETIRE_Pc.into 0 pc) 1)
  | .retireSudden pc => some (DMC_RETIRE, DMC_RETIRE_Go.into (DMC_RETIRE_Sudden.into (DMC_RETIRE_Pc.into 0 pc) 1) 1)
  | .pmcSnap => some (PMC_CMD, PMC_CMD_Snap.into 0 1)
  | .pmcFreeze => some (PMC_CMD, PMC_CMD_Freeze.into 0 1)
  | .pmcThaw => some (PMC_CMD, PMC_CMD_Thaw.into 0 1)
  | .pipConfigWrite a v => some (a / 4 * 4, v)
  | .clearLps => some (ERL_CMD, ERL_CMD_ClearLps.into 0 1)
  | .clearFab => some (ERL_CMD, ERL_CMD_ClearFab.into 0 1)
  | .imgLoad => some (IMG_CMD, IMG_CMD_Op.into 0 1)
  | .imgStage => some (IMG_CMD, IMG_CMD_Op.into 0 2)
  | .imgReload restart mask => some (IMG_CMD, IMG_CMD_Op.into
      (IMG_CMD_Restart.into (IMG_CMD_SectionMask.into 0 mask) (if restart then 1 else 0)) 3)
  | .imgAbort => some (IMG_CMD, IMG_CMD_Op.into 0 4)
  | .imgSproutRom => some (IMG_CMD, IMG_CMD_Op.into (IMG_CMD_FromRom.into 0 1) 5)
  | .imgSproutApplied => some (IMG_CMD, IMG_CMD_Op.into 0 5)
  | .imgWinWrite v => some (IMG_WIN 0, v)
  | .pwrStandby => some (PWR_CMD, PWR_CMD_Target.into 0 1)
  | .pwrRetain => some (PWR_CMD, PWR_CMD_Target.into 0 2)
  | .pwrReady => some (PWR_CMD, PWR_CMD_Target.into 0 3)
  | .pwrRun => some (PWR_CMD, PWR_CMD_Target.into 0 4)
  | _ => none

/-- The enable that stands in the register at a: of a lane, the fabric unit, an engine or its slot, the Hull or its stream. -/
def enableOf (a : Nat) : Option Fld :=
  if 0x100000 ≤ a ∧ a < 0x118000 ∧ a % 1024 = 0 then some (LN_CFG_Enable ((a - 0x100000) / 1024))
  else if a = FAB_CTRL then some FAB_CTRL_Enable
  else if 0x200000 ≤ a ∧ a < 0x300000 ∧ a % 65536 = 0 then some (FCH_CTRL_Enable ((a - 0x200000) / 65536))
  else if 0x200000 ≤ a ∧ a < 0x300000 ∧ 0x100 ≤ a % 65536 ∧ a % 65536 < 0x500 ∧ a % 64 = 0 then
    some (FCH_PSRC_Enable ((a - 0x200000) / 65536) ((a % 65536 - 0x100) / 64))
  else if a = HULL_CTRL then some HULL_CTRL_Enable
  else if HULL_SCTRL 0 ≤ a ∧ a < HULL_SCTRL 4 ∧ a % 32 = 0 then some (HULL_SCTRL_Enable ((a - HULL_SCTRL 0) / 32))
  else none

/-- A table's word at a, and whether a write of v finds it open (R15, R117, R149): next-hop and lane-set words, source and owner
words, map entries, context entries and the path store; none for every other register. -/
def State.tableOpen (s : State) (a : Nat) (v : Word) : Option Bool :=
  if (FAB_LSET 0 0 ≤ a ∧ a < FAB_LSET 64 0 ∧ a % 16 ≠ 12) ∨ (FAB_NH 0 ≤ a ∧ a < FAB_NH 4096) then some (!s.flag FAB_CTRL_Enable)
  else if (HULL_SRC 0 ≤ a ∧ a < HULL_SRC 256) ∨ (HULL_OWN 0 ≤ a ∧ a < HULL_OWN 8192) then some (!s.flag HULL_CTRL_Enable)
  else if HUSK_MAP_LO 0 ≤ a ∧ a < HUSK_MAP_LO 16384 then
    let i := (a - HUSK_MAP_LO 0) / 8
    let old := s.fget (HUSK_MAP_HI_Context i)
    some (s.ctxOpen old && s.ctxOpen (if a % 8 = 4 then (HUSK_MAP_HI_Context i).of v else old))
  else if 0x900000 ≤ a ∧ a < 0x940000 ∧ a % 64 ≠ 0 ∧ (findRow a).any (fun x => x.1.hasRwl) = true then
    some (s.ctxOpen ((a - 0x900000) / 64))
  else if 0x980000 ≤ a ∧ a < 0x9A0000 then some ((s.pathUsers ((a - 0x980000) / 4)).all s.ctxIdle)
  else none

/-- The address lies in the range of a block of R311, but for the window to the HBM. -/
def inBlock (a : Nat) : Bool :=
  decide (a < 0x50000) || (decide (0x100000 ≤ a) && decide (a < 0x118000)) || (decide (0x140000 ≤ a) && decide (a < 0x170000)) ||
    (decide (0x200000 ≤ a) && decide (a < 0x310000)) || (decide (0x400000 ≤ a) && decide (a < 0xF00000))

/-- A register whose write does nothing but take its fields: it is no command word, no word of a table or of a value that takes effect
as a whole, holds no enable and no choice that its unit acts on. -/
def plainReg (a : Nat) : Bool :=
  (decide (a < 0x20000) && decide (a ≠ GLB_URESET) && decide (a ≠ PWR_CMD)) ||
  (decide (0x20000 ≤ a) && decide (a < 0x100000) && !(([TMB_CMD, CAL_CMD, SCH_INSERT, SCH_CANCEL, TMB_FTCFG] : List Nat).contains a) &&
    !isHeldWord a && (commitLows a).isEmpty && !(decide (TMB_REFCFG 0 ≤ a) && decide (a < TMB_REFCFG 7))) ||
  (decide (0x100000 ≤ a) && decide (a < 0x118000) && decide (a % 1024 ≠ 0) && decide (a % 1024 ≠ 8)) ||
  (decide (0x118000 ≤ a) && decide (a < 0x160000) && decide (a ≠ FAB_CTRL) && decide (a ≠ FAB_MREQ) &&
    !(decide (FAB_LSET 0 0 ≤ a) && decide (a < FAB_LSET 64 0)) && !(decide (FAB_NH 0 ≤ a) && decide (a < FAB_NH 4096))) ||
  (decide (0x160000 ≤ a) && decide (a < 0x200000)) ||
  (decide (0x200000 ≤ a) && decide (a < 0x300000) && !(([0, 0x30, 0x34, 0x3C] : List Nat).contains (a % 65536)) &&
    !(decide (0x100 ≤ a % 65536) && decide (a % 65536 < 0x500) && decide (a % 64 = 0))) ||
  (decide (0x300000 ≤ a) && decide (a < 0x400000) && decide (a ≠ HULL_CTRL) &&
    !(decide (HULL_SCTRL 0 ≤ a) && decide (a < HULL_SCTRL 4) && decide (a % 32 = 0)) &&
    !(decide (HULL_SRC 0 ≤ a) && decide (a < HULL_SRC 256)) && !(decide (HULL_OWN 0 ≤ a) && decide (a < HULL_OWN 8192))) ||
  (decide (0x400000 ≤ a) && decide (a < 0x800000) && decide (a % 65536 ≠ 0) && decide (a % 65536 ≠ 0x1C)) ||
  (decide (0x800000 ≤ a) && decide (a < 0x840000)) ||
  (decide (0x940000 ≤ a) && decide (a < 0x980000) && decide (a ≠ CTX_CMD)) ||
  (decide (0xA00000 ≤ a) && decide (a < 0xC00000) && decide (a ≠ DMC_CTRL) && decide (a ≠ DMC_RETIRE)) ||
  (decide (0xC00000 ≤ a) && decide (a < 0xF00000) && decide (a ≠ PMC_CMD) && !isPipConfig a && decide (a ≠ ERL_CMD) &&
    decide (a ≠ IMG_CMD) && !(decide (IMG_WIN 0 ≤ a) && decide (a < IMG_WIN 1024)))

/-- What a field of access code acc holds after a write of v where it held old (R13, R15). -/
def afterWrite {w : Nat} (acc : Access) (open' : Bool) (v old : BitVec w) : BitVec w :=
  match acc with
  | .rw => v
  | .rwl => if open' then v else old
  | .w1c => old &&& ~~~v
  | .ro | .wo => old

/-- The newest entry of the error log has this code, and names this site and instance. -/
def logged (t : State) (code site inst : Nat) : Prop :=
  ∃ n sec, t.erl.newest = some (n, sec) ∧ t.reg (ERL_RING (n % 256) 0) = logE0 code site inst

/-- The command answers a next state, of which post holds. -/
def gives (c : Instr) (s : State) (post : State → Prop) : Prop := ∃ t, exec c s = .next t ∧ post t

end Sys2Proof.Machine
end

