-- ==== Sys2Proof/Certificates/Slice0/Obligations.lean ====
section
/-! DEFINITION. The statements for the provers, by unit of the part. Each docstring says what its statement claims; the rules of
spec/ that it rests on stand in OBLIGATIONS.json. -/

open Sys2Proof Sys2Proof.Machine

/-! ## The machine -/

/-- A step takes the command at the front of the queue and runs its meaning with the queue's rest. -/
def Obligations.StepRunsTheFront : Prop := ∀ (c : Instr) (rest : List Instr) (s : State),
  step { s with pending := c :: rest } = exec c { s with pending := rest }

/-- With no command waiting the block idles (the model's choice: log entry 1). A command leaves the queue alone: only the step
takes from it. -/
def Obligations.QueueHandling : Prop :=
  (∀ s : State, s.pending = [] → step s = .next s) ∧
  (∀ (c : Instr) (s t : State), exec c s = .next t → t.pending = s.pending)

/-- Every command whose operands lie in their ranges completes in every state, and one whose operands do not is refused by name: no
command stops for want of a meaning. -/
def Obligations.WellFormedCompletes : Prop := ∀ (c : Instr) (s : State),
  (c.wf = true → ∃ t, exec c s = .next t) ∧ (c.wf = false → exec c s = .refused .illFormed)

/-- The state right after reset meets the invariant. -/
def Obligations.ResetMeetsInv : Prop := State.reset.Inv

/-- Every step keeps the invariant: the stores stay canonical, a part without supplies is in reset, and a part in reset is in no
power transition. -/
def Obligations.StepKeepsInv : Prop := ∀ s t : State, s.Inv → step s = .next t → t.Inv

/-- Every command leaves alone every part of the state that `mayTouch` does not list for it; every byte of every store among them.
-/
def Obligations.CommandsTouchOnlyTheirParts : Prop := ∀ (c : Instr) (s t : State) (p : Part),
  exec c s = .next t → p ∉ mayTouch c → State.same p s t

/-! ## Pod sequencers -/

/-- The plain instructions: NOP, LDI, ADDI, and BNZ on a zero register go on to the next word; LDI and ADDI write one register, 32
bits wrapping; nothing else of the pods changes but the pod at issue. -/
def Obligations.PodPlainInstructions : Prop := ∀ (s : State) (p w : Nat), s.atIssue p w →
  (w / 2 ^ 58 = 0x00 → gives (.nop p) s fun t => wentOn s t p ∧ podAlone s t p 8) ∧
  (w / 2 ^ 58 = 0x01 → gives (.ldi p) s fun t =>
    wentOn s t p ∧ podAlone s t p (bits w 55 3) ∧ t.greg p (bits w 55 3) = bits w 0 32) ∧
  (w / 2 ^ 58 = 0x02 → gives (.addi p) s fun t => wentOn s t p ∧ podAlone s t p (bits w 55 3) ∧
    t.greg p (bits w 55 3) = (s.greg p (bits w 52 3) + bits w 0 32) % 2 ^ 32) ∧
  (w / 2 ^ 58 = 0x03 → s.greg p (bits w 55 3) = 0 → gives (.bnz p) s fun t => wentOn s t p ∧ podAlone s t p 8)

/-- The jumps: BNZ on a register that is not zero takes 1 from it and goes to the word it names, JMP goes there always. LOOP: a
body that fits in the memory and holds no BNZ, JMP, LOOP or HALT is entered, with its first and last word and the count of
iterations, which stands in the word or in a register; a count of 0 skips it. Any other body is the program fault LOOP_BODY. HALT
stops the sequencer and shows it. A program fault (an opcode the table does not list): the pod's sequencer stops, its Fault flag
and code tell it, and the program counter stays on the word. RDPMC without permission reads 0 and flags it; with permission, a low
read gives the low 32 bits of the counter in the window that PodShadow selects and holds the upper 16, which a high read of the
same counter then gives; a high read of any other counter gives its present upper bits. The counter of lost Pip records (8) is read
after the record that the RDPMC itself may lose. -/
def Obligations.PodControl : Prop :=
  (∀ (s : State) (p w : Nat), s.atIssue p w →
    (w / 2 ^ 58 = 0x03 → s.greg p (bits w 55 3) ≠ 0 → gives (.bnz p) s fun t =>
      t.pc p = bits w 0 12 ∧ t.greg p (bits w 55 3) = s.greg p (bits w 55 3) - 1 ∧ podAlone s t p (bits w 55 3)) ∧
    (w / 2 ^ 58 = 0x04 → ∃ t, exec (.jmp p) s = .next t ∧ t.pc p = bits w 0 12 ∧ (t.pod p).wait = 0 ∧ podAlone s t p 8)) ∧
  (∀ (s : State) (p w len n : Nat), s.atIssue p w → w / 2 ^ 58 = 0x05 → len = bits w 52 6 + 1 →
    n = (if bits w 51 1 = 1 then s.greg p (bits w 48 3) else bits w 0 16) →
    ((∀ i < len, noLoopOp (s.pmWord p (s.pc p + 1 + i) / 2 ^ 58) = false) → s.pc p + 1 + len < 4096 → n = 0 →
      ∃ t, exec (.loop p) s = .next t ∧ t.pc p = s.pc p + 1 + len ∧ podAlone s t p 8) ∧
    ((∀ i < len, noLoopOp (s.pmWord p (s.pc p + 1 + i) / 2 ^ 58) = false) → s.pc p + 1 + len ≤ 4096 → n ≠ 0 →
      ∃ t, exec (.loop p) s = .next t ∧ t.pc p = s.pc p + 1 ∧
        (t.pod p).loop = some (s.pc p + 1, s.pc p + len, n) ∧ podAlone s t p 8) ∧
    ((4096 < s.pc p + 1 + len ∨ ∃ i < len, noLoopOp (s.pmWord p (s.pc p + 1 + i) / 2 ^ 58) = true) → s.owner p = none →
      (s.pod p).start = false → ∃ t, exec (.loop p) s = .next t ∧ podFaulted s t p 2)) ∧
  (∀ (s : State) (p w : Nat), s.atIssue p w → w / 2 ^ 58 = 0x3F → (s.pod p).start = false →
    ∃ t, exec (.halt p) s = .next t ∧ t.fget (POD_STATUS_Halted p) = 1 ∧ (t.pod p).seq = false ∧ (t.pod p).loop = none ∧
      t.pc p = s.pc p ∧ podAlone s t p 8) ∧
  (∀ (s : State) (p w : Nat), s.atIssue p w → opKnown (w / 2 ^ 58) = false →
    s.owner p = none → (s.pod p).start = false → gives (.nop p) s fun t => podFaulted s t p 1) ∧
  (∀ (s : State) (p w : Nat), s.atIssue p w → w / 2 ^ 58 = 0x11 →
    (s.flag PMC_PERMIT_PodRead = false → ∃ t, exec (.rdpmc p) s = .next t ∧ wentOn s t p ∧ t.greg p (bits w 55 3) = 0 ∧
      t.fget (POD_STATUS_PmcDenied p) = 1 ∧ podAlone s t p (bits w 55 3)) ∧
    (∀ v, s.flag PMC_PERMIT_PodRead = true → (bits w 0 9 ≠ 8 ∨ s.pipSelected p = false ∨ (s.pod p).stood = true) →
      v = s.pmcView (bits w 0 9) (s.flag PMC_PERMIT_PodShadow) →
      (bits w 9 1 = 0 → ∃ t, exec (.rdpmc p) s = .next t ∧ wentOn s t p ∧ podAlone s t p (bits w 55 3) ∧
        t.greg p (bits w 55 3) = v % 2 ^ 32 ∧ (t.pod p).pmc = some (bits w 0 9, v / 2 ^ 32)) ∧
      (bits w 9 1 = 1 → (s.pod p).pmc.map Prod.fst ≠ some (bits w 0 9) → ∃ t, exec (.rdpmc p) s = .next t ∧ wentOn s t p ∧
        podAlone s t p (bits w 55 3) ∧ t.greg p (bits w 55 3) = v / 2 ^ 32)) ∧
    (∀ h, s.flag PMC_PERMIT_PodRead = true → bits w 9 1 = 1 → (s.pod p).pmc = some (bits w 0 9, h) → h < 2 ^ 16 →
      ∃ t, exec (.rdpmc p) s = .next t ∧ wentOn s t p ∧ t.greg p (bits w 55 3) = h ∧ podAlone s t p (bits w 55 3)))

/-- SEL sets both pending selections, that of the row bus in a correlation partition only; PDESC writes the port descriptor; OPEN
with no port goes on at once, with ports that are free and described it requests them for the listeners of the selections, and
while a port of the partition is requested or open it waits. SEL, PDESC and OPEN of a port that the pod does not own, and SEL of a
row port in a beam partition, are the program fault 5; PDESC and OPEN of a pod that is not the lead are fault 4; OPEN of a port
without a descriptor is fault 6. A requested port opens on its stream's presented pass group once every port of its OPEN may open:
each has its pass group and passes the checks of R95 and R96; with the last one the lead goes on. Where one fails its check the
lead's program faults with 6 and none opens. (The model's own readings and choices in this: log entries 34, 193.) -/
def Obligations.PodOperands : Prop :=
  (∀ (s : State) (p w : Nat), s.atIssue p w →
    (w / 2 ^ 58 = 0x08 → (bits w 57 1 = 1 → s.podBeam p = false ∧ s.ownsPort p (bits w 53 4) = true) →
      (bits w 52 1 = 1 → s.ownsPort p (bits w 48 4) = true) → gives (.sel p) s fun t => wentOn s t p ∧
        (t.pod p).selR = (if bits w 57 1 = 1 then some (bits w 53 4) else none) ∧
        (t.pod p).selC = (if bits w 52 1 = 1 then some (bits w 48 4) else none) ∧ podAlone s t p 8) ∧
    (w / 2 ^ 58 = 0x08 → s.owner p = none → (s.pod p).start = false →
      (bits w 57 1 = 1 ∧ (s.podBeam p = true ∨ s.ownsPort p (bits w 53 4) = false) ∨
        bits w 52 1 = 1 ∧ s.ownsPort p (bits w 48 4) = false) → gives (.sel p) s fun t => podFaulted s t p 5) ∧
    (w / 2 ^ 58 = 0x06 → s.isLead p = true → s.ownsPort p (bits w 54 4) = true → gives (.pdesc p) s fun t => wentOn s t p ∧
      podAlone s t p 8 ∧ tget none t.array.desc (bits w 54 4) = some ⟨bits w 52 2, decide (bits w 51 1 = 1),
        (bits w 36 12 + s.greg p (bits w 48 3)) % 4096, bits w 20 16, bits w 4 16 + 1⟩) ∧
    (w / 2 ^ 58 = 0x06 → s.owner p = none → (s.pod p).start = false →
      (s.isLead p = false ∨ s.ownsPort p (bits w 54 4) = false) → gives (.pdesc p) s fun t =>
        podFaulted s t p (if s.isLead p then 5 else 4)) ∧
    (w / 2 ^ 58 = 0x07 → s.isLead p = true → s.portsBusy p = false → (s.pod p).wait ≠ 2 →
      (∀ q < 16, bits w (42 + q) 1 = 1 → s.ownsPort p q = true ∧ (tget none s.array.desc q).isSome = true) →
      gives (.openPorts p) s fun t => ((∀ q < 16, bits w (42 + q) 1 = 0) → wentOn s t p) ∧
        (∀ q < 16, bits w (42 + q) 1 = 1 → (t.pod p).wait = 2 ∧ t.fget (POD_STATUS_Waiting p) = 1 ∧
          tget none t.array.req q = some (p, s.listeners (s.podPart p) q))) ∧
    (w / 2 ^ 58 = 0x07 → (s.pod p).wait ≠ 2 → s.owner p = none → (s.pod p).start = false →
      (s.isLead p = false ∨ ∃ q < 16, bits w (42 + q) 1 = 1 ∧ s.ownsPort p q = false) → gives (.openPorts p) s fun t =>
        podFaulted s t p (if s.isLead p then 5 else 4)) ∧
    (w / 2 ^ 58 = 0x07 → (s.pod p).wait ≠ 2 → s.isLead p = true → (∀ q < 16, bits w (42 + q) 1 = 1 → s.ownsPort p q = true) →
      s.portsBusy p = true → s.flag (POD_CTRL_Run p) = true → gives (.openPorts p) s fun t => (t.pod p).wait = 1 ∧
        t.fget (POD_STATUS_Waiting p) = 1 ∧ t.pc p = s.pc p ∧ t.array.req = s.array.req ∧ podAlone s t p 8) ∧
    (w / 2 ^ 58 = 0x07 → (s.pod p).wait ≠ 2 → s.isLead p = true → (∀ q < 16, bits w (42 + q) 1 = 1 → s.ownsPort p q = true) →
      s.portsBusy p = false → s.owner p = none → (s.pod p).start = false →
      (∃ q < 16, bits w (42 + q) 1 = 1 ∧ tget none s.array.desc q = none) → gives (.openPorts p) s fun t => podFaulted s t p 6)) ∧
  (∀ (s : State) (q lead : Nat) (ls : List (Nat × Nat)) (d : PortDesc) (cur : Presented),
    q < 16 → lead < 64 → s.isRun = true → tget none s.array.req q = some (lead, ls) → tget none s.array.desc q = some d →
    s.presented (s.podPart lead) d.st = some cur →
    (∀ e ∈ s.requested lead, (s.presented (s.podPart lead) e.2.st).isSome = true) →
    ((∀ e ∈ s.requested lead, s.portOk lead e.1 e.2 = true) → s.nextPc lead < 4096 →
      gives (.portStart q) s fun t => tget none t.array.req q = none ∧
      ((s.requested lead).length = 1 → (s.pod lead).wait = 2 → wentOn s t lead) ∧ tget none t.array.openp q =
      closeIfDone ⟨d, cur, portWords (s.podFormat lead) d.count, ls.map fun l => ⟨l.1, l.2, 0⟩⟩) ∧
    ((∃ e ∈ s.requested lead, s.portOk lead e.1 e.2 = false) → s.owner lead = none → (s.pod lead).start = false →
      gives (.portStart q) s fun t => podFaulted s t lead 6))

/-- WLD of a presented stream queues a weight set and goes on; its completion puts the set in the shadow registers, and WSWAP makes
the shadow the weights in use, so that a second WSWAP with no new WLD makes the same set active again. WINIT queues initial values
for the bank that is active and goes on; its completion, which a pending WLD goes before, takes it from the queue and writes the
slots of that bank, which by then may drain. (The model's own readings and choices in this: log entries 36, 284.) -/
def Obligations.PodLoads : Prop :=
  (∀ (s : State) (p w : Nat),
    (s.atIssue p w → w / 2 ^ 58 = 0x0B → s.podBeam p = true → ∀ cur, s.presented (s.podPart p) (bits w 52 2) = some cur →
      gives (.wld p) s fun t => wentOn s t p ∧ (t.pod p).wlds = (s.pod p).wlds ++
        [s.weightSet p ((bits w 0 7 + s.greg p (bits w 55 3)) % 128) (s.groupChan cur.pg.g)] ∧ podAlone s t p 8) ∧
    (p < 64 → s.fastClk = true → (s.pod p).start = false → ∀ x xs, (s.pod p).wlds = x :: xs → gives (.wldComplete p) s fun t =>
      (t.pod p).wlds = xs ∧ (t.pod p).shadow = some x ∧ podAlone s t p 8) ∧
    (s.atIssue p w → w / 2 ^ 58 = 0x0C → s.podBeam p = true → (s.pod p).wlds = [] → gives (.wswap p) s fun t =>
      wentOn s t p ∧ (t.pod p).weights = (s.pod p).shadow ∧ (t.pod p).shadow = (s.pod p).shadow ∧ podAlone s t p 8)) ∧
  (∀ (s : State) (p w : Nat),
    (s.atIssue p w → w / 2 ^ 58 = 0x0D → gives (.winit p) s fun t => wentOn s t p ∧ podAlone s t p 8 ∧
      (t.pod p).winits = (s.pod p).winits ++
        [⟨(s.pod p).active, bits w 49 4 + 1, (bits w 0 7 + s.greg p (bits w 55 3)) % 128⟩]) ∧
    (p < 64 → s.fastClk = true → (s.pod p).wlds ≠ [] → exec (.winitComplete p) s = .next s) ∧
    (p < 64 → s.fastClk = true → (s.pod p).wlds = [] → (s.pod p).start = false → ∀ x xs, (s.pod p).winits = x :: xs →
      gives (.winitComplete p) s fun t => (t.pod p).winits = xs ∧ podAlone s t p 8 ∧
        (x.half = (s.pod p).active → (t.pod p).act = s.winitBank p x (s.pod p).act ∧ (t.pod p).drains = (s.pod p).drains) ∧
        (x.half ≠ (s.pod p).active → (t.pod p).act = (s.pod p).act ∧ (t.pod p).drains =
          (s.pod p).drains.map fun d => if d.half = x.half then { d with bank := s.winitBank p x d.bank } else d)))

/-- DRAIN holds a swap and goes on where the bank that would become active has drained; where it has not, or a swap is held
already, it stalls and counts. The swap sends the filled bank to the drains and starts a fresh one; with Run 0 the sequencer stops
there; a pending column is steered out there, and a second one fails the pod. The drain whose last step has left is delivered to
its Husk lane and counted; of one that a reset has cut nothing is delivered. (The model's own readings and choices in this: log
entry 285.) -/
def Obligations.PodDrains : Prop := ∀ (s : State) (p w : Nat),
  (s.atIssue p w → w / 2 ^ 58 = 0x0E → (s.pod p).swap = none → (∀ d ∈ (s.pod p).drains, d.half ≠ (s.pod p).active) →
    gives (.drain p) s fun t => wentOn s t p ∧
      (t.pod p).swap = some ((s.greg p (bits w 48 3) + bits w 0 32) % 2 ^ 32, bits w 53 4 + 1) ∧ podAlone s t p 8) ∧
  (s.atIssue p w → w / 2 ^ 58 = 0x0E → ((s.pod p).swap ≠ none ∨ ∃ d ∈ (s.pod p).drains, d.half = (s.pod p).active) →
    gives (.drain p) s fun t => t.pc p = s.pc p ∧ (t.pod p).swap = (s.pod p).swap ∧
      t.reg (POD_STALLDRN p) = s.reg (POD_STALLDRN p) + 1 ∧ podAlone s t p 8) ∧
  (∀ tag slots, p < 64 → s.isRun = true → (s.pod p).swap = some (tag, slots) → (s.pod p).active ≤ 1 →
    (s.pod p).steer.length ≤ 1 → gives (.bankSwap p) s fun t => (t.pod p).swap = none ∧ (t.pod p).active = 1 - (s.pod p).active ∧
      (t.pod p).act = Bank.fresh ∧ podAlone s t p 8 ∧
      (∃ d, (t.pod p).drains = (s.pod p).drains ++ [d] ∧ d.bank = (s.pod p).act ∧ d.tag = tag ∧ d.slots = slots ∧
        d.colMap = (s.reg (POD_COLMAP p)).toNat ∧ d.ctx = s.owner p) ∧
      ((s.pod p).steer = [] → s.flag (POD_CTRL_Run p) = true → (t.pod p).seq = (s.pod p).seq) ∧
      ((s.pod p).steer = [] → s.flag (POD_CTRL_Run p) = false → (t.pod p).seq = false ∧
        t.fget (POD_STATUS_Running p) = 1 ∧ t.fget (POD_STATUS_DrainBusy p) = 1 ∧ t.pc p = s.pc p) ∧
      (∀ col, col < 33 → (s.pod p).steer = [col] → (t.pod p).steer = [] ∧ t.fget (POD_COLMAP_FailedColumn p) = col ∧
        t.reg (POD_COLERR p col) = 0 ∧ (col = 32 → t.flag (POD_COLMAP_SpareBad p) = true) ∧
        (col ≠ 32 → t.flag (POD_COLMAP_Steered p) = true ∧ (s.podBeam p = true → (t.pod p).reloading = true)))) ∧
  (∀ tag slots col more, p < 64 → s.isRun = true → (s.pod p).swap = some (tag, slots) → (s.pod p).active ≤ 1 → col < 33 →
    (s.pod p).steer = col :: more → more ≠ [] → s.owner p = none → (s.pod p).seq = true → gives (.bankSwap p) s fun t =>
      t.flag (POD_STATUS_Failed p) = true ∧ podFaulted s t p 9 ∧ podAlone s t p 8) ∧
  (∀ d ds, p < 64 → s.fastClk = true → s.xIsHeld 7 (p % 8) = false → (s.pod p).drains = d :: ds → 32 * d.slots ≤ d.steps →
    gives (.drainEnd p) s fun t => (t.pod p).drains = ds ∧ (∀ q, q ≠ p → t.pod q = s.pod q) ∧
      tget [] t.husk.held (p % 8) = tget [] s.husk.held (p % 8) ++
        (if tget 0 s.husk.lost p = 0 then [{ d with took := tget 0 s.husk.took p }] else []) ∧
      t.reg (POD_DRAINS p) = s.reg (POD_DRAINS p) + 1 ∧ t.reg HUSK_DRAINS = s.reg HUSK_DRAINS + 1)

/-- MAC: as many of its beats as both ports have words for enter the active bank now, each frame's valid products by the sums of
R92 into the cells of its slot group; the frames of the slot group grow by all its beats; with the last beat the sequencer goes on,
before it the instruction stands with the beats that are left, and with none ready it stalls and counts. BMAC with weights in use:
the same for the beam products of R103, of which each entry of the accumulators takes one row's sum over the column bus's samples.
-/
def Obligations.PodProducts : Prop :=
  (∀ (s : State) (p w n m a b : Nat) (ro co : OpenPort) (rp cp : Nat), s.atIssue p w →
    w / 2 ^ 58 = 0x09 → s.podBeam p = false → (s.pod p).beats = none → (s.pod p).winits = [] → s.bankStall p = none →
    n = s.beatsOf p w → tget 0 (s.pod p).frames (bits w 56 2) + n * beatFrames (s.podFormat p) ≤ maxPass (s.podFormat p) →
    s.feeding p 0 = some (a, ro, rp) → s.feeding p 1 = some (b, co, cp) →
    m = min n (min (wordsReady ro rp / beatWords (s.podFormat p)) (wordsReady co cp / beatWords (s.podFormat p))) →
    gives (.mac p) s fun t => (∀ q, q ≠ p → t.pod q = s.pod q) ∧
      t.reg (POD_BEATS p) = s.reg (POD_BEATS p) + BitVec.ofNat 32 m ∧
      tget 0 (t.pod p).frames (bits w 56 2) = tget 0 (s.pod p).frames (bits w 56 2) + n * beatFrames (s.podFormat p) ∧
      (m = n → wentOn s t p) ∧
      (m < n → t.pc p = s.pc p ∧ (t.pod p).beats = some (m, n - m)) ∧
      (m = 0 → t.reg (POD_STALLOPND p) = s.reg (POD_STALLOPND p) + 1 ∧ (t.pod p).act = (s.pod p).act) ∧
      (0 < m → ∀ slot r c, slot < 16 → r < 32 → c < 32 → (t.pod p).act.cell slot r c =
        if slot / 4 = bits w 56 2 then
          cellAfter ((s.pod p).act.cell slot r c) (s.corrProducts ro co (s.podFormat p)
            (ro.desc.t0 + rp / beatWords (s.podFormat p) * beatFrames (s.podFormat p))
            (co.desc.t0 + cp / beatWords (s.podFormat p) * beatFrames (s.podFormat p))
            (m * beatFrames (s.podFormat p)) r c (slot % 4))
        else (s.pod p).act.cell slot r c)) ∧
  (∀ (s : State) (p w n m a : Nat) (x : WSet) (co : OpenPort) (cp : Nat), s.atIssue p w →
    w / 2 ^ 58 = 0x0A → s.podBeam p = true → (s.pod p).beats = none → (s.pod p).weights = some x →
    (s.pod p).reloading = false → s.bankStall p = none → n = s.beatsOf p w →
    bits w 49 9 + n * (4 * beatFrames (s.podFormat p)) ≤ 512 → (∀ e < 512, tget 0 (s.pod p).bmacs e < 128) →
    s.feeding p 1 = some (a, co, cp) → m = min n (wordsReady co cp / beatWords (s.podFormat p)) →
    gives (.bmac p) s fun t => (∀ q, q ≠ p → t.pod q = s.pod q) ∧
      t.reg (POD_BEATS p) = s.reg (POD_BEATS p) + BitVec.ofNat 32 m ∧
      (m = n → wentOn s t p) ∧
      (m < n → t.pc p = s.pc p ∧ (t.pod p).beats = some (m, n - m)) ∧
      (m = 0 → t.reg (POD_STALLOPND p) = s.reg (POD_STALLOPND p) + 1 ∧ (t.pod p).act = (s.pod p).act) ∧
      (0 < m → ∀ e r, e < 512 → r < 32 → (t.pod p).act.cell (e / 32) r (e % 32) =
        if bits w 49 9 ≤ e ∧ e < bits w 49 9 + m * (4 * beatFrames (s.podFormat p)) then
          cellAfter ((s.pod p).act.cell (e / 32) r (e % 32)) (s.beamProducts x co (s.podFormat p)
            (co.desc.t0 + cp / beatWords (s.podFormat p) * beatFrames (s.podFormat p) + (e - bits w 49 9) / 4) r
            ((e - bits w 49 9) % 4))
        else (s.pod p).act.cell (e / 32) r (e % 32)))

/-- BAR waits; when every running pod of a partition waits at it, all go on. FENCE goes on where nothing of the pod is outstanding,
and waits where something is. NEXTPG waits for its stream; when every running pod of the partition waits for it, at least one runs
and no port is busy, the pass over the presented pass group ends; with no pod running, or one that waits for something else,
nothing happens. The next staged one is then taken, and every pod that waits for it goes on. While a crossing to a pod of the
partition is held, neither happens. -/
def Obligations.PodBarriersAndGroups : Prop :=
  (∀ (s : State) (p w n : Nat),
    (s.atIssue p w → w / 2 ^ 58 = 0x0F → s.flag (POD_CTRL_Run p) = true → gives (.bar p) s fun t => (t.pod p).wait = 3 ∧
      t.fget (POD_STATUS_Waiting p) = 1 ∧ t.pc p = s.pc p ∧ podAlone s t p 8) ∧
    (n < 8 → s.isRun = true → s.running n ≠ [] → (∀ q ∈ s.running n, (s.pod q).wait = 3 ∧ s.nextPc q < 4096) →
      gives (.barComplete n) s fun t => ∀ q ∈ s.running n, wentOn s t q) ∧
    (n < 8 → (∃ q ∈ s.running n, (s.pod q).wait ≠ 3) → exec (.barComplete n) s = .next s) ∧
    (s.atIssue p w → w / 2 ^ 58 = 0x12 → (s.pod p).outstanding = false → gives (.fence p) s fun t =>
      wentOn s t p ∧ podAlone s t p 8) ∧
    (s.atIssue p w → w / 2 ^ 58 = 0x12 → (s.pod p).outstanding = true → s.flag (POD_CTRL_Run p) = true →
      gives (.fence p) s fun t => (t.pod p).wait = 6 ∧ t.fget (POD_STATUS_Waiting p) = 1 ∧ t.pc p = s.pc p ∧ podAlone s t p 8)) ∧
  (∀ (s : State) (p w n st : Nat),
    (s.atIssue p w → w / 2 ^ 58 = 0x10 → (s.pod p).wait ≠ 5 → s.flag (POD_CTRL_Run p) = true → gives (.nextpg p) s fun t =>
      (t.pod p).wait = 4 ∧ (t.pod p).waitSt = bits w 52 2 ∧ t.pc p = s.pc p ∧ podAlone s t p 8) ∧
    (n < 8 → st < 4 → s.isRun = true → s.podsHeld n = false → s.partBusy n = false → s.running n ≠ [] →
      (∀ q ∈ s.running n, (s.pod q).wait = 4 ∧ (s.pod q).waitSt = st) → gives (.nextpgComplete n st) s fun t =>
        t.presented n st = none ∧ ∀ q ∈ s.running n, (t.pod q).wait = 5) ∧
    (n < 8 → st < 4 → (s.podsHeld n = true ∨ s.running n = [] ∨
      ∃ q ∈ s.running n, (s.pod q).wait ≠ 4 ∨ (s.pod q).waitSt ≠ st) → exec (.nextpgComplete n st) s = .next s) ∧
    (∀ h pg, n < 8 → st < 4 → s.isRun = true → s.podsHeld n = false → s.presented n st = none →
      s.stagedNext n st = some (h, pg) → gives (.passGroupTake n st) s fun t =>
        tget 0 t.hull.taken (4 * n + st) = pg.seq + 1 ∧
        (∃ c, t.presented n st = some c ∧ c.half = h ∧ c.pg = ⟨st, pg.k, pg.g⟩ ∧ c.contam = pg.contam) ∧
        ((∀ c < 4096, s.ctxState c ≠ 2) →
          (∀ q ∈ s.running n, (s.pod q).wait = 5 → (s.pod q).waitSt = st → s.nextPc q < 4096) →
          ∀ q ∈ s.running n, (s.pod q).wait = 5 → (s.pod q).waitSt = st → wentOn s t q)))

/-- Run set to 1 on a stopped pod whose configuration agrees with its partition's, and whose owner, if it has one, is RUNNING,
starts its program at Entry with a fresh active bank in RUN; while something of its last run is outstanding, or the part is not in
RUN, it waits for that. A pod whose configuration disagrees is not started and shows ConfigErr, also while its sequencer has not
stopped. Run written to 0 lets a pod that waits for nothing go on to its swap. Steering and parity in the pods: a new request waits
for the swap, and one that a pod already steered cannot take fails the pod and faults its program with 9; a cell's parity error is
counted by column and pod and marks its bank, and with AutoSteer the column is steered at the limit; the reload forms the weights
again. (The model's own readings and choices in this: log entries 32, 39, 192, 286, 283.) -/
def Obligations.PodRunsAndSteering : Prop :=
  (∀ (s : State) (p : Nat), p < 64 → s.takes (POD_CTRL p) →
    (s.flag (POD_STATUS_Failed p) = false → s.ownerRuns p = true → (s.pod p).seq = false → s.podConfigOk p = true →
      ((s.pod p).outstanding = true ∨ s.isRun = false) → gives (.podRunStart p) s fun t => t.fget (POD_CTRL_Run p) = 1 ∧
        (t.pod p).seq = false ∧ (t.pod p).start = true ∧ (t.pod p).act = (s.pod p).act ∧ podAlone s t p 8) ∧
    (s.flag (POD_STATUS_Failed p) = false → s.ownerRuns p = true → (s.pod p).seq = false → s.podConfigOk p = true →
      (s.pod p).outstanding = false → s.isRun = true → gives (.podRunStart p) s fun t => t.fget (POD_CTRL_Run p) = 1 ∧
        (t.pod p).seq = true ∧ t.pc p = s.fget (POD_CTRL_Entry p) ∧ (t.pod p).act = Bank.fresh ∧
        t.fget (POD_STATUS_Running p) = 1 ∧ t.fget (POD_STATUS_Fault p) = 0 ∧ t.fget (POD_STATUS_Halted p) = 0 ∧
        podAlone s t p 8) ∧
    (s.flag (POD_STATUS_Failed p) = false → s.ownerRuns p = true → s.flag (POD_CTRL_Run p) = false → s.podConfigOk p = false →
      gives (.podRunStart p) s fun t => t.flag (POD_STATUS_ConfigErr p) = true ∧ t.flag (POD_CTRL_Run p) = false ∧
        t.array = s.array) ∧
    ((s.flag (POD_STATUS_Failed p) = true ∨ s.ownerRuns p = false) → exec (.podRunStart p) s = .next s) ∧
    ((s.pod p).wait = 0 → gives (.podRunStop p) s fun t => t.fget (POD_CTRL_Run p) = 0 ∧
      t.pod p = { s.pod p with start := false } ∧ podAlone s t p 8)) ∧
  (∀ (s : State) (p col : Nat), p < 64 → col < 33 →
    (s.takes (POD_CMD p) → s.flag (POD_STATUS_Failed p) = false →
      s.flag (POD_COLMAP_Steered p) = false → s.flag (POD_COLMAP_SpareBad p) = false → col ∉ (s.pod p).steer →
      gives (.steerRequest p col) s fun t => (t.pod p).steer = (s.pod p).steer ++ [col] ∧ podAlone s t p 8) ∧
    (s.takes (POD_CMD p) → s.flag (POD_STATUS_Failed p) = false →
      (s.flag (POD_COLMAP_Steered p) = true ∨ s.flag (POD_COLMAP_SpareBad p) = true) → col ∉ (s.pod p).steer →
      s.owner p = none → gives (.steerRequest p col) s fun t => t.flag (POD_STATUS_Failed p) = true ∧
        (t.pod p).steer = [] ∧ (t.pod p).start = false ∧ ((s.pod p).seq = true → podFaulted s t p 9) ∧ podAlone s t p 8) ∧
    (s.fastClk = true → s.flag (POD_SPARECFG_AutoSteer p) = false → gives (.cellParityError p col false) s fun t =>
      t.reg (POD_COLERR p col) = s.reg (POD_COLERR p col) + 1 ∧ t.reg (POD_PARITY p) = s.reg (POD_PARITY p) + 1 ∧
        t.reg (ERL_PARCNT 9) = s.reg (ERL_PARCNT 9) + 1 ∧ (t.pod p).act.contam = true ∧ podAlone s t p 8) ∧
    (s.fastClk = true → s.flag (POD_SPARECFG_AutoSteer p) = true → s.flag (POD_STATUS_Failed p) = false →
      s.flag (POD_COLMAP_Steered p) = false → s.flag (POD_COLMAP_SpareBad p) = false → col ∉ (s.pod p).steer →
      max 1 (s.fget (POD_SPARECFG_Limit p)) ≤ (s.reg (POD_COLERR p col) + 1).toNat →
      gives (.cellParityError p col false) s fun t => (t.pod p).steer = (s.pod p).steer ++ [col] ∧
        (t.pod p).act.contam = true ∧ t.reg (POD_COLERR p col) = s.reg (POD_COLERR p col) + 1 ∧ podAlone s t p 8) ∧
    (s.fastClk = true → (s.pod p).reloading = true → gives (.steerReloadDone p) s fun t => (t.pod p).reloading = false ∧
      (t.pod p).weights = (s.pod p).weights.map (fun x => s.weightSet p x.set x.chan) ∧ podAlone s t p 8))

/-! ## The Husk, egress and the contexts -/

/-- The front end takes the step of the next pod of its column that offers one; switched off, in reset, behind a held crossing or
without room for a step in the lane's buffer it refuses every offer, counts the cycle and takes nothing. The back end discards a
drain of no context, of a mixed bank, without its map entries or in excess, with its counter, flag and log entry; it holds one
whose window is not yet applied, whose buffer a dump holds (counted once) or for whose sums the power stage has no room (counted
each time). A correlation drain of the window being applied: it has arrived for its group, and with the last drain of the window
the next window is applied, after the last one of an integration with its dump queued. Each value that R119 keeps enters its
element of the spill by the sums of R122 to R126: the first window of an integration sets it, later ones add to it. A beam drain of
the window being applied: the values outside its frames or beams are discarded and counted; of a power context each entry of the
power stage takes the powers of its beam and channel over the drain's frames and their count; of a voltage context the block of
requantized samples goes to the packer. (The model's own readings and choices in this: log entries 200, 287.) -/
def Obligations.HuskTakesDrains : Prop :=
  (∀ (s : State) (n : Nat), n < 8 → s.isRun = true →
    (∀ r, r < 8 → s.flag HUSK_CTRL_Enable = true → s.unitInReset 18 = false → s.xIsHeld 7 n = false → s.frontUsed n + 32 ≤ 16384 →
      ((List.range 8).map fun i => (tget 0 s.husk.last n + i) % 8).find? (fun x => (s.pod (8 * x + n)).offers) = some r →
      gives (.huskStepAccept n) s fun t => tget 0 t.husk.last n = r + 1 ∧
        ((t.pod (8 * r + n)).drains.head?.map DrainRec.steps) = ((s.pod (8 * r + n)).drains.head?.map fun d => d.steps + 1)) ∧
    ((∃ r < 8, (s.pod (8 * r + n)).offers = true) → (s.flag HUSK_CTRL_Enable = false ∨ s.unitInReset 18 = true ∨
        s.xIsHeld 7 n = true ∨ 16384 < s.frontUsed n + 32) → gives (.huskStepAccept n) s fun t =>
      t.reg HUSK_FEHOLD = s.reg HUSK_FEHOLD + 1 ∧ t.husk.last = s.husk.last ∧ t.husk.held = s.husk.held ∧
        ∀ p, (t.pod p).drains = (s.pod p).drains)) ∧
  (∀ (s : State) (n : Nat) (d : DrainRec) (ds : List DrainRec), n < 8 → s.isRun = true →
    s.unitInReset 18 = false → s.xIsHeld 7 n = false → s.hbmHeld = false → tget [] s.husk.held n = d :: ds →
    (d.ctx = none → gives (.drainApply n) s fun t =>
      tget [] t.husk.held n = ds ∧ t.reg HUSK_MAPMISS = s.reg HUSK_MAPMISS + 1) ∧
    (∀ c h pg g, s.drainOf d c h pg g → d.bank.mixed = true → gives (.drainApply n) s fun t => tget [] t.husk.held n = ds ∧
      t.reg HUSK_MIXED = s.reg HUSK_MIXED + 1 ∧ t.flag HUSK_STATUS_Mixed = true ∧ logged t 0x0E 0 c) ∧
    (∀ c h pg g, s.drainOf d c h pg g → d.bank.mixed = false → s.mapEntries c d = none → gives (.drainApply n) s fun t =>
      tget [] t.husk.held n = ds ∧ t.reg HUSK_MAPMISS = s.reg HUSK_MAPMISS + 1 ∧ t.flag HUSK_STATUS_MapMiss = true ∧
        logged t 0x0F 0 c) ∧
    (∀ c h, c < 4096 → d.ctx = some c → s.huskCtx c = some h → (s.ctxState c = 3 ∨ s.ctxState c = 4) →
      (∀ pg, d.bank.pg = some pg → pg.g < s.ctxFirst c ∨ s.ctxFirst c + s.ctxGroups c ≤ pg.g ∨ pg.k < h.k0) →
      gives (.drainApply n) s fun t => tget [] t.husk.held n = ds ∧ t.reg HUSK_MAPMISS = s.reg HUSK_MAPMISS + 1 ∧
        t.flag HUSK_STATUS_MapMiss = true ∧ logged t 0x0F 0 c) ∧
    (∀ c h pg g, s.drainOf d c h pg g → d.bank.mixed = false → (s.mapEntries c d).isSome = true →
      (pg.k < h.win ∨ s.fget (HUSK_DAUX_DrainsPerPgMinus1 c) < tget 0 h.arrived g) → gives (.drainApply n) s fun t =>
      tget [] t.husk.held n = ds ∧ t.reg HUSK_EXCESS = s.reg HUSK_EXCESS + 1 ∧ logged t 0x10 0 c) ∧
    (ds = [] → s.verdict n d = .order → gives (.drainApply n) s fun t => tget [] t.husk.held n = [d] ∧ t.regs = s.regs) ∧
    (ds = [] → s.verdict n d = .late → gives (.drainApply n) s fun t => tget [] t.husk.held n = [{ d with late := true }] ∧
      (d.late = false → t.reg HUSK_DUMPLATE = s.reg HUSK_DUMPLATE + 1 ∧ t.flag HUSK_STATUS_DumpLate = true) ∧
      (d.late = true → t.regs = s.regs)) ∧
    (ds = [] → s.verdict n d = .stage → gives (.drainApply n) s fun t => tget [] t.husk.held n = [d] ∧
      t.husk.power = s.husk.power ∧ t.reg HUSK_STAGEHOLD = s.reg HUSK_STAGEHOLD + 1)) ∧
  (∀ (s : State) (n c g m : Nat) (d : DrainRec) (ds : List DrainRec) (h : HuskCtx) (pg : PgId)
      (ents : List Nat), n < 8 → s.isRun = true → s.unitInReset 18 = false → s.xIsHeld 7 n = false → s.hbmHeld = false →
    tget [] s.husk.held n = d :: ds → s.drainOf d c h pg g → d.bank.mixed = false → s.mapEntries c d = some ents → pg.k = h.win →
    tget 0 h.arrived g ≤ s.fget (HUSK_DAUX_DrainsPerPgMinus1 c) → d.beam = false → s.ctxKind c ≤ 1 → m = h.integ (s.ctxP c) h.win →
    gives (.drainApply n) s fun t => tget [] t.husk.held n = ds ∧
      (tget 0 h.arrived g < s.fget (HUSK_DAUX_DrainsPerPgMinus1 c) →
        t.husk.dumps = s.husk.dumps ∧ ∃ x, t.huskCtx c = some x ∧ x.win = h.win ∧ tget 0 x.arrived g = tget 0 h.arrived g + 1) ∧
      (tget 0 h.arrived g = s.fget (HUSK_DAUX_DrainsPerPgMinus1 c) →
        (∀ q < s.ctxGroups c, q ≠ g → s.fget (HUSK_DAUX_DrainsPerPgMinus1 c) < tget 0 h.arrived q) →
        (∃ x, t.huskCtx c = some x ∧ x.win = h.win + 1 ∧ x.arrived = []) ∧
        ((h.win + 1 - h.k0) % s.ctxP c ≠ 0 → tget [] t.husk.dumps c = tget [] s.husk.dumps c) ∧
        ((h.win + 1 - h.k0) % s.ctxP c = 0 → ∃ y, tget [] t.husk.dumps c = tget [] s.husk.dumps c ++ [y] ∧
          y.n = m ∧ y.sent = 0)) ∧
      t.reg HUSK_DISCARD = s.reg HUSK_DISCARD + BitVec.ofNat 32
        (((List.range (1024 * d.slots)).filter fun e => s.corrElem c g ents d (e / 32) (e % 32) = none).length) ∧
      ∀ k col e a, k < 32 * d.slots → col < 32 → s.corrElem c g ents d k col = some e → a = s.elemAddr c m e →
        (∀ k' col', k' < 32 * d.slots → col' < 32 → s.corrElem c g ents d k' col' = some e → k' = k ∧ col' = col) →
        (a + s.valueBytes c ≤ s.chaffHalf c m ∨ s.chaffHalf c m + 8192 + 64 * 2 ^ s.fget (HUSK_DCFG_ChaffBits c) ≤ a) →
        s.mapStays → s.hbmHolds a (s.valueBytes c) →
        t.hbmBytes a (s.valueBytes c) = (spillWords (decide ((h.win - h.k0) % s.ctxP c = 0)) (s.ctxS64 c)
          (s.hbmWords a (s.valueBytes c / 4))
          [fOfInt (d.bank.cell (k % d.slots) (31 - k / d.slots) col).re, fOfInt (d.bank.cell (k % d.slots) (31 - k / d.slots) col).im]
          [s.batchDraw n h.win (s.mapIndex c d) c (64 * k + 2 * col + 1),
            s.batchDraw n h.win (s.mapIndex c d) c (64 * k + 2 * col + 2)]).flatMap fun w => leBytes 4 w) ∧
  (∀ (s : State) (n c g i : Nat) (d : DrainRec) (ds : List DrainRec) (h : HuskCtx) (pg : PgId)
      (ents : List Nat), n < 8 → s.isRun = true → s.unitInReset 18 = false → s.xIsHeld 7 n = false → s.hbmHeld = false →
    tget [] s.husk.held n = d :: ds → s.drainOf d c h pg g → d.bank.mixed = false → s.mapEntries c d = some ents → pg.k = h.win →
    i = ents.headD 0 → tget 0 h.arrived g < s.fget (HUSK_DAUX_DrainsPerPgMinus1 c) → d.beam = true →
    (s.ctxKind c = 3 → s.powerUsed n + s.powerNew (s.powerAdds n c h.win g i d).1 ≤ 4096 → gives (.drainApply n) s fun t =>
      tget [] t.husk.held n = ds ∧ t.reg HUSK_DISCARD = s.reg HUSK_DISCARD + BitVec.ofNat 32 (s.beamDiscards c i d) ∧
      ∀ r k, r < 32 → k < 4 → s.fget (HUSK_MAP_HI_RowOrBeamBase i) + r < s.ctxBeams c → 0 < d.slots →
        tget none t.husk.power (powerKey n c h.win g (s.fget (HUSK_MAP_HI_RowOrBeamBase i) + r) k) =
          let old := (tget none s.husk.power (powerKey n c h.win g (s.fget (HUSK_MAP_HI_RowOrBeamBase i) + r) k)).getD (0, 0)
          let cells := ((List.range (32 * d.slots)).filter fun e => e % 4 = k ∧ e / 4 ≤ s.fget (HUSK_MAP_LO_FramesMinus1 i)).map
            fun e => d.bank.cell (e / 32) r (e % 32)
          some (old.1 + (cells.map fun v => v.re * v.re + v.im * v.im).sum, old.2 + (cells.map Cell.cnt).sum)) ∧
    (s.ctxKind c = 4 → s.powerUsed n + s.powerNew (s.powerAdds n c h.win g i d).1 ≤ 4096 → gives (.drainApply n) s fun t =>
      tget [] t.husk.held n = ds ∧ t.husk.power = (s.powerAdd (s.powerAdds n c h.win g i d).1).husk.power ∧
      t.reg HUSK_DISCARD = s.reg HUSK_DISCARD + BitVec.ofNat 32 (s.beamDiscards c i d) +
        BitVec.ofNat 32 (s.powerAdds n c h.win g i d).2) ∧
    (s.ctxKind c = 2 → gives (.drainApply n) s fun t => tget [] t.husk.held n = ds ∧
      t.reg HUSK_DISCARD = s.reg HUSK_DISCARD + BitVec.ofNat 32 (s.beamDiscards c i d) ∧
      t.reg HUSK_SATCNT = s.reg HUSK_SATCNT + BitVec.ofNat 32 (s.voltBlock c i d).2.2.2 ∧
      (s.ctxEmit c = false → tget [] t.husk.volt c = tget [] s.husk.volt c) ∧
      (s.ctxEmit c = true → ∃ b, tget [] t.husk.volt c = tget [] s.husk.volt c ++ [b] ∧ b.win = h.win ∧ b.g = g ∧
        b.frames = (s.voltBlock c i d).1 ∧ b.deficit = (s.voltBlock c i d).2.2.1)))

/-- The packer forms the next packet of a spilling or TOPK interval, or of a voltage block, and sends it to its context's
destination; the interval then stands at its next packet, and a TOPK interval ends with its last one. A dump whose packets have all
left, or that forms none, ends: it is counted and leaves; an interval with packets counts as emitted. (The model's own readings and
choices in this: log entries 54, 312, 313.) -/
def Obligations.HuskSendsProducts : Prop :=
  (∀ (s : State) (c x : Nat), c < 4096 → s.isRun = true → s.ctxEmit c = true →
    s.unitInReset 18 = false → s.unitInReset 19 = false → s.hbmHeld = false → s.txHeld c = false → x = s.fget (CTX_DEST_Dest c) →
    (∀ d rest, s.ctxKind c ≠ 2 → tget [] s.husk.dumps c = d :: rest → d.sent < s.pktTotal c d → ∃ t,
      exec (.packetSend c) s = .next t ∧ packetGoes s t c x d.sent (s.dumpBody c d) ∧
        (s.ctxKind c ≠ 5 → ((tget [] t.husk.dumps c).head?.map Dump.sent) = some (d.sent + 1)) ∧
        (s.ctxKind c = 5 → s.pktTotal c d ≤ d.sent + 1 → tget [] t.husk.dumps c = rest)) ∧
    (∀ b rest, s.ctxKind c = 2 → tget [] s.husk.volt c = b :: rest → ∃ t, exec (.packetSend c) s = .next t ∧
      packetGoes s t c x (tget (0, 0, false, 0) s.husk.voltPos c).1 (s.voltBody c b) ∧
      (b.frames.length ≤ (tget (0, 0, false, 0) s.husk.voltPos c).2.1 + fitCount (s.pktRoom c) (b.frames.headD []).length →
        tget [] t.husk.volt c = rest))) ∧
  (∀ (s : State) (c : Nat) (d : Dump) (rest : List Dump), c < 4096 → s.isRun = true →
    s.ctxKind c ≠ 5 → s.unitInReset 18 = false → tget [] s.husk.dumps c = d :: rest →
    (s.ctxEmit c = false ∨ s.pktTotal c d ≤ d.sent) → ∃ t, exec (.dumpEnd c) s = .next t ∧ tget [] t.husk.dumps c = rest ∧
      t.reg HUSK_DUMPS = s.reg HUSK_DUMPS + 1 ∧
      (s.ctxEmit c = true → t.reg (CTX_EMITTED c) = s.reg (CTX_EMITTED c) + 1))

/-- START at the head of the command unit: a context that passes every check is armed; one that fails a check keeps its state and
tells the code. STOP of a RUNNING context begins its draining and clears Run in its tile, but the lead's context is refused while
others of its partition are live; an ARMED context, and a TOPK one, becomes STOPPED at once; of a STOPPED, EMPTY or DRAINING one
STOP changes no state. The end of the draining makes a context STOPPED. (The model's own readings and choices in this: log entry
289.) -/
def Obligations.ContextRuns : Prop :=
  (∀ (s u : State) (c : Nat), c < 4096 → s.takeCmd true c = some u →
    (u.startCode c false false = 0 → gives (.ctxStart c) s fun t => t.ctxState c = 2 ∧ t.fget CTX_CSTAT_LastCode = 0 ∧
      t.fget CTX_CSTAT_LastContext = c ∧ t.fget (CTX_STATE_Loading c) = (if s.ctxKind c = 5 then 0 else 1)) ∧
    (∀ code, u.startCode c false false = code → code ≠ 0 → gives (.ctxStart c) s fun t => t.ctxState c = s.ctxState c ∧
      t.fget CTX_CSTAT_LastCode = code ∧ t.fget (CTX_STATE_LastRefusal c) = code)) ∧
  (∀ (s : State) (c : Nat), c < 4096 → s.ctxs.leadWait = [] →
    (∀ p ∈ s.tile c, s.xIsHeld 6 p = false) →
    (∀ u, s.takeCmd false c = some u → s.ctxState c = 3 → s.ctxKind c ≠ 5 → (s.hasLead c = false ∨ s.othersLive c = false) →
      gives (.ctxStop c) s fun t => t.ctxState c = 4 ∧ t.fget CTX_CSTAT_LastCode = 0 ∧
        ∀ p ∈ s.tile c, t.fget (POD_CTRL_Run p) = 0) ∧
    (∀ u, s.takeCmd false c = some u → (s.ctxState c = 2 ∨ s.ctxState c = 3) → s.ctxKind c ≠ 5 → s.hasLead c = true →
      s.othersLive c = true → gives (.ctxStop c) s fun t => t.ctxState c = s.ctxState c ∧ t.fget CTX_CSTAT_LastCode = 0x0F) ∧
    (∀ u, s.takeCmd false c = some u → s.ctxState c = 2 → s.ctxKind c ≠ 5 → (s.hasLead c = false ∨ s.othersLive c = false) →
      gives (.ctxStop c) s fun t => t.ctxState c = 1 ∧ t.fget CTX_CSTAT_LastCode = 0) ∧
    (∀ u, s.takeCmd false c = some u → (s.ctxState c = 2 ∨ s.ctxState c = 3) → s.ctxKind c = 5 →
      gives (.ctxStop c) s fun t => t.ctxState c = 1 ∧ t.fget CTX_CSTAT_LastCode = 0) ∧
    (∀ u, s.takeCmd false c = some u → (s.ctxState c ≤ 1 ∨ s.ctxState c = 4) → gives (.ctxStop c) s fun t =>
      t.ctxState c = s.ctxState c ∧ t.fget CTX_CSTAT_LastCode = 0) ∧
    (s.ctxState c = 4 → s.tileStopped c = true → s.drainsLeft c = false → s.emitLeft c = false →
      gives (.drainingDone c) s fun t => t.ctxState c = 1 ∧ t.huskCtx c = none))

/-- A write of the entry of a STOPPED or EMPTY context makes it STOPPED with Valid 1 and EMPTY with Valid 0; the end of the fill
ends the loading. The automatic restart of a FAULTED context whose checks pass arms it again and counts; one whose check fails
stays FAULTED and tells the code; the scrub faults a RUNNING context whose entry has an uncorrectable error. (The model's own
readings and choices in this: log entry 290.) -/
def Obligations.ContextUpkeep : Prop :=
  (∀ (s : State) (c : Nat) (v : Word), c < 4096 →
    (s.takes (CTX_CFG c) → s.ctxOpen c = true → gives (.ctxValidWrite c v) s fun t =>
      t.reg (CTX_CFG c) = v &&& 0xFFEFFFFF#32 ∧ t.ctxState c = (CTX_CFG_Valid c).of v) ∧
    (s.ctxState c = 2 → s.flag (CTX_STATE_Loading c) = true → s.unitInReset 20 = false → s.hbmHeld = false → s.startMode c ≠ 0 →
      gives (.weightFillDone c) s fun t =>
      t.fget (CTX_STATE_Loading c) = 0 ∧ t.ctxState c = 2)) ∧
  (∀ (s : State) (c : Nat), c < 4096 →
    (s.mayRestart c = true → s.startCode c true true = 0 → gives (.autoRestart c) s fun t => t.ctxState c = 2 ∧
      t.fget (CTX_STATE_RestartCount c) = min 255 (s.fget (CTX_STATE_RestartCount c) + 1)) ∧
    (∀ code, s.mayRestart c = true → s.startCode c true true = code → code ≠ 0 → gives (.autoRestart c) s fun t =>
      t.ctxState c = 5 ∧ t.fget (CTX_STATE_LastRefusal c) = code) ∧
    ((∀ x < 4096, s.eccOk (CTX_CFG x) = true) → exec .ctxScrub s = .next s) ∧
    ((∀ x < 4096, s.eccOk (CTX_CFG x) = false ↔ x = c) → s.ctxState c = 3 →
      gives .ctxScrub s fun t => t.ctxState c = 5 ∧ t.fget (CTX_STATE_FaultCause c) = 0x20))

/-! ## Ingest, the F-chain and the Hull -/

/-- The deframer's checks: a header whose CRC does not match and a format that does not hold are counted each at its counter and
nothing else changes; a good frame of which no slot takes a path is counted, and each path as unmapped. A good frame of one path
whose samples start at the index its slot expects: where the engine's input buffer is full (a free value) the slot drops the frame
and counts it; otherwise it takes every sample, expects the index after the last, and the invalid ones are counted. (The model's
own readings and choices in this: log entry 277.) -/
def Obligations.Ingest : Prop :=
  (∀ (s : State) (lane k : Nat) (f : List Byte) (fs : List (Nat × List Byte)), lane < 96 →
    tget [] s.ln.rxq lane = (k, f) :: fs → s.fget (LN_CFG_Mode lane) = 1 → s.xIsHeld 0 lane = false → s.isRun = true →
    s.flag IMG_STATUS_SproutActive = false → 16 ≤ f.length →
    (crc16 (f.take 14) ≠ beAt f 14 2 → gives (.ingestFrame lane) s fun t => tget [] t.ln.rxq lane = fs ∧
      t.reg (LN_DFHDR lane) = s.reg (LN_DFHDR lane) + 1 ∧ t.fch = s.fch ∧ regsBut s t [LN_DFHDR lane]) ∧
    (crc16 (f.take 14) = beAt f 14 2 → (ingestHdr f).ok f.length = false → gives (.ingestFrame lane) s fun t =>
      tget [] t.ln.rxq lane = fs ∧ t.reg (LN_DFFMT lane) = s.reg (LN_DFFMT lane) + 1 ∧ t.fch = s.fch ∧
        regsBut s t [LN_DFFMT lane]) ∧
    (crc16 (f.take 14) = beAt f 14 2 → (ingestHdr f).ok f.length = true →
      (∀ p < (ingestHdr f).pathCount, s.slotsOf lane ((ingestHdr f).firstPath + p) = []) →
      gives (.ingestFrame lane) s fun t => tget [] t.ln.rxq lane = fs ∧ t.reg (LN_DFOK lane) = s.reg (LN_DFOK lane) + 1 ∧
        t.reg (LN_DFUNMAP lane) = s.reg (LN_DFUNMAP lane) + BitVec.ofNat 32 (ingestHdr f).pathCount ∧ t.fch = s.fch ∧
        regsBut s t [LN_DFOK lane, LN_DFUNMAP lane])) ∧
  (∀ (s : State) (lane e q k : Nat) (f : List Byte) (fs : List (Nat × List Byte)),
    lane < 96 → tget [] s.ln.rxq lane = (k, f) :: fs → s.unitInReset e = false → s.fget (LN_CFG_Mode lane) = 1 →
      s.xIsHeld 0 lane = false → s.isRun = true →
    s.flag IMG_STATUS_SproutActive = false → 16 ≤ f.length → crc16 (f.take 14) = beAt f 14 2 →
    (ingestHdr f).ok f.length = true → (ingestHdr f).pathCount = 1 → s.slotsOf lane (ingestHdr f).firstPath = [(e, q)] →
    decide ((ingestHdr f).format = 1) = s.flag (FCH_PSRC_Real e q) →
    s.flag (FCH_STATUS_Anchored e) = true → 3 ≤ (s.slot e q).phase → (s.slot e q).joining = false →
    idxDiff (ingestHdr f).index (s.slot e q).x = 0 → gives (.ingestFrame lane) s fun t =>
      t.reg (LN_DFOK lane) = s.reg (LN_DFOK lane) + 1 ∧
      if Config.inputBufferFull s.fresh = true then
        t.fch = s.fch ∧ regsBut s t [LN_DFOK lane, FCH_DROPFR e q] ∧ t.reg (FCH_DROPFR e q) = s.reg (FCH_DROPFR e q) + 1
      else
        (t.slot e q).x = idxAdd (ingestHdr f).index (ingestHdr f).sampleCount ∧
        t.reg (FCH_INVIN e q) = s.reg (FCH_INVIN e q) + BitVec.ofNat 32 (((pathSamples (ingestHdr f) f 0).map
          (smpOf (ingestHdr f).clockBad (decide ((ingestHdr f).format = 1)))).filter (·.inv)).length)

/-- The SYNC event: every engine takes its next anchor index, its running slots wait for the anchor with empty chains; the lowest
enabled engine passes the index on to the Hull, and with none enabled the Hull holds nothing of the old numbering at once. (The
model's own readings and choices in this: log entry 282.) -/
def Obligations.SyncAnchors : Prop := ∀ s : State, s.fastClk = true → 2 ≤ s.pwrState → s.xIsHeld 10 0 = false →
  gives .syncEvent s fun t =>
  (∀ e, e < 16 → t.fget (FCH_STATUS_Anchored e) = 1 ∧
    t.fchS e = s.get2 (FCH_SYNCNEXT_LO e) (FCH_SYNCNEXT_HI e) % 2 ^ 48 ∧
    ∀ p, p < 16 → s.slotOn e p = true → t.slot e p = { SlotSt.idle with phase := 2 }) ∧
  ((∀ e < 16, s.flag (FCH_CTRL_Enable e) = false) → t.hull.held = [] ∧ t.hull.track = [] ∧ t.hull.ring = [] ∧
    t.hull.lfi = none ∧ t.hull.tag = none ∧ t.hull.tagq = []) ∧
  (∀ e < 16, s.flag (FCH_CTRL_Enable e) = true → (∀ d < e, s.flag (FCH_CTRL_Enable d) = false) →
    t.hull = { s.hull with tagq := s.hull.tagq ++ [(e, s.get2 (FCH_SYNCNEXT_LO e) (FCH_SYNCNEXT_HI e) % 2 ^ 48)] })

/-- The enables of engine and slot: set to 1 where the limits hold, and the slots that now run are idle, or join where an anchor
has been taken; refused with ConfigErr, and nothing else, where they do not. The enables of the Hull and of a stream: set where the
checks hold, a stream then at window 0, group 0, half 0 with both regions free; refused with ConfigErr, and nothing else, where
they do not. (The model's own readings and choices in this: log entries 180, 181, 186.) -/
def Obligations.UnitEnables : Prop :=
  (∀ (s : State) (e p : Nat), e < 16 → p < 16 →
    (s.takes (FCH_CTRL e) → s.flag (FCH_CTRL_Enable e) = false →
      (s.fchLimitsOk e (s.enabledSlots e none) = true → gives (.fchEnable e) s fun t => t.fget (FCH_CTRL_Enable e) = 1 ∧
        regsBut s t [FCH_CTRL e] ∧ (s.flag (FCH_PSRC_Enable e p) = true → t.slot e p =
          if s.flag (FCH_STATUS_Anchored e) then { SlotSt.idle with phase := 2, joining := true } else SlotSt.idle)) ∧
      (s.fchLimitsOk e (s.enabledSlots e none) = false → exec (.fchEnable e) s = .next (s.fset (FCH_STATUS_ConfigErr e) 1))) ∧
    (s.takes (FCH_PSRC e p) → s.flag (FCH_PSRC_Enable e p) = false →
      (s.fchLimitsOk e (s.enabledSlots e (some p)) = true → gives (.fchSlotEnable e p) s fun t =>
        t.fget (FCH_PSRC_Enable e p) = 1 ∧ regsBut s t [FCH_PSRC e p] ∧ (s.flag (FCH_CTRL_Enable e) = true → t.slot e p =
          if s.flag (FCH_STATUS_Anchored e) then { SlotSt.idle with phase := 2, joining := true } else SlotSt.idle)) ∧
      (s.fchLimitsOk e (s.enabledSlots e (some p)) = false →
        exec (.fchSlotEnable e p) s = .next (s.fset (FCH_STATUS_ConfigErr e) 1)))) ∧
  (∀ (s : State) (st : Nat), st < 4 →
    (s.takes HULL_CTRL → s.flag HULL_CTRL_Enable = false →
      (s.hullCheck = true → gives .hullEnable s fun t => t.fget HULL_CTRL_Enable = 1 ∧ t.fget HULL_STATUS_Running = 1 ∧
        t.hull = s.hull ∧ regsBut s t [HULL_CTRL, HULL_STATUS]) ∧
      (s.hullCheck = false → exec .hullEnable s = .next (s.fset HULL_STATUS_ConfigErr 1))) ∧
    (s.takes (HULL_SCTRL st) → s.flag (HULL_SCTRL_Enable st) = false →
      (s.streamCheck st = true → gives (.hullStreamEnable st) s fun t => t.fget (HULL_SCTRL_Enable st) = 1 ∧
        tget StreamSt.zero t.hull.stream st = ⟨0, 0, 0, 0, false⟩ ∧ tget none t.hull.region (2 * st) = none ∧
        tget none t.hull.region (2 * st + 1) = none ∧ (∀ n < 8, tget 0 t.hull.taken (4 * n + st) = 0) ∧
        regsBut s t [HULL_SCTRL st]) ∧
      (s.streamCheck st = false → exec (.hullStreamEnable st) s = .next (s.fset HULL_STATUS_ConfigErr 1))))

/-- The gain table: a write stores in the bank that is not active and the index advances, every other word keeps its value; a read
by the host advances the index too; while a swap is pending a write stores nothing. The gain swap: armed it waits for the running
slots at the frame index the two words give, and a slot already past that frame makes it late; with no slot running the banks
change at once. -/
def Obligations.Gains : Prop :=
  (∀ (s : State) (e : Nat) (v : Word), e < 16 → s.takes (FCH_GDATA e) →
    (s.flag (FCH_STATUS_SwapPending e) = false → gives (.fchGdataWrite e v) s fun t =>
      t.gainAt e (1 - s.fget (FCH_CTRL_ActiveBank e)) (s.fget (FCH_GADDR_Index e)) = v ∧
      t.fget (FCH_GADDR_Index e) = (s.fget (FCH_GADDR_Index e) + 1) % 262144 ∧ regsBut s t [FCH_GADDR e] ∧
      ∀ d b i, b < 2 → i < 262144 → (d ≠ e ∨ b ≠ 1 - s.fget (FCH_CTRL_ActiveBank e) ∨ i ≠ s.fget (FCH_GADDR_Index e)) →
        t.gainAt d b i = s.gainAt d b i) ∧
    (s.flag (FCH_STATUS_SwapPending e) = true → gives (.fchGdataWrite e v) s fun t => t.fch = s.fch ∧
      t.fget (FCH_GADDR_Index e) = s.fget (FCH_GADDR_Index e)) ∧
    (gives (.fchGdataRead e) s fun t => t.fget (FCH_GADDR_Index e) = (s.fget (FCH_GADDR_Index e) + 1) % 262144 ∧
      t.fch = s.fch ∧ regsBut s t [FCH_GADDR e])) ∧
  (∀ (s : State) (e : Nat) (v : Word), e < 16 → s.takes (FCH_GSWAP_HI e) → s.flag (FCH_STATUS_SwapPending e) = false →
    (∀ p, p < 16 → s.slotOn e p = true → (s.slot e p).swapped = false → gives (.gainSwapArm e v) s fun t =>
      t.fget (FCH_STATUS_SwapPending e) = 1 ∧ t.fget (FCH_CTRL_ActiveBank e) = s.fget (FCH_CTRL_ActiveBank e) ∧
      tget 0 t.fch.swapFrom e = (s.reg (FCH_GSWAP_LO e)).toNat + 2 ^ 32 * (v.toNat % 2 ^ 16) ∧
      (idxDiff ((s.reg (FCH_GSWAP_LO e)).toNat + 2 ^ 32 * (v.toNat % 2 ^ 16)) (s.slot e p).nextFrame < 0 →
        t.fget (FCH_STATUS_LateSwap e) = 1)) ∧
    ((∀ p, p < 16 → s.slotOn e p = false) → gives (.gainSwapArm e v) s fun t => t.fget (FCH_STATUS_SwapPending e) = 0 ∧
      t.fget (FCH_CTRL_ActiveBank e) = 1 - s.fget (FCH_CTRL_ActiveBank e)))

/-- A complete spectrum frame crosses to the Hull: it leaves the engine, the local frame index rises to its index, and it is the
newest frame the sender holds of the engine, with a DATA frame, header and samples, for every run of groups whose owner is another
reachable node. The anchor tag, with which the Hull holds nothing of the old numbering, and the closing of a tracking entry when
the local frame index has passed its block and the slack. A delivered DATA frame: refused and counted while the Hull is off or
where the format does not hold; taken where it does, every run is stored at its corner-turn address, counted, and the tracking
entry and the ring slot say so. (The model's own readings and choices in this: log entries 183, 279, 280, 282.) -/
def Obligations.HullFrames : Prop :=
  (∀ (s : State) (e : Nat) (f : EngFrame) (fs : List EngFrame), e < 16 →
    s.xIsHeld 3 e = false → s.hbmHeld = false → s.unitInReset e = false → s.unitInReset 16 = false → s.hull.tagq = [] →
      tget [] s.fch.pend e = f :: fs → s.frameComplete e f.j fs.length = true →
    (s.hullOn = false → gives (.spectrumFrameToHull e) s fun t => tget [] t.fch.pend e = fs ∧ t.hull = s.hull ∧
      regsBut s t []) ∧
    (s.hullOn = true → gives (.spectrumFrameToHull e) s fun t => tget [] t.fch.pend e = fs ∧
      t.hull.lfi = some (match s.hull.lfi with | none => f.j | some l => if 0 < idxDiff f.j l then f.j else l) ∧
      ∃ h, (tget [] t.hull.held e).getLast? = some h ∧ h.j = f.j ∧
        ∀ n, n ≠ s.node → s.reachable n = true → (s.localIndex f.j).beforeTbr n (f.j / 16) = false →
          ∀ d ∈ s.remoteFrames e f ((s.enabledSlots e none).map fun p => s.slotData e p f) n
            ((List.range (s.fchC e / 4)).filter fun g => (s.flag (HULL_OWN_Valid g) && s.eccOk (HULL_OWN g)) &&
              decide (s.groupOwner g = n)) (f.slots.any (·.contam)),
            ∃ x ∈ h.frames, x.dest = n ∧ x.runs = d.1.runs ∧ t.heldPayload x = d.1.hdr ++ d.2)) ∧
  (∀ (s : State) (i tb : Nat),
    (∀ e x xs, s.hull.tagq = (e, x) :: xs → s.xIsHeld 3 e = false → s.unitInReset 16 = false →
      gives .hullAnchorTag s fun t => t.hull.tag = some (x % 65536) ∧ t.hull.tagq = xs ∧ t.hull.held = [] ∧ t.hull.track = [] ∧
        t.hull.ring = [] ∧ t.hull.lfi = none ∧ t.hull.region = s.hull.region ∧ regsBut s t []) ∧
    (∀ l, i < 256 → tb < 2 ^ 44 → s.hull.lfi = some l → s.hullOn = true → s.unitInReset 16 = false → s.srcValid i = true →
      (s.trackOf i tb).closed = false →
      (0 ≤ idxDiff l (idxAdd (16 * (tb + 1)) (s.fget HULL_SLACK_Frames)) → gives (.entryClose i tb) s fun t =>
        (t.trackOf i tb).closed = true ∧ (t.trackOf i tb).next = (s.trackOf i tb).next ∧
        (t.trackOf i tb).unreach = !s.reachable (s.fget (HULL_SRC_Node i)) ∧ regsBut s t []) ∧
      (idxDiff l (idxAdd (16 * (tb + 1)) (s.fget HULL_SLACK_Frames)) < 0 → exec (.entryClose i tb) s = .next s))) ∧
  (∀ (s : State) (f : Inbound) (fs : List Inbound) (p : List Byte)
      (i count gn run first g0 j pos : Nat) (k : Track), s.hull.inq = f :: fs → s.unitInReset 16 = false → s.hbmHeld = false →
        p = f.payload → count = beAt p 8 2 % 16 + 1 →
    gn = byteAt p 12 → run = count * 4 * fmtBytes s.hullFormat → first = beAt p 8 2 / 16 → g0 = beAt p 10 2 → j = beAt p 2 6 →
    (s.hullOn = false ∨ byteAt p 0 / 16 ≠ 1 ∨ byteAt p 0 / 4 % 4 ≠ s.hullFormat ∨ gn = 0 ∨ 31 < gn ∨
      p.length ≠ 16 + gn * run ∨ 4096 < p.length ∨ s.srcOf f.node (byteAt p 1 / 16) = none ∨
      s.hullPaths < first + count ∨ g0 < s.ownFirst ∨ s.ownFirst + s.ownCount < g0 + gn → gives .hullDataFrame s fun t =>
        t.hull = { s.hull with inq := fs } ∧ t.hbm = s.hbm ∧ t.reg HULL_RXBAD = s.reg HULL_RXBAD + 1 ∧
        regsBut s t [HULL_RXBAD]) ∧
    (s.hullOn = true → byteAt p 0 / 16 = 1 → byteAt p 0 / 4 % 4 = s.hullFormat → 0 < gn → gn ≤ 31 →
      p.length = 16 + gn * run → p.length ≤ 4096 → s.srcOf f.node (byteAt p 1 / 16) = some i →
      first + count ≤ s.hullPaths → s.ownFirst ≤ g0 → g0 + gn ≤ s.ownFirst + s.ownCount →
      (s.hull.tag ≠ some (beAt p 14 2) → gives .hullDataFrame s fun t => t.hull = { s.hull with inq := fs } ∧
        t.reg HULL_RXBAD = s.reg HULL_RXBAD + 1 ∧ t.fget HULL_STATUS_AnchorMis = 1) ∧
      (s.hull.tag = some (beAt p 14 2) → pos = j % 16 * s.ownCount + (g0 - s.ownFirst) → k = s.trackOf i (j / 16) →
        k.closed = false → k.next ≤ pos → s.ringBusy (j / 16) = false → gives .hullDataFrame s fun t =>
        t.reg HULL_RXRUN = s.reg HULL_RXRUN + BitVec.ofNat 32 gn ∧
        tget 0 t.hull.ring (j / 16 % s.hullDepth) = j / 16 + 1 ∧
        tget Track.fresh t.hull.track (trackKey i (j / 16)) = ⟨pos + gn,
          if k.next < pos then widen k.hole k.next (pos - 1) else k.hole,
          k.contam || f.bad || decide (byteAt p 0 / 2 % 2 = 1), decide (pos + gn = 16 * s.ownCount), k.unreach⟩ ∧
        t.hbm = ((List.range gn).foldl (fun (u : State) q => u.hbmWrite (s.ctAddr (g0 + q - s.ownFirst) j first)
          (if s.hullFormat = 0 then swapPairs ((p.drop (16 + q * run)).take run) else (p.drop (16 + q * run)).take run))
            s).hbm)))

/-- Staging: the lowest ready stream's next pass group is staged, incomplete where a run was absent; the end of the staging makes
it ready for its consumers and the stream goes on to the next group or window, in the other half. -/
def Obligations.Staging : Prop := ∀ (s : State) (st : Nat) (pg : PassGroup), st < 4 →
  (s.hullOn = true → s.hull.staging = none → s.unitInReset 17 = false → s.hbmHeld = false → s.xIsHeld 5 0 = false →
    s.streamReady st = true → (∀ d < st, s.streamReady d = false) →
    gives .stagingStart s fun t => ∃ x, t.hull.staging = some (x, false) ∧ x.st = st ∧
      x.k = (tget StreamSt.zero s.hull.stream st).win ∧ x.g = (tget StreamSt.zero s.hull.stream st).g ∧
      x.half = (tget StreamSt.zero s.hull.stream st).half ∧ x.seq = (tget StreamSt.zero s.hull.stream st).seq ∧
      x.mask = s.fget (HULL_SCTRL_ConsumerMask st) ∧
      (x.incomplete = false → t.reg HULL_MISSRUN = s.reg HULL_MISSRUN)) ∧
  (s.isRun = true → s.hull.staging = some (pg, false) → pg.st = st → gives .stagingDone s fun t =>
    t.hull.staging = none ∧ t.reg HULL_PGSTAGED = s.reg HULL_PGSTAGED + 1 ∧
    t.reg (HULL_SWIN st) = BitVec.ofNat 32 pg.k ∧
    tget none t.hull.region (2 * st + pg.half) = (if pg.mask = 0 then none else some pg) ∧
    (tget StreamSt.zero t.hull.stream st).half = 1 - pg.half ∧
    (tget StreamSt.zero t.hull.stream st).seq = (tget StreamSt.zero s.hull.stream st).seq + 1 ∧
    (tget StreamSt.zero t.hull.stream st).g = (if pg.g + 1 < s.ownCount then pg.g + 1 else 0) ∧
    (pg.g + 1 < s.ownCount ∨ (tget StreamSt.zero t.hull.stream st).win = pg.k + 1) ∧
    ((pg.incomplete || pg.contam) = true → t.reg HULL_PGFLAG = s.reg HULL_PGFLAG + 1))

/-! ## Timing, time exchange and scheduled actions -/

/-- A tick of the clock adds the increment to the time counter where no second boundary is met; the actions that are then due leave
the queue in order. At a second boundary a set time takes the place of the counter, a realignment then steps it, a capture copies
its seconds to the calendar and clears the divider, and PPS_OUT rises with its fine delay. (The model's own readings and choices in
this: log entries 211, 213.) -/
def Obligations.TimeRuns : Prop :=
  (∀ (s : State) (now : Nat), s.awake = true → s.mtxIdle →
    now = (s.time + s.timeInc) % 2 ^ 128 → now / 2 ^ 80 = s.time / 2 ^ 80 → gives .eclkTick s fun t => t.time = now ∧
      (s.timeInc ≠ 0 → t.tim.queue = s.tim.queue.filter (fun a => decide (now < a.due * 2 ^ 48)) ∧
        t.tim.due.map Prod.fst = s.tim.due.map Prod.fst ++ s.tim.queue.filter fun a => decide (a.due * 2 ^ 48 ≤ now))) ∧
  (∀ (s : State) (now : Nat), s.awake = true → s.mtxIdle → s.timeInc ≠ 0 →
    now = (s.time + s.timeInc) % 2 ^ 128 → now / 2 ^ 80 ≠ s.time / 2 ^ 80 →
    (s.tim.pendSet = none → s.tim.pendStep = none → gives .eclkTick s fun t => t.time = now) ∧
    (∀ v, s.tim.pendSet = some v → s.tim.pendStep = none → gives .eclkTick s fun t => t.time = v * 2 ^ 80 ∧
      t.fget TMB_STATUS_SetPending = 0 ∧ t.tim.pendSet = none) ∧
    (∀ v, s.tim.pendSet = none → s.tim.pendStep = some v → gives .eclkTick s fun t =>
      t.time = (((now : Int) + v * 2 ^ 48) % 2 ^ 128).toNat ∧ t.fget TMB_STATUS_Realigning = 0 ∧ t.tim.pendStep = none) ∧
    (∀ u v, s.tim.pendSet = some u → s.tim.pendStep = some v → gives .eclkTick s fun t =>
      t.time = (((u * 2 ^ 80 : Nat) + v * 2 ^ 48) % 2 ^ 128).toNat) ∧
    (s.tim.pendCap = true → s.flag CAL_STATUS_OscFail = false → gives .eclkTick s fun t => t.calSec = t.sec ∧
      t.fget CAL_STATUS_Valid = 1 ∧ t.tim.pendCap = false ∧ t.tim.calDiv = 0) ∧
    (s.tim.pendSet = none → s.tim.pendStep = none → now % 2 ^ 80 < s.timeInc → s.flag TMB_OUTCFG_PpsEn = true →
      s.pinsAway = false → gives .eclkTick s fun t =>
        t.wireOut = s.wireOut ++ [.ppsOut (32 - min 32 (now % 2 ^ 80 * secUnits / 2 ^ 80))] ∧
        t.tim.pps = max 1 (s.fget TMB_OUTCFG_PpsWidthUs) * 250))

/-- The commands of the time counter and the calendar wait for the boundary; a write of the highest word of a value of several
words makes the held words take effect with it. The calendar counts seconds while its crystal runs; a failure of the crystal makes
it invalid, and so does a low battery while its domain runs from it. (The model's own readings and choices in this: log entries 64,
65, 167, 213, 299, 302.) -/
def Obligations.TimeIsSet : Prop :=
  (∀ (s : State) (a : Nat) (v : Word), s.takes TMB_CMD → s.takes CAL_CMD →
    (gives .setTime s fun t => t.fget TMB_STATUS_SetPending = 1 ∧ regsBut s t [TMB_STATUS] ∧
      t.tim = { s.tim with pendSet := some (s.get2 TMB_TSET_LO TMB_TSET_HI % 2 ^ 48) }) ∧
    (gives .realign s fun t => t.fget TMB_STATUS_Realigning = 1 ∧ regsBut s t [TMB_STATUS] ∧
      t.tim = { s.tim with pendStep := some (toSigned 48 (s.get2 TMB_STEP_LO TMB_STEP_HI)) }) ∧
    exec .calendarCapture s = .next { s with tim := { s.tim with pendCap := true } } ∧
    (commitLows a ≠ [] → s.takes a → gives (.incrementCommit a v) s fun t => regsBut s t (a :: commitLows a) ∧
      (∀ l ∈ commitLows a, ∀ w, tget none s.tim.held l = some w → t.reg l = w ∧ tget none t.tim.held l = none) ∧
      (a = TMB_INCRF → t.reg a = v) ∧ (a = SCH_DUE_SH → t.fget SCH_DUE_SH_SecHigh = v.toNat % 2 ^ 16))) ∧
  (∀ s : State,
    (s.flag CAL_STATUS_OscFail = false → gives .calendarSecond s fun t => t.calSec = (s.calSec + 1) % 2 ^ 48 ∧
      t.tim.calDiv = 0 ∧ regsBut s t [CAL_SEC_LO, CAL_SEC_HI]) ∧
    (s.flag CAL_STATUS_OscFail = true → exec .calendarSecond s = .next s) ∧
    (gives .calOscFail s fun t => t.fget CAL_STATUS_OscFail = 1 ∧ t.fget CAL_STATUS_Valid = 0 ∧ regsBut s t [CAL_STATUS]) ∧
    (gives .calOscRestore s fun t => t.fget CAL_STATUS_OscFail = 0 ∧ t.fget CAL_STATUS_Valid = s.fget CAL_STATUS_Valid ∧
      regsBut s t [CAL_STATUS]) ∧
    (s.pwr.fromVbat = true → gives .vbatLow s fun t => t.fget CAL_STATUS_Valid = 0 ∧ t.pwr.vbatLow = true ∧
      regsBut s t [CAL_STATUS]) ∧
    (s.pwr.fromVbat = false → gives .vbatLow s fun t => t.pwr.vbatLow = true ∧ regsBut s t []))

/-- Loss and return of reference signals, measurements, pulses and wait-to-restore: the state of the input by the rules of R179 to
R181, and every other input's as it was. The tick judges the inputs and then selects: an input of a lost lane is in LOS, one beyond
the limit is disqualified, the selected one among them waits to restore with DriftDisq; with automatic, revertive choice and no two
inputs in disagreement the selected input is then qualified and of the best rank of the qualified ones. The loop: from FREE_RUN it
starts at the frequency of the input that the tick selects; measurements of the selected input that meet the criteria are counted
and any other starts the count again; ten in a row lock it at the tick; a drift beyond the limit disqualifies the selected input,
at the end of its window or inside it; holdover that lasts too long is lost. (The model's own readings and choices in this: log
entries 58, 60, 201, 202, 204, 205, 208, 209, 301.) -/
def Obligations.References : Prop :=
  (∀ (s : State) (i : Nat), i < 7 → s.awake = true →
    (s.refRank i ≠ 0 → gives (.refLos i) s fun t => t.refState i = 1 ∧ ∀ j, j < 7 → j ≠ i → t.refState j = s.refState j) ∧
    (s.refState i = 4 → gives (.wtrExpiry i) s fun t => t.refState i = 5 ∧ ∀ j, j < 7 → j ≠ i → t.refState j = s.refState j) ∧
    (∀ mask, s.takes TMB_CMD → gives (.clearWtr mask) s fun t => t.refState i =
      if mask / 2 ^ i % 2 = 1 ∧ s.refState i = 4 then 5 else s.refState i) ∧
    (∀ m x, m < 2 → tget [] s.tim.stamps m = [] → gives (.ppsInPulse m x) s fun t =>
      t.reg (TMB_PPSERR m) = BitVec.ofNat 32 s.frac32 ∧ tget [] t.tim.stamps m = [x] ∧ regsBut s t [TMB_PPSERR m]) ∧
    (∀ m x p ps, m < 2 → tget [] s.tim.stamps m = p :: ps → ppsInWindow p x = true → ps.length < 14 →
      gives (.ppsInPulse m x) s fun t => t.reg (TMB_PPSERR m) = BitVec.ofNat 32 s.frac32 ∧
        tget [] t.tim.stamps m = x :: p :: ps ∧ t.refState (4 + m) = if s.refState (4 + m) = 1 then 2 else s.refState (4 + m)) ∧
    (∀ m x p ps, m < 2 → tget [] s.tim.stamps m = p :: ps → ppsInWindow p x = false → s.refRank (4 + m) ≠ 0 →
      gives (.ppsInPulse m x) s fun t => t.reg (TMB_PPSERR m) = BitVec.ofNat 32 s.frac32 ∧
        tget [] t.tim.stamps m = [x] ∧ t.refState (4 + m) = 1) ∧
    (∀ f ph, s.refRank i ≠ 0 → i ≠ 4 → i ≠ 5 → (i = 6 → s.fabInLos = false) →
      (s.refState i = 1 → gives (.freqMeasurement i f ph) s fun t => t.refState i = 2) ∧
      (s.refState i ≠ 1 → gives (.freqMeasurement i f ph) s fun t =>
        t.fget (TMB_REFSTAT_FreqOffset i) = ofSigned 20 (satOffset f) ∧ t.refState i =
          if s.freqLimit < f.natAbs then (if i = s.selected ∧ s.refState i = 5 then 5 else 3)
          else if s.refState i = 4 ∨ s.refState i = 5 then s.refState i
          else if tget 0 s.tim.everQual i = 0 then 5 else 4))) ∧
  (∀ (s : State) (i : Nat), i < 7 → s.awake = true → s.mtxIdle →
    (s.fabInLos = true → s.refRank 6 ≠ 0 → gives .eclkTick s fun t => t.refState 6 = 1) ∧
    (i ≠ 6 → s.refRank i ≠ 0 → s.refState i = 5 → s.offLimit i = true → gives .eclkTick s fun t =>
      t.refState i = (if i = s.selected then 4 else 3) ∧ (i = s.selected → t.fget TMB_STATUS_DriftDisq = 1)) ∧
    (s.flag TMB_SEL_Force = false → s.flag TMB_SEL_Revertive = true → (∀ a < 7, ∀ b < 7, s.refDisagree a b = false) →
      gives .eclkTick s fun t => ∀ j, j < 7 → t.refState j = 5 →
        t.refState t.selected = 5 ∧ t.refRank t.selected ≤ t.refRank j)) ∧
  (∀ (s : State) (i : Nat) (f ph : Int), i < 7 → s.awake = true →
    (s.mtxIdle → s.flag TMB_SEL_Force = true → s.forceInput = i → s.refState i = 5 → s.offLimit i = false →
      s.tim.drift = none → (s.selected = i → s.driftBeyond s.tim.driftAcc = false) → (i = 6 → s.fabInLos = false) →
      (s.loopState = 0 → gives .eclkTick s fun t => t.loopState = 1 ∧ t.selected = i ∧
        t.tim.freq = s.tim.freq + tget 0 s.tim.offset i) ∧
      (s.loopState = 1 → s.selected = i → 10 ≤ s.tim.lockCount → gives .eclkTick s fun t => t.loopState = 2 ∧
        t.fget TMB_STATUS_HistoryValid = 1 ∧ t.selected = i)) ∧
    (s.selected = i → s.refRank i ≠ 0 → i ≠ 4 → i ≠ 5 → (i = 6 → s.fabInLos = false) → s.refState i = 5 → s.loopState = 1 →
      gives (.freqMeasurement i f ph) s fun t => t.reg TMB_PHERR = BitVec.ofInt 32 (ph - s.tim.stored) ∧ t.selected = i ∧
        t.loopState = 1 ∧ t.tim.lockCount =
          if (ph - s.tim.stored).natAbs ≤ 5000 ∧ f.natAbs ≤ 100 then s.tim.lockCount + 1 else 0) ∧
    (s.selected = i → exec (.driftWindowEnd ph) s = .next { s with tim := { s.tim with drift := some (ph - s.predicted) } }) ∧
    (∀ e : Int, s.mtxIdle → s.selected = i → s.refState i = 5 → (i = 6 → s.fabInLos = false) → s.tim.drift = some e →
      s.flag TMB_STATUS_HistoryValid = true → s.fget TMB_DRIFT_PhaseLimitPs < e.natAbs → gives .eclkTick s fun t =>
        t.refState i = 4 ∧ t.fget TMB_STATUS_DriftDisq = 1) ∧
    (s.mtxIdle → s.selected = i → s.refState i = 5 → (i = 6 → s.fabInLos = false) → s.tim.drift = none →
      s.flag TMB_STATUS_HistoryValid = true → s.fget TMB_DRIFT_PhaseLimitPs < s.tim.driftAcc.natAbs → gives .eclkTick s fun t =>
        t.refState i = 4 ∧ t.fget TMB_STATUS_DriftDisq = 1) ∧
    (s.loopState = 3 → s.fget TMB_HOLD_LimitSec ≠ 0 → gives .holdoverLimit s fun t => t.loopState = 4 ∧
      t.fget TMB_STATUS_StateChg = 1))

/-- A pop takes the oldest transmit time-stamp of the lane and latches its upper words; retired spans leave the account's list and
their lengths enter its total. (The model's own readings and choices in this: log entry 269.) -/
def Obligations.StampsAndSpans : Prop := ∀ (s : State) (l : Nat), l < 96 → s.awake = true →
  (s.takes (TMB_TXTS_FR l) → gives (.txtsPop l) s fun t =>
    tget [] t.tim.txts l = (tget [] s.tim.txts l).drop 1 ∧ regsBut s t [] ∧
    ∀ id x xs, tget [] s.tim.txts l = (id, x) :: xs →
      tget (regReset (TMB_TXTS_SL l)) t.shadow (TMB_TXTS_SL l) = BitVec.ofNat 32 (x / 2 ^ 32)) ∧
  ((∀ x ∈ s.erl.spans, x.cause ≠ 0) → gives .spanRetire s fun t => regsBut s t [] ∧
    t.erl.spans = s.erl.spans.filter (fun x => decide (s.time % 2 ^ 128 ≤ (x.hi + s.grace16) * 2 ^ 64)) ∧
    tget 0 t.erl.acc 0 = tget 0 s.erl.acc 0 +
      ((s.erl.spans.filter fun x => decide ((x.hi + s.grace16) * 2 ^ 64 < s.time % 2 ^ 128)).map fun x => x.hi - x.lo).sum)

/-- Insertion, cancelling and the done queue of the scheduled actions, with the result code of each. An accepted action takes the
lowest free entry, which is the model's choice (log entry 294): R202 does not say which free entry is taken. A due action runs, is
counted, and its handle and status enter the done queue: a context's start or stop waits in turn, a mark raises its cause; it waits
while the FIFO toward the command unit is full. A rising edge of the SYNC pin sends the SYNC pulse where the pin is enabled. (The
model's own readings and choices in this: log entries 67, 197, 294.) -/
def Obligations.Schedule : Prop :=
  (∀ (s : State) (v : Word), s.takes SCH_INSERT → s.takes SCH_CANCEL → s.takes SCH_DONE →
    ((SCH_INSERT_Type.of v = 0 ∨ 7 < SCH_INSERT_Type.of v) → gives (.schInsert v) s fun t => t.fget SCH_RESULT_Code = 3 ∧
      t.tim = s.tim ∧ regsBut s t [SCH_RESULT]) ∧
    (1 ≤ SCH_INSERT_Type.of v → SCH_INSERT_Type.of v ≤ 7 → s.schDue * 2 ^ 48 ≤ s.time → SCH_INSERT_Asap.of v = 0 →
      gives (.schInsert v) s fun t => t.fget SCH_RESULT_Code = 1 ∧ t.tim = s.tim ∧
        t.reg SCH_LATECNT = s.reg SCH_LATECNT + 1) ∧
    (∀ e, 1 ≤ SCH_INSERT_Type.of v → SCH_INSERT_Type.of v ≤ 7 → (s.time < s.schDue * 2 ^ 48 ∨ SCH_INSERT_Asap.of v ≠ 0) →
      e < 1024 → s.schUsed e = false → (∀ d < e, s.schUsed d = true) → gives (.schInsert v) s fun t =>
        t.fget SCH_RESULT_Code = 0 ∧ t.fget SCH_RESULT_Handle = tget 0 s.tim.uses e % 64 * 1024 + e ∧
        regsBut s t [SCH_RESULT] ∧ t.tim.queue = s.tim.queue ++ [⟨tget 0 s.tim.uses e % 64 * 1024 + e, s.schDue,
          SCH_INSERT_Type.of v, SCH_INSERT_Arg.of v, decide (s.schDue * 2 ^ 48 ≤ s.time)⟩]) ∧
    (1 ≤ SCH_INSERT_Type.of v → SCH_INSERT_Type.of v ≤ 7 → (s.time < s.schDue * 2 ^ 48 ∨ SCH_INSERT_Asap.of v ≠ 0) →
      (∀ e < 1024, s.schUsed e = true) → gives (.schInsert v) s fun t => t.fget SCH_RESULT_Code = 2 ∧ t.tim = s.tim) ∧
    (gives (.schCancel v) s fun t => t.tim.queue = s.tim.queue.filter (fun a => decide (a.handle ≠ SCH_CANCEL_Handle.of v)) ∧
      t.fget SCH_RESULT_Code =
        (if s.tim.queue.any fun a => decide (a.handle = SCH_CANCEL_Handle.of v) then 4 else 5) ∧
      t.fget SCH_RESULT_Handle = SCH_CANCEL_Handle.of v ∧ regsBut s t [SCH_RESULT]) ∧
    exec .schDonePop s = .next { s with tim := { s.tim with done := s.tim.done.drop 1 } }) ∧
  (∀ (s : State) (a : SchAct) (st : Nat) (rest : List (SchAct × Nat)),
    (s.tim.due = (a, st) :: rest → s.ctxFifoFull a.ty = true → exec .actionDue s = .next s) ∧
    (s.tim.due = (a, st) :: rest → s.ctxFifoFull a.ty = false → s.tim.done.length < 64 → gives .actionDue s fun t =>
      t.tim.due = rest ∧
      t.reg SCH_EXECCNT = s.reg SCH_EXECCNT + 1 ∧
      t.tim.done = s.tim.done ++ [(a.handle, st, if a.ty = 7 then a.arg % 4096 else 0)] ∧
      (a.ty = 2 → t.ctxs.queue = s.ctxs.queue ++ [⟨true, true, a.arg % 4096⟩]) ∧
      (a.ty = 3 → t.ctxs.queue = s.ctxs.queue ++ [⟨true, false, a.arg % 4096⟩]) ∧
      (a.ty = 7 → (t.reg GLB_INTPEND).getLsbD 12 = true) ∧
      (st ≠ 0 → t.reg SCH_LATEEXECCNT = s.reg SCH_LATEEXECCNT + 1 ∧ (t.reg GLB_INTPEND).getLsbD 13 = true)) ∧
    (s.flag TMB_OUTCFG_SyncPinEn = true → s.tim.syncTick ≠ s.pmcLive 4 + 1 → 2 ≤ s.pwrState → s.xIsHeld 10 0 = false →
      tget 0 s.mtx.pulse 0 = 0 → gives .syncPin s fun t => tget 0 t.mtx.pulse 0 = s.time / 2 ^ 48 % 2 ^ 80 + 1 ∧
        t.tim.syncTick = s.pmcLive 4 + 1 ∧ t.pmcLive 476 = (s.pmcLive 476 + 1) % 2 ^ 48 ∧
        regsBut s t [PMC_LIVE_LO 476, PMC_LIVE_HI 476]) ∧
    (s.flag TMB_OUTCFG_SyncPinEn = false → exec .syncPin s = .next s))

/-- The time exchange: the master's TSYNC goes to the nodes it reaches; a node that hears a better master follows it and asks it
with a TDREQ, one of a better key becomes a candidate, and a TSYNC of a worse master than the one followed is dropped; TFOLLOW and
TDRESP complete the exchange, which gives offset and delay; the master answers a TDREQ; an exchange whose messages have not arrived
is dropped at its timeout; a silent master is replaced. (The model's own readings and choices in this: log entries 68, 215, 216.)
-/
def Obligations.TimeExchange : Prop := ∀ (s : State) (m : TimeMsg) (rest : List TimeMsg) (x : Exch) (xs : List Exch),
  (s.ftOn = true → s.ftMaster = true → ∃ t, exec .tsyncSend s = .next t ∧ t.tim.ftSeq = (s.tim.ftSeq + 1) % 65536 ∧
    ∀ n, n < 4096 → n ≠ s.node → s.reachable n = true → s.route n 0 s.node 2 false ≠ none → ∃ f ∈ t.fab.txq,
      f.ty = 5 ∧ f.dest = n ∧ f.ts = true ∧ f.payload = s.timePayload 0 s.tim.ftSeq s.node 0 0 0) ∧
  (s.tim.timeq = m :: rest → tmMsg m.payload = 0 → s.ftOn = true → s.hearsBetter (tmKey m.payload) = false →
    (s.timeRank = 0 ∨ keyLess s.timeKey (tmKey m.payload) = false) → s.route (tmKey m.payload).2.2 0 s.node 2 false ≠ none →
    ∃ t, exec .tsyncReceive s = .next t ∧ t.tim.timeq = rest ∧
      t.fget TMB_FTSTAT_IsMaster = 0 ∧ t.fget TMB_FTSTAT_MasterNode = (tmKey m.payload).2.2 ∧
      t.tim.exch.getLast? = some ⟨tmSeq m.payload, (tmKey m.payload).2.2, m.rx, tmCorr m.payload, none, none, none⟩ ∧
      ∃ f, t.fab.txq = s.fab.txq ++ [f] ∧ f.ty = 5 ∧ f.dest = (tmKey m.payload).2.2 ∧ f.ts = true ∧
        f.payload = s.timePayload 2 (tmSeq m.payload) (tmKey m.payload).2.2 s.node 0 0) ∧
  (s.tim.timeq = m :: rest → tmMsg m.payload = 0 → s.ftOn = true → s.ftMaster = false → s.timeRank ≠ 0 →
    s.hearsBetter (tmKey m.payload) = false → keyLess s.timeKey (tmKey m.payload) = true →
    ∃ t, exec .tsyncReceive s = .next t ∧ t.tim.timeq = rest ∧
      t.fget TMB_FTSTAT_IsMaster = 1 ∧ t.fget TMB_FTSTAT_MasterNode = s.node ∧ t.tim.heard = none) ∧
  (s.tim.timeq = m :: rest → tmMsg m.payload = 0 → s.hearsBetter (tmKey m.payload) = true →
    exec .tsyncReceive s = .next { s with tim := { s.tim with timeq := rest } }) ∧
  (∀ t3 t4 c, s.tim.timeq = m :: rest → tmMsg m.payload = 1 → s.tim.exch = [x] → x.seq = tmSeq m.payload →
    x.master = tmMaster m.payload → x.t3 = some t3 → x.t4 = some (t4, c) → s.tim.results = [] →
    ∃ t, exec .tfollowReceive s = .next t ∧ t.tim.timeq = rest ∧ t.tim.exch = [] ∧ t.reg TMB_FTOFS = BitVec.ofInt 32
      ((((x.t2 : Int) - tmStamp m.payload - x.corrSync) - ((t4 : Int) - t3 - c)) / 2 + toSigned 32 (s.reg TMB_FTASYM).toNat) ∧
      t.reg TMB_FTDLY = BitVec.ofInt 32 ((((x.t2 : Int) - tmStamp m.payload - x.corrSync) + ((t4 : Int) - t3 - c)) / 2)) ∧
  (∀ t1 t3, s.tim.timeq = m :: rest → tmMsg m.payload = 3 → s.tim.exch = [x] → x.seq = tmSeq m.payload →
    x.master = tmMaster m.payload → x.t1 = some t1 → x.t3 = some t3 → s.tim.results = [] →
    ∃ t, exec .tdrespReceive s = .next t ∧ t.tim.timeq = rest ∧ t.tim.exch = [] ∧ t.reg TMB_FTOFS = BitVec.ofInt 32
      ((((x.t2 : Int) - t1 - x.corrSync) - ((tmStamp m.payload : Int) - t3 - tmCorr m.payload)) / 2 +
        toSigned 32 (s.reg TMB_FTASYM).toNat) ∧ t.reg TMB_FTDLY = BitVec.ofInt 32
      ((((x.t2 : Int) - t1 - x.corrSync) + ((tmStamp m.payload : Int) - t3 - tmCorr m.payload)) / 2)) ∧
  (s.tim.timeq = m :: rest → tmMsg m.payload = 2 → s.ftOn = true → s.ftMaster = true → tmMaster m.payload = s.node →
    s.route (tmReq m.payload) 0 s.node 2 false ≠ none → ∃ t, exec .tdreqReceive s = .next t ∧ t.tim.timeq = rest ∧
      ∃ f, t.fab.txq = s.fab.txq ++ [f] ∧ f.ty = 5 ∧ f.dest = tmReq m.payload ∧
        f.payload = s.timePayload 3 (tmSeq m.payload) s.node (tmReq m.payload) m.rx (tmCorr m.payload)) ∧
  (s.tim.exch = x :: xs → (s.exchHas x 1 x.t1.isSome && s.exchHas x 3 x.t4.isSome) = false →
    ∃ t, exec .exchangeTimeout s = .next t ∧ t.tim.exch = xs ∧ t.reg TMB_FTDROP = s.reg TMB_FTDROP + 1) ∧
  (s.tim.exch = x :: xs → (s.exchHas x 1 x.t1.isSome && s.exchHas x 3 x.t4.isSome) = true →
    exec .exchangeTimeout s = .next s) ∧
  (s.ftOn = true → s.ftMaster = false → s.timeRank ≠ 0 → ∃ t, exec .masterSilence s = .next t ∧
    t.fget TMB_FTSTAT_IsMaster = 1 ∧ t.fget TMB_FTSTAT_MasterNode = s.node ∧ t.tim.heard = none) ∧
  (s.ftOn = true → s.ftMaster = false → s.timeRank = 0 → ∃ t, exec .masterSilence s = .next t ∧
    t.fget TMB_FTSTAT_Valid = 0 ∧ t.fget TMB_FTSTAT_IsMaster = 0 ∧ t.tim.heard = none)

/-! ## Lanes -/

/-- A lane that is enabled or restarted begins its ladder at S0 with legacy coding, and so does one whose peer does not answer or
that does not regain lock; an Ethernet lane whose port is free begins its training, and one whose port is in use is refused. CAPAB
both ways: the message that leaves, what the peer's message tells, and the ceiling of the ladder by both. (The model's own readings
and choices in this: log entries 72, 73, 74.) -/
def Obligations.LaneBringUp : Prop :=
  (∀ (s : State) (l : Nat), l < 96 →
    (s.takes (LN_CFG l) → s.mclk = true → s.flag (LN_CFG_Enable l) = false → s.lnMode l ≠ 3 → gives (.laneEnable l) s fun t =>
      t.fget (LN_CFG_Enable l) = 1 ∧ t.lnState l = 1 ∧ (t.lrun l).phase = .capab ∧ t.lnStep l = 0 ∧ t.lnNative l = false) ∧
    (s.takes (LN_CFG l) → s.mclk = true → s.flag (LN_CFG_Enable l) = false → s.lnMode l = 3 → s.ethClash l = false →
      gives (.laneEnable l) s fun t => t.fget (LN_CFG_Enable l) = 1 ∧ t.lnState l = 1 ∧ (t.lrun l).phase = .idle) ∧
    (s.takes (LN_CFG l) → s.flag (LN_CFG_Enable l) = false → s.lnMode l = 3 → s.ethClash l = true →
      exec (.laneEnable l) s = .next (s.fset (LN_STATUS_ConfigErr l) 1)) ∧
    (s.takes (LN_CMD l) → s.mclk = true → s.flag (LN_CFG_Enable l) = true → s.lnMode l ≤ 2 → gives (.laneRestart l) s fun t =>
      t.lnState l = 1 ∧ (t.lrun l).phase = .capab ∧ t.lnStep l = 0 ∧ t.lnNative l = false) ∧
    ((s.lrun l).phase = .capab → (s.lrun l).capabRx = false → gives (.capabTimeout l) s fun t => t.lnState l = 1 ∧
      (t.lrun l).phase = .capab ∧ (t.lrun l).capabTx = false) ∧
    ((s.lrun l).phase = .relock → gives (.lockLossRetry l false) s fun t => t.lnState l = 1 ∧ (t.lrun l).phase = .capab) ∧
    ((s.lrun l).phase = .relock → gives (.lockLossRetry l true) s fun t => t.lnState l = s.lnState l ∧
      (t.lrun l).phase = .relockQuiet ∧ t.fget (LN_STATUS_Lol l) = 0)) ∧
  (∀ (s : State) (l : Nat) (r : LaneRun), l < 96 → r = s.lrun l → r.phase = .capab →
    (r.capabTx = false → r.capabRx = false → s.pinsAway = false → gives (.capabSend l) s fun t =>
      (∃ ls, t.wireOut = s.wireOut ++ [.link l (s.capab l) ls]) ∧ t.lrun l = { r with capabTx := true } ∧ regsBut s t []) ∧
    (∀ c, r.capabTx = false → r.capabRx = true → c = (if s.flag (LN_CFG_LegacyOnly l) = true ∨
        s.fget (LN_STATUS_PeerClass l) = 0 ∨ r.native = false then min (min (s.lnMax l) (s.fget (LN_PEER_MaxStep l))) 2
        else min (s.lnMax l) (s.fget (LN_PEER_MaxStep l))) → gives (.capabSend l) s fun t => (t.lrun l).ceil = c ∧
      (t.lrun l).phase = if c = 0 then .top else .request) ∧
    (∀ msg b, msg.length = 7 → byteAt msg 0 = 0 → b = byteAt msg 1 → s.sprout = false → gives (.capabReceive l msg) s fun t =>
      t.fget (LN_PEER_SpareCap l) = b / 8 % 2 ∧ t.fget (LN_PEER_MaxStep l) = b % 8 ∧ t.fget (LN_STATUS_PeerClass l) = b / 32 ∧
      t.fget (LN_PEER_PeerLane l) = byteAt msg 2 % 128 ∧ t.reg (LN_PEERTAG l) = BitVec.ofNat 32 (beAt msg 3 4) ∧
      (r.capabTx = false → t.lrun l = { r with capabRx := true, native := decide (b / 16 % 2 = 1) }) ∧
      (r.capabTx = true → (t.lrun l).ceil = if s.flag (LN_CFG_LegacyOnly l) = true ∨ b / 32 = 0 ∨ b / 16 % 2 = 0
        then min (min (s.lnMax l) (b % 8)) 2 else min (s.lnMax l) (b % 8))))

/-- The steps of the ladder: request, switch, lock, quiet time, STEP_OK; the step is reached when STEP_OK has gone both ways, and
at the ceiling the lane is UP, or idle as a spare. A step that fails is counted and the lane goes back to the rung it had; after
STEP_OK there it tries again, and after the fourth failure it stays there, capped. (The model's own readings and choices in this:
log entries 77, 303.) -/
def Obligations.LaneLadder : Prop :=
  (∀ (s : State) (l : Nat) (r : LaneRun), l < 96 → r = s.lrun l →
    (∀ n, n < 8 → s.lnState l = 1 → gives (.stepReq l n) s fun t => t.lrun l = { r with reqRx := n } ∧ regsBut s t []) ∧
    (r.phase = .request → r.reqTx = true → r.reqRx = r.rung + 1 → r.rung < 7 → gives (.stepSwitch l) s fun t =>
      (t.lrun l).phase = .adapt ∧ t.lnStep l = r.rung + 1 ∧ t.lnNative l = r.native ∧ regsBut s t [LN_STATUS l]) ∧
    (r.phase = .adapt → gives (.receiverLock l) s fun t => (t.lrun l).phase = .quiet ∧ t.fget (LN_STATUS_Lol l) = 0 ∧
      (t.lrun l).blockLock = s.lnNative l ∧ regsBut s t [LN_STATUS l]) ∧
    (s.flag (LN_STATUS_Los l) = false → s.flag (LN_STATUS_Lol l) = false → s.pinsAway = false → r.phase = .quiet →
      r.okRx ≠ r.rung + 2 → gives (.quietDone l) s fun t => t.lrun l = { r with phase := .confirm } ∧
        (∃ ls, t.wireOut = s.wireOut ++ [.link l (linkMsg 2 (r.rung + 1) 0 [0, 0, 0, 0]) ls]) ∧ regsBut s t []) ∧
    (s.flag (LN_STATUS_Los l) = false → s.flag (LN_STATUS_Lol l) = false → r.phase = .quiet → r.okRx = r.rung + 2 →
      gives (.quietDone l) s fun t => (t.lrun l).rung = r.rung + 1 ∧
        (t.lrun l).phase = if r.ceil ≤ r.rung + 1 then .top else .request) ∧
    (s.lnState l = 1 → r.phase = .confirm → r.rung < 7 → gives (.stepOk l (r.rung + 1)) s fun t =>
      (t.lrun l).rung = r.rung + 1 ∧ (t.lrun l).fails = 0 ∧
      (t.lrun l).phase = (if r.ceil ≤ r.rung + 1 then .top else .request) ∧
      t.lnState l = if r.ceil ≤ r.rung + 1 then (if s.lnMode l = 0 then 4 else 2) else 1) ∧
    (s.flag (LN_STATUS_Los l) = false → s.flag (LN_STATUS_Lol l) = false → r.phase = .relockQuiet → gives (.quietDone l) s fun t =>
      (t.lrun l).phase = .top ∧ t.lnState l = if s.lnMode l = 0 then 4 else 2)) ∧
  (∀ (s : State) (l : Nat) (r : LaneRun), l < 96 → r = s.lrun l → r.rung < 8 →
    (r.phase = .adapt ∨ r.phase = .confirm → gives (.stepTimeout l) s fun t => t.reg (LN_STEPFAIL l) = s.reg (LN_STEPFAIL l) + 1 ∧
      (t.lrun l).phase = .backQuiet ∧ (t.lrun l).fails = r.fails + 1 ∧ (t.lrun l).rung = r.rung ∧ t.lnStep l = r.rung ∧
      t.lnNative l = (r.native && decide (r.rung ≠ 0)) ∧ regsBut s t [LN_STEPFAIL l, LN_STATUS l]) ∧
    (s.lnState l = 1 → r.phase = .backConfirm → r.fails < 4 → gives (.stepOk l r.rung) s fun t =>
      (t.lrun l).phase = .request ∧ (t.lrun l).reqTx = true ∧ (t.lrun l).rung = r.rung ∧ regsBut s t []) ∧
    (s.lnState l = 1 → r.phase = .backConfirm → 4 ≤ r.fails → r.rung ≠ 0 → gives (.stepOk l r.rung) s fun t =>
      (t.lrun l).phase = .top ∧ t.fget (LN_STATUS_Capped l) = 1 ∧ t.lnState l = if s.lnMode l = 0 then 4 else 2))

/-- Lock and signal: lock found clears LOL where it is enough; a lock or signal that is lost is counted and shown, and a working
lane that is UP at its rung and that no spare protects is Failing and tries to regain lock. Codewords: of one that decodes the
corrected symbols are added, uncorrectable ones are counted, the fourth in a comma interval makes the lane Failing, the eighth in a
row loses FEC lock; an Ethernet lane counts its own. (The model's own readings and choices in this: log entries 77, 83, 220, 304.)
-/
def Obligations.LaneSignal : Prop :=
  (∀ (s : State) (l : Nat) (r : LaneRun), l < 96 → r = s.lrun l →
    (s.lnRuns l = true → s.lnNative l = true → gives (.blockLock l) s fun t => t.lrun l = { r with blockLock := true } ∧
      (s.lnStep l < 3 → t.fget (LN_STATUS_Lol l) = 0) ∧ regsBut s t [LN_STATUS l]) ∧
    (s.lnRuns l = true → s.lnNative l = false → gives (.legacyLock l) s fun t => t.lrun l = { r with legacyLock := true } ∧
      t.fget (LN_STATUS_Lol l) = 0 ∧ regsBut s t [LN_STATUS l]) ∧
    (s.lnRuns l = true → s.lnNative l = true → r.blockLock = true → s.flag (LN_STATUS_Lol l) = false → r.phase ≠ .relockQuiet →
      gives (.blockLockLoss l) s fun t => t.reg (LN_LOLCNT l) = s.reg (LN_LOLCNT l) + 1 ∧ t.fget (LN_STATUS_Lol l) = 1 ∧
        (t.lrun l).blockLock = false) ∧
    (s.lnRuns l = true → s.lnNative l = false → r.legacyLock = true → s.flag (LN_STATUS_Lol l) = false →
      r.phase ≠ .relockQuiet → gives (.legacyLockLoss l) s fun t => t.reg (LN_LOLCNT l) = s.reg (LN_LOLCNT l) + 1 ∧
        t.fget (LN_STATUS_Lol l) = 1 ∧ (t.lrun l).legacyLock = false) ∧
    (s.lnState l ≠ 0 → s.flag (LN_STATUS_Lol l) = false → r.phase ≠ .relockQuiet → gives (.lolAssert l) s fun t =>
      t.reg (LN_LOLCNT l) = s.reg (LN_LOLCNT l) + 1 ∧ t.fget (LN_STATUS_Lol l) = 1) ∧
    (s.lnState l ≠ 0 → s.flag (LN_STATUS_Los l) = false → gives (.losAssert l) s fun t =>
      t.reg (LN_LOSCNT l) = s.reg (LN_LOSCNT l) + 1 ∧ t.fget (LN_STATUS_Los l) = 1 ∧
      (r.phase = .top → s.lnUp l = true → (s.lnMode l = 1 ∨ s.lnMode l = 2) → s.lswap l = none → s.canProtect l = false →
        s.flag (LN_SPARE_Valid l) = false → t.lnState l = 1 ∧ (t.lrun l).phase = .relock ∧
          t.fget (LN_STATUS_Failing l) = 1)) ∧
    exec (.losClear l) s = .next (s.fset (LN_STATUS_Los l) 0)) ∧
  (∀ (s : State) (l n : Nat) (c : List Nat), l < 96 →
    (s.lnMode l ≤ 2 → s.lnState l ≠ 0 → s.lnNative l = true → 3 ≤ s.lnStep l → c.length = 272 → (∀ x ∈ c, x < 1024) →
      (fecDecode c = some n → gives (.fecCodeword l (.lane c)) s fun t =>
        t.reg (LN_FECCORR l) = s.reg (LN_FECCORR l) + BitVec.ofNat 32 n ∧
        (t.lrun l).corrNow = (s.lrun l).corrNow + n ∧ (t.lrun l).uncRun = 0 ∧ regsBut s t [LN_FECCORR l, LN_STATUS l]) ∧
      (fecDecode c = none → gives (.fecCodeword l (.lane c)) s fun t => t.reg (LN_FECUNC l) = s.reg (LN_FECUNC l) + 1 ∧
        ((s.lrun l).uncNow = 3 → (s.lrun l).uncRun < 7 → t.fget (LN_STATUS_Failing l) = 1) ∧
        ((s.lrun l).uncNow ≠ 3 → (s.lrun l).fecLock = true → 7 ≤ (s.lrun l).uncRun → s.flag (LN_STATUS_Lol l) = false →
          t.reg (LN_LOLCNT l) = s.reg (LN_LOLCNT l) + 1))) ∧
    (s.lnMode l = 3 → s.lnState l = 2 → n ≤ 15 →
      exec (.fecCodeword l (.ethernet n)) s = .next (s.incBy (LN_ETHFECC l) n)) ∧
    (s.lnMode l = 3 → s.lnState l = 2 → 15 < n → exec (.fecCodeword l (.ethernet n)) s = .next (s.inc (LN_ETHFECU l))))

/-- A whole good frame, in the scrambled native blocks or the scrambled and stuffed legacy blocks that carry it on the line, is
delivered to the lane whose stream it is, byte for byte. Commas and training: the comma that leaves carries the lane and its count;
a received one sets the count, ends the interval, and a trend over the limit makes the lane Degraded; a comma of another kind is a
bad block; a warm training runs and its end tags the lane anew. Ethernet lanes: link training ends UP at step 5, a lost link trains
again, received frames are discarded and counted, and a coefficient moves by the step the peer asks for. (The model's own readings
and choices in this: log entries 75, 217, 218, 219, 222, 223.) -/
def Obligations.LaneTraffic : Prop :=
  (∀ (s : State) (l w : Nat) (f : List Byte), l < 96 → s.lnRuns l = true → s.lnUp l = true →
    s.sprout = false → s.rxFor l = some w → s.rxFull w = false →
    (s.lnNative l = true → s.blockErrored l = false → 7 ≤ f.length →
      gives (.laneFrameReceive l ⟨false, (nativeLines (tget 0 s.ln.rxScr l) (frameBlocks f)).1⟩) s fun t =>
        (tget [] t.ln.rxq w).map Prod.snd = (tget [] s.ln.rxq w).map Prod.snd ++ [f]) ∧
    (s.lnNative l = false → gives (.laneFrameReceive l ⟨false, (legacyBlocks f).map legacyLine⟩) s fun t =>
      (tget [] t.ln.rxq w).map Prod.snd = (tget [] s.ln.rxq w).map Prod.snd ++ [f])) ∧
  (∀ (s : State) (l : Nat) (r : LaneRun), l < 96 → r = s.lrun l →
    (s.lnRuns l = true → s.lnNative l = true → s.lswap l = none → s.swapOn l = none → s.pinsAway = false →
      gives (.commaSend l) s fun t => (t.lrun l).commaTx = (r.commaTx + 1) % 65536 ∧ regsBut s t [] ∧
        ∃ ls, t.wireOut = s.wireOut ++
        [.comma l ([0x4B, 0x1B, BitVec.ofNat 8 l, 0] ++ leBytes 2 r.commaTx ++ [0, 0]) ls]) ∧
    (∀ block b, s.lnRuns l = true → s.lnNative l = true → blockOk true block = true → s.commaBlock l block = some b →
      byteAt b 1 = 0x1B → ((s.swapOld l).any fun q => q.2.verified) = false →
      gives (.commaReceive l block) s fun t => (t.lrun l).commaRx = byteAt b 4 + 256 * byteAt b 5 ∧
        (t.lrun l).corr = (r.corrNow :: r.corr).take 63 ∧ (t.lrun l).corrNow = 0 ∧
        (63 ≤ r.corr.length → 64 * s.fget (LN_FECCFG_TrendLimit l) < r.corr.sum + r.corrNow →
          t.fget (LN_STATUS_Degraded l) = 1)) ∧
    (∀ block b, s.lnRuns l = true → s.lnNative l = true → blockOk true block = true → s.commaBlock l block = some b →
      byteAt b 1 ≠ 0x1B → gives (.commaReceive l block) s fun t => t.reg (LN_BADBLK l) = s.reg (LN_BADBLK l) + 1) ∧
    (s.takes (LN_CMD l) → s.lnUp l = true → s.lnMode l ≤ 2 → gives (.laneWarmTrain l) s fun t =>
      t.lrun l = { r with warm := true } ∧ regsBut s t []) ∧
    (r.warm = true → gives (.laneWarmTrainDone l) s fun t => (t.lrun l).warm = false ∧
      t.fget (LN_STATUS_TrainStale l) = 0 ∧
      t.fget (LN_TRAINTAG_TempC l) = (Config.octetTempC (l / 8) s.fresh).toNat ∧ regsBut s t [LN_TRAINTAG l, LN_STATUS l])) ∧
  (∀ (s : State) (l k : Nat) (up : Bool), l < 96 → k < 5 → s.lnMode l = 3 →
    (s.lnState l = 1 → gives (.ethLinkUp l) s fun t => t.lnState l = 2 ∧ t.lnStep l = 5 ∧ regsBut s t [LN_STATUS l]) ∧
    (s.lnState l = 2 → gives (.ethLinkDown l) s fun t => t.lnState l = 1 ∧ t.lnStep l = 0 ∧
      (t.reg (GLB_LANESUM (l / 32))).getLsbD (l % 32) = true) ∧
    (s.lnState l = 2 → gives (.ethFrameReceive l) s fun t => t.reg (LN_ETHRXD l) = s.reg (LN_ETHRXD l) + 1 ∧
      regsBut s t [LN_ETHRXD l, PMC_LIVE_LO (288 + l), PMC_LIVE_HI (288 + l)]) ∧
    (s.lnState l ≠ 0 → gives (.ethCoeffRequest l k up) s fun t => regsBut s t [] ∧
      tget 0 t.ln.coeff (5 * l + k) = (if up then tget 0 s.ln.coeff (5 * l + k) + 1 else tget 0 s.ln.coeff (5 * l + k) - 1) ∧
      ∀ i, i ≠ 5 * l + k → tget 0 t.ln.coeff i = tget 0 s.ln.coeff i))

/-- Planned and sudden swaps to a spare: the request that begins one at either end, the comparison of the copies, and SWITCHED,
which completes it once both ends have switched. The return from a spare: Release starts the lane's ladder, or at once the swap
back where the lane is UP, and RELEASE, once SWITCHED has gone both ways, frees the spare. (The model's own readings and choices in
this: log entries 81, 229, 230, 304, 306.) -/
def Obligations.Spares : Prop :=
  (∀ (s : State) (l w : Nat), l < 96 → w < 96 → s.pinsAway = false →
    (s.takes (LN_CMD l) → (s.lnMode l = 1 ∨ s.lnMode l = 2) → s.canProtect l = true → w = s.fget (LN_SPARE_Lane l) →
      gives (.swapNow l) s fun t => t.lswap l = some { SwapSt.start w with bridge := .atComma } ∧
        (∃ ls, t.wireOut = s.wireOut ++ [.link w (linkMsg 3 0 l [0, 0, 0, 0]) ls]) ∧ regsBut s t []) ∧
    (∀ msg, msg.length = 7 → byteAt msg 0 = 3 → s.lnState l = 4 → s.lnMode l = 0 → s.byPeer l (byteAt msg 2) = some w →
      s.lswap w = none → s.lnState w = 2 → s.swapOn l = none →
      (byteAt msg 1 % 2 = 0 → gives (.spareReq l msg) s fun t =>
        t.lswap w = some { SwapSt.start l with bridge := .atComma } ∧ regsBut s t []) ∧
      (byteAt msg 1 % 2 = 1 → gives (.spareReq l msg) s fun t =>
        t.lswap w = some { SwapSt.start l with bridge := .new, sudden := true, awaiting := true })) ∧
    (∀ x clean, s.lswap l = some x → x.aligned = true → x.taken = false → x.sudden = false → x.verified = false →
      x.done = false →
      (clean = true → gives (.swapVerified l clean) s fun t => t.lswap l = some { x with verified := true } ∧ regsBut s t []) ∧
      (clean = false → x.fails ≠ 2 → gives (.swapVerified l clean) s fun t =>
        t.lswap l = some { x with fails := x.fails + 1 } ∧ regsBut s t []) ∧
      (clean = false → x.fails = 2 → gives (.swapVerified l clean) s fun t => t.lswap l = none ∧
        t.fget (LN_STATUS_SwapFail l) = 1)) ∧
    (∀ msg x, msg.length = 7 → byteAt msg 0 = 4 → byteAt msg 2 = s.fget (LN_PEER_PeerLane w) → s.swapNew l = some (w, x) →
      s.commaSent w (beAt msg 3 2) = true → x.spare = l → l ≠ w → x.done = false →
      (x.sentSw = false → gives (.switched l msg) s fun t => t.lswap w = some { x with gotSw := true } ∧ regsBut s t []) ∧
      (x.sentSw = true → gives (.switched l msg) s fun t => t.lnState w = 3 ∧ t.lnState l = 5 ∧
        t.fget (LN_SPARE_ActiveFor l) = w ∧ t.reg (LN_SWAPS w) = s.reg (LN_SWAPS w) + 1 ∧
        t.lswap w = some { SwapSt.start l with done := true, taken := true, sudden := x.sudden, count := (s.lrun w).commaTx }))) ∧
  (∀ (s : State) (l : Nat), l < 96 →
    (∀ x, s.takes (LN_CMD l) → s.lnState l = 3 → s.flag (LN_CFG_Enable l) = true → s.mclk = true → s.lswap l = some x →
      x.done = true → x.spare ≠ l → gives (.releaseCommand l) s fun t => t.lnState l = 1 ∧ (t.lrun l).phase = .capab ∧
        t.lswap l = some { SwapSt.start x.spare with done := true, back := true, count := x.count }) ∧
    (∀ x, s.takes (LN_CMD l) → s.lnState l = 2 → s.flag (LN_CFG_Enable l) = true → s.mclk = true → s.lswap l = some x →
      x.done = true → x.back = false → gives (.releaseCommand l) s fun t => t.lnState l = 2 ∧
        t.lswap l = some { SwapSt.start x.spare with done := true, back := true, count := x.count, bridge := .atComma }) ∧
    (s.takes (LN_CMD l) → s.lnState l = 3 → s.flag (LN_CFG_Enable l) = true → s.mclk = true → s.lswap l = none →
      gives (.releaseCommand l) s fun t => t.lnState l = 1 ∧ (t.lrun l).phase = .capab) ∧
    (∀ x msg, msg.length = 7 → byteAt msg 0 = 5 → byteAt msg 2 = s.fget (LN_PEER_PeerLane l) → s.lswap l = some x →
      x.done = true → x.back = true → x.spare < 96 → x.spare ≠ l →
      ((x.sentSw && x.gotSw) = false → gives (.release l msg) s fun t => t.lswap l = some { x with gotRel := true } ∧
        regsBut s t []) ∧
      (x.sentSw = true → x.gotSw = true → gives (.release l msg) s fun t => t.lswap l = none ∧
        t.fget (LN_SPARE_ActiveFor x.spare) = 0 ∧ t.reg (LN_SWAPS l) = s.reg (LN_SWAPS l) + 1 ∧
        (s.lnState x.spare = 5 → t.lnState x.spare = 4))))

/-! ## The fabric -/

/-- The fabric unit that is enabled: a part with other members forms, or is a minority of its last primary count where a reload had
stopped it in another role, and a part on its own is primary at once; the links of lanes that are UP are checked. HELLO and CREDIT:
what a link says of itself, and what it learns of its peer; CHECKING becomes UP when every check holds and the peer has heard this
part, a check that fails quarantines the link, and silence takes it down and back to CHECKING. (The model's own readings and
choices in this: log entry 87.) -/
def Obligations.LinksCheck : Prop :=
  (∀ (s : State) (l : Nat), s.takes FAB_CTRL → s.mclk = true → s.sprout = false →
    s.flag FAB_CTRL_Enable = false →
    (s.fabMembers.length ≠ 1 → gives .fabricEnable s fun t => t.fget FAB_CTRL_Enable = 1 ∧
      t.role = (if s.fab.again then 2 else 0) ∧ t.epoch = (if s.fab.again then s.epoch % 32768 + 32768 else 0x8000) ∧
      t.fget FAB_STATUS_IsAnchor = 0 ∧ t.fget FAB_MEMBERS_Count = s.fabMembers.length ∧
      (l < 96 → s.lnState l = 2 → s.lnMode l = 2 → s.linkState l = 0 → t.linkState l = 1)) ∧
    (s.fabMembers.length = 1 → gives .fabricEnable s fun t => t.fget FAB_CTRL_Enable = 1 ∧ t.role = 1 ∧ t.epoch = 1 ∧
      t.anchor = s.node ∧ t.fget FAB_STATUS_IsAnchor = 1)) ∧
  (∀ (s : State) (l : Nat) (p : List Byte) (rest : List (List Byte)), l < 96 →
    (s.fabOn = true → s.linkState l ≠ 0 → s.sprout = false → gives (.helloSend l) s fun t => regsBut s t [] ∧
      tget [] t.fab.llq l = tget [] s.fab.llq l ++ [(0, s.helloPayload l)]) ∧
    (s.fabOn = true → (s.linkState l = 1 ∨ s.linkState l = 2 ∨ s.linkState l = 4) → s.sprout = false →
      gives (.creditSend l) s fun t => regsBut s t [] ∧ tget [] t.fab.llq l = tget [] s.fab.llq l ++
        [(1, (List.range 4).flatMap fun vc => beBytes 2 (tget 0 s.fab.rxFreed (4 * l + vc)))]) ∧
    (tget [] s.fab.creditq l = p :: rest → p.length = 8 → s.carriesCredit l = true → gives (.creditReceive l) s fun t =>
      regsBut s t [] ∧
      tget [] t.fab.creditq l = rest ∧ ∀ vc < 4, tget 0 t.fab.freed (4 * l + vc) = beAt p (2 * vc) 2) ∧
    (tget [] s.fab.helloq l = p :: rest → p.length = 32 → byteAt p 0 / 16 = 1 → (s.linkState l = 1 ∨ s.linkState l = 2) →
      (s.helloCheck l p = (2, 0) → gives (.helloReceive l) s fun t => tget [] t.fab.helloq l = rest ∧
        t.linkState l = (if byteAt p 0 / 4 % 2 = 1 then 2 else 1) ∧ t.fget (FAB_LSTAT_Cause l) = 0 ∧
        t.fget (FAB_LSTAT_PeerNode l) = beAt p 2 2 % 4096 ∧ tget 0 t.fab.heard l = s.tim.ticks + 1 ∧
        ∀ vc < 4, tget 0 t.fab.peerInit (4 * l + vc) = beAt p (24 + 2 * vc) 2) ∧
      (∀ c, s.helloCheck l p = (3, c) → gives (.helloReceive l) s fun t => tget [] t.fab.helloq l = rest ∧ t.linkState l = 3 ∧
        t.fget (FAB_LSTAT_Cause l) = c ∧ t.reg FAB_QUAR = s.reg FAB_QUAR + 1 ∧ t.fget FAB_STATUS_QuarChg = 1)) ∧
    (s.linkState l ≠ 0 → s.sprout = false → s.fabOn = true → s.lnMode l = 2 → gives (.helloTimeout l) s fun t =>
      t.linkState l = 1 ∧ t.reg FAB_REROUTE = s.reg FAB_REROUTE + 1 ∧ tget 0 t.fab.heard l = 0))

/-- A frame at the head of a fabric lane's receiver: refused and counted where its header is not good; a good one that fits the
receive buffer is delivered where it is for this node, forwarded with one hop less where it is for another, and discarded where it
has none left. What a lane sends: a link-local frame first, with every header field; else the waiting frame of channel 2, else that
of channel 1, else a DATA frame that the Hull holds. The frame leaves its queue, and one with credit has its units spent. (The
model's own readings and choices in this: log entries 91, 232, 238, 278, 293.) -/
def Obligations.GensyFrames : Prop :=
  (∀ (s : State) (l x : Nat) (b : List Byte) (bs : List (Nat × List Byte)) (f : QFrame),
    l < 96 → s.fabOn = true → s.lnMode l = 2 → s.xIsHeld 1 l = false → tget [] s.ln.rxq l = (x, b) :: bs → f = parseFrame b →
    (headerOk b = false → gives (.gensyFrameReceive l) s fun t => t.reg FAB_HDRERR = s.reg FAB_HDRERR + 1 ∧
      tget [] t.ln.rxq l = bs ∧ regsBut s t [FAB_HDRERR]) ∧
    (headerOk b = true → typeRouted f.ty = true → s.linkUp l = true →
        s.rxInUse l f.vc + frameUnits f.payload.length ≤ vcUnits f.vc →
      (f.dest = s.node → gives (.gensyFrameReceive l) s fun t => t.reg FAB_RXFRM = s.reg FAB_RXFRM + 1 ∧
        tget [] t.ln.rxq l = bs ∧
        (f.ty = 3 → t.hull.inq = s.hull.inq ++ [⟨f.src, f.payload, decide (tget 0 s.fab.rxBad l ≠ 0)⟩]) ∧
        (f.ty = 4 → t.ctxs.products = s.ctxs.products ++
          [(f.src, f.flow, if tget 0 s.fab.rxBad l = 0 then f.payload else flagPacket f.payload)])) ∧
      (f.dest ≠ s.node → f.hops = 0 → gives (.gensyFrameReceive l) s fun t => t.reg FAB_HOPS = s.reg FAB_HOPS + 1 ∧
        tget [] t.ln.rxq l = bs ∧ t.fab.txq = s.fab.txq ∧ regsBut s t [FAB_HOPS]) ∧
      (∀ m, f.dest ≠ s.node → f.hops ≠ 0 → s.routeOf f = some m → gives (.gensyFrameReceive l) s fun t =>
        t.reg FAB_FWDFRM = s.reg FAB_FWDFRM + 1 ∧ tget [] t.ln.rxq l = bs ∧
        t.fab.txq = s.fab.txq ++ [{ f with
            hops := f.hops - 1, inLane := some l, rx := x, link := some m, bad := decide (tget 0 s.fab.rxBad l ≠ 0) }]))) ∧
  (∀ (s : State) (l : Nat), l < 96 → s.fabOn = true → s.linkState l ≠ 0 → s.sprout = false →
    (∀ p ∈ s.txLanes l, s.xIsHeld 2 p = false) →
    (∀ ty p rest, tget [] s.fab.llq l = (ty, p) :: rest → ty ≤ 2 → s.pinsAway = false → gives (.gensyFrameSend l) s fun t =>
      tget [] t.fab.llq l = rest ∧ t.reg FAB_TXFRM = s.reg FAB_TXFRM + 1 ∧ ∃ ls, ls.length = (s.txLanes l).length ∧
      t.wireOut = s.wireOut ++ ((s.txLanes l).zip ls).map fun q => .frame q.1 (gensyBytes { s.ownFrame ty
        (s.fget (FAB_LSTAT_PeerNode l)) 0 false p none with down := decide (s.fget (FAB_LCFG_Dir l) = 1) })
          (decide (tget 0 s.fab.txBad l ≠ 0)) q.2) ∧
    (∀ f, tget [] s.fab.llq l = [] → s.headFor l 2 = some f → s.credited l 2 f.payload.length = true → f.ts = false →
      typeLocal f.ty = false → gives (.gensyFrameSend l) s fun t => t.fab.txq = eraseOne f s.fab.txq ∧
        tget 0 t.fab.sent (4 * l + 2) = (tget 0 s.fab.sent (4 * l + 2) + frameUnits f.payload.length) % 65536) ∧
    (∀ f, tget [] s.fab.llq l = [] → s.headFor l 2 = none → s.headFor l 1 = some f →
      s.credited l 1 f.payload.length = true → f.ts = false → typeLocal f.ty = false →
      gives (.gensyFrameSend l) s fun t => t.fab.txq = eraseOne f s.fab.txq ∧
        tget 0 t.fab.sent (4 * l + 1) = (tget 0 s.fab.sent (4 * l + 1) + frameUnits f.payload.length) % 65536) ∧
    (∀ e d, tget [] s.fab.llq l = [] → s.headFor l 2 = none → s.headFor l 1 = none → s.headFor l 3 = none →
      s.headFor l 0 = none → s.hullHead l = some (e, d) → s.credited l 0 (d.hdr.length + d.len) = true →
      gives (.gensyFrameSend l) s fun t => t.reg HULL_TXFRM = s.reg HULL_TXFRM + 1 ∧
        tget [] t.hull.held e = dropHeld d (tget [] s.hull.held e) ∧
        tget 0 t.fab.sent (4 * l) = (tget 0 s.fab.sent (4 * l) + frameUnits (d.hdr.length + d.len)) % 65536))

/-- REACH goes to every neighbour over an UP link; one that arrives is kept, and over an UP link the reachable set follows it. The
decision after a change: a primary part that holds the greater half, or exactly half with the lowest member, stays or becomes
primary, with the lowest reachable member as its anchor; one that does not goes out of it and marks its epoch. A REJOIN whose frame
is reached takes effect before the decision. REJOIN: sent again to a member that has not acknowledged it, answered with an ACK,
held until its frame, and taken then by a node that reaches the anchor; an ACK of any copy ends the repetition. (The model's own
readings and choices in this: log entries 92, 93, 240, 241, 292.) -/
def Obligations.Membership : Prop :=
  (∀ (s : State) (l : Nat) (p : List Byte) (rest : List (List Byte)) (r : ReachRep),
    l < 96 → r = ⟨byteAt p 0 % 4, beAt p 4 2, beAt p 6 2 % 4096, unpackDist (p.drop 8)⟩ →
    (s.fabOn = true → s.sprout = false → s.linkUp l = true → gives .reachSend s fun t =>
      tget [] t.fab.llq l = tget [] s.fab.llq l ++ [(2, s.reachPayload)]) ∧
    (tget [] s.fab.reachq l = p :: rest → p.length = 2056 → byteAt p 0 / 16 = 1 → (s.linkState l = 1 ∨ s.linkState l = 2) →
      gives (.reachReceive l) s fun t => tget [] t.fab.reachq l = rest ∧ tget none t.fab.report l = some r ∧
        (s.linkState l = 1 → regsBut s t []) ∧
        (s.linkState l = 2 → ∀ n, n < 4096 → t.reachable n =
          (State.reachNow { s with fab := { s.fab with report := tset none s.fab.report l (some r) } }).contains n))) ∧
  (∀ (s : State) (half ms : List Nat) (primary : Prop), s.fabOn = true → s.sprout = false →
    exec .partitionDecision s = exec .partitionDecision s.rejoinDue ∧
    ((∀ r, s.fab.rejoin = some r → ∃ lf, s.hull.lfi = some lf ∧ idxDiff lf r.frame < 0) → half = s.halfNow → ms = s.fabMembers →
    (primary ↔ ms.length < 2 * half.length ∨ (2 * half.length = ms.length ∧ ms.headD s.node ∈ half)) →
    (s.role = 1 → ¬primary → gives .partitionDecision s fun t => t.role = 2 ∧ t.epoch = s.epoch % 32768 + 32768 ∧
      t.fget FAB_STATUS_IsAnchor = 0 ∧ t.fab.half = half) ∧
    (s.role ≠ 1 → primary → s.seesRole 1 = false → gives .partitionDecision s fun t => t.role = 1 ∧
      t.anchor = half.headD s.node ∧ t.fab.half = half ∧ t.fab.wasPrimary = true) ∧
    (s.role = 1 → primary → half.headD s.node = s.node → (∃ n ∈ s.fab.half, n ∉ half) → (∀ n ∈ half, n ∈ s.fab.half) →
      gives .partitionDecision s fun t => t.role = 1 ∧ t.anchor = s.node ∧ t.epoch = nextEpoch s.epoch ∧ t.fab.half = half) ∧
    (s.role ≠ 1 → (¬primary ∨ s.seesRole 1 = true) → gives .partitionDecision s fun t => t.role = s.role ∧ t.fab.half = half ∧
      regsBut s t []))) ∧
  (∀ (s : State) (n src seq : Nat) (p : List Byte) (r : RejoinSt) (qs : List Nat)
      (rest : List (Nat × Nat × List Byte)),
    (n < 4096 → s.fabOn = true → s.flag FAB_STATUS_IsAnchor = true → tget none s.fab.rejWait n = some qs →
      s.unitInReset 21 = false → s.route n 0 s.node 1 false ≠ none → gives (.rejoinRetry n) s fun t =>
        tget none t.fab.rejWait n = some (s.nextSeq n 1 :: qs) ∧
        ∃ f, t.fab.txq = s.fab.txq ++ [f] ∧ f.ty = 6 ∧ f.dest = n ∧ f.payload = s.fab.rejMsg) ∧
    (s.fab.rejoinq = (src, seq, p) :: rest → s.unitInReset 21 = false → p.length = 16 → byteAt p 0 / 16 = 1 →
      s.route src 0 s.node 1 false ≠ none →
      s.hull.lfi = none → gives .rejoinReceive s fun t => t.fab.rejoinq = rest ∧ t.role = 1 ∧ t.epoch = beAt p 2 2 ∧
        t.anchor = beAt p 4 2 % 4096 ∧ ∃ f, t.fab.txq = s.fab.txq ++ [f] ∧ f.ty = 7 ∧ f.dest = src ∧ f.payload = beBytes 2 seq) ∧
    (∀ lf, s.fab.rejoinq = (src, seq, p) :: rest → s.unitInReset 21 = false → p.length = 16 → byteAt p 0 / 16 = 1 →
      s.hull.lfi = some lf →
      beAt p 8 6 ≠ noFrame → idxDiff lf (beAt p 8 6) ≤ 0 → s.fab.rejoin = none → gives .rejoinReceive s fun t =>
        t.fab.rejoin = some ⟨beAt p 2 2, beAt p 4 2 % 4096, beAt p 8 6⟩ ∧ t.fget FAB_STATUS_RejoinPending = 1 ∧
        t.get2 FAB_REJ_LO FAB_REJ_HI = beAt p 8 6 ∧ t.role = s.role) ∧
    (∀ lf, s.fab.rejoin = some r → s.hull.lfi = some lf → 0 ≤ idxDiff lf r.frame → gives .rejoinApply s fun t =>
      t.fab.rejoin = none ∧ t.fget FAB_STATUS_RejoinPending = 0 ∧ (s.reachable r.anchor = true → t.role = 1 ∧
        t.epoch = r.epoch % 65536 ∧ t.anchor = r.anchor % 4096) ∧ (s.reachable r.anchor = false → t.role = s.role)) ∧
    (s.fab.ackq = (src, seq, p) :: rest → s.unitInReset 21 = false → p.length = 2 → tget none s.fab.rejWait src = some qs →
      gives .ack s fun t => t.fab.ackq = rest ∧ regsBut s t [] ∧ (beAt p 0 2 ∈ qs → tget none t.fab.rejWait src = none) ∧
        (beAt p 0 2 ∉ qs → t.fab.rejWait = s.fab.rejWait)))

/-- Remote reads: the request that goes out, the answer this part gives by its permission, the answer it takes, and the time-out.
Seeding: frames in order are counted in and answered, others are answered with the offset expected; the sender goes on from what is
acknowledged, resends from there, stops, and begins again. (The model's own readings and choices in this: log entries 95, 96, 97,
98, 114.) -/
def Obligations.NodeServices : Prop :=
  (∀ (s : State) (v : Word) (src seq : Nat) (p : List Byte)
      (rest : List (Nat × Nat × List Byte)),
    (s.takes FAB_MREQ → FAB_MREQ_Go.of v = 1 → s.flag FAB_MSTAT_Busy = false → s.fabOn = true →
      s.route (FAB_MREQ_Node.of v) 0 s.node 3 false ≠ none → gives (.mreadRequest v) s fun t =>
        t.reg FAB_MSTAT = 0x80000000#32 ∧ regsBut s t [FAB_MSTAT] ∧ ∃ f, t.fab.txq = s.fab.txq ++ [f] ∧ f.ty = 8 ∧
          f.dest = FAB_MREQ_Node.of v ∧ f.payload = beBytes 4 (s.reg FAB_MADDR).toNat) ∧
    (s.takes FAB_MREQ → FAB_MREQ_Go.of v = 1 → s.flag FAB_MSTAT_Busy = false →
      s.route (FAB_MREQ_Node.of v) 0 s.node 3 false = none → gives (.mreadRequest v) s fun t => t.reg FAB_MSTAT = 3#32 ∧
        t.fab.txq = s.fab.txq) ∧
    (s.fab.mreadq = (src, seq, p) :: rest → s.unitInReset 21 = false → p.length = 4 → s.regHeld (beAt p 0 4 / 4 * 4) = false →
      s.fabOn = true → s.route src 0 s.node 3 false ≠ none →
      (s.mreadAllowed (beAt p 0 4 / 4 * 4) = false → gives .mread s fun t => t.fab.mreadq = rest ∧ regsBut s t [] ∧
        ∃ f, t.fab.txq = s.fab.txq ++ [f] ∧ f.ty = 9 ∧ f.dest = src ∧ f.payload = mrespPayload (p.take 4) 0 1) ∧
      (s.mreadAllowed (beAt p 0 4 / 4 * 4) = true → isUpperWord (beAt p 0 4 / 4 * 4) = false → gives .mread s fun t =>
        t.fab.mreadq = rest ∧ ∃ f, t.fab.txq = s.fab.txq ++ [f] ∧ f.ty = 9 ∧ f.dest = src ∧
          f.payload = mrespPayload (p.take 4) (s.peek (beAt p 0 4 / 4 * 4)).toNat 0)) ∧
    (s.fab.mrespq = (src, seq, p) :: rest → s.unitInReset 21 = false → p.length = 12 → s.flag FAB_MSTAT_Busy = true →
      gives .mresp s fun t =>
      t.fab.mrespq = rest ∧ t.reg FAB_MRESP = BitVec.ofNat 32 (beAt p 4 4) ∧
      t.reg FAB_MSTAT = BitVec.ofNat 32 (byteAt p 8 % 4) ∧ regsBut s t [FAB_MRESP, FAB_MSTAT]) ∧
    (s.flag FAB_MSTAT_Busy = true → gives .mreadTimeout s fun t => t.reg FAB_MSTAT = 2#32 ∧ regsBut s t [FAB_MSTAT])) ∧
  (∀ (s : State) (l : Nat) (p : List Byte) (rest : List (List Byte)), l < 96 →
    (tget [] s.fab.seedq l = p :: rest → s.hbmHeld = false → 16 ≤ p.length → s.fab.seedLane = some l →
      (beAt p 0 4 ≠ s.fab.seedGot → gives (.seed l) s fun t => tget [] t.fab.seedq l = rest ∧
        t.reg FAB_SEEDFR = s.reg FAB_SEEDFR + 1 ∧ t.fab.seedGot = s.fab.seedGot ∧ ∃ f, t.fab.txq = s.fab.txq ++ [f] ∧
          f.ty = 11 ∧ f.via = some l ∧ f.payload = beBytes 4 s.fab.seedGot) ∧
      (beAt p 0 4 = s.fab.seedGot → gives (.seed l) s fun t => tget [] t.fab.seedq l = rest ∧
        t.reg FAB_SEEDFR = s.reg FAB_SEEDFR + 1 ∧
        t.fab.seedGot = s.fab.seedGot + min (p.length - 16) (beAt p 4 4 - s.fab.seedGot))) ∧
    (s.fab.seedLane = some l → s.fab.seedCount ≠ 0 → gives .seedAckSend s fun t => t.fab.seedCount = 0 ∧ regsBut s t [] ∧
      ∃ f, t.fab.txq = s.fab.txq ++ [f] ∧ f.ty = 11 ∧ f.via = some l ∧ f.payload = beBytes 4 s.fab.seedGot) ∧
    (tget [] s.fab.seedackq l = p :: rest → s.unitInReset 21 = false → 4 ≤ p.length → s.linkState l = 4 →
      (s.seedOf l).active = true →
      (s.seedOf l).acked < beAt p 0 4 → beAt p 0 4 ≤ (s.seedOf l).len → gives (.seedAck l) s fun t =>
        tget [] t.fab.seedackq l = rest ∧ (t.seedOf l).acked = beAt p 0 4 ∧ (t.seedOf l).len = (s.seedOf l).len) ∧
    (s.unitInReset 21 = false → s.hbmHeld = false → (s.seedOf l).active = true → (s.seedOf l).acked < (s.seedOf l).len →
      gives (.seedResend l) s fun t =>
      (t.seedOf l).acked = (s.seedOf l).acked ∧ (s.seedOf l).acked < (t.seedOf l).next ∧
      (t.seedOf l).next ≤ (s.seedOf l).acked + 262144 ∧ (t.seedOf l).next ≤ (s.seedOf l).len) ∧
    ((s.seedOf l).active = true → gives (.seedStop l) s fun t => (t.seedOf l).active = false ∧ regsBut s t [] ∧
      ∀ f ∈ t.fab.txq, f.ty ≠ 10 ∨ f.via ≠ some l) ∧
    (s.fabOn = true → s.unitInReset 21 = false → s.linkState l = 4 → (s.seedOf l).active = false → s.img.appliedLen ≠ 0 →
      gives (.seedRetry l) s fun t => (t.seedOf l).active = true ∧ (t.seedOf l).acked = 0 ∧
        (t.seedOf l).len = s.img.appliedLen) ∧
    (s.img.seedHold = true → s.img.unassigned = true → s.loaderBusy = false → gives .newSeedAccept s fun t =>
      t.img.seedHold = false ∧ t.imgSt = 6))

/-! ## The DRAM controllers -/

/-- A line write in the map stores exactly the strobed bytes of its line and waits in its bank; a line read answers what the line
holds and changes no byte, each burst that the stack reports counts once and its parity is wrong; a read beyond the map answers
zeros with wrong parity and is counted; a full bank that an urgent refresh blocks refuses the request. The DMW window: a 4-byte
write stores its bytes at the window's address and nowhere else; a read answers the four bytes there. (The model's own readings and
choices in this: log entries 99, 104, 105, 242, 254, 288.) -/
def Obligations.DramStores : Prop :=
  (∀ (s : State) (a pc k : Nat) (w : LineWrite) (sev : List Nat), s.dmcOn = true →
    s.hbmHeld = false → a % 64 = 0 → a < 2 ^ 38 → (∀ b ∈ sev, b < 2) → pc = s.hbmPc a → k = 48 * pc + bankOf (s.hbmPa a) →
    (s.hbmIn a = true → s.pcState pc = 2 → s.pcFailed pc = false → (s.bankQ k).length < 8 → s.dmc.sudden = [] →
      lineWriteOk w = true → (∀ b ∈ w.badParity, b = false) → gives (.dramRequest a ⟨some w, sev⟩) s fun t =>
        (∀ i < 64, t.hbmByte (a + i) = if w.strobes.getD i false then w.bytes.getD i 0 else s.hbmByte (a + i)) ∧
        (∀ b, (b < a ∨ a + 64 ≤ b) → (s.hbmPc b = pc → s.hbmSlot b = s.hbmSlot a) → t.hbmByte b = s.hbmByte b) ∧
        t.wireOut = s.wireOut ∧ ∃ r ∈ t.bankQ k, r.write = true ∧ r.line = s.hbmPa a / 64) ∧
    (s.hbmIn a = true → s.pcOpen pc = true → (s.bankQ k).length < 8 → gives (.dramRequest a ⟨none, sev⟩) s fun t =>
      t.hbm = s.hbm ∧ t.hbmBad = s.hbmBad ∧ ∃ bad, t.wireOut = s.wireOut ++ [.dram (s.hbmBytes a 64) bad] ∧
        (s.writesTo k (s.hbmPa a / 64) = [] →
          bad = (List.range 64).map (fun i => decide (i / 32 ∈ sev) || s.hbmByteBad (a + i)) ∧
          (s.pcFailed pc = false → pc < 192 → t.reg (DMC_SEV pc) = s.reg (DMC_SEV pc) +
            (if 0 ∈ sev ∨ s.severeAt a = true then 1 else 0) + (if 1 ∈ sev ∨ s.severeAt (a + 32) = true then 1 else 0)))) ∧
    (s.hbmIn a = false → gives (.dramRequest a ⟨none, sev⟩) s fun t => t.hbm = s.hbm ∧
      t.reg (DMC_OOR 0) = s.reg (DMC_OOR 0) + 1 ∧ t.reg (ERL_PARCNT 6) = s.reg (ERL_PARCNT 6) + 2 ∧
      t.wireOut = s.wireOut ++ [.dram (List.replicate 64 0) (List.replicate 64 true)]) ∧
    (∀ acc : LineAccess, acc.write.all lineWriteOk = true → acc.severe = sev → s.hbmIn a = true → s.pcUrgent pc = true →
      8 ≤ (s.bankQ k).length → exec (.dramRequest a acc) s = .next (s.severeNote a sev))) ∧
  (∀ (s : State) (off : Nat) (v : Word), s.dmcOn = true →
    s.regHeld (0x10000000 + off) = false → off % 4 = 0 → off < 2 ^ 28 →
    (s.hbmIn (s.dmwAddr off) = true → s.pcFailed (s.hbmPc (s.dmwAddr off)) = false → gives (.dmwAccess off (some v)) s fun t =>
      t.hbmBytes (s.dmwAddr off) 4 = leBytes 4 v.toNat ∧ t.wireOut = s.wireOut ∧
      ∀ b, (b < s.dmwAddr off ∨ s.dmwAddr off + 4 ≤ b) →
        (s.hbmPc b = s.hbmPc (s.dmwAddr off) → s.hbmSlot b = s.hbmSlot (s.dmwAddr off)) → t.hbmByte b = s.hbmByte b) ∧
    (gives (.dmwAccess off none) s fun t => t.hbm = s.hbm ∧ t.hbmBad = s.hbmBad ∧
      t.wireOut = s.wireOut ++ [.dram (s.hbmBytes (s.dmwAddr off) 4)
        ((List.range 4).map fun i => s.hbmByteBad (s.dmwAddr off + i))]))

/-- Refresh: an interval owes one more, a refresh that finds a token pays one (URGENT above eight owed), a stack's temperature
class changes at the edges of its hysteresis and doubles or halves what its pseudo-channels owe, and a drift of more than ten
degrees makes a trained one stale; an idle row is precharged; and self-refresh pays all, takes every pseudo-channel that is not off
with it, one that is out of service coming back so, and refuses requests. (The model's own readings and choices in this: log
entries 101, 246, 247.) -/
def Obligations.Refreshes : Prop := ∀ (s : State) (pc : Nat), pc < 192 →
  (∀ bank, bank < 48 → s.dmcOn = true → exec (.rowIdlePrecharge pc bank) s =
    .next { s with dmc := { s.dmc with row := tset 0 s.dmc.row (48 * pc + bank) 0 } }) ∧
  (s.pcRefreshed pc = true → gives (.refreshDue pc) s fun t => t.owed pc = s.owed pc + 1 ∧
    t.fget (DMC_PCSTAT_Owed pc) = min 8 (s.owed pc + 1) ∧ regsBut s t [DMC_PCSTAT pc] ∧
    ∀ q, q ≠ pc → t.owed q = s.owed q) ∧
  (s.pcRefreshed pc = true → 1 ≤ s.owed pc → s.pcStalled pc = false → s.tokenFor pc = true →
    (8 < s.owed pc ∨ s.pcQueued pc < max 1 (s.fget DMC_CFG_PostponeDepth)) →
    gives (.refreshIssue pc) s fun t => t.owed pc = s.owed pc - 1 ∧ t.fget (DMC_PCSTAT_Owed pc) = min 8 (s.owed pc - 1) ∧
      (pc, s.tim.ticks + ceilDiv s.trfc 4) ∈ t.dmc.tokens ∧ t.reg (DMC_REFCNT pc) = s.reg (DMC_REFCNT pc) + 1 ∧
      t.reg (DMC_URGENT pc) = s.reg (DMC_URGENT pc) + (if 8 < s.owed pc then 1 else 0)) ∧
  (∀ (tenths d : Int) (hot : Bool), -1280 ≤ tenths → tenths ≤ 1279 → s.dmcOn = true →
    hot = (if 850 < tenths then true else if tenths ≤ 830 then false else s.flag (DMC_STACK_Hot (pc / 32))) →
    d = tenths - tget 0 s.dmc.tagTemp pc →
    gives (.stackTempRead (pc / 32) tenths) s fun t => t.fget (DMC_STACK_TempC (pc / 32)) = ofSigned 8 (tenths / 10) ∧
      t.flag (DMC_STACK_Hot (pc / 32)) = hot ∧
      t.owed pc = (if hot = s.flag (DMC_STACK_Hot (pc / 32)) then s.owed pc
        else if hot then s.owed pc * 2 else (s.owed pc + 1) / 2) ∧
      ((s.pcState pc = 2 ∨ s.pcState pc = 4 ∨ s.pcState pc = 5) → s.flag (DMC_PCSTAT_TrainStale pc) = false →
        (100 < d ∨ d < -100) → t.flag (DMC_PCSTAT_TrainStale pc) = true ∧ (t.reg GLB_INTPEND).getLsbD 7 = true)) ∧
  (s.dmcOn = true → s.pwr.phase = .retain → s.retainFree = true → gives .selfRefreshEntry s fun t => t.owed pc = 0 ∧
    t.reg (DMC_REFCNT pc) = s.reg (DMC_REFCNT pc) + BitVec.ofNat 32 (s.owed pc) ∧
    t.pcState pc = (if s.pcState pc = 0 then 0 else 3) ∧
    tget 0 t.dmc.was pc = (if 6 ≤ s.pcState pc then s.pcState pc else tget 0 s.dmc.was pc) ∧
    t.flag DMC_STATUS_Ready = false ∧ t.dmcOn = false ∧ t.hbmHeld = true ∧ t.hbm = s.hbm)

/-- Training of the stacks, step by step: a pseudo-channel that passes the last step becomes ACTIVE in its slot, COPYING where a
copy to it waits, or RESERVE, and one that is out of service stays so; one that fails in no slot is retired; on the way out of
RETAIN a verification that fails is repeated in full, and each pseudo-channel has had one refresh; a warm training tags every
active pseudo-channel afresh. (The model's own readings and choices in this: log entry 249.) -/
def Obligations.DramTrains : Prop := ∀ (s : State) (pc k was : Nat), pc < 192 → k < 4 → was = tget 0 s.dmc.was pc →
  (was = 0 ∨ was = 6 ∨ was = 7) →
  (s.dmcTrains = true → s.pcState pc = 1 → tget 0 s.dmc.train pc ≤ k → s.img.romHbm = false →
    (k < 3 → gives (.trainingStepDone pc ⟨k, true⟩) s fun t => t.pcState pc = 1 ∧ tget 0 t.dmc.train pc = k + 1) ∧
    (gives (.trainingStepDone pc ⟨3, true⟩) s fun t =>
      t.pcState pc = (if was ≠ 0 then was else if s.pcMapped pc then 2
        else if s.dmc.copy.any (fun e => decide (e.2 = pc + 1)) then 5 else 4) ∧
      t.flag (DMC_PCSTAT_TrainStale pc) = false ∧ t.fget (DMC_PCSTAT_TagTempC pc) = ofSigned 8 (s.pcTemp pc / 10) ∧
      tget 0 t.dmc.tagTemp pc = s.pcTemp pc ∧
      ((∀ i, i < s.nActive → s.fget (DMC_PCMAP_Pc i) = pc ∨ 2 ≤ s.pcState (s.fget (DMC_PCMAP_Pc i)) ∨
          tget 0 s.dmc.was (s.fget (DMC_PCMAP_Pc i)) ≠ 0) →
        t.flag DMC_STATUS_Ready = true)) ∧
    (s.pwr.phase = .exit → 1 ≤ k → tget 0 s.dmc.again pc ≠ k + 1 → gives (.trainingStepDone pc ⟨k, false⟩) s fun t =>
      t.pcState pc = 1 ∧ tget 0 t.dmc.train pc = k ∧ tget 0 t.dmc.again pc = k + 1 ∧ t.dmc.slow = true ∧
      t.reg (DMC_REFCNT pc) = s.reg (DMC_REFCNT pc) + (if tget 0 s.dmc.train pc = 0 then 1 else 0) ∧
      regsBut s t [DMC_REFCNT pc, PMC_LIVE_LO (408 + pc / 8), PMC_LIVE_HI (408 + pc / 8)]) ∧
    ((s.pwr.phase ≠ .exit ∨ k = 0 ∨ tget 0 s.dmc.again pc = k + 1) → s.pcMapped pc = false →
      gives (.trainingStepDone pc ⟨k, false⟩) s fun t => t.flag DMC_STATUS_TrainFail = true ∧
        t.pcState pc = (if was ≠ 0 then was else 6) ∧ (t.reg GLB_INTPEND).getLsbD 5 = true)) ∧
  (s.takes DMC_CTRL → s.dmcOn = true → s.flag DMC_STATUS_Ready = true → gives .dmcWarmTrain s fun t =>
    t.flag DMC_STATUS_WarmBusy = true ∧ regsBut s t [DMC_STATUS]) ∧
  (s.flag DMC_STATUS_WarmBusy = true → gives .dmcWarmTrainDone s fun t => t.flag DMC_STATUS_WarmBusy = false ∧
    (s.pcState pc = 2 → t.fget (DMC_PCSTAT_TagTempC pc) = ofSigned 8 (s.pcTemp pc / 10) ∧
      t.flag (DMC_PCSTAT_TrainStale pc) = false))

/-- Retirement: a planned one copies to the first reserve, one that still trains once it is trained, and then moves the slot with
every byte; a sudden one (or a second parity error of a command) moves the slot at once and none of its bytes counts as written;
with no reserve the pseudo-channel fails, and where the clean map it needs is in use it fails and its retirement waits; a failed
one leaves its slot where a reserve can take it; and a fault out of the map retires the pseudo-channel and takes it as a copy's
target from no other. (The model's own readings and choices in this: log entries 103, 252, 307, 308.) -/
def Obligations.Retirement : Prop := ∀ (s : State) (pc q : Nat), pc < 192 → q < 192 → q ≠ pc →
  (s.dmcOn = true → s.pcMapped pc = true → s.pcState pc = 2 → tget 0 s.dmc.copy pc = 0 →
    (s.reserves.head? = some q → gives (.retirePlanned pc) s fun t => t.pcState q = (if s.pcState q = 1 then 1 else 5) ∧
      t.pcState pc = 2 ∧ tget 0 t.dmc.copy pc = q + 1 ∧ t.hbm = s.hbm) ∧
    (s.reserves = [] → gives (.retirePlanned pc) s fun t => t.pcState pc = 7)) ∧
  (Memory.wf s = true → tget 0 s.dmc.copy pc = q + 1 → s.pcFailed pc = false → s.pcFailed q = false → s.pcState q = 5 →
    gives (.retireCopyDone pc) s fun t =>
    t.pcState q = 2 ∧ t.pcState pc = 6 ∧ tget 0 t.dmc.copy pc = 0 ∧ t.flag DMC_STATUS_RetireDone = true ∧
    (∀ i, i < s.nActive → t.fget (DMC_PCMAP_Pc i) =
      if s.fget (DMC_PCMAP_Pc i) = pc then q else s.fget (DMC_PCMAP_Pc i)) ∧
    ∀ a, s.hbmPc a ≠ q → t.hbmByte a = s.hbmByte a) ∧
  (tget 0 s.dmc.copy pc = q + 1 → s.pcState q ≠ 5 → exec (.retireCopyDone pc) s = .next s) ∧
  (s.dmcOn = true → s.pcMapped pc = true → (s.pcState pc = 1 ∨ s.pcState pc = 2) →
    (∀ c, (c = .retireSudden pc ∨ c = .commandAddressParityError pc true) →
      ((tget 0 s.dmc.copy pc = q + 1 ∨ (tget 0 s.dmc.copy pc = 0 ∧ s.reserves.head? = some q)) →
        s.cleanFree (q / 8) = true → gives c s fun t =>
        t.pcState pc = 6 ∧ t.pcState q = (if s.pcState q = 1 then 1 else 2) ∧ t.hbm = s.hbm ∧
        (∀ i, i < s.nActive → t.fget (DMC_PCMAP_Pc i) =
          if s.fget (DMC_PCMAP_Pc i) = pc then q else s.fget (DMC_PCMAP_Pc i)) ∧
        ∀ pa < pcBytes, t.hbmUnclean q pa = true) ∧
      ((tget 0 s.dmc.copy pc = q + 1 ∨ (tget 0 s.dmc.copy pc = 0 ∧ s.reserves.head? = some q)) →
        s.cleanFree (q / 8) = false → gives c s fun t =>
          t.pcState pc = 7 ∧ t.hbm = s.hbm ∧ t.dmc.sudden = s.dmc.sudden ++ [pc]) ∧
      (tget 0 s.dmc.copy pc = 0 → s.reserves = [] → gives c s fun t => t.pcState pc = 7 ∧ t.hbm = s.hbm))) ∧
  (s.dmcOn = true → s.pcMapped pc = true → s.pcState pc = 7 → s.reserves.head? = some q → s.cleanFree (q / 8) = true →
    gives (.retireSudden pc) s fun t => t.pcState pc = 6 ∧ t.pcState q = (if s.pcState q = 1 then 1 else 2) ∧ t.hbm = s.hbm ∧
      ∀ i, i < s.nActive → t.fget (DMC_PCMAP_Pc i) =
        if s.fget (DMC_PCMAP_Pc i) = pc then q else s.fget (DMC_PCMAP_Pc i)) ∧
  (s.dmcOn = true → s.pcMapped pc = false → (s.pcState pc = 1 ∨ s.pcState pc = 4 ∨ s.pcState pc = 5) →
    gives (.commandAddressParityError pc true) s fun t => t.pcState pc = 6 ∧ t.hbm = s.hbm ∧
      ∀ p, tget 0 t.dmc.copy p ≠ pc + 1) ∧
  exec (.commandAddressParityError pc false) s = .next s

/-- Distances in the graph: 0 to itself; to another node 1 more than the least that the latest REACH of an UP link reports, at most
15, and a node at 15 is not reachable; a link that goes DOWN withdraws its report. -/
def Obligations.Distances : Prop := ∀ (s : State) (n l : Nat), n < 4096 → l < 96 →
  s.distances.length = 4096 ∧
  (n = s.node → s.distances.getD n 15 = 0) ∧
  (n ≠ s.node →
    (∀ k r, k < 96 → s.linkUp k = true → tget none s.fab.report k = some r → s.distances.getD n 15 ≤ 1 + r.dist.getD n 15) ∧
    s.distances.getD n 15 ≤ 15 ∧
    (s.distances.getD n 15 < 15 → ∃ k r, k < 96 ∧ s.linkUp k = true ∧ tget none s.fab.report k = some r ∧
      s.distances.getD n 15 = 1 + r.dist.getD n 15) ∧
    (s.distances.getD n 15 = 15 → n ∉ s.reachNow)) ∧
  (s.linkState l ≠ 0 → s.sprout = false → s.fabOn = true → s.lnMode l = 2 → gives (.helloTimeout l) s fun t =>
    tget none t.fab.report l = none)

/-- An address inside a block's range, whose clock runs, that is allocated to no register ignores writes and reads zero, and
neither is an error. -/
def Obligations.UnallocatedAddresses : Prop := ∀ (s : State) (a i : Nat) (v : Word), s.takes a → a % 4 = 0 →
  findRow a = none → inBlock a = true →
  exec (.registerWrite a v) s = .next s ∧
  (i < 24 → mayAddress i 26 = true →
    exec (.bridgeAccess i a (some v) true) s = .next s ∧
    gives (.bridgeAccess i a none true) s fun t => t = { s with wireOut := s.wireOut ++ [.bridge i 0] })

/-- The part ignores bits [1:0] of an address, in the commands that name a register by its address, and in the address bytes of a
write on the bus. -/
def Obligations.AddressLowBits : Prop := ∀ (s : State) (a i : Nat) (v : Word) (w : Option Word) (strobes fabric : Bool)
    (bs : List Byte),
  exec (.registerWrite a v) s = exec (.registerWrite (a / 4 * 4) v) s ∧
  exec (.bridgeAccess i a w strobes) s = exec (.bridgeAccess i (a / 4 * 4) w strobes) s ∧
  exec (.dmwAccess a w) s = exec (.dmwAccess (a / 4 * 4) w) s ∧
  exec (.regClkOff i a) s = exec (.regClkOff i (a / 4 * 4)) s ∧
  exec (.lowWordRead a fabric) s = exec (.lowWordRead (a / 4 * 4) fabric) s ∧
  (a < 2 ^ 32 → exec (.sdrWrite (beBytes 4 a ++ bs) none) s = exec (.sdrWrite (beBytes 4 (a / 4 * 4) ++ bs) none) s)

/-! ## Registers, the matrix and the crossings -/

/-- A write of a register, by the host, as a posted write or through the peripheral bridge: each field takes the value by its
access code, a locked field keeps its own and the write is logged with its initiator, and no other register changes. A write of a
table's word is taken where its owner is stopped: each field takes the value, and no other register changes; else it is ignored and
logged. A write of a word that holds an enable and leaves it as it is: the other fields take the value by their access codes, a
locked one keeps its own and the write is logged, and no other register changes. A write of a command word acts as its command, but
for the golden copy, which follows every write; a START or STOP written to the command register of the contexts waits for the
command unit, or sets Overrun where one waits already. Words that their unit acts on take their fields too: the rank and type of a
reference, fabric time, the controllers' control word, the sampler's configuration, the entry point of a pod that is stopped; and a
lower word of a value that takes effect as a whole is held. (The model's own readings and choices in this: log entry 13.) -/
def Obligations.RegisterWrites : Prop :=
  (∀ (s : State) (a i : Nat) (v : Word) (ws : List Posted) (w : Posted) (r : RegRow)
      (ix : List Nat) (c : Instr), s.takes a → plainReg a = true → findRow a = some (r, ix) → i < 24 →
    ((c = .registerWrite a v ∧ i = 21) ∨ (c = .postedWrite ∧ s.i3c.posted = w :: ws ∧ w.addr / 4 * 4 = a ∧ w.value = v ∧ i = 21) ∨
      (c = .bridgeAccess i a (some v) true ∧ mayAddress i 26 = true)) →
    (∀ f ∈ r.fields, gives c s fun t => (t.reg a).extractLsb' f.lo f.width = afterWrite f.acc (s.ownerOpen r.owner ix)
      (v.extractLsb' f.lo f.width) ((s.reg a).extractLsb' f.lo f.width)) ∧
    ((s.ownerOpen r.owner ix = true ∨ r.hasRwl = false) → gives c s fun t => regsBut s t [a] ∧ t.erl = s.erl) ∧
    (s.ownerOpen r.owner ix = false → r.hasRwl = true → gives c s fun t => logged t 4 0 i) ∧
    (c = .postedWrite → gives c s fun t => t.i3c.posted = ws)) ∧
  (∀ (s : State) (a : Nat) (v : Word) (r : RegRow) (ix : List Nat), s.takes a →
    findRow a = some (r, ix) →
    (s.tableOpen a v = some true → gives (.registerWrite a v) s fun t => regsBut s t [a] ∧
      ∀ f ∈ r.fields, (t.reg a).extractLsb' f.lo f.width = afterWrite f.acc true
        (v.extractLsb' f.lo f.width) ((s.reg a).extractLsb' f.lo f.width)) ∧
    (s.tableOpen a v = some false → gives (.registerWrite a v) s fun t => t.reg a = s.reg a ∧ logged t 4 0 21)) ∧
  (∀ (s : State) (a : Nat) (v : Word) (r : RegRow) (ix : List Nat) (e : Fld), s.takes a →
    findRow a = some (r, ix) → enableOf a = some e → e.of v = s.fget e →
    (∀ f ∈ r.fields, gives (.registerWrite a v) s fun t => (t.reg a).extractLsb' f.lo f.width =
      afterWrite f.acc (s.ownerOpen r.owner ix) (v.extractLsb' f.lo f.width) ((s.reg a).extractLsb' f.lo f.width)) ∧
    ((s.ownerOpen r.owner ix = true ∨ r.hasRwl = false) → gives (.registerWrite a v) s fun t => regsBut s t [a]) ∧
    (s.ownerOpen r.owner ix = false → r.hasRwl = true → gives (.registerWrite a v) s fun t => logged t 4 0 21)) ∧
  (∀ (s : State) (a n : Nat) (v : Word) (c : Instr) (start : Bool),
    (c.wf = true → commandWord c = some (a, v) → s.takes a → gives (.registerWrite a v) s fun t =>
      ∃ u, exec c s = .next u ∧ u = { t with img := { t.img with golden := u.img.golden } }) ∧
    (n < 4096 → s.takes CTX_CMD → v = CTX_CMD_Op.into (CTX_CMD_Context.into 0 n) (if start then 1 else 2) →
      (s.flag CTX_CSTAT_Busy = true → gives (.registerWrite CTX_CMD v) s fun t =>
        t.flag CTX_CSTAT_Overrun = true ∧ t.ctxs = s.ctxs ∧ regsBut s t [CTX_CSTAT]) ∧
      (s.flag CTX_CSTAT_Busy = false → gives (.registerWrite CTX_CMD v) s fun t =>
        t.flag CTX_CSTAT_Busy = true ∧ t.ctxs.queue = s.ctxs.queue ++ [⟨false, start, n⟩] ∧ regsBut s t [CTX_CSTAT]))) ∧
  (∀ (s : State) (a p : Nat) (v : Word) (r : RegRow) (ix : List Nat), s.takes a →
    findRow a = some (r, ix) →
    ((∃ i, i < 7 ∧ a = TMB_REFCFG i) ∨ a = TMB_FTCFG ∨ a = DMC_CTRL ∨ isPipConfig a = true →
      ∀ f ∈ r.fields, gives (.registerWrite a v) s fun t => (t.reg a).extractLsb' f.lo f.width =
        afterWrite f.acc (s.ownerOpen r.owner ix) (v.extractLsb' f.lo f.width) ((s.reg a).extractLsb' f.lo f.width)) ∧
    (p < 64 → a = POD_CTRL p → gives (.registerWrite a v) s fun t => t.fget (POD_CTRL_Entry p) =
      if s.flag (POD_STATUS_Running p) then s.fget (POD_CTRL_Entry p) else (POD_CTRL_Entry p).of v) ∧
    (isHeldWord a = true → gives (.registerWrite a v) s fun t => t.peek a = v ∧ t.regs = s.regs))

/-- A register whose clock is stopped: a write to it changes nothing there, a read returns zero, and each is logged. A read of the
low word of a wide value latches its other words, for the host and for the fabric apart; a read through the bridge returns a
register's word, an upper word from the latch, and a group with some strobes off is skipped and counted. An address that no
register has reads zero and ignores writes whatever block it lies in, and neither is an error (the model's choice: log entry 266);
the host's write of one that lies in no block at all too. (The model's own readings and choices in this: log entries 12, 118, 266.)
-/
def Obligations.RegisterReads : Prop :=
  (∀ (s : State) (a i : Nat) (v : Word), s.awake = true → s.regOff a = true → s.regHeld a = false →
    a % 4 = 0 → a < 2 ^ 28 → i < 24 →
    (gives (.registerWrite a v) s fun t => logged t 6 0 21 ∧ (a < 0xC00000 → t.reg a = s.reg a)) ∧
    (mayAddress i 26 = true → gives (.bridgeAccess i a none true) s fun t => logged t 6 0 i ∧
      t.wireOut = s.wireOut ++ [.bridge i 0]) ∧
    (gives (.regClkOff i a) s fun t => logged t 6 0 i ∧ (a < 0xC00000 → t.reg a = s.reg a))) ∧
  (∀ (s : State) (a i : Nat), s.takes a → a % 4 = 0 →
    (upperWords a ≠ [] →
      (gives (.lowWordRead a false) s fun t => t.regs = s.regs ∧ t.shadowFab = s.shadowFab ∧
        ∀ u ∈ upperWords a, shadowOf t.shadow u = s.peek u) ∧
      (gives (.lowWordRead a true) s fun t => t.regs = s.regs ∧ t.shadow = s.shadow ∧
        ∀ u ∈ upperWords a, shadowOf t.shadowFab u = s.peek u)) ∧
    (a < 2 ^ 28 → i < 24 → mayAddress i 26 = true →
      (gives (.bridgeAccess i a none true) s fun t => t.regs = s.regs ∧
        t.wireOut = s.wireOut ++ [.bridge i (if isUpperWord a then shadowOf s.shadow a else s.peek a)]) ∧
      (gives (.bridgeAccess i a none false) s fun t => regsBut s t [MTX_DECERR i] ∧
        t.reg (MTX_DECERR i) = s.reg (MTX_DECERR i) + 1 ∧ t.wireOut = s.wireOut ++ [.bridge i 0]))) ∧
  (∀ (s : State) (a i : Nat) (v : Word), s.awake = true → a % 4 = 0 →
    findRow a = none → isDmw a = false →
    (a < 2 ^ 32 → exec (.registerWrite a v) s = .next s) ∧
    (a < 2 ^ 28 → i < 24 → mayAddress i 26 = true → s.regHeld a = false →
      exec (.bridgeAccess i a (some v) true) s = .next s ∧
      gives (.bridgeAccess i a none true) s fun t => t = { s with wireOut := s.wireOut ++ [.bridge i 0] }))

/-- A matrix request that nothing holds, at a target that is free, is granted at once: a read is done with the bytes there, a write
of no more beats than the ports pass in the tick stores its strobed bytes and nothing else, and each is outstanding until it is
answered; a read at the registers takes each word as it stands there, a write of one word of a context's entry takes its fields by
access code; one that finds no target it may address is a DECODE_ERR of zeros; one that is held stands at its port and is counted.
(The model's own readings and choices in this: log entries 106, 109, 256, 257, 260.) -/
def Obligations.MatrixTransactions : Prop := ∀ (s : State) (i id a n t q base : Nat) (w : LineWrite), s.awake = true →
  s.mclk = true →
  s.portState i = 0 → matrixOk i id a (some w) n = true → t = s.reqTarget i a → q = s.reqId i id a →
  (s.fencedIds i).contains q = false → (t ≤ 23 → s.dmcOn = true) → s.portQ i = [] →
  base = a - 0x8000000000 →
  (t < 28 → s.mtxHold i q t = none → s.targetFree i q t →
    (t = 24 → (s.beatsOut t + n ≤ 64 → gives (.matrixRequest i id a none n) s fun u => u.hull = s.hull ∧
      ∃ bad, u.mtxOut i = s.mtxOut i ++
        [⟨q, t, false, .done, getBytes s.hull.stage (a - 0x4000000000) (64 * n), bad⟩]) ∧
      (n ≤ 4 * min (portWidth i) (targetWidth t) → gives (.matrixRequest i id a (some w) n) s fun u =>
        u.mtxOut i = s.mtxOut i ++ [⟨q, t, true, .done, [], []⟩] ∧ u.fget (MTX_PSTAT_Outstanding i) = (s.mtxOut i).length + 1 ∧
        ∀ b, tget 0 u.hull.stage b = strobed w (64 * n) (a - 0x4000000000) b (tget 0 s.hull.stage b))) ∧
    (t = 27 → (gives (.matrixRequest i id a none n) s fun u => u.mtx.egress = s.mtx.egress ∧ ∃ bad, u.mtxOut i = s.mtxOut i ++
        [⟨q, t, false, .done, getBytes s.mtx.egress (a - 0xA000000000) (64 * n), bad⟩]) ∧
      (n ≤ 4 * min (portWidth i) (targetWidth t) → gives (.matrixRequest i id a (some w) n) s fun u =>
        u.mtxOut i = s.mtxOut i ++ [⟨q, t, true, .done, [], []⟩] ∧
        ∀ b, tget 0 u.mtx.egress b = strobed w (64 * n) (a - 0xA000000000) b (tget 0 s.mtx.egress b))) ∧
    ((t = 25 ∨ t = 26) → (t = 26 → ∀ j < 16 * n, s.regHeld (base + 4 * j) = false) →
      (∀ j < 16 * n, s.regOff (base + 4 * j) = false) → gives (.matrixRequest i id a none n) s fun u =>
        u.mtxOut i = s.mtxOut i ++ [⟨q, t, false, .done,
          (List.range (16 * n)).flatMap (fun j => leBytes 4 (if base + 4 * j = MTX_PSTAT i then
            (MTX_PSTAT_Outstanding i).into (s.reg (MTX_PSTAT i)) ((s.mtxOut i).length + 1)
            else s.burstWord base (base + 4 * j)).toNat),
          List.replicate (64 * n) false⟩]) ∧
    (t = 25 → n = 1 → ∀ g r row ix, g < 16 → r = base + 4 * g → r < 0x940000 → r % 64 ≠ 0 → s.mclk = true →
      findRow r = some (row, ix) → w.strobes = (List.range 64).map (fun j => decide (j / 4 = g)) →
      gives (.matrixRequest i id a (some w) n) s fun u => u.mtxOut i = s.mtxOut i ++ [⟨q, t, true, .done, [], []⟩] ∧
        ∀ f ∈ row.fields, (u.reg r).extractLsb' f.lo f.width = afterWrite f.acc (s.ownerOpen row.owner ix)
          ((BitVec.ofNat 32 (ofLe ((w.bytes.drop (4 * g)).take 4))).extractLsb' f.lo f.width)
          ((s.reg r).extractLsb' f.lo f.width)) ∧
    (t ≤ 23 → s.hbmIn a = true →
      (s.beatsOut t + n ≤ 128 → gives (.matrixRequest i id a none n) s fun u => u.hbm = s.hbm ∧ u.mtxOut i = s.mtxOut i ++
        [⟨q, t, false, .done, s.hbmBytes a (64 * n), (List.range (64 * n)).map fun j => s.hbmByteBad (a + j)⟩]) ∧
      (n ≤ 4 * min (portWidth i) (targetWidth t) → s.pcFailed (s.hbmPc a) = false → s.dmc.sudden = [] →
        (∀ b ∈ w.badParity, b = false) → gives (.matrixRequest i id a (some w) n) s fun u =>
          u.mtxOut i = s.mtxOut i ++ [⟨q, t, true, .done, [], []⟩] ∧
          ∀ b, (s.hbmPc b = s.hbmPc a → s.hbmSlot b = s.hbmSlot a) →
            u.hbmByte b = strobed w (64 * n) a b (s.hbmByte b)))) ∧
  (t = 32 → s.mtxHold i q 32 = none → gives (.matrixRequest i id a none n) s fun u =>
    u.reg (MTX_DECERR i) = s.reg (MTX_DECERR i) + 1 ∧ u.flag MTX_STATUS_DecodeErr = true ∧ logged u 7 0 i ∧
    u.mtxOut i = s.mtxOut i ++ [⟨q, 32, false, .done, List.replicate (64 * n) 0, List.replicate (64 * n) false⟩]) ∧
  (∀ c, s.mtxHold i q t = some c → gives (.matrixRequest i id a (some w) n) s fun u => u.reg c = s.reg c + 1 ∧
    u.portQ i = [⟨q, a, n, some w⟩] ∧ u.mtxOut i = s.mtxOut i ∧ u.hbm = s.hbm ∧ u.hull = s.hull ∧ u.mtx.egress = s.mtx.egress)

/-- Responses come back in order for each ID, and are discarded of a fenced one; a port whose unit is reset withdraws what no
target has granted, quiesces when nothing is outstanding, or at its time-out, and leaves reset when the request has ended.
Crossings: a side that sees its peer in reset discards and counts what stands in the crossing and holds it until the peer is ready
again, which it is not while a unit at an end is in reset; a pulse that has been sent reaches its receiver once, and of the
operations on the counters that were sent at one tick the last one in their order stands. (The model's own readings and choices in
this: log entries 106, 108, 174, 262, 265, 275, 310.) -/
def Obligations.ResetsAndCrossings : Prop :=
  (∀ (s : State) (u i : Nat), u < 23 → i = unitPort u → s.takes GLB_URESET →
    (∀ id x, id < 32 → (s.mtxOut i).find? (fun x => decide (x.id = id)) = some x →
      (x.stage ≠ .done → exec (.matrixResponse i id) s = .next s) ∧
      (x.stage = .done → s.portQ i = [] → tget [] s.mtx.wait x.target = [] →
        (s.portState i = 0 → (s.fencedIds i).contains id = false → gives (.matrixResponse i id) s fun t =>
          t.mtxOut i = eraseTxn x (s.mtxOut i) ∧ t.wireOut = s.wireOut ++ [.matrix i id x.bytes x.bad (decide (x.target = 32))] ∧
          regsBut s t [MTX_PSTAT i]) ∧
        ((s.fencedIds i).contains id = true → gives (.matrixResponse i id) s fun t =>
          t.mtxOut i = eraseTxn x (s.mtxOut i) ∧ t.wireOut = s.wireOut ∧ regsBut s t [MTX_PSTAT i]))) ∧
    (∀ l, (s.reg GLB_URESET).getLsbD u = false → l = (s.mtxOut i).filter (fun x => decide (x.stage ≠ .accepted)) →
      gives (.unitReset u) s fun t => (t.reg GLB_URESET).getLsbD u = true ∧
        (t.reg GLB_URSTAT).getLsbD u = true ∧ t.portState i = (if l = [] then 2 else 1) ∧ t.portQ i = [] ∧ t.mtxOut i = l ∧
        (16 ≤ u → u ≠ 18 → u ≠ 19 → s.mtxIdle → regsBut s t [GLB_URESET, GLB_URSTAT, MTX_PSTAT i])) ∧
    (gives (.unitResetRelease u) s fun t => (t.reg GLB_URESET).getLsbD u = false ∧
      (s.portState i = 2 → t.portState i = 0 ∧ (t.reg GLB_URSTAT).getLsbD u = false) ∧
      regsBut s t [GLB_URESET, GLB_URSTAT, MTX_PSTAT i]) ∧
    (s.portState i = 1 →
      (s.mtxOut i = [] → gives (.quiesced i) s fun t => t.portState i = (if (s.reg GLB_URESET).getLsbD u then 2 else 0) ∧
        (t.reg GLB_URSTAT).getLsbD u = ((s.reg GLB_URSTAT).getLsbD u && (s.reg GLB_URESET).getLsbD u) ∧
        regsBut s t [GLB_URSTAT, MTX_PSTAT i]) ∧
      (gives (.quiesceTimeout i) s fun t => t.portState i = (if (s.reg GLB_URESET).getLsbD u then 2 else 0) ∧
        t.fencedIds i = distinctIds (s.mtxOut i) ∧ regsBut s t [GLB_URSTAT, MTX_PSTAT i]))) ∧
  (∀ (s : State) (k n : Nat), k < 14 → n < xInstances k →
    (s.awake = true → gives (.peerResetSeen k n) s fun t => t.xIsHeld k n = true ∧
      (k ≠ 3 → (k = 7 → ∀ r < 8, ∀ d, (s.pod (8 * r + n)).drains.head? = some d → d.pod = 8 * r + n) → t.xItems k n = 0) ∧
      (k = 3 → tget [] t.fch.pend n = s.dropWords n (s.pendWords n) (tget [] s.fch.pend n) ∧ ∀ x ∈ t.hull.tagq, x.1 ≠ n) ∧
      t.reg (MTX_XDISC k) = s.reg (MTX_XDISC k) + BitVec.ofNat 32
        (if k = 3 ∧ s.unitInReset n = true ∧ s.unitInReset 16 = true then 0 else s.xItems k n) ∧
      ((k = 12 ∨ k = 13) → t.flag (MTX_XSTAT_Lost k) = true) ∧
      (k < 12 → ∀ a, a ≠ MTX_XDISC k → ((k = 4 ∨ k = 5 ∨ k = 8) → ∀ i < 24, a ≠ MTX_PSTAT i) → t.reg a = s.reg a)) ∧
    ((∀ u ∈ s.xUnits k n, s.unitInReset u = false) → exec (.peerReadySeen k n) s = .next (s.xHold k n 0) ∧
      (s.xHold k n 0).xIsHeld k n = false) ∧
    ((∃ u ∈ s.xUnits k n, s.unitInReset u = true) → exec (.peerReadySeen k n) s = .next s) ∧
    (k = 10 → s.awake = true → s.xIsHeld 10 n = false → tget 0 s.mtx.pulse n ≠ 0 → gives (.pulseCrossing n) s fun t =>
      (s.fastClk = true → s.mclk = true → tget 0 t.mtx.pulse n = 0) ∧
      (n = 0 → s.fastClk = true → ∀ e, e < 16 → t.fget (FCH_STATUS_Anchored e) = 1) ∧
      ((n = 1 ∨ n = 2) → s.mclk = true → t.flag PMC_STATUS_Held = true) ∧
      (n = 3 → s.mclk = true → t.flag PMC_STATUS_Held = [1, 2].any fun j =>
          decide (tget 0 s.mtx.pulse j = tget 0 s.mtx.pulse 3) && !s.xIsHeld 10 j)))

/-! ## The I3C target -/

/-- Addresses and event enables: a dynamic address is assigned by ENTDAA and SETDASA where none is held and by SETNEWDA where one
is, RSTDAA takes it away; ENEC and DISEC change the enables of in-band interrupts and Hot-Join; a Hot-Join is requested every 50 ms
until an assignment or a DISEC; lengths are clamped; ENTHDR0 and other HDR modes take the part off the SDR bus; a target reset
drops the address and what was posted. (The byte order of the identity and the ENEC bit places are the model's PRESUMED reading of
the bus standard.) What the direct reads of the bus answer, and that a code the part does not support is not acknowledged when
direct, ignored when broadcast, and noted. (The places of what GETMXDS and GETCAPS say are the model's PRESUMED reading of the bus
standard, log entry 120; the bytes of GETCAPS that the spec leaves open are free.) (The model's own readings and choices in this:
log entries 119, 120, 121, 122.) -/
def Obligations.BusManagement : Prop :=
  (∀ (s : State) (da n e : Nat), s.sdrOn = true → s.pinsAway = false → da < 128 → e < 256 →
    (gives .rstdaa s fun t => t.daValid = false ∧ t.i3c.ibiReq = false ∧ regsBut s t [GLB_I3C, GLB_STATUS]) ∧
    (s.daValid = false →
      (gives (.entdaa da) s fun t => t.daValid = true ∧ t.fget GLB_I3C_DynAddr = da ∧
        t.i3c.hjDone = true ∧ t.wireOut = s.wireOut ++ [.i3c (beBytes 6 s.pid ++ [0x2F, 0])]) ∧
      (gives (.setdasa (0x30 + s.fget GLB_STRAP_AddrSel) da) s fun t => t.daValid = true ∧ t.fget GLB_I3C_DynAddr = da ∧
        t.i3c.hjDone = true ∧ t.wireOut = s.wireOut) ∧
      (gives (.setnewda da) s fun t => t.regs = s.regs ∧ t.wireOut = s.wireOut ++ [.nack]) ∧
      (s.i3c.hjEn = true → s.i3c.hjDone = false → s.i3c.hjAt + 12500000 ≤ s.tim.ticks → gives .hotJoinRequest s fun t =>
        t.regs = s.regs ∧ t.i3c.hjAt = s.tim.ticks ∧ t.wireOut = s.wireOut ++ [.hotJoin])) ∧
    ((s.daValid = true ∨ s.i3c.hjEn = false ∨ s.i3c.hjDone = true ∨ s.tim.ticks < s.i3c.hjAt + 12500000) →
      exec .hotJoinRequest s = .next s.scl) ∧
    (s.daValid = true → gives (.setnewda da) s fun t => t.daValid = true ∧ t.fget GLB_I3C_DynAddr = da ∧ t.wireOut = s.wireOut) ∧
    (gives (.enec e) s fun t => t.regs = s.regs ∧ t.i3c.ibiEn = (s.i3c.ibiEn || decide (e % 2 = 1)) ∧
      t.i3c.hjEn = (s.i3c.hjEn || decide (e / 8 % 2 = 1))) ∧
    (gives (.disec e) s fun t => t.regs = s.regs ∧ t.i3c.ibiEn = (s.i3c.ibiEn && !decide (e % 2 = 1)) ∧
      t.i3c.hjEn = (s.i3c.hjEn && !decide (e / 8 % 2 = 1)) ∧
      (12500000 ≤ s.tim.ticks → t.i3c.hjDone = (s.i3c.hjDone || decide (e / 8 % 2 = 1)))) ∧
    (n < 4 → exec (.entas n) s = .next s.scl) ∧
    (n < 65536 → gives (.setmwl n) s fun t => t.fget GLB_LEN_Mwl = max 8 (min 1028 n) ∧ regsBut s t [GLB_LEN] ∧
      t.fget GLB_LEN_Mrl = s.fget GLB_LEN_Mrl) ∧
    (n < 65536 → gives (.setmrl n 1) s fun t => t.fget GLB_LEN_Mrl = max 4 (min 4096 n) ∧ regsBut s t [GLB_LEN] ∧
      t.fget GLB_LEN_Mwl = s.fget GLB_LEN_Mwl) ∧
    (n < 65536 → e ≠ 1 → gives (.setmrl n e) s fun t => t.regs = s.regs ∧ t.wireOut = s.wireOut ++ [.nack]) ∧
    (gives .enthdr0 s fun t => t.hdrActive = true ∧ t.sdrOn = false ∧ regsBut s t [GLB_STATUS]) ∧
    (gives .enthdrOther s fun t => t.sdrOn = false ∧ t.fget GLB_BUSSTAT_CccUnsupp = 1 ∧ regsBut s t [GLB_BUSSTAT]) ∧
    (gives (.rstact 1) s fun t => t.daValid = false ∧ t.i3c.posted = [] ∧ t.i3c.prefetch = [] ∧
      regsBut s t [GLB_I3C, GLB_STATUS]) ∧
    (1 < e → gives (.rstact e) s fun t => t.regs = s.regs ∧ t.wireOut = s.wireOut ++ [.nack])) ∧
  (∀ (s : State) (code : Nat), s.sdrOn = true → s.daValid = true → s.pinsAway = false →
    (gives .getmwl s fun t => t.regs = s.regs ∧ t.wireOut = s.wireOut ++ [.i3c (beBytes 2 (s.fget GLB_LEN_Mwl))]) ∧
    (gives .getmrl s fun t => t.regs = s.regs ∧ t.wireOut = s.wireOut ++ [.i3c (beBytes 2 (s.fget GLB_LEN_Mrl) ++ [1])]) ∧
    (gives .getpid s fun t => t.regs = s.regs ∧ t.wireOut = s.wireOut ++
      [.i3c (beBytes 6 (0x01B4 * 2 ^ 33 + 0x9601 * 2 ^ 16 + s.fget GLB_STRAP_AddrSel * 2 ^ 12 + 1))]) ∧
    (gives .getbcr s fun t => t.regs = s.regs ∧ t.wireOut = s.wireOut ++ [.i3c [0x2F]]) ∧
    (gives .getdcr s fun t => t.regs = s.regs ∧ t.wireOut = s.wireOut ++ [.i3c [0]]) ∧
    (gives .getstatus s fun t => t.regs = s.regs ∧ t.i3c.errSince = false ∧ t.wireOut = s.wireOut ++
      [.i3c (beBytes 2 (s.topCause * 256 + (if s.i3c.errSince then 32 else 0) + min 15 s.causeCount))]) ∧
    (gives .getmxds s fun t => t.regs = s.regs ∧ t.wireOut = s.wireOut ++ [.i3c [0, 0]]) ∧
    (gives .getcaps s fun t => t.regs = s.regs ∧ t.wireOut = s.wireOut ++ [.i3c ([1, 1] ++ Config.getCapsRest)]) ∧
    (code < 256 → gives (.unsupportedCcc code) s fun t => t.fget GLB_BUSSTAT_CccUnsupp = 1 ∧ regsBut s t [GLB_BUSSTAT] ∧
      t.wireOut = s.wireOut ++ (if 128 ≤ code then [.nack] else [])))

/-- Private and HDR-DDR writes: the address bytes set the pointer and every complete register after them is posted in order; a
header is declined and counted where the buffer lacks room; a transfer with a parity or CRC error is counted. Private and HDR-DDR
reads: registers already fetched are sent in order and the pointer rises by each; with none the read is declined and counted; a
fetch completes only when no write is posted, and takes the word a host read returns. In-band interrupts: requested for an enabled
cause that is new, and made again while any enabled cause is pending, not within the interval after an attempt, and acknowledged
with the top cause. The exit pattern returns the part to SDR and the target reset pattern resets the target. (The model's own
readings and choices in this: log entries 123, 267.) -/
def Obligations.BusTransfers : Prop :=
  (∀ (s : State) (bs : List Byte) (j : Nat) (c : Instr), s.pinsAway = false → 4 ≤ bs.length →
    bs.length % 4 = 0 → bs.length ≤ s.fget GLB_LEN_Mwl →
    ((c = .sdrWrite bs none ∧ s.sdrOn = true ∧ s.daValid = true) ∨ (c = .regWrite bs true ∧ s.ddrOn = true) ∨
      (c = .setAddr bs ∧ bs.length = 4 ∧ s.ddrOn = true)) →
    (s.bufRoom = true → gives c s fun t =>
      t.i3c.posted = s.i3c.posted ++ regWords bs.length (beAt bs 0 4 / 4 * 4) true (bs.drop 4) ∧
      t.i3c.ptr = (beAt bs 0 4 / 4 * 4 + (bs.length - 4)) % 2 ^ 32 ∧ t.i3c.prefetch = [] ∧ t.wireOut = s.wireOut) ∧
    (s.bufRoom = false → gives c s fun t => t.i3c.posted = s.i3c.posted ∧ t.i3c.ptr = s.i3c.ptr ∧
      t.reg GLB_WRNACK = s.reg GLB_WRNACK + 1 ∧ regsBut s t [GLB_WRNACK] ∧ t.wireOut = s.wireOut ++ [.nack]) ∧
    (s.bufRoom = true → s.sdrOn = true → s.daValid = true → j < 4 → gives (.sdrWrite bs (some j)) s fun t =>
      t.i3c.posted = s.i3c.posted ∧ t.reg GLB_BUSERR = s.reg GLB_BUSERR + 1 ∧ t.i3c.errSince = true ∧ logged t 8 0 0) ∧
    (s.bufRoom = true → s.ddrOn = true → gives (.regWrite bs false) s fun t => t.i3c.posted = s.i3c.posted ∧
      t.reg GLB_BUSERR = s.reg GLB_BUSERR + 1 ∧ t.i3c.errSince = true ∧ logged t 8 0 0)) ∧
  (∀ (s : State) (m : Nat) (c : Instr), s.pinsAway = false →
    (((c = .sdrRead (4 * m) ∧ s.sdrOn = true ∧ s.daValid = true) ∨ (c = .regRead (4 * m) ∧ s.ddrOn = true)) → 1 ≤ m →
      (m ≤ s.i3c.prefetch.length → 4 * m ≤ s.fget GLB_LEN_Mrl → gives c s fun t =>
        t.i3c.ptr = (s.i3c.ptr + 4 * m) % 2 ^ 32 ∧ t.i3c.prefetch = s.i3c.prefetch.drop m ∧ t.wireOut = s.wireOut ++
          [.i3c ((s.i3c.prefetch.take m).flatMap fun w => leBytes 4 w.toNat)]) ∧
      (s.i3c.prefetch = [] → 0 < s.fget GLB_LEN_Mrl → gives c s fun t => t.reg GLB_RDSHORT = s.reg GLB_RDSHORT + 1 ∧
        t.fget GLB_BUSSTAT_ReadShort = 1 ∧ t.i3c.ptr = s.i3c.ptr ∧ t.wireOut = s.wireOut ++ [.nack])) ∧
    (∀ a, a = (s.i3c.ptr + 4 * s.i3c.prefetch.length) % 2 ^ 32 → s.awake = true → s.i3c.posted = [] → s.i3c.prefetch.length < 8 →
      s.regHeld a = false → s.regOff a = false → isDmw a = false → gives .readFetchDone s fun t => t.regs = s.regs ∧
        t.i3c.ptr = s.i3c.ptr ∧
        t.i3c.prefetch = s.i3c.prefetch ++ [if isUpperWord a then shadowOf s.shadow a else s.peek a] ∧
        ∀ u ∈ upperWords a, shadowOf t.shadow u = s.peek u) ∧
    (s.awake = true →
      (gives .hdrExit s fun t => t.sdrOn = true ∧ regsBut s t [GLB_STATUS] ∧ t.daValid = s.daValid) ∧
      (gives .targetResetPattern s fun t => t.daValid = false ∧ t.i3c.posted = [] ∧ t.i3c.prefetch = [] ∧
        regsBut s t [GLB_I3C, GLB_STATUS])) ∧
    (s.sdrOn = true →
      ((s.ibiWanted = true ∨ (s.i3c.ibiReq = true ∧ s.enabledCauses ≠ 0)) → s.ibiMay = true → gives .ibiRequest s fun t =>
        t.i3c.ibiReq = true ∧
        t.i3c.ibiAt = s.tim.ticks + 1 ∧ t.regs = s.regs ∧ t.wireOut = s.wireOut ++ [.ibiRequest]) ∧
      ((s.ibiWanted = true ∨ (s.i3c.ibiReq = true ∧ s.enabledCauses ≠ 0)) → s.ibiMay = false → exec .ibiRequest s = .next s.scl) ∧
      (s.ibiWanted = false → (s.i3c.ibiReq = false ∨ s.enabledCauses = 0) → gives .ibiRequest s fun t => t.i3c.ibiReq = false ∧
        t.regs = s.regs ∧ t.wireOut = s.wireOut) ∧
      (s.i3c.ibiReq = true → gives .ibiAck s fun t => t.i3c.ibiReq = false ∧ t.reg GLB_IBICNT = s.reg GLB_IBICNT + 1 ∧
        t.i3c.ackSet = s.enabledCauses ∧ t.wireOut = s.wireOut ++ [.ibi s.topCause])))

/-! ## The image loader and Sprout mode -/

/-- LOAD, STAGE and ABORT: a stream opens where nothing is under way and the stores are ready, with nothing received; it is refused
where the stores are not; a busy loader changes its code alone; an abort refuses what has come, with IMG_ERROFF at the bytes
received (DEDUCED, log entry 136). Bytes of the stream's bodies are stored behind each other in the slot that receives; the last
one begins the check. (The model's own readings and choices in this: log entries 132, 133, 136, 268.) -/
def Obligations.ImageArrives : Prop :=
  (∀ (s : State) (c : Instr) (stage : Bool), s.awake = true → s.img.romHbm = false →
    ((c = .imgLoad ∧ stage = false) ∨ (c = .imgStage ∧ stage = true)) →
    (s.img.check = false → s.img.reload = none → (stage = false → s.anyLive = false) →
      (s.dmcReady = true → gives c s fun t => t.img.open' = true ∧ t.img.stage = stage ∧ t.img.seed = false ∧ t.img.head = [] ∧
        t.reg IMG_RXCOUNT = 0 ∧ t.imgSt = 1 ∧ t.img.stagedLen = 0) ∧
      (s.dmcReady = false → gives c s fun t => t.img.open' = false ∧
        t.imgSt = (if s.img.mapLost then 0 else 5) ∧ t.fget IMG_STATUS_Code = 0x10)) ∧
    (s.img.check = true → exec c s = .next (s.fset IMG_STATUS_Code 0x0F)) ∧
    (s.img.open' = true → s.img.mapLost = false → gives .imgAbort s fun t => t.img.open' = false ∧ t.imgSt = 5 ∧
      t.fget IMG_STATUS_Code = 0x13 ∧ t.reg IMG_ERROFF = s.reg IMG_RXCOUNT)) ∧
  (∀ (s : State) (v : Word) (a : Nat), s.awake = true → s.img.open' = true → s.img.seed = false →
    s.dmcReady = true → s.hbmHeld = false → 32 ≤ s.img.head.length → s.img.head.length = headLen s.img.head →
    a = slotBase s.nextSlot + s.fget IMG_RXCOUNT_Bytes → s.fget IMG_RXCOUNT_Bytes + 4 ≤ hdrTotal s.img.head →
    (∀ i < 4, s.hbmIn (a + i) = true ∧ s.pcFailed (s.hbmPc (a + i)) = false) → gives (.imgWinWrite v) s fun t =>
      t.hbmBytes a 4 = leBytes 4 v.toNat ∧ t.reg IMG_RXCOUNT = s.reg IMG_RXCOUNT + 4 ∧
      (s.fget IMG_RXCOUNT_Bytes + 4 = hdrTotal s.img.head → t.imgSt = 2 ∧ t.img.check = true ∧ t.img.open' = false) ∧
      (s.fget IMG_RXCOUNT_Bytes + 4 ≠ hdrTotal s.img.head → t.img.open' = true ∧ t.imgSt = s.imgSt))

/-- The end of a check: an image that fails it is refused with the failure's code; one to be staged is kept; one to be loaded is
applied, or refused at the record at which a unit refused a write. (The model's own readings and choices in this: log entries 135,
143.) -/
def Obligations.ImageEnds : Prop := ∀ (s : State) (slot node : Nat) (h : List Byte), s.img.check = true → s.hbmHeld = false →
  slot = s.nextSlot → h = s.slotHead slot → node = (s.nodeIn slot).getD 0 → s.img.mapLost = false →
    gives .imageCheckDone s fun t =>
  match s.endErr slot s.img.stage with
  | some e => t.imgSt = 5 ∧ t.fget IMG_STATUS_Code = e.code % 256 ∧ t.img.check = false ∧ t.hbm = s.hbm
  | none =>
    t.img.check = false ∧
    if s.img.stage then t.imgSt = 7 ∧ t.fget IMG_STATUS_Code = 0 ∧ t.img.stagedLen = hdrTotal s.img.head ∧ t.hbm = s.hbm
    else match ((s.fullStart slot (hdrTotal h)).loadSections node (s.applyPlan slot node)).2 with
      | none => t.imgSt = 4 ∧ t.fget IMG_STATUS_Code = 0 ∧ t.fget IMG_NODE_Valid = 1 ∧ t.fget IMG_NODE_NodeId = node % 4096 ∧
          t.img.appliedLen = hdrTotal h
      | some _ => (t.imgSt = 5 ∨ t.imgSt = 0) ∧ t.fget IMG_STATUS_Code = 0x0D ∧ t.img.golden = []

/-- Reload: refused with nothing staged; begun, the touched contexts stop; applied when they have stopped and the units are calm,
and a register that it writes then takes its fields (said of a reload that writes one plain register); at the time-out nothing is
written, neither a byte of HBM nor a register of a section. A scrub pass counts, and gives the fields that software writes their
golden value again. (The model's own readings and choices in this: log entries 145, 151, 296.) -/
def Obligations.ReloadsAndScrubs : Prop := ∀ (s : State) (restart : Bool) (mask : Nat) (r : ReloadSt), mask < 1024 →
  (s.awake = true → s.img.reload = none → s.img.check = false → s.img.stagedLen = 0 →
    exec (.imgReload restart mask) s = .next (s.fset IMG_STATUS_Code 6)) ∧
  (s.awake = true → s.img.reload = none → s.img.check = false → s.img.stagedLen ≠ 0 → s.dmcReady = true →
    gives (.imgReload restart mask) s fun t => t.imgSt = 8 ∧ ∃ x, t.img.reload = some x ∧ x.restart = restart ∧ x.mask = mask) ∧
  (s.img.reload = some r → s.reloadStopped r = true → r.units.all s.unitCalm = true → s.dmcReady = true → s.hbmHeld = false →
    ∃ t, exec .reloadStopDone s = .next t ∧ ∀ on u, on = ((r.units.flatMap enablesOf).filter fun x => s.flag (enableFld x)) →
      u = (s.reloadClear.each on State.enableOff).reloadSections r (s.fget IMG_NODE_NodeId)
        ((s.chosenSecs r.mask).map fun x => (x, s.stagedRecs x)) →
      (∀ e, u.2 = some e → t.imgSt = 5 ∧ t.fget IMG_STATUS_Code = 0x0D ∧ t.img.stagedLen = 0) ∧
      (u.2 = none → (∀ x ∈ r.again, x.1 < 4096) → t.fget IMG_STATUS_Code = 0 ∧ (t.imgSt = 4 ∨ t.imgSt = 7))) ∧
  (∀ t0 rec a v node row ix, s.img.reload = some r → s.reloadStopped r = true → r.units.all s.unitCalm = true → s.dmcReady = true →
    s.hbmHeld = false → node = s.fget IMG_NODE_NodeId → (s.chosenSecs r.mask).map (fun x => (x, s.stagedRecs x)) = [(t0, [rec])] →
    (∀ b bs, rec.body ≠ .hbm b bs) → rec.words = [(a, v)] → secOf a = t0 → plainReg a = true → findRow a = some (row, ix) →
    s.reloadClear.wordChanges node a v = true → (r.units.flatMap enablesOf).filter (fun x => s.flag (enableFld x)) = [] →
    r.again = [] → (s.reloadClear.ownerOpen row.owner ix = true ∨ row.hasRwl = false) → gives .reloadStopDone s fun t =>
      t.fget IMG_STATUS_Code = 0 ∧ t.reg a &&& rwBits a = nodeWord node a v &&& rwBits a) ∧
  (s.img.reload = some r → s.reloadStopped r = false → gives .reloadStopTimeout s fun t => t.imgSt = 7 ∧
    t.fget IMG_STATUS_Code = 0x12 ∧ t.img.reload = none ∧ t.hbm = s.hbm ∧
    ((∀ x ∈ r.again, x.1 < 4096) → ∀ a, secOf a ≠ 0 → t.reg a = s.reg a) ∧
    (r.again = [] → regsBut s t [IMG_STATUS, IMG_ERROFF, GLB_INTPEND])) ∧
  (s.awake = true → s.img.golden ≠ [] → (∀ x ∈ s.img.golden, 0x100 ≤ x.1 ∧ x.1 < 0xC00000) → (s.img.golden.map (·.1)).Nodup →
    gives .scrubPass s fun t => t.reg IMG_SCRUBRUN = s.reg IMG_SCRUBRUN + 1 ∧ (∀ a g, (a, some g) ∈ s.img.golden →
      tget 0 s.img.goldenBad a = 0 → s.clockOn a = true →
      (∀ b k, (b, some k) ∈ s.img.golden → b ≠ a → ((∃ p, b = POD_PCFG p) ∨ ∃ l, b = LN_CFG l) →
        s.reg b &&& rwBits b = k &&& rwBits b) → t.reg a &&& rwBits a = g &&& rwBits a) ∧
      ∀ a g, (a, some g) ∈ s.img.golden → ((0x20000 ≤ a ∧ a < 0x100000) ∨ (0x200000 ≤ a ∧ a < 0x400000)) → a ≠ HULL_TXUNR →
        tget 0 s.img.goldenBad a = 0 → s.clockOn a = true →
      t.reg a = (s.reg a &&& ~~~rwBits a) ||| (g &&& rwBits a))

/-- Sprout mode: from the ROM image, from the applied one, its generators' samples and the stages of the self-test in their order,
each judged by its pass condition; a stage 3 that finds columns to steer is judged after the repair, and the last stage stops every
context before its end (DEDUCED, log entry 298). (The ROM image is open; IMG_STATUS.State after the last stage is the model's free
value.) (The model's own readings and choices in this: log entries 17, 152, 153, 298.) -/
def Obligations.SproutMode : Prop := ∀ (s : State) (e stage : Nat) (pass : Bool) (result : StageResult), s.awake = true →
  e < 16 → stage < 6 → (∀ x ∈ result.columns, x.1 < 64 ∧ x.2 < 33) → pass = s.stagePass stage result →
  (s.img.check = false → s.img.reload = none → s.img.romHbm = false → s.anyLive = false →
    (s.dmcReady = false → s.img.mapLost = false → gives .imgSproutRom s fun t => t.imgSt = 5 ∧ t.fget IMG_STATUS_Code = 0x10) ∧
    (s.dmcReady = true → s.img.open' = false → gives .imgSproutRom s fun t =>
      match (((((s.romReserve.imgTo 3).hideImage.sectionReset false).fset IMG_STATUS_SproutActive 1).loadSections s.romNode
        (romPlan s.romNode))).2 with
      | none => t.fget IMG_NODE_Valid = 1 ∧ t.fget IMG_STATUS_Code = 0 ∧ t.img.testArmed = true ∧ t.img.unassigned = false
      | some _ => t.flag IMG_STATUS_SproutActive = false ∧ t.fget IMG_STATUS_Code = 0x0D ∧ t.img.golden = [])) ∧
  (s.img.appliedLen = 0 → exec .imgSproutApplied s = .next s) ∧
  (s.img.appliedLen ≠ 0 → s.sprout = false → gives .imgSproutApplied s fun t => t.sprout = true) ∧
  (s.sprout = true → s.isRun = true → s.flag (FCH_STATUS_Anchored e) = true → gives (.sproutPatternSample e) s fun t =>
    tget 0 t.img.spN e = tget 0 s.img.spN e + 1 ∧
    tget none t.img.spCom e = some (xorshift ((tget none s.img.spCom e).getD (spStart (s.fget IMG_SPSEED_Seed))))) ∧
  (s.img.testStage = stage + 1 →
    (stage < 5 → (stage = 3 → ∀ x ∈ result.columns, s.canSteer x.1 = false) → gives (.selfTestStageDone stage result) s fun t =>
      t.img.testStage = stage + 2 ∧ regsBut s t [IMG_SPRESULT] ∧
      t.fget IMG_SPRESULT_StageFail = if pass then s.fget IMG_SPRESULT_StageFail else s.fget IMG_SPRESULT_StageFail ||| 2 ^ stage) ∧
    (stage = 3 → (∃ x ∈ result.columns, s.canSteer x.1 = true) → gives (.selfTestStageDone stage result) s fun t =>
      t.img.testStage = 4 ∧ t.regs = s.regs ∧ ∀ x ∈ result.columns, t.canSteer x.1 = false) ∧
    (stage = 5 → (s.stopAll s.liveCtxs).anyLive = true → gives (.selfTestStageDone stage result) s fun t =>
      t.img.testStage = 6 ∧ t.reg IMG_SPRESULT = s.reg IMG_SPRESULT) ∧
    (stage = 5 → (s.stopAll s.liveCtxs).anyLive = false → gives (.selfTestStageDone stage result) s fun t =>
      t.img.testStage = 0 ∧ t.fget IMG_SPRESULT_Done = 1 ∧ t.anyLive = false ∧
      t.fget IMG_SPRESULT_Pass = if pass = true ∧ s.fget IMG_SPRESULT_StageFail = 0 then 1 else 0))

/-! ## Integrity and the account -/

/-- A parity error is counted and logged at its site, and the site's response follows: the frames of a path or slot, an outbound
frame or an entry of the Hull, a pod's bank, a lane's drains or a packet are marked, the next frame of a lane leaves bad, columns
and pods count (which frame or entry an operand names is the model's choice, DESIGN CHOICE, log entry 187); a corrected SECDED
error is counted and logged, one that cannot be corrected marks its word. A pop takes the oldest entry of the error log and latches
its words; the clears of the account set every total to zero. (The model's own readings and choices in this: log entries 24, 155,
187, 314.) -/
def Obligations.Integrity : Prop :=
  (∀ (s : State) (site inst info store i y : Nat), s.awake = true → 1 ≤ site → site ≤ 13 →
    inst < siteInstances site → info < 2 ^ 32 → 1 ≤ store → store ≤ 7 → i < storeSize store → y < 2 ^ 32 →
    (gives (.parityError site inst info) s fun t => t.reg (ERL_PARCNT site) = s.reg (ERL_PARCNT site) + 1 ∧
      (site ≠ 6 → site ≠ 7 → site ≠ 9 → logged t 1 site inst) ∧
      (site = 6 → s.flag DMC_CTRL_AutoRetire = false → logged t 1 6 inst) ∧
      ((site = 7 ∨ site = 9) → (33 ≤ info ∨ s.flag (POD_SPARECFG_AutoSteer inst) = false) →
        logged t 1 site inst ∧ (t.pod inst).act.contam = true) ∧
      (site = 1 → ∀ e p, (e, p) ∈ s.slotsOf inst info →
        t.slot e p = (s.slot e p).mark (idxAdd (s.slot e p).nextFrame (s.fchK e + 1))) ∧
      (site = 2 → ∀ p j hi, p < 16 → info / 2 ^ p % 2 = 1 → s.slotOn inst p = true →
        j = (match (tget [] s.fch.pend inst).find? fun f => f.slots.any fun x => decide (x.slot = p) with
          | some f => f.j
          | none => (s.slot inst p).nextFrame) → hi = idxAdd j (s.fchK inst + 1) →
        t.slot inst p = (s.slot inst p).mark hi ∧
        ∀ f ∈ tget [] t.fch.pend inst, idxDiff f.j hi < 0 → ∀ x ∈ f.slots, x.slot = p → x.contam = true) ∧
      (site = 3 → info = 0 →
        (∀ q, markHeld (tget [] s.hull.held inst) = some q → tget [] t.hull.held inst = q) ∧
        (∀ f fs, markHeld (tget [] s.hull.held inst) = none → tget [] s.fch.pend inst = f :: fs →
          ∃ f', tget [] t.fch.pend inst = f' :: fs ∧ ∀ x ∈ f'.slots, x.contam = true)) ∧
      (site = 3 → info ≠ 0 → ∀ k l tb, s.srcOf s.node inst = some k → s.hull.lfi = some l →
        tb = blockBefore (l / 16) (info - 1) → (tget Track.fresh t.hull.track (trackKey k tb)).contam = true) ∧
      (site = 4 → tget 0 t.fab.rxBad inst = 1) ∧
      (site = 5 → t.reg MTX_PARITY = s.reg MTX_PARITY + 1) ∧
      ((site = 7 ∨ site = 9) → t.reg (POD_PARITY inst) = s.reg (POD_PARITY inst) + 1 ∧
        (info < 33 → t.reg (POD_COLERR inst info) = s.reg (POD_COLERR inst info) + 1)) ∧
      (site = 6 → t.reg (DMC_PAR inst) = s.reg (DMC_PAR inst) + 1) ∧
      (site = 8 → t.reg (POD_PARITY inst) = s.reg (POD_PARITY inst) + 1 ∧ (t.pod inst).act.contam = true) ∧
      (site = 10 → t.reg HUSK_PARITY = s.reg HUSK_PARITY + 1 ∧ tget 0 t.husk.parity inst = 1) ∧
      (site = 11 → t.ctxs.egressBad = true) ∧
      (site = 12 → (s.lnMode inst = 2 → tget 0 t.fab.txBad inst = 1) ∧
        (s.lnMode inst ≠ 2 → ∀ p, ((List.range 8).find? fun p => s.portLane p = some inst) = some p →
          tget 0 t.ctxs.portBad p = 1)) ∧
      (site = 13 → t.flag DMC_STATUS_DmwPar = true)) ∧
    (gives (.eccError store i y true) s fun t => t.reg ERL_ECCCORR = s.reg ERL_ECCCORR + 1 ∧ logged t 2 store i ∧
      t.erl.eccBad = s.erl.eccBad ∧ t.img = s.img) ∧
    (gives (.eccError store i y false) s fun t => t.reg ERL_ECCUNC = s.reg ERL_ECCUNC + 1 ∧
      (store = 7 → tget 0 t.img.goldenBad (4 * i) = 1 ∧ t.flag ERL_STATUS_GoldenEcc = true) ∧
      (2 ≤ store → store ≤ 6 → tget 0 t.erl.eccBad (storeKey store i) = 1 ∧ logged t 3 store i) ∧
      (store = 1 → (s.ctxState i = 3 ∨ s.ctxState i = 4) → t.ctxState i = 5 ∧ t.fget (CTX_STATE_FaultCause i) = 0x20))) ∧
  (∀ s : State, s.awake = true →
    (∀ n, s.fget ERL_COUNT_Unread = n + 1 → gives .errorLogPop s fun t => t.fget ERL_COUNT_Unread = n ∧
      t.flag ERL_STATUS_NotEmpty = decide (n ≠ 0) ∧ shadowOf t.shadow ERL_E1 = s.reg (ERL_RING s.logOldest 1) ∧
      shadowOf t.shadow ERL_E2 = s.reg (ERL_RING s.logOldest 2) ∧ shadowOf t.shadow ERL_E3 = s.reg (ERL_RING s.logOldest 3) ∧
      regsBut s t [ERL_COUNT, ERL_STATUS]) ∧
    (gives .clearLps s fun t => t.reg ERL_LPS_FR = 0 ∧ t.reg ERL_LPS_SEC = 0 ∧ t.reg ERL_LPSPEND = 0 ∧ t.erl.acc = [] ∧
      t.erl.fab = s.erl.fab ∧ ∀ c, 1 ≤ c → c ≤ 7 → t.reg (ERL_LPSCAUSE_FR c) = 0 ∧ t.reg (ERL_LPSCAUSE_SEC c) = 0) ∧
    (gives .clearFab s fun t => t.reg ERL_FABLPS_FR = 0 ∧ t.reg ERL_FABLPS_SEC = 0 ∧ t.erl.fab = 0 ∧ t.erl.acc = s.erl.acc ∧
      regsBut s t [ERL_FABLPS_FR, ERL_FABLPS_SEC]))

/-! ## Power, reset, temperature and the test access port -/

/-- A power command is answered by its code where it is not obeyed, and begins its transition where it is: READY to RUN at once,
anything to STANDBY at once with every context EMPTY and HBM lost, the others with Busy set. How a transition ends: a drain when no
context lives, in READY or, on the way to RETAIN, with the units held and RUN shown until RETAIN is entered, or with code TIMEOUT,
the state as it was and Target at the last transition that completed; RETAIN when nothing is under way, with HBM kept; its exit,
which retrains the pseudo-channels, keeps what is RETIRED or FAILED and waits for one that repeats a step; the start when the
clocks have locked, the stores are ready and no lane is left. (The model's own readings and choices in this: log entries 156, 157,
163.) -/
def Obligations.PowerStates : Prop :=
  (∀ (s : State) (c : Instr) (k : Nat), s.awake = true →
    ((c = .pwrStandby ∧ k = 1) ∨ (c = .pwrRetain ∧ k = 2) ∨ (c = .pwrReady ∧ k = 3) ∨ (c = .pwrRun ∧ k = 4)) →
    (s.flag PWR_STATUS_Tripped = true → exec c s = .next (s.fset PWR_STATUS_LastCode 4)) ∧
    (s.flag PWR_STATUS_Tripped = false → s.flag PWR_STATUS_Busy = true → exec c s = .next (s.fset PWR_STATUS_LastCode 2)) ∧
    (s.flag PWR_STATUS_Tripped = false → s.flag PWR_STATUS_Busy = false →
      (k = s.pwrState → exec c s = .next (s.fset PWR_STATUS_LastCode 0)) ∧
      (k ≠ s.pwrState → mayGo s.pwrState k = false → exec c s = .next (s.fset PWR_STATUS_LastCode 1)) ∧
      (mayGo s.pwrState k = true → k ≠ s.pwrState → gives c s fun t =>
        (k = 4 → t.pwrState = 4 ∧ t.isRun = true ∧ t.fget PWR_STATUS_LastCode = 0 ∧ t.flag PWR_STATUS_Busy = false) ∧
        (k = 1 → t.pwrState = 1 ∧ t.fget PWR_STATUS_LastCode = 0 ∧ t.hbm = [] ∧ (∀ x, x < 4096 → t.ctxState x = 0)) ∧
        ((k = 2 ∨ k = 3) → t.pwrState = s.pwrState ∧ t.flag PWR_STATUS_Busy = true ∧ t.fget PWR_STATUS_Target = k ∧
          t.pwr.phase = (if s.pwrState = 4 then .drain else if s.pwrState = 1 then .pll else if s.pwrState = 2 then .exit
            else .retain))))) ∧
  (∀ (s : State) (c : Instr) (slow : Bool),
    (s.pwr.phase = .drain → s.anyLive = false → (c = .drainComplete ∨ c = .drainTimeout) → gives c s fun t =>
      (s.fget PWR_STATUS_Target = 2 → t.pwrState = s.pwrState ∧ t.pwr.phase = .retain ∧
        t.flag PWR_STATUS_Busy = s.flag PWR_STATUS_Busy ∧
        t.ctxs.draining = s.ctxs.draining ∧ ∀ p, p < 64 → (t.pod p).seq = false) ∧
      (s.fget PWR_STATUS_Target ≠ 2 → t.pwrState = 3 ∧ t.pwr.phase = .none ∧ t.ctxs.draining = false ∧
        t.flag PWR_STATUS_Busy = false ∧ t.fget PWR_STATUS_LastCode = 0 ∧ ∀ p, p < 64 → (t.pod p).seq = false)) ∧
    (s.pwr.phase = .drain → s.anyLive = true → gives .drainTimeout s fun t => t.pwrState = s.pwrState ∧ t.pwr.phase = .none ∧
      t.flag PWR_STATUS_Busy = false ∧ t.fget PWR_STATUS_LastCode = 3 ∧ t.fget PWR_STATUS_Target = s.pwr.last % 8 ∧
        t.ctxs.draining = false) ∧
    (s.pwr.phase = .retain → s.retainFree = true → gives .retainEntryDone s fun t => t.pwrState = 2 ∧ t.pwr.phase = .none ∧
      t.flag PWR_STATUS_Busy = false ∧ t.hbm = s.hbm ∧ (s.pwrState = 4 → t.ctxs.draining = false) ∧
      ∀ p, p < 192 → t.pcState p = if s.dmc.asleep = true ∨ s.pcState p = 0 then s.pcState p else 3) ∧
    (s.pwr.phase = .exit → s.dmc.again = [] → gives (.retainExit slow) s fun t => t.pwrState = 3 ∧ t.pwr.phase = .none ∧
      t.flag PWR_STATUS_Busy = false ∧ ((slow || s.dmc.slow) = true → t.flag PWR_STATUS_SlowExit = true) ∧
      ∀ p, p < 192 → (s.pcState p = 3 ∨ s.pcState p = 1) → tget 0 s.dmc.was p < 8 →
        t.pcState p = (if tget 0 s.dmc.was p ≠ 0 then tget 0 s.dmc.was p else if s.pcMapped p then 2
          else if s.dmc.copy.any (fun e => decide (e.2 = p + 1)) then 5 else 4) ∧ tget 0 t.dmc.was p = 0) ∧
    (s.pwr.phase = .exit → s.dmc.again ≠ [] → exec (.retainExit slow) s = .next s) ∧
    (s.pwr.phase = .exit → gives .pllLock s fun t => t.pwr.phase = .exit ∧ t.dmc.train = [] ∧ t.dmc.again = [] ∧
      t.dmc.asleep = false ∧
      ∀ p, p < 192 → t.pcState p = if s.pcState p = 3 then 1 else s.pcState p) ∧
    (s.pwr.phase = .pll → s.fget GLB_STRAP_BootSrc = 0 → gives .pllLock s fun t => t.pwr.phase = .start ∧
      t.flag DMC_CTRL_Enable = true ∧ t.flag DMC_STATUS_Ready = false ∧ t.img.booted = true ∧ t.dmc.asleep = false ∧
      ∀ p, p < 192 → t.pcState p = 1 ∧ (6 ≤ s.pcState p → tget 0 t.dmc.was p = s.pcState p)) ∧
    (s.pwr.phase = .start → (slow = true ∨ (s.dmcReady = true ∧ s.lanesLeft = false)) → gives (.standbyReadyDone slow) s fun t =>
      t.pwrState = 3 ∧ t.pwr.phase = .none ∧ t.flag PWR_STATUS_Busy = false ∧ t.flag PWR_STATUS_LanesPending = s.lanesLeft))

/-- A period's readings: the hottest sensor is shown, and the warning is raised once from 90.00 degrees on. A trip stops the fast
clocks and a transition, and is latched in reset too while VDD_IO is there. RESET_N and the supplies: a pulse under a microsecond
changes nothing, one of ten and more returns every register outside the VBAT domain and the fuses to its reset value and every
unit's other state to that of reset, but for the trip latch and its bit; its release samples the straps and loads the time; a loss
of the supplies resets the trip latch and the test access port too, and drops what had not yet reached the account; the VBAT domain
loses Valid where it runs from a VBAT that is low. A scan of the test access port shifts out what its instruction selects. (The
model's own readings and choices in this: log entries 165, 167, 276, 299, 300.) -/
def Obligations.SuppliesAndHeat : Prop :=
  (∀ (s : State) (q : Int) (rest : List Int), s.awake = true → rest.length = 15 →
    (∀ x ∈ q :: rest, -512 ≤ x ∧ x ≤ 511) →
    (gives (.thermalReading (q :: rest)) s fun t => t.fget PWR_TEMP_JunctionC = ofSigned 8 ((hottest rest 1 (0, q)).2 / 4) ∧
      t.fget PWR_TEMP_Sensor = (hottest rest 1 (0, q)).1 ∧ (∀ x ∈ q :: rest, x ≤ (hottest rest 1 (0, q)).2) ∧
      t.flag PWR_STATUS_OverMax = decide (380 < (hottest rest 1 (0, q)).2) ∧
      (360 ≤ (hottest rest 1 (0, q)).2 → s.pwr.warnArmed = true → t.flag PWR_STATUS_ThermWarn = true ∧
        t.reg PWR_WARNCNT = s.reg PWR_WARNCNT + 1 ∧ (t.reg GLB_INTPEND).getLsbD 0 = true ∧ t.pwr.warnArmed = false) ∧
      (s.pwr.warnArmed = false → t.reg PWR_WARNCNT = s.reg PWR_WARNCNT)) ∧
    (s.pwr.fromVbat = false → gives .thermalTrip s fun t => t.flag PWR_STATUS_Tripped = true ∧
      t.fget PWR_STATUS_Target = s.pwr.last % 8 ∧ t.flag PWR_STATUS_Busy = false ∧ t.pwr.phase = .none ∧
      t.pwr.trip = true ∧ t.fastClk = false ∧ t.isRun = false ∧ regsBut s t [PWR_STATUS]) ∧
    (∀ u : State, u.awake = false → u.pwr.fromVbat = false → exec .thermalTrip u =
      .next { u.fset PWR_STATUS_Tripped 1 with pwr := { u.pwr with trip := true } })) ∧
  (∀ (s : State) (w a b : Nat) (ins : TapIns),
    (s.pwr.inReset = false → w < 1000 → exec (.resetAssert w) s = .next s) ∧
    (s.pwr.inReset = false → 10000 ≤ w → gives (.resetAssert w) s fun t => t.awake = false ∧ t.pwr.trip = s.pwr.trip ∧
      t.pwr.tap = s.pwr.tap ∧ (∀ r, isVbat r = true → t.reg r = s.reg r) ∧
      (∀ r, isVbat r = false → isFuse r = false → r ≠ PWR_STATUS → t.reg r = regReset r) ∧
      (∀ r, isFuse r = true → r ≠ IMG_FUSE → t.reg r = s.reg r) ∧ t.pwrState = 1 ∧ t.flag PWR_STATUS_Tripped = s.pwr.trip ∧
      t.pwr.fromVbat = s.pwr.fromVbat ∧ t.pwr.vbatLow = s.pwr.vbatLow ∧ t.hbm = [] ∧ t.time = 0 ∧ t.fch = FchSt.reset ∧
      t.hbmBad = [] ∧ t.shadow = [] ∧ t.shadowFab = [] ∧ t.hull = HullSt.reset ∧ t.array = ArraySt.reset ∧ t.husk = HuskSt.reset ∧
      t.ctxs = CtxsSt.reset ∧ t.tim = { TimSt.reset with calDiv := s.tim.calDiv } ∧ t.ln = LnSt.reset ∧ t.fab = FabSt.reset ∧
        t.dmc = DmcSt.reset ∧
      t.mtx = MtxSt.reset ∧ t.img = ImgSt.reset ∧ t.i3c = I3cSt.reset ∧ t.erl = ErlSt.reset ∧ t.cnt = CntSt.reset ∧
      t.wireOut = s.wireOut) ∧
    (s.pwr.inReset = true → a < 8 → b < 4 → gives (.resetRelease a b) s fun t => t.awake = true ∧ t.pwr.fromVbat = false ∧
      t.fget GLB_STRAP_AddrSel = a ∧ t.fget GLB_STRAP_BootSrc = b ∧ t.flag PWR_STATUS_Tripped = s.flag PWR_STATUS_Tripped ∧
      t.time = (if s.flag CAL_STATUS_Valid then (s.get2 CAL_SEC_LO CAL_SEC_HI + 1) % 2 ^ 48 * 2 ^ 80 else 0)) ∧
    (gives .mainSupplyLoss s fun t => t.awake = false ∧ t.pwr.off = true ∧ t.pwr.trip = false ∧ t.pwr.fromVbat = true ∧
      t.pwr.tap = .idcode ∧ t.pwr.boundary = 0 ∧ (∀ r, isVbat r = true → (r ≠ CAL_STATUS ∨ s.pwr.vbatLow = false) →
        t.reg r = s.reg r) ∧
      (s.pwr.vbatLow = true → t.flag CAL_STATUS_Valid = false) ∧ t.erl.vbat = none ∧ t.tim.calDiv = s.tim.calDiv ∧
      (∀ r, isVbat r = false → isFuse r = false → t.reg r = regReset r) ∧ t.hbm = []) ∧
    (gives (.vddIoSwitchover true) s fun t => t.pwr.fromVbat = true ∧ t.erl.vbat = none ∧ regsBut s t [CAL_STATUS] ∧
      (s.pwr.vbatLow = false → t.regs = s.regs) ∧ (s.pwr.vbatLow = true → t.flag CAL_STATUS_Valid = false)) ∧
    exec (.vddIoSwitchover false) s = .next { s with pwr := { s.pwr with fromVbat := false } } ∧
    (gives .vbatLow s fun t => t.pwr.vbatLow = true ∧ regsBut s t [CAL_STATUS] ∧ (s.pwr.fromVbat = false → t.regs = s.regs) ∧
      (s.pwr.fromVbat = true → t.flag CAL_STATUS_Valid = false)) ∧
    exec .tapReset s = .next { s with pwr := { s.pwr with tap := .idcode } } ∧
    (s.pwr.fromVbat = false → gives (.tapInstruction ins) s fun t => t.pwr.tap = ins ∧ t.regs = s.regs ∧
      t.pinsAway = decide (ins = .extest ∨ ins = .highz ∨ ins = .extestPulse ∨ ins = .extestTrain) ∧
      (tapBound ins = false → t.pwr.boundary = s.pwr.boundary) ∧
      t.wireOut = s.wireOut ++ [.tdo (if ins = .idcode then 0x19601369#64 else if ins = .bypass ∨ ins = .highz then 0#64
        else t.pwr.boundary)]) ∧
    (s.pwr.fromVbat = true → exec (.tapInstruction ins) s = .next s))

/-! ## Counters and the Pip sampler -/

/-- SNAP, FREEZE and THAW: a snapshot captures every live counter and is held, a freeze captures only where nothing is held, a thaw
lets the bank track again. The Pip sampler: an advance of its trigger arms the selected pods, a change of its configuration starts
the choice again, a finished record goes to the next slot of the buffer, and a pop latches the oldest one's words. (The model's own
readings and choices in this: log entries 111, 112, 113, 275.) -/
def Obligations.Counters : Prop :=
  (∀ (s : State) (n : Nat), s.takes PMC_CMD → n < 512 →
    (gives .pmcSnap s fun t => t.flag PMC_STATUS_Held = true ∧ t.reg (PMC_SHADOW_LO n) = s.reg (PMC_LIVE_LO n) ∧
      t.reg (PMC_SHADOW_HI n) = s.reg (PMC_LIVE_HI n) ∧ t.cnt.snapWait = true ∧ (t.reg GLB_INTPEND).getLsbD 15 = true) ∧
    (s.pmcHeld = false → gives .pmcFreeze s fun t => t.flag PMC_STATUS_Held = true ∧ t.cnt.snapWait = true ∧
      t.reg (PMC_SHADOW_LO n) = s.reg (PMC_LIVE_LO n) ∧ t.reg (PMC_SHADOW_HI n) = s.reg (PMC_LIVE_HI n) ∧
      t.reg GLB_INTPEND = s.reg GLB_INTPEND) ∧
    (s.pmcHeld = true → exec .pmcFreeze s = .next s) ∧
    (gives .pmcThaw s fun t => t.flag PMC_STATUS_Held = false ∧ regsBut s t [PMC_STATUS])) ∧
  (∀ (s : State) (p : Nat) (v : Word), s.takes PMC_PIPCFG → p < 64 →
    (s.fget PMC_PIPCFG_Mode = 2 → s.pmcLive (s.fget PMC_PIPTRIG_Event) ≠ s.array.pipSeen → gives .pipTrigger s fun t =>
      t.array.pipSeen = s.pmcLive (s.fget PMC_PIPTRIG_Event) ∧ (s.pipSelected p = true → (t.pod p).pipArmed = true) ∧
      (s.pipSelected p = false → t.pod p = s.pod p) ∧ regsBut s t [PMC_PIPMERGE]) ∧
    (gives (.pipConfigWrite PMC_PIPMASK_LO v) s fun t => t.reg PMC_PIPMASK_LO = v ∧ regsBut s t [PMC_PIPMASK_LO] ∧
      (v ≠ s.reg PMC_PIPMASK_LO → (t.pod p).pipCount = 0 ∧ (t.pod p).pipArmed = false)) ∧
    (gives (.pipConfigWrite PMC_PIPCFG v) s fun t => t.fget PMC_PIPCFG_Mode = PMC_PIPCFG_Mode.of v ∧
      t.fget PMC_PIPCFG_Period = PMC_PIPCFG_Period.of v ∧ t.fget PMC_PIPCFG_StopFull = PMC_PIPCFG_StopFull.of v ∧
      regsBut s t [PMC_PIPCFG]) ∧
    (∀ r lat ab, s.cnt.pipStop = false → s.portState 23 = 0 → s.pipNext = some p → (s.pod p).pip = some r →
      r.done = some (lat, ab) →
      (s.flag PMC_PIPCFG_StopFull = false ∨ s.pipUnread ≠ 1024 → gives .pipRecordCollect s fun t => (t.pod p).pip = none ∧
        t.array.pipLast = p ∧ t.fget PMC_PIPCOUNT_NextSlot = (s.fget PMC_PIPCOUNT_NextSlot + 1) % 1024 ∧
        (∀ w, w < 4 → t.reg (PMC_PIPRING (s.fget PMC_PIPCOUNT_NextSlot) w) = (r.words p lat ab).getD w 0) ∧
        (s.pipUnread < 1024 → t.pipUnread = s.pipUnread + 1)) ∧
      (s.flag PMC_PIPCFG_StopFull = true → s.pipUnread = 1024 → gives .pipRecordCollect s fun t => (t.pod p).pip = none ∧
        t.flag PMC_STATUS_PipStopped = true ∧ t.cnt.pipStop = true ∧ t.pipUnread = 1024)) ∧
    (∀ n, s.pipUnread = n + 1 → n < 1024 → gives .pipPop s fun t => t.pipUnread = n ∧ t.cnt.pipStop = false ∧
      (∀ w, w < 3 → shadowOf t.shadow (PMC_PIPW w) = s.reg (PMC_PIPRING s.pipOldest (w + 1))) ∧
      regsBut s t [PMC_PIPCOUNT, PMC_STATUS]))
end

