-- ==== Sys2Proof/Laws/Tables.lean ====
section
/-! SUPPORT. Tables: what a read gives after a write, and that every table operation keeps the canonical form. -/

namespace Sys2Proof.Machine

variable {α : Type}

/-! ## Reads -/

@[simp] theorem tget_nil (d : α) (i : Nat) : tget d [] i = d := rfl

theorem tget_terase_self (d : α) (t : Tbl α) (i : Nat) : tget d (terase t i) i = d := by
  induction t with
  | nil => rfl
  | cons e t ih =>
    obtain ⟨k, v⟩ := e
    by_cases h : k = i <;> simp [terase, tget, h, ih]

theorem tget_terase_ne (d : α) (t : Tbl α) {i j : Nat} (h : j ≠ i) : tget d (terase t i) j = tget d t j := by
  induction t with
  | nil => rfl
  | cons e t ih =>
    obtain ⟨k, v⟩ := e
    by_cases hk : k = i
    · have : k ≠ j := fun hj => h (hj ▸ hk)
      simp [terase, tget, hk, ih, Ne.symm h]
    · simp [terase, tget, hk, ih]

theorem tget_tins_self (d : α) (t : Tbl α) (i : Nat) (v : α) (hn : ∀ e ∈ t, e.1 ≠ i) :
    tget d (tins t i v) i = v := by
  induction t with
  | nil => simp [tins, tget]
  | cons e t ih =>
    obtain ⟨k, w⟩ := e
    have hk : k ≠ i := hn _ (List.mem_cons_self ..)
    by_cases hlt : i < k
    · simp [tins, tget, hlt]
    · simp only [tins, hlt, if_false, tget, hk]
      exact ih fun e he => hn e (List.mem_cons_of_mem _ he)

theorem tget_tins_ne (d : α) (t : Tbl α) (v : α) {i j : Nat} (h : j ≠ i) : tget d (tins t i v) j = tget d t j := by
  induction t with
  | nil => simp [tins, tget, Ne.symm h]
  | cons e t ih =>
    obtain ⟨k, w⟩ := e
    by_cases hlt : i < k
    · simp [tins, tget, hlt, Ne.symm h]
    · simp [tins, tget, hlt, ih]

theorem terase_keys (t : Tbl α) (i : Nat) : ∀ e ∈ terase t i, e.1 ≠ i := by
  induction t with
  | nil => simp [terase]
  | cons e t ih =>
    obtain ⟨k, v⟩ := e
    by_cases h : k = i
    · simpa [terase, h] using ih
    · intro e he
      rcases List.mem_cons.mp (by simpa [terase, h] using he) with rfl | he
      · exact h
      · exact ih e he

/-- Read after write at the same key. -/
@[simp] theorem tget_tset_self [DecidableEq α] (d : α) (t : Tbl α) (i : Nat) (v : α) : tget d (tset d t i v) i = v := by
  unfold tset
  split
  · rename_i h
    rw [tget_terase_self, h]
  · exact tget_tins_self d _ i v (terase_keys t i)

/-- A write leaves every other key alone. -/
theorem tget_tset_ne [DecidableEq α] (d : α) {d' : α} (t : Tbl α) (v : α) {i j : Nat} (h : j ≠ i) :
    tget d' (tset d t i v) j = tget d' t j := by
  unfold tset
  split
  · exact tget_terase_ne d' t h
  · rw [tget_tins_ne d' _ v h, tget_terase_ne d' t h]

/-! ## Canonical form -/

theorem tsorted_mono {t : Tbl α} {a b : Nat} (h : tsorted b t = true) (hab : a ≤ b) : tsorted a t = true := by
  cases t with
  | nil => rfl
  | cons e t =>
    obtain ⟨k, v⟩ := e
    simp only [tsorted, Bool.and_eq_true, decide_eq_true_eq] at h ⊢
    exact ⟨by omega, h.2⟩

theorem tsorted_terase {t : Tbl α} {lo : Nat} (i : Nat) (h : tsorted lo t = true) : tsorted lo (terase t i) = true := by
  induction t generalizing lo with
  | nil => rfl
  | cons e t ih =>
    obtain ⟨k, v⟩ := e
    simp only [tsorted, Bool.and_eq_true, decide_eq_true_eq] at h
    by_cases hk : k = i
    · simpa [terase, hk] using tsorted_mono (ih h.2) (by omega : lo ≤ k + 1)
    · simp [terase, hk, tsorted, h.1, ih h.2]

theorem tsorted_tins {t : Tbl α} {lo i : Nat} (v : α) (h : tsorted lo t = true) (hlo : lo ≤ i) (hn : ∀ e ∈ t, e.1 ≠ i) :
    tsorted lo (tins t i v) = true := by
  induction t generalizing lo with
  | nil => simp [tins, tsorted, hlo]
  | cons e t ih =>
    obtain ⟨k, w⟩ := e
    simp only [tsorted, Bool.and_eq_true, decide_eq_true_eq] at h
    have hk : k ≠ i := hn _ (List.mem_cons_self ..)
    by_cases hlt : i < k
    · simp [tins, hlt, tsorted, hlo, h.2]
    · simp only [tins, hlt, if_false, tsorted, h.1, decide_true, Bool.true_and]
      exact ih h.2 (by omega) fun e he => hn e (List.mem_cons_of_mem _ he)

theorem mem_terase {t : Tbl α} {i : Nat} {e : Nat × α} (h : e ∈ terase t i) : e ∈ t := by
  induction t with
  | nil => simp [terase] at h
  | cons f t ih =>
    obtain ⟨k, v⟩ := f
    by_cases hk : k = i
    · exact List.mem_cons_of_mem _ (ih (by simpa [terase, hk] using h))
    · rcases List.mem_cons.mp (by simpa [terase, hk] using h) with rfl | h
      · exact List.mem_cons_self ..
      · exact List.mem_cons_of_mem _ (ih h)

theorem mem_tins {t : Tbl α} {i : Nat} {v : α} {e : Nat × α} (h : e ∈ tins t i v) : e = (i, v) ∨ e ∈ t := by
  induction t with
  | nil => simpa [tins] using h
  | cons f t ih =>
    obtain ⟨k, w⟩ := f
    by_cases hlt : i < k
    · simpa [tins, hlt] using h
    · rcases List.mem_cons.mp (by simpa [tins, hlt] using h) with rfl | h
      · exact .inr (List.mem_cons_self ..)
      · exact (ih h).imp_right (List.mem_cons_of_mem _)

@[simp] theorem twf_nil [DecidableEq α] (d : Nat → α) : twf d [] = true := rfl

/-- A write keeps the canonical form. -/
theorem twf_tset [DecidableEq α] {d : Nat → α} {t : Tbl α} (i : Nat) (v : α) (h : twf d t = true) :
    twf d (tset (d i) t i v) = true := by
  simp only [twf, Bool.and_eq_true, List.all_eq_true, decide_eq_true_eq] at h ⊢
  have he : ∀ e ∈ terase t i, e.2 ≠ d e.1 := fun e he => h.2 e (mem_terase he)
  unfold tset
  split
  · exact ⟨tsorted_terase i h.1, he⟩
  · rename_i hv
    refine ⟨tsorted_tins v (tsorted_terase i h.1) (Nat.zero_le i) (terase_keys t i), fun e hm => ?_⟩
    rcases mem_tins hm with rfl | hm
    · exact hv
    · exact he e hm

/-- The same for a table with one default. -/
theorem twf_tset_const [DecidableEq α] {d : α} {t : Tbl α} (i : Nat) (v : α) (h : twf (fun _ => d) t = true) :
    twf (fun _ => d) (tset d t i v) = true := twf_tset (d := fun _ => d) i v h

theorem twf_foldl [DecidableEq α] {β : Type} {d : α} {f : β → Nat} {v : β → α} (l : List β) {t : Tbl α}
    (h : twf (fun _ => d) t = true) : twf (fun _ => d) (l.foldl (fun t b => tset d t (f b) (v b)) t) = true := by
  induction l generalizing t with
  | nil => exact h
  | cons b l ih => exact ih (twf_tset_const _ _ h)

theorem tsorted_filter {t : Tbl α} {lo : Nat} (p : Nat × α → Bool) (h : tsorted lo t = true) :
    tsorted lo (t.filter p) = true := by
  induction t generalizing lo with
  | nil => rfl
  | cons e t ih =>
    obtain ⟨k, v⟩ := e
    simp only [tsorted, Bool.and_eq_true, decide_eq_true_eq] at h
    by_cases hp : p (k, v)
    · simp [hp, tsorted, h.1, ih h.2]
    · simpa [List.filter_cons, hp] using tsorted_mono (ih h.2) (by omega : lo ≤ k + 1)

/-- Leaving entries out keeps the canonical form. -/
theorem twf_filter [DecidableEq α] {d : Nat → α} {t : Tbl α} (p : Nat × α → Bool) (h : twf d t = true) :
    twf d (t.filter p) = true := by
  simp only [twf, Bool.and_eq_true, List.all_eq_true, decide_eq_true_eq] at h ⊢
  exact ⟨tsorted_filter p h.1, fun e he => h.2 e (List.mem_filter.mp he).1⟩

theorem twf_terase [DecidableEq α] {d : Nat → α} {t : Tbl α} (i : Nat) (h : twf d t = true) :
    twf d (terase t i) = true := by
  simp only [twf, Bool.and_eq_true, List.all_eq_true, decide_eq_true_eq] at h ⊢
  exact ⟨tsorted_terase i h.1, fun e he => h.2 e (mem_terase he)⟩

end Sys2Proof.Machine
end

