-- ==== Sys2Proof/Laws/Kept.lean ====
section
/-! SUPPORT. What an operation leaves alone, said once: the queue, the power block, the parts of the state it does not touch, and
the canonical form of the stores. One lemma per operation, in the form simp chains backward through a composition. -/

namespace Sys2Proof.Machine

/-- s comes from s0 by operations that touch only the parts in F, never the queue or the power block, and keep the stores
canonical. -/
structure Kept (F : Part → Bool) (s0 s : State) : Prop where
  pending : s.pending = s0.pending
  pwr : s.pwr = s0.pwr
  memory : Memory.wf s0 = true → Memory.wf s = true
  same : ∀ p, F p = false → State.same p s0 s

theorem State.same_refl (p : Part) (s : State) : State.same p s s := by cases p <;> rfl

theorem State.same_trans {p : Part} {s t u : State} (h : State.same p s t) (g : State.same p t u) : State.same p s u := by
  cases p <;> exact Eq.trans g h

theorem memory_wf_iff (s : State) : Memory.wf s = true ↔
    twf regReset s.regs = true ∧ twf (fun _ => 0) s.hbm = true ∧ twf (fun _ => 0) s.hbmBad = true ∧
      twf (fun _ => 0) s.hull.stage = true ∧ twf (fun _ => 0) s.array.store = true ∧
      twf (fun _ => 0) s.mtx.egress = true ∧ twf (fun _ => 0x4000#32) s.fch.gain = true := by
  simp [Memory.wf, Bool.and_eq_true, and_assoc]

variable {F : Part → Bool} {s0 s : State}

@[simp] theorem Kept.refl (s : State) : Kept F s s := ⟨rfl, rfl, id, fun p _ => State.same_refl p s⟩

theorem Kept.trans {s1 : State} (h : Kept F s0 s1) (g : Kept F s1 s) : Kept F s0 s :=
  ⟨g.pending.trans h.pending, g.pwr.trans h.pwr, fun w => g.memory (h.memory w),
    fun p hp => State.same_trans (h.same p hp) (g.same p hp)⟩

/-- An update that keeps the stores canonical for a reason of its own. -/
theorem Kept.mem {t : State} (h : Kept F s0 s) (hp : t.pending = s.pending) (hw : t.pwr = s.pwr)
    (hs : ∀ p, F p = false → State.same p s t) (hm : Memory.wf s = true → Memory.wf t = true) : Kept F s0 t :=
  h.trans ⟨hp, hw, hm, hs⟩

/-- A fold over an accumulator that carries the state at p. -/
theorem kept_foldl {α β : Type} (p : β → State) {f : β → α → β} {l : List α} {b : β}
    (hf : ∀ b x, Kept F s0 (p b) → Kept F s0 (p (f b x))) (hb : Kept F s0 (p b)) : Kept F s0 (p (l.foldl f b)) := by
  induction l generalizing b with
  | nil => exact hb
  | cons x t ih => exact ih (hf b x hb)

/-- The state of a pair taken apart. -/
theorem kept_fst {a : State} {α : Type} {b : α} {p : State × α} (e : p = (a, b)) (h : Kept F s0 p.1) : Kept F s0 a :=
  (congrArg (fun q => Kept F s0 q.1) e).mp h

/-- One part's new value: it may change, or it is the old one. -/
def Alters (F : Part → Bool) (p : Part) {α : Type} (x y : α) : Prop := F p = true ∨ x = y

@[simp ↓] theorem alters_same {p : Part} {α : Type} {x : α} : Alters F p x x := .inr rfl

@[simp ↓] theorem alters_of {p : Part} {α : Type} {x y : α} (h : F p = true) : Alters F p x y := .inl h

theorem Alters.eq {p : Part} {α : Type} {x y : α} (h : Alters F p x y) (hp : F p = false) : x = y :=
  h.resolve_left (by simp [hp])

/-- An update of fields other than the queue, the power block, the registers and HBM that leaves the stores in them alone. -/
@[simp ↓] theorem kept_mk {x1 x2 x3 x4 x5 x6 x7 x8 x9 x10 x11 x12 x13 x14 x15 x16 x17 x18 x19}
    (h : Kept F s0 s) (h6 : x6.gain = s.fch.gain) (h7 : x7.stage = s.hull.stage) (h8 : x8.store = s.array.store)
    (h15 : x15.egress = s.mtx.egress) (a1 : Alters F .shadow x1 s.shadow) (a2 : Alters F .shadowFab x2 s.shadowFab)
    (a3 : Alters F .fresh x3 s.fresh) (a4 : Alters F .time x4 s.time) (a5 : Alters F .wireOut x5 s.wireOut)
    (a6 : Alters F .fch x6 s.fch) (a7 : Alters F .hull x7 s.hull) (a8 : Alters F .array x8 s.array)
    (a9 : Alters F .husk x9 s.husk) (a10 : Alters F .ctxs x10 s.ctxs) (a11 : Alters F .tim x11 s.tim)
    (a12 : Alters F .ln x12 s.ln) (a13 : Alters F .fab x13 s.fab) (a14 : Alters F .dmc x14 s.dmc)
    (a15 : Alters F .mtx x15 s.mtx) (a16 : Alters F .img x16 s.img) (a17 : Alters F .i3c x17 s.i3c)
    (a18 : Alters F .erl x18 s.erl) (a19 : Alters F .cnt x19 s.cnt) :
    Kept F s0 (State.mk s.pending s.regs x1 x2 s.hbm s.hbmBad x3 x4 x5 x6 x7 x8 x9 x10 x11 x12 x13 x14 x15 x16 x17 x18
      s.pwr x19) := by
  refine h.mem rfl rfl (fun p hp => ?_) fun w => ?_
  · cases p
    · rfl
    · exact a1.eq hp
    · exact a2.eq hp
    · rfl
    · rfl
    · exact a3.eq hp
    · exact a4.eq hp
    · exact a5.eq hp
    · exact a6.eq hp
    · exact h6
    · exact a7.eq hp
    · exact h7
    · exact a8.eq hp
    · exact h8
    · exact a9.eq hp
    · exact a10.eq hp
    · exact a11.eq hp
    · exact a12.eq hp
    · exact a13.eq hp
    · exact a14.eq hp
    · exact a15.eq hp
    · exact h15
    · exact a16.eq hp
    · exact a17.eq hp
    · exact a18.eq hp
    · rfl
    · exact a19.eq hp
  · rw [memory_wf_iff] at w ⊢
    simpa only [h6, h7, h8, h15] using w

@[simp ↓] theorem kept_ite {c : Prop} [Decidable c] {a b : State} (ha : c → Kept F s0 a) (hb : ¬c → Kept F s0 b) :
    Kept F s0 (if c then a else b) := by
  split
  · exact ha ‹_›
  · exact hb ‹_›

@[simp ↓] theorem kept_setReg {a : Nat} {w : BitVec 32} (h : Kept F s0 s) (h_regs : F .regs = true := by assumption) :
    Kept F s0 (s.setReg a w) :=
  h.mem rfl rfl (fun p hp => by
    cases p
    · rw [h_regs] at hp
      cases hp
    all_goals rfl) fun hw => by
      rw [memory_wf_iff] at hw ⊢
      exact ⟨twf_tset a w hw.1, hw.2⟩

@[simp ↓] theorem kept_each {α : Type} {l : List α} {f : State → α → State}
    (hf : ∀ s x, Kept F s0 s → Kept F s0 (f s x)) (h : Kept F s0 s) : Kept F s0 (s.each l f) := by
  induction l generalizing s with
  | nil => exact h
  | cons x t ih => exact ih (hf s x h)

@[simp ↓] theorem kept_when {c : Bool} {f : State → State} (hf : ∀ s, Kept F s0 s → Kept F s0 (f s)) (h : Kept F s0 s) :
    Kept F s0 (s.when c f) := by
  unfold State.when
  split
  · exact hf s h
  · exact h

end Sys2Proof.Machine
end

