-- ==== Sys2Proof/Laws/KeptOps.lean ====
section
/-! SUPPORT. The operations of the shared operations, the F-chain, gensync, the Hull and the account leave the queue and the power block alone and keep the stores canonical:
one lemma per operation. -/

set_option Elab.async false
set_option linter.unusedSimpArgs false

namespace Sys2Proof.Machine

variable {F : Part → Bool} {s0 s : State}

@[simp ↓] theorem kept_fset {f : Fld} {v : Nat} (h : Kept F s0 s) (h_regs : F .regs = true := by assumption) :
    Kept F s0 (State.fset s f v) := by
  unfold State.fset
  simp (maxDischargeDepth := 60) +contextual [h, h_regs]

@[simp ↓] theorem kept_incBy {a n : Nat} (h : Kept F s0 s) (h_regs : F .regs = true := by assumption) :
    Kept F s0 (State.incBy s a n) := by
  unfold State.incBy
  simp (maxDischargeDepth := 60) +contextual [h, h_regs]

@[simp ↓] theorem kept_inc {a : Nat} (h : Kept F s0 s) (h_regs : F .regs = true := by assumption) :
    Kept F s0 (State.inc s a) := by
  unfold State.inc
  simp (maxDischargeDepth := 60) +contextual [h, h_regs]

@[simp ↓] theorem kept_pmc {n k : Nat} (h : Kept F s0 s) (h_regs : F .regs = true := by assumption) :
    Kept F s0 (State.pmc s n k) := by
  unfold State.pmc
  simp (maxDischargeDepth := 60) +contextual [h, h_regs]

@[simp ↓] theorem kept_draw (h : Kept F s0 s) (h_fresh : F .fresh = true := by assumption) :
    Kept F s0 (State.draw s) := by
  unfold State.draw
  simp (maxDischargeDepth := 60) +contextual [h, h_fresh]

@[simp ↓] theorem kept_emit {o : Out} (h : Kept F s0 s) (h_wireOut : F .wireOut = true := by assumption) :
    Kept F s0 (State.emit s o) := by
  unfold State.emit
  simp (maxDischargeDepth := 60) +contextual [h, h_wireOut]

@[simp ↓] theorem kept_set2 {lo hi v : Nat} (h : Kept F s0 s) (h_regs : F .regs = true := by assumption) :
    Kept F s0 (State.set2 s lo hi v) := by
  unfold State.set2
  simp (maxDischargeDepth := 60) +contextual [h, h_regs]

@[simp ↓] theorem kept_raise {c : Nat} (h : Kept F s0 s) (h_regs : F .regs = true := by assumption) :
    Kept F s0 (State.raise s c) := by
  unfold State.raise
  simp (maxDischargeDepth := 60) +contextual [h, h_regs]

@[simp ↓] theorem kept_raiseLane {l : Nat} (h : Kept F s0 s) (h_regs : F .regs = true := by assumption) :
    Kept F s0 (State.raiseLane s l) := by
  unfold State.raiseLane
  simp (maxDischargeDepth := 60) +contextual [h, h_regs]

@[simp ↓] theorem kept_logNew {e0 info : BitVec 32} (h : Kept F s0 s) (h_erl : F .erl = true := by assumption)
    (h_regs : F .regs = true := by assumption) :
    Kept F s0 (State.logNew s e0 info) := by
  unfold State.logNew
  simp (maxDischargeDepth := 60) +contextual [h, h_erl, h_regs]

@[simp ↓] theorem kept_log {code site inst info : Nat} (h : Kept F s0 s) (h_erl : F .erl = true := by assumption)
    (h_regs : F .regs = true := by assumption) :
    Kept F s0 (State.log s code site inst info) := by
  unfold State.log
  simp (maxDischargeDepth := 60) +contextual [h, h_erl, h_regs]
  repeat' split
  all_goals simp_all (maxDischargeDepth := 60) +contextual

@[simp ↓] theorem kept_parity {site inst info : Nat} (h : Kept F s0 s) (h_erl : F .erl = true := by assumption)
    (h_regs : F .regs = true := by assumption) :
    Kept F s0 (State.parity s site inst info) := by
  unfold State.parity
  simp (maxDischargeDepth := 60) +contextual [h, h_erl, h_regs]

@[simp ↓] theorem kept_ecc {store index syndrome : Nat} {correctable : Bool} (h : Kept F s0 s)
    (h_erl : F .erl = true := by assumption) (h_regs : F .regs = true := by assumption) :
    Kept F s0 (State.ecc s store index syndrome correctable) := by
  unfold State.ecc
  simp (maxDischargeDepth := 60) +contextual [h, h_erl, h_regs]

@[simp ↓] theorem kept_hostWrite {a : Nat} {f : State → State} (hf : ∀ s, Kept F s0 s → Kept F s0 (f s))
    (h : Kept F s0 s) (h_erl : F .erl = true := by assumption) (h_regs : F .regs = true := by assumption) :
    Kept F s0 (State.hostWrite s a f) := by
  unfold State.hostWrite
  simp (maxDischargeDepth := 60) +contextual [h, hf, h_erl, h_regs]

@[simp ↓] theorem kept_hostPop {a : Nat} {f : State → State} (hf : ∀ s, Kept F s0 s → Kept F s0 (f s))
    (h : Kept F s0 s) :
    Kept F s0 (State.hostPop s a f) := by
  unfold State.hostPop
  simp (maxDischargeDepth := 60) +contextual [h, hf]

@[simp ↓] theorem kept_noteReserve (h : Kept F s0 s) (h_regs : F .regs = true := by assumption) :
    Kept F s0 (State.noteReserve s) := by
  unfold State.noteReserve
  simp (maxDischargeDepth := 60) +contextual [h, h_regs]

@[simp ↓] theorem kept_failPc {p : Nat} (h : Kept F s0 s) (h_dmc : F .dmc = true := by assumption)
    (h_erl : F .erl = true := by assumption) (h_regs : F .regs = true := by assumption) :
    Kept F s0 (State.failPc s p) := by
  unfold State.failPc
  split <;> simp (maxDischargeDepth := 60) +contextual [h, h_dmc, h_erl, h_regs]

@[simp ↓] theorem kept_retirePlanned {p : Nat} (h : Kept F s0 s) (h_dmc : F .dmc = true := by assumption)
    (h_erl : F .erl = true := by assumption) (h_regs : F .regs = true := by assumption) :
    Kept F s0 (State.retirePlanned s p) := by
  unfold State.retirePlanned
  repeat' split
  all_goals simp (maxDischargeDepth := 60) +contextual [h, h_dmc, h_erl, h_regs]

@[simp ↓] theorem kept_remapPc {p q : Nat} (h : Kept F s0 s) (h_regs : F .regs = true := by assumption) :
    Kept F s0 (State.remapPc s p q) := by
  unfold State.remapPc
  simp (maxDischargeDepth := 60) +contextual [h, h_regs]

@[simp ↓] theorem kept_suddenMove {p q : Nat} (h : Kept F s0 s) (h_dmc : F .dmc = true := by assumption)
    (h_erl : F .erl = true := by assumption) (h_regs : F .regs = true := by assumption) :
    Kept F s0 (State.suddenMove s p q) := by
  unfold State.suddenMove
  simp (maxDischargeDepth := 60) +contextual [h, h_dmc, h_erl, h_regs]

@[simp ↓] theorem kept_retireSudden {p : Nat} (h : Kept F s0 s) (h_dmc : F .dmc = true := by assumption)
    (h_erl : F .erl = true := by assumption) (h_regs : F .regs = true := by assumption) :
    Kept F s0 (State.retireSudden s p) := by
  unfold State.retireSudden
  simp (maxDischargeDepth := 60) +contextual [h, h_dmc, h_erl, h_regs]
  repeat' split
  all_goals simp_all (maxDischargeDepth := 60) +contextual

@[simp ↓] theorem kept_dmcParity {p info : Nat} (h : Kept F s0 s) (h_dmc : F .dmc = true := by assumption)
    (h_erl : F .erl = true := by assumption) (h_regs : F .regs = true := by assumption) :
    Kept F s0 (State.dmcParity s p info) := by
  unfold State.dmcParity
  simp (maxDischargeDepth := 60) +contextual [h, h_dmc, h_erl, h_regs]

@[simp ↓] theorem kept_beatError {line b : Nat} (h : Kept F s0 s) (h_dmc : F .dmc = true := by assumption)
    (h_erl : F .erl = true := by assumption) (h_regs : F .regs = true := by assumption) :
    Kept F s0 (State.beatError s line b) := by
  unfold State.beatError
  simp (maxDischargeDepth := 60) +contextual [h, h_dmc, h_erl, h_regs]

@[simp ↓] theorem kept_setBankQ {k : Nat} {q : List DramReq} (h : Kept F s0 s)
    (h_dmc : F .dmc = true := by assumption) :
    Kept F s0 (State.setBankQ s k q) := by
  unfold State.setBankQ
  simp (maxDischargeDepth := 60) +contextual [h, h_dmc]

@[simp ↓] theorem kept_addLines {pc n : Nat} (h : Kept F s0 s) (h_dmc : F .dmc = true := by assumption) :
    Kept F s0 (State.addLines s pc n) := by
  unfold State.addLines
  simp (maxDischargeDepth := 60) +contextual [h, h_dmc]

@[simp ↓] theorem kept_drainLatch {k : Nat} (h : Kept F s0 s) (h_dmc : F .dmc = true := by assumption) :
    Kept F s0 (State.drainLatch s k) := by
  unfold State.drainLatch
  simp (maxDischargeDepth := 60) +contextual [h, h_dmc]

@[simp ↓] theorem kept_queueWrite {k line strobes : Nat} (h : Kept F s0 s) (h_dmc : F .dmc = true := by assumption) :
    Kept F s0 (State.queueWrite s k line strobes) := by
  unfold State.queueWrite
  simp (maxDischargeDepth := 60) +contextual [h, h_dmc]

@[simp ↓] theorem kept_bankIssue {k : Nat} (h : Kept F s0 s) (h_dmc : F .dmc = true := by assumption) :
    Kept F s0 (State.bankIssue s k) := by
  unfold State.bankIssue
  simp (maxDischargeDepth := 60) +contextual [h, h_dmc]
  repeat' split
  all_goals simp_all (maxDischargeDepth := 60) +contextual

@[simp ↓] theorem kept_queueRead {pc k line : Nat} (h : Kept F s0 s) (h_dmc : F .dmc = true := by assumption)
    (h_regs : F .regs = true := by assumption) :
    Kept F s0 (State.queueRead s pc k line) := by
  unfold State.queueRead
  simp (maxDischargeDepth := 60) +contextual [h, h_dmc, h_regs]

@[simp ↓] theorem kept_bankIssues {n k : Nat} (h : Kept F s0 s) (h_dmc : F .dmc = true := by assumption) :
    Kept F s0 (State.bankIssues n k s) := by
  induction n generalizing s with
  | zero => exact h
  | succ n ih => exact ih (kept_bankIssue h)

@[simp ↓] theorem kept_bankEmpty {k : Nat} (h : Kept F s0 s) (h_dmc : F .dmc = true := by assumption) :
    Kept F s0 (State.bankEmpty s k) := by
  unfold State.bankEmpty
  simp (maxDischargeDepth := 60) +contextual [h, h_dmc]

@[simp ↓] theorem kept_lineEnter {line : Nat} {strobes : Option Nat} (h : Kept F s0 s)
    (h_dmc : F .dmc = true := by assumption) (h_regs : F .regs = true := by assumption) :
    Kept F s0 (State.lineEnter s line strobes) := by
  unfold State.lineEnter
  split <;> simp (maxDischargeDepth := 60) +contextual [h, h_dmc, h_regs]

@[simp ↓] theorem kept_severeTake {b : Nat} (h : Kept F s0 s) (h_dmc : F .dmc = true := by assumption) (h_regs : F .regs = true := by assumption) :
    Kept F s0 (State.severeTake s b) := by
  unfold State.severeTake
  simp (maxDischargeDepth := 60) +contextual [h, h_dmc, h_regs]

@[simp ↓] theorem kept_beatsBack {line : Nat} (h : Kept F s0 s) (h_dmc : F .dmc = true := by assumption)
    (h_erl : F .erl = true := by assumption) (h_regs : F .regs = true := by assumption) :
    Kept F s0 (State.beatsBack s line) := by
  unfold State.beatsBack
  split
  · exact h
  · simp (maxDischargeDepth := 60) +contextual [h, h_dmc, h_erl, h_regs]

@[simp ↓] theorem kept_noteLine {line : Nat} (h : Kept F s0 s) (h_dmc : F .dmc = true := by assumption)
    (h_erl : F .erl = true := by assumption) (h_regs : F .regs = true := by assumption) :
    Kept F s0 (State.noteLine s line) := by
  unfold State.noteLine
  simp (maxDischargeDepth := 60) +contextual [h, h_dmc, h_erl, h_regs]

@[simp ↓] theorem kept_noteRead {a n : Nat} (h : Kept F s0 s) (h_dmc : F .dmc = true := by assumption)
    (h_erl : F .erl = true := by assumption) (h_regs : F .regs = true := by assumption) :
    Kept F s0 (State.noteRead s a n) := by
  unfold State.noteRead
  simp (maxDischargeDepth := 60) +contextual [h, h_dmc, h_erl, h_regs]

@[simp ↓] theorem kept_hbmUnwrap {a : Nat} (h : Kept F s0 s) (h_dmc : F .dmc = true := by assumption)
    (h_hbmBad : F .hbmBad = true := by assumption) :
    Kept F s0 (State.hbmUnwrap s a) := by
  unfold State.hbmUnwrap
  extract_lets pc pa base bad
  have hb : twf (fun _ => 0) s.hbmBad = true → twf (fun _ => 0) bad = true :=
    twf_foldl (f := fun i => base + i) (v := fun _ => 1) _
  clear_value bad
  split
  · refine h.mem rfl rfl (fun p hp => by cases p <;> first | rfl | simp_all) fun w => ?_
    have := (memory_wf_iff s).mp w
    exact (memory_wf_iff _).mpr ⟨this.1, this.2.1, hb this.2.2.1, this.2.2.2⟩
  · exact h

@[simp ↓] theorem kept_hbmPut {a : Nat} {b : Byte} {bad : Bool} (h : Kept F s0 s)
    (h_dmc : F .dmc = true := by assumption) (h_hbm : F .hbm = true := by assumption)
    (h_hbmBad : F .hbmBad = true := by assumption) :
    Kept F s0 (State.hbmPut s a b bad) := by
  unfold State.hbmPut
  split
  · have h := kept_hbmUnwrap (a := a) h
    dsimp only
    generalize s.hbmUnwrap a = t at h ⊢
    exact h.mem rfl rfl (fun p hp => by cases p <;> first | rfl | simp_all) fun w => by
      have := (memory_wf_iff t).mp w
      exact (memory_wf_iff _).mpr ⟨this.1, twf_tset_const _ _ this.2.1, twf_tset_const _ _ this.2.2.1, this.2.2.2⟩
  · exact h

@[simp ↓] theorem kept_hbmPuts {bad : Bool} {a : Nat} {bs : List Byte} (h : Kept F s0 s)
    (h_dmc : F .dmc = true := by assumption) (h_hbm : F .hbm = true := by assumption)
    (h_hbmBad : F .hbmBad = true := by assumption) :
    Kept F s0 (State.hbmPuts s bad a bs) := by
  induction bs generalizing a s with
  | nil => exact h
  | cons b bs ih => exact ih (kept_hbmPut h)

@[simp ↓] theorem kept_suddenWaiting (h : Kept F s0 s) (h_dmc : F .dmc = true := by assumption)
    (h_erl : F .erl = true := by assumption) (h_regs : F .regs = true := by assumption) :
    Kept F s0 (State.suddenWaiting s) := by
  refine kept_each (fun s p h => ?_) h
  split
  · split
    · exact kept_suddenMove h
    · exact h
  · exact h

@[simp ↓] theorem kept_cleanMark {a n : Nat} (h : Kept F s0 s) (h_dmc : F .dmc = true := by assumption)
    (h_erl : F .erl = true := by assumption) (h_regs : F .regs = true := by assumption) :
    Kept F s0 (State.cleanMark s a n) := by
  unfold State.cleanMark
  simp (maxDischargeDepth := 60) +contextual [h, h_dmc, h_erl, h_regs]

@[simp ↓] theorem kept_noteWrite {line a n : Nat} {bad : Bool} (h : Kept F s0 s)
    (h_dmc : F .dmc = true := by assumption) (h_erl : F .erl = true := by assumption)
    (h_regs : F .regs = true := by assumption) :
    Kept F s0 (State.noteWrite s line a n bad) := by
  unfold State.noteWrite
  simp (maxDischargeDepth := 60) +contextual [h, h_dmc, h_erl, h_regs]

@[simp ↓] theorem kept_hbmWrite {a : Nat} {bs : List Byte} {bad : optParam Bool false} (h : Kept F s0 s)
    (h_dmc : F .dmc = true := by assumption) (h_erl : F .erl = true := by assumption)
    (h_hbm : F .hbm = true := by assumption) (h_hbmBad : F .hbmBad = true := by assumption)
    (h_regs : F .regs = true := by assumption) :
    Kept F s0 (State.hbmWrite s a bs bad) := by
  unfold State.hbmWrite
  simp (maxDischargeDepth := 60) +contextual [h, h_dmc, h_erl, h_hbm, h_hbmBad, h_regs]

@[simp ↓] theorem kept_setSlot {e p : Nat} {x : SlotSt} (h : Kept F s0 s) (h_fch : F .fch = true := by assumption) :
    Kept F s0 (State.setSlot s e p x) := by
  unfold State.setSlot
  simp (maxDischargeDepth := 60) +contextual [h, h_fch]

@[simp ↓] theorem kept_modSlot {e p : Nat} {f : SlotSt → SlotSt} (h : Kept F s0 s)
    (h_fch : F .fch = true := by assumption) :
    Kept F s0 (State.modSlot s e p f) := by
  unfold State.modSlot
  simp (maxDischargeDepth := 60) +contextual [h, h_fch]

@[simp ↓] theorem kept_swapCheck {e : Nat} (h : Kept F s0 s) (h_fch : F .fch = true := by assumption)
    (h_regs : F .regs = true := by assumption) :
    Kept F s0 (State.swapCheck s e) := by
  unfold State.swapCheck
  simp (maxDischargeDepth := 60) +contextual [h, h_fch, h_regs]

@[simp ↓] theorem kept_emitFrame {e p : Nat} {f : ChanFrame} (h : Kept F s0 s)
    (h_fch : F .fch = true := by assumption) (h_regs : F .regs = true := by assumption) :
    Kept F s0 (State.emitFrame s e p f) := by
  unfold State.emitFrame
  simp (maxDischargeDepth := 60) +contextual [h, h_fch, h_regs]

@[simp ↓] theorem kept_feed {e p : Nat} {xs : List Smp} (h : Kept F s0 s) (h_fch : F .fch = true := by assumption)
    (h_regs : F .regs = true := by assumption) :
    Kept F s0 (State.feed s e p xs) := by
  unfold State.feed
  simp (maxDischargeDepth := 60) +contextual [h, h_fch, h_regs]

@[simp ↓] theorem kept_slotStart {e p : Nat} (h : Kept F s0 s) (h_fch : F .fch = true := by assumption) :
    Kept F s0 (State.slotStart s e p) := by
  unfold State.slotStart
  simp (maxDischargeDepth := 60) +contextual [h, h_fch]

@[simp ↓] theorem kept_slotRejoin {e p q i : Nat} (h : Kept F s0 s) (h_erl : F .erl = true := by assumption)
    (h_fch : F .fch = true := by assumption) (h_regs : F .regs = true := by assumption) :
    Kept F s0 (State.slotRejoin s e p q i) := by
  unfold State.slotRejoin
  simp (maxDischargeDepth := 60) +contextual [h, h_erl, h_fch, h_regs]

@[simp ↓] theorem kept_accept {e p : Nat} {xs : List Smp} (h : Kept F s0 s) (h_fch : F .fch = true := by assumption)
    (h_regs : F .regs = true := by assumption) :
    Kept F s0 (State.accept s e p xs) := by
  unfold State.accept
  simp (maxDischargeDepth := 60) +contextual [h, h_fch, h_regs]

@[simp ↓] theorem kept_slotTake {e p a : Nat} {xs : List Smp} (h : Kept F s0 s)
    (h_erl : F .erl = true := by assumption) (h_fch : F .fch = true := by assumption)
    (h_regs : F .regs = true := by assumption) :
    Kept F s0 (State.slotTake s e p a xs) := by
  unfold State.slotTake
  simp (maxDischargeDepth := 60) +contextual [h, h_erl, h_fch, h_regs]

@[simp ↓] theorem kept_toSlot {lane : Nat} {h' : IngestHdr} {xs : List (Int × Int)} {e p : Nat} (h : Kept F s0 s)
    (h_erl : F .erl = true := by assumption) (h_fch : F .fch = true := by assumption)
    (h_fresh : F .fresh = true := by assumption) (h_regs : F .regs = true := by assumption) :
    Kept F s0 (State.toSlot s lane h' xs e p) := by
  unfold State.toSlot
  simp (maxDischargeDepth := 60) +contextual [h, h_erl, h_fch, h_fresh, h_regs]

@[simp ↓] theorem kept_deframe {lane : Nat} {f : List Byte} (h : Kept F s0 s) (h_erl : F .erl = true := by assumption)
    (h_fch : F .fch = true := by assumption) (h_fresh : F .fresh = true := by assumption)
    (h_regs : F .regs = true := by assumption) :
    Kept F s0 (State.deframe s lane f) := by
  have hp : ∀ s p, Kept F s0 s → Kept F s0 (match s.slotsOf lane ((ingestHdr f).firstPath + p) with
      | [] => s.inc (LN_DFUNMAP lane)
      | eps => s.each eps fun s ep => s.toSlot lane (ingestHdr f) (pathSamples (ingestHdr f) f p) ep.1 ep.2) := by
    intro s p h
    split <;> simp (maxDischargeDepth := 60) +contextual [h, h_erl, h_fch, h_fresh, h_regs]
  unfold State.deframe
  split
  · simp [h, h_erl, h_fch, h_fresh, h_regs]
  · split
    · simp [h, h_erl, h_fch, h_fresh, h_regs]
    · simp only []
      split
      · simp [h, h_erl, h_fch, h_fresh, h_regs]
      · exact kept_each hp (kept_inc h)

@[simp ↓] theorem kept_slotActivate {e p : Nat} (h : Kept F s0 s) (h_fch : F .fch = true := by assumption) :
    Kept F s0 (State.slotActivate s e p) := by
  unfold State.slotActivate
  simp (maxDischargeDepth := 60) +contextual [h, h_fch]

@[simp ↓] theorem kept_fchEnable {e : Nat} (h : Kept F s0 s) (h_fch : F .fch = true := by assumption)
    (h_regs : F .regs = true := by assumption) :
    Kept F s0 (State.fchEnable s e) := by
  unfold State.fchEnable
  simp (maxDischargeDepth := 60) +contextual [h, h_fch, h_regs]

@[simp ↓] theorem kept_fchSlotEnable {e p : Nat} (h : Kept F s0 s) (h_fch : F .fch = true := by assumption)
    (h_regs : F .regs = true := by assumption) :
    Kept F s0 (State.fchSlotEnable s e p) := by
  unfold State.fchSlotEnable
  simp (maxDischargeDepth := 60) +contextual [h, h_fch, h_regs]

@[simp ↓] theorem kept_fchSlotDisable {e p : Nat} (h : Kept F s0 s) (h_fch : F .fch = true := by assumption)
    (h_regs : F .regs = true := by assumption) :
    Kept F s0 (State.fchSlotDisable s e p) := by
  unfold State.fchSlotDisable
  simp (maxDischargeDepth := 60) +contextual [h, h_fch, h_regs]

@[simp ↓] theorem kept_fchDisable {e : Nat} (h : Kept F s0 s) (h_fch : F .fch = true := by assumption)
    (h_regs : F .regs = true := by assumption) :
    Kept F s0 (State.fchDisable s e) := by
  unfold State.fchDisable
  simp (maxDischargeDepth := 60) +contextual [h, h_fch, h_regs]

@[simp ↓] theorem kept_gaddrNext {e : Nat} (h : Kept F s0 s) (h_regs : F .regs = true := by assumption) :
    Kept F s0 (State.gaddrNext s e) := by
  unfold State.gaddrNext
  simp (maxDischargeDepth := 60) +contextual [h, h_regs]

@[simp ↓] theorem kept_gdataWrite {init e : Nat} {v : BitVec 32} (h : Kept F s0 s)
    (h_erl : F .erl = true := by assumption) (h_fch : F .fch = true := by assumption)
    (h_gain : F .gain = true := by assumption) (h_regs : F .regs = true := by assumption) :
    Kept F s0 (State.gdataWrite s init e v) := by
  unfold State.gdataWrite
  split
  · simp [h, h_erl, h_fch, h_gain, h_regs]
  · refine kept_gaddrNext (h.mem rfl rfl (fun p hp => by cases p <;> first | rfl | simp_all) fun w => ?_)
    have := (memory_wf_iff s).mp w
    exact (memory_wf_iff _).mpr ⟨this.1, this.2.1, this.2.2.1, this.2.2.2.1, this.2.2.2.2.1, this.2.2.2.2.2.1,
      twf_tset_const _ _ this.2.2.2.2.2.2⟩

@[simp ↓] theorem kept_gswapArm {init e : Nat} {v : BitVec 32} (h : Kept F s0 s)
    (h_erl : F .erl = true := by assumption) (h_fch : F .fch = true := by assumption)
    (h_regs : F .regs = true := by assumption) :
    Kept F s0 (State.gswapArm s init e v) := by
  unfold State.gswapArm
  simp (maxDischargeDepth := 60) +contextual [h, h_erl, h_fch, h_regs]

@[simp ↓] theorem kept_gswapLow {init e : Nat} {v : BitVec 32} (h : Kept F s0 s)
    (h_erl : F .erl = true := by assumption) (h_regs : F .regs = true := by assumption) :
    Kept F s0 (State.gswapLow s init e v) := by
  unfold State.gswapLow
  simp (maxDischargeDepth := 60) +contextual [h, h_erl, h_regs]

@[simp ↓] theorem kept_engineSync {e : Nat} (h : Kept F s0 s) (h_fch : F .fch = true := by assumption)
    (h_img : F .img = true := by assumption) (h_regs : F .regs = true := by assumption) :
    Kept F s0 (State.engineSync s e) := by
  unfold State.engineSync
  simp (maxDischargeDepth := 60) +contextual [h, h_fch, h_img, h_regs]

@[simp ↓] theorem kept_fchEnterRun (h : Kept F s0 s) (h_fch : F .fch = true := by assumption) :
    Kept F s0 (State.fchEnterRun s) := by
  unfold State.fchEnterRun
  simp (maxDischargeDepth := 60) +contextual [h, h_fch]

@[simp ↓] theorem kept_slotContam {e p : Nat} (h : Kept F s0 s) (h_fch : F .fch = true := by assumption) :
    Kept F s0 (State.slotContam s e p) := by
  unfold State.slotContam
  simp (maxDischargeDepth := 60) +contextual [h, h_fch]

@[simp ↓] theorem kept_noRoute {dest : Nat} {down : Bool} (h : Kept F s0 s)
    (h_regs : F .regs = true := by assumption) :
    Kept F s0 (State.noRoute s dest down) := by
  unfold State.noRoute
  simp (maxDischargeDepth := 60) +contextual [h, h_regs]

@[simp ↓] theorem kept_bumpSeq {dest vc : Nat} (h : Kept F s0 s) (h_fab : F .fab = true := by assumption) :
    Kept F s0 (State.bumpSeq s dest vc) := by
  unfold State.bumpSeq
  simp (maxDischargeDepth := 60) +contextual [h, h_fab]

@[simp ↓] theorem kept_originate {ty dest flow : Nat} {ts : Bool} {payload : List Byte} (h : Kept F s0 s)
    (h_fab : F .fab = true := by assumption) (h_regs : F .regs = true := by assumption) :
    Kept F s0 (State.originate s ty dest flow ts payload) := by
  unfold State.originate
  simp (maxDischargeDepth := 60) +contextual [h, h_fab, h_regs]
  repeat' split
  all_goals simp_all (maxDischargeDepth := 60) +contextual

@[simp ↓] theorem kept_originateOn {l ty dest : Nat} {payload : List Byte} (h : Kept F s0 s)
    (h_fab : F .fab = true := by assumption) :
    Kept F s0 (State.originateOn s l ty dest payload) := by
  unfold State.originateOn
  simp (maxDischargeDepth := 60) +contextual [h, h_fab]

@[simp ↓] theorem kept_linkLocal {l ty : Nat} {payload : List Byte} (h : Kept F s0 s)
    (h_fab : F .fab = true := by assumption) :
    Kept F s0 (State.linkLocal s l ty payload) := by
  unfold State.linkLocal
  simp (maxDischargeDepth := 60) +contextual [h, h_fab]

@[simp ↓] theorem kept_setTrack {i tb : Nat} {t : Track} (h : Kept F s0 s)
    (h_hull : F .hull = true := by assumption) :
    Kept F s0 (State.setTrack s i tb t) := by
  unfold State.setTrack
  simp (maxDischargeDepth := 60) +contextual [h, h_hull]

@[simp ↓] theorem kept_runWrite {i j gl first : Nat} {bytes : List Byte} {contam : Bool} (h : Kept F s0 s)
    (h_dmc : F .dmc = true := by assumption) (h_erl : F .erl = true := by assumption)
    (h_hbm : F .hbm = true := by assumption) (h_hbmBad : F .hbmBad = true := by assumption)
    (h_hull : F .hull = true := by assumption) (h_regs : F .regs = true := by assumption) :
    Kept F s0 (State.runWrite s i j gl first bytes contam) := by
  unfold State.runWrite
  simp (maxDischargeDepth := 60) +contextual [h, h_dmc, h_erl, h_hbm, h_hbmBad, h_hull, h_regs]

@[simp ↓] theorem kept_learnPaths {i first count : Nat} (h : Kept F s0 s) (h_hull : F .hull = true := by assumption) :
    Kept F s0 (State.learnPaths s i first count) := by
  unfold State.learnPaths
  simp (maxDischargeDepth := 60) +contextual [h, h_hull]

@[simp ↓] theorem kept_rxBad (h : Kept F s0 s) (h_regs : F .regs = true := by assumption) :
    Kept F s0 (State.rxBad s) := by
  unfold State.rxBad
  simp (maxDischargeDepth := 60) +contextual [h, h_regs]

@[simp ↓] theorem kept_writerCheck {node eng first count g0 gn tag : Nat} (h : Kept F s0 s)
    (h_regs : F .regs = true := by assumption) :
    Kept F s0 (State.writerCheck s node eng first count g0 gn tag).1 := by
  unfold State.writerCheck
  repeat' split
  all_goals simp (maxDischargeDepth := 60) +contextual [h, h_regs]

@[simp ↓] theorem kept_takeData {f : Inbound} (h : Kept F s0 s) (h_dmc : F .dmc = true := by assumption)
    (h_erl : F .erl = true := by assumption) (h_hbm : F .hbm = true := by assumption)
    (h_hbmBad : F .hbmBad = true := by assumption) (h_hull : F .hull = true := by assumption)
    (h_regs : F .regs = true := by assumption) :
    Kept F s0 (State.takeData s f) := by
  unfold State.takeData
  simp only []
  split
  · simp [h, h_dmc, h_erl, h_hbm, h_hbmBad, h_hull, h_regs]
  · split
    · simp [h, h_dmc, h_erl, h_hbm, h_hbmBad, h_hull, h_regs]
    · split <;> rename_i hq <;> have h := kept_fst hq (kept_writerCheck h) <;>
        simp (maxDischargeDepth := 60) +contextual [h, h_dmc, h_erl, h_hbm, h_hbmBad, h_hull, h_regs]

@[simp ↓] theorem kept_localRuns {e : Nat} {f : EngFrame} {data : List (List (Int × Int))} {gs : List Nat}
    {contam : Bool} (h : Kept F s0 s) (h_dmc : F .dmc = true := by assumption)
    (h_erl : F .erl = true := by assumption) (h_hbm : F .hbm = true := by assumption)
    (h_hbmBad : F .hbmBad = true := by assumption) (h_hull : F .hull = true := by assumption)
    (h_regs : F .regs = true := by assumption) :
    Kept F s0 (State.localRuns s e f data gs contam) := by
  unfold State.localRuns
  dsimp only
  split
  · split <;> simp (maxDischargeDepth := 60) [h, h_regs]
  · split <;> rename_i hq <;> have h := kept_fst hq (kept_writerCheck h)
    · exact h
    · simp (maxDischargeDepth := 60) +contextual [h, h_dmc, h_erl, h_hbm, h_hbmBad, h_hull, h_regs]

@[simp ↓] theorem kept_localIndex {j : Nat} (h : Kept F s0 s) (h_hull : F .hull = true := by assumption) :
    Kept F s0 (State.localIndex s j) := by
  unfold State.localIndex
  simp (maxDischargeDepth := 60) +contextual [h, h_hull]

theorem twf_putBytes {t : Tbl Byte} {a : Nat} {bs : List Byte} (h : twf (fun _ => 0) t = true) :
    twf (fun _ => 0) (putBytes t a bs) = true := by
  unfold putBytes
  exact twf_foldl _ h

theorem twf_placeRuns {a : Nat} {fs : List (HeldData × List Byte)} {t : Tbl Byte} (h : twf (fun _ => 0) t = true) :
    twf (fun _ => 0) (placeRuns a fs t).2 = true := by
  induction fs generalizing a t with
  | nil => exact h
  | cons f fs ih => exact ih (twf_putBytes h)

@[simp ↓] theorem kept_holdFrame {e j : Nat} {fs : List (HeldData × List Byte)} (h : Kept F s0 s)
    (h_egress : F .egress = true := by assumption) (h_hull : F .hull = true := by assumption)
    (h_mtx : F .mtx = true := by assumption) (h_regs : F .regs = true := by assumption) :
    Kept F s0 (State.holdFrame s e j fs) := by
  unfold State.holdFrame
  extract_lets q
  have hd : Kept F s0 (match q with
      | a :: b :: c :: d :: t =>
        let n := (a.frames.map HeldData.runs).foldl (· + ·) 0
        if 0 < n then (((s.incBy HULL_TXDROP n).pmc 247 n).fset HULL_STATUS_TxDrop 1, b :: c :: d :: t)
        else (s, b :: c :: d :: t)
      | q => (s, q) : State × List HeldFrame).1 := by
    rcases q with _ | ⟨_, _ | ⟨_, _ | ⟨_, _ | ⟨_, _⟩⟩⟩⟩ <;> dsimp only <;> try exact h
    split <;> simp (maxDischargeDepth := 60) [h, h_egress, h_hull, h_mtx, h_regs]
  split
  next t q' e =>
    have ht : Kept F s0 t := kept_fst e hd
    refine Kept.mem (s := t) ht rfl rfl (fun p hp => by cases p <;> first | rfl | simp_all) fun w => ?_
    have := (memory_wf_iff t).mp w
    exact (memory_wf_iff _).mpr ⟨this.1, this.2.1, this.2.2.1, this.2.2.2.1, this.2.2.2.2.1,
      twf_placeRuns this.2.2.2.2.2.1, this.2.2.2.2.2.2⟩

@[simp ↓] theorem kept_frameToHull {e : Nat} {f : EngFrame} (h : Kept F s0 s) (h_dmc : F .dmc = true := by assumption)
    (h_egress : F .egress = true := by assumption) (h_erl : F .erl = true := by assumption)
    (h_hbm : F .hbm = true := by assumption) (h_hbmBad : F .hbmBad = true := by assumption)
    (h_hull : F .hull = true := by assumption) (h_mtx : F .mtx = true := by assumption)
    (h_regs : F .regs = true := by assumption) :
    Kept F s0 (State.frameToHull s e f) := by
  unfold State.frameToHull
  split
  · exact h
  · refine kept_holdFrame (kept_foldl (fun a : State × List (HeldData × List Byte) => a.1) ?_ (by simp [h, h_dmc,
      h_egress, h_erl, h_hbm, h_hbmBad, h_hull, h_mtx, h_regs]))
    intro b x hb
    simp only []
    repeat' split
    all_goals simp [hb, h_dmc, h_egress, h_erl, h_hbm, h_hbmBad, h_hull, h_mtx, h_regs]

@[simp ↓] theorem kept_hullEnable (h : Kept F s0 s) (h_regs : F .regs = true := by assumption) :
    Kept F s0 (State.hullEnable s) := by
  unfold State.hullEnable
  simp (maxDischargeDepth := 60) +contextual [h, h_regs]

@[simp ↓] theorem kept_hullDisable (h : Kept F s0 s) (h_regs : F .regs = true := by assumption) :
    Kept F s0 (State.hullDisable s) := by
  unfold State.hullDisable
  simp (maxDischargeDepth := 60) +contextual [h, h_regs]

@[simp ↓] theorem kept_presentedDrop {st : Nat} (h : Kept F s0 s) (h_array : F .array = true := by assumption) :
    Kept F s0 (State.presentedDrop s st) := by
  unfold State.presentedDrop
  simp (maxDischargeDepth := 60) +contextual [h, h_array]

@[simp ↓] theorem kept_streamEnable {st : Nat} (h : Kept F s0 s)
    (h_array : F .array = true := by assumption) (h_hull : F .hull = true := by assumption)
    (h_regs : F .regs = true := by assumption) :
    Kept F s0 (State.streamEnable s st) := by
  unfold State.streamEnable
  simp (maxDischargeDepth := 60) +contextual [h, h_array, h_hull, h_regs]

@[simp ↓] theorem kept_stagePuts {o : Nat} {bs : List Byte} (h : Kept F s0 s)
    (h_hull : F .hull = true := by assumption) (h_stage : F .stage = true := by assumption) :
    Kept F s0 (State.stagePuts s o bs) := by
  induction bs generalizing o s with
  | nil => exact h
  | cons b bs ih =>
    refine ih (h.mem rfl rfl (fun p hp => by cases p <;> first | rfl | simp_all) fun w => ?_)
    have := (memory_wf_iff s).mp w
    exact (memory_wf_iff _).mpr ⟨this.1, this.2.1, this.2.2.1, twf_tset_const _ _ this.2.2.2.1, this.2.2.2.2⟩

theorem kept_stageRow {pg : PassGroup} {a : StageAcc} {r : Nat} (h : Kept F s0 a.s)
    (h_dmc : F .dmc = true := by assumption) (h_erl : F .erl = true := by assumption)
    (h_hull : F .hull = true := by assumption) (h_regs : F .regs = true := by assumption)
    (h_stage : F .stage = true := by assumption) : Kept F s0 (stageRow pg a r).s := by
  unfold stageRow
  refine kept_foldl StageAcc.s (fun b x hb => ?_) (kept_stagePuts (kept_noteRead h))
  unfold stageRun
  simp only []
  repeat' split
  all_goals first | exact hb | exact kept_stagePuts hb

@[simp ↓] theorem kept_stage {st : Nat} (h : Kept F s0 s) (h_dmc : F .dmc = true := by assumption)
    (h_erl : F .erl = true := by assumption) (h_hull : F .hull = true := by assumption)
    (h_regs : F .regs = true := by assumption) (h_stage : F .stage = true := by assumption) :
    Kept F s0 (State.stage s st) := by
  unfold State.stage
  have := kept_foldl StageAcc.s (f := stageRow ⟨st, (tget StreamSt.zero s.hull.stream st).g,
    (tget StreamSt.zero s.hull.stream st).win, (tget StreamSt.zero s.hull.stream st).half,
    (tget StreamSt.zero s.hull.stream st).seq, false, false, false, s.fget (HULL_SCTRL_ConsumerMask st)⟩)
    (l := List.range (s.streamT st)) (b := ⟨s, 0, true, false⟩) (fun b x hb => kept_stageRow hb) h
  simp (maxDischargeDepth := 60) [this, h_dmc, h_erl, h_hull, h_regs, h_stage]

@[simp ↓] theorem kept_releaseRing (h : Kept F s0 s) (h_hull : F .hull = true := by assumption) :
    Kept F s0 (State.releaseRing s) := by
  unfold State.releaseRing
  simp (maxDischargeDepth := 60) +contextual [h, h_hull]

@[simp ↓] theorem kept_signalEnd {n st h' : Nat} (h : Kept F s0 s) (h_hull : F .hull = true := by assumption) :
    Kept F s0 (State.signalEnd s n st h') := by
  unfold State.signalEnd
  split <;> simp (maxDischargeDepth := 60) +contextual [h, h_hull]

@[simp ↓] theorem kept_nodeLost {n : Nat} (h : Kept F s0 s) (h_hull : F .hull = true := by assumption)
    (h_regs : F .regs = true := by assumption) :
    Kept F s0 (State.nodeLost s n) := by
  unfold State.nodeLost
  simp (maxDischargeDepth := 60) +contextual [h, h_hull, h_regs]

@[simp ↓] theorem kept_nodeBack {n : Nat} (h : Kept F s0 s) (h_hull : F .hull = true := by assumption) :
    Kept F s0 (State.nodeBack s n) := by
  unfold State.nodeBack
  split <;> simp (maxDischargeDepth := 60) +contextual [h, h_hull]

@[simp ↓] theorem kept_hullSync (h : Kept F s0 s) (h_hull : F .hull = true := by assumption) :
    Kept F s0 (State.hullSync s) := by
  unfold State.hullSync
  simp (maxDischargeDepth := 60) +contextual [h, h_hull]

@[simp ↓] theorem kept_hullEnterRun (h : Kept F s0 s) (h_hull : F .hull = true := by assumption) :
    Kept F s0 (State.hullEnterRun s) := by
  unfold State.hullEnterRun
  simp (maxDischargeDepth := 60) +contextual [h, h_hull]

@[simp ↓] theorem kept_syncApply (h : Kept F s0 s) (h_fch : F .fch = true := by assumption)
    (h_hull : F .hull = true := by assumption) (h_img : F .img = true := by assumption)
    (h_regs : F .regs = true := by assumption) :
    Kept F s0 (State.syncApply s) := by
  unfold State.syncApply
  simp (maxDischargeDepth := 60) +contextual [h, h_fch, h_hull, h_img, h_regs]
  repeat' split
  all_goals simp_all (maxDischargeDepth := 60) +contextual

@[simp ↓] theorem kept_stampTx {l id : Nat} (h : Kept F s0 s) (h_fresh : F .fresh = true := by assumption)
    (h_regs : F .regs = true := by assumption) (h_tim : F .tim = true := by assumption) :
    Kept F s0 (State.stampTx s l id) := by
  unfold State.stampTx
  simp (maxDischargeDepth := 60) +contextual [h, h_fresh, h_regs, h_tim]

@[simp ↓] theorem kept_addSpan {lo hi cause : Nat} (h : Kept F s0 s) (h_erl : F .erl = true := by assumption)
    (h_regs : F .regs = true := by assumption) :
    Kept F s0 (State.addSpan s lo hi cause) := by
  unfold State.addSpan
  simp (maxDischargeDepth := 60) +contextual [h, h_erl, h_regs]

@[simp ↓] theorem kept_reportLost {c cause lo hi : Nat} (h : Kept F s0 s) (h_erl : F .erl = true := by assumption)
    (h_regs : F .regs = true := by assumption) :
    Kept F s0 (State.reportLost s c cause lo hi) := by
  unfold State.reportLost
  simp (maxDischargeDepth := 60) +contextual [h, h_erl, h_regs]

@[simp ↓] theorem kept_addAcc {i n : Nat} (h : Kept F s0 s) (h_erl : F .erl = true := by assumption) :
    Kept F s0 (State.addAcc s i n) := by
  unfold State.addAcc
  simp (maxDischargeDepth := 60) +contextual [h, h_erl]

@[simp ↓] theorem kept_addLoss {cause n : Nat} (h : Kept F s0 s) (h_erl : F .erl = true := by assumption) :
    Kept F s0 (State.addLoss s cause n) := by
  unfold State.addLoss
  simp (maxDischargeDepth := 60) +contextual [h, h_erl]

@[simp ↓] theorem kept_retireSpans (h : Kept F s0 s) (h_erl : F .erl = true := by assumption) :
    Kept F s0 (State.retireSpans s) := by
  unfold State.retireSpans
  simp (maxDischargeDepth := 60) +contextual [h, h_erl]

@[simp ↓] theorem kept_lineRead {l : Nat} {a1 : LineBlock} (h : Kept F s0 s) (h_ln : F .ln = true := by assumption) :
    Kept F s0 (State.lineRead s l a1) := by
  unfold State.lineRead
  split <;> simp (maxDischargeDepth := 60) +contextual [h, h_ln]

@[simp ↓] theorem kept_fecSend {p : Nat} {b : List LineBlock} (h : Kept F s0 s) (h_ln : F .ln = true := by assumption) :
    Kept F s0 (State.fecSend s p b).1 := by
  unfold State.fecSend
  repeat' split
  all_goals simp (maxDischargeDepth := 60) +contextual [h, h_ln]

@[simp ↓] theorem kept_onLine {p : Nat} {native legacy : List (Nat × List Byte)} (h : Kept F s0 s)
    (h_ln : F .ln = true := by assumption) :
    Kept F s0 (State.onLine s p native legacy).1 := by
  unfold State.onLine
  split <;> simp (maxDischargeDepth := 60) +contextual [h, h_ln]

@[simp ↓] theorem kept_sendCommaOn {p : Nat} {block : List Byte} (h : Kept F s0 s)
    (h_ln : F .ln = true := by assumption) (h_wireOut : F .wireOut = true := by assumption) :
    Kept F s0 (State.sendCommaOn s p block) := by
  unfold State.sendCommaOn
  simp (maxDischargeDepth := 60) +contextual [h, h_ln, h_wireOut]

@[simp ↓] theorem kept_sendFrame {p : Nat} {f : List Byte} {bad : Bool} (h : Kept F s0 s)
    (h_ln : F .ln = true := by assumption) (h_wireOut : F .wireOut = true := by assumption) :
    Kept F s0 (State.sendFrame s p f bad) := by
  unfold State.sendFrame
  simp (maxDischargeDepth := 60) +contextual [h, h_ln, h_wireOut]

@[simp ↓] theorem kept_sendLink {p : Nat} {msg : List Byte} (h : Kept F s0 s) (h_ln : F .ln = true := by assumption)
    (h_wireOut : F .wireOut = true := by assumption) :
    Kept F s0 (State.sendLink s p msg) := by
  unfold State.sendLink
  simp (maxDischargeDepth := 60) +contextual [h, h_ln, h_wireOut]

end Sys2Proof.Machine
end

