-- ==== Sys2Proof/Laws/KeptPods.lean ====
section
/-! SUPPORT. The operations of the pods and the contexts leave the queue and the power block alone and keep the stores canonical:
one lemma per operation. -/

set_option Elab.async false
set_option linter.unusedSimpArgs false

namespace Sys2Proof.Machine

variable {F : Part → Bool} {s0 s : State}

@[simp ↓] theorem kept_setPod {p : Nat} {x : PodSt} (h : Kept F s0 s) (h_array : F .array = true := by assumption) :
    Kept F s0 (State.setPod s p x) := by
  unfold State.setPod
  simp (maxDischargeDepth := 60) +contextual [h, h_array]

@[simp ↓] theorem kept_modPod {p : Nat} {f : PodSt → PodSt} (h : Kept F s0 s)
    (h_array : F .array = true := by assumption) :
    Kept F s0 (State.modPod s p f) := by
  unfold State.modPod
  simp (maxDischargeDepth := 60) +contextual [h, h_array]

@[simp ↓] theorem kept_setPresented {n st : Nat} {v : Option Presented} (h : Kept F s0 s)
    (h_array : F .array = true := by assumption) :
    Kept F s0 (State.setPresented s n st v) := by
  unfold State.setPresented
  simp (maxDischargeDepth := 60) +contextual [h, h_array]

@[simp ↓] theorem kept_podClock {p n : Nat} (h : Kept F s0 s) (h_array : F .array = true := by assumption) :
    Kept F s0 (State.podClock s p n) := by
  unfold State.podClock
  simp (maxDischargeDepth := 60) +contextual [h, h_array]

@[simp ↓] theorem kept_pipChosen {p op pc : Nat} {trigger : Bool} (h : Kept F s0 s)
    (h_array : F .array = true := by assumption) (h_regs : F .regs = true := by assumption) :
    Kept F s0 (State.pipChosen s p op pc trigger) := by
  unfold State.pipChosen
  simp (maxDischargeDepth := 60) +contextual [h, h_array, h_regs]

@[simp ↓] theorem kept_pipIssue {p op pc : Nat} (h : Kept F s0 s) (h_array : F .array = true := by assumption)
    (h_regs : F .regs = true := by assumption) :
    Kept F s0 (State.pipIssue s p op pc) := by
  unfold State.pipIssue
  simp (maxDischargeDepth := 60) +contextual [h, h_array, h_regs]

@[simp ↓] theorem kept_pipRetire {p : Nat} {exact : Option Nat} {aborted : Bool} (h : Kept F s0 s)
    (h_array : F .array = true := by assumption) (h_fresh : F .fresh = true := by assumption) :
    Kept F s0 (State.pipRetire s p exact aborted) := by
  unfold State.pipRetire
  repeat' split
  all_goals simp (maxDischargeDepth := 60) +contextual [h, h_array, h_fresh]

@[simp ↓] theorem kept_pipWait {p op n : Nat} {last : Option Nat} (h : Kept F s0 s) (h_array : F .array = true := by assumption) :
    Kept F s0 (State.pipWait s p op n last) := by
  unfold State.pipWait
  repeat' split
  all_goals simp (maxDischargeDepth := 60) +contextual [h, h_array]

@[simp ↓] theorem kept_pipVoid {p : Nat} (h : Kept F s0 s) (h_array : F .array = true := by assumption) :
    Kept F s0 (State.pipVoid s p) := by
  unfold State.pipVoid
  repeat' split
  all_goals simp (maxDischargeDepth := 60) +contextual [h, h_array]

@[simp ↓] theorem kept_pipDone {p op : Nat} (h : Kept F s0 s) (h_array : F .array = true := by assumption)
    (h_fresh : F .fresh = true := by assumption) :
    Kept F s0 (State.pipDone s p op) := by
  unfold State.pipDone
  split <;> simp (maxDischargeDepth := 60) +contextual [h, h_array, h_fresh]

@[simp ↓] theorem kept_stallFor {p cause n : Nat} (h : Kept F s0 s) (h_array : F .array = true := by assumption) (h_regs : F .regs = true := by assumption) :
    Kept F s0 (State.stallFor s p cause n) := by
  unfold State.stallFor
  simp (maxDischargeDepth := 60) +contextual [h, h_array, h_regs]
  repeat' split
  all_goals simp_all (maxDischargeDepth := 60) +contextual

@[simp ↓] theorem kept_stall {p cause : Nat} (h : Kept F s0 s) (h_array : F .array = true := by assumption) (h_regs : F .regs = true := by assumption) :
    Kept F s0 (State.stall s p cause) := by
  unfold State.stall
  simp (maxDischargeDepth := 60) +contextual [h, h_array, h_regs]

@[simp ↓] theorem kept_stallTick {n p : Nat} (h : Kept F s0 s) (h_array : F .array = true := by assumption) (h_regs : F .regs = true := by assumption) :
    Kept F s0 (State.stallTick s n p) := by
  unfold State.stallTick
  simp (maxDischargeDepth := 60) +contextual [h, h_array, h_regs]
  repeat' split
  all_goals simp_all (maxDischargeDepth := 60) +contextual

@[simp ↓] theorem kept_podBegin {p : Nat} (h : Kept F s0 s) (h_array : F .array = true := by assumption)
    (h_regs : F .regs = true := by assumption) :
    Kept F s0 (State.podBegin s p) := by
  unfold State.podBegin
  simp (maxDischargeDepth := 60) +contextual [h, h_array, h_regs]

@[simp ↓] theorem kept_podSettle {p : Nat} (h : Kept F s0 s) (h_array : F .array = true := by assumption)
    (h_regs : F .regs = true := by assumption) :
    Kept F s0 (State.podSettle s p) := by
  unfold State.podSettle
  simp (maxDischargeDepth := 60) +contextual [h, h_array, h_regs]

@[simp ↓] theorem kept_leavePorts {p : Nat} (h : Kept F s0 s) (h_array : F .array = true := by assumption) :
    Kept F s0 (State.leavePorts s p) := by
  unfold State.leavePorts
  simp (maxDischargeDepth := 60) +contextual [h, h_array]

@[simp ↓] theorem kept_podEnd {p : Nat} (h : Kept F s0 s) (h_array : F .array = true := by assumption) (h_regs : F .regs = true := by assumption) :
    Kept F s0 (State.podEnd s p) := by
  unfold State.podEnd
  simp (maxDischargeDepth := 60) +contextual [h, h_array, h_regs]

@[simp ↓] theorem kept_podHalt {p : Nat} (h : Kept F s0 s) (h_array : F .array = true := by assumption) (h_fresh : F .fresh = true := by assumption) (h_regs : F .regs = true := by assumption) :
    Kept F s0 (State.podHalt s p) := by
  unfold State.podHalt
  simp (maxDischargeDepth := 60) +contextual [h, h_array, h_fresh, h_regs]

@[simp ↓] theorem kept_podStopCheck {p : Nat} (h : Kept F s0 s) (h_array : F .array = true := by assumption)
    (h_fresh : F .fresh = true := by assumption) (h_regs : F .regs = true := by assumption) :
    Kept F s0 (State.podStopCheck s p) := by
  unfold State.podStopCheck
  simp (maxDischargeDepth := 60) +contextual [h, h_array, h_fresh, h_regs]

@[simp ↓] theorem kept_podRunStop {p : Nat} (h : Kept F s0 s) (h_array : F .array = true := by assumption)
    (h_fresh : F .fresh = true := by assumption) (h_regs : F .regs = true := by assumption) :
    Kept F s0 (State.podRunStop s p) := by
  unfold State.podRunStop
  simp (maxDischargeDepth := 60) +contextual [h, h_array, h_fresh, h_regs]

@[simp ↓] theorem kept_podRunStart {p : Nat} (h : Kept F s0 s) (h_array : F .array = true := by assumption)
    (h_regs : F .regs = true := by assumption) :
    Kept F s0 (State.podRunStart s p) := by
  unfold State.podRunStart
  simp (maxDischargeDepth := 60) +contextual [h, h_array, h_regs]

@[simp ↓] theorem kept_setCtx {c : Nat} {x : CtxSt} (h : Kept F s0 s) (h_ctxs : F .ctxs = true := by assumption) :
    Kept F s0 (State.setCtx s c x) := by
  unfold State.setCtx
  simp (maxDischargeDepth := 60) +contextual [h, h_ctxs]

@[simp ↓] theorem kept_modCtx {c : Nat} {f : CtxSt → CtxSt} (h : Kept F s0 s)
    (h_ctxs : F .ctxs = true := by assumption) :
    Kept F s0 (State.modCtx s c f) := by
  unfold State.modCtx
  simp (maxDischargeDepth := 60) +contextual [h, h_ctxs]

@[simp ↓] theorem kept_topEmpty {o : Nat} (h : Kept F s0 s) (h_husk : F .husk = true := by assumption) :
    Kept F s0 (State.topEmpty s o) := by
  unfold State.topEmpty
  simp (maxDischargeDepth := 60) +contextual [h, h_husk]

@[simp ↓] theorem kept_watchDrop {o : Nat} (h : Kept F s0 s) (h_husk : F .husk = true := by assumption) :
    Kept F s0 (State.watchDrop s o) := by
  unfold State.watchDrop
  simp (maxDischargeDepth := 60) +contextual [h, h_husk]

@[simp ↓] theorem kept_chaffStale {c n : Nat} (h : Kept F s0 s) (h_husk : F .husk = true := by assumption) :
    Kept F s0 (State.chaffStale s c n) := by
  unfold State.chaffStale
  simp (maxDischargeDepth := 60) +contextual [h, h_husk]

@[simp ↓] theorem kept_watchersDrop {c : Nat} (h : Kept F s0 s) (h_husk : F .husk = true := by assumption) :
    Kept F s0 (State.watchersDrop s c) := by
  unfold State.watchersDrop
  simp (maxDischargeDepth := 60) +contextual [h, h_husk]

@[simp ↓] theorem kept_huskDiscard {c : Nat} (h : Kept F s0 s) (h_husk : F .husk = true := by assumption) :
    Kept F s0 (State.huskDiscard s c) := by
  unfold State.huskDiscard
  simp (maxDischargeDepth := 60) +contextual [h, h_husk]
  repeat' split
  all_goals simp_all (maxDischargeDepth := 60) +contextual

@[simp ↓] theorem kept_setCtxState {c st : Nat} (h : Kept F s0 s) (h_regs : F .regs = true := by assumption) :
    Kept F s0 (State.setCtxState s c st) := by
  unfold State.setCtxState
  simp (maxDischargeDepth := 60) +contextual [h, h_regs]

@[simp ↓] theorem kept_ctxStopped {c : Nat} (h : Kept F s0 s) (h_ctxs : F .ctxs = true := by assumption)
    (h_regs : F .regs = true := by assumption) :
    Kept F s0 (State.ctxStopped s c) := by
  unfold State.ctxStopped
  simp (maxDischargeDepth := 60) +contextual [h, h_ctxs, h_regs]

@[simp ↓] theorem kept_reportStop {c : Nat} (h : Kept F s0 s) (h_ctxs : F .ctxs = true := by assumption)
    (h_erl : F .erl = true := by assumption) (h_regs : F .regs = true := by assumption) :
    Kept F s0 (State.reportStop s c) := by
  unfold State.reportStop
  split <;> simp (maxDischargeDepth := 60) +contextual [h, h_ctxs, h_erl, h_regs]

@[simp ↓] theorem kept_reloadMark {c : Nat} (h : Kept F s0 s) (h_img : F .img = true := by assumption) :
    Kept F s0 (State.reloadMark s c) := by
  unfold State.reloadMark
  split <;> simp (maxDischargeDepth := 60) +contextual [h, h_img]

@[simp ↓] theorem kept_leadGone {c : Nat} (h : Kept F s0 s) (h_ctxs : F .ctxs = true := by assumption)
    (h_erl : F .erl = true := by assumption) (h_regs : F .regs = true := by assumption) :
    Kept F s0 (State.leadGone s c) := by
  unfold State.leadGone
  simp (maxDischargeDepth := 60) +contextual [h, h_ctxs, h_erl, h_regs]

@[simp ↓] theorem kept_ctxDisarm {c : Nat} (h : Kept F s0 s) (h_ctxs : F .ctxs = true := by assumption)
    (h_erl : F .erl = true := by assumption) (h_regs : F .regs = true := by assumption) :
    Kept F s0 (State.ctxDisarm s c) := by
  unfold State.ctxDisarm
  simp (maxDischargeDepth := 60) +contextual [h, h_ctxs, h_erl, h_regs]

@[simp ↓] theorem kept_reloadDrop {c : Nat} (h : Kept F s0 s) (h_ctxs : F .ctxs = true := by assumption)
    (h_img : F .img = true := by assumption) :
    Kept F s0 (State.reloadDrop s c) := by
  unfold State.reloadDrop
  split <;> simp (maxDischargeDepth := 60) +contextual [h, h_ctxs, h_img]

@[simp ↓] theorem kept_ctxFault {c cause : Nat} (h : Kept F s0 s) (h_array : F .array = true := by assumption)
    (h_ctxs : F .ctxs = true := by assumption) (h_erl : F .erl = true := by assumption)
    (h_fresh : F .fresh = true := by assumption) (h_husk : F .husk = true := by assumption)
    (h_img : F .img = true := by assumption) (h_regs : F .regs = true := by assumption) :
    Kept F s0 (State.ctxFault s c cause) := by
  unfold State.ctxFault
  simp (maxDischargeDepth := 60) +contextual [h, h_array, h_ctxs, h_erl, h_fresh, h_husk, h_img, h_regs]

@[simp ↓] theorem kept_podFaultEnter {p code : Nat} (h : Kept F s0 s) (h_array : F .array = true := by assumption) (h_erl : F .erl = true := by assumption) (h_fresh : F .fresh = true := by assumption) (h_regs : F .regs = true := by assumption) :
    Kept F s0 (State.podFaultEnter s p code) := by
  unfold State.podFaultEnter
  simp (maxDischargeDepth := 60) +contextual [h, h_array, h_erl, h_fresh, h_regs]

@[simp ↓] theorem kept_faultOwner {own : Option Nat} {code : Nat} (h : Kept F s0 s) (h_array : F .array = true := by assumption) (h_ctxs : F .ctxs = true := by assumption) (h_erl : F .erl = true := by assumption) (h_fresh : F .fresh = true := by assumption) (h_husk : F .husk = true := by assumption) (h_img : F .img = true := by assumption) (h_regs : F .regs = true := by assumption) :
    Kept F s0 (State.faultOwner s own code) := by
  unfold State.faultOwner
  repeat' split
  all_goals simp (maxDischargeDepth := 60) +contextual [h, h_array, h_ctxs, h_erl, h_fresh, h_husk, h_img, h_regs]

@[simp ↓] theorem kept_podFault {p code : Nat} (h : Kept F s0 s) (h_array : F .array = true := by assumption) (h_ctxs : F .ctxs = true := by assumption) (h_erl : F .erl = true := by assumption) (h_fresh : F .fresh = true := by assumption) (h_husk : F .husk = true := by assumption) (h_img : F .img = true := by assumption) (h_regs : F .regs = true := by assumption) :
    Kept F s0 (State.podFault s p code) := by
  unfold State.podFault
  simp (maxDischargeDepth := 60) +contextual [h, h_array, h_ctxs, h_erl, h_fresh, h_husk, h_img, h_regs]

@[simp ↓] theorem kept_ctxArm {c : Nat} {next : Bool} {loss : Option (Nat × Nat)} {restarted : Bool} (h : Kept F s0 s)
    (h_ctxs : F .ctxs = true := by assumption) (h_regs : F .regs = true := by assumption) :
    Kept F s0 (State.ctxArm s c next loss restarted) := by
  unfold State.ctxArm
  simp (maxDischargeDepth := 60) +contextual [h, h_ctxs, h_regs]

@[simp ↓] theorem kept_ctxStart {c : Nat} {next : Bool} (h : Kept F s0 s) (h_ctxs : F .ctxs = true := by assumption)
    (h_regs : F .regs = true := by assumption) :
    Kept F s0 (State.ctxStart s c next).1 := by
  unfold State.ctxStart
  simp (maxDischargeDepth := 60) +contextual [h, h_ctxs, h_regs]
  repeat' split
  all_goals simp_all (maxDischargeDepth := 60) +contextual

@[simp ↓] theorem kept_ctxLate {c : Nat} (h : Kept F s0 s) (h_ctxs : F .ctxs = true := by assumption)
    (h_erl : F .erl = true := by assumption) (h_regs : F .regs = true := by assumption) :
    Kept F s0 (State.ctxLate s c) := by
  unfold State.ctxLate
  simp (maxDischargeDepth := 60) +contextual [h, h_ctxs, h_erl, h_regs]

@[simp ↓] theorem kept_fixOne {c : Nat} (h : Kept F s0 s) (h_ctxs : F .ctxs = true := by assumption)
    (h_erl : F .erl = true := by assumption) (h_regs : F .regs = true := by assumption) :
    Kept F s0 (State.fixOne s c) := by
  unfold State.fixOne
  simp (maxDischargeDepth := 60) +contextual [h, h_ctxs, h_erl, h_regs]
  repeat' split
  all_goals simp_all (maxDischargeDepth := 60) +contextual

@[simp ↓] theorem kept_unfix {o kl : Nat} (h : Kept F s0 s) (h_ctxs : F .ctxs = true := by assumption) :
    Kept F s0 (State.unfix s o kl) := by
  unfold State.unfix
  simp (maxDischargeDepth := 60) +contextual [h, h_ctxs]

@[simp ↓] theorem kept_fixKeff {c : Nat} (h : Kept F s0 s) (h_ctxs : F .ctxs = true := by assumption)
    (h_erl : F .erl = true := by assumption) (h_regs : F .regs = true := by assumption) :
    Kept F s0 (State.fixKeff s c) := by
  unfold State.fixKeff
  simp (maxDischargeDepth := 60) +contextual [h, h_ctxs, h_erl, h_regs]

@[simp ↓] theorem kept_fillStore {p : Nat} {bytes : List Byte} (h : Kept F s0 s)
    (h_array : F .array = true := by assumption) (h_store : F .store = true := by assumption) :
    Kept F s0 (State.fillStore s p bytes) := by
  refine h.mem rfl rfl (fun p hp => by cases p <;> first | rfl | simp_all) fun w => ?_
  have hw := (memory_wf_iff s).mp w
  refine (memory_wf_iff _).mpr ⟨hw.1, hw.2.1, hw.2.2.1, hw.2.2.2.1, ?_, hw.2.2.2.2.2⟩
  have hs := hw.2.2.2.2.1
  show twf (fun _ => 0) (List.foldl (fun (t : Tbl Byte) (e : Nat × Byte) => tset 0 t (p * 2 ^ 20 + e.1) e.2)
      s.array.store _) = true
  generalize (List.range bytes.length).zip bytes = l
  generalize s.array.store = t at hs
  induction l generalizing t with
  | nil => exact hs
  | cons e l ih => exact ih _ (twf_tset_const _ _ hs)

@[simp ↓] theorem kept_fillDone {c : Nat} (h : Kept F s0 s) (h_array : F .array = true := by assumption)
    (h_ctxs : F .ctxs = true := by assumption) (h_dmc : F .dmc = true := by assumption)
    (h_erl : F .erl = true := by assumption) (h_regs : F .regs = true := by assumption)
    (h_store : F .store = true := by assumption) :
    Kept F s0 (State.fillDone s c) := by
  unfold State.fillDone
  simp (maxDischargeDepth := 60) +contextual [h, h_array, h_ctxs, h_dmc, h_erl, h_regs, h_store]

@[simp ↓] theorem kept_reportRestart {c k : Nat} (h : Kept F s0 s) (h_ctxs : F .ctxs = true := by assumption)
    (h_erl : F .erl = true := by assumption) (h_regs : F .regs = true := by assumption) :
    Kept F s0 (State.reportRestart s c k) := by
  unfold State.reportRestart
  split <;> simp (maxDischargeDepth := 60) +contextual [h, h_ctxs, h_erl, h_regs]

@[simp ↓] theorem kept_ctxRun {c k : Nat} (h : Kept F s0 s) (h_array : F .array = true := by assumption)
    (h_ctxs : F .ctxs = true := by assumption) (h_erl : F .erl = true := by assumption)
    (h_husk : F .husk = true := by assumption) (h_regs : F .regs = true := by assumption) :
    Kept F s0 (State.ctxRun s c k) := by
  unfold State.ctxRun
  simp (maxDischargeDepth := 60) +contextual [h, h_array, h_ctxs, h_erl, h_husk, h_regs]

@[simp ↓] theorem kept_ctxTake {k g c : Nat} (h : Kept F s0 s) (h_array : F .array = true := by assumption)
    (h_ctxs : F .ctxs = true := by assumption) (h_erl : F .erl = true := by assumption)
    (h_husk : F .husk = true := by assumption) (h_regs : F .regs = true := by assumption) :
    Kept F s0 (State.ctxTake s k g c) := by
  unfold State.ctxTake
  simp (maxDischargeDepth := 60) +contextual [h, h_array, h_ctxs, h_erl, h_husk, h_regs]

@[simp ↓] theorem kept_ctxOnTake {n st k g : Nat} (h : Kept F s0 s) (h_array : F .array = true := by assumption)
    (h_ctxs : F .ctxs = true := by assumption) (h_erl : F .erl = true := by assumption)
    (h_husk : F .husk = true := by assumption) (h_regs : F .regs = true := by assumption) :
    Kept F s0 (State.ctxOnTake s n st k g) := by
  unfold State.ctxOnTake
  simp (maxDischargeDepth := 60) +contextual [h, h_array, h_ctxs, h_erl, h_husk, h_regs]

@[simp ↓] theorem kept_lastResult {c code : Nat} (h : Kept F s0 s) (h_regs : F .regs = true := by assumption) :
    Kept F s0 (State.lastResult s c code) := by
  unfold State.lastResult
  simp (maxDischargeDepth := 60) +contextual [h, h_regs]

@[simp ↓] theorem kept_cmdResult {c code : Nat} (h : Kept F s0 s) (h_regs : F .regs = true := by assumption) :
    Kept F s0 (State.cmdResult s c code) := by
  unfold State.cmdResult
  simp (maxDischargeDepth := 60) +contextual [h, h_regs]

@[simp ↓] theorem kept_ctxStop {c : Nat} {own : Bool} (h : Kept F s0 s) (h_array : F .array = true := by assumption) (h_ctxs : F .ctxs = true := by assumption) (h_erl : F .erl = true := by assumption) (h_fresh : F .fresh = true := by assumption) (h_husk : F .husk = true := by assumption) (h_img : F .img = true := by assumption) (h_regs : F .regs = true := by assumption) :
    Kept F s0 (State.ctxStop s c own).1 := by
  unfold State.ctxStop
  simp (maxDischargeDepth := 60) +contextual [h, h_array, h_ctxs, h_erl, h_fresh, h_husk, h_img, h_regs]
  repeat' split
  all_goals simp_all (maxDischargeDepth := 60) +contextual

@[simp ↓] theorem kept_ownStop {c : Nat} (h : Kept F s0 s) (h_array : F .array = true := by assumption) (h_ctxs : F .ctxs = true := by assumption) (h_erl : F .erl = true := by assumption) (h_fresh : F .fresh = true := by assumption) (h_husk : F .husk = true := by assumption) (h_img : F .img = true := by assumption) (h_regs : F .regs = true := by assumption) :
    Kept F s0 (State.ownStop s c) := by
  unfold State.ownStop
  simp (maxDischargeDepth := 60) +contextual [h, h_array, h_ctxs, h_erl, h_fresh, h_husk, h_img, h_regs]

@[simp ↓] theorem kept_leadRelease (h : Kept F s0 s) (h_array : F .array = true := by assumption) (h_ctxs : F .ctxs = true := by assumption) (h_erl : F .erl = true := by assumption) (h_fresh : F .fresh = true := by assumption) (h_husk : F .husk = true := by assumption) (h_img : F .img = true := by assumption) (h_regs : F .regs = true := by assumption) :
    Kept F s0 (State.leadRelease s) := by
  unfold State.leadRelease
  simp (maxDischargeDepth := 60) +contextual [h, h_array, h_ctxs, h_erl, h_fresh, h_husk, h_img, h_regs]

@[simp ↓] theorem kept_stopAll {cs : List Nat} (h : Kept F s0 s) (h_array : F .array = true := by assumption) (h_ctxs : F .ctxs = true := by assumption) (h_erl : F .erl = true := by assumption) (h_fresh : F .fresh = true := by assumption) (h_husk : F .husk = true := by assumption) (h_img : F .img = true := by assumption) (h_regs : F .regs = true := by assumption) :
    Kept F s0 (State.stopAll s cs) := by
  unfold State.stopAll
  simp (maxDischargeDepth := 60) +contextual [h, h_array, h_ctxs, h_erl, h_fresh, h_husk, h_img, h_regs]

theorem kept_takeCmd {start : Bool} {c : Nat} (h : Kept F s0 s) (h_ctxs : F .ctxs = true := by assumption)
    (h_regs : F .regs = true := by assumption) :
    ∀ x, (State.takeCmd s start c) = some x → Kept F s0 x := by
  unfold State.takeCmd
  split <;> simp (maxDischargeDepth := 60) +contextual [h, h_ctxs, h_regs]

@[simp ↓] theorem kept_ctxCmd {v : BitVec 32} (h : Kept F s0 s) (h_ctxs : F .ctxs = true := by assumption)
    (h_regs : F .regs = true := by assumption) :
    Kept F s0 (State.ctxCmd s v) := by
  unfold State.ctxCmd
  simp (maxDischargeDepth := 60) +contextual [h, h_ctxs, h_regs]

@[simp ↓] theorem kept_writeLocked {init addr : Nat} (h : Kept F s0 s) (h_erl : F .erl = true := by assumption)
    (h_regs : F .regs = true := by assumption) :
    Kept F s0 (State.writeLocked s init addr) := by
  unfold State.writeLocked
  simp (maxDischargeDepth := 60) +contextual [h, h_erl, h_regs]

@[simp ↓] theorem kept_mirrorCfg {c : Nat} (h : Kept F s0 s) (h_regs : F .regs = true := by assumption) :
    Kept F s0 (State.mirrorCfg s c) := by
  unfold State.mirrorCfg
  simp (maxDischargeDepth := 60) +contextual [h, h_regs]

@[simp ↓] theorem kept_eccClear {a : Nat} (h : Kept F s0 s) (h_erl : F .erl = true := by assumption) :
    Kept F s0 (State.eccClear s a) := by
  unfold State.eccClear
  simp (maxDischargeDepth := 60) +contextual [h, h_erl]

@[simp ↓] theorem kept_ctxCfgWrite {init c : Nat} {v : BitVec 32} (h : Kept F s0 s)
    (h_erl : F .erl = true := by assumption) (h_regs : F .regs = true := by assumption) :
    Kept F s0 (State.ctxCfgWrite s init c v) := by
  unfold State.ctxCfgWrite
  simp (maxDischargeDepth := 60) +contextual [h, h_erl, h_regs]

@[simp ↓] theorem kept_setGreg {p i v : Nat} (h : Kept F s0 s) (h_regs : F .regs = true := by assumption) :
    Kept F s0 (State.setGreg s p i v) := by
  unfold State.setGreg
  simp (maxDischargeDepth := 60) +contextual [h, h_regs]

@[simp ↓] theorem kept_podGoto {p n : Nat} (h : Kept F s0 s) (h_array : F .array = true := by assumption)
    (h_ctxs : F .ctxs = true := by assumption) (h_erl : F .erl = true := by assumption)
    (h_fresh : F .fresh = true := by assumption) (h_husk : F .husk = true := by assumption)
    (h_img : F .img = true := by assumption) (h_regs : F .regs = true := by assumption) :
    Kept F s0 (State.podGoto s p n) := by
  unfold State.podGoto
  simp (maxDischargeDepth := 60) +contextual [h, h_array, h_ctxs, h_erl, h_fresh, h_husk, h_img, h_regs]

@[simp ↓] theorem kept_podNext {p : Nat} (h : Kept F s0 s) (h_array : F .array = true := by assumption)
    (h_ctxs : F .ctxs = true := by assumption) (h_erl : F .erl = true := by assumption)
    (h_fresh : F .fresh = true := by assumption) (h_husk : F .husk = true := by assumption)
    (h_img : F .img = true := by assumption) (h_regs : F .regs = true := by assumption) :
    Kept F s0 (State.podNext s p) := by
  unfold State.podNext
  split <;> simp (maxDischargeDepth := 60) +contextual [h, h_array, h_ctxs, h_erl, h_fresh, h_husk, h_img, h_regs]

@[simp ↓] theorem kept_podIssued {p n : Nat} {f : State → State} (hf : ∀ x, Kept F s0 x → Kept F s0 (f x)) (h : Kept F s0 s)
    (h_array : F .array = true := by assumption) (h_fresh : F .fresh = true := by assumption) :
    Kept F s0 (State.podIssued s p n f) := by
  unfold State.podIssued
  exact hf _ (by simp (maxDischargeDepth := 60) +contextual [h, h_array, h_fresh])

@[simp ↓] theorem kept_podLaunch {p op n : Nat} {last : Option Nat} (h : Kept F s0 s) (h_array : F .array = true := by assumption) (h_ctxs : F .ctxs = true := by assumption) (h_erl : F .erl = true := by assumption) (h_fresh : F .fresh = true := by assumption) (h_husk : F .husk = true := by assumption) (h_img : F .img = true := by assumption) (h_regs : F .regs = true := by assumption) :
    Kept F s0 (State.podLaunch s p op n last) := by
  unfold State.podLaunch
  simp (maxDischargeDepth := 60) +contextual [h, h_array, h_ctxs, h_erl, h_fresh, h_husk, h_img, h_regs]

@[simp ↓] theorem kept_podStep {p : Nat} (h : Kept F s0 s) (h_array : F .array = true := by assumption) (h_ctxs : F .ctxs = true := by assumption) (h_erl : F .erl = true := by assumption) (h_fresh : F .fresh = true := by assumption) (h_husk : F .husk = true := by assumption) (h_img : F .img = true := by assumption) (h_regs : F .regs = true := by assumption) :
    Kept F s0 (State.podStep s p) := by
  unfold State.podStep
  simp (maxDischargeDepth := 60) +contextual [h, h_array, h_ctxs, h_erl, h_fresh, h_husk, h_img, h_regs]

@[simp ↓] theorem kept_podResume {p : Nat} (h : Kept F s0 s) (h_array : F .array = true := by assumption) (h_ctxs : F .ctxs = true := by assumption) (h_erl : F .erl = true := by assumption) (h_fresh : F .fresh = true := by assumption) (h_husk : F .husk = true := by assumption) (h_img : F .img = true := by assumption) (h_regs : F .regs = true := by assumption) :
    Kept F s0 (State.podResume s p) := by
  unfold State.podResume
  simp (maxDischargeDepth := 60) +contextual [h, h_array, h_ctxs, h_erl, h_fresh, h_husk, h_img, h_regs]

@[simp ↓] theorem kept_podWait {p kind st cause : Nat} (h : Kept F s0 s) (h_array : F .array = true := by assumption)
    (h_fresh : F .fresh = true := by assumption) (h_regs : F .regs = true := by assumption) :
    Kept F s0 (State.podWait s p kind st cause) := by
  unfold State.podWait
  simp (maxDischargeDepth := 60) +contextual [h, h_array, h_fresh, h_regs]

@[simp ↓] theorem kept_issue {p op : Nat} {f : State → Nat → State} (hf : ∀ s x, Kept F s0 s → Kept F s0 (f s x))
    (h : Kept F s0 s) (h_array : F .array = true := by assumption) (h_ctxs : F .ctxs = true := by assumption)
    (h_erl : F .erl = true := by assumption) (h_fresh : F .fresh = true := by assumption)
    (h_husk : F .husk = true := by assumption) (h_img : F .img = true := by assumption)
    (h_regs : F .regs = true := by assumption) :
    Kept F s0 (State.issue s p op f) := by
  unfold State.issue
  simp (maxDischargeDepth := 60) +contextual [h, hf, h_array, h_ctxs, h_erl, h_fresh, h_husk, h_img, h_regs]

@[simp ↓] theorem kept_podJump {p n : Nat} (h : Kept F s0 s) (h_array : F .array = true := by assumption) (h_ctxs : F .ctxs = true := by assumption) (h_erl : F .erl = true := by assumption) (h_fresh : F .fresh = true := by assumption) (h_husk : F .husk = true := by assumption) (h_img : F .img = true := by assumption) (h_regs : F .regs = true := by assumption) :
    Kept F s0 (State.podJump s p n) := by
  unfold State.podJump
  simp (maxDischargeDepth := 60) +contextual [h, h_array, h_ctxs, h_erl, h_fresh, h_husk, h_img, h_regs]

@[simp ↓] theorem kept_setDesc {q : Nat} {d : PortDesc} (h : Kept F s0 s)
    (h_array : F .array = true := by assumption) :
    Kept F s0 (State.setDesc s q d) := by
  unfold State.setDesc
  simp (maxDischargeDepth := 60) +contextual [h, h_array]

@[simp ↓] theorem kept_setReq {q : Nat} {v : Option (Nat × List (Nat × Nat))} (h : Kept F s0 s)
    (h_array : F .array = true := by assumption) :
    Kept F s0 (State.setReq s q v) := by
  unfold State.setReq
  simp (maxDischargeDepth := 60) +contextual [h, h_array]

@[simp ↓] theorem kept_setOpen {q : Nat} {v : Option OpenPort} (h : Kept F s0 s)
    (h_array : F .array = true := by assumption) :
    Kept F s0 (State.setOpen s q v) := by
  unfold State.setOpen
  simp (maxDischargeDepth := 60) +contextual [h, h_array]

@[simp ↓] theorem kept_consume {p bus n : Nat} (h : Kept F s0 s) (h_array : F .array = true := by assumption) :
    Kept F s0 (State.consume s p bus n) := by
  unfold State.consume
  split <;> simp (maxDischargeDepth := 60) +contextual [h, h_array]

@[simp ↓] theorem kept_macBeats {p g n : Nat} {r c : OpenPort × Nat} (h : Kept F s0 s)
    (h_array : F .array = true := by assumption) :
    Kept F s0 (State.macBeats s p g n r c) := by
  unfold State.macBeats
  simp (maxDischargeDepth := 60) +contextual [h, h_array]

@[simp ↓] theorem kept_bmacBeats {p base done n : Nat} {w : WSet} {c : OpenPort × Nat} (h : Kept F s0 s)
    (h_array : F .array = true := by assumption) :
    Kept F s0 (State.bmacBeats s p base done n w c) := by
  unfold State.bmacBeats
  simp (maxDischargeDepth := 60) +contextual [h, h_array]

@[simp ↓] theorem kept_beatsDone {p done left n cpb tail : Nat} (h : Kept F s0 s) (h_array : F .array = true := by assumption) (h_ctxs : F .ctxs = true := by assumption) (h_erl : F .erl = true := by assumption) (h_fresh : F .fresh = true := by assumption) (h_husk : F .husk = true := by assumption) (h_img : F .img = true := by assumption) (h_regs : F .regs = true := by assumption) :
    Kept F s0 (State.beatsDone s p done left n cpb tail) := by
  unfold State.beatsDone
  simp (maxDischargeDepth := 60) +contextual [h, h_array, h_ctxs, h_erl, h_fresh, h_husk, h_img, h_regs]

@[simp ↓] theorem kept_macRun {p g done left : Nat} (h : Kept F s0 s) (h_array : F .array = true := by assumption) (h_ctxs : F .ctxs = true := by assumption) (h_erl : F .erl = true := by assumption) (h_fresh : F .fresh = true := by assumption) (h_husk : F .husk = true := by assumption) (h_img : F .img = true := by assumption) (h_regs : F .regs = true := by assumption) :
    Kept F s0 (State.macRun s p g done left) := by
  unfold State.macRun
  repeat' split
  all_goals simp (maxDischargeDepth := 60) +contextual [h, h_array, h_ctxs, h_erl, h_fresh, h_husk, h_img, h_regs]

@[simp ↓] theorem kept_bmacRun {p base done left : Nat} (h : Kept F s0 s) (h_array : F .array = true := by assumption) (h_ctxs : F .ctxs = true := by assumption) (h_erl : F .erl = true := by assumption) (h_fresh : F .fresh = true := by assumption) (h_husk : F .husk = true := by assumption) (h_img : F .img = true := by assumption) (h_regs : F .regs = true := by assumption) :
    Kept F s0 (State.bmacRun s p base done left) := by
  unfold State.bmacRun
  repeat' split
  all_goals simp (maxDischargeDepth := 60) +contextual [h, h_array, h_ctxs, h_erl, h_fresh, h_husk, h_img, h_regs]

@[simp ↓] theorem kept_podFailEnter {p : Nat} (h : Kept F s0 s) (h_array : F .array = true := by assumption) (h_erl : F .erl = true := by assumption) (h_fresh : F .fresh = true := by assumption) (h_regs : F .regs = true := by assumption) :
    Kept F s0 (State.podFailEnter s p) := by
  unfold State.podFailEnter
  simp (maxDischargeDepth := 60) +contextual [h, h_array, h_erl, h_fresh, h_regs]

@[simp ↓] theorem kept_podFail {p : Nat} (h : Kept F s0 s) (h_array : F .array = true := by assumption) (h_ctxs : F .ctxs = true := by assumption) (h_erl : F .erl = true := by assumption) (h_fresh : F .fresh = true := by assumption) (h_husk : F .husk = true := by assumption) (h_img : F .img = true := by assumption) (h_regs : F .regs = true := by assumption) :
    Kept F s0 (State.podFail s p) := by
  unfold State.podFail
  simp (maxDischargeDepth := 60) +contextual [h, h_array, h_ctxs, h_erl, h_fresh, h_husk, h_img, h_regs]

@[simp ↓] theorem kept_steerRequest {p col : Nat} (h : Kept F s0 s) (h_array : F .array = true := by assumption)
    (h_ctxs : F .ctxs = true := by assumption) (h_erl : F .erl = true := by assumption)
    (h_fresh : F .fresh = true := by assumption) (h_husk : F .husk = true := by assumption)
    (h_img : F .img = true := by assumption) (h_regs : F .regs = true := by assumption) :
    Kept F s0 (State.steerRequest s p col) := by
  unfold State.steerRequest
  simp (maxDischargeDepth := 60) +contextual [h, h_array, h_ctxs, h_erl, h_fresh, h_husk, h_img, h_regs]

@[simp ↓] theorem kept_applySteer {p : Nat} (h : Kept F s0 s) (h_array : F .array = true := by assumption)
    (h_ctxs : F .ctxs = true := by assumption) (h_erl : F .erl = true := by assumption)
    (h_fresh : F .fresh = true := by assumption) (h_husk : F .husk = true := by assumption)
    (h_img : F .img = true := by assumption) (h_regs : F .regs = true := by assumption) :
    Kept F s0 (State.applySteer s p) := by
  unfold State.applySteer
  split <;> simp (maxDischargeDepth := 60) +contextual [h, h_array, h_ctxs, h_erl, h_fresh, h_husk, h_img, h_regs]

@[simp ↓] theorem kept_bankSwap {p tag slots : Nat} (h : Kept F s0 s) (h_array : F .array = true := by assumption)
    (h_ctxs : F .ctxs = true := by assumption) (h_erl : F .erl = true := by assumption)
    (h_fresh : F .fresh = true := by assumption) (h_husk : F .husk = true := by assumption)
    (h_img : F .img = true := by assumption) (h_regs : F .regs = true := by assumption) :
    Kept F s0 (State.bankSwap s p tag slots) := by
  unfold State.bankSwap
  simp (maxDischargeDepth := 60) +contextual [h, h_array, h_ctxs, h_erl, h_fresh, h_husk, h_img, h_regs]

@[simp ↓] theorem kept_passTake {n st h' : Nat} {p : PassGroup} (h : Kept F s0 s)
    (h_array : F .array = true := by assumption) (h_ctxs : F .ctxs = true := by assumption)
    (h_erl : F .erl = true := by assumption) (h_fresh : F .fresh = true := by assumption)
    (h_hull : F .hull = true := by assumption) (h_husk : F .husk = true := by assumption)
    (h_img : F .img = true := by assumption) (h_regs : F .regs = true := by assumption) :
    Kept F s0 (State.passTake s n st h' p) := by
  unfold State.passTake
  simp (maxDischargeDepth := 60) +contextual [h, h_array, h_ctxs, h_erl, h_fresh, h_hull, h_husk, h_img, h_regs]

@[simp ↓] theorem kept_podContam {p : Nat} {draining : Bool} (h : Kept F s0 s)
    (h_array : F .array = true := by assumption) :
    Kept F s0 (State.podContam s p draining) := by
  unfold State.podContam
  simp (maxDischargeDepth := 60) +contextual [h, h_array]

@[simp ↓] theorem kept_deliverDrain {p : Nat} {d : DrainRec} (h : Kept F s0 s) (h_husk : F .husk = true := by assumption) :
    Kept F s0 (State.deliverDrain s p d) := by
  unfold State.deliverDrain
  simp (maxDischargeDepth := 60) +contextual [h, h_husk]

@[simp ↓] theorem kept_colError {p col : Nat} (h : Kept F s0 s) (h_array : F .array = true := by assumption)
    (h_ctxs : F .ctxs = true := by assumption) (h_erl : F .erl = true := by assumption)
    (h_fresh : F .fresh = true := by assumption) (h_husk : F .husk = true := by assumption)
    (h_img : F .img = true := by assumption) (h_regs : F .regs = true := by assumption) :
    Kept F s0 (State.colError s p col) := by
  unfold State.colError
  simp (maxDischargeDepth := 60) +contextual [h, h_array, h_ctxs, h_erl, h_fresh, h_husk, h_img, h_regs]

@[simp ↓] theorem kept_reportInterval {c cause f : Nat} (h : Kept F s0 s) (h_erl : F .erl = true := by assumption)
    (h_regs : F .regs = true := by assumption) :
    Kept F s0 (State.reportInterval s c cause f) := by
  unfold State.reportInterval
  simp (maxDischargeDepth := 60) +contextual [h, h_erl, h_regs]

end Sys2Proof.Machine
end

