-- ==== Sys2Proof/Laws/KeptHusk.lean ====
section
/-! SUPPORT. The operations of the Husk, egress, register access and the matrix leave the queue and the power block alone and keep the stores canonical:
one lemma per operation. -/

set_option Elab.async false
set_option linter.unusedSimpArgs false

namespace Sys2Proof.Machine

variable {F : Part → Bool} {s0 s : State}

@[simp ↓] theorem kept_setHusk {c : Nat} {h' : Option HuskCtx} (h : Kept F s0 s)
    (h_husk : F .husk = true := by assumption) :
    Kept F s0 (State.setHusk s c h') := by
  unfold State.setHusk
  simp (maxDischargeDepth := 60) +contextual [h, h_husk]

@[simp ↓] theorem kept_markOr {a m : Nat} (h : Kept F s0 s) (h_dmc : F .dmc = true := by assumption) (h_erl : F .erl = true := by assumption) (h_hbm : F .hbm = true := by assumption) (h_hbmBad : F .hbmBad = true := by assumption) (h_regs : F .regs = true := by assumption) :
    Kept F s0 (State.markOr s a m) := by
  unfold State.markOr
  simp (maxDischargeDepth := 60) +contextual [h, h_dmc, h_erl, h_hbm, h_hbmBad, h_regs]

@[simp ↓] theorem kept_markGroup {c n g m : Nat} (h : Kept F s0 s) (h_dmc : F .dmc = true := by assumption) (h_erl : F .erl = true := by assumption) (h_hbm : F .hbm = true := by assumption) (h_hbmBad : F .hbmBad = true := by assumption) (h_husk : F .husk = true := by assumption) (h_regs : F .regs = true := by assumption) :
    Kept F s0 (State.markGroup s c n g m) := by
  unfold State.markGroup
  repeat' split
  all_goals simp (maxDischargeDepth := 60) +contextual [h, h_dmc, h_erl, h_hbm, h_hbmBad, h_husk, h_regs]

@[simp ↓] theorem kept_spillParity {c n g : Nat} {bad : Bool} (h : Kept F s0 s)
    (h_dmc : F .dmc = true := by assumption) (h_erl : F .erl = true := by assumption)
    (h_hbm : F .hbm = true := by assumption) (h_hbmBad : F .hbmBad = true := by assumption)
    (h_husk : F .husk = true := by assumption) (h_regs : F .regs = true := by assumption) :
    Kept F s0 (State.spillParity s c n g bad) := by
  unfold State.spillParity
  simp (maxDischargeDepth := 60) +contextual [h, h_dmc, h_erl, h_hbm, h_hbmBad, h_husk, h_regs]

@[simp ↓] theorem kept_spillPut {c n g a : Nat} {first : Bool} {vals us : List Nat} (h : Kept F s0 s)
    (h_dmc : F .dmc = true := by assumption) (h_erl : F .erl = true := by assumption)
    (h_hbm : F .hbm = true := by assumption) (h_hbmBad : F .hbmBad = true := by assumption)
    (h_husk : F .husk = true := by assumption) (h_regs : F .regs = true := by assumption) :
    Kept F s0 (State.spillPut s c n g a first vals us) := by
  unfold State.spillPut
  simp (maxDischargeDepth := 60) +contextual [h, h_dmc, h_erl, h_hbm, h_hbmBad, h_husk, h_regs]

@[simp ↓] theorem kept_chaffNew {c n b : Nat} (h : Kept F s0 s) (h_husk : F .husk = true := by assumption) :
    Kept F s0 (State.chaffNew s c n b) := by
  unfold State.chaffNew
  simp (maxDischargeDepth := 60) +contextual [h, h_husk]

@[simp ↓] theorem kept_chaffAdd {c n g x d : Nat} (h : Kept F s0 s) (h_dmc : F .dmc = true := by assumption)
    (h_erl : F .erl = true := by assumption) (h_hbm : F .hbm = true := by assumption)
    (h_hbmBad : F .hbmBad = true := by assumption) (h_husk : F .husk = true := by assumption)
    (h_regs : F .regs = true := by assumption) :
    Kept F s0 (State.chaffAdd s c n g x d) := by
  unfold State.chaffAdd
  simp (maxDischargeDepth := 60) +contextual [h, h_dmc, h_erl, h_hbm, h_hbmBad, h_husk, h_regs]

@[simp ↓] theorem kept_deficit {c n g x full cnt : Nat} (h : Kept F s0 s) (h_dmc : F .dmc = true := by assumption)
    (h_erl : F .erl = true := by assumption) (h_hbm : F .hbm = true := by assumption)
    (h_hbmBad : F .hbmBad = true := by assumption) (h_husk : F .husk = true := by assumption)
    (h_regs : F .regs = true := by assumption) :
    Kept F s0 (State.deficit s c n g x full cnt) := by
  unfold State.deficit
  simp (maxDischargeDepth := 60) +contextual [h, h_dmc, h_erl, h_hbm, h_hbmBad, h_husk, h_regs]

@[simp ↓] theorem kept_powerAdd {adds : List (Nat × Int × Nat)} (h : Kept F s0 s)
    (h_husk : F .husk = true := by assumption) :
    Kept F s0 (State.powerAdd s adds) := by
  unfold State.powerAdd
  simp (maxDischargeDepth := 60) +contextual [h, h_husk]

@[simp ↓] theorem kept_flushLane {c w g n : Nat} {first : Bool} {lane : Nat} (h : Kept F s0 s)
    (h_dmc : F .dmc = true := by assumption) (h_erl : F .erl = true := by assumption)
    (h_hbm : F .hbm = true := by assumption) (h_hbmBad : F .hbmBad = true := by assumption)
    (h_husk : F .husk = true := by assumption) (h_regs : F .regs = true := by assumption) :
    Kept F s0 (State.flushLane s c w g n first lane) := by
  unfold State.flushLane
  refine kept_pmc (kept_incBy (kept_foldl (fun a : State × Nat => a.1) (fun b x hb => ?_) (by simp [h, h_dmc, h_erl,
      h_hbm, h_hbmBad, h_husk, h_regs])))
  simp only []
  split
  · simp only []
    split <;> simp [hb, h_dmc, h_erl, h_hbm, h_hbmBad, h_husk, h_regs]
  · exact hb

@[simp ↓] theorem kept_flushGroup {c w g n : Nat} {first : Bool} (h : Kept F s0 s)
    (h_dmc : F .dmc = true := by assumption) (h_erl : F .erl = true := by assumption)
    (h_hbm : F .hbm = true := by assumption) (h_hbmBad : F .hbmBad = true := by assumption)
    (h_husk : F .husk = true := by assumption) (h_regs : F .regs = true := by assumption) :
    Kept F s0 (State.flushGroup s c w g n first) := by
  unfold State.flushGroup
  simp (maxDischargeDepth := 60) +contextual [h, h_dmc, h_erl, h_hbm, h_hbmBad, h_husk, h_regs]

theorem kept_corrValue {c g n : Nat} {first : Bool} {ents : List Nat} {d : DrainRec} {a : SpillAcc} {k col : Nat}
    (h : Kept F s0 a.s) (h_dmc : F .dmc = true := by assumption) (h_erl : F .erl = true := by assumption)
    (h_hbm : F .hbm = true := by assumption) (h_hbmBad : F .hbmBad = true := by assumption)
    (h_husk : F .husk = true := by assumption) (h_regs : F .regs = true := by assumption) :
    Kept F s0 (corrValue c g n first ents d a k col).s := by
  unfold corrValue
  simp only []
  split
  · exact h
  · simp (maxDischargeDepth := 60) +contextual [h_dmc, h_erl, h_hbm, h_hbmBad, h_husk, h_regs, h]

@[simp ↓] theorem kept_corrApply {lane c g w n idx : Nat} {first : Bool} {ents : List Nat} {d : DrainRec}
    (h : Kept F s0 s) (h_dmc : F .dmc = true := by assumption) (h_erl : F .erl = true := by assumption)
    (h_hbm : F .hbm = true := by assumption) (h_hbmBad : F .hbmBad = true := by assumption)
    (h_husk : F .husk = true := by assumption) (h_regs : F .regs = true := by assumption) :
    Kept F s0 (State.corrApply s lane c g w n idx first ents d) :=
  kept_pmc (kept_incBy (kept_incBy (kept_foldl SpillAcc.s (fun _ _ hb => kept_corrValue hb) h)))

@[simp ↓] theorem kept_armWatchers {c : Nat} (h : Kept F s0 s) (h_husk : F .husk = true := by assumption)
    (h_regs : F .regs = true := by assumption) :
    Kept F s0 (State.armWatchers s c) := by
  unfold State.armWatchers
  simp (maxDischargeDepth := 60) +contextual [h, h_husk, h_regs]

@[simp ↓] theorem kept_addDump {c : Nat} {d : Dump} (h : Kept F s0 s) (h_husk : F .husk = true := by assumption) :
    Kept F s0 (State.addDump s c d) := by
  unfold State.addDump
  simp (maxDischargeDepth := 60) +contextual [h, h_husk]

@[simp ↓] theorem kept_dumpStart {c k0 n : Nat} (h : Kept F s0 s) (h_husk : F .husk = true := by assumption)
    (h_regs : F .regs = true := by assumption) :
    Kept F s0 (State.dumpStart s c k0 n) := by
  unfold State.dumpStart
  simp (maxDischargeDepth := 60) +contextual [h, h_husk, h_regs]

@[simp ↓] theorem kept_intervalEnd {c flags : Nat} {dropped : Bool} {tai : Nat × Nat} (h : Kept F s0 s)
    (h_erl : F .erl = true := by assumption) (h_regs : F .regs = true := by assumption) :
    Kept F s0 (State.intervalEnd s c flags dropped tai) := by
  unfold State.intervalEnd
  simp (maxDischargeDepth := 60) +contextual [h, h_erl, h_regs]

@[simp ↓] theorem kept_voltClose {c : Nat} {h' : HuskCtx} (h : Kept F s0 s) (h_erl : F .erl = true := by assumption)
    (h_husk : F .husk = true := by assumption) (h_regs : F .regs = true := by assumption) :
    Kept F s0 (State.voltClose s c h') := by
  unfold State.voltClose
  simp (maxDischargeDepth := 60) +contextual [h, h_erl, h_husk, h_regs]
  repeat' split
  all_goals simp_all (maxDischargeDepth := 60) +contextual

@[simp ↓] theorem kept_arrive {c g : Nat} (h : Kept F s0 s) (h_ctxs : F .ctxs = true := by assumption)
    (h_dmc : F .dmc = true := by assumption) (h_erl : F .erl = true := by assumption)
    (h_hbm : F .hbm = true := by assumption) (h_hbmBad : F .hbmBad = true := by assumption)
    (h_husk : F .husk = true := by assumption) (h_regs : F .regs = true := by assumption) :
    Kept F s0 (State.arrive s c g) := by
  unfold State.arrive
  split
  · exact h
  · simp only []
    repeat' split
    all_goals simp (maxDischargeDepth := 60) [h, h_ctxs, h_dmc, h_erl, h_hbm, h_hbmBad, h_husk, h_regs]

@[simp ↓] theorem kept_discardArrive {c g : Nat} {d : DrainRec} (h : Kept F s0 s) (h_ctxs : F .ctxs = true := by assumption) (h_dmc : F .dmc = true := by assumption) (h_erl : F .erl = true := by assumption) (h_hbm : F .hbm = true := by assumption) (h_hbmBad : F .hbmBad = true := by assumption) (h_husk : F .husk = true := by assumption) (h_regs : F .regs = true := by assumption) :
    Kept F s0 (State.discardArrive s c g d) := by
  unfold State.discardArrive
  simp (maxDischargeDepth := 60) +contextual [h, h_ctxs, h_dmc, h_erl, h_hbm, h_hbmBad, h_husk, h_regs]
  repeat' split
  all_goals simp_all (maxDischargeDepth := 60) +contextual

@[simp ↓] theorem kept_voltApply {lane c g i : Nat} {d : DrainRec} (h : Kept F s0 s) (h_husk : F .husk = true := by assumption) (h_regs : F .regs = true := by assumption) :
    Kept F s0 (State.voltApply s lane c g i d) := by
  unfold State.voltApply
  repeat' split
  all_goals simp (maxDischargeDepth := 60) +contextual [h, h_husk, h_regs]

@[simp ↓] theorem kept_drainInto {lane c g idx : Nat} {ents : List Nat} {d : DrainRec} (h : Kept F s0 s)
    (h_ctxs : F .ctxs = true := by assumption) (h_dmc : F .dmc = true := by assumption)
    (h_erl : F .erl = true := by assumption) (h_hbm : F .hbm = true := by assumption)
    (h_hbmBad : F .hbmBad = true := by assumption) (h_husk : F .husk = true := by assumption)
    (h_regs : F .regs = true := by assumption) :
    Kept F s0 (State.drainInto s lane c g idx ents d) := by
  unfold State.drainInto
  split
  · exact h
  · refine kept_arrive ?_
    simp (maxDischargeDepth := 60) +contextual [h, h_ctxs, h_dmc, h_erl, h_hbm, h_hbmBad, h_husk, h_regs]

@[simp ↓] theorem kept_laneTake {n : Nat} (h : Kept F s0 s) (h_husk : F .husk = true := by assumption) :
    Kept F s0 (State.laneTake s n) := by
  unfold State.laneTake
  simp (maxDischargeDepth := 60) +contextual [h, h_husk]

@[simp ↓] theorem kept_refuse {n k : Nat} {rows : List Nat} (h : Kept F s0 s) (h_array : F .array = true := by assumption) (h_regs : F .regs = true := by assumption) :
    Kept F s0 (State.refuse s n k rows) := by
  unfold State.refuse
  simp (maxDischargeDepth := 60) +contextual [h, h_array, h_regs]

@[simp ↓] theorem kept_refuseTick {k n : Nat} (h : Kept F s0 s) (h_array : F .array = true := by assumption) (h_husk : F .husk = true := by assumption) (h_regs : F .regs = true := by assumption) :
    Kept F s0 (State.refuseTick s k n) := by
  unfold State.refuseTick
  simp (maxDischargeDepth := 60) +contextual [h, h_array, h_husk, h_regs]
  repeat' split
  all_goals simp_all (maxDischargeDepth := 60) +contextual

@[simp ↓] theorem kept_drainTake {lane : Nat} {d : DrainRec} {v : Verdict} (h : Kept F s0 s)
    (h_ctxs : F .ctxs = true := by assumption) (h_dmc : F .dmc = true := by assumption)
    (h_erl : F .erl = true := by assumption) (h_hbm : F .hbm = true := by assumption)
    (h_hbmBad : F .hbmBad = true := by assumption) (h_husk : F .husk = true := by assumption)
    (h_regs : F .regs = true := by assumption) :
    Kept F s0 (State.drainTake s lane d v) := by
  unfold State.drainTake
  repeat' split
  all_goals simp (maxDischargeDepth := 60) +contextual [h, h_ctxs, h_dmc, h_erl, h_hbm, h_hbmBad, h_husk, h_regs]

@[simp ↓] theorem kept_noteHold {n i : Nat} {d : DrainRec} {a1 : Verdict} (h : Kept F s0 s)
    (h_husk : F .husk = true := by assumption) (h_regs : F .regs = true := by assumption) :
    Kept F s0 (State.noteHold s n i d a1) := by
  unfold State.noteHold
  split <;> simp (maxDischargeDepth := 60) +contextual [h, h_husk, h_regs]

@[simp ↓] theorem kept_applyFrom {n i : Nat} {ds : List DrainRec} (h : Kept F s0 s)
    (h_ctxs : F .ctxs = true := by assumption) (h_dmc : F .dmc = true := by assumption)
    (h_erl : F .erl = true := by assumption) (h_hbm : F .hbm = true := by assumption)
    (h_hbmBad : F .hbmBad = true := by assumption) (h_husk : F .husk = true := by assumption)
    (h_regs : F .regs = true := by assumption) :
    Kept F s0 (State.applyFrom s n i ds) := by
  induction ds generalizing i s with
  | nil => exact h
  | cons d ds ih =>
    unfold State.applyFrom
    simp only []
    split
    · exact ih (kept_noteHold h)
    · exact kept_drainTake (by simp [h, h_ctxs, h_dmc, h_erl, h_hbm, h_hbmBad, h_husk, h_regs])

@[simp ↓] theorem kept_dropPacket {d : Nat} (h : Kept F s0 s) (h_regs : F .regs = true := by assumption) :
    Kept F s0 (State.dropPacket s d) := by
  unfold State.dropPacket
  simp (maxDischargeDepth := 60) +contextual [h, h_regs]

@[simp ↓] theorem kept_sentPacket {d : Nat} (h : Kept F s0 s) (h_regs : F .regs = true := by assumption) :
    Kept F s0 (State.sentPacket s d) := by
  unfold State.sentPacket
  simp (maxDischargeDepth := 60) +contextual [h, h_regs]

@[simp ↓] theorem kept_capture {body : List Byte} (h : Kept F s0 s) (h_ctxs : F .ctxs = true := by assumption)
    (h_dmc : F .dmc = true := by assumption) (h_erl : F .erl = true := by assumption)
    (h_hbm : F .hbm = true := by assumption) (h_hbmBad : F .hbmBad = true := by assumption)
    (h_regs : F .regs = true := by assumption) :
    Kept F s0 (State.capture s body) := by
  unfold State.capture
  simp (maxDischargeDepth := 60) +contextual [h, h_ctxs, h_dmc, h_erl, h_hbm, h_hbmBad, h_regs]

@[simp ↓] theorem kept_packetPut {body : List Byte} (h : Kept F s0 s) (h_egress : F .egress = true := by assumption)
    (h_mtx : F .mtx = true := by assumption) :
    Kept F s0 (State.packetPut s body) := by
  unfold State.packetPut
  refine h.mem rfl rfl (fun p hp => by cases p <;> first | rfl | simp_all) fun w => ?_
  have := (memory_wf_iff s).mp w
  exact (memory_wf_iff _).mpr ⟨this.1, this.2.1, this.2.2.1, this.2.2.2.1, this.2.2.2.2.1,
    twf_putBytes (twf_putBytes this.2.2.2.2.2.1), this.2.2.2.2.2.2⟩

@[simp ↓] theorem kept_sendPacket {c n q : Nat} {last : Bool} {body : List Byte} (h : Kept F s0 s)
    (h_ctxs : F .ctxs = true := by assumption) (h_dmc : F .dmc = true := by assumption)
    (h_egress : F .egress = true := by assumption) (h_erl : F .erl = true := by assumption)
    (h_fab : F .fab = true := by assumption) (h_fresh : F .fresh = true := by assumption)
    (h_hbm : F .hbm = true := by assumption) (h_hbmBad : F .hbmBad = true := by assumption)
    (h_mtx : F .mtx = true := by assumption) (h_regs : F .regs = true := by assumption)
    (h_tim : F .tim = true := by assumption) (h_wireOut : F .wireOut = true := by assumption) :
    Kept F s0 (State.sendPacket s c n q last body).1 := by
  unfold State.sendPacket
  simp (maxDischargeDepth := 60) +contextual [h, h_ctxs, h_dmc, h_egress, h_erl, h_fab, h_fresh, h_hbm, h_hbmBad,
      h_mtx, h_regs, h_tim, h_wireOut]
  repeat' split
  all_goals simp_all (maxDischargeDepth := 60) +contextual

@[simp ↓] theorem kept_egressMark {flags : Nat} (h : Kept F s0 s) (h_ctxs : F .ctxs = true := by assumption) :
    Kept F s0 (State.egressMark s flags).1 := by
  unfold State.egressMark
  split <;> simp (maxDischargeDepth := 60) +contextual [h, h_ctxs]

@[simp ↓] theorem kept_dumpRead {c n lo cnt : Nat} (h : Kept F s0 s) (h_dmc : F .dmc = true := by assumption)
    (h_erl : F .erl = true := by assumption) (h_hbm : F .hbm = true := by assumption)
    (h_hbmBad : F .hbmBad = true := by assumption) (h_husk : F .husk = true := by assumption)
    (h_regs : F .regs = true := by assumption) :
    Kept F s0 (State.dumpRead s c n lo cnt) := by
  unfold State.dumpRead
  simp (maxDischargeDepth := 60) +contextual [h, h_dmc, h_erl, h_hbm, h_hbmBad, h_husk, h_regs]

@[simp ↓] theorem kept_countRead {c n lo hi : Nat} {part : List (Nat × Nat × Nat × Nat)} (h : Kept F s0 s) (h_dmc : F .dmc = true := by assumption) (h_erl : F .erl = true := by assumption) (h_hbm : F .hbm = true := by assumption) (h_hbmBad : F .hbmBad = true := by assumption) (h_husk : F .husk = true := by assumption) (h_regs : F .regs = true := by assumption) :
    Kept F s0 (State.countRead s c n lo hi part).1 := by
  unfold State.countRead
  simp (maxDischargeDepth := 60) +contextual [h, h_dmc, h_erl, h_hbm, h_hbmBad, h_husk, h_regs]

@[simp ↓] theorem kept_dumpPacket {c : Nat} {d : Dump} (h : Kept F s0 s) (h_dmc : F .dmc = true := by assumption)
    (h_erl : F .erl = true := by assumption) (h_hbm : F .hbm = true := by assumption)
    (h_hbmBad : F .hbmBad = true := by assumption) (h_husk : F .husk = true := by assumption)
    (h_regs : F .regs = true := by assumption) :
    Kept F s0 (State.dumpPacket s c d).1 := by
  unfold State.dumpPacket
  simp (maxDischargeDepth := 60) +contextual [h, h_dmc, h_erl, h_hbm, h_hbmBad, h_husk, h_regs]
  repeat' split
  all_goals simp_all (maxDischargeDepth := 60) +contextual

@[simp ↓] theorem kept_setDumps {c : Nat} {l : List Dump} (h : Kept F s0 s)
    (h_husk : F .husk = true := by assumption) :
    Kept F s0 (State.setDumps s c l) := by
  unfold State.setDumps
  simp (maxDischargeDepth := 60) +contextual [h, h_husk]

@[simp ↓] theorem kept_sendDump {c : Nat} {d : Dump} {rest : List Dump} (h : Kept F s0 s)
    (h_ctxs : F .ctxs = true := by assumption) (h_dmc : F .dmc = true := by assumption)
    (h_egress : F .egress = true := by assumption) (h_erl : F .erl = true := by assumption)
    (h_fab : F .fab = true := by assumption) (h_fresh : F .fresh = true := by assumption)
    (h_hbm : F .hbm = true := by assumption) (h_hbmBad : F .hbmBad = true := by assumption)
    (h_husk : F .husk = true := by assumption) (h_mtx : F .mtx = true := by assumption)
    (h_regs : F .regs = true := by assumption) (h_tim : F .tim = true := by assumption)
    (h_wireOut : F .wireOut = true := by assumption) :
    Kept F s0 (State.sendDump s c d rest) := by
  have hr : Kept F s0 (if s.ctxKind c = 5 then (s, s.setsPacket c d) else s.dumpPacket c d).1 := by
    split
    · exact h
    · exact kept_dumpPacket h
  unfold State.sendDump
  simp only []
  generalize (if s.ctxKind c = 5 then (s, s.setsPacket c d) else s.dumpPacket c d) = r at hr
  split
  · exact kept_setDumps (kept_intervalEnd (kept_sendPacket (kept_egressMark hr)))
  · exact kept_setDumps (kept_sendPacket (kept_egressMark hr))

@[simp ↓] theorem kept_sendVolt {c : Nat} {b : VoltBlock} {rest : List VoltBlock} (h : Kept F s0 s)
    (h_ctxs : F .ctxs = true := by assumption) (h_dmc : F .dmc = true := by assumption)
    (h_egress : F .egress = true := by assumption) (h_erl : F .erl = true := by assumption)
    (h_fab : F .fab = true := by assumption) (h_fresh : F .fresh = true := by assumption)
    (h_hbm : F .hbm = true := by assumption) (h_hbmBad : F .hbmBad = true := by assumption)
    (h_husk : F .husk = true := by assumption) (h_mtx : F .mtx = true := by assumption)
    (h_regs : F .regs = true := by assumption) (h_tim : F .tim = true := by assumption)
    (h_wireOut : F .wireOut = true := by assumption) :
    Kept F s0 (State.sendVolt s c b rest) := by
  unfold State.sendVolt
  simp (maxDischargeDepth := 60) +contextual [h, h_ctxs, h_dmc, h_egress, h_erl, h_fab, h_fresh, h_hbm, h_hbmBad,
      h_husk, h_mtx, h_regs, h_tim, h_wireOut]

@[simp ↓] theorem kept_topSee {o set k : Nat} {e : TopEnt} (h : Kept F s0 s)
    (h_husk : F .husk = true := by assumption) (h_regs : F .regs = true := by assumption) :
    Kept F s0 (State.topSee s o set k e) := by
  unfold State.topSee
  simp (maxDischargeDepth := 60) +contextual [h, h_husk, h_regs]
  repeat' split
  all_goals simp_all (maxDischargeDepth := 60) +contextual

@[simp ↓] theorem kept_topFeed {c : Nat} {d : Dump} {t off : Nat} (h : Kept F s0 s)
    (h_husk : F .husk = true := by assumption) (h_regs : F .regs = true := by assumption) :
    Kept F s0 (State.topFeed s c d t off) := by
  unfold State.topFeed
  simp (maxDischargeDepth := 60) +contextual [h, h_husk, h_regs]

@[simp ↓] theorem kept_watchEnd {t c : Nat} {w : Watch} {epoch : Nat} (h : Kept F s0 s)
    (h_ctxs : F .ctxs = true := by assumption) (h_husk : F .husk = true := by assumption)
    (h_regs : F .regs = true := by assumption) :
    Kept F s0 (State.watchEnd s t c w epoch) := by
  unfold State.watchEnd
  simp (maxDischargeDepth := 60) +contextual [h, h_ctxs, h_husk, h_regs]

@[simp ↓] theorem kept_watchSee {c : Nat} {d : Dump} {t : Nat} (h : Kept F s0 s)
    (h_ctxs : F .ctxs = true := by assumption) (h_husk : F .husk = true := by assumption)
    (h_regs : F .regs = true := by assumption) :
    Kept F s0 (State.watchSee s c d t) := by
  unfold State.watchSee
  split <;> simp (maxDischargeDepth := 60) +contextual [h, h_ctxs, h_husk, h_regs]

@[simp ↓] theorem kept_putReg {a : Nat} {open' : Bool} {v : BitVec 32} (h : Kept F s0 s)
    (h_regs : F .regs = true := by assumption) :
    Kept F s0 (State.putReg s a open' v) := by
  unfold State.putReg
  split <;> simp (maxDischargeDepth := 60) +contextual [h, h_regs]

@[simp ↓] theorem kept_setShadow {a : Nat} {v : BitVec 32} (h : Kept F s0 s)
    (h_shadow : F .shadow = true := by assumption) :
    Kept F s0 (State.setShadow s a v) := by
  unfold State.setShadow
  simp (maxDischargeDepth := 60) +contextual [h, h_shadow]

@[simp ↓] theorem kept_xFlag {k inst : Nat} {overrun : Bool} (h : Kept F s0 s)
    (h_regs : F .regs = true := by assumption) :
    Kept F s0 (State.xFlag s k inst overrun) := by
  unfold State.xFlag
  simp (maxDischargeDepth := 60) +contextual [h, h_regs]

@[simp ↓] theorem kept_xDiscard {k n : Nat} (h : Kept F s0 s) (h_regs : F .regs = true := by assumption) :
    Kept F s0 (State.xDiscard s k n) := by
  unfold State.xDiscard
  simp (maxDischargeDepth := 60) +contextual [h, h_regs]

@[simp ↓] theorem kept_pulseSend {i : Nat} (h : Kept F s0 s) (h_mtx : F .mtx = true := by assumption)
    (h_regs : F .regs = true := by assumption) :
    Kept F s0 (State.pulseSend s i) := by
  unfold State.pulseSend
  simp (maxDischargeDepth := 60) +contextual [h, h_mtx, h_regs]

@[simp ↓] theorem kept_pulseTake {i : Nat} (h : Kept F s0 s) (h_mtx : F .mtx = true := by assumption) :
    Kept F s0 (State.pulseTake s i) := by
  unfold State.pulseTake
  simp (maxDischargeDepth := 60) +contextual [h, h_mtx]

@[simp ↓] theorem kept_setMtxOut {i : Nat} {l : List MtxTxn} (h : Kept F s0 s)
    (h_mtx : F .mtx = true := by assumption) (h_regs : F .regs = true := by assumption) :
    Kept F s0 (State.setMtxOut s i l) :=
  (kept_fset (f := MTX_PSTAT_Outstanding i) (v := l.length) h).mem rfl rfl (fun p hp => by cases p <;> first | rfl |
      simp_all) id

@[simp ↓] theorem kept_setFenced {i : Nat} {l : List Nat} (h : Kept F s0 s) (h_mtx : F .mtx = true := by assumption)
    (h_regs : F .regs = true := by assumption) :
    Kept F s0 (State.setFenced s i l) :=
  (kept_fset (f := MTX_PSTAT_Fenced i) (v := l.length) h).mem rfl rfl (fun p hp => by cases p <;> first | rfl |
      simp_all) id

@[simp ↓] theorem kept_setWait {t : Nat} {q : List Nat} (h : Kept F s0 s) (h_mtx : F .mtx = true := by assumption) :
    Kept F s0 (State.setWait s t q) := by
  unfold State.setWait
  simp (maxDischargeDepth := 60) +contextual [h, h_mtx]

@[simp ↓] theorem kept_mtxHeld {i t c n : Nat} (h : Kept F s0 s) (h_mtx : F .mtx = true := by assumption)
    (h_regs : F .regs = true := by assumption) :
    Kept F s0 (State.mtxHeld s i t c n) := by
  unfold State.mtxHeld
  simp (maxDischargeDepth := 60) +contextual [h, h_mtx, h_regs]

@[simp ↓] theorem kept_mtxAccept {i : Nat} {x : MtxTxn} (h : Kept F s0 s) (h_mtx : F .mtx = true := by assumption)
    (h_regs : F .regs = true := by assumption) :
    Kept F s0 (State.mtxAccept s i x) := by
  unfold State.mtxAccept
  simp (maxDischargeDepth := 60) +contextual [h, h_mtx, h_regs]

@[simp ↓] theorem kept_decodeErr {i a : Nat} (h : Kept F s0 s) (h_erl : F .erl = true := by assumption)
    (h_regs : F .regs = true := by assumption) :
    Kept F s0 (State.decodeErr s i a) := by
  unfold State.decodeErr
  simp (maxDischargeDepth := 60) +contextual [h, h_erl, h_regs]

@[simp ↓] theorem kept_unitLeave {u : Nat} (h : Kept F s0 s) (h_regs : F .regs = true := by assumption) :
    Kept F s0 (State.unitLeave s u) := by
  unfold State.unitLeave
  simp (maxDischargeDepth := 60) +contextual [h, h_regs]

@[simp ↓] theorem kept_unitLeavePort {i : Nat} (h : Kept F s0 s) (h_regs : F .regs = true := by assumption) :
    Kept F s0 (State.unitLeavePort s i) := by
  unfold State.unitLeavePort
  split <;> simp (maxDischargeDepth := 60) +contextual [h, h_regs]

@[simp ↓] theorem kept_portSettle {i : Nat} (h : Kept F s0 s) (h_regs : F .regs = true := by assumption) :
    Kept F s0 (State.portSettle s i) := by
  unfold State.portSettle
  simp (maxDischargeDepth := 60) +contextual [h, h_regs]

@[simp ↓] theorem kept_discardReport {u : Nat} (h : Kept F s0 s) (h_erl : F .erl = true := by assumption)
    (h_regs : F .regs = true := by assumption) :
    Kept F s0 (State.discardReport s u) := by
  unfold State.discardReport
  simp (maxDischargeDepth := 60) +contextual [h, h_erl, h_regs]

@[simp ↓] theorem kept_setBursts {t : Nat} {l : List MtxBurst} (h : Kept F s0 s)
    (h_mtx : F .mtx = true := by assumption) :
    Kept F s0 (State.setBursts s t l) := by
  unfold State.setBursts
  simp (maxDischargeDepth := 60) +contextual [h, h_mtx]

@[simp ↓] theorem kept_targetEmpty {t : Nat} (h : Kept F s0 s) (h_mtx : F .mtx = true := by assumption)
    (h_regs : F .regs = true := by assumption) :
    Kept F s0 (State.targetEmpty s t) :=
  kept_each (fun _ _ hs => kept_setMtxOut hs) (kept_setBursts h)

@[simp ↓] theorem kept_xEmpty {k n : Nat} (h : Kept F s0 s) (h_ctxs : F .ctxs = true := by assumption) (h_fch : F .fch = true := by assumption) (h_hull : F .hull = true := by assumption) (h_husk : F .husk = true := by assumption) (h_ln : F .ln = true := by assumption) (h_mtx : F .mtx = true := by assumption) (h_regs : F .regs = true := by assumption) :
    Kept F s0 (State.xEmpty s k n) := by
  unfold State.xEmpty
  repeat' split
  all_goals simp (maxDischargeDepth := 60) +contextual [h, h_ctxs, h_fch, h_hull, h_husk, h_ln, h_mtx, h_regs]

@[simp ↓] theorem kept_xClear {k n : Nat} {counted : Bool} (h : Kept F s0 s) (h_ctxs : F .ctxs = true := by assumption) (h_fch : F .fch = true := by assumption) (h_hull : F .hull = true := by assumption) (h_husk : F .husk = true := by assumption) (h_ln : F .ln = true := by assumption) (h_mtx : F .mtx = true := by assumption) (h_regs : F .regs = true := by assumption) :
    Kept F s0 (State.xClear s k n counted) := by
  unfold State.xClear
  simp (maxDischargeDepth := 60) +contextual [h, h_ctxs, h_fch, h_hull, h_husk, h_ln, h_mtx, h_regs]

@[simp ↓] theorem kept_unitClear {u : Nat} (h : Kept F s0 s) (h_array : F .array = true := by assumption) (h_ctxs : F .ctxs = true := by assumption) (h_erl : F .erl = true := by assumption) (h_fab : F .fab = true := by assumption) (h_fch : F .fch = true := by assumption) (h_hull : F .hull = true := by assumption) (h_husk : F .husk = true := by assumption) (h_ln : F .ln = true := by assumption) (h_mtx : F .mtx = true := by assumption) (h_regs : F .regs = true := by assumption) (h_shadowFab : F .shadowFab = true := by assumption) :
    Kept F s0 (State.unitClear s u) := by
  unfold State.unitClear
  simp (maxDischargeDepth := 60) +contextual [h, h_array, h_ctxs, h_erl, h_fab, h_fch, h_hull, h_husk, h_ln, h_mtx, h_regs, h_shadowFab]

@[simp ↓] theorem kept_setPort {i : Nat} {l : List MtxReq} (h : Kept F s0 s)
    (h_mtx : F .mtx = true := by assumption) :
    Kept F s0 (State.setPort s i l) := by
  unfold State.setPort
  simp (maxDischargeDepth := 60) +contextual [h, h_mtx]

@[simp ↓] theorem kept_setUngranted {t : Nat} {l : List (Nat × MtxReq)} (h : Kept F s0 s)
    (h_mtx : F .mtx = true := by assumption) :
    Kept F s0 (State.setUngranted s t l) := by
  unfold State.setUngranted
  simp (maxDischargeDepth := 60) +contextual [h, h_mtx]

@[simp ↓] theorem kept_portAccept {n i : Nat} (h : Kept F s0 s) (h_erl : F .erl = true := by assumption)
    (h_mtx : F .mtx = true := by assumption) (h_regs : F .regs = true := by assumption) :
    Kept F s0 (State.portAccept n i s) := by
  induction n generalizing s with
  | zero => exact h
  | succ n ih =>
    unfold State.portAccept
    dsimp only
    split
    · exact h
    · split
      · exact kept_ite (fun _ => kept_mtxHeld h) fun _ => h
      · refine ih (kept_ite (fun _ => ?_) fun _ => ?_)
        · exact kept_decodeErr (kept_mtxAccept (kept_setPort h))
        · exact kept_setUngranted (kept_mtxAccept (kept_setPort h))

@[simp ↓] theorem kept_portsRetry {t i : Nat} (h : Kept F s0 s) (h_erl : F .erl = true := by assumption)
    (h_mtx : F .mtx = true := by assumption) (h_regs : F .regs = true := by assumption) :
    Kept F s0 (State.portsRetry s t i) := by
  exact kept_each (fun _ _ h => kept_portAccept h) h

@[simp ↓] theorem kept_portQuiesce {i : Nat} (h : Kept F s0 s) (h_erl : F .erl = true := by assumption)
    (h_mtx : F .mtx = true := by assumption) (h_regs : F .regs = true := by assumption) :
    Kept F s0 (State.portQuiesce s i) := by
  unfold State.portQuiesce
  simp (maxDischargeDepth := 60) +contextual [h, h_erl, h_mtx, h_regs]

@[simp ↓] theorem kept_unitResetSet {u : Nat} (h : Kept F s0 s) (h_array : F .array = true := by assumption) (h_ctxs : F .ctxs = true := by assumption) (h_erl : F .erl = true := by assumption) (h_fab : F .fab = true := by assumption) (h_fch : F .fch = true := by assumption) (h_hull : F .hull = true := by assumption) (h_husk : F .husk = true := by assumption) (h_ln : F .ln = true := by assumption) (h_mtx : F .mtx = true := by assumption) (h_regs : F .regs = true := by assumption) (h_shadowFab : F .shadowFab = true := by assumption) :
    Kept F s0 (State.unitResetSet s u) := by
  unfold State.unitResetSet
  simp (maxDischargeDepth := 60) +contextual [h, h_array, h_ctxs, h_erl, h_fab, h_fch, h_hull, h_husk, h_ln, h_mtx, h_regs, h_shadowFab]

@[simp ↓] theorem kept_unitResetClear {u : Nat} (h : Kept F s0 s) (h_regs : F .regs = true := by assumption) :
    Kept F s0 (State.unitResetClear s u) := by
  unfold State.unitResetClear
  simp (maxDischargeDepth := 60) +contextual [h, h_regs]

@[simp ↓] theorem kept_xHold {k n v : Nat} (h : Kept F s0 s) (h_mtx : F .mtx = true := by assumption) :
    Kept F s0 (State.xHold s k n v) := by
  unfold State.xHold
  simp (maxDischargeDepth := 60) +contextual [h, h_mtx]

end Sys2Proof.Machine
end

