-- ==== Sys2Proof/Laws/KeptTiming.lean ====
section
/-! SUPPORT. The operations of timing, the fabric core, seeding, scheduling, counters and the time exchange leave the queue and the power block alone and keep the stores canonical:
one lemma per operation. -/

set_option Elab.async false
set_option linter.unusedSimpArgs false

namespace Sys2Proof.Machine

variable {F : Part → Bool} {s0 s : State}

@[simp ↓] theorem kept_setRef {i st : Nat} (h : Kept F s0 s) (h_regs : F .regs = true := by assumption) :
    Kept F s0 (State.setRef s i st) := by
  unfold State.setRef
  simp (maxDischargeDepth := 60) +contextual [h, h_regs]

@[simp ↓] theorem kept_refWtr {i : Nat} (h : Kept F s0 s) (h_regs : F .regs = true := by assumption)
    (h_tim : F .tim = true := by assumption) :
    Kept F s0 (State.refWtr s i) := by
  unfold State.refWtr
  simp (maxDischargeDepth := 60) +contextual [h, h_regs, h_tim]

@[simp ↓] theorem kept_refGood {i : Nat} (h : Kept F s0 s) (h_regs : F .regs = true := by assumption)
    (h_tim : F .tim = true := by assumption) :
    Kept F s0 (State.refGood s i) := by
  unfold State.refGood
  simp (maxDischargeDepth := 60) +contextual [h, h_regs, h_tim]

@[simp ↓] theorem kept_tmbFlag {f : Fld} {cause : Nat} (h : Kept F s0 s) (h_regs : F .regs = true := by assumption) :
    Kept F s0 (State.tmbFlag s f cause) := by
  unfold State.tmbFlag
  simp (maxDischargeDepth := 60) +contextual [h, h_regs]

@[simp ↓] theorem kept_loopTo {st : Nat} (h : Kept F s0 s) (h_regs : F .regs = true := by assumption) :
    Kept F s0 (State.loopTo s st) := by
  unfold State.loopTo
  simp (maxDischargeDepth := 60) +contextual [h, h_regs]

@[simp ↓] theorem kept_setOffset {i : Nat} {v : Int} (h : Kept F s0 s) (h_regs : F .regs = true := by assumption) (h_tim : F .tim = true := by assumption) :
    Kept F s0 (State.setOffset s i v) := by
  unfold State.setOffset
  simp (maxDischargeDepth := 60) +contextual [h, h_regs, h_tim]

@[simp ↓] theorem kept_retune {d : Int} (h : Kept F s0 s) (h_regs : F .regs = true := by assumption) (h_tim : F .tim = true := by assumption) :
    Kept F s0 (State.retune s d) := by
  unfold State.retune
  simp (maxDischargeDepth := 60) +contextual [h, h_regs, h_tim]

@[simp ↓] theorem kept_takeModel (h : Kept F s0 s) (h_tim : F .tim = true := by assumption) :
    Kept F s0 (State.takeModel s) := by
  unfold State.takeModel
  simp (maxDischargeDepth := 60) +contextual [h, h_tim]

@[simp ↓] theorem kept_loopTune {st next n : Nat} (h : Kept F s0 s) (h_regs : F .regs = true := by assumption) (h_tim : F .tim = true := by assumption) :
    Kept F s0 (State.loopTune s st next n) := by
  unfold State.loopTune
  repeat' split
  all_goals simp (maxDischargeDepth := 60) +contextual [h, h_regs, h_tim]

@[simp ↓] theorem kept_refSettle (h : Kept F s0 s) (h_regs : F .regs = true := by assumption)
    (h_tim : F .tim = true := by assumption) :
    Kept F s0 (State.refSettle s) := by
  unfold State.refSettle
  simp (maxDischargeDepth := 60) +contextual [h, h_regs, h_tim]

@[simp ↓] theorem kept_refLos {i : Nat} (h : Kept F s0 s) (h_regs : F .regs = true := by assumption)
    (h_tim : F .tim = true := by assumption) :
    Kept F s0 (State.refLos s i) := by
  unfold State.refLos
  simp (maxDischargeDepth := 60) +contextual [h, h_regs, h_tim]

@[simp ↓] theorem kept_refConfig {i : Nat} (h : Kept F s0 s) (h_regs : F .regs = true := by assumption) :
    Kept F s0 (State.refConfig s i) := by
  unfold State.refConfig
  simp (maxDischargeDepth := 60) +contextual [h, h_regs]

@[simp ↓] theorem kept_driftDisq {i : Nat} (h : Kept F s0 s) (h_regs : F .regs = true := by assumption)
    (h_tim : F .tim = true := by assumption) :
    Kept F s0 (State.driftDisq s i) := by
  unfold State.driftDisq
  simp (maxDischargeDepth := 60) +contextual [h, h_regs, h_tim]

@[simp ↓] theorem kept_lockStep {i : Nat} {offset err : Int} (h : Kept F s0 s)
    (h_tim : F .tim = true := by assumption) :
    Kept F s0 (State.lockStep s i offset err) := by
  unfold State.lockStep
  simp (maxDischargeDepth := 60) +contextual [h, h_tim]

@[simp ↓] theorem kept_driftStep {i : Nat} {offset : Int} (h : Kept F s0 s) (h_tim : F .tim = true := by assumption) :
    Kept F s0 (State.driftStep s i offset) := by
  unfold State.driftStep
  repeat' split
  all_goals simp (maxDischargeDepth := 60) +contextual [h, h_tim]

@[simp ↓] theorem kept_refMeasure {i : Nat} {offset phasePs : Int} (h : Kept F s0 s)
    (h_regs : F .regs = true := by assumption) (h_tim : F .tim = true := by assumption) :
    Kept F s0 (State.refMeasure s i offset phasePs) := by
  unfold State.refMeasure
  extract_lets x s1 s2 err s3 st s4
  have h1 : Kept F s0 s1 := h.mem rfl rfl (fun p hp => by cases p <;> first | rfl | simp_all) id
  have h2 : Kept F s0 s2 := kept_driftStep (kept_setOffset h1)
  have h3 : Kept F s0 s3 := kept_ite (fun _ => kept_setReg h2) fun _ => h2
  clear_value s3
  have h4 : Kept F s0 s4 := by simp (maxDischargeDepth := 60) +contextual [s4, h3, h_regs, h_tim]
  exact kept_lockStep h4

@[simp ↓] theorem kept_clearWtr {mask : Nat} (h : Kept F s0 s) (h_regs : F .regs = true := by assumption) :
    Kept F s0 (State.clearWtr s mask) := by
  unfold State.clearWtr
  simp (maxDischargeDepth := 60) +contextual [h, h_regs]

@[simp ↓] theorem kept_holdWord {a : Nat} {v : BitVec 32} (h : Kept F s0 s) (h_tim : F .tim = true := by assumption) :
    Kept F s0 (State.holdWord s a v) := by
  unfold State.holdWord
  simp (maxDischargeDepth := 60) +contextual [h, h_tim]

@[simp ↓] theorem kept_commitWord {a : Nat} {v : BitVec 32} (h : Kept F s0 s)
    (h_regs : F .regs = true := by assumption) (h_tim : F .tim = true := by assumption) :
    Kept F s0 (State.commitWord s a v) := by
  refine kept_putReg (kept_each (fun s l h => ?_) h)
  split
  · exact (kept_setReg h).mem rfl rfl (fun p hp => by cases p <;> first | rfl | simp_all) id
  · exact h

@[simp ↓] theorem kept_setTimeCmd (h : Kept F s0 s) (h_regs : F .regs = true := by assumption)
    (h_tim : F .tim = true := by assumption) :
    Kept F s0 (State.setTimeCmd s) := by
  unfold State.setTimeCmd
  simp (maxDischargeDepth := 60) +contextual [h, h_regs, h_tim]

@[simp ↓] theorem kept_realignCmd (h : Kept F s0 s) (h_regs : F .regs = true := by assumption)
    (h_tim : F .tim = true := by assumption) :
    Kept F s0 (State.realignCmd s) := by
  unfold State.realignCmd
  simp (maxDischargeDepth := 60) +contextual [h, h_regs, h_tim]

@[simp ↓] theorem kept_dueNow {stepped : Bool} (h : Kept F s0 s) (h_tim : F .tim = true := by assumption) :
    Kept F s0 (State.dueNow s stepped) := by
  unfold State.dueNow
  simp (maxDischargeDepth := 60) +contextual [h, h_tim]

@[simp ↓] theorem kept_applySet (h : Kept F s0 s) (h_regs : F .regs = true := by assumption)
    (h_tim : F .tim = true := by assumption) (h_time : F .time = true := by assumption) :
    Kept F s0 (State.applySet s) := by
  unfold State.applySet
  split <;> simp (maxDischargeDepth := 60) +contextual [h, h_regs, h_tim, h_time]

@[simp ↓] theorem kept_applyStep (h : Kept F s0 s) (h_regs : F .regs = true := by assumption)
    (h_tim : F .tim = true := by assumption) (h_time : F .time = true := by assumption) :
    Kept F s0 (State.applyStep s) := by
  unfold State.applyStep
  split <;> simp (maxDischargeDepth := 60) +contextual [h, h_regs, h_tim, h_time]

@[simp ↓] theorem kept_setCal {v : Nat} (h : Kept F s0 s) (h_regs : F .regs = true := by assumption) :
    Kept F s0 (State.setCal s v) := by
  unfold State.setCal
  simp (maxDischargeDepth := 60) +contextual [h, h_regs]

@[simp ↓] theorem kept_applyCapture (h : Kept F s0 s) (h_regs : F .regs = true := by assumption)
    (h_tim : F .tim = true := by assumption) :
    Kept F s0 (State.applyCapture s) := by
  unfold State.applyCapture
  simp (maxDischargeDepth := 60) +contextual [h, h_regs, h_tim]

@[simp ↓] theorem kept_captureCmd (h : Kept F s0 s) (h_tim : F .tim = true := by assumption) :
    Kept F s0 (State.captureCmd s) := by
  unfold State.captureCmd
  simp (maxDischargeDepth := 60) +contextual [h, h_tim]

@[simp ↓] theorem kept_setTotal {fr sec n : Nat} (h : Kept F s0 s) (h_regs : F .regs = true := by assumption) :
    Kept F s0 (State.setTotal s fr sec n) := by
  unfold State.setTotal
  simp (maxDischargeDepth := 60) +contextual [h, h_regs]

@[simp ↓] theorem kept_accountWrite (h : Kept F s0 s) (h_erl : F .erl = true := by assumption) :
    Kept F s0 (State.accountWrite s) := by
  unfold State.accountWrite
  simp (maxDischargeDepth := 60) +contextual [h, h_erl]

@[simp ↓] theorem kept_clockCounts (h : Kept F s0 s) (h_regs : F .regs = true := by assumption) :
    Kept F s0 (State.clockCounts s) := by
  unfold State.clockCounts
  simp (maxDischargeDepth := 60) +contextual [h, h_regs]

@[simp ↓] theorem kept_wtrTick (h : Kept F s0 s) (h_regs : F .regs = true := by assumption)
    (h_tim : F .tim = true := by assumption) :
    Kept F s0 (State.wtrTick s) := by
  unfold State.wtrTick
  simp (maxDischargeDepth := 60) +contextual [h, h_regs, h_tim]

@[simp ↓] theorem kept_ppsRise (h : Kept F s0 s) (h_tim : F .tim = true := by assumption)
    (h_wireOut : F .wireOut = true := by assumption) :
    Kept F s0 (State.ppsRise s) := by
  unfold State.ppsRise
  simp (maxDischargeDepth := 60) +contextual [h, h_tim, h_wireOut]

@[simp ↓] theorem kept_outStop (h : Kept F s0 s) (h_tim : F .tim = true := by assumption) :
    Kept F s0 (State.outStop s) := by
  unfold State.outStop
  simp (maxDischargeDepth := 60) +contextual [h, h_tim]

@[simp ↓] theorem kept_secondBoundary (h : Kept F s0 s) (h_erl : F .erl = true := by assumption)
    (h_regs : F .regs = true := by assumption) (h_tim : F .tim = true := by assumption)
    (h_time : F .time = true := by assumption) (h_wireOut : F .wireOut = true := by assumption) :
    Kept F s0 (State.secondBoundary s) := by
  unfold State.secondBoundary
  simp (maxDischargeDepth := 60) +contextual [h, h_erl, h_regs, h_tim, h_time, h_wireOut]

@[simp ↓] theorem kept_timeStep (h : Kept F s0 s) (h_tim : F .tim = true := by assumption)
    (h_time : F .time = true := by assumption) :
    Kept F s0 (State.timeStep s) := by
  unfold State.timeStep
  simp (maxDischargeDepth := 60) +contextual [h, h_tim, h_time]

@[simp ↓] theorem kept_fabAccrue {i : Nat} (h : Kept F s0 s) (h_erl : F .erl = true := by assumption) :
    Kept F s0 (State.fabAccrue s i) := by
  unfold State.fabAccrue
  simp (maxDischargeDepth := 60) +contextual [h, h_erl]

@[simp ↓] theorem kept_ppsTick (h : Kept F s0 s) (h_tim : F .tim = true := by assumption) :
    Kept F s0 (State.ppsTick s) := by
  unfold State.ppsTick
  simp (maxDischargeDepth := 60) +contextual [h, h_tim]

@[simp ↓] theorem kept_tickEvents {before : Nat} (h : Kept F s0 s) (h_erl : F .erl = true := by assumption)
    (h_regs : F .regs = true := by assumption) (h_tim : F .tim = true := by assumption)
    (h_time : F .time = true := by assumption) (h_wireOut : F .wireOut = true := by assumption) :
    Kept F s0 (State.tickEvents s before) := by
  unfold State.tickEvents
  simp (maxDischargeDepth := 60) +contextual [h, h_erl, h_regs, h_tim, h_time, h_wireOut]

@[simp ↓] theorem kept_setSnapTime {v : Nat} (h : Kept F s0 s) (h_cnt : F .cnt = true := by assumption)
    (h_regs : F .regs = true := by assumption) :
    Kept F s0 (State.setSnapTime s v) := by
  unfold State.setSnapTime
  simp (maxDischargeDepth := 60) +contextual [h, h_cnt, h_regs]

@[simp ↓] theorem kept_snapTick (h : Kept F s0 s) (h_cnt : F .cnt = true := by assumption)
    (h_regs : F .regs = true := by assumption) :
    Kept F s0 (State.snapTick s) := by
  unfold State.snapTick
  simp (maxDischargeDepth := 60) +contextual [h, h_cnt, h_regs]

@[simp ↓] theorem kept_accountPut {w : VbatWrite} (h : Kept F s0 s) (h_regs : F .regs = true := by assumption) :
    Kept F s0 (State.accountPut s w) := by
  unfold State.accountPut
  simp (maxDischargeDepth := 60) +contextual [h, h_regs]

@[simp ↓] theorem kept_accountLand (h : Kept F s0 s) (h_erl : F .erl = true := by assumption)
    (h_regs : F .regs = true := by assumption) :
    Kept F s0 (State.accountLand s) := by
  unfold State.accountLand
  split <;> simp (maxDischargeDepth := 60) +contextual [h, h_erl, h_regs]

@[simp ↓] theorem kept_driftTick (h : Kept F s0 s) (h_regs : F .regs = true := by assumption)
    (h_tim : F .tim = true := by assumption) :
    Kept F s0 (State.driftTick s) := by
  unfold State.driftTick
  simp (maxDischargeDepth := 60) +contextual [h, h_regs, h_tim]

@[simp ↓] theorem kept_noteQual (h : Kept F s0 s) (h_tim : F .tim = true := by assumption) :
    Kept F s0 (State.noteQual s) := by
  unfold State.noteQual
  simp (maxDischargeDepth := 60) +contextual [h, h_tim]

@[simp ↓] theorem kept_refJudge {i : Nat} (h : Kept F s0 s) (h_regs : F .regs = true := by assumption)
    (h_tim : F .tim = true := by assumption) :
    Kept F s0 (State.refJudge s i) := by
  unfold State.refJudge
  simp (maxDischargeDepth := 60) +contextual [h, h_regs, h_tim]

@[simp ↓] theorem kept_refTick (h : Kept F s0 s) (h_regs : F .regs = true := by assumption)
    (h_tim : F .tim = true := by assumption) :
    Kept F s0 (State.refTick s) := by
  unfold State.refTick
  simp (maxDischargeDepth := 60) +contextual [h, h_regs, h_tim]

@[simp ↓] theorem kept_eclkTick (h : Kept F s0 s) (h_cnt : F .cnt = true := by assumption)
    (h_erl : F .erl = true := by assumption) (h_regs : F .regs = true := by assumption)
    (h_tim : F .tim = true := by assumption) (h_time : F .time = true := by assumption)
    (h_wireOut : F .wireOut = true := by assumption) :
    Kept F s0 (State.eclkTick s) := by
  unfold State.eclkTick
  simp (maxDischargeDepth := 60) +contextual [h, h_cnt, h_erl, h_regs, h_tim, h_time, h_wireOut]

@[simp ↓] theorem kept_txtsPop {l : Nat} (h : Kept F s0 s) (h_shadow : F .shadow = true := by assumption)
    (h_tim : F .tim = true := by assumption) :
    Kept F s0 (State.txtsPop s l) := by
  unfold State.txtsPop
  simp (maxDischargeDepth := 60) +contextual [h, h_shadow, h_tim]

@[simp ↓] theorem kept_spend {l vc n : Nat} (h : Kept F s0 s) (h_fab : F .fab = true := by assumption) :
    Kept F s0 (State.spend s l vc n) := by
  unfold State.spend
  simp (maxDischargeDepth := 60) +contextual [h, h_fab]

@[simp ↓] theorem kept_rxTake {l vc n : Nat} (h : Kept F s0 s) (h_fab : F .fab = true := by assumption) :
    Kept F s0 (State.rxTake s l vc n) := by
  unfold State.rxTake
  simp (maxDischargeDepth := 60) +contextual [h, h_fab]

@[simp ↓] theorem kept_rxFree {l vc n : Nat} (h : Kept F s0 s) (h_fab : F .fab = true := by assumption) :
    Kept F s0 (State.rxFree s l vc n) := by
  unfold State.rxFree
  simp (maxDischargeDepth := 60) +contextual [h, h_fab]

@[simp ↓] theorem kept_leaveBuffer {f : QFrame} (h : Kept F s0 s) (h_fab : F .fab = true := by assumption) :
    Kept F s0 (State.leaveBuffer s f) := by
  unfold State.leaveBuffer
  split <;> simp (maxDischargeDepth := 60) +contextual [h, h_fab]

@[simp ↓] theorem kept_reachUpdate (h : Kept F s0 s) (h_hull : F .hull = true := by assumption)
    (h_regs : F .regs = true := by assumption) :
    Kept F s0 (State.reachUpdate s) := by
  unfold State.reachUpdate
  simp (maxDischargeDepth := 60) +contextual [h, h_hull, h_regs]

@[simp ↓] theorem kept_clearLink {l : Nat} (h : Kept F s0 s) (h_fab : F .fab = true := by assumption)
    (h_ln : F .ln = true := by assumption) :
    Kept F s0 (State.clearLink s l) := by
  unfold State.clearLink
  simp (maxDischargeDepth := 60) +contextual [h, h_fab, h_ln]

@[simp ↓] theorem kept_unsent {f : QFrame} (h : Kept F s0 s) (h_regs : F .regs = true := by assumption) :
    Kept F s0 (State.unsent s f) := by
  unfold State.unsent
  repeat' split
  all_goals simp (maxDischargeDepth := 60) +contextual [h, h_regs]

@[simp ↓] theorem kept_rechoose (h : Kept F s0 s) (h_fab : F .fab = true := by assumption) (h_regs : F .regs = true := by assumption) :
    Kept F s0 (State.rechoose s) := by
  unfold State.rechoose
  simp (maxDischargeDepth := 60) +contextual [h, h_fab, h_regs]

@[simp ↓] theorem kept_linkDown {l : Nat} (h : Kept F s0 s) (h_erl : F .erl = true := by assumption)
    (h_fab : F .fab = true := by assumption) (h_fresh : F .fresh = true := by assumption)
    (h_hull : F .hull = true := by assumption) (h_ln : F .ln = true := by assumption)
    (h_regs : F .regs = true := by assumption) :
    Kept F s0 (State.linkDown s l) := by
  unfold State.linkDown
  simp (maxDischargeDepth := 60) +contextual [h, h_erl, h_fab, h_fresh, h_hull, h_ln, h_regs]

@[simp ↓] theorem kept_linkChecking {l : Nat} (h : Kept F s0 s) (h_regs : F .regs = true := by assumption) :
    Kept F s0 (State.linkChecking s l) := by
  unfold State.linkChecking
  simp (maxDischargeDepth := 60) +contextual [h, h_regs]

@[simp ↓] theorem kept_setSeed {l : Nat} {x : SeedTx} (h : Kept F s0 s) (h_fab : F .fab = true := by assumption) :
    Kept F s0 (State.setSeed s l x) := by
  unfold State.setSeed
  simp (maxDischargeDepth := 60) +contextual [h, h_fab]

@[simp ↓] theorem kept_seedFill {n l : Nat} (h : Kept F s0 s) (h_dmc : F .dmc = true := by assumption)
    (h_erl : F .erl = true := by assumption) (h_fab : F .fab = true := by assumption)
    (h_regs : F .regs = true := by assumption) :
    Kept F s0 (State.seedFill n s l) := by
  induction n generalizing s with
  | zero => exact h
  | succ n ih =>
    unfold State.seedFill
    dsimp only
    exact kept_ite (fun _ => ih (kept_setSeed (kept_noteRead (kept_originateOn h)))) fun _ => h

@[simp ↓] theorem kept_seedSend {l : Nat} (h : Kept F s0 s) (h_dmc : F .dmc = true := by assumption)
    (h_erl : F .erl = true := by assumption) (h_fab : F .fab = true := by assumption)
    (h_regs : F .regs = true := by assumption) :
    Kept F s0 (State.seedSend s l) := by
  unfold State.seedSend
  simp (maxDischargeDepth := 60) +contextual [h, h_dmc, h_erl, h_fab, h_regs]

@[simp ↓] theorem kept_seedWithdraw {l : Nat} (h : Kept F s0 s) (h_fab : F .fab = true := by assumption) :
    Kept F s0 (State.seedWithdraw s l) := by
  unfold State.seedWithdraw
  simp (maxDischargeDepth := 60) +contextual [h, h_fab]

@[simp ↓] theorem kept_seedAgain {l : Nat} (h : Kept F s0 s) (h_dmc : F .dmc = true := by assumption)
    (h_erl : F .erl = true := by assumption) (h_fab : F .fab = true := by assumption)
    (h_regs : F .regs = true := by assumption) :
    Kept F s0 (State.seedAgain s l) := by
  unfold State.seedAgain
  simp (maxDischargeDepth := 60) +contextual [h, h_dmc, h_erl, h_fab, h_regs]

@[simp ↓] theorem kept_seedStart {l : Nat} (h : Kept F s0 s) (h_dmc : F .dmc = true := by assumption)
    (h_erl : F .erl = true := by assumption) (h_fab : F .fab = true := by assumption)
    (h_regs : F .regs = true := by assumption) :
    Kept F s0 (State.seedStart s l) := by
  unfold State.seedStart
  simp (maxDischargeDepth := 60) +contextual [h, h_dmc, h_erl, h_fab, h_regs]

@[simp ↓] theorem kept_seedAcked {l o : Nat} (h : Kept F s0 s) (h_dmc : F .dmc = true := by assumption)
    (h_erl : F .erl = true := by assumption) (h_fab : F .fab = true := by assumption)
    (h_regs : F .regs = true := by assumption) :
    Kept F s0 (State.seedAcked s l o) := by
  unfold State.seedAcked
  simp (maxDischargeDepth := 60) +contextual [h, h_dmc, h_erl, h_fab, h_regs]

@[simp ↓] theorem kept_schResult {code handle : Nat} (h : Kept F s0 s) (h_regs : F .regs = true := by assumption) :
    Kept F s0 (State.schResult s code handle) := by
  unfold State.schResult
  simp (maxDischargeDepth := 60) +contextual [h, h_regs]

@[simp ↓] theorem kept_schRefuse {code : Nat} (h : Kept F s0 s) (h_fresh : F .fresh = true := by assumption)
    (h_regs : F .regs = true := by assumption) :
    Kept F s0 (State.schRefuse s code) := by
  unfold State.schRefuse
  simp (maxDischargeDepth := 60) +contextual [h, h_fresh, h_regs]

@[simp ↓] theorem kept_schEnter {e n : Nat} {a : SchAct} (h : Kept F s0 s) (h_tim : F .tim = true := by assumption) :
    Kept F s0 (State.schEnter s e n a) := by
  unfold State.schEnter
  simp (maxDischargeDepth := 60) +contextual [h, h_tim]

@[simp ↓] theorem kept_schInsert {v : BitVec 32} (h : Kept F s0 s) (h_fresh : F .fresh = true := by assumption)
    (h_regs : F .regs = true := by assumption) (h_tim : F .tim = true := by assumption) :
    Kept F s0 (State.schInsert s v) := by
  unfold State.schInsert
  split <;> simp (maxDischargeDepth := 60) +contextual [h, h_fresh, h_regs, h_tim]

@[simp ↓] theorem kept_schCancel {v : BitVec 32} (h : Kept F s0 s) (h_regs : F .regs = true := by assumption)
    (h_tim : F .tim = true := by assumption) :
    Kept F s0 (State.schCancel s v) := by
  unfold State.schCancel
  simp (maxDischargeDepth := 60) +contextual [h, h_regs, h_tim]

@[simp ↓] theorem kept_syncEvent (h : Kept F s0 s) (h_mtx : F .mtx = true := by assumption)
    (h_regs : F .regs = true := by assumption) (h_tim : F .tim = true := by assumption) :
    Kept F s0 (State.syncEvent s) := by
  unfold State.syncEvent
  simp (maxDischargeDepth := 60) +contextual [h, h_mtx, h_regs, h_tim]

@[simp ↓] theorem kept_runAction {a : SchAct} (h : Kept F s0 s) (h_ctxs : F .ctxs = true := by assumption)
    (h_mtx : F .mtx = true := by assumption) (h_regs : F .regs = true := by assumption)
    (h_tim : F .tim = true := by assumption) :
    Kept F s0 (State.runAction s a) := by
  unfold State.runAction
  split <;> simp (maxDischargeDepth := 60) +contextual [h, h_ctxs, h_mtx, h_regs, h_tim]

@[simp ↓] theorem kept_schDonePop (h : Kept F s0 s) (h_tim : F .tim = true := by assumption) :
    Kept F s0 (State.schDonePop s) := by
  unfold State.schDonePop
  simp (maxDischargeDepth := 60) +contextual [h, h_tim]

@[simp ↓] theorem kept_pmcCapture (h : Kept F s0 s) (h_regs : F .regs = true := by assumption) :
    Kept F s0 (State.pmcCapture s) := by
  unfold State.pmcCapture
  simp (maxDischargeDepth := 60) +contextual [h, h_regs]

@[simp ↓] theorem kept_snapDate {at' : Option Nat} (h : Kept F s0 s) (h_cnt : F .cnt = true := by assumption)
    (h_regs : F .regs = true := by assumption) :
    Kept F s0 (State.snapDate s at') := by
  unfold State.snapDate
  split <;> simp (maxDischargeDepth := 60) +contextual [h, h_cnt, h_regs]

@[simp ↓] theorem kept_pmcSnap {at' : Option Nat} (h : Kept F s0 s) (h_cnt : F .cnt = true := by assumption)
    (h_regs : F .regs = true := by assumption) :
    Kept F s0 (State.pmcSnap s at') := by
  unfold State.pmcSnap
  simp (maxDischargeDepth := 60) +contextual [h, h_cnt, h_regs]

@[simp ↓] theorem kept_pmcFreeze {at' : Option Nat} (h : Kept F s0 s) (h_cnt : F .cnt = true := by assumption)
    (h_regs : F .regs = true := by assumption) :
    Kept F s0 (State.pmcFreeze s at') := by
  unfold State.pmcFreeze
  simp (maxDischargeDepth := 60) +contextual [h, h_cnt, h_regs]

@[simp ↓] theorem kept_pmcThaw (h : Kept F s0 s) (h_regs : F .regs = true := by assumption) :
    Kept F s0 (State.pmcThaw s) := by
  unfold State.pmcThaw
  simp (maxDischargeDepth := 60) +contextual [h, h_regs]

@[simp ↓] theorem kept_pmcCmd {v : BitVec 32} (h : Kept F s0 s) (h_cnt : F .cnt = true := by assumption)
    (h_regs : F .regs = true := by assumption) :
    Kept F s0 (State.pmcCmd s v) := by
  unfold State.pmcCmd
  simp (maxDischargeDepth := 60) +contextual [h, h_cnt, h_regs]

@[simp ↓] theorem kept_pipRestart (h : Kept F s0 s) (h_array : F .array = true := by assumption) :
    Kept F s0 (State.pipRestart s) := by
  unfold State.pipRestart
  simp (maxDischargeDepth := 60) +contextual [h, h_array]

@[simp ↓] theorem kept_pipTrigger (h : Kept F s0 s) (h_array : F .array = true := by assumption)
    (h_regs : F .regs = true := by assumption) :
    Kept F s0 (State.pipTrigger s) := by
  unfold State.pipTrigger
  simp (maxDischargeDepth := 60) +contextual [h, h_array, h_regs]

@[simp ↓] theorem kept_pipWrite {a : Nat} {v : BitVec 32} (h : Kept F s0 s)
    (h_array : F .array = true := by assumption) (h_regs : F .regs = true := by assumption) :
    Kept F s0 (State.pipWrite s a v) := by
  unfold State.pipWrite
  simp (maxDischargeDepth := 60) +contextual [h, h_array, h_regs]

@[simp ↓] theorem kept_setUnread {n : Nat} (h : Kept F s0 s) (h_regs : F .regs = true := by assumption) :
    Kept F s0 (State.setUnread s n) := by
  unfold State.setUnread
  simp (maxDischargeDepth := 60) +contextual [h, h_regs]

@[simp ↓] theorem kept_pipStore {ws : List (BitVec 32)} (h : Kept F s0 s) (h_regs : F .regs = true := by assumption) :
    Kept F s0 (State.pipStore s ws) := by
  unfold State.pipStore
  simp (maxDischargeDepth := 60) +contextual [h, h_regs]

@[simp ↓] theorem kept_pipCollect {p : Nat} (h : Kept F s0 s) (h_array : F .array = true := by assumption)
    (h_cnt : F .cnt = true := by assumption) (h_regs : F .regs = true := by assumption) :
    Kept F s0 (State.pipCollect s p) := by
  unfold State.pipCollect
  repeat' split
  all_goals simp (maxDischargeDepth := 60) +contextual [h, h_array, h_cnt, h_regs]

@[simp ↓] theorem kept_pipLatch (h : Kept F s0 s) (h_shadow : F .shadow = true := by assumption) :
    Kept F s0 (State.pipLatch s) := by
  unfold State.pipLatch
  simp (maxDischargeDepth := 60) +contextual [h, h_shadow]

@[simp ↓] theorem kept_pipPop (h : Kept F s0 s) (h_cnt : F .cnt = true := by assumption)
    (h_regs : F .regs = true := by assumption) (h_shadow : F .shadow = true := by assumption) :
    Kept F s0 (State.pipPop s) := by
  unfold State.pipPop
  simp (maxDischargeDepth := 60) +contextual [h, h_cnt, h_regs, h_shadow]

@[simp ↓] theorem kept_timeDeliver {rx : Nat} {p : List Byte} (h : Kept F s0 s)
    (h_tim : F .tim = true := by assumption) :
    Kept F s0 (State.timeDeliver s rx p) := by
  unfold State.timeDeliver
  simp (maxDischargeDepth := 60) +contextual [h, h_tim]

@[simp ↓] theorem kept_timeTake {msg : Nat} (h : Kept F s0 s) (h_tim : F .tim = true := by assumption) :
    ∀ x, (State.timeTake s msg) = some x → Kept F s0 x.2 := by
  unfold State.timeTake
  split <;> simp (maxDischargeDepth := 60) +contextual [h, h_tim]

@[simp ↓] theorem kept_setExch {l : List Exch} (h : Kept F s0 s) (h_tim : F .tim = true := by assumption) :
    Kept F s0 (State.setExch s l) := by
  unfold State.setExch
  simp (maxDischargeDepth := 60) +contextual [h, h_tim]

@[simp ↓] theorem kept_ftForget (h : Kept F s0 s) (h_regs : F .regs = true := by assumption)
    (h_tim : F .tim = true := by assumption) :
    Kept F s0 (State.ftForget s) := by
  unfold State.ftForget
  simp (maxDischargeDepth := 60) +contextual [h, h_regs, h_tim]

@[simp ↓] theorem kept_ftCandidate (h : Kept F s0 s) (h_regs : F .regs = true := by assumption)
    (h_tim : F .tim = true := by assumption) :
    Kept F s0 (State.ftCandidate s) := by
  unfold State.ftCandidate
  simp (maxDischargeDepth := 60) +contextual [h, h_regs, h_tim]

@[simp ↓] theorem kept_ftFollow {k : Nat × Nat × Nat} (h : Kept F s0 s) (h_regs : F .regs = true := by assumption)
    (h_tim : F .tim = true := by assumption) :
    Kept F s0 (State.ftFollow s k) := by
  unfold State.ftFollow
  simp (maxDischargeDepth := 60) +contextual [h, h_regs, h_tim]

@[simp ↓] theorem kept_ftDisable (h : Kept F s0 s) (h_regs : F .regs = true := by assumption)
    (h_tim : F .tim = true := by assumption) :
    Kept F s0 (State.ftDisable s) := by
  unfold State.ftDisable
  simp (maxDischargeDepth := 60) +contextual [h, h_regs, h_tim]

@[simp ↓] theorem kept_timeSent {dest stamp : Nat} {p : List Byte} (h : Kept F s0 s)
    (h_fab : F .fab = true := by assumption) (h_regs : F .regs = true := by assumption)
    (h_tim : F .tim = true := by assumption) :
    Kept F s0 (State.timeSent s dest stamp p) := by
  unfold State.timeSent
  simp (maxDischargeDepth := 60) +contextual [h, h_fab, h_regs, h_tim]

@[simp ↓] theorem kept_exchSettle (h : Kept F s0 s) (h_regs : F .regs = true := by assumption)
    (h_tim : F .tim = true := by assumption) :
    Kept F s0 (State.exchSettle s) := by
  unfold State.exchSettle
  simp (maxDischargeDepth := 60) +contextual [h, h_regs, h_tim]

@[simp ↓] theorem kept_outConfig (h : Kept F s0 s) (h_tim : F .tim = true := by assumption) :
    Kept F s0 (State.outConfig s) := by
  unfold State.outConfig
  simp (maxDischargeDepth := 60) +contextual [h, h_tim]

@[simp ↓] theorem kept_ppsMeasure {m t : Nat} (h : Kept F s0 s) (h_regs : F .regs = true := by assumption)
    (h_tim : F .tim = true := by assumption) :
    Kept F s0 (State.ppsMeasure s m t) := by
  unfold State.ppsMeasure
  dsimp only
  repeat' split
  all_goals simp_all (maxDischargeDepth := 60) +contextual [h, h_regs, h_tim]

@[simp ↓] theorem kept_setDiv {n : Nat} (h : Kept F s0 s) (h_tim : F .tim = true := by assumption) :
    Kept F s0 (State.setDiv s n) := by
  unfold State.setDiv
  simp (maxDischargeDepth := 60) +contextual [h, h_tim]

@[simp ↓] theorem kept_routesChanged (h : Kept F s0 s) (h_hull : F .hull = true := by assumption)
    (h_regs : F .regs = true := by assumption) :
    Kept F s0 (State.routesChanged s) := by
  unfold State.routesChanged
  simp (maxDischargeDepth := 60) +contextual [h, h_hull, h_regs]

@[simp ↓] theorem kept_pulseAct {inst at' : Nat} (h : Kept F s0 s) (h_cnt : F .cnt = true := by assumption) (h_mtx : F .mtx = true := by assumption) (h_regs : F .regs = true := by assumption) :
    Kept F s0 (State.pulseAct s inst at') := by
  unfold State.pulseAct
  simp (maxDischargeDepth := 60) +contextual [h, h_cnt, h_mtx, h_regs]
  repeat' split
  all_goals simp_all (maxDischargeDepth := 60) +contextual

end Sys2Proof.Machine
end

