-- ==== Sys2Proof/Laws/KeptLanes.lean ====
section
/-! SUPPORT. The operations of the lanes, the fabric and membership leave the queue and the power block alone and keep the stores canonical:
one lemma per operation. -/

set_option Elab.async false
set_option linter.unusedSimpArgs false

namespace Sys2Proof.Machine

variable {F : Part → Bool} {s0 s : State}

@[simp ↓] theorem kept_setRun {l : Nat} {r : LaneRun} (h : Kept F s0 s) (h_ln : F .ln = true := by assumption) :
    Kept F s0 (State.setRun s l r) := by
  unfold State.setRun
  simp (maxDischargeDepth := 60) +contextual [h, h_ln]

@[simp ↓] theorem kept_modRun {l : Nat} {f : LaneRun → LaneRun} (h : Kept F s0 s)
    (h_ln : F .ln = true := by assumption) :
    Kept F s0 (State.modRun s l f) := by
  unfold State.modRun
  simp (maxDischargeDepth := 60) +contextual [h, h_ln]

@[simp ↓] theorem kept_setSwap {l : Nat} {w : Option SwapSt} (h : Kept F s0 s)
    (h_ln : F .ln = true := by assumption) :
    Kept F s0 (State.setSwap s l w) := by
  unfold State.setSwap
  simp (maxDischargeDepth := 60) +contextual [h, h_ln]

@[simp ↓] theorem kept_sendStep {l m step : Nat} (h : Kept F s0 s) (h_ln : F .ln = true := by assumption)
    (h_wireOut : F .wireOut = true := by assumption) :
    Kept F s0 (State.sendStep s l m step) := by
  unfold State.sendStep
  simp (maxDischargeDepth := 60) +contextual [h, h_ln, h_wireOut]

@[simp ↓] theorem kept_swapAbandon {l : Nat} (h : Kept F s0 s) (h_ln : F .ln = true := by assumption)
    (h_regs : F .regs = true := by assumption) :
    Kept F s0 (State.swapAbandon s l) := by
  unfold State.swapAbandon
  split <;> simp (maxDischargeDepth := 60) +contextual [h, h_ln, h_regs]

@[simp ↓] theorem kept_plannedSwap {l : Nat} (h : Kept F s0 s) (h_ln : F .ln = true := by assumption)
    (h_wireOut : F .wireOut = true := by assumption) :
    Kept F s0 (State.plannedSwap s l) := by
  unfold State.plannedSwap
  simp (maxDischargeDepth := 60) +contextual [h, h_ln, h_wireOut]

@[simp ↓] theorem kept_suddenSwap {l : Nat} {w : SwapSt} (h : Kept F s0 s) (h_ln : F .ln = true := by assumption)
    (h_wireOut : F .wireOut = true := by assumption) :
    Kept F s0 (State.suddenSwap s l w) := by
  unfold State.suddenSwap
  simp (maxDischargeDepth := 60) +contextual [h, h_ln, h_wireOut]

@[simp ↓] theorem kept_retag {l : Nat} (h : Kept F s0 s) (h_fresh : F .fresh = true := by assumption)
    (h_ln : F .ln = true := by assumption) (h_regs : F .regs = true := by assumption) :
    Kept F s0 (State.retag s l) := by
  unfold State.retag
  simp (maxDischargeDepth := 60) +contextual [h, h_fresh, h_ln, h_regs]

@[simp ↓] theorem kept_retrainTick {l : Nat} (h : Kept F s0 s) (h_fresh : F .fresh = true := by assumption)
    (h_ln : F .ln = true := by assumption) (h_regs : F .regs = true := by assumption) :
    Kept F s0 (State.retrainTick s l) := by
  unfold State.retrainTick
  simp (maxDischargeDepth := 60) +contextual [h, h_fresh, h_ln, h_regs]

@[simp ↓] theorem kept_cutOff {l : Nat} (h : Kept F s0 s) (h_fab : F .fab = true := by assumption)
    (h_ln : F .ln = true := by assumption) (h_regs : F .regs = true := by assumption)
    (h_wireOut : F .wireOut = true := by assumption) :
    Kept F s0 (State.cutOff s l) := by
  unfold State.cutOff
  simp (maxDischargeDepth := 60) +contextual [h, h_fab, h_ln, h_regs, h_wireOut]
  repeat' split
  all_goals simp_all (maxDischargeDepth := 60) +contextual

@[simp ↓] theorem kept_linkLost {l : Nat} (h : Kept F s0 s) (h_erl : F .erl = true := by assumption)
    (h_fab : F .fab = true := by assumption) (h_fresh : F .fresh = true := by assumption)
    (h_hull : F .hull = true := by assumption) (h_ln : F .ln = true := by assumption)
    (h_regs : F .regs = true := by assumption) (h_wireOut : F .wireOut = true := by assumption) :
    Kept F s0 (State.linkLost s l) := by
  unfold State.linkLost
  simp (maxDischargeDepth := 60) +contextual [h, h_erl, h_fab, h_fresh, h_hull, h_ln, h_regs, h_wireOut]

@[simp ↓] theorem kept_leaveUp {l : Nat} (h : Kept F s0 s) (h_erl : F .erl = true := by assumption)
    (h_fab : F .fab = true := by assumption) (h_fresh : F .fresh = true := by assumption)
    (h_hull : F .hull = true := by assumption) (h_ln : F .ln = true := by assumption)
    (h_regs : F .regs = true := by assumption) (h_wireOut : F .wireOut = true := by assumption) :
    Kept F s0 (State.leaveUp s l) := by
  unfold State.leaveUp
  simp (maxDischargeDepth := 60) +contextual [h, h_erl, h_fab, h_fresh, h_hull, h_ln, h_regs, h_wireOut]
  repeat' split
  all_goals simp_all (maxDischargeDepth := 60) +contextual

@[simp ↓] theorem kept_setRung {l rung coding : Nat} (h : Kept F s0 s) (h_ln : F .ln = true := by assumption) (h_regs : F .regs = true := by assumption) :
    Kept F s0 (State.setRung s l rung coding) := by
  unfold State.setRung
  simp (maxDischargeDepth := 60) +contextual [h, h_ln, h_regs]

@[simp ↓] theorem kept_ladderFrom {l : Nat} (h : Kept F s0 s) (h_ln : F .ln = true := by assumption) (h_regs : F .regs = true := by assumption) :
    Kept F s0 (State.ladderFrom s l) := by
  unfold State.ladderFrom
  simp (maxDischargeDepth := 60) +contextual [h, h_ln, h_regs]

@[simp ↓] theorem kept_workingLost {l : Nat} (h : Kept F s0 s) (h_ln : F .ln = true := by assumption) (h_regs : F .regs = true := by assumption) :
    Kept F s0 (State.workingLost s l) := by
  unfold State.workingLost
  simp (maxDischargeDepth := 60) +contextual [h, h_ln, h_regs]

@[simp ↓] theorem kept_spareLost {p : Nat} (h : Kept F s0 s) (h_erl : F .erl = true := by assumption)
    (h_fab : F .fab = true := by assumption) (h_fresh : F .fresh = true := by assumption)
    (h_hull : F .hull = true := by assumption) (h_ln : F .ln = true := by assumption)
    (h_regs : F .regs = true := by assumption) (h_wireOut : F .wireOut = true := by assumption) :
    Kept F s0 (State.spareLost s p) := by
  unfold State.spareLost
  split <;> simp (maxDischargeDepth := 60) +contextual [h, h_erl, h_fab, h_fresh, h_hull, h_ln, h_regs, h_wireOut]

@[simp ↓] theorem kept_toState {l v : Nat} {r : LaneRun} (h : Kept F s0 s) (h_erl : F .erl = true := by assumption)
    (h_fab : F .fab = true := by assumption) (h_fresh : F .fresh = true := by assumption)
    (h_hull : F .hull = true := by assumption) (h_ln : F .ln = true := by assumption)
    (h_regs : F .regs = true := by assumption) (h_wireOut : F .wireOut = true := by assumption) :
    Kept F s0 (State.toState s l v r) := by
  unfold State.toState
  simp (maxDischargeDepth := 60) +contextual [h, h_erl, h_fab, h_fresh, h_hull, h_ln, h_regs, h_wireOut]

@[simp ↓] theorem kept_startLadder {l : Nat} (h : Kept F s0 s) (h_erl : F .erl = true := by assumption) (h_fab : F .fab = true := by assumption) (h_fresh : F .fresh = true := by assumption) (h_hull : F .hull = true := by assumption) (h_ln : F .ln = true := by assumption) (h_regs : F .regs = true := by assumption) (h_wireOut : F .wireOut = true := by assumption) :
    Kept F s0 (State.startLadder s l) := by
  unfold State.startLadder
  simp (maxDischargeDepth := 60) +contextual [h, h_erl, h_fab, h_fresh, h_hull, h_ln, h_regs, h_wireOut]

@[simp ↓] theorem kept_laneStop {l : Nat} (h : Kept F s0 s) (h_erl : F .erl = true := by assumption)
    (h_fab : F .fab = true := by assumption) (h_fresh : F .fresh = true := by assumption)
    (h_hull : F .hull = true := by assumption) (h_ln : F .ln = true := by assumption)
    (h_regs : F .regs = true := by assumption) (h_wireOut : F .wireOut = true := by assumption) :
    Kept F s0 (State.laneStop s l) := by
  unfold State.laneStop
  simp (maxDischargeDepth := 60) +contextual [h, h_erl, h_fab, h_fresh, h_hull, h_ln, h_regs, h_wireOut]

@[simp ↓] theorem kept_returnStart {l : Nat} {w : SwapSt} (h : Kept F s0 s) (h_ln : F .ln = true := by assumption) (h_wireOut : F .wireOut = true := by assumption) :
    Kept F s0 (State.returnStart s l w) := by
  unfold State.returnStart
  simp (maxDischargeDepth := 60) +contextual [h, h_ln, h_wireOut]

@[simp ↓] theorem kept_laneTop {l : Nat} (h : Kept F s0 s) (h_ln : F .ln = true := by assumption)
    (h_regs : F .regs = true := by assumption) (h_wireOut : F .wireOut = true := by assumption) :
    Kept F s0 (State.laneTop s l) := by
  unfold State.laneTop
  simp (maxDischargeDepth := 60) +contextual [h, h_ln, h_regs, h_wireOut]
  repeat' split
  all_goals simp_all (maxDischargeDepth := 60) +contextual

@[simp ↓] theorem kept_ladderTop {l : Nat} (h : Kept F s0 s) (h_ln : F .ln = true := by assumption)
    (h_regs : F .regs = true := by assumption) (h_wireOut : F .wireOut = true := by assumption) :
    Kept F s0 (State.ladderTop s l) := by
  unfold State.ladderTop
  simp (maxDischargeDepth := 60) +contextual [h, h_ln, h_regs, h_wireOut]

@[simp ↓] theorem kept_requestStep {l : Nat} (h : Kept F s0 s) (h_ln : F .ln = true := by assumption)
    (h_wireOut : F .wireOut = true := by assumption) :
    Kept F s0 (State.requestStep s l) := by
  unfold State.requestStep
  simp (maxDischargeDepth := 60) +contextual [h, h_ln, h_wireOut]

@[simp ↓] theorem kept_capabDone {l : Nat} (h : Kept F s0 s) (h_fresh : F .fresh = true := by assumption)
    (h_ln : F .ln = true := by assumption) (h_regs : F .regs = true := by assumption)
    (h_wireOut : F .wireOut = true := by assumption) :
    Kept F s0 (State.capabDone s l) := by
  unfold State.capabDone
  simp (maxDischargeDepth := 60) +contextual [h, h_fresh, h_ln, h_regs, h_wireOut]

@[simp ↓] theorem kept_stepReached {l : Nat} (h : Kept F s0 s) (h_fresh : F .fresh = true := by assumption)
    (h_ln : F .ln = true := by assumption) (h_regs : F .regs = true := by assumption)
    (h_wireOut : F .wireOut = true := by assumption) :
    Kept F s0 (State.stepReached s l) := by
  unfold State.stepReached
  simp (maxDischargeDepth := 60) +contextual [h, h_fresh, h_ln, h_regs, h_wireOut]

@[simp ↓] theorem kept_stepFail {l : Nat} (h : Kept F s0 s) (h_ln : F .ln = true := by assumption)
    (h_regs : F .regs = true := by assumption) :
    Kept F s0 (State.stepFail s l) := by
  unfold State.stepFail
  simp (maxDischargeDepth := 60) +contextual [h, h_ln, h_regs]

@[simp ↓] theorem kept_stepBack {l : Nat} (h : Kept F s0 s) (h_ln : F .ln = true := by assumption) (h_regs : F .regs = true := by assumption) :
    Kept F s0 (State.stepBack s l) := by
  unfold State.stepBack
  simp (maxDischargeDepth := 60) +contextual [h, h_ln, h_regs]

@[simp ↓] theorem kept_backDone {l : Nat} (h : Kept F s0 s) (h_ln : F .ln = true := by assumption)
    (h_regs : F .regs = true := by assumption) (h_wireOut : F .wireOut = true := by assumption) :
    Kept F s0 (State.backDone s l) := by
  unfold State.backDone
  simp (maxDischargeDepth := 60) +contextual [h, h_ln, h_regs, h_wireOut]

@[simp ↓] theorem kept_laneFailed {l : Nat} {lost : Bool} (h : Kept F s0 s) (h_erl : F .erl = true := by assumption)
    (h_fab : F .fab = true := by assumption) (h_fresh : F .fresh = true := by assumption)
    (h_hull : F .hull = true := by assumption) (h_ln : F .ln = true := by assumption)
    (h_regs : F .regs = true := by assumption) (h_wireOut : F .wireOut = true := by assumption) :
    Kept F s0 (State.laneFailed s l lost) := by
  unfold State.laneFailed
  simp (maxDischargeDepth := 60) +contextual [h, h_erl, h_fab, h_fresh, h_hull, h_ln, h_regs, h_wireOut]

@[simp ↓] theorem kept_laneFailing {l : Nat} {lost : Bool} (h : Kept F s0 s) (h_erl : F .erl = true := by assumption)
    (h_fab : F .fab = true := by assumption) (h_fresh : F .fresh = true := by assumption)
    (h_hull : F .hull = true := by assumption) (h_ln : F .ln = true := by assumption)
    (h_regs : F .regs = true := by assumption) (h_wireOut : F .wireOut = true := by assumption) :
    Kept F s0 (State.laneFailing s l lost) := by
  unfold State.laneFailing
  simp (maxDischargeDepth := 60) +contextual [h, h_erl, h_fab, h_fresh, h_hull, h_ln, h_regs, h_wireOut]
  repeat' split
  all_goals simp_all (maxDischargeDepth := 60) +contextual

@[simp ↓] theorem kept_laneLoss {l : Nat} (h : Kept F s0 s) (h_erl : F .erl = true := by assumption)
    (h_fab : F .fab = true := by assumption) (h_fresh : F .fresh = true := by assumption)
    (h_hull : F .hull = true := by assumption) (h_ln : F .ln = true := by assumption)
    (h_regs : F .regs = true := by assumption) (h_wireOut : F .wireOut = true := by assumption) :
    Kept F s0 (State.laneLoss s l) := by
  unfold State.laneLoss
  split <;> simp (maxDischargeDepth := 60) +contextual [h, h_erl, h_fab, h_fresh, h_hull, h_ln, h_regs, h_wireOut]

@[simp ↓] theorem kept_laneLol {l : Nat} (h : Kept F s0 s) (h_erl : F .erl = true := by assumption)
    (h_fab : F .fab = true := by assumption) (h_fresh : F .fresh = true := by assumption)
    (h_hull : F .hull = true := by assumption) (h_ln : F .ln = true := by assumption)
    (h_regs : F .regs = true := by assumption) (h_wireOut : F .wireOut = true := by assumption) :
    Kept F s0 (State.laneLol s l) := by
  unfold State.laneLol
  simp (maxDischargeDepth := 60) +contextual [h, h_erl, h_fab, h_fresh, h_hull, h_ln, h_regs, h_wireOut]

@[simp ↓] theorem kept_laneStart {l : Nat} (h : Kept F s0 s) (h_erl : F .erl = true := by assumption)
    (h_fab : F .fab = true := by assumption) (h_fresh : F .fresh = true := by assumption)
    (h_hull : F .hull = true := by assumption) (h_ln : F .ln = true := by assumption)
    (h_regs : F .regs = true := by assumption) (h_wireOut : F .wireOut = true := by assumption) :
    Kept F s0 (State.laneStart s l) := by
  unfold State.laneStart
  simp (maxDischargeDepth := 60) +contextual [h, h_erl, h_fab, h_fresh, h_hull, h_ln, h_regs, h_wireOut]

@[simp ↓] theorem kept_laneOn {l : Nat} (h : Kept F s0 s) (h_erl : F .erl = true := by assumption)
    (h_fab : F .fab = true := by assumption) (h_fresh : F .fresh = true := by assumption)
    (h_hull : F .hull = true := by assumption) (h_ln : F .ln = true := by assumption)
    (h_regs : F .regs = true := by assumption) (h_wireOut : F .wireOut = true := by assumption) :
    Kept F s0 (State.laneOn s l) := by
  unfold State.laneOn
  simp (maxDischargeDepth := 60) +contextual [h, h_erl, h_fab, h_fresh, h_hull, h_ln, h_regs, h_wireOut]

@[simp ↓] theorem kept_laneRestart {l : Nat} (h : Kept F s0 s) (h_erl : F .erl = true := by assumption)
    (h_fab : F .fab = true := by assumption) (h_fresh : F .fresh = true := by assumption)
    (h_hull : F .hull = true := by assumption) (h_ln : F .ln = true := by assumption)
    (h_regs : F .regs = true := by assumption) (h_wireOut : F .wireOut = true := by assumption) :
    Kept F s0 (State.laneRestart s l) := by
  unfold State.laneRestart
  simp (maxDischargeDepth := 60) +contextual [h, h_erl, h_fab, h_fresh, h_hull, h_ln, h_regs, h_wireOut]

@[simp ↓] theorem kept_fecGood {l n : Nat} (h : Kept F s0 s) (h_ln : F .ln = true := by assumption)
    (h_regs : F .regs = true := by assumption) :
    Kept F s0 (State.fecGood s l n) := by
  unfold State.fecGood
  simp (maxDischargeDepth := 60) +contextual [h, h_ln, h_regs]

@[simp ↓] theorem kept_fecBad {l : Nat} (h : Kept F s0 s) (h_erl : F .erl = true := by assumption)
    (h_fab : F .fab = true := by assumption) (h_fresh : F .fresh = true := by assumption)
    (h_hull : F .hull = true := by assumption) (h_ln : F .ln = true := by assumption)
    (h_regs : F .regs = true := by assumption) (h_wireOut : F .wireOut = true := by assumption) :
    Kept F s0 (State.fecBad s l) := by
  unfold State.fecBad
  simp (maxDischargeDepth := 60) +contextual [h, h_erl, h_fab, h_fresh, h_hull, h_ln, h_regs, h_wireOut]

@[simp ↓] theorem kept_laneWarm {l : Nat} (h : Kept F s0 s) (h_ln : F .ln = true := by assumption)
    (h_wireOut : F .wireOut = true := by assumption) :
    Kept F s0 (State.laneWarm s l) := by
  unfold State.laneWarm
  simp (maxDischargeDepth := 60) +contextual [h, h_ln, h_wireOut]

@[simp ↓] theorem kept_frameDrop {l : Nat} {rest : Bool} (h : Kept F s0 s) (h_ln : F .ln = true := by assumption)
    (h_regs : F .regs = true := by assumption) :
    Kept F s0 (State.frameDrop s l rest) := by
  unfold State.frameDrop
  simp (maxDischargeDepth := 60) +contextual [h, h_ln, h_regs]

@[simp ↓] theorem kept_rxPut {w : Nat} {fs : List (Nat × List Byte)} (h : Kept F s0 s)
    (h_ln : F .ln = true := by assumption) :
    Kept F s0 (State.rxPut s w fs) := by
  unfold State.rxPut
  simp (maxDischargeDepth := 60) +contextual [h, h_ln]

@[simp ↓] theorem kept_frameDeliver {l : Nat} {f : Nat × List Byte} (h : Kept F s0 s)
    (h_ln : F .ln = true := by assumption) (h_regs : F .regs = true := by assumption) :
    Kept F s0 (State.frameDeliver s l f) := by
  unfold State.frameDeliver
  simp (maxDischargeDepth := 60) +contextual [h, h_ln, h_regs]
  repeat' split
  all_goals simp_all (maxDischargeDepth := 60) +contextual

@[simp ↓] theorem kept_frameOpen {l : Nat} {bs : List Byte} (h : Kept F s0 s)
    (h_fresh : F .fresh = true := by assumption) (h_ln : F .ln = true := by assumption) :
    Kept F s0 (State.frameOpen s l bs) := by
  unfold State.frameOpen
  simp (maxDischargeDepth := 60) +contextual [h, h_fresh, h_ln]

@[simp ↓] theorem kept_badBlock {l : Nat} (h : Kept F s0 s) (h_ln : F .ln = true := by assumption)
    (h_regs : F .regs = true := by assumption) :
    Kept F s0 (State.badBlock s l) := by
  unfold State.badBlock
  simp (maxDischargeDepth := 60) +contextual [h, h_ln, h_regs]

@[simp ↓] theorem kept_addLoad {l bits : Nat} (h : Kept F s0 s) (h_ln : F .ln = true := by assumption) :
    Kept F s0 (State.addLoad s l bits) := by
  unfold State.addLoad
  simp (maxDischargeDepth := 60) +contextual [h, h_ln]

@[simp ↓] theorem kept_laneDegraded {l : Nat} (h : Kept F s0 s) (h_ln : F .ln = true := by assumption)
    (h_regs : F .regs = true := by assumption) (h_wireOut : F .wireOut = true := by assumption) :
    Kept F s0 (State.laneDegraded s l) := by
  unfold State.laneDegraded
  simp (maxDischargeDepth := 60) +contextual [h, h_ln, h_regs, h_wireOut]

@[simp ↓] theorem kept_commaInterval {l : Nat} (h : Kept F s0 s) (h_fresh : F .fresh = true := by assumption)
    (h_ln : F .ln = true := by assumption) (h_regs : F .regs = true := by assumption)
    (h_wireOut : F .wireOut = true := by assumption) :
    Kept F s0 (State.commaInterval s l) := by
  unfold State.commaInterval
  simp only []
  simp (maxDischargeDepth := 60) +contextual [h, h_fresh, h_ln, h_regs, h_wireOut]

@[simp ↓] theorem kept_swapSettle {l : Nat} (h : Kept F s0 s) (h_erl : F .erl = true := by assumption)
    (h_ln : F .ln = true := by assumption) (h_regs : F .regs = true := by assumption)
    (h_wireOut : F .wireOut = true := by assumption) :
    Kept F s0 (State.swapSettle s l) := by
  unfold State.swapSettle
  split <;> simp (maxDischargeDepth := 60) +contextual [h, h_erl, h_ln, h_regs, h_wireOut]

@[simp ↓] theorem kept_takeStream {l count : Nat} {w : SwapSt} (h : Kept F s0 s)
    (h_erl : F .erl = true := by assumption) (h_ln : F .ln = true := by assumption)
    (h_regs : F .regs = true := by assumption) (h_wireOut : F .wireOut = true := by assumption) :
    Kept F s0 (State.takeStream s l count w) := by
  unfold State.takeStream
  simp (maxDischargeDepth := 60) +contextual [h, h_erl, h_ln, h_regs, h_wireOut]

@[simp ↓] theorem kept_switchAt {l count other : Nat} {onNew : Bool} {w : SwapSt} (h : Kept F s0 s)
    (h_erl : F .erl = true := by assumption) (h_ln : F .ln = true := by assumption)
    (h_regs : F .regs = true := by assumption) (h_wireOut : F .wireOut = true := by assumption) :
    Kept F s0 (State.switchAt s l count other onNew w) := by
  unfold State.switchAt
  simp (maxDischargeDepth := 60) +contextual [h, h_erl, h_ln, h_regs, h_wireOut]

@[simp ↓] theorem kept_swapComma {l sender count : Nat} {w : SwapSt} (h : Kept F s0 s)
    (h_erl : F .erl = true := by assumption) (h_fresh : F .fresh = true := by assumption)
    (h_ln : F .ln = true := by assumption) (h_regs : F .regs = true := by assumption)
    (h_wireOut : F .wireOut = true := by assumption) :
    Kept F s0 (State.swapComma s l sender count w) := by
  unfold State.swapComma
  simp (maxDischargeDepth := 60) +contextual [h, h_erl, h_fresh, h_ln, h_regs, h_wireOut]

@[simp ↓] theorem kept_swapOldComma {l count : Nat} {w : SwapSt} (h : Kept F s0 s)
    (h_erl : F .erl = true := by assumption) (h_ln : F .ln = true := by assumption)
    (h_regs : F .regs = true := by assumption) (h_wireOut : F .wireOut = true := by assumption) :
    Kept F s0 (State.swapOldComma s l count w) := by
  unfold State.swapOldComma
  simp (maxDischargeDepth := 60) +contextual [h, h_erl, h_ln, h_regs, h_wireOut]

@[simp ↓] theorem kept_commaIn {l : Nat} {block : List Byte} (h : Kept F s0 s)
    (h_erl : F .erl = true := by assumption) (h_fresh : F .fresh = true := by assumption)
    (h_ln : F .ln = true := by assumption) (h_regs : F .regs = true := by assumption)
    (h_wireOut : F .wireOut = true := by assumption) :
    Kept F s0 (State.commaIn s l block) := by
  unfold State.commaIn
  simp (maxDischargeDepth := 60) +contextual [h, h_erl, h_fresh, h_ln, h_regs, h_wireOut]
  repeat' split
  all_goals simp_all (maxDischargeDepth := 60) +contextual

@[simp ↓] theorem kept_nativeBlock {l sync : Nat} {b : List Byte} (h : Kept F s0 s)
    (h_erl : F .erl = true := by assumption) (h_fresh : F .fresh = true := by assumption)
    (h_ln : F .ln = true := by assumption) (h_regs : F .regs = true := by assumption)
    (h_wireOut : F .wireOut = true := by assumption) :
    Kept F s0 (State.nativeBlock s l sync b) := by
  unfold State.nativeBlock
  dsimp only
  repeat' split
  all_goals simp_all (maxDischargeDepth := 60) +contextual [h, h_erl, h_fresh, h_ln, h_regs, h_wireOut]

@[simp ↓] theorem kept_legacyBlock {l bits : Nat} {b : List Byte} (h : Kept F s0 s)
    (h_fresh : F .fresh = true := by assumption) (h_ln : F .ln = true := by assumption)
    (h_regs : F .regs = true := by assumption) :
    Kept F s0 (State.legacyBlock s l bits b) := by
  unfold State.legacyBlock
  simp (maxDischargeDepth := 60) +contextual [h, h_fresh, h_ln, h_regs]
  repeat' split
  all_goals simp_all (maxDischargeDepth := 60) +contextual

@[simp ↓] theorem kept_bumpComma {l n : Nat} {carried : Bool} (h : Kept F s0 s)
    (h_ln : F .ln = true := by assumption) :
    Kept F s0 (State.bumpComma s l n carried) := by
  unfold State.bumpComma
  split <;> simp (maxDischargeDepth := 60) +contextual [h, h_ln]

@[simp ↓] theorem kept_sendComma {l : Nat} {carried : Bool} {on : List Nat} (h : Kept F s0 s)
    (h_ln : F .ln = true := by assumption) (h_wireOut : F .wireOut = true := by assumption) :
    Kept F s0 (State.sendComma s l carried on) := by
  unfold State.sendComma
  simp (maxDischargeDepth := 60) +contextual [h, h_ln, h_wireOut]

@[simp ↓] theorem kept_swapNow {l : Nat} (h : Kept F s0 s) (h_ln : F .ln = true := by assumption)
    (h_wireOut : F .wireOut = true := by assumption) :
    Kept F s0 (State.swapNow s l) := by
  unfold State.swapNow
  simp (maxDischargeDepth := 60) +contextual [h, h_ln, h_wireOut]

@[simp ↓] theorem kept_spareAsked {p l : Nat} {sudden : Bool} (h : Kept F s0 s)
    (h_erl : F .erl = true := by assumption) (h_fab : F .fab = true := by assumption)
    (h_fresh : F .fresh = true := by assumption) (h_hull : F .hull = true := by assumption)
    (h_ln : F .ln = true := by assumption) (h_regs : F .regs = true := by assumption)
    (h_wireOut : F .wireOut = true := by assumption) :
    Kept F s0 (State.spareAsked s p l sudden) := by
  unfold State.spareAsked
  repeat' split
  all_goals simp (maxDischargeDepth := 60) +contextual [h, h_erl, h_fab, h_fresh, h_hull, h_ln, h_regs, h_wireOut]

@[simp ↓] theorem kept_laneRelease {l : Nat} (h : Kept F s0 s) (h_erl : F .erl = true := by assumption)
    (h_fab : F .fab = true := by assumption) (h_fresh : F .fresh = true := by assumption)
    (h_hull : F .hull = true := by assumption) (h_ln : F .ln = true := by assumption)
    (h_regs : F .regs = true := by assumption) (h_wireOut : F .wireOut = true := by assumption) :
    Kept F s0 (State.laneRelease s l) := by
  unfold State.laneRelease
  repeat' split
  all_goals simp (maxDischargeDepth := 60) +contextual [h, h_erl, h_fab, h_fresh, h_hull, h_ln, h_regs, h_wireOut]

@[simp ↓] theorem kept_deliver {l stamp : Nat} {f : QFrame} {bad : Bool} (h : Kept F s0 s)
    (h_ctxs : F .ctxs = true := by assumption) (h_fab : F .fab = true := by assumption)
    (h_hull : F .hull = true := by assumption) (h_tim : F .tim = true := by assumption) :
    Kept F s0 (State.deliver s l stamp f bad) := by
  unfold State.deliver
  split <;> simp (maxDischargeDepth := 60) +contextual [h, h_ctxs, h_fab, h_hull, h_tim]

@[simp ↓] theorem kept_forward {l stamp : Nat} {f : QFrame} (h : Kept F s0 s) (h_fab : F .fab = true := by assumption)
    (h_regs : F .regs = true := by assumption) :
    Kept F s0 (State.forward s l stamp f) := by
  unfold State.forward
  simp (maxDischargeDepth := 60) +contextual [h, h_fab, h_regs]
  repeat' split
  all_goals simp_all (maxDischargeDepth := 60) +contextual

@[simp ↓] theorem kept_frameIn {l stamp : Nat} {b : List Byte} {bad : Bool} (h : Kept F s0 s)
    (h_ctxs : F .ctxs = true := by assumption) (h_fab : F .fab = true := by assumption)
    (h_hull : F .hull = true := by assumption) (h_regs : F .regs = true := by assumption)
    (h_tim : F .tim = true := by assumption) :
    Kept F s0 (State.frameIn s l stamp b bad) := by
  unfold State.frameIn
  simp (maxDischargeDepth := 60) +contextual [h, h_ctxs, h_fab, h_hull, h_regs, h_tim]

@[simp ↓] theorem kept_productLost {c : Nat} {p : List Byte} (h : Kept F s0 s) (h_erl : F .erl = true := by assumption) (h_husk : F .husk = true := by assumption) (h_regs : F .regs = true := by assumption) :
    Kept F s0 (State.productLost s c p) := by
  unfold State.productLost
  simp (maxDischargeDepth := 60) +contextual [h, h_erl, h_husk, h_regs]
  repeat' split
  all_goals simp_all (maxDischargeDepth := 60) +contextual

@[simp ↓] theorem kept_carriedBad {l : Nat} {f : QFrame} (h : Kept F s0 s) (h_erl : F .erl = true := by assumption) (h_husk : F .husk = true := by assumption) (h_regs : F .regs = true := by assumption) :
    Kept F s0 (State.carriedBad s l f) := by
  unfold State.carriedBad
  simp (maxDischargeDepth := 60) +contextual [h, h_erl, h_husk, h_regs]

@[simp ↓] theorem kept_sendOn {l : Nat} {f : QFrame} (h : Kept F s0 s) (h_erl : F .erl = true := by assumption) (h_fab : F .fab = true := by assumption) (h_fresh : F .fresh = true := by assumption) (h_husk : F .husk = true := by assumption) (h_ln : F .ln = true := by assumption) (h_regs : F .regs = true := by assumption) (h_tim : F .tim = true := by assumption) (h_wireOut : F .wireOut = true := by assumption) :
    Kept F s0 (State.sendOn s l f) := by
  unfold State.sendOn
  extract_lets own s1 s2 s3 s4 down now s5 residence payload s6 bad s7 fb s8 bytes
  have h1 : Kept F s0 s1 := kept_leaveBuffer h
  have h2 : Kept F s0 s2 := kept_ite (fun _ => h1) fun _ => kept_spend h1
  have h3 : Kept F s0 s3 := kept_ite (fun _ => kept_pmc (kept_inc h2)) fun _ => h2
  have h4 : Kept F s0 s4 := kept_ite (fun _ => kept_inc h3) fun _ => h3
  have h5 : Kept F s0 s5 := by simp (maxDischargeDepth := 60) +contextual [s5, h4, h_fresh]
  clear_value s5
  have h6 : Kept F s0 s6 := by
    exact kept_ite (fun _ => kept_ite (fun _ => kept_ite (fun _ => kept_timeSent h5) fun _ => h5) fun _ => kept_stampTx h5)
      fun _ => h5
  clear_value s6
  have h7 : Kept F s0 s7 := by simp (maxDischargeDepth := 60) +contextual [s7, h6, h_erl, h_husk, h_regs]
  clear_value s7
  have h8 : Kept F s0 s8 := h7.mem rfl rfl (fun p hp => by cases p <;> first | rfl | simp_all) id
  clear_value s8
  exact kept_each (fun _ _ h => kept_sendFrame h) h8

@[simp ↓] theorem kept_pullHull {e : Nat} {d : HeldData} (h : Kept F s0 s) (h_fab : F .fab = true := by assumption)
    (h_hull : F .hull = true := by assumption) (h_regs : F .regs = true := by assumption) :
    Kept F s0 (State.pullHull s e d).1 := by
  unfold State.pullHull
  simp (maxDischargeDepth := 60) +contextual [h, h_fab, h_hull, h_regs]

theorem kept_sendVc {l vc : Nat} (h : Kept F s0 s) (h_erl : F .erl = true := by assumption) (h_fab : F .fab = true := by assumption)
    (h_fresh : F .fresh = true := by assumption) (h_husk : F .husk = true := by assumption) (h_ln : F .ln = true := by assumption)
    (h_regs : F .regs = true := by assumption) (h_tim : F .tim = true := by assumption)
    (h_wireOut : F .wireOut = true := by assumption) :
    ∀ x, (State.sendVc s l vc) = some x → Kept F s0 x := by
  unfold State.sendVc
  split <;> simp (maxDischargeDepth := 60) +contextual [h, h_erl, h_husk, h_fab, h_fresh, h_ln, h_regs, h_tim, h_wireOut]

theorem kept_sendData {l : Nat} (h : Kept F s0 s) (h_erl : F .erl = true := by assumption) (h_fab : F .fab = true := by assumption)
    (h_fresh : F .fresh = true := by assumption) (h_hull : F .hull = true := by assumption)
    (h_husk : F .husk = true := by assumption) (h_ln : F .ln = true := by assumption) (h_regs : F .regs = true := by assumption)
    (h_tim : F .tim = true := by assumption) (h_wireOut : F .wireOut = true := by assumption) :
    ∀ x, (State.sendData s l) = some x → Kept F s0 x := by
  intro x hx
  unfold State.sendData at hx
  split at hx
  · exact (kept_sendVc h) x hx
  · split at hx
    · split at hx
      · cases hx
        exact kept_sendOn (kept_pullHull h)
      · cases hx
    · cases hx

@[simp ↓] theorem kept_setRunCount {l n : Nat} (h : Kept F s0 s) (h_fab : F .fab = true := by assumption) :
    Kept F s0 (State.setRunCount s l n) := by
  unfold State.setRunCount
  simp (maxDischargeDepth := 60) +contextual [h, h_fab]

@[simp ↓] theorem kept_starveTick {n l : Nat} (h : Kept F s0 s) (h_fab : F .fab = true := by assumption) (h_regs : F .regs = true := by assumption) :
    Kept F s0 (State.starveTick s n l) := by
  unfold State.starveTick
  simp (maxDischargeDepth := 60) +contextual [h, h_fab, h_regs]
  repeat' split
  all_goals simp_all (maxDischargeDepth := 60) +contextual

@[simp ↓] theorem kept_sendShared {l : Nat} (h : Kept F s0 s) (h_erl : F .erl = true := by assumption) (h_fab : F .fab = true := by assumption)
    (h_fresh : F .fresh = true := by assumption) (h_hull : F .hull = true := by assumption)
    (h_husk : F .husk = true := by assumption) (h_ln : F .ln = true := by assumption) (h_regs : F .regs = true := by assumption)
    (h_tim : F .tim = true := by assumption) (h_wireOut : F .wireOut = true := by assumption) :
    Kept F s0 (State.sendShared s l) := by
  unfold State.sendShared
  have hd := kept_sendData (l := l) h
  have hv := kept_sendVc (l := l) (vc := 3) h
  simp only []
  split <;> rename_i ha hb
  · have := hd _ ha
    have := hv _ hb
    split <;> simp [*, h_erl, h_husk, h_fab, h_fresh, h_hull, h_ln, h_regs, h_tim, h_wireOut]
  · have := hd _ ha
    simp [*, h_erl, h_husk, h_fab, h_fresh, h_hull, h_ln, h_regs, h_tim, h_wireOut]
  · have := hv _ hb
    simp [*, h_erl, h_husk, h_fab, h_fresh, h_hull, h_ln, h_regs, h_tim, h_wireOut]
  · exact h

@[simp ↓] theorem kept_creditUp {l : Nat} (h : Kept F s0 s) (h_fab : F .fab = true := by assumption) :
    Kept F s0 (State.creditUp s l) := by
  unfold State.creditUp
  simp (maxDischargeDepth := 60) +contextual [h, h_fab]

@[simp ↓] theorem kept_localFilter {l st : Nat} (h : Kept F s0 s) (h_fab : F .fab = true := by assumption) :
    Kept F s0 (State.localFilter s l st) := by
  unfold State.localFilter
  simp (maxDischargeDepth := 60) +contextual [h, h_fab]

@[simp ↓] theorem kept_linkTo {l st : Nat} (h : Kept F s0 s) (h_fab : F .fab = true := by assumption)
    (h_hull : F .hull = true := by assumption) (h_regs : F .regs = true := by assumption) :
    Kept F s0 (State.linkTo s l st) := by
  unfold State.linkTo
  simp (maxDischargeDepth := 60) +contextual [h, h_fab, h_hull, h_regs]

@[simp ↓] theorem kept_takeCredits {l : Nat} {p : List Byte} (h : Kept F s0 s)
    (h_fab : F .fab = true := by assumption) :
    Kept F s0 (State.takeCredits s l p) := by
  unfold State.takeCredits
  simp (maxDischargeDepth := 60) +contextual [h, h_fab]

@[simp ↓] theorem kept_quarantine {l cause : Nat} (h : Kept F s0 s) (h_erl : F .erl = true := by assumption)
    (h_fab : F .fab = true := by assumption) (h_hull : F .hull = true := by assumption)
    (h_regs : F .regs = true := by assumption) :
    Kept F s0 (State.quarantine s l cause) := by
  unfold State.quarantine
  simp (maxDischargeDepth := 60) +contextual [h, h_erl, h_fab, h_hull, h_regs]

@[simp ↓] theorem kept_helloAccept {l : Nat} {p : List Byte} (h : Kept F s0 s)
    (h_fab : F .fab = true := by assumption) (h_regs : F .regs = true := by assumption) :
    Kept F s0 (State.helloAccept s l p) := by
  unfold State.helloAccept
  simp (maxDischargeDepth := 60) +contextual [h, h_fab, h_regs]

@[simp ↓] theorem kept_helloChecked {l : Nat} {p : List Byte} (h : Kept F s0 s)
    (h_dmc : F .dmc = true := by assumption) (h_erl : F .erl = true := by assumption)
    (h_fab : F .fab = true := by assumption) (h_hull : F .hull = true := by assumption)
    (h_regs : F .regs = true := by assumption) :
    Kept F s0 (State.helloChecked s l p) := by
  unfold State.helloChecked
  split <;> simp (maxDischargeDepth := 60) +contextual [h, h_dmc, h_erl, h_fab, h_hull, h_regs]

@[simp ↓] theorem kept_helloQuarantined {l : Nat} {p : List Byte} (h : Kept F s0 s)
    (h_fab : F .fab = true := by assumption) (h_hull : F .hull = true := by assumption)
    (h_regs : F .regs = true := by assumption) :
    Kept F s0 (State.helloQuarantined s l p) := by
  unfold State.helloQuarantined
  simp (maxDischargeDepth := 60) +contextual [h, h_fab, h_hull, h_regs]

@[simp ↓] theorem kept_adoptEpoch {r : ReachRep} (h : Kept F s0 s) (h_regs : F .regs = true := by assumption) :
    Kept F s0 (State.adoptEpoch s r) := by
  unfold State.adoptEpoch
  simp (maxDischargeDepth := 60) +contextual [h, h_regs]

@[simp ↓] theorem kept_setRole {r : Nat} (h : Kept F s0 s) (h_regs : F .regs = true := by assumption) :
    Kept F s0 (State.setRole s r) := by
  unfold State.setRole
  simp (maxDischargeDepth := 60) +contextual [h, h_regs]

@[simp ↓] theorem kept_setAnchor {a : Nat} (h : Kept F s0 s) (h_regs : F .regs = true := by assumption) :
    Kept F s0 (State.setAnchor s a) := by
  unfold State.setAnchor
  simp (maxDischargeDepth := 60) +contextual [h, h_regs]

@[simp ↓] theorem kept_setEpoch {e : Nat} (h : Kept F s0 s) (h_regs : F .regs = true := by assumption) :
    Kept F s0 (State.setEpoch s e) := by
  unfold State.setEpoch
  simp (maxDischargeDepth := 60) +contextual [h, h_regs]

@[simp ↓] theorem kept_clearRejoin (h : Kept F s0 s) (h_fab : F .fab = true := by assumption)
    (h_regs : F .regs = true := by assumption) :
    Kept F s0 (State.clearRejoin s) := by
  unfold State.clearRejoin
  simp (maxDischargeDepth := 60) +contextual [h, h_fab, h_regs]

@[simp ↓] theorem kept_fabStart (h : Kept F s0 s) (h_fab : F .fab = true := by assumption)
    (h_hull : F .hull = true := by assumption) (h_regs : F .regs = true := by assumption) :
    Kept F s0 (State.fabStart s) := by
  unfold State.fabStart
  simp (maxDischargeDepth := 60) +contextual [h, h_fab, h_hull, h_regs]

@[simp ↓] theorem kept_fabEnable (h : Kept F s0 s) (h_fab : F .fab = true := by assumption)
    (h_hull : F .hull = true := by assumption) (h_regs : F .regs = true := by assumption) :
    Kept F s0 (State.fabEnable s) := by
  unfold State.fabEnable
  simp (maxDischargeDepth := 60) +contextual [h, h_fab, h_hull, h_regs]

@[simp ↓] theorem kept_fabDisable (h : Kept F s0 s) (h_erl : F .erl = true := by assumption)
    (h_fab : F .fab = true := by assumption) (h_fresh : F .fresh = true := by assumption)
    (h_hull : F .hull = true := by assumption) (h_ln : F .ln = true := by assumption)
    (h_regs : F .regs = true := by assumption) (h_wireOut : F .wireOut = true := by assumption) :
    Kept F s0 (State.fabDisable s) := by
  unfold State.fabDisable
  simp (maxDischargeDepth := 60) +contextual [h, h_erl, h_fab, h_fresh, h_hull, h_ln, h_regs, h_wireOut]

@[simp ↓] theorem kept_rejoinTake {r : RejoinSt} (h : Kept F s0 s) (h_fab : F .fab = true := by assumption)
    (h_regs : F .regs = true := by assumption) :
    Kept F s0 (State.rejoinTake s r) := by
  unfold State.rejoinTake
  simp (maxDischargeDepth := 60) +contextual [h, h_fab, h_regs]

@[simp ↓] theorem kept_rejoinHold {r : RejoinSt} (h : Kept F s0 s) (h_fab : F .fab = true := by assumption)
    (h_regs : F .regs = true := by assumption) :
    Kept F s0 (State.rejoinHold s r) := by
  unfold State.rejoinHold
  split <;> simp (maxDischargeDepth := 60) +contextual [h, h_fab, h_regs]

@[simp ↓] theorem kept_rejoinWaits {n : Nat} {copies : List Nat} (h : Kept F s0 s) (h_fab : F .fab = true := by assumption) :
    Kept F s0 (State.rejoinWaits s n copies) := by
  unfold State.rejoinWaits
  simp (maxDischargeDepth := 60) +contextual [h, h_fab]

@[simp ↓] theorem kept_rejoinTo {n : Nat} (h : Kept F s0 s) (h_fab : F .fab = true := by assumption)
    (h_regs : F .regs = true := by assumption) :
    Kept F s0 (State.rejoinTo s n) := by
  unfold State.rejoinTo
  simp (maxDischargeDepth := 60) +contextual [h, h_fab, h_regs]

@[simp ↓] theorem kept_rejoinSend {epoch : Nat} {half : List Nat} (h : Kept F s0 s)
    (h_fab : F .fab = true := by assumption) (h_regs : F .regs = true := by assumption) :
    Kept F s0 (State.rejoinSend s epoch half) := by
  unfold State.rejoinSend
  simp (maxDischargeDepth := 60) +contextual [h, h_fab, h_regs]

@[simp ↓] theorem kept_rejoinCancel (h : Kept F s0 s) (h_fab : F .fab = true := by assumption)
    (h_regs : F .regs = true := by assumption) :
    Kept F s0 (State.rejoinCancel s) := by
  unfold State.rejoinCancel
  simp (maxDischargeDepth := 60) +contextual [h, h_fab, h_regs]

@[simp ↓] theorem kept_stayPrimary {half : List Nat} (h : Kept F s0 s) (h_fab : F .fab = true := by assumption)
    (h_regs : F .regs = true := by assumption) :
    Kept F s0 (State.stayPrimary s half) := by
  unfold State.stayPrimary
  simp (maxDischargeDepth := 60) +contextual [h, h_fab, h_regs]

@[simp ↓] theorem kept_becomePrimary {half : List Nat} (h : Kept F s0 s) (h_fab : F .fab = true := by assumption)
    (h_regs : F .regs = true := by assumption) :
    Kept F s0 (State.becomePrimary s half) := by
  have hs : Kept F s0 (if (s.fab.wasPrimary || s.seesRole 2) = true then (s.setRole 1).setAnchor (half.headD s.node)
      else ((s.setRole 1).setAnchor (half.headD s.node)).setEpoch 1) := by
    split <;> simp (maxDischargeDepth := 60) [h, h_fab, h_regs]
  unfold State.becomePrimary
  simp only []
  generalize (if (s.fab.wasPrimary || s.seesRole 2) = true then (s.setRole 1).setAnchor (half.headD s.node)
      else ((s.setRole 1).setAnchor (half.headD s.node)).setEpoch 1) = t at hs
  split <;> simp (maxDischargeDepth := 60) [hs, h_fab, h_regs]

@[simp ↓] theorem kept_mreadSend {v : BitVec 32} (h : Kept F s0 s) (h_fab : F .fab = true := by assumption)
    (h_regs : F .regs = true := by assumption) :
    Kept F s0 (State.mreadSend s v) := by
  unfold State.mreadSend
  simp (maxDischargeDepth := 60) +contextual [h, h_fab, h_regs]

@[simp ↓] theorem kept_lineBlock {l : Nat} {b : LineBlock} (h : Kept F s0 s) (h_erl : F .erl = true := by assumption)
    (h_fresh : F .fresh = true := by assumption) (h_ln : F .ln = true := by assumption)
    (h_regs : F .regs = true := by assumption) (h_wireOut : F .wireOut = true := by assumption) :
    Kept F s0 (State.lineBlock s l b) := by
  unfold State.lineBlock
  repeat' split
  all_goals simp (maxDischargeDepth := 60) +contextual [h, h_erl, h_fresh, h_ln, h_regs, h_wireOut]

@[simp ↓] theorem kept_rejoinEnd {r : RejoinSt} (h : Kept F s0 s) (h_fab : F .fab = true := by assumption)
    (h_regs : F .regs = true := by assumption) :
    Kept F s0 (State.rejoinEnd s r) := by
  unfold State.rejoinEnd
  simp (maxDischargeDepth := 60) +contextual [h, h_fab, h_regs]

@[simp ↓] theorem kept_rejoinDue (h : Kept F s0 s) (h_fab : F .fab = true := by assumption)
    (h_regs : F .regs = true := by assumption) :
    Kept F s0 (State.rejoinDue s) := by
  unfold State.rejoinDue
  split <;> simp (maxDischargeDepth := 60) +contextual [h, h_fab, h_regs]

end Sys2Proof.Machine
end

