-- ==== Sys2Proof/Laws/KeptBus.lean ====
section
/-! SUPPORT. The operations of the memory controllers and the register buses leave the queue and the power block alone and keep the stores canonical:
one lemma per operation. -/

set_option Elab.async false
set_option linter.unusedSimpArgs false

namespace Sys2Proof.Machine

variable {F : Part → Bool} {s0 s : State}

@[simp ↓] theorem kept_lineStore {a : Nat} {w : LineWrite} (h : Kept F s0 s) (h_dmc : F .dmc = true := by assumption)
    (h_erl : F .erl = true := by assumption) (h_hbm : F .hbm = true := by assumption)
    (h_hbmBad : F .hbmBad = true := by assumption) (h_regs : F .regs = true := by assumption) :
    Kept F s0 (State.lineStore s a w) := by
  unfold State.lineStore
  simp (maxDischargeDepth := 60) +contextual [h, h_dmc, h_erl, h_hbm, h_hbmBad, h_regs]

@[simp ↓] theorem kept_severeNote {a : Nat} {bursts : List Nat} (h : Kept F s0 s) (h_dmc : F .dmc = true := by assumption) :
    Kept F s0 (State.severeNote s a bursts) := by
  unfold State.severeNote
  simp (maxDischargeDepth := 60) +contextual [h, h_dmc]

@[simp ↓] theorem kept_lineFetch {a pc k : Nat} (h : Kept F s0 s) (h_dmc : F .dmc = true := by assumption) (h_erl : F .erl = true := by assumption) (h_regs : F .regs = true := by assumption) (h_wireOut : F .wireOut = true := by assumption) :
    Kept F s0 (State.lineFetch s a pc k) := by
  unfold State.lineFetch
  simp (maxDischargeDepth := 60) +contextual [h, h_dmc, h_erl, h_regs, h_wireOut]

@[simp ↓] theorem kept_pcIssue {pc : Nat} (h : Kept F s0 s) (h_dmc : F .dmc = true := by assumption) :
    Kept F s0 (State.pcIssue s pc) := by
  unfold State.pcIssue
  simp (maxDischargeDepth := 60) +contextual [h, h_dmc]
  repeat' split
  all_goals simp_all (maxDischargeDepth := 60) +contextual

@[simp ↓] theorem kept_pcIssues {n pc : Nat} (h : Kept F s0 s) (h_dmc : F .dmc = true := by assumption) :
    Kept F s0 (State.pcIssues n pc s) := by
  induction n generalizing s with
  | zero => exact h
  | succ n ih => exact ih (kept_pcIssue h)

@[simp ↓] theorem kept_pcTime {pc : Nat} (h : Kept F s0 s) (h_dmc : F .dmc = true := by assumption)
    (h_fresh : F .fresh = true := by assumption) :
    Kept F s0 (State.pcTime s pc) := by
  unfold State.pcTime
  simp (maxDischargeDepth := 60) +contextual [h, h_dmc, h_fresh]

@[simp ↓] theorem kept_lineRequest {a : Nat} {w : Option LineWrite} (h : Kept F s0 s) (h_dmc : F .dmc = true := by assumption) (h_erl : F .erl = true := by assumption) (h_fresh : F .fresh = true := by assumption) (h_hbm : F .hbm = true := by assumption) (h_hbmBad : F .hbmBad = true := by assumption) (h_regs : F .regs = true := by assumption) (h_wireOut : F .wireOut = true := by assumption) :
    Kept F s0 (State.lineRequest s a w) := by
  unfold State.lineRequest
  repeat' split
  all_goals simp (maxDischargeDepth := 60) +contextual [h, h_dmc, h_erl, h_fresh, h_hbm, h_hbmBad, h_regs, h_wireOut]

@[simp ↓] theorem kept_setOwed {pc n : Nat} (h : Kept F s0 s) (h_dmc : F .dmc = true := by assumption)
    (h_regs : F .regs = true := by assumption) :
    Kept F s0 (State.setOwed s pc n) := by
  unfold State.setOwed
  simp (maxDischargeDepth := 60) +contextual [h, h_dmc, h_regs]

@[simp ↓] theorem kept_noteStale (h : Kept F s0 s) (h_regs : F .regs = true := by assumption) :
    Kept F s0 (State.noteStale s) := by
  unfold State.noteStale
  simp (maxDischargeDepth := 60) +contextual [h, h_regs]

@[simp ↓] theorem kept_pcTag {pc load : Nat} (h : Kept F s0 s) (h_dmc : F .dmc = true := by assumption)
    (h_regs : F .regs = true := by assumption) :
    Kept F s0 (State.pcTag s pc load) := by
  unfold State.pcTag
  simp (maxDischargeDepth := 60) +contextual [h, h_dmc, h_regs]

@[simp ↓] theorem kept_pcStall {pc n : Nat} (h : Kept F s0 s) (h_dmc : F .dmc = true := by assumption) :
    Kept F s0 (State.pcStall s pc n) := by
  unfold State.pcStall
  simp (maxDischargeDepth := 60) +contextual [h, h_dmc]

@[simp ↓] theorem kept_pcRetrain {pc : Nat} (h : Kept F s0 s) (h_dmc : F .dmc = true := by assumption)
    (h_fresh : F .fresh = true := by assumption) (h_regs : F .regs = true := by assumption) :
    Kept F s0 (State.pcRetrain s pc) := by
  unfold State.pcRetrain
  simp (maxDischargeDepth := 60) +contextual [h, h_dmc, h_fresh, h_regs]

@[simp ↓] theorem kept_pcStaleCheck {pc : Nat} (h : Kept F s0 s) (h_regs : F .regs = true := by assumption) :
    Kept F s0 (State.pcStaleCheck s pc) := by
  unfold State.pcStaleCheck
  simp (maxDischargeDepth := 60) +contextual [h, h_regs]

@[simp ↓] theorem kept_recount {n : Nat} {hot : Bool} (h : Kept F s0 s) (h_dmc : F .dmc = true := by assumption)
    (h_regs : F .regs = true := by assumption) :
    Kept F s0 (State.recount s n hot) := by
  unfold State.recount
  simp (maxDischargeDepth := 60) +contextual [h, h_dmc, h_regs]

@[simp ↓] theorem kept_slotsValid (h : Kept F s0 s) (h_regs : F .regs = true := by assumption) :
    Kept F s0 (State.slotsValid s) := by
  unfold State.slotsValid
  simp (maxDischargeDepth := 60) +contextual [h, h_regs]

@[simp ↓] theorem kept_pcAside {p v : Nat} (h : Kept F s0 s) (h_dmc : F .dmc = true := by assumption) (h_regs : F .regs = true := by assumption) :
    Kept F s0 (State.pcAside s p v) := by
  unfold State.pcAside
  simp (maxDischargeDepth := 60) +contextual [h, h_dmc, h_regs]

@[simp ↓] theorem kept_dmcStart (h : Kept F s0 s) (h_dmc : F .dmc = true := by assumption)
    (h_regs : F .regs = true := by assumption) :
    Kept F s0 (State.dmcStart s) := by
  unfold State.dmcStart
  simp (maxDischargeDepth := 60) +contextual [h, h_dmc, h_regs]

@[simp ↓] theorem kept_noteReady (h : Kept F s0 s) (h_regs : F .regs = true := by assumption) :
    Kept F s0 (State.noteReady s) := by
  unfold State.noteReady
  simp (maxDischargeDepth := 60) +contextual [h, h_regs]

@[simp ↓] theorem kept_dmcWarm (h : Kept F s0 s) (h_regs : F .regs = true := by assumption) :
    Kept F s0 (State.dmcWarm s) := by
  unfold State.dmcWarm
  simp (maxDischargeDepth := 60) +contextual [h, h_regs]

@[simp ↓] theorem kept_refreshed {pc : Nat} (h : Kept F s0 s) (h_dmc : F .dmc = true := by assumption)
    (h_regs : F .regs = true := by assumption) :
    Kept F s0 (State.refreshed s pc) := by
  unfold State.refreshed
  simp (maxDischargeDepth := 60) +contextual [h, h_dmc, h_regs]

@[simp ↓] theorem kept_refreshAll {n pc : Nat} (h : Kept F s0 s) (h_dmc : F .dmc = true := by assumption)
    (h_regs : F .regs = true := by assumption) :
    Kept F s0 (State.refreshAll n pc s) := by
  induction n generalizing s with
  | zero => exact h
  | succ n ih => exact ih (kept_refreshed h)

@[simp ↓] theorem kept_selfRefresh (h : Kept F s0 s) (h_dmc : F .dmc = true := by assumption) (h_regs : F .regs = true := by assumption) :
    Kept F s0 (State.selfRefresh s) := by
  unfold State.selfRefresh
  simp (maxDischargeDepth := 60) +contextual [h, h_dmc, h_regs]

@[simp ↓] theorem kept_retireCmd {v : BitVec 32} (h : Kept F s0 s) (h_dmc : F .dmc = true := by assumption)
    (h_erl : F .erl = true := by assumption) (h_regs : F .regs = true := by assumption) :
    Kept F s0 (State.retireCmd s v) := by
  unfold State.retireCmd
  simp (maxDischargeDepth := 60) +contextual [h, h_dmc, h_erl, h_regs]

@[simp ↓] theorem kept_pcFault {p : Nat} (h : Kept F s0 s) (h_dmc : F .dmc = true := by assumption) (h_erl : F .erl = true := by assumption) (h_regs : F .regs = true := by assumption) :
    Kept F s0 (State.pcFault s p) := by
  unfold State.pcFault
  simp (maxDischargeDepth := 60) +contextual [h, h_dmc, h_erl, h_regs]

@[simp ↓] theorem kept_dmwRead {off : Nat} (h : Kept F s0 s) (h_dmc : F .dmc = true := by assumption)
    (h_erl : F .erl = true := by assumption) (h_regs : F .regs = true := by assumption) :
    Kept F s0 (State.dmwRead s off).2 := by
  unfold State.dmwRead
  simp (maxDischargeDepth := 60) +contextual [h, h_dmc, h_erl, h_regs]

@[simp ↓] theorem kept_dmwWrite {off : Nat} {v : BitVec 32} (h : Kept F s0 s) (h_dmc : F .dmc = true := by assumption)
    (h_erl : F .erl = true := by assumption) (h_hbm : F .hbm = true := by assumption)
    (h_hbmBad : F .hbmBad = true := by assumption) (h_regs : F .regs = true := by assumption) :
    Kept F s0 (State.dmwWrite s off v) := by
  unfold State.dmwWrite
  simp (maxDischargeDepth := 60) +contextual [h, h_dmc, h_erl, h_hbm, h_hbmBad, h_regs]

@[simp ↓] theorem kept_latch {a : Nat} (h : Kept F s0 s) (h_shadow : F .shadow = true := by assumption) :
    Kept F s0 (State.latch s a) := by
  unfold State.latch
  simp (maxDischargeDepth := 60) +contextual [h, h_shadow]

@[simp ↓] theorem kept_latchFab {a : Nat} (h : Kept F s0 s) (h_shadowFab : F .shadowFab = true := by assumption) :
    Kept F s0 (State.latchFab s a) := by
  unfold State.latchFab
  simp (maxDischargeDepth := 60) +contextual [h, h_shadowFab]

@[simp ↓] theorem kept_logPop (h : Kept F s0 s) (h_regs : F .regs = true := by assumption)
    (h_shadow : F .shadow = true := by assumption) :
    Kept F s0 (State.logPop s) := by
  unfold State.logPop
  simp (maxDischargeDepth := 60) +contextual [h, h_regs, h_shadow]

@[simp ↓] theorem kept_popReg {a : Nat} (h : Kept F s0 s) (h_cnt : F .cnt = true := by assumption)
    (h_regs : F .regs = true := by assumption) (h_shadow : F .shadow = true := by assumption)
    (h_tim : F .tim = true := by assumption) :
    Kept F s0 (State.popReg s a) := by
  unfold State.popReg
  simp (maxDischargeDepth := 60) +contextual [h, h_cnt, h_regs, h_shadow, h_tim]

@[simp ↓] theorem kept_fetchReg {i a : Nat} (h : Kept F s0 s) (h_dmc : F .dmc = true := by assumption)
    (h_erl : F .erl = true := by assumption) (h_regs : F .regs = true := by assumption)
    (h_shadow : F .shadow = true := by assumption) :
    Kept F s0 (State.fetchReg s i a).2 := by
  unfold State.fetchReg
  repeat' split
  all_goals simp (maxDischargeDepth := 60) +contextual [h, h_dmc, h_erl, h_regs, h_shadow]

@[simp ↓] theorem kept_mreadServe {src : Nat} {p : List Byte} (h : Kept F s0 s)
    (h_fab : F .fab = true := by assumption) (h_regs : F .regs = true := by assumption)
    (h_shadowFab : F .shadowFab = true := by assumption) :
    Kept F s0 (State.mreadServe s src p) := by
  unfold State.mreadServe
  simp (maxDischargeDepth := 60) +contextual [h, h_fab, h_regs, h_shadowFab]

@[simp ↓] theorem kept_scl (h : Kept F s0 s) (h_i3c : F .i3c = true := by assumption) :
    Kept F s0 (State.scl s) := by
  unfold State.scl
  simp (maxDischargeDepth := 60) +contextual [h, h_i3c]

@[simp ↓] theorem kept_onBus {f : State → State} (hf : ∀ s, Kept F s0 s → Kept F s0 (f s)) (h : Kept F s0 s)
    (h_i3c : F .i3c = true := by assumption) :
    Kept F s0 (State.onBus s f) := by
  unfold State.onBus
  simp (maxDischargeDepth := 60) +contextual [h, hf, h_i3c]

@[simp ↓] theorem kept_direct {f : State → State} (hf : ∀ s, Kept F s0 s → Kept F s0 (f s)) (h : Kept F s0 s)
    (h_i3c : F .i3c = true := by assumption) (h_wireOut : F .wireOut = true := by assumption) :
    Kept F s0 (State.direct s f) := by
  unfold State.direct
  simp (maxDischargeDepth := 60) +contextual [h, hf, h_i3c, h_wireOut]

@[simp ↓] theorem kept_setI3c {x : I3cSt} (h : Kept F s0 s) (h_i3c : F .i3c = true := by assumption) :
    Kept F s0 (State.setI3c s x) := by
  unfold State.setI3c
  simp (maxDischargeDepth := 60) +contextual [h, h_i3c]

@[simp ↓] theorem kept_answer {bs : List Byte} (h : Kept F s0 s) (h_wireOut : F .wireOut = true := by assumption) :
    Kept F s0 (State.answer s bs) := by
  unfold State.answer
  simp (maxDischargeDepth := 60) +contextual [h, h_wireOut]

@[simp ↓] theorem kept_busEvent {bit : Nat} (h : Kept F s0 s) (h_erl : F .erl = true := by assumption)
    (h_regs : F .regs = true := by assumption) :
    Kept F s0 (State.busEvent s bit) := by
  unfold State.busEvent
  simp (maxDischargeDepth := 60) +contextual [h, h_erl, h_regs]

@[simp ↓] theorem kept_busError {bit : Nat} (h : Kept F s0 s) (h_erl : F .erl = true := by assumption)
    (h_i3c : F .i3c = true := by assumption) (h_regs : F .regs = true := by assumption) :
    Kept F s0 (State.busError s bit) := by
  unfold State.busError
  simp (maxDischargeDepth := 60) +contextual [h, h_erl, h_i3c, h_regs]

@[simp ↓] theorem kept_setDa {da : Nat} (h : Kept F s0 s) (h_i3c : F .i3c = true := by assumption) (h_regs : F .regs = true := by assumption) :
    Kept F s0 (State.setDa s da) := by
  unfold State.setDa
  simp (maxDischargeDepth := 60) +contextual [h, h_i3c, h_regs]

@[simp ↓] theorem kept_clearDa (h : Kept F s0 s) (h_i3c : F .i3c = true := by assumption)
    (h_regs : F .regs = true := by assumption) :
    Kept F s0 (State.clearDa s) := by
  unfold State.clearDa
  simp (maxDischargeDepth := 60) +contextual [h, h_i3c, h_regs]

@[simp ↓] theorem kept_targetReset (h : Kept F s0 s) (h_i3c : F .i3c = true := by assumption)
    (h_regs : F .regs = true := by assumption) :
    Kept F s0 (State.targetReset s) := by
  unfold State.targetReset
  simp (maxDischargeDepth := 60) +contextual [h, h_i3c, h_regs]

@[simp ↓] theorem kept_writeNack (h : Kept F s0 s) (h_regs : F .regs = true := by assumption)
    (h_wireOut : F .wireOut = true := by assumption) :
    Kept F s0 (State.writeNack s) := by
  unfold State.writeNack
  simp (maxDischargeDepth := 60) +contextual [h, h_regs, h_wireOut]

@[simp ↓] theorem kept_postWrite {bs : List Byte} (h : Kept F s0 s) (h_i3c : F .i3c = true := by assumption) :
    Kept F s0 (State.postWrite s bs) := by
  unfold State.postWrite
  simp (maxDischargeDepth := 60) +contextual [h, h_i3c]

@[simp ↓] theorem kept_takeWrite {bs : List Byte} (h : Kept F s0 s) (h_erl : F .erl = true := by assumption)
    (h_i3c : F .i3c = true := by assumption) (h_regs : F .regs = true := by assumption) :
    Kept F s0 (State.takeWrite s bs) := by
  unfold State.takeWrite
  simp (maxDischargeDepth := 60) +contextual [h, h_erl, h_i3c, h_regs]

@[simp ↓] theorem kept_clipWrite {bs : List Byte} (h : Kept F s0 s) (h_erl : F .erl = true := by assumption)
    (h_regs : F .regs = true := by assumption) :
    Kept F s0 (State.clipWrite s bs).2 := by
  unfold State.clipWrite
  simp (maxDischargeDepth := 60) +contextual [h, h_erl, h_regs]

@[simp ↓] theorem kept_prefetch (h : Kept F s0 s) (h_dmc : F .dmc = true := by assumption)
    (h_erl : F .erl = true := by assumption) (h_i3c : F .i3c = true := by assumption)
    (h_regs : F .regs = true := by assumption) (h_shadow : F .shadow = true := by assumption) :
    Kept F s0 (State.prefetch s) := by
  unfold State.prefetch
  simp (maxDischargeDepth := 60) +contextual [h, h_dmc, h_erl, h_i3c, h_regs, h_shadow]

@[simp ↓] theorem kept_readShort (h : Kept F s0 s) (h_regs : F .regs = true := by assumption) :
    Kept F s0 (State.readShort s) := by
  unfold State.readShort
  simp (maxDischargeDepth := 60) +contextual [h, h_regs]

@[simp ↓] theorem kept_regSent (h : Kept F s0 s) (h_cnt : F .cnt = true := by assumption)
    (h_i3c : F .i3c = true := by assumption) (h_regs : F .regs = true := by assumption)
    (h_shadow : F .shadow = true := by assumption) (h_tim : F .tim = true := by assumption) :
    Kept F s0 (State.regSent s) := by
  unfold State.regSent
  simp (maxDischargeDepth := 60) +contextual [h, h_cnt, h_i3c, h_regs, h_shadow, h_tim]

@[simp ↓] theorem kept_sendBytes {fuel n : Nat} {first : Bool} {sent : List Byte} (h : Kept F s0 s)
    (h_cnt : F .cnt = true := by assumption) (h_dmc : F .dmc = true := by assumption)
    (h_erl : F .erl = true := by assumption) (h_fresh : F .fresh = true := by assumption)
    (h_i3c : F .i3c = true := by assumption) (h_regs : F .regs = true := by assumption)
    (h_shadow : F .shadow = true := by assumption) (h_tim : F .tim = true := by assumption) :
    Kept F s0 (State.sendBytes s fuel n first sent).2 := by
  induction fuel generalizing s n first sent with
  | zero => exact h
  | succ fuel ih =>
    have hs : Kept F s0 (if s.i3c.prefetch.isEmpty then s.draw.prefetch else s) := by
      split <;> simp [h, h_cnt, h_dmc, h_erl, h_fresh, h_i3c, h_regs, h_shadow, h_tim]
    have hr : Kept F s0 (if first then s else s.draw).readShort := by
      split <;> simp [h, h_cnt, h_dmc, h_erl, h_fresh, h_i3c, h_regs, h_shadow, h_tim]
    unfold State.sendBytes
    simp only []
    generalize (if s.i3c.prefetch.isEmpty then s.draw.prefetch else s) = t at hs
    generalize (if first then s else s.draw).readShort = u at hr
    split
    · exact h
    · split
      · exact hr
      · split
        · exact hs
        · exact ih (by simp [hs, h_cnt, h_dmc, h_erl, h_fresh, h_i3c, h_regs, h_shadow, h_tim])

@[simp ↓] theorem kept_privateRead {len : Nat} (h : Kept F s0 s) (h_cnt : F .cnt = true := by assumption)
    (h_dmc : F .dmc = true := by assumption) (h_erl : F .erl = true := by assumption)
    (h_fresh : F .fresh = true := by assumption) (h_i3c : F .i3c = true := by assumption)
    (h_regs : F .regs = true := by assumption) (h_shadow : F .shadow = true := by assumption)
    (h_tim : F .tim = true := by assumption) (h_wireOut : F .wireOut = true := by assumption) :
    Kept F s0 (State.privateRead s len) := by
  unfold State.privateRead
  simp (maxDischargeDepth := 60) +contextual [h, h_cnt, h_dmc, h_erl, h_fresh, h_i3c, h_regs, h_shadow, h_tim,
      h_wireOut]

@[simp ↓] theorem kept_ackPrune (h : Kept F s0 s) (h_i3c : F .i3c = true := by assumption) :
    Kept F s0 (State.ackPrune s) := by
  unfold State.ackPrune
  simp (maxDischargeDepth := 60) +contextual [h, h_i3c]

@[simp ↓] theorem kept_rowWrite {init a : Nat} {v : BitVec 32} (h : Kept F s0 s)
    (h_erl : F .erl = true := by assumption) (h_regs : F .regs = true := by assumption) :
    Kept F s0 (State.rowWrite s init a v) := by
  unfold State.rowWrite
  split <;> simp (maxDischargeDepth := 60) +contextual [h, h_erl, h_regs]

@[simp ↓] theorem kept_enableWrite {init : Nat} {f : Fld} {v : BitVec 32} {on : State → State} {off : State → State}
    (hon : ∀ s, Kept F s0 s → Kept F s0 (on s)) (hoff : ∀ s, Kept F s0 s → Kept F s0 (off s)) (h : Kept F s0 s)
    (h_erl : F .erl = true := by assumption) (h_regs : F .regs = true := by assumption) :
    Kept F s0 (State.enableWrite s init f v on off) := by
  unfold State.enableWrite
  simp (maxDischargeDepth := 60) +contextual [h, hon, hoff, h_erl, h_regs]

@[simp ↓] theorem kept_storeWrite {init a key : Nat} {v : BitVec 32} {o : Bool} (h : Kept F s0 s)
    (h_erl : F .erl = true := by assumption) (h_regs : F .regs = true := by assumption) :
    Kept F s0 (State.storeWrite s init a key v o) := by
  unfold State.storeWrite
  simp (maxDischargeDepth := 60) +contextual [h, h_erl, h_regs]

@[simp ↓] theorem kept_writeGlb {init a : Nat} {v : BitVec 32} (h : Kept F s0 s)
    (h_array : F .array = true := by assumption) (h_ctxs : F .ctxs = true := by assumption)
    (h_erl : F .erl = true := by assumption) (h_fab : F .fab = true := by assumption)
    (h_fch : F .fch = true := by assumption) (h_hull : F .hull = true := by assumption)
    (h_husk : F .husk = true := by assumption) (h_i3c : F .i3c = true := by assumption)
    (h_ln : F .ln = true := by assumption) (h_mtx : F .mtx = true := by assumption) (h_regs : F .regs = true := by assumption)
    (h_shadowFab : F .shadowFab = true := by assumption) :
    Kept F s0 (State.writeGlb s init a v) := by
  unfold State.writeGlb
  simp (maxDischargeDepth := 60) +contextual [h, h_array, h_ctxs, h_erl, h_fab, h_fch, h_hull, h_husk, h_i3c, h_ln, h_mtx,
      h_regs, h_shadowFab]

@[simp ↓] theorem kept_tmbCmd {v : BitVec 32} (h : Kept F s0 s) (h_regs : F .regs = true := by assumption)
    (h_tim : F .tim = true := by assumption) :
    Kept F s0 (State.tmbCmd s v) := by
  unfold State.tmbCmd
  simp (maxDischargeDepth := 60) +contextual [h, h_regs, h_tim]

@[simp ↓] theorem kept_writeTime {init a : Nat} {v : BitVec 32} (h : Kept F s0 s)
    (h_erl : F .erl = true := by assumption) (h_fresh : F .fresh = true := by assumption)
    (h_regs : F .regs = true := by assumption) (h_tim : F .tim = true := by assumption) :
    Kept F s0 (State.writeTime s init a v) := by
  unfold State.writeTime
  simp (maxDischargeDepth := 60) +contextual [h, h_erl, h_fresh, h_regs, h_tim]

@[simp ↓] theorem kept_laneCmd {l : Nat} {v : BitVec 32} (h : Kept F s0 s) (h_erl : F .erl = true := by assumption)
    (h_fab : F .fab = true := by assumption) (h_fresh : F .fresh = true := by assumption)
    (h_hull : F .hull = true := by assumption) (h_ln : F .ln = true := by assumption)
    (h_regs : F .regs = true := by assumption) (h_wireOut : F .wireOut = true := by assumption) :
    Kept F s0 (State.laneCmd s l v) := by
  unfold State.laneCmd
  simp (maxDischargeDepth := 60) +contextual [h, h_erl, h_fab, h_fresh, h_hull, h_ln, h_regs, h_wireOut]

@[simp ↓] theorem kept_laneOff {l : Nat} (h : Kept F s0 s) (h_erl : F .erl = true := by assumption)
    (h_fab : F .fab = true := by assumption) (h_fresh : F .fresh = true := by assumption)
    (h_hull : F .hull = true := by assumption) (h_ln : F .ln = true := by assumption)
    (h_regs : F .regs = true := by assumption) (h_wireOut : F .wireOut = true := by assumption) :
    Kept F s0 (State.laneOff s l) := by
  unfold State.laneOff
  simp (maxDischargeDepth := 60) +contextual [h, h_erl, h_fab, h_fresh, h_hull, h_ln, h_regs, h_wireOut]

@[simp ↓] theorem kept_writeLane {init a : Nat} {v : BitVec 32} (h : Kept F s0 s)
    (h_erl : F .erl = true := by assumption) (h_fab : F .fab = true := by assumption)
    (h_fresh : F .fresh = true := by assumption) (h_hull : F .hull = true := by assumption)
    (h_ln : F .ln = true := by assumption) (h_regs : F .regs = true := by assumption)
    (h_wireOut : F .wireOut = true := by assumption) :
    Kept F s0 (State.writeLane s init a v) := by
  unfold State.writeLane
  simp (maxDischargeDepth := 60) +contextual [h, h_erl, h_fab, h_fresh, h_hull, h_ln, h_regs, h_wireOut]

@[simp ↓] theorem kept_writeFab {init a : Nat} {v : BitVec 32} (h : Kept F s0 s)
    (h_erl : F .erl = true := by assumption) (h_fab : F .fab = true := by assumption)
    (h_fresh : F .fresh = true := by assumption) (h_hull : F .hull = true := by assumption)
    (h_ln : F .ln = true := by assumption) (h_regs : F .regs = true := by assumption)
    (h_wireOut : F .wireOut = true := by assumption) :
    Kept F s0 (State.writeFab s init a v) := by
  unfold State.writeFab
  simp (maxDischargeDepth := 60) +contextual [h, h_erl, h_fab, h_fresh, h_hull, h_ln, h_regs, h_wireOut]

@[simp ↓] theorem kept_writeFch {init a : Nat} {v : BitVec 32} (h : Kept F s0 s)
    (h_erl : F .erl = true := by assumption) (h_fch : F .fch = true := by assumption)
    (h_gain : F .gain = true := by assumption) (h_regs : F .regs = true := by assumption) :
    Kept F s0 (State.writeFch s init a v) := by
  unfold State.writeFch
  simp (maxDischargeDepth := 60) +contextual [h, h_erl, h_fch, h_gain, h_regs]

@[simp ↓] theorem kept_writeHull {init a : Nat} {v : BitVec 32} (h : Kept F s0 s)
    (h_array : F .array = true := by assumption) (h_erl : F .erl = true := by assumption) (h_hull : F .hull = true := by assumption)
    (h_regs : F .regs = true := by assumption) :
    Kept F s0 (State.writeHull s init a v) := by
  unfold State.writeHull
  simp (maxDischargeDepth := 60) +contextual [h, h_array, h_erl, h_hull, h_regs]

@[simp ↓] theorem kept_writePod {init a : Nat} {v : BitVec 32} (h : Kept F s0 s)
    (h_array : F .array = true := by assumption) (h_ctxs : F .ctxs = true := by assumption)
    (h_erl : F .erl = true := by assumption) (h_fresh : F .fresh = true := by assumption)
    (h_husk : F .husk = true := by assumption) (h_img : F .img = true := by assumption)
    (h_regs : F .regs = true := by assumption) :
    Kept F s0 (State.writePod s init a v) := by
  unfold State.writePod
  simp (maxDischargeDepth := 60) +contextual [h, h_array, h_ctxs, h_erl, h_fresh, h_husk, h_img, h_regs]

@[simp ↓] theorem kept_writeHusk {init a : Nat} {v : BitVec 32} (h : Kept F s0 s)
    (h_erl : F .erl = true := by assumption) (h_regs : F .regs = true := by assumption) :
    Kept F s0 (State.writeHusk s init a v) := by
  unfold State.writeHusk
  simp (maxDischargeDepth := 60) +contextual [h, h_erl, h_regs]

@[simp ↓] theorem kept_writeCtx {init a : Nat} {v : BitVec 32} (h : Kept F s0 s)
    (h_ctxs : F .ctxs = true := by assumption) (h_erl : F .erl = true := by assumption)
    (h_regs : F .regs = true := by assumption) :
    Kept F s0 (State.writeCtx s init a v) := by
  unfold State.writeCtx
  simp (maxDischargeDepth := 60) +contextual [h, h_ctxs, h_erl, h_regs]

@[simp ↓] theorem kept_dmcEnable (h : Kept F s0 s) (h_regs : F .regs = true := by assumption) :
    Kept F s0 (State.dmcEnable s) := by
  unfold State.dmcEnable
  simp (maxDischargeDepth := 60) +contextual [h, h_regs]

@[simp ↓] theorem kept_writeDmc {init a : Nat} {v : BitVec 32} (h : Kept F s0 s)
    (h_dmc : F .dmc = true := by assumption) (h_erl : F .erl = true := by assumption)
    (h_regs : F .regs = true := by assumption) :
    Kept F s0 (State.writeDmc s init a v) := by
  unfold State.writeDmc
  simp (maxDischargeDepth := 60) +contextual [h, h_dmc, h_erl, h_regs]

@[simp ↓] theorem kept_clearLps (h : Kept F s0 s) (h_erl : F .erl = true := by assumption)
    (h_regs : F .regs = true := by assumption) :
    Kept F s0 (State.clearLps s) := by
  unfold State.clearLps
  simp (maxDischargeDepth := 60) +contextual [h, h_erl, h_regs]

@[simp ↓] theorem kept_clearFab (h : Kept F s0 s) (h_erl : F .erl = true := by assumption)
    (h_regs : F .regs = true := by assumption) :
    Kept F s0 (State.clearFab s) := by
  unfold State.clearFab
  simp (maxDischargeDepth := 60) +contextual [h, h_erl, h_regs]

@[simp ↓] theorem kept_writeErl {init a : Nat} {v : BitVec 32} (h : Kept F s0 s)
    (h_erl : F .erl = true := by assumption) (h_regs : F .regs = true := by assumption) :
    Kept F s0 (State.writeErl s init a v) := by
  unfold State.writeErl
  simp (maxDischargeDepth := 60) +contextual [h, h_erl, h_regs]

@[simp ↓] theorem kept_writePmc {init a : Nat} {v : BitVec 32} (h : Kept F s0 s)
    (h_array : F .array = true := by assumption) (h_cnt : F .cnt = true := by assumption)
    (h_erl : F .erl = true := by assumption) (h_regs : F .regs = true := by assumption) :
    Kept F s0 (State.writePmc s init a v) := by
  unfold State.writePmc
  simp (maxDischargeDepth := 60) +contextual [h, h_array, h_cnt, h_erl, h_regs]

@[simp ↓] theorem kept_blockWrite {init a : Nat} {v : BitVec 32} (h : Kept F s0 s)
    (h_array : F .array = true := by assumption) (h_cnt : F .cnt = true := by assumption)
    (h_ctxs : F .ctxs = true := by assumption) (h_dmc : F .dmc = true := by assumption)
    (h_erl : F .erl = true := by assumption) (h_fab : F .fab = true := by assumption)
    (h_fch : F .fch = true := by assumption) (h_fresh : F .fresh = true := by assumption)
    (h_gain : F .gain = true := by assumption) (h_hbm : F .hbm = true := by assumption)
    (h_hbmBad : F .hbmBad = true := by assumption) (h_hull : F .hull = true := by assumption)
    (h_husk : F .husk = true := by assumption) (h_i3c : F .i3c = true := by assumption)
    (h_img : F .img = true := by assumption) (h_ln : F .ln = true := by assumption)
    (h_mtx : F .mtx = true := by assumption) (h_regs : F .regs = true := by assumption)
    (h_shadowFab : F .shadowFab = true := by assumption) (h_tim : F .tim = true := by assumption)
    (h_wireOut : F .wireOut = true := by assumption) :
    Kept F s0 (State.blockWrite s init a v) := by
  unfold State.blockWrite
  simp (maxDischargeDepth := 60) +contextual [h, h_array, h_cnt, h_ctxs, h_dmc, h_erl, h_fab, h_fch, h_fresh,
      h_gain, h_hbm, h_hbmBad, h_hull, h_husk, h_i3c, h_img, h_ln, h_mtx, h_regs, h_shadowFab, h_tim, h_wireOut]

@[simp ↓] theorem kept_setGolden {a : Nat} {g : Option (BitVec 32)} (h : Kept F s0 s)
    (h_img : F .img = true := by assumption) :
    Kept F s0 (State.setGolden s a g) := by
  unfold State.setGolden
  simp (maxDischargeDepth := 60) +contextual [h, h_img]

@[simp ↓] theorem kept_goldenFollow {a : Nat} {v : BitVec 32} (h : Kept F s0 s)
    (h_img : F .img = true := by assumption) :
    Kept F s0 (State.goldenFollow s a v) := by
  unfold State.goldenFollow
  split <;> simp (maxDischargeDepth := 60) +contextual [h, h_img]

@[simp ↓] theorem kept_regWrite {init a : Nat} {v : BitVec 32} (h : Kept F s0 s)
    (h_array : F .array = true := by assumption) (h_cnt : F .cnt = true := by assumption)
    (h_ctxs : F .ctxs = true := by assumption) (h_dmc : F .dmc = true := by assumption)
    (h_erl : F .erl = true := by assumption) (h_fab : F .fab = true := by assumption)
    (h_fch : F .fch = true := by assumption) (h_fresh : F .fresh = true := by assumption)
    (h_gain : F .gain = true := by assumption) (h_hbm : F .hbm = true := by assumption)
    (h_hbmBad : F .hbmBad = true := by assumption) (h_hull : F .hull = true := by assumption)
    (h_husk : F .husk = true := by assumption) (h_i3c : F .i3c = true := by assumption)
    (h_img : F .img = true := by assumption) (h_ln : F .ln = true := by assumption)
    (h_mtx : F .mtx = true := by assumption) (h_regs : F .regs = true := by assumption)
    (h_shadowFab : F .shadowFab = true := by assumption) (h_tim : F .tim = true := by assumption)
    (h_wireOut : F .wireOut = true := by assumption) :
    Kept F s0 (State.regWrite s init a v) := by
  unfold State.regWrite
  simp (maxDischargeDepth := 60) +contextual [h, h_array, h_cnt, h_ctxs, h_dmc, h_erl, h_fab, h_fch, h_fresh,
      h_gain, h_hbm, h_hbmBad, h_hull, h_husk, h_i3c, h_img, h_ln, h_mtx, h_regs, h_shadowFab, h_tim, h_wireOut]

@[simp ↓] theorem kept_logMore {n : Nat} (h : Kept F s0 s) (h_erl : F .erl = true := by assumption) (h_regs : F .regs = true := by assumption) :
    Kept F s0 (State.logMore s n) := by
  unfold State.logMore
  repeat' split
  all_goals simp (maxDischargeDepth := 60) +contextual [h, h_erl, h_regs]

@[simp ↓] theorem kept_parities {site inst info n : Nat} (h : Kept F s0 s) (h_erl : F .erl = true := by assumption) (h_regs : F .regs = true := by assumption) :
    Kept F s0 (State.parities s site inst info n) := by
  unfold State.parities
  simp (maxDischargeDepth := 60) +contextual [h, h_erl, h_regs]

@[simp ↓] theorem kept_copyErrors {p : Nat} (h : Kept F s0 s) (h_erl : F .erl = true := by assumption)
    (h_regs : F .regs = true := by assumption) :
    Kept F s0 (State.copyErrors s p) := by
  unfold State.copyErrors
  simp (maxDischargeDepth := 60) +contextual [h, h_erl, h_regs]

@[simp ↓] theorem kept_copyWrong {p q : Nat} (h : Kept F s0 s) (h_dmc : F .dmc = true := by assumption) :
    Kept F s0 (State.copyWrong s p q) := by
  unfold State.copyWrong
  simp (maxDischargeDepth := 60) +contextual [h, h_dmc]

@[simp ↓] theorem kept_lineBeat {a : Nat} {w : LineWrite} (h : Kept F s0 s) (h_dmc : F .dmc = true := by assumption)
    (h_erl : F .erl = true := by assumption) (h_hbm : F .hbm = true := by assumption)
    (h_hbmBad : F .hbmBad = true := by assumption) (h_regs : F .regs = true := by assumption) :
    Kept F s0 (State.lineBeat s a w) := by
  unfold State.lineBeat
  simp (maxDischargeDepth := 60) +contextual [h, h_dmc, h_erl, h_hbm, h_hbmBad, h_regs]

@[simp ↓] theorem kept_takeToken {pc : Nat} (h : Kept F s0 s) (h_dmc : F .dmc = true := by assumption) :
    Kept F s0 (State.takeToken s pc) := by
  unfold State.takeToken
  simp (maxDischargeDepth := 60) +contextual [h, h_dmc]

end Sys2Proof.Machine
end

