-- ==== Sys2Proof/Laws/KeptImage.lean ====
section
/-! SUPPORT. The operations of images, reload, Sprout and the error log leave the queue and the power block alone and keep the stores canonical:
one lemma per operation. -/

set_option Elab.async false
set_option linter.unusedSimpArgs false

namespace Sys2Proof.Machine

variable {F : Part → Bool} {s0 s : State}

@[simp ↓] theorem kept_modImg {f : ImgSt → ImgSt} (h : Kept F s0 s) (h_img : F .img = true := by assumption) :
    Kept F s0 (State.modImg s f) := by
  unfold State.modImg
  simp (maxDischargeDepth := 60) +contextual [h, h_img]

@[simp ↓] theorem kept_imgTo {v : Nat} (h : Kept F s0 s) (h_regs : F .regs = true := by assumption) :
    Kept F s0 (State.imgTo s v) := by
  unfold State.imgTo
  simp (maxDischargeDepth := 60) +contextual [h, h_regs]

@[simp ↓] theorem kept_imgCode {e : ImgErr} (h : Kept F s0 s) (h_regs : F .regs = true := by assumption) :
    Kept F s0 (State.imgCode s e) := by
  unfold State.imgCode
  simp (maxDischargeDepth := 60) +contextual [h, h_regs]

@[simp ↓] theorem kept_imgRefuse {e : ImgErr} (h : Kept F s0 s) (h_fab : F .fab = true := by assumption)
    (h_img : F .img = true := by assumption) (h_regs : F .regs = true := by assumption) :
    Kept F s0 (State.imgRefuse s e) := by
  unfold State.imgRefuse
  simp (maxDischargeDepth := 60) +contextual [h, h_fab, h_img, h_regs]

@[simp ↓] theorem kept_supersede (h : Kept F s0 s) (h_fab : F .fab = true := by assumption)
    (h_img : F .img = true := by assumption) (h_regs : F .regs = true := by assumption) :
    Kept F s0 (State.supersede s) := by
  unfold State.supersede
  simp (maxDischargeDepth := 60) +contextual [h, h_fab, h_img, h_regs]

@[simp ↓] theorem kept_openStream {stage seed : Bool} (h : Kept F s0 s) (h_img : F .img = true := by assumption)
    (h_regs : F .regs = true := by assumption) :
    Kept F s0 (State.openStream s stage seed) := by
  unfold State.openStream
  simp (maxDischargeDepth := 60) +contextual [h, h_img, h_regs]

@[simp ↓] theorem kept_startStream {stage : Bool} (h : Kept F s0 s) (h_fab : F .fab = true := by assumption)
    (h_img : F .img = true := by assumption) (h_regs : F .regs = true := by assumption) :
    Kept F s0 (State.startStream s stage) := by
  unfold State.startStream
  simp (maxDischargeDepth := 60) +contextual [h, h_fab, h_img, h_regs]

@[simp ↓] theorem kept_imgAbort (h : Kept F s0 s) (h_fab : F .fab = true := by assumption)
    (h_img : F .img = true := by assumption) (h_regs : F .regs = true := by assumption) :
    Kept F s0 (State.imgAbort s) := by
  unfold State.imgAbort
  simp (maxDischargeDepth := 60) +contextual [h, h_fab, h_img, h_regs]

@[simp ↓] theorem kept_failedOut (h : Kept F s0 s) (h_dmc : F .dmc = true := by assumption) (h_erl : F .erl = true := by assumption) (h_regs : F .regs = true := by assumption) :
    Kept F s0 (State.failedOut s) := by
  unfold State.failedOut
  simp (maxDischargeDepth := 60) +contextual [h, h_dmc, h_erl, h_regs]

@[simp ↓] theorem kept_remap {r : Nat} (h : Kept F s0 s) (h_dmc : F .dmc = true := by assumption)
    (h_img : F .img = true := by assumption) (h_regs : F .regs = true := by assumption) (h_erl : F .erl = true := by assumption) :
    Kept F s0 (State.remap s r) := by
  unfold State.remap
  simp (maxDischargeDepth := 60) +contextual [h, h_erl, h_dmc, h_img, h_regs]

@[simp ↓] theorem kept_headDone {h' : List Byte} (h : Kept F s0 s) (h_dmc : F .dmc = true := by assumption)
    (h_erl : F .erl = true := by assumption) (h_hbm : F .hbm = true := by assumption)
    (h_hbmBad : F .hbmBad = true := by assumption) (h_img : F .img = true := by assumption)
    (h_regs : F .regs = true := by assumption) :
    Kept F s0 (State.headDone s h') := by
  unfold State.headDone
  simp (maxDischargeDepth := 60) +contextual [h, h_dmc, h_erl, h_hbm, h_hbmBad, h_img, h_regs]

@[simp ↓] theorem kept_streamEnd (h : Kept F s0 s) (h_img : F .img = true := by assumption)
    (h_regs : F .regs = true := by assumption) :
    Kept F s0 (State.streamEnd s) := by
  unfold State.streamEnd
  simp (maxDischargeDepth := 60) +contextual [h, h_img, h_regs]

@[simp ↓] theorem kept_streamCount {n : Nat} (h : Kept F s0 s) (h_img : F .img = true := by assumption)
    (h_regs : F .regs = true := by assumption) :
    Kept F s0 (State.streamCount s n) := by
  unfold State.streamCount
  simp (maxDischargeDepth := 60) +contextual [h, h_img, h_regs]

@[simp ↓] theorem kept_streamBody {bs : List Byte} (h : Kept F s0 s) (h_dmc : F .dmc = true := by assumption)
    (h_erl : F .erl = true := by assumption) (h_hbm : F .hbm = true := by assumption)
    (h_hbmBad : F .hbmBad = true := by assumption) (h_img : F .img = true := by assumption)
    (h_regs : F .regs = true := by assumption) :
    Kept F s0 (State.streamBody s bs) := by
  unfold State.streamBody
  simp (maxDischargeDepth := 60) +contextual [h, h_dmc, h_erl, h_hbm, h_hbmBad, h_img, h_regs]

@[simp ↓] theorem kept_streamPut {bs : List Byte} (h : Kept F s0 s) (h_dmc : F .dmc = true := by assumption)
    (h_erl : F .erl = true := by assumption) (h_fab : F .fab = true := by assumption)
    (h_hbm : F .hbm = true := by assumption) (h_hbmBad : F .hbmBad = true := by assumption)
    (h_img : F .img = true := by assumption) (h_regs : F .regs = true := by assumption) :
    Kept F s0 (State.streamPut s bs) := by
  unfold State.streamPut
  simp only []
  repeat' split
  all_goals simp (maxDischargeDepth := 60) [h, h_dmc, h_erl, h_fab, h_hbm, h_hbmBad, h_img, h_regs]

@[simp ↓] theorem kept_winWrite {v : BitVec 32} (h : Kept F s0 s) (h_dmc : F .dmc = true := by assumption)
    (h_erl : F .erl = true := by assumption) (h_fab : F .fab = true := by assumption)
    (h_hbm : F .hbm = true := by assumption) (h_hbmBad : F .hbmBad = true := by assumption)
    (h_img : F .img = true := by assumption) (h_regs : F .regs = true := by assumption) :
    Kept F s0 (State.winWrite s v) := by
  unfold State.winWrite
  simp (maxDischargeDepth := 60) +contextual [h, h_dmc, h_erl, h_fab, h_hbm, h_hbmBad, h_img, h_regs]

@[simp ↓] theorem kept_seedAckNow {l : Nat} (h : Kept F s0 s) (h_fab : F .fab = true := by assumption) :
    Kept F s0 (State.seedAckNow s l) := by
  unfold State.seedAckNow
  simp (maxDischargeDepth := 60) +contextual [h, h_fab]

@[simp ↓] theorem kept_seedStore {l total : Nat} {data : List Byte} (h : Kept F s0 s)
    (h_dmc : F .dmc = true := by assumption) (h_erl : F .erl = true := by assumption)
    (h_fab : F .fab = true := by assumption) (h_hbm : F .hbm = true := by assumption)
    (h_hbmBad : F .hbmBad = true := by assumption) (h_img : F .img = true := by assumption)
    (h_regs : F .regs = true := by assumption) :
    Kept F s0 (State.seedStore s l total data) := by
  unfold State.seedStore
  simp only []
  repeat' split
  all_goals simp (maxDischargeDepth := 60) [h, h_dmc, h_erl, h_fab, h_hbm, h_hbmBad, h_img, h_regs]

@[simp ↓] theorem kept_seedOpen {l : Nat} (h : Kept F s0 s) (h_fab : F .fab = true := by assumption)
    (h_img : F .img = true := by assumption) (h_regs : F .regs = true := by assumption) :
    Kept F s0 (State.seedOpen s l) := by
  unfold State.seedOpen
  simp (maxDischargeDepth := 60) +contextual [h, h_fab, h_img, h_regs]

@[simp ↓] theorem kept_seedTake {l : Nat} {p : List Byte} (h : Kept F s0 s) (h_dmc : F .dmc = true := by assumption)
    (h_erl : F .erl = true := by assumption) (h_fab : F .fab = true := by assumption)
    (h_hbm : F .hbm = true := by assumption) (h_hbmBad : F .hbmBad = true := by assumption)
    (h_img : F .img = true := by assumption) (h_regs : F .regs = true := by assumption) :
    Kept F s0 (State.seedTake s l p) := by
  unfold State.seedTake
  simp (maxDischargeDepth := 60) +contextual [h, h_dmc, h_erl, h_fab, h_hbm, h_hbmBad, h_img, h_regs]

@[simp ↓] theorem kept_lanesStop (h : Kept F s0 s) (h_erl : F .erl = true := by assumption)
    (h_fab : F .fab = true := by assumption) (h_fresh : F .fresh = true := by assumption)
    (h_hull : F .hull = true := by assumption) (h_ln : F .ln = true := by assumption)
    (h_regs : F .regs = true := by assumption) (h_wireOut : F .wireOut = true := by assumption) :
    Kept F s0 (State.lanesStop s) := by
  unfold State.lanesStop
  simp (maxDischargeDepth := 60) +contextual [h, h_erl, h_fab, h_fresh, h_hull, h_ln, h_regs, h_wireOut]

@[simp ↓] theorem kept_podsHalt (h : Kept F s0 s) (h_array : F .array = true := by assumption)
    (h_fresh : F .fresh = true := by assumption) (h_regs : F .regs = true := by assumption) :
    Kept F s0 (State.podsHalt s) := by
  unfold State.podsHalt
  simp (maxDischargeDepth := 60) +contextual [h, h_array, h_fresh, h_regs]

@[simp ↓] theorem kept_podsIdle (h : Kept F s0 s) (h_array : F .array = true := by assumption)
    (h_regs : F .regs = true := by assumption) :
    Kept F s0 (State.podsIdle s) := by
  unfold State.podsIdle
  simp (maxDischargeDepth := 60) +contextual [h, h_array, h_regs]

@[simp ↓] theorem kept_portsIdle (h : Kept F s0 s) (h_array : F .array = true := by assumption) :
    Kept F s0 (State.portsIdle s) := by
  unfold State.portsIdle
  simp (maxDischargeDepth := 60) +contextual [h, h_array]

@[simp ↓] theorem kept_stopUnits (h : Kept F s0 s) (h_array : F .array = true := by assumption)
    (h_erl : F .erl = true := by assumption) (h_fab : F .fab = true := by assumption)
    (h_fch : F .fch = true := by assumption) (h_fresh : F .fresh = true := by assumption)
    (h_hull : F .hull = true := by assumption) (h_ln : F .ln = true := by assumption)
    (h_regs : F .regs = true := by assumption) (h_wireOut : F .wireOut = true := by assumption) :
    Kept F s0 (State.stopUnits s) := by
  unfold State.stopUnits
  simp (maxDischargeDepth := 60) +contextual [h, h_array, h_erl, h_fab, h_fch, h_fresh, h_hull, h_ln, h_regs,
      h_wireOut]

@[simp ↓] theorem kept_emptyContexts (h : Kept F s0 s) (h_ctxs : F .ctxs = true := by assumption)
    (h_husk : F .husk = true := by assumption) (h_regs : F .regs = true := by assumption) :
    Kept F s0 (State.emptyContexts s) := by
  unfold State.emptyContexts
  simp (maxDischargeDepth := 60) +contextual [h, h_ctxs, h_husk, h_regs]

@[simp ↓] theorem kept_sectionReset {keepTiming : Bool} (h : Kept F s0 s) (h_array : F .array = true := by assumption)
    (h_ctxs : F .ctxs = true := by assumption) (h_erl : F .erl = true := by assumption)
    (h_fab : F .fab = true := by assumption) (h_fch : F .fch = true := by assumption)
    (h_fresh : F .fresh = true := by assumption) (h_gain : F .gain = true := by assumption)
    (h_hull : F .hull = true := by assumption) (h_husk : F .husk = true := by assumption)
    (h_img : F .img = true := by assumption) (h_ln : F .ln = true := by assumption)
    (h_regs : F .regs = true := by assumption) (h_tim : F .tim = true := by assumption)
    (h_wireOut : F .wireOut = true := by assumption) :
    Kept F s0 (State.sectionReset s keepTiming) := by
  have h := kept_emptyContexts (kept_stopUnits h)
  unfold State.sectionReset
  simp only []
  generalize s.stopUnits.emptyContexts = t at h
  have hf : Kept F s0 { t with
      regs := t.regs.filter fun e => keptReg keepTiming e.1
      fch := { t.fch with gain := [] }
      fab := { t.fab with again := false }
      erl := { t.erl with eccBad := t.erl.eccBad.filter fun e => keptReg keepTiming e.1 }
      img := { t.img with golden := [], goldenBad := [], reload := none } } := by
    refine h.mem rfl rfl (fun p hp => by cases p <;> first | rfl | simp_all) fun w => ?_
    have hw := (memory_wf_iff t).mp w
    exact (memory_wf_iff _).mpr ⟨twf_filter _ hw.1, hw.2.1, hw.2.2.1, hw.2.2.2.1, hw.2.2.2.2.1, hw.2.2.2.2.2.1, rfl⟩
  split
  · exact kept_fset hf
  · exact kept_outConfig (kept_when (fun _ h => kept_ftDisable h) (kept_each (fun _ _ h => kept_refConfig h)
      (kept_fset hf)))

@[simp ↓] theorem kept_goldenLoad {a : Nat} {v : BitVec 32} (h : Kept F s0 s) (h_img : F .img = true := by assumption) :
    Kept F s0 (State.goldenLoad s a v) := by
  unfold State.goldenLoad
  simp (maxDischargeDepth := 60) +contextual [h, h_img]

theorem kept_loadWord {t node a : Nat} {v : BitVec 32} (h : Kept F s0 s) (h_array : F .array = true := by assumption)
    (h_cnt : F .cnt = true := by assumption) (h_ctxs : F .ctxs = true := by assumption)
    (h_dmc : F .dmc = true := by assumption) (h_erl : F .erl = true := by assumption)
    (h_fab : F .fab = true := by assumption) (h_fch : F .fch = true := by assumption)
    (h_fresh : F .fresh = true := by assumption) (h_gain : F .gain = true := by assumption)
    (h_hbm : F .hbm = true := by assumption) (h_hbmBad : F .hbmBad = true := by assumption)
    (h_hull : F .hull = true := by assumption) (h_husk : F .husk = true := by assumption)
    (h_i3c : F .i3c = true := by assumption) (h_img : F .img = true := by assumption)
    (h_ln : F .ln = true := by assumption) (h_mtx : F .mtx = true := by assumption)
    (h_regs : F .regs = true := by assumption) (h_shadowFab : F .shadowFab = true := by assumption)
    (h_tim : F .tim = true := by assumption) (h_wireOut : F .wireOut = true := by assumption) :
    ∀ x, (State.loadWord s t node a v) = some x → Kept F s0 x := by
  unfold State.loadWord
  intro x hx
  dsimp only at hx
  split at hx
  · cases hx
    exact h
  · split at hx
    · cases hx
    · cases hx
      exact kept_ite (fun _ => kept_goldenLoad (kept_regWrite h)) fun _ => kept_regWrite h

@[simp ↓] theorem kept_loadWords {t node : Nat} {ws : List (Nat × BitVec 32)} (h : Kept F s0 s)
    (h_array : F .array = true := by assumption) (h_cnt : F .cnt = true := by assumption)
    (h_ctxs : F .ctxs = true := by assumption) (h_dmc : F .dmc = true := by assumption)
    (h_erl : F .erl = true := by assumption) (h_fab : F .fab = true := by assumption)
    (h_fch : F .fch = true := by assumption) (h_fresh : F .fresh = true := by assumption)
    (h_gain : F .gain = true := by assumption) (h_hbm : F .hbm = true := by assumption)
    (h_hbmBad : F .hbmBad = true := by assumption) (h_hull : F .hull = true := by assumption)
    (h_husk : F .husk = true := by assumption) (h_i3c : F .i3c = true := by assumption)
    (h_img : F .img = true := by assumption) (h_ln : F .ln = true := by assumption)
    (h_mtx : F .mtx = true := by assumption) (h_regs : F .regs = true := by assumption)
    (h_shadowFab : F .shadowFab = true := by assumption) (h_tim : F .tim = true := by assumption)
    (h_wireOut : F .wireOut = true := by assumption) :
    Kept F s0 (State.loadWords s t node ws).1 := by
  induction ws generalizing s with
  | nil => exact h
  | cons w ws ih =>
    obtain ⟨a, v⟩ := w
    unfold State.loadWords
    split <;> rename_i hq
    · exact ih ((kept_loadWord h) _ hq)
    · exact kept_regWrite h

@[simp ↓] theorem kept_loadRecs {t node : Nat} {rs : List ImgRec} (h : Kept F s0 s)
    (h_array : F .array = true := by assumption) (h_cnt : F .cnt = true := by assumption)
    (h_ctxs : F .ctxs = true := by assumption) (h_dmc : F .dmc = true := by assumption)
    (h_erl : F .erl = true := by assumption) (h_fab : F .fab = true := by assumption)
    (h_fch : F .fch = true := by assumption) (h_fresh : F .fresh = true := by assumption)
    (h_gain : F .gain = true := by assumption) (h_hbm : F .hbm = true := by assumption)
    (h_hbmBad : F .hbmBad = true := by assumption) (h_hull : F .hull = true := by assumption)
    (h_husk : F .husk = true := by assumption) (h_i3c : F .i3c = true := by assumption)
    (h_img : F .img = true := by assumption) (h_ln : F .ln = true := by assumption)
    (h_mtx : F .mtx = true := by assumption) (h_regs : F .regs = true := by assumption)
    (h_shadowFab : F .shadowFab = true := by assumption) (h_tim : F .tim = true := by assumption)
    (h_wireOut : F .wireOut = true := by assumption) :
    Kept F s0 (State.loadRecs s t node rs).1 := by
  induction rs generalizing s with
  | nil => exact h
  | cons r rs ih =>
    unfold State.loadRecs
    split
    · exact ih (kept_hbmWrite h)
    · split <;> rename_i hq <;> have h := kept_fst hq (kept_loadWords h)
      · exact ih h
      · exact h

@[simp ↓] theorem kept_loadSections {node : Nat} {xs : List (Nat × List ImgRec)} (h : Kept F s0 s)
    (h_array : F .array = true := by assumption) (h_cnt : F .cnt = true := by assumption)
    (h_ctxs : F .ctxs = true := by assumption) (h_dmc : F .dmc = true := by assumption)
    (h_erl : F .erl = true := by assumption) (h_fab : F .fab = true := by assumption)
    (h_fch : F .fch = true := by assumption) (h_fresh : F .fresh = true := by assumption)
    (h_gain : F .gain = true := by assumption) (h_hbm : F .hbm = true := by assumption)
    (h_hbmBad : F .hbmBad = true := by assumption) (h_hull : F .hull = true := by assumption)
    (h_husk : F .husk = true := by assumption) (h_i3c : F .i3c = true := by assumption)
    (h_img : F .img = true := by assumption) (h_ln : F .ln = true := by assumption)
    (h_mtx : F .mtx = true := by assumption) (h_regs : F .regs = true := by assumption)
    (h_shadowFab : F .shadowFab = true := by assumption) (h_tim : F .tim = true := by assumption)
    (h_wireOut : F .wireOut = true := by assumption) :
    Kept F s0 (State.loadSections s node xs).1 := by
  induction xs generalizing s with
  | nil => exact h
  | cons x xs ih =>
    obtain ⟨t, rs⟩ := x
    have h : Kept F s0 (if t = 2 then s.fset FAB_CTRL_NodeId node else s) := by
      split <;> simp [h, h_array, h_cnt, h_ctxs, h_dmc, h_erl, h_fab, h_fch, h_fresh, h_gain, h_hbm, h_hbmBad,
          h_hull, h_husk, h_i3c, h_img, h_ln, h_mtx, h_regs, h_shadowFab, h_tim, h_wireOut]
    unfold State.loadSections
    simp only []
    generalize (if t = 2 then s.fset FAB_CTRL_NodeId node else s) = u at h
    split <;> rename_i hq <;> have h := kept_fst hq (kept_loadRecs h)
    · exact ih h
    · exact h

@[simp ↓] theorem kept_showImage {slot node hash : Nat} {h' key : List Byte} {map : List (Nat × Nat)}
    (h : Kept F s0 s) (h_img : F .img = true := by assumption) (h_regs : F .regs = true := by assumption) :
    Kept F s0 (State.showImage s slot node hash h' key map) := by
  unfold State.showImage
  simp (maxDischargeDepth := 60) +contextual [h, h_img, h_regs]

@[simp ↓] theorem kept_hideImage (h : Kept F s0 s) (h_img : F .img = true := by assumption)
    (h_regs : F .regs = true := by assumption) :
    Kept F s0 (State.hideImage s) := by
  unfold State.hideImage
  simp (maxDischargeDepth := 60) +contextual [h, h_img, h_regs]

@[simp ↓] theorem kept_fullStart {slot total : Nat} (h : Kept F s0 s) (h_array : F .array = true := by assumption)
    (h_ctxs : F .ctxs = true := by assumption) (h_dmc : F .dmc = true := by assumption)
    (h_erl : F .erl = true := by assumption) (h_fab : F .fab = true := by assumption)
    (h_fch : F .fch = true := by assumption) (h_fresh : F .fresh = true := by assumption)
    (h_gain : F .gain = true := by assumption) (h_hull : F .hull = true := by assumption)
    (h_husk : F .husk = true := by assumption) (h_img : F .img = true := by assumption)
    (h_ln : F .ln = true := by assumption) (h_regs : F .regs = true := by assumption)
    (h_tim : F .tim = true := by assumption) (h_wireOut : F .wireOut = true := by assumption) :
    Kept F s0 (State.fullStart s slot total) := by
  unfold State.fullStart
  simp (maxDischargeDepth := 60) +contextual [h, h_array, h_ctxs, h_dmc, h_erl, h_fab, h_fch, h_fresh, h_gain,
      h_hull, h_husk, h_img, h_ln, h_regs, h_tim, h_wireOut]

@[simp ↓] theorem kept_fullDone {slot node hash : Nat} {h' : List Byte} {map : List (Nat × Nat)} {key : List Byte}
    (h : Kept F s0 s) (h_fab : F .fab = true := by assumption) (h_img : F .img = true := by assumption)
    (h_regs : F .regs = true := by assumption) (h_erl : F .erl = true := by assumption) :
    Kept F s0 (State.fullDone s slot node hash h' map key) := by
  unfold State.fullDone
  simp (maxDischargeDepth := 60) +contextual [h, h_erl, h_fab, h_img, h_regs]

@[simp ↓] theorem kept_loadEnd {r : State × Option ImgErr} {bad : State → ImgErr → State} {good : State → State}
    (hb : ∀ s e, Kept F s0 s → Kept F s0 (bad s e)) (hg : ∀ s, Kept F s0 s → Kept F s0 (good s)) (h : Kept F s0 r.1) :
    Kept F s0 (loadEnd r bad good) := by
  obtain ⟨t, _ | e⟩ := r
  · exact hg t h
  · exact hb t e h

@[simp ↓] theorem kept_fullApply {slot : Nat} (h : Kept F s0 s) (h_array : F .array = true := by assumption)
    (h_cnt : F .cnt = true := by assumption) (h_ctxs : F .ctxs = true := by assumption)
    (h_dmc : F .dmc = true := by assumption) (h_erl : F .erl = true := by assumption)
    (h_fab : F .fab = true := by assumption) (h_fch : F .fch = true := by assumption)
    (h_fresh : F .fresh = true := by assumption) (h_gain : F .gain = true := by assumption)
    (h_hbm : F .hbm = true := by assumption) (h_hbmBad : F .hbmBad = true := by assumption)
    (h_hull : F .hull = true := by assumption) (h_husk : F .husk = true := by assumption)
    (h_i3c : F .i3c = true := by assumption) (h_img : F .img = true := by assumption)
    (h_ln : F .ln = true := by assumption) (h_mtx : F .mtx = true := by assumption)
    (h_regs : F .regs = true := by assumption) (h_shadowFab : F .shadowFab = true := by assumption)
    (h_tim : F .tim = true := by assumption) (h_wireOut : F .wireOut = true := by assumption) :
    Kept F s0 (State.fullApply s slot) := by
  unfold State.fullApply
  simp (maxDischargeDepth := 60) +contextual [h, h_array, h_cnt, h_ctxs, h_dmc, h_erl, h_fab, h_fch, h_fresh,
      h_gain, h_hbm, h_hbmBad, h_hull, h_husk, h_i3c, h_img, h_ln, h_mtx, h_regs, h_shadowFab, h_tim, h_wireOut]

@[simp ↓] theorem kept_reloadStart {restart : Bool} {mask : Nat} (h : Kept F s0 s)
    (h_array : F .array = true := by assumption) (h_ctxs : F .ctxs = true := by assumption)
    (h_erl : F .erl = true := by assumption) (h_fresh : F .fresh = true := by assumption)
    (h_husk : F .husk = true := by assumption) (h_img : F .img = true := by assumption)
    (h_regs : F .regs = true := by assumption) :
    Kept F s0 (State.reloadStart s restart mask) := by
  unfold State.reloadStart
  simp (maxDischargeDepth := 60) +contextual [h, h_array, h_ctxs, h_erl, h_fresh, h_husk, h_img, h_regs]

@[simp ↓] theorem kept_goldenFld {f : Fld} {v : Nat} (h : Kept F s0 s) (h_img : F .img = true := by assumption) :
    Kept F s0 (State.goldenFld s f v) := by
  unfold State.goldenFld
  repeat' split
  all_goals simp (maxDischargeDepth := 60) +contextual [h, h_img]

@[simp ↓] theorem kept_hostEnable {fl : Fld} {f : State → State} (hf : ∀ s, Kept F s0 s → Kept F s0 (f s))
    (h : Kept F s0 s) (h_erl : F .erl = true := by assumption) (h_img : F .img = true := by assumption)
    (h_regs : F .regs = true := by assumption) :
    Kept F s0 (State.hostEnable s fl f) :=
  kept_hostWrite (fun _ hs => kept_goldenFld (hf _ hs)) h

@[simp ↓] theorem kept_fabPause (h : Kept F s0 s) (h_erl : F .erl = true := by assumption) (h_fab : F .fab = true := by assumption) (h_fresh : F .fresh = true := by assumption) (h_hull : F .hull = true := by assumption) (h_ln : F .ln = true := by assumption) (h_regs : F .regs = true := by assumption) (h_wireOut : F .wireOut = true := by assumption) :
    Kept F s0 (State.fabPause s) := by
  unfold State.fabPause
  simp (maxDischargeDepth := 60) +contextual [h, h_erl, h_fab, h_fresh, h_hull, h_ln, h_regs, h_wireOut]

@[simp ↓] theorem kept_enableClear {x : Nat × Nat × Nat} (h : Kept F s0 s) (h_array : F .array = true := by assumption) (h_erl : F .erl = true := by assumption) (h_fab : F .fab = true := by assumption) (h_fch : F .fch = true := by assumption) (h_fresh : F .fresh = true := by assumption) (h_hull : F .hull = true := by assumption) (h_ln : F .ln = true := by assumption) (h_regs : F .regs = true := by assumption) (h_wireOut : F .wireOut = true := by assumption) :
    Kept F s0 (State.enableClear s x) := by
  unfold State.enableClear
  repeat' split
  all_goals simp (maxDischargeDepth := 60) +contextual [h, h_array, h_erl, h_fab, h_fch, h_fresh, h_hull, h_ln, h_regs, h_wireOut]

@[simp ↓] theorem kept_enableSet {x : Nat × Nat × Nat} (h : Kept F s0 s) (h_array : F .array = true := by assumption) (h_erl : F .erl = true := by assumption) (h_fab : F .fab = true := by assumption) (h_fch : F .fch = true := by assumption) (h_fresh : F .fresh = true := by assumption) (h_hull : F .hull = true := by assumption) (h_ln : F .ln = true := by assumption) (h_regs : F .regs = true := by assumption) (h_wireOut : F .wireOut = true := by assumption) :
    Kept F s0 (State.enableSet s x) := by
  unfold State.enableSet
  repeat' split
  all_goals simp (maxDischargeDepth := 60) +contextual [h, h_array, h_erl, h_fab, h_fch, h_fresh, h_hull, h_ln, h_regs, h_wireOut]

@[simp ↓] theorem kept_enableOff {x : Nat × Nat × Nat} (h : Kept F s0 s) (h_array : F .array = true := by assumption)
    (h_erl : F .erl = true := by assumption) (h_fab : F .fab = true := by assumption)
    (h_fch : F .fch = true := by assumption) (h_fresh : F .fresh = true := by assumption)
    (h_hull : F .hull = true := by assumption) (h_ln : F .ln = true := by assumption)
    (h_regs : F .regs = true := by assumption) (h_wireOut : F .wireOut = true := by assumption) (h_img : F .img = true := by assumption) :
    Kept F s0 (State.enableOff s x) := by
  unfold State.enableOff
  simp (maxDischargeDepth := 60) +contextual [h, h_img, h_array, h_erl, h_fab, h_fch, h_fresh, h_hull, h_ln,
      h_regs, h_wireOut]

@[simp ↓] theorem kept_enableOn {x : Nat × Nat × Nat} (h : Kept F s0 s) (h_array : F .array = true := by assumption)
    (h_erl : F .erl = true := by assumption) (h_fab : F .fab = true := by assumption)
    (h_fch : F .fch = true := by assumption) (h_fresh : F .fresh = true := by assumption)
    (h_hull : F .hull = true := by assumption) (h_ln : F .ln = true := by assumption)
    (h_regs : F .regs = true := by assumption) (h_wireOut : F .wireOut = true := by assumption) (h_img : F .img = true := by assumption) :
    Kept F s0 (State.enableOn s x) := by
  unfold State.enableOn
  simp (maxDischargeDepth := 60) +contextual [h, h_img, h_array, h_erl, h_fab, h_fch, h_fresh, h_hull, h_ln,
      h_regs, h_wireOut]

@[simp ↓] theorem kept_reloadRecs {r : ReloadSt} {t node : Nat} {xs : List ImgRec} (h : Kept F s0 s)
    (h_array : F .array = true := by assumption) (h_cnt : F .cnt = true := by assumption)
    (h_ctxs : F .ctxs = true := by assumption) (h_dmc : F .dmc = true := by assumption)
    (h_erl : F .erl = true := by assumption) (h_fab : F .fab = true := by assumption)
    (h_fch : F .fch = true := by assumption) (h_fresh : F .fresh = true := by assumption)
    (h_gain : F .gain = true := by assumption) (h_hbm : F .hbm = true := by assumption)
    (h_hbmBad : F .hbmBad = true := by assumption) (h_hull : F .hull = true := by assumption)
    (h_husk : F .husk = true := by assumption) (h_i3c : F .i3c = true := by assumption)
    (h_img : F .img = true := by assumption) (h_ln : F .ln = true := by assumption)
    (h_mtx : F .mtx = true := by assumption) (h_regs : F .regs = true := by assumption)
    (h_shadowFab : F .shadowFab = true := by assumption) (h_tim : F .tim = true := by assumption)
    (h_wireOut : F .wireOut = true := by assumption) :
    Kept F s0 (State.reloadRecs s r t node xs).1 := by
  induction xs generalizing s with
  | nil => exact h
  | cons x xs ih =>
    unfold State.reloadRecs
    split
    · exact ih (kept_ite (fun _ => kept_hbmWrite h) fun _ => h)
    · split <;> rename_i hq <;> have h := kept_fst hq (kept_loadWords h)
      · exact ih h
      · exact h

@[simp ↓] theorem kept_reloadSections {r : ReloadSt} {node : Nat} {xs : List (Nat × List ImgRec)} (h : Kept F s0 s)
    (h_array : F .array = true := by assumption) (h_cnt : F .cnt = true := by assumption)
    (h_ctxs : F .ctxs = true := by assumption) (h_dmc : F .dmc = true := by assumption)
    (h_erl : F .erl = true := by assumption) (h_fab : F .fab = true := by assumption)
    (h_fch : F .fch = true := by assumption) (h_fresh : F .fresh = true := by assumption)
    (h_gain : F .gain = true := by assumption) (h_hbm : F .hbm = true := by assumption)
    (h_hbmBad : F .hbmBad = true := by assumption) (h_hull : F .hull = true := by assumption)
    (h_husk : F .husk = true := by assumption) (h_i3c : F .i3c = true := by assumption)
    (h_img : F .img = true := by assumption) (h_ln : F .ln = true := by assumption)
    (h_mtx : F .mtx = true := by assumption) (h_regs : F .regs = true := by assumption)
    (h_shadowFab : F .shadowFab = true := by assumption) (h_tim : F .tim = true := by assumption)
    (h_wireOut : F .wireOut = true := by assumption) :
    Kept F s0 (State.reloadSections s r node xs).1 := by
  induction xs generalizing s with
  | nil => exact h
  | cons x xs ih =>
    obtain ⟨t, rs⟩ := x
    unfold State.reloadSections
    split <;> rename_i hq <;> have h := kept_fst hq (kept_reloadRecs h)
    · exact ih h
    · exact h

@[simp ↓] theorem kept_restartAll {again : List (Nat × Option Nat)} (h : Kept F s0 s)
    (h_ctxs : F .ctxs = true := by assumption) (h_regs : F .regs = true := by assumption) :
    Kept F s0 (State.restartAll s again) := by
  unfold State.restartAll
  simp (maxDischargeDepth := 60) +contextual [h, h_ctxs, h_regs]

@[simp ↓] theorem kept_reloadClear (h : Kept F s0 s) (h_ctxs : F .ctxs = true := by assumption)
    (h_img : F .img = true := by assumption) :
    Kept F s0 (State.reloadClear s) := by
  unfold State.reloadClear
  simp (maxDischargeDepth := 60) +contextual [h, h_ctxs, h_img]

@[simp ↓] theorem kept_reloadShow {r : ReloadSt} (h : Kept F s0 s) (h_img : F .img = true := by assumption)
    (h_regs : F .regs = true := by assumption) :
    Kept F s0 (State.reloadShow s r) := by
  unfold State.reloadShow
  simp (maxDischargeDepth := 60) +contextual [h, h_img, h_regs]

@[simp ↓] theorem kept_partApplied (h : Kept F s0 s) (h_array : F .array = true := by assumption)
    (h_regs : F .regs = true := by assumption) :
    Kept F s0 (State.partApplied s) := by
  unfold State.partApplied
  simp (maxDischargeDepth := 60) +contextual [h, h_array, h_regs]

@[simp ↓] theorem kept_reloadApply {r : ReloadSt} (h : Kept F s0 s) (h_array : F .array = true := by assumption)
    (h_cnt : F .cnt = true := by assumption) (h_ctxs : F .ctxs = true := by assumption)
    (h_dmc : F .dmc = true := by assumption) (h_erl : F .erl = true := by assumption)
    (h_fab : F .fab = true := by assumption) (h_fch : F .fch = true := by assumption)
    (h_fresh : F .fresh = true := by assumption) (h_gain : F .gain = true := by assumption)
    (h_hbm : F .hbm = true := by assumption) (h_hbmBad : F .hbmBad = true := by assumption)
    (h_hull : F .hull = true := by assumption) (h_husk : F .husk = true := by assumption)
    (h_i3c : F .i3c = true := by assumption) (h_img : F .img = true := by assumption)
    (h_ln : F .ln = true := by assumption) (h_mtx : F .mtx = true := by assumption)
    (h_regs : F .regs = true := by assumption) (h_shadowFab : F .shadowFab = true := by assumption)
    (h_tim : F .tim = true := by assumption) (h_wireOut : F .wireOut = true := by assumption) :
    Kept F s0 (State.reloadApply s r) := by
  unfold State.reloadApply
  simp (maxDischargeDepth := 60) +contextual [h, h_array, h_cnt, h_ctxs, h_dmc, h_erl, h_fab, h_fch, h_fresh,
      h_gain, h_hbm, h_hbmBad, h_hull, h_husk, h_i3c, h_img, h_ln, h_mtx, h_regs, h_shadowFab, h_tim, h_wireOut]

@[simp ↓] theorem kept_scrubWord {a : Nat} {g : BitVec 32} (h : Kept F s0 s) (h_erl : F .erl = true := by assumption)
    (h_regs : F .regs = true := by assumption) :
    Kept F s0 (State.scrubWord s a g) := by
  unfold State.scrubWord
  simp (maxDischargeDepth := 60) +contextual [h, h_erl, h_regs]

@[simp ↓] theorem kept_hbmRecord {r : ImgRec} (h : Kept F s0 s) (h_dmc : F .dmc = true := by assumption)
    (h_erl : F .erl = true := by assumption) (h_hbm : F .hbm = true := by assumption)
    (h_hbmBad : F .hbmBad = true := by assumption) (h_regs : F .regs = true := by assumption) :
    Kept F s0 (State.hbmRecord s r) := by
  unfold State.hbmRecord
  split <;> simp (maxDischargeDepth := 60) +contextual [h, h_dmc, h_erl, h_hbm, h_hbmBad, h_regs]

@[simp ↓] theorem kept_romHbm (h : Kept F s0 s) (h_dmc : F .dmc = true := by assumption)
    (h_erl : F .erl = true := by assumption) (h_hbm : F .hbm = true := by assumption)
    (h_hbmBad : F .hbmBad = true := by assumption) (h_img : F .img = true := by assumption)
    (h_regs : F .regs = true := by assumption) :
    Kept F s0 (State.romHbm s) := by
  unfold State.romHbm
  simp (maxDischargeDepth := 60) +contextual [h, h_dmc, h_erl, h_hbm, h_hbmBad, h_img, h_regs]

@[simp ↓] theorem kept_romReserve (h : Kept F s0 s) (h_dmc : F .dmc = true := by assumption)
    (h_img : F .img = true := by assumption) (h_regs : F .regs = true := by assumption) (h_erl : F .erl = true := by assumption) :
    Kept F s0 (State.romReserve s) := by
  unfold State.romReserve
  simp (maxDischargeDepth := 60) +contextual [h, h_erl, h_dmc, h_img, h_regs]

@[simp ↓] theorem kept_romDone {node : Nat} (h : Kept F s0 s) (h_dmc : F .dmc = true := by assumption)
    (h_erl : F .erl = true := by assumption) (h_hbm : F .hbm = true := by assumption)
    (h_hbmBad : F .hbmBad = true := by assumption) (h_img : F .img = true := by assumption)
    (h_regs : F .regs = true := by assumption) :
    Kept F s0 (State.romDone s node) := by
  unfold State.romDone
  simp (maxDischargeDepth := 60) +contextual [h, h_dmc, h_erl, h_hbm, h_hbmBad, h_img, h_regs]

@[simp ↓] theorem kept_romApply (h : Kept F s0 s) (h_array : F .array = true := by assumption)
    (h_cnt : F .cnt = true := by assumption) (h_ctxs : F .ctxs = true := by assumption)
    (h_dmc : F .dmc = true := by assumption) (h_erl : F .erl = true := by assumption)
    (h_fab : F .fab = true := by assumption) (h_fch : F .fch = true := by assumption)
    (h_fresh : F .fresh = true := by assumption) (h_gain : F .gain = true := by assumption)
    (h_hbm : F .hbm = true := by assumption) (h_hbmBad : F .hbmBad = true := by assumption)
    (h_hull : F .hull = true := by assumption) (h_husk : F .husk = true := by assumption)
    (h_i3c : F .i3c = true := by assumption) (h_img : F .img = true := by assumption)
    (h_ln : F .ln = true := by assumption) (h_mtx : F .mtx = true := by assumption)
    (h_regs : F .regs = true := by assumption) (h_shadowFab : F .shadowFab = true := by assumption)
    (h_tim : F .tim = true := by assumption) (h_wireOut : F .wireOut = true := by assumption) :
    Kept F s0 (State.romApply s) := by
  unfold State.romApply
  simp (maxDischargeDepth := 60) +contextual [h, h_array, h_cnt, h_ctxs, h_dmc, h_erl, h_fab, h_fch, h_fresh,
      h_gain, h_hbm, h_hbmBad, h_hull, h_husk, h_i3c, h_img, h_ln, h_mtx, h_regs, h_shadowFab, h_tim, h_wireOut]

@[simp ↓] theorem kept_sproutRom (h : Kept F s0 s) (h_array : F .array = true := by assumption)
    (h_cnt : F .cnt = true := by assumption) (h_ctxs : F .ctxs = true := by assumption)
    (h_dmc : F .dmc = true := by assumption) (h_erl : F .erl = true := by assumption)
    (h_fab : F .fab = true := by assumption) (h_fch : F .fch = true := by assumption)
    (h_fresh : F .fresh = true := by assumption) (h_gain : F .gain = true := by assumption)
    (h_hbm : F .hbm = true := by assumption) (h_hbmBad : F .hbmBad = true := by assumption)
    (h_hull : F .hull = true := by assumption) (h_husk : F .husk = true := by assumption)
    (h_i3c : F .i3c = true := by assumption) (h_img : F .img = true := by assumption)
    (h_ln : F .ln = true := by assumption) (h_mtx : F .mtx = true := by assumption)
    (h_regs : F .regs = true := by assumption) (h_shadowFab : F .shadowFab = true := by assumption)
    (h_tim : F .tim = true := by assumption) (h_wireOut : F .wireOut = true := by assumption) :
    Kept F s0 (State.sproutRom s) := by
  unfold State.sproutRom
  simp (maxDischargeDepth := 60) +contextual [h, h_array, h_cnt, h_ctxs, h_dmc, h_erl, h_fab, h_fch, h_fresh,
      h_gain, h_hbm, h_hbmBad, h_hull, h_husk, h_i3c, h_img, h_ln, h_mtx, h_regs, h_shadowFab, h_tim, h_wireOut]

@[simp ↓] theorem kept_sproutEnter (h : Kept F s0 s) (h_erl : F .erl = true := by assumption)
    (h_fab : F .fab = true := by assumption) (h_fresh : F .fresh = true := by assumption)
    (h_hull : F .hull = true := by assumption) (h_ln : F .ln = true := by assumption)
    (h_regs : F .regs = true := by assumption) (h_wireOut : F .wireOut = true := by assumption) :
    Kept F s0 (State.sproutEnter s) := by
  unfold State.sproutEnter
  simp (maxDischargeDepth := 60) +contextual [h, h_erl, h_fab, h_fresh, h_hull, h_ln, h_regs, h_wireOut]

@[simp ↓] theorem kept_sproutApplied (h : Kept F s0 s) (h_erl : F .erl = true := by assumption)
    (h_fab : F .fab = true := by assumption) (h_fresh : F .fresh = true := by assumption)
    (h_hull : F .hull = true := by assumption) (h_ln : F .ln = true := by assumption)
    (h_regs : F .regs = true := by assumption) (h_wireOut : F .wireOut = true := by assumption) :
    Kept F s0 (State.sproutApplied s) := by
  unfold State.sproutApplied
  simp (maxDischargeDepth := 60) +contextual [h, h_erl, h_fab, h_fresh, h_hull, h_ln, h_regs, h_wireOut]

@[simp ↓] theorem kept_spSample {e : Nat} (h : Kept F s0 s) (h_erl : F .erl = true := by assumption)
    (h_fch : F .fch = true := by assumption) (h_img : F .img = true := by assumption)
    (h_regs : F .regs = true := by assumption) :
    Kept F s0 (State.spSample s e) := by
  unfold State.spSample
  simp (maxDischargeDepth := 60) +contextual [h, h_erl, h_fch, h_img, h_regs]

@[simp ↓] theorem kept_selfTestStart (h : Kept F s0 s) (h_img : F .img = true := by assumption)
    (h_regs : F .regs = true := by assumption) :
    Kept F s0 (State.selfTestStart s) := by
  unfold State.selfTestStart
  simp (maxDischargeDepth := 60) +contextual [h, h_img, h_regs]

@[simp ↓] theorem kept_readyNow (h : Kept F s0 s) (h_dmc : F .dmc = true := by assumption)
    (h_erl : F .erl = true := by assumption) (h_hbm : F .hbm = true := by assumption)
    (h_hbmBad : F .hbmBad = true := by assumption) (h_img : F .img = true := by assumption)
    (h_regs : F .regs = true := by assumption) :
    Kept F s0 (State.readyNow s) := by
  unfold State.readyNow
  simp (maxDischargeDepth := 60) +contextual [h, h_dmc, h_erl, h_hbm, h_hbmBad, h_img, h_regs]

@[simp ↓] theorem kept_storeContam {e p : Nat} (h : Kept F s0 s) (h_fch : F .fch = true := by assumption) :
    Kept F s0 (State.storeContam s e p) := by
  unfold State.storeContam
  simp (maxDischargeDepth := 60) +contextual [h, h_fch]

@[simp ↓] theorem kept_hullTxContam {e info : Nat} (h : Kept F s0 s) (h_fch : F .fch = true := by assumption)
    (h_hull : F .hull = true := by assumption) :
    Kept F s0 (State.hullTxContam s e info) := by
  unfold State.hullTxContam
  repeat' split
  all_goals simp (maxDischargeDepth := 60) +contextual [h, h_fch, h_hull]

@[simp ↓] theorem kept_laneTxBad {l : Nat} (h : Kept F s0 s) (h_ctxs : F .ctxs = true := by assumption)
    (h_fab : F .fab = true := by assumption) :
    Kept F s0 (State.laneTxBad s l) := by
  unfold State.laneTxBad
  repeat' split
  all_goals simp (maxDischargeDepth := 60) +contextual [h, h_ctxs, h_fab]

@[simp ↓] theorem kept_parityAt {site inst info : Nat} (h : Kept F s0 s) (h_array : F .array = true := by assumption)
    (h_ctxs : F .ctxs = true := by assumption) (h_dmc : F .dmc = true := by assumption)
    (h_erl : F .erl = true := by assumption) (h_fab : F .fab = true := by assumption)
    (h_fch : F .fch = true := by assumption) (h_fresh : F .fresh = true := by assumption)
    (h_hull : F .hull = true := by assumption) (h_husk : F .husk = true := by assumption)
    (h_img : F .img = true := by assumption) (h_regs : F .regs = true := by assumption) :
    Kept F s0 (State.parityAt s site inst info) := by
  unfold State.parityAt
  repeat' split
  all_goals simp (maxDischargeDepth := 60) +contextual [h, h_array, h_ctxs, h_dmc, h_erl, h_fab, h_fch, h_fresh,
      h_hull, h_husk, h_img, h_regs]

@[simp ↓] theorem kept_eccAt {store i syndrome : Nat} {correctable : Bool} (h : Kept F s0 s)
    (h_array : F .array = true := by assumption) (h_ctxs : F .ctxs = true := by assumption)
    (h_erl : F .erl = true := by assumption) (h_fresh : F .fresh = true := by assumption)
    (h_hull : F .hull = true := by assumption) (h_husk : F .husk = true := by assumption)
    (h_img : F .img = true := by assumption) (h_regs : F .regs = true := by assumption) :
    Kept F s0 (State.eccAt s store i syndrome correctable) := by
  unfold State.eccAt
  simp (maxDischargeDepth := 60) +contextual [h, h_array, h_ctxs, h_erl, h_fresh, h_hull, h_husk, h_img, h_regs]

@[simp ↓] theorem kept_dmcTrainNew (h : Kept F s0 s) (h_dmc : F .dmc = true := by assumption) :
    Kept F s0 (State.dmcTrainNew s) := by
  unfold State.dmcTrainNew
  simp (maxDischargeDepth := 60) +contextual [h, h_dmc]

@[simp ↓] theorem kept_pcTrained {pc : Nat} (h : Kept F s0 s) (h_dmc : F .dmc = true := by assumption)
    (h_regs : F .regs = true := by assumption) :
    Kept F s0 (State.pcTrained s pc) := by
  unfold State.pcTrained
  simp (maxDischargeDepth := 60) +contextual [h, h_dmc, h_regs]

@[simp ↓] theorem kept_exitRefresh {pc : Nat} (h : Kept F s0 s) (h_regs : F .regs = true := by assumption) :
    Kept F s0 (State.exitRefresh s pc) := by
  unfold State.exitRefresh
  simp (maxDischargeDepth := 60) +contextual [h, h_regs]

@[simp ↓] theorem kept_exitTrained {pc : Nat} (h : Kept F s0 s) (h_dmc : F .dmc = true := by assumption)
    (h_regs : F .regs = true := by assumption) :
    Kept F s0 (State.exitTrained s pc) := by
  unfold State.exitTrained
  simp (maxDischargeDepth := 60) +contextual [h, h_dmc, h_regs]

@[simp ↓] theorem kept_stepFailed {pc step : Nat} (h : Kept F s0 s) (h_dmc : F .dmc = true := by assumption)
    (h_erl : F .erl = true := by assumption) (h_hbm : F .hbm = true := by assumption)
    (h_hbmBad : F .hbmBad = true := by assumption) (h_img : F .img = true := by assumption)
    (h_regs : F .regs = true := by assumption) :
    Kept F s0 (State.stepFailed s pc step) := by
  unfold State.stepFailed
  simp (maxDischargeDepth := 60) +contextual [h, h_dmc, h_erl, h_hbm, h_hbmBad, h_img, h_regs]

@[simp ↓] theorem kept_stepPass {pc step : Nat} (h : Kept F s0 s) (h_dmc : F .dmc = true := by assumption)
    (h_erl : F .erl = true := by assumption) (h_hbm : F .hbm = true := by assumption)
    (h_hbmBad : F .hbmBad = true := by assumption) (h_img : F .img = true := by assumption)
    (h_regs : F .regs = true := by assumption) :
    Kept F s0 (State.stepPass s pc step) := by
  unfold State.stepPass
  simp (maxDischargeDepth := 60) +contextual [h, h_dmc, h_erl, h_hbm, h_hbmBad, h_img, h_regs]

@[simp ↓] theorem kept_stageSteer {fix : List (Nat × Nat)} (h : Kept F s0 s) (h_array : F .array = true := by assumption) (h_ctxs : F .ctxs = true := by assumption) (h_erl : F .erl = true := by assumption) (h_fresh : F .fresh = true := by assumption) (h_husk : F .husk = true := by assumption) (h_img : F .img = true := by assumption) (h_regs : F .regs = true := by assumption) :
    Kept F s0 (State.stageSteer s fix) := by
  unfold State.stageSteer
  simp (maxDischargeDepth := 60) +contextual [h, h_array, h_ctxs, h_erl, h_fresh, h_husk, h_img, h_regs]

@[simp ↓] theorem kept_stageEnd {stage : Nat} {pass : Bool} (h : Kept F s0 s) (h_fresh : F .fresh = true := by assumption) (h_img : F .img = true := by assumption) (h_regs : F .regs = true := by assumption) :
    Kept F s0 (State.stageEnd s stage pass) := by
  unfold State.stageEnd
  simp (maxDischargeDepth := 60) +contextual [h, h_fresh, h_img, h_regs]
  repeat' split
  all_goals simp_all (maxDischargeDepth := 60) +contextual

end Sys2Proof.Machine
end

