-- ==== Sys2Proof/Laws/Held.lean ====
section
/-! SUPPORT. The operations of the power unit, register writes by any initiator and matrix transactions: what they keep of the
power block, the queue and the stores. -/

set_option linter.unusedSimpArgs false

namespace Sys2Proof.Machine

/-- s comes from s0 by operations that leave the queue alone, keep the stores canonical, and of the power block change at most
the transition in progress, the readings and the test access port. -/
structure Held (F : Part → Bool) (s0 s : State) : Prop where
  pending : s.pending = s0.pending
  memory : Memory.wf s0 = true → Memory.wf s = true
  off : s.pwr.off = s0.pwr.off
  inReset : s.pwr.inReset = s0.pwr.inReset
  power : s0.powerOk → s.powerOk
  same : ∀ p, F p = false → State.same p s0 s

theorem Held.refl {F : Part → Bool} (s : State) : Held F s s := ⟨rfl, id, rfl, rfl, id, fun p _ => State.same_refl p s⟩

/-- An operation that leaves the power block alone, after s. -/
theorem Held.kept {F : Part → Bool} {s0 s t : State} (h : Held F s0 s) (g : Kept F s t) : Held F s0 t :=
  ⟨g.pending.trans h.pending, fun w => g.memory (h.memory w), by rw [g.pwr]; exact h.off, by rw [g.pwr]; exact h.inReset,
    fun w => by have := h.power w; rw [State.powerOk, g.pwr]; exact this,
    fun p hp => State.same_trans (h.same p hp) (g.same p hp)⟩

theorem Kept.held {F : Part → Bool} {s0 s : State} (h : Kept F s0 s) : Held F s0 s := (Held.refl s0).kept h

theorem Held.ite {F : Part → Bool} {s0 a b : State}
    {c : Prop} [Decidable c] (ha : c → Held F s0 a) (hb : ¬c → Held F s0 b) :
    Held F s0 (if c then a else b) := by
  split
  · exact ha ‹_›
  · exact hb ‹_›

/-- A new power block that agrees with the old one in the supplies and reset, and in the phase or out of reset. -/
theorem Held.setPwr {F : Part → Bool} {s0 s : State} (h : Held F s0 s)
    {p : PwrSt} (ho : p.off = s.pwr.off) (hr : p.inReset = s.pwr.inReset)
    (hp : p.phase = s.pwr.phase ∨ p.phase = .none ∨ s0.pwr.inReset = false) (h_pwr : F .pwr = true := by assumption) :
    Held F s0 { s with pwr := p } := by
  refine ⟨h.pending, fun w => ?_, ho.trans h.off, hr.trans h.inReset, fun w => ⟨fun e => ?_, fun e => ?_⟩, fun q hq =>
    State.same_trans (h.same q hq) ?_⟩
  · have := h.memory w
    rw [memory_wf_iff] at this ⊢
    exact this
  · exact hr.trans ((h.power w).1 (ho.symm.trans e))
  · have e : s.pwr.inReset = true := hr.symm.trans e
    rcases hp with hp | hp | hp
    · exact hp.trans ((h.power w).2 e)
    · exact hp
    · rw [h.inReset, hp] at e
      cases e
  · cases q
    case pwr =>
      rw [h_pwr] at hq
      cases hq
    all_goals rfl

theorem Held.setPhase {F : Part → Bool} {s0 s : State} (h : Held F s0 s)
    {p : PwrPhase} (hp : p = .none ∨ s0.pwr.inReset = false)
    (h_pwr : F .pwr = true := by assumption) :
    Held F s0 (s.setPhase p) := h.setPwr rfl rfl (.inr hp)

theorem held_pwrBegin {F : Part → Bool} {s0 s : State} {target : Nat} {p : PwrPhase} (h : Held F s0 s)
    (ha : s0.pwr.inReset = false) (h_pwr : F .pwr = true := by assumption) (h_regs : F .regs = true := by assumption)
    : Held F s0 (s.pwrBegin target p) := (h.kept (by simp (maxDischargeDepth := 60) [h_pwr, h_regs])).setPhase (.inr ha)

theorem held_modPwr {F : Part → Bool} {s0 s : State} {f : PwrSt → PwrSt} (h : Held F s0 s)
    (ho : (f s.pwr).off = s.pwr.off) (hr : (f s.pwr).inReset = s.pwr.inReset) (hp : (f s.pwr).phase = s.pwr.phase)
    (h_pwr : F .pwr = true := by assumption) : Held F s0 (s.modPwr f) :=
  h.setPwr ho hr (.inl hp)

theorem held_pwrDone {F : Part → Bool} {s0 s : State} {target : Nat} (h : Held F s0 s)
    (h_pwr : F .pwr = true := by assumption) (h_regs : F .regs = true := by assumption) :
    Held F s0 (s.pwrDone target) := by
  unfold State.pwrDone
  extract_lets us s1
  have h1 : Held F s0 s1 := h.kept (kept_fset (kept_fset (kept_fset (Kept.refl _))))
  clear_value s1
  exact held_modPwr (Held.setPhase (h1.kept (kept_setReg (kept_inc (kept_fset (Kept.refl _))))) (.inl rfl)) rfl rfl rfl

/-- A transition that fails leaves no phase. -/
theorem held_pwrBreak {F : Part → Bool} {s0 s : State} (h : Held F s0 s)
    (h_pwr : F .pwr = true := by assumption) (h_regs : F .regs = true := by assumption) : Held F s0 s.pwrBreak :=
  (h.kept (kept_fset (kept_fset (Kept.refl _)))).setPhase (.inl rfl)

@[simp ↓] theorem kept_clipSpans {F : Part → Bool} {s0 s : State} {t : Nat} (h : Kept F s0 s)
    (h_erl : F .erl = true := by assumption) : Kept F s0 (s.clipSpans t) := by
  unfold State.clipSpans
  simp (maxDischargeDepth := 60) +contextual [h, h_erl]

@[simp ↓] theorem kept_holdUnits {F : Part → Bool} {s0 s : State} (h : Kept F s0 s)
    (h_array : F .array = true := by assumption) (h_fresh : F .fresh = true := by assumption)
    (h_regs : F .regs = true := by assumption) : Kept F s0 s.holdUnits := by
  unfold State.holdUnits
  simp (maxDischargeDepth := 60) +contextual [h, h_array, h_fresh, h_regs]

/-- The counts of the cycles that a tick stands for. -/
@[simp ↓] theorem kept_holdTick {F : Part → Bool} {s0 s : State} (h : Kept F s0 s)
    (h_array : F .array = true := by assumption) (h_fab : F .fab = true := by assumption)
    (h_husk : F .husk = true := by assumption) (h_regs : F .regs = true := by assumption) : Kept F s0 s.holdTick := by
  unfold State.holdTick
  simp (maxDischargeDepth := 60) +contextual [h, h_array, h_fab, h_husk, h_regs]

@[simp ↓] theorem kept_pwrCode {F : Part → Bool} {s0 s : State} {c : Nat} (h : Kept F s0 s)
    (h_regs : F .regs = true := by assumption) : Kept F s0 (s.pwrCode c) := kept_fset h

@[simp ↓] theorem kept_enterRun {F : Part → Bool} {s0 s : State} (h : Kept F s0 s)
    (h_array : F .array = true := by assumption) (h_fch : F .fch = true := by assumption)
    (h_hull : F .hull = true := by assumption) (h_img : F .img = true := by assumption)
    (h_regs : F .regs = true := by assumption) : Kept F s0 s.enterRun := by
  unfold State.enterRun
  simp (maxDischargeDepth := 60) +contextual [h, h_array, h_fch, h_hull, h_img, h_regs]

@[simp ↓] theorem kept_leaveRun {F : Part → Bool} {s0 s : State} (h : Kept F s0 s)
    (h_ctxs : F .ctxs = true := by assumption) (h_erl : F .erl = true := by assumption) : Kept F s0 s.leaveRun := by
  unfold State.leaveRun
  simp (maxDischargeDepth := 60) +contextual [h, h_ctxs, h_erl]

theorem held_drainStart {F : Part → Bool} {s0 s : State} {target : Nat} (h : Held F s0 s)
    (ha : s0.pwr.inReset = false) (h_array : F .array = true := by assumption)
    (h_ctxs : F .ctxs = true := by assumption) (h_erl : F .erl = true := by assumption)
    (h_fresh : F .fresh = true := by assumption) (h_husk : F .husk = true := by assumption)
    (h_img : F .img = true := by assumption) (h_pwr : F .pwr = true := by assumption) (h_regs : F .regs = true := by assumption) : Held F s0
    (s.drainStart target) :=
  (held_pwrBegin (target := target) (p := .drain) h ha).kept (kept_stopAll (by simp (maxDischargeDepth := 60)
      [h_array, h_ctxs, h_erl, h_fresh, h_husk, h_img, h_pwr, h_regs]))

theorem held_drainEnd {F : Part → Bool} {s0 s : State} (h : Held F s0 s) (ha : s0.pwr.inReset = false)
    (h_array : F .array = true := by assumption) (h_ctxs : F .ctxs = true := by assumption)
    (h_erl : F .erl = true := by assumption) (h_fresh : F .fresh = true := by assumption)
    (h_pwr : F .pwr = true := by assumption) (h_regs : F .regs = true := by assumption) : Held F s0 s.drainEnd := by
  have h : Held F s0 s.holdUnits := h.kept (kept_holdUnits (Kept.refl _))
  unfold State.drainEnd
  exact Held.ite (fun _ => h.setPhase (.inr ha)) fun _ => held_pwrDone (h.kept (kept_leaveRun (Kept.refl _)))

@[simp ↓] theorem kept_dmcStop {F : Part → Bool} {s0 s : State} (h : Kept F s0 s)
    (h_dmc : F .dmc = true := by assumption) (h_hbm : F .hbm = true := by assumption)
    (h_hbmBad : F .hbmBad = true := by assumption) (h_regs : F .regs = true := by assumption) : Kept F s0 s.dmcStop := by
  unfold State.dmcStop
  extract_lets s1 s2
  have h : Kept F s0 s2 := kept_each (fun _ _ h => kept_fset h) (kept_fset (kept_fset (kept_fset h)))
  clear_value s2
  exact h.mem rfl rfl (fun p hp => by cases p <;> first | rfl | simp_all) fun w => by
    have := (memory_wf_iff s2).mp w
    exact (memory_wf_iff _).mpr ⟨this.1, rfl, rfl, this.2.2.2⟩

@[simp ↓] theorem kept_imgEmpty {F : Part → Bool} {s0 s : State} (h : Kept F s0 s)
    (h_img : F .img = true := by assumption) (h_regs : F .regs = true := by assumption) : Kept F s0 s.imgEmpty := by
  unfold State.imgEmpty
  simp (maxDischargeDepth := 60) [h, h_img, h_regs]

theorem held_toStandby {F : Part → Bool} {s0 s : State} (h : Held F s0 s) (h_array : F .array = true := by assumption)
    (h_ctxs : F .ctxs = true := by assumption) (h_dmc : F .dmc = true := by assumption)
    (h_erl : F .erl = true := by assumption) (h_fab : F .fab = true := by assumption)
    (h_fch : F .fch = true := by assumption) (h_fresh : F .fresh = true := by assumption)
    (h_gain : F .gain = true := by assumption) (h_hbm : F .hbm = true := by assumption)
    (h_hbmBad : F .hbmBad = true := by assumption) (h_hull : F .hull = true := by assumption)
    (h_husk : F .husk = true := by assumption) (h_img : F .img = true := by assumption)
    (h_ln : F .ln = true := by assumption) (h_mtx : F .mtx = true := by assumption)
    (h_pwr : F .pwr = true := by assumption) (h_regs : F .regs = true := by assumption)
    (h_tim : F .tim = true := by assumption) (h_wireOut : F .wireOut = true := by assumption) : Held F s0 s.toStandby :=
  held_pwrDone (h.kept (by simp (maxDischargeDepth := 60) [h_array, h_ctxs, h_dmc, h_erl, h_fab, h_fch, h_fresh,
      h_gain, h_hbm, h_hbmBad, h_hull, h_husk, h_img, h_ln, h_mtx, h_pwr, h_regs, h_tim, h_wireOut]))

@[simp ↓] theorem kept_bootFabric {F : Part → Bool} {s0 s : State} (h : Kept F s0 s)
    (h_erl : F .erl = true := by assumption) (h_fab : F .fab = true := by assumption)
    (h_fresh : F .fresh = true := by assumption) (h_hull : F .hull = true := by assumption)
    (h_img : F .img = true := by assumption) (h_ln : F .ln = true := by assumption)
    (h_regs : F .regs = true := by assumption) (h_wireOut : F .wireOut = true := by assumption) : Kept F s0
    s.bootFabric := by
  unfold State.bootFabric
  simp (maxDischargeDepth := 60) +contextual [h, h_erl, h_fab, h_fresh, h_hull, h_img, h_ln, h_regs, h_wireOut]

@[simp ↓] theorem kept_bootSource {F : Part → Bool} {s0 s : State} (h : Kept F s0 s)
    (h_array : F .array = true := by assumption) (h_cnt : F .cnt = true := by assumption)
    (h_ctxs : F .ctxs = true := by assumption) (h_dmc : F .dmc = true := by assumption)
    (h_erl : F .erl = true := by assumption) (h_fab : F .fab = true := by assumption)
    (h_fch : F .fch = true := by assumption) (h_fresh : F .fresh = true := by assumption)
    (h_gain : F .gain = true := by assumption) (h_hbm : F .hbm = true := by assumption)
    (h_hbmBad : F .hbmBad = true := by assumption) (h_hull : F .hull = true := by assumption)
    (h_husk : F .husk = true := by assumption) (h_i3c : F .i3c = true := by assumption)
    (h_img : F .img = true := by assumption) (h_ln : F .ln = true := by assumption)
    (h_mtx : F .mtx = true := by assumption) (h_regs : F .regs = true := by assumption)
    (h_shadowFab : F .shadowFab = true := by assumption) (h_tim : F .tim = true := by assumption)
    (h_wireOut : F .wireOut = true := by assumption) : Kept F s0 s.bootSource := by
  unfold State.bootSource
  split
  · exact h
  · extract_lets s1
    have h : Kept F s0 s1 := kept_modImg h
    clear_value s1
    split
    · exact h
    · exact kept_bootFabric h
    · exact kept_romApply h
    · exact kept_fset h

theorem held_pwrGo {F : Part → Bool} {s0 s : State} {target : Nat} (h : Held F s0 s) (ha : s0.pwr.inReset = false)
    (h_array : F .array = true := by assumption) (h_ctxs : F .ctxs = true := by assumption)
    (h_dmc : F .dmc = true := by assumption) (h_erl : F .erl = true := by assumption)
    (h_fab : F .fab = true := by assumption) (h_fch : F .fch = true := by assumption)
    (h_fresh : F .fresh = true := by assumption) (h_gain : F .gain = true := by assumption)
    (h_hbm : F .hbm = true := by assumption) (h_hbmBad : F .hbmBad = true := by assumption)
    (h_hull : F .hull = true := by assumption) (h_husk : F .husk = true := by assumption)
    (h_img : F .img = true := by assumption) (h_ln : F .ln = true := by assumption)
    (h_mtx : F .mtx = true := by assumption) (h_pwr : F .pwr = true := by assumption)
    (h_regs : F .regs = true := by assumption) (h_tim : F .tim = true := by assumption)
    (h_wireOut : F .wireOut = true := by assumption) : Held F s0 (s.pwrGo target) := by
  unfold State.pwrGo
  split
  · exact held_pwrBegin h ha
  · exact held_drainStart h ha
  · exact (held_pwrDone (target := 4) h).kept (kept_enterRun (Kept.refl _))
  · exact held_toStandby h
  · exact held_pwrBegin h ha
  · exact held_pwrBegin h ha

/-- A command of the power unit outside reset. -/
theorem held_pwrCmd {F : Part → Bool} {s0 s : State} {target : Nat} (h : Held F s0 s) (ha : s0.pwr.inReset = false)
    (h_array : F .array = true := by assumption) (h_ctxs : F .ctxs = true := by assumption)
    (h_dmc : F .dmc = true := by assumption) (h_erl : F .erl = true := by assumption)
    (h_fab : F .fab = true := by assumption) (h_fch : F .fch = true := by assumption)
    (h_fresh : F .fresh = true := by assumption) (h_gain : F .gain = true := by assumption)
    (h_hbm : F .hbm = true := by assumption) (h_hbmBad : F .hbmBad = true := by assumption)
    (h_hull : F .hull = true := by assumption) (h_husk : F .husk = true := by assumption)
    (h_img : F .img = true := by assumption) (h_ln : F .ln = true := by assumption)
    (h_mtx : F .mtx = true := by assumption) (h_pwr : F .pwr = true := by assumption)
    (h_regs : F .regs = true := by assumption) (h_tim : F .tim = true := by assumption)
    (h_wireOut : F .wireOut = true := by assumption) : Held F s0 (s.pwrCmd target) := by
  unfold State.pwrCmd
  repeat' split
  all_goals first
    | exact held_pwrGo (held_modPwr h rfl rfl rfl) ha
    | exact h.kept (by simp (maxDischargeDepth := 60) [h_array, h_ctxs, h_dmc, h_erl, h_fab, h_fch, h_fresh, h_gain,
        h_hbm, h_hbmBad, h_hull, h_husk, h_img, h_ln, h_mtx, h_pwr, h_regs, h_tim, h_wireOut])

theorem held_thermal {F : Part → Bool} {s0 s : State} {sensor : Nat} {q : Int} (h : Held F s0 s)
    (h_pwr : F .pwr = true := by assumption) (h_regs : F .regs = true := by assumption) : Held F s0
    (s.thermal sensor q) := by
  unfold State.thermal
  extract_lets c peak s1 s2 s3 s4
  have h2 : Held F s0 s2 := h.kept (by simp (maxDischargeDepth := 60) [s2, s1, h_pwr, h_regs])
  have h3 : Held F s0 s3 := held_modPwr h2 rfl rfl rfl
  have h4 : Held F s0 s4 := held_modPwr h3 rfl rfl rfl
  split
  · exact h4.kept (kept_raise (kept_inc (kept_fset (Kept.refl _))))
  · split
    · exact held_modPwr h3 rfl rfl rfl
    · exact h3

@[simp ↓] theorem kept_loadShadows {F : Part → Bool} {s0 s : State} (h : Kept F s0 s) (h_shadow : F .shadow = true := by assumption) :
    Kept F s0 (State.loadShadows s) := by
  unfold State.loadShadows
  simp (maxDischargeDepth := 60) +contextual [h, h_shadow]

@[simp ↓] theorem kept_accountLoad {F : Part → Bool} {s0 s : State} (h : Kept F s0 s) (h_erl : F .erl = true := by assumption) (h_fab : F .fab = true := by assumption) (h_regs : F .regs = true := by assumption) :
    Kept F s0 (State.accountLoad s) := by
  unfold State.accountLoad
  simp (maxDischargeDepth := 60) +contextual [h, h_erl, h_fab, h_regs]

/-! ## Register writes by any initiator, and matrix transactions -/

@[simp ↓] theorem kept_imgCmd {F : Part → Bool} {s0 s : State} {v : BitVec 32} (h : Kept F s0 s)
    (h_array : F .array = true := by assumption) (h_cnt : F .cnt = true := by assumption)
    (h_ctxs : F .ctxs = true := by assumption) (h_dmc : F .dmc = true := by assumption)
    (h_erl : F .erl = true := by assumption) (h_fab : F .fab = true := by assumption)
    (h_fch : F .fch = true := by assumption) (h_fresh : F .fresh = true := by assumption)
    (h_gain : F .gain = true := by assumption) (h_hbm : F .hbm = true := by assumption)
    (h_hbmBad : F .hbmBad = true := by assumption) (h_hull : F .hull = true := by assumption)
    (h_husk : F .husk = true := by assumption) (h_i3c : F .i3c = true := by assumption)
    (h_img : F .img = true := by assumption) (h_ln : F .ln = true := by assumption)
    (h_mtx : F .mtx = true := by assumption) (h_regs : F .regs = true := by assumption)
    (h_shadowFab : F .shadowFab = true := by assumption) (h_tim : F .tim = true := by assumption)
    (h_wireOut : F .wireOut = true := by assumption) : Kept F s0 (s.imgCmd v) := by
  unfold State.imgCmd
  repeat' split
  all_goals simp (maxDischargeDepth := 60) [h, h_array, h_cnt, h_ctxs, h_dmc, h_erl, h_fab, h_fch, h_fresh, h_gain,
      h_hbm, h_hbmBad, h_hull, h_husk, h_i3c, h_img, h_ln, h_mtx, h_regs, h_shadowFab, h_tim, h_wireOut]

theorem held_writeAny {F : Part → Bool} {s0 s : State} {i a : Nat} {v : BitVec 32} (h : Held F s0 s)
    (ha : s0.pwr.inReset = false) (h_array : F .array = true := by assumption)
    (h_cnt : F .cnt = true := by assumption) (h_ctxs : F .ctxs = true := by assumption)
    (h_dmc : F .dmc = true := by assumption) (h_erl : F .erl = true := by assumption)
    (h_fab : F .fab = true := by assumption) (h_fch : F .fch = true := by assumption)
    (h_fresh : F .fresh = true := by assumption) (h_gain : F .gain = true := by assumption)
    (h_hbm : F .hbm = true := by assumption) (h_hbmBad : F .hbmBad = true := by assumption)
    (h_hull : F .hull = true := by assumption) (h_husk : F .husk = true := by assumption)
    (h_i3c : F .i3c = true := by assumption) (h_img : F .img = true := by assumption)
    (h_ln : F .ln = true := by assumption) (h_mtx : F .mtx = true := by assumption)
    (h_pwr : F .pwr = true := by assumption) (h_regs : F .regs = true := by assumption)
    (h_shadowFab : F .shadowFab = true := by assumption) (h_tim : F .tim = true := by assumption)
    (h_wireOut : F .wireOut = true := by assumption) : Held F s0 (s.writeAny i a v) := by
  unfold State.writeAny
  repeat' split
  all_goals first
    | exact held_pwrCmd h ha
    | exact h.kept (by simp (maxDischargeDepth := 60) [h_array, h_cnt, h_ctxs, h_dmc, h_erl, h_fab, h_fch, h_fresh,
        h_gain, h_hbm, h_hbmBad, h_hull, h_husk, h_i3c, h_img, h_ln, h_mtx, h_pwr, h_regs, h_shadowFab, h_tim,
        h_wireOut])

theorem held_groupAccess {F : Part → Bool} {s0 s : State} {i a : Nat} {w : Option Word} {b : Bool} (h : Held F s0 s)
    (ha : s0.pwr.inReset = false) (h_array : F .array = true := by assumption)
    (h_cnt : F .cnt = true := by assumption) (h_ctxs : F .ctxs = true := by assumption)
    (h_dmc : F .dmc = true := by assumption) (h_erl : F .erl = true := by assumption)
    (h_fab : F .fab = true := by assumption) (h_fch : F .fch = true := by assumption)
    (h_fresh : F .fresh = true := by assumption) (h_gain : F .gain = true := by assumption)
    (h_hbm : F .hbm = true := by assumption) (h_hbmBad : F .hbmBad = true := by assumption)
    (h_hull : F .hull = true := by assumption) (h_husk : F .husk = true := by assumption)
    (h_i3c : F .i3c = true := by assumption) (h_img : F .img = true := by assumption)
    (h_ln : F .ln = true := by assumption) (h_mtx : F .mtx = true := by assumption)
    (h_pwr : F .pwr = true := by assumption) (h_regs : F .regs = true := by assumption)
    (h_shadow : F .shadow = true := by assumption) (h_shadowFab : F .shadowFab = true := by assumption)
    (h_tim : F .tim = true := by assumption) (h_wireOut : F .wireOut = true := by assumption) : Held F s0
    (s.groupAccess i a w b).1 := by
  unfold State.groupAccess
  repeat' split
  · exact h.kept (by simp (maxDischargeDepth := 60) [h_array, h_cnt, h_ctxs, h_dmc, h_erl, h_fab, h_fch, h_fresh,
      h_gain, h_hbm, h_hbmBad, h_hull, h_husk, h_i3c, h_img, h_ln, h_mtx, h_pwr, h_regs, h_shadow, h_shadowFab, h_tim,
      h_wireOut])
  · exact held_writeAny h ha
  · exact h.kept (kept_fetchReg (Kept.refl s))

theorem Held.each {F : Part → Bool} {s0 s : State} {α : Type} {l : List α} {f : State → α → State} (h : Held F s0 s)
    (hf : ∀ s x, Held F s0 s → Held F s0 (f s x)) : Held F s0 (s.each l f) := by
  induction l generalizing s with
  | nil => exact h
  | cons x t ih => exact ih (hf s x h)

@[simp ↓] theorem kept_regBurst {F : Part → Bool} {s0 s : State} {i a n : Nat} (h : Kept F s0 s)
    (h_dmc : F .dmc = true := by assumption) (h_erl : F .erl = true := by assumption)
    (h_regs : F .regs = true := by assumption) (h_shadow : F .shadow = true := by assumption) : Kept F s0
    (s.regBurst i a n).1 := by
  induction n generalizing s a with
  | zero => exact h
  | succ n ih => exact ih (kept_fetchReg h)

theorem held_regBeat {F : Part → Bool} {s0 s : State} {i a : Nat} {w : LineWrite} (h : Held F s0 s)
    (ha : s0.pwr.inReset = false) (h_array : F .array = true := by assumption)
    (h_cnt : F .cnt = true := by assumption) (h_ctxs : F .ctxs = true := by assumption)
    (h_dmc : F .dmc = true := by assumption) (h_erl : F .erl = true := by assumption)
    (h_fab : F .fab = true := by assumption) (h_fch : F .fch = true := by assumption)
    (h_fresh : F .fresh = true := by assumption) (h_gain : F .gain = true := by assumption)
    (h_hbm : F .hbm = true := by assumption) (h_hbmBad : F .hbmBad = true := by assumption)
    (h_hull : F .hull = true := by assumption) (h_husk : F .husk = true := by assumption)
    (h_i3c : F .i3c = true := by assumption) (h_img : F .img = true := by assumption)
    (h_ln : F .ln = true := by assumption) (h_mtx : F .mtx = true := by assumption)
    (h_pwr : F .pwr = true := by assumption) (h_regs : F .regs = true := by assumption)
    (h_shadow : F .shadow = true := by assumption) (h_shadowFab : F .shadowFab = true := by assumption)
    (h_tim : F .tim = true := by assumption) (h_wireOut : F .wireOut = true := by assumption) : Held F s0
    (s.regBeat i a w) := by
  unfold State.regBeat
  exact h.each fun s g h => Held.ite (fun _ => held_groupAccess h ha) fun _ => h

theorem twf_putStrobed {t : Tbl Byte} {a : Nat} {w : LineWrite} (h : twf (fun _ => 0) t = true) :
    twf (fun _ => 0) (putStrobed t a w) = true := by
  unfold putStrobed
  generalize (w.bytes.zip w.strobes).zip (List.range 64) = l
  induction l generalizing t with
  | nil => exact h
  | cons e l ih =>
    refine ih ?_
    dsimp only
    split
    · exact twf_tset_const _ _ h
    · exact h

/-- A write beat leaves the queue alone and keeps the stores canonical, whichever target it reaches. -/
theorem held_beatWrite {F : Part → Bool} {s0 s : State} {i t a : Nat} {w : LineWrite} (h : Held F s0 s)
    (ha : s0.pwr.inReset = false) (h_array : F .array = true := by assumption)
    (h_cnt : F .cnt = true := by assumption) (h_ctxs : F .ctxs = true := by assumption)
    (h_dmc : F .dmc = true := by assumption) (h_egress : F .egress = true := by assumption)
    (h_erl : F .erl = true := by assumption) (h_fab : F .fab = true := by assumption)
    (h_fch : F .fch = true := by assumption) (h_fresh : F .fresh = true := by assumption)
    (h_gain : F .gain = true := by assumption) (h_hbm : F .hbm = true := by assumption)
    (h_hbmBad : F .hbmBad = true := by assumption) (h_hull : F .hull = true := by assumption)
    (h_husk : F .husk = true := by assumption) (h_i3c : F .i3c = true := by assumption)
    (h_img : F .img = true := by assumption) (h_ln : F .ln = true := by assumption)
    (h_mtx : F .mtx = true := by assumption) (h_pwr : F .pwr = true := by assumption)
    (h_regs : F .regs = true := by assumption) (h_shadow : F .shadow = true := by assumption)
    (h_shadowFab : F .shadowFab = true := by assumption) (h_stage : F .stage = true := by assumption)
    (h_tim : F .tim = true := by assumption) (h_wireOut : F .wireOut = true := by assumption) : Held F s0
    (s.beatWrite i t a w) := by
  unfold State.beatWrite
  extract_lets s1
  have h1 : Held F s0 s1 := h.kept (kept_when (fun _ h => kept_inc (kept_parity h)) (Kept.refl _))
  clear_value s1
  refine Held.ite (fun _ => h1.kept (kept_lineBeat (Kept.refl _))) fun _ => Held.ite (fun _ => ?_) fun _ =>
    Held.ite (fun _ => held_regBeat h1 ha) fun _ => ?_
  · refine ⟨h1.pending, fun w => ?_, h1.off, h1.inReset, h1.power, fun p hp => State.same_trans (h1.same p hp) (by
      cases p <;> first | rfl | simp_all)⟩
    have := (memory_wf_iff s1).mp (h1.memory w)
    exact (memory_wf_iff _).mpr ⟨this.1, this.2.1, this.2.2.1, twf_putStrobed this.2.2.2.1, this.2.2.2.2⟩
  · refine ⟨h1.pending, fun w => ?_, h1.off, h1.inReset, h1.power, fun p hp => State.same_trans (h1.same p hp) (by
      cases p <;> first | rfl | simp_all)⟩
    have := (memory_wf_iff s1).mp (h1.memory w)
    exact (memory_wf_iff _).mpr ⟨this.1, this.2.1, this.2.2.1, this.2.2.2.1, this.2.2.2.2.1,
      twf_putStrobed this.2.2.2.2.2.1, this.2.2.2.2.2.2⟩

@[simp ↓] theorem kept_burstRead {F : Part → Bool} {s0 s : State} {i t a n : Nat} (h : Kept F s0 s)
    (h_dmc : F .dmc = true := by assumption) (h_erl : F .erl = true := by assumption)
    (h_regs : F .regs = true := by assumption) (h_shadow : F .shadow = true := by assumption) : Kept F s0
    (s.burstRead i t a n).1 := by
  unfold State.burstRead
  split
  · exact kept_noteRead h
  · dsimp only
    split
    · exact h
    · split
      · exact kept_regBurst h
      · exact h

@[simp ↓] theorem kept_txnStep {F : Part → Bool} {s0 s : State} {i id : Nat} {write : Bool} {src : TxnStage}
    {f : MtxTxn → MtxTxn} (h : Kept F s0 s) (h_mtx : F .mtx = true := by assumption)
    (h_regs : F .regs = true := by assumption) : Kept F s0 (s.txnStep i id write src f) := by
  unfold State.txnStep
  exact kept_setMtxOut h

theorem held_beatPass {F : Part → Bool} {s0 s : State} {t : Nat} (h : Held F s0 s) (ha : s0.pwr.inReset = false)
    (h_array : F .array = true := by assumption) (h_cnt : F .cnt = true := by assumption)
    (h_ctxs : F .ctxs = true := by assumption) (h_dmc : F .dmc = true := by assumption)
    (h_egress : F .egress = true := by assumption) (h_erl : F .erl = true := by assumption)
    (h_fab : F .fab = true := by assumption) (h_fch : F .fch = true := by assumption)
    (h_fresh : F .fresh = true := by assumption) (h_gain : F .gain = true := by assumption)
    (h_hbm : F .hbm = true := by assumption) (h_hbmBad : F .hbmBad = true := by assumption)
    (h_hull : F .hull = true := by assumption) (h_husk : F .husk = true := by assumption)
    (h_i3c : F .i3c = true := by assumption) (h_img : F .img = true := by assumption)
    (h_ln : F .ln = true := by assumption) (h_mtx : F .mtx = true := by assumption)
    (h_pwr : F .pwr = true := by assumption) (h_regs : F .regs = true := by assumption)
    (h_shadow : F .shadow = true := by assumption) (h_shadowFab : F .shadowFab = true := by assumption)
    (h_stage : F .stage = true := by assumption) (h_tim : F .tim = true := by assumption)
    (h_wireOut : F .wireOut = true := by assumption) : Held F s0 (s.beatPass t) := by
  unfold State.beatPass
  split
  · exact h
  next b rest _ =>
    extract_lets w s1 d
    have h1 : Held F s0 s1 := Held.ite (fun _ => h) fun _ => held_beatWrite h ha
    clear_value s1
    exact Held.ite (fun _ => h1.kept (kept_txnStep (kept_setBursts (Kept.refl _)))) fun _ =>
      h1.kept (kept_setBursts (Kept.refl _))

theorem held_beatsPass {F : Part → Bool} {s0 s : State} {n t : Nat} (h : Held F s0 s) (ha : s0.pwr.inReset = false)
    (h_array : F .array = true := by assumption) (h_cnt : F .cnt = true := by assumption)
    (h_ctxs : F .ctxs = true := by assumption) (h_dmc : F .dmc = true := by assumption)
    (h_egress : F .egress = true := by assumption) (h_erl : F .erl = true := by assumption)
    (h_fab : F .fab = true := by assumption) (h_fch : F .fch = true := by assumption)
    (h_fresh : F .fresh = true := by assumption) (h_gain : F .gain = true := by assumption)
    (h_hbm : F .hbm = true := by assumption) (h_hbmBad : F .hbmBad = true := by assumption)
    (h_hull : F .hull = true := by assumption) (h_husk : F .husk = true := by assumption)
    (h_i3c : F .i3c = true := by assumption) (h_img : F .img = true := by assumption)
    (h_ln : F .ln = true := by assumption) (h_mtx : F .mtx = true := by assumption)
    (h_pwr : F .pwr = true := by assumption) (h_regs : F .regs = true := by assumption)
    (h_shadow : F .shadow = true := by assumption) (h_shadowFab : F .shadowFab = true := by assumption)
    (h_stage : F .stage = true := by assumption) (h_tim : F .tim = true := by assumption)
    (h_wireOut : F .wireOut = true := by assumption) : Held F s0 (State.beatsPass n t s) := by
  induction n generalizing s with
  | zero => exact h
  | succ n ih =>
    unfold State.beatsPass
    split
    · exact h
    · exact Held.ite (fun _ => held_beatPass h ha) fun _ => ih (held_beatPass h ha)

theorem held_flow {F : Part → Bool} {s0 s : State} {n t : Nat} (h : Held F s0 s) (ha : s0.pwr.inReset = false)
    (h_array : F .array = true := by assumption) (h_cnt : F .cnt = true := by assumption)
    (h_ctxs : F .ctxs = true := by assumption) (h_dmc : F .dmc = true := by assumption)
    (h_egress : F .egress = true := by assumption) (h_erl : F .erl = true := by assumption)
    (h_fab : F .fab = true := by assumption) (h_fch : F .fch = true := by assumption)
    (h_fresh : F .fresh = true := by assumption) (h_gain : F .gain = true := by assumption)
    (h_hbm : F .hbm = true := by assumption) (h_hbmBad : F .hbmBad = true := by assumption)
    (h_hull : F .hull = true := by assumption) (h_husk : F .husk = true := by assumption)
    (h_i3c : F .i3c = true := by assumption) (h_img : F .img = true := by assumption)
    (h_ln : F .ln = true := by assumption) (h_mtx : F .mtx = true := by assumption)
    (h_pwr : F .pwr = true := by assumption) (h_regs : F .regs = true := by assumption)
    (h_shadow : F .shadow = true := by assumption) (h_shadowFab : F .shadowFab = true := by assumption)
    (h_stage : F .stage = true := by assumption) (h_tim : F .tim = true := by assumption)
    (h_wireOut : F .wireOut = true := by assumption) : Held F s0 (State.flow n t s) := by
  induction n generalizing s with
  | zero => exact h
  | succ n ih =>
    unfold State.flow
    dsimp only
    split
    · exact h
    · exact Held.ite (fun _ => ih (held_beatsPass (h.kept (kept_mk (Kept.refl _) (by simp) (by simp) (by simp)
        (by simp) (by simp) (by simp) (by simp) (by simp) (by simp) (by simp) (by simp) (by simp) (by simp) (by simp)
        (by simp) (by simp) (by simp) (by simp) (alters_of h_mtx) (by simp) (by simp) (by simp) (by simp))) ha))
        fun _ => h

theorem held_grant {F : Part → Bool} {s0 s : State} {t : Nat} (h : Held F s0 s)
    (h_dmc : F .dmc = true := by assumption) (h_erl : F .erl = true := by assumption)
    (h_mtx : F .mtx = true := by assumption) (h_regs : F .regs = true := by assumption)
    (h_shadow : F .shadow = true := by assumption) : Held F s0 (s.grant t) := by
  unfold State.grant
  extract_lets turn x s1
  split
  · exact h
  next i r _ =>
    extract_lets s2
    have h2 : Held F s0 s2 := h.kept (by simp (maxDischargeDepth := 60) [s2, s1, x, h_mtx])
    clear_value s2
    split
    · exact h2.kept (kept_setBursts (kept_txnStep (Kept.refl _)))
    · exact h2.kept (kept_txnStep (kept_burstRead (Kept.refl _)))

theorem held_grants {F : Part → Bool} {s0 s : State} {n t : Nat} (h : Held F s0 s)
    (h_dmc : F .dmc = true := by assumption) (h_erl : F .erl = true := by assumption)
    (h_mtx : F .mtx = true := by assumption) (h_regs : F .regs = true := by assumption)
    (h_shadow : F .shadow = true := by assumption) : Held F s0 (State.grants n t s) := by
  induction n generalizing s with
  | zero => exact h
  | succ n ih =>
    unfold State.grants
    dsimp only
    exact Held.ite (fun _ => h) fun _ => ih (held_grant (h.kept (by simp (maxDischargeDepth := 60) [h_mtx])))

theorem held_targetRun {F : Part → Bool} {s0 s : State} {t : Nat} (h : Held F s0 s) (ha : s0.pwr.inReset = false)
    (h_array : F .array = true := by assumption) (h_cnt : F .cnt = true := by assumption)
    (h_ctxs : F .ctxs = true := by assumption) (h_dmc : F .dmc = true := by assumption)
    (h_egress : F .egress = true := by assumption) (h_erl : F .erl = true := by assumption)
    (h_fab : F .fab = true := by assumption) (h_fch : F .fch = true := by assumption)
    (h_fresh : F .fresh = true := by assumption) (h_gain : F .gain = true := by assumption)
    (h_hbm : F .hbm = true := by assumption) (h_hbmBad : F .hbmBad = true := by assumption)
    (h_hull : F .hull = true := by assumption) (h_husk : F .husk = true := by assumption)
    (h_i3c : F .i3c = true := by assumption) (h_img : F .img = true := by assumption)
    (h_ln : F .ln = true := by assumption) (h_mtx : F .mtx = true := by assumption)
    (h_pwr : F .pwr = true := by assumption) (h_regs : F .regs = true := by assumption)
    (h_shadow : F .shadow = true := by assumption) (h_shadowFab : F .shadowFab = true := by assumption)
    (h_stage : F .stage = true := by assumption) (h_tim : F .tim = true := by assumption)
    (h_wireOut : F .wireOut = true := by assumption) : Held F s0 (s.targetRun t) :=
  Held.ite (fun _ => h) fun _ => held_flow (held_grants h) ha

theorem held_mtxRequest {F : Part → Bool} {s0 s : State} {i : Nat} {r : MtxReq} (h : Held F s0 s)
    (ha : s0.pwr.inReset = false) (h_array : F .array = true := by assumption)
    (h_cnt : F .cnt = true := by assumption) (h_ctxs : F .ctxs = true := by assumption)
    (h_dmc : F .dmc = true := by assumption) (h_egress : F .egress = true := by assumption)
    (h_erl : F .erl = true := by assumption) (h_fab : F .fab = true := by assumption)
    (h_fch : F .fch = true := by assumption) (h_fresh : F .fresh = true := by assumption)
    (h_gain : F .gain = true := by assumption) (h_hbm : F .hbm = true := by assumption)
    (h_hbmBad : F .hbmBad = true := by assumption) (h_hull : F .hull = true := by assumption)
    (h_husk : F .husk = true := by assumption) (h_i3c : F .i3c = true := by assumption)
    (h_img : F .img = true := by assumption) (h_ln : F .ln = true := by assumption)
    (h_mtx : F .mtx = true := by assumption) (h_pwr : F .pwr = true := by assumption)
    (h_regs : F .regs = true := by assumption) (h_shadow : F .shadow = true := by assumption)
    (h_shadowFab : F .shadowFab = true := by assumption) (h_stage : F .stage = true := by assumption)
    (h_tim : F .tim = true := by assumption) (h_wireOut : F .wireOut = true := by assumption) : Held F s0
    (s.mtxRequest i r) := by
  unfold State.mtxRequest
  extract_lets first t s1
  have h1 : Held F s0 s1 := h.kept (kept_portAccept (kept_setPort (Kept.refl _)))
  clear_value s1
  refine Held.ite (fun _ => ?_) fun _ => Held.ite (fun _ => held_targetRun h1 ha) fun _ => h1
  split
  · exact h1.kept (kept_mtxHeld (Kept.refl _))
  · exact h1

/-- What a tick does at the matrix keeps the queue, and of the power block all but the transition in progress. -/
theorem held_mtxTick {F : Part → Bool} {s0 s : State} (h : Held F s0 s) (ha : s0.pwr.inReset = false)
    (h_array : F .array = true := by assumption) (h_cnt : F .cnt = true := by assumption)
    (h_ctxs : F .ctxs = true := by assumption) (h_dmc : F .dmc = true := by assumption)
    (h_egress : F .egress = true := by assumption) (h_erl : F .erl = true := by assumption)
    (h_fab : F .fab = true := by assumption) (h_fch : F .fch = true := by assumption)
    (h_fresh : F .fresh = true := by assumption) (h_gain : F .gain = true := by assumption)
    (h_hbm : F .hbm = true := by assumption) (h_hbmBad : F .hbmBad = true := by assumption)
    (h_hull : F .hull = true := by assumption) (h_husk : F .husk = true := by assumption)
    (h_i3c : F .i3c = true := by assumption) (h_img : F .img = true := by assumption)
    (h_ln : F .ln = true := by assumption) (h_mtx : F .mtx = true := by assumption)
    (h_pwr : F .pwr = true := by assumption) (h_regs : F .regs = true := by assumption)
    (h_shadow : F .shadow = true := by assumption) (h_shadowFab : F .shadowFab = true := by assumption)
    (h_stage : F .stage = true := by assumption) (h_tim : F .tim = true := by assumption)
    (h_wireOut : F .wireOut = true := by assumption) : Held F s0 s.mtxTick := by
  unfold State.mtxTick
  refine Held.each (h.each fun s i h => ?_) fun s t h => held_targetRun h ha
  split
  · exact h
  · dsimp only
    split
    · exact h.kept (kept_mtxHeld (Kept.refl _))
    · exact h

end Sys2Proof.Machine
end

