-- ==== Sys2Proof/Laws/State.lean ====
section
/-! SUPPORT. The state's registers and fields after each named update: one lemma per field per update, and what a register or a
field reads after a write. -/

namespace Sys2Proof.Machine

variable {s : State}

/-! ## The other fields -/

@[simp] theorem setReg_pending {a : Nat} {w : BitVec 32} : (s.setReg a w).pending = s.pending := rfl
@[simp] theorem setReg_shadow {a : Nat} {w : BitVec 32} : (s.setReg a w).shadow = s.shadow := rfl
@[simp] theorem setReg_shadowFab {a : Nat} {w : BitVec 32} : (s.setReg a w).shadowFab = s.shadowFab := rfl
@[simp] theorem setReg_hbm {a : Nat} {w : BitVec 32} : (s.setReg a w).hbm = s.hbm := rfl
@[simp] theorem setReg_hbmBad {a : Nat} {w : BitVec 32} : (s.setReg a w).hbmBad = s.hbmBad := rfl
@[simp] theorem setReg_fresh {a : Nat} {w : BitVec 32} : (s.setReg a w).fresh = s.fresh := rfl
@[simp] theorem setReg_time {a : Nat} {w : BitVec 32} : (s.setReg a w).time = s.time := rfl
@[simp] theorem setReg_wireOut {a : Nat} {w : BitVec 32} : (s.setReg a w).wireOut = s.wireOut := rfl
@[simp] theorem setReg_fch {a : Nat} {w : BitVec 32} : (s.setReg a w).fch = s.fch := rfl
@[simp] theorem setReg_hull {a : Nat} {w : BitVec 32} : (s.setReg a w).hull = s.hull := rfl
@[simp] theorem setReg_array {a : Nat} {w : BitVec 32} : (s.setReg a w).array = s.array := rfl
@[simp] theorem setReg_husk {a : Nat} {w : BitVec 32} : (s.setReg a w).husk = s.husk := rfl
@[simp] theorem setReg_ctxs {a : Nat} {w : BitVec 32} : (s.setReg a w).ctxs = s.ctxs := rfl
@[simp] theorem setReg_tim {a : Nat} {w : BitVec 32} : (s.setReg a w).tim = s.tim := rfl
@[simp] theorem setReg_ln {a : Nat} {w : BitVec 32} : (s.setReg a w).ln = s.ln := rfl
@[simp] theorem setReg_fab {a : Nat} {w : BitVec 32} : (s.setReg a w).fab = s.fab := rfl
@[simp] theorem setReg_dmc {a : Nat} {w : BitVec 32} : (s.setReg a w).dmc = s.dmc := rfl
@[simp] theorem setReg_mtx {a : Nat} {w : BitVec 32} : (s.setReg a w).mtx = s.mtx := rfl
@[simp] theorem setReg_img {a : Nat} {w : BitVec 32} : (s.setReg a w).img = s.img := rfl
@[simp] theorem setReg_i3c {a : Nat} {w : BitVec 32} : (s.setReg a w).i3c = s.i3c := rfl
@[simp] theorem setReg_erl {a : Nat} {w : BitVec 32} : (s.setReg a w).erl = s.erl := rfl
@[simp] theorem setReg_pwr {a : Nat} {w : BitVec 32} : (s.setReg a w).pwr = s.pwr := rfl
@[simp] theorem setReg_cnt {a : Nat} {w : BitVec 32} : (s.setReg a w).cnt = s.cnt := rfl

@[simp] theorem fset_pending {f : Fld} {v : Nat} : (s.fset f v).pending = s.pending := rfl
@[simp] theorem fset_shadow {f : Fld} {v : Nat} : (s.fset f v).shadow = s.shadow := rfl
@[simp] theorem fset_shadowFab {f : Fld} {v : Nat} : (s.fset f v).shadowFab = s.shadowFab := rfl
@[simp] theorem fset_hbm {f : Fld} {v : Nat} : (s.fset f v).hbm = s.hbm := rfl
@[simp] theorem fset_hbmBad {f : Fld} {v : Nat} : (s.fset f v).hbmBad = s.hbmBad := rfl
@[simp] theorem fset_fresh {f : Fld} {v : Nat} : (s.fset f v).fresh = s.fresh := rfl
@[simp] theorem fset_time {f : Fld} {v : Nat} : (s.fset f v).time = s.time := rfl
@[simp] theorem fset_wireOut {f : Fld} {v : Nat} : (s.fset f v).wireOut = s.wireOut := rfl
@[simp] theorem fset_fch {f : Fld} {v : Nat} : (s.fset f v).fch = s.fch := rfl
@[simp] theorem fset_hull {f : Fld} {v : Nat} : (s.fset f v).hull = s.hull := rfl
@[simp] theorem fset_array {f : Fld} {v : Nat} : (s.fset f v).array = s.array := rfl
@[simp] theorem fset_husk {f : Fld} {v : Nat} : (s.fset f v).husk = s.husk := rfl
@[simp] theorem fset_ctxs {f : Fld} {v : Nat} : (s.fset f v).ctxs = s.ctxs := rfl
@[simp] theorem fset_tim {f : Fld} {v : Nat} : (s.fset f v).tim = s.tim := rfl
@[simp] theorem fset_ln {f : Fld} {v : Nat} : (s.fset f v).ln = s.ln := rfl
@[simp] theorem fset_fab {f : Fld} {v : Nat} : (s.fset f v).fab = s.fab := rfl
@[simp] theorem fset_dmc {f : Fld} {v : Nat} : (s.fset f v).dmc = s.dmc := rfl
@[simp] theorem fset_mtx {f : Fld} {v : Nat} : (s.fset f v).mtx = s.mtx := rfl
@[simp] theorem fset_img {f : Fld} {v : Nat} : (s.fset f v).img = s.img := rfl
@[simp] theorem fset_i3c {f : Fld} {v : Nat} : (s.fset f v).i3c = s.i3c := rfl
@[simp] theorem fset_erl {f : Fld} {v : Nat} : (s.fset f v).erl = s.erl := rfl
@[simp] theorem fset_pwr {f : Fld} {v : Nat} : (s.fset f v).pwr = s.pwr := rfl
@[simp] theorem fset_cnt {f : Fld} {v : Nat} : (s.fset f v).cnt = s.cnt := rfl

@[simp] theorem incBy_pending {a n : Nat} : (s.incBy a n).pending = s.pending := rfl
@[simp] theorem incBy_shadow {a n : Nat} : (s.incBy a n).shadow = s.shadow := rfl
@[simp] theorem incBy_shadowFab {a n : Nat} : (s.incBy a n).shadowFab = s.shadowFab := rfl
@[simp] theorem incBy_hbm {a n : Nat} : (s.incBy a n).hbm = s.hbm := rfl
@[simp] theorem incBy_hbmBad {a n : Nat} : (s.incBy a n).hbmBad = s.hbmBad := rfl
@[simp] theorem incBy_fresh {a n : Nat} : (s.incBy a n).fresh = s.fresh := rfl
@[simp] theorem incBy_time {a n : Nat} : (s.incBy a n).time = s.time := rfl
@[simp] theorem incBy_wireOut {a n : Nat} : (s.incBy a n).wireOut = s.wireOut := rfl
@[simp] theorem incBy_fch {a n : Nat} : (s.incBy a n).fch = s.fch := rfl
@[simp] theorem incBy_hull {a n : Nat} : (s.incBy a n).hull = s.hull := rfl
@[simp] theorem incBy_array {a n : Nat} : (s.incBy a n).array = s.array := rfl
@[simp] theorem incBy_husk {a n : Nat} : (s.incBy a n).husk = s.husk := rfl
@[simp] theorem incBy_ctxs {a n : Nat} : (s.incBy a n).ctxs = s.ctxs := rfl
@[simp] theorem incBy_tim {a n : Nat} : (s.incBy a n).tim = s.tim := rfl
@[simp] theorem incBy_ln {a n : Nat} : (s.incBy a n).ln = s.ln := rfl
@[simp] theorem incBy_fab {a n : Nat} : (s.incBy a n).fab = s.fab := rfl
@[simp] theorem incBy_dmc {a n : Nat} : (s.incBy a n).dmc = s.dmc := rfl
@[simp] theorem incBy_mtx {a n : Nat} : (s.incBy a n).mtx = s.mtx := rfl
@[simp] theorem incBy_img {a n : Nat} : (s.incBy a n).img = s.img := rfl
@[simp] theorem incBy_i3c {a n : Nat} : (s.incBy a n).i3c = s.i3c := rfl
@[simp] theorem incBy_erl {a n : Nat} : (s.incBy a n).erl = s.erl := rfl
@[simp] theorem incBy_pwr {a n : Nat} : (s.incBy a n).pwr = s.pwr := rfl
@[simp] theorem incBy_cnt {a n : Nat} : (s.incBy a n).cnt = s.cnt := rfl

@[simp] theorem inc_pending {a : Nat} : (s.inc a).pending = s.pending := rfl
@[simp] theorem inc_shadow {a : Nat} : (s.inc a).shadow = s.shadow := rfl
@[simp] theorem inc_shadowFab {a : Nat} : (s.inc a).shadowFab = s.shadowFab := rfl
@[simp] theorem inc_hbm {a : Nat} : (s.inc a).hbm = s.hbm := rfl
@[simp] theorem inc_hbmBad {a : Nat} : (s.inc a).hbmBad = s.hbmBad := rfl
@[simp] theorem inc_fresh {a : Nat} : (s.inc a).fresh = s.fresh := rfl
@[simp] theorem inc_time {a : Nat} : (s.inc a).time = s.time := rfl
@[simp] theorem inc_wireOut {a : Nat} : (s.inc a).wireOut = s.wireOut := rfl
@[simp] theorem inc_fch {a : Nat} : (s.inc a).fch = s.fch := rfl
@[simp] theorem inc_hull {a : Nat} : (s.inc a).hull = s.hull := rfl
@[simp] theorem inc_array {a : Nat} : (s.inc a).array = s.array := rfl
@[simp] theorem inc_husk {a : Nat} : (s.inc a).husk = s.husk := rfl
@[simp] theorem inc_ctxs {a : Nat} : (s.inc a).ctxs = s.ctxs := rfl
@[simp] theorem inc_tim {a : Nat} : (s.inc a).tim = s.tim := rfl
@[simp] theorem inc_ln {a : Nat} : (s.inc a).ln = s.ln := rfl
@[simp] theorem inc_fab {a : Nat} : (s.inc a).fab = s.fab := rfl
@[simp] theorem inc_dmc {a : Nat} : (s.inc a).dmc = s.dmc := rfl
@[simp] theorem inc_mtx {a : Nat} : (s.inc a).mtx = s.mtx := rfl
@[simp] theorem inc_img {a : Nat} : (s.inc a).img = s.img := rfl
@[simp] theorem inc_i3c {a : Nat} : (s.inc a).i3c = s.i3c := rfl
@[simp] theorem inc_erl {a : Nat} : (s.inc a).erl = s.erl := rfl
@[simp] theorem inc_pwr {a : Nat} : (s.inc a).pwr = s.pwr := rfl
@[simp] theorem inc_cnt {a : Nat} : (s.inc a).cnt = s.cnt := rfl

@[simp] theorem set2_pending {lo hi v : Nat} : (s.set2 lo hi v).pending = s.pending := rfl
@[simp] theorem set2_shadow {lo hi v : Nat} : (s.set2 lo hi v).shadow = s.shadow := rfl
@[simp] theorem set2_shadowFab {lo hi v : Nat} : (s.set2 lo hi v).shadowFab = s.shadowFab := rfl
@[simp] theorem set2_hbm {lo hi v : Nat} : (s.set2 lo hi v).hbm = s.hbm := rfl
@[simp] theorem set2_hbmBad {lo hi v : Nat} : (s.set2 lo hi v).hbmBad = s.hbmBad := rfl
@[simp] theorem set2_fresh {lo hi v : Nat} : (s.set2 lo hi v).fresh = s.fresh := rfl
@[simp] theorem set2_time {lo hi v : Nat} : (s.set2 lo hi v).time = s.time := rfl
@[simp] theorem set2_wireOut {lo hi v : Nat} : (s.set2 lo hi v).wireOut = s.wireOut := rfl
@[simp] theorem set2_fch {lo hi v : Nat} : (s.set2 lo hi v).fch = s.fch := rfl
@[simp] theorem set2_hull {lo hi v : Nat} : (s.set2 lo hi v).hull = s.hull := rfl
@[simp] theorem set2_array {lo hi v : Nat} : (s.set2 lo hi v).array = s.array := rfl
@[simp] theorem set2_husk {lo hi v : Nat} : (s.set2 lo hi v).husk = s.husk := rfl
@[simp] theorem set2_ctxs {lo hi v : Nat} : (s.set2 lo hi v).ctxs = s.ctxs := rfl
@[simp] theorem set2_tim {lo hi v : Nat} : (s.set2 lo hi v).tim = s.tim := rfl
@[simp] theorem set2_ln {lo hi v : Nat} : (s.set2 lo hi v).ln = s.ln := rfl
@[simp] theorem set2_fab {lo hi v : Nat} : (s.set2 lo hi v).fab = s.fab := rfl
@[simp] theorem set2_dmc {lo hi v : Nat} : (s.set2 lo hi v).dmc = s.dmc := rfl
@[simp] theorem set2_mtx {lo hi v : Nat} : (s.set2 lo hi v).mtx = s.mtx := rfl
@[simp] theorem set2_img {lo hi v : Nat} : (s.set2 lo hi v).img = s.img := rfl
@[simp] theorem set2_i3c {lo hi v : Nat} : (s.set2 lo hi v).i3c = s.i3c := rfl
@[simp] theorem set2_erl {lo hi v : Nat} : (s.set2 lo hi v).erl = s.erl := rfl
@[simp] theorem set2_pwr {lo hi v : Nat} : (s.set2 lo hi v).pwr = s.pwr := rfl
@[simp] theorem set2_cnt {lo hi v : Nat} : (s.set2 lo hi v).cnt = s.cnt := rfl

@[simp] theorem pmc_pending {n k : Nat} : (s.pmc n k).pending = s.pending := rfl
@[simp] theorem pmc_shadow {n k : Nat} : (s.pmc n k).shadow = s.shadow := rfl
@[simp] theorem pmc_shadowFab {n k : Nat} : (s.pmc n k).shadowFab = s.shadowFab := rfl
@[simp] theorem pmc_hbm {n k : Nat} : (s.pmc n k).hbm = s.hbm := rfl
@[simp] theorem pmc_hbmBad {n k : Nat} : (s.pmc n k).hbmBad = s.hbmBad := rfl
@[simp] theorem pmc_fresh {n k : Nat} : (s.pmc n k).fresh = s.fresh := rfl
@[simp] theorem pmc_time {n k : Nat} : (s.pmc n k).time = s.time := rfl
@[simp] theorem pmc_wireOut {n k : Nat} : (s.pmc n k).wireOut = s.wireOut := rfl
@[simp] theorem pmc_fch {n k : Nat} : (s.pmc n k).fch = s.fch := rfl
@[simp] theorem pmc_hull {n k : Nat} : (s.pmc n k).hull = s.hull := rfl
@[simp] theorem pmc_array {n k : Nat} : (s.pmc n k).array = s.array := rfl
@[simp] theorem pmc_husk {n k : Nat} : (s.pmc n k).husk = s.husk := rfl
@[simp] theorem pmc_ctxs {n k : Nat} : (s.pmc n k).ctxs = s.ctxs := rfl
@[simp] theorem pmc_tim {n k : Nat} : (s.pmc n k).tim = s.tim := rfl
@[simp] theorem pmc_ln {n k : Nat} : (s.pmc n k).ln = s.ln := rfl
@[simp] theorem pmc_fab {n k : Nat} : (s.pmc n k).fab = s.fab := rfl
@[simp] theorem pmc_dmc {n k : Nat} : (s.pmc n k).dmc = s.dmc := rfl
@[simp] theorem pmc_mtx {n k : Nat} : (s.pmc n k).mtx = s.mtx := rfl
@[simp] theorem pmc_img {n k : Nat} : (s.pmc n k).img = s.img := rfl
@[simp] theorem pmc_i3c {n k : Nat} : (s.pmc n k).i3c = s.i3c := rfl
@[simp] theorem pmc_erl {n k : Nat} : (s.pmc n k).erl = s.erl := rfl
@[simp] theorem pmc_pwr {n k : Nat} : (s.pmc n k).pwr = s.pwr := rfl
@[simp] theorem pmc_cnt {n k : Nat} : (s.pmc n k).cnt = s.cnt := rfl

@[simp] theorem raise_pending {c : Nat} : (s.raise c).pending = s.pending := rfl
@[simp] theorem raise_shadow {c : Nat} : (s.raise c).shadow = s.shadow := rfl
@[simp] theorem raise_shadowFab {c : Nat} : (s.raise c).shadowFab = s.shadowFab := rfl
@[simp] theorem raise_hbm {c : Nat} : (s.raise c).hbm = s.hbm := rfl
@[simp] theorem raise_hbmBad {c : Nat} : (s.raise c).hbmBad = s.hbmBad := rfl
@[simp] theorem raise_fresh {c : Nat} : (s.raise c).fresh = s.fresh := rfl
@[simp] theorem raise_time {c : Nat} : (s.raise c).time = s.time := rfl
@[simp] theorem raise_wireOut {c : Nat} : (s.raise c).wireOut = s.wireOut := rfl
@[simp] theorem raise_fch {c : Nat} : (s.raise c).fch = s.fch := rfl
@[simp] theorem raise_hull {c : Nat} : (s.raise c).hull = s.hull := rfl
@[simp] theorem raise_array {c : Nat} : (s.raise c).array = s.array := rfl
@[simp] theorem raise_husk {c : Nat} : (s.raise c).husk = s.husk := rfl
@[simp] theorem raise_ctxs {c : Nat} : (s.raise c).ctxs = s.ctxs := rfl
@[simp] theorem raise_tim {c : Nat} : (s.raise c).tim = s.tim := rfl
@[simp] theorem raise_ln {c : Nat} : (s.raise c).ln = s.ln := rfl
@[simp] theorem raise_fab {c : Nat} : (s.raise c).fab = s.fab := rfl
@[simp] theorem raise_dmc {c : Nat} : (s.raise c).dmc = s.dmc := rfl
@[simp] theorem raise_mtx {c : Nat} : (s.raise c).mtx = s.mtx := rfl
@[simp] theorem raise_img {c : Nat} : (s.raise c).img = s.img := rfl
@[simp] theorem raise_i3c {c : Nat} : (s.raise c).i3c = s.i3c := rfl
@[simp] theorem raise_erl {c : Nat} : (s.raise c).erl = s.erl := rfl
@[simp] theorem raise_pwr {c : Nat} : (s.raise c).pwr = s.pwr := rfl
@[simp] theorem raise_cnt {c : Nat} : (s.raise c).cnt = s.cnt := rfl

@[simp] theorem draw_pending : (s.draw).pending = s.pending := rfl
@[simp] theorem draw_regs : (s.draw).regs = s.regs := rfl
@[simp] theorem draw_shadow : (s.draw).shadow = s.shadow := rfl
@[simp] theorem draw_shadowFab : (s.draw).shadowFab = s.shadowFab := rfl
@[simp] theorem draw_hbm : (s.draw).hbm = s.hbm := rfl
@[simp] theorem draw_hbmBad : (s.draw).hbmBad = s.hbmBad := rfl
@[simp] theorem draw_time : (s.draw).time = s.time := rfl
@[simp] theorem draw_wireOut : (s.draw).wireOut = s.wireOut := rfl
@[simp] theorem draw_fch : (s.draw).fch = s.fch := rfl
@[simp] theorem draw_hull : (s.draw).hull = s.hull := rfl
@[simp] theorem draw_array : (s.draw).array = s.array := rfl
@[simp] theorem draw_husk : (s.draw).husk = s.husk := rfl
@[simp] theorem draw_ctxs : (s.draw).ctxs = s.ctxs := rfl
@[simp] theorem draw_tim : (s.draw).tim = s.tim := rfl
@[simp] theorem draw_ln : (s.draw).ln = s.ln := rfl
@[simp] theorem draw_fab : (s.draw).fab = s.fab := rfl
@[simp] theorem draw_dmc : (s.draw).dmc = s.dmc := rfl
@[simp] theorem draw_mtx : (s.draw).mtx = s.mtx := rfl
@[simp] theorem draw_img : (s.draw).img = s.img := rfl
@[simp] theorem draw_i3c : (s.draw).i3c = s.i3c := rfl
@[simp] theorem draw_erl : (s.draw).erl = s.erl := rfl
@[simp] theorem draw_pwr : (s.draw).pwr = s.pwr := rfl
@[simp] theorem draw_cnt : (s.draw).cnt = s.cnt := rfl

/-! ## Registers -/

theorem reg_setReg {a b : Nat} {w : BitVec 32} : (s.setReg a w).reg b = if b = a then w else s.reg b := by
  unfold State.reg State.setReg
  split
  · subst b
    simp
  · rename_i h
    exact tget_tset_ne (regReset a) s.regs w h

@[simp] theorem reg_setReg_self {a : Nat} {w : BitVec 32} : (s.setReg a w).reg a = w := by simp [reg_setReg]

theorem reg_setReg_ne {a b : Nat} {w : BitVec 32} (h : b ≠ a) : (s.setReg a w).reg b = s.reg b := by simp [reg_setReg, h]

theorem reg_fset_ne {f : Fld} {v b : Nat} (h : b ≠ f.addr) : (s.fset f v).reg b = s.reg b := reg_setReg_ne h

@[simp] theorem reg_inc_self {a : Nat} : (s.inc a).reg a = s.reg a + 1 := reg_setReg_self

theorem reg_inc_ne {a b : Nat} (h : b ≠ a) : (s.inc a).reg b = s.reg b := reg_setReg_ne h

@[simp] theorem reg_incBy_self {a n : Nat} : (s.incBy a n).reg a = s.reg a + BitVec.ofNat 32 n := reg_setReg_self

theorem reg_incBy_ne {a b n : Nat} (h : b ≠ a) : (s.incBy a n).reg b = s.reg b := reg_setReg_ne h

theorem reg_pmc_ne {n k b : Nat} (hl : b ≠ PMC_LIVE_LO n) (hh : b ≠ PMC_LIVE_HI n) : (s.pmc n k).reg b = s.reg b := by
  unfold State.pmc
  rw [reg_setReg_ne hh, reg_setReg_ne hl]

theorem reg_raise_ne {c b : Nat} (h : b ≠ GLB_INTPEND) : (s.raise c).reg b = s.reg b := reg_setReg_ne h

@[simp] theorem reg_draw {b : Nat} : s.draw.reg b = s.reg b := rfl

/-! ## Fields of a word -/

/-- Bit i of a field's mask. -/
theorem getLsbD_mask {f : Fld} {i : Nat} (hi : i < 32) : f.mask.getLsbD i = (decide (f.lo ≤ i) && decide (i < f.lo + f.width)) := by
  unfold Fld.mask
  simp only [BitVec.getLsbD_shiftLeft, BitVec.getLsbD_ofNat, Nat.testBit_two_pow_sub_one, hi, decide_true, Bool.true_and]
  by_cases h : f.lo ≤ i
  · have : ¬ i < f.lo := by omega
    have e : i - f.lo < 32 := by omega
    simp [this, h, e]
    omega
  · simp [h]

/-- Bit i of a word with field f replaced. -/
theorem getLsbD_into {f : Fld} {w : BitVec 32} {v i : Nat} (hi : i < 32) : (f.into w v).getLsbD i =
    if f.lo ≤ i ∧ i < f.lo + f.width then v.testBit (i - f.lo) else w.getLsbD i := by
  unfold Fld.into
  simp only [BitVec.getLsbD_or, BitVec.getLsbD_and, BitVec.getLsbD_not, getLsbD_mask hi, hi, decide_true, Bool.true_and,
    BitVec.getLsbD_shiftLeft, BitVec.getLsbD_ofNat]
  by_cases h : f.lo ≤ i ∧ i < f.lo + f.width
  · have h1 : ¬ i < f.lo := by omega
    have h2 : i - f.lo < 32 := by omega
    simp [h, h1, h2]
  · by_cases h1 : f.lo ≤ i
    · have h2 : ¬ i < f.lo + f.width := by omega
      simp [h1, h2]
    · simp [h1]

/-- Bit j of a field. -/
theorem testBit_of {f : Fld} {w : BitVec 32} {j : Nat} : (f.of w).testBit j = (decide (j < f.width) && w.getLsbD (f.lo + j)) := by
  unfold Fld.of
  rw [Nat.testBit_mod_two_pow]
  simp [BitVec.testBit_toNat]

/-- A field reads what was written, cut to its width. -/
theorem of_into {f : Fld} {w : BitVec 32} {v : Nat} (h : f.lo + f.width ≤ 32) : f.of (f.into w v) = v % 2 ^ f.width := by
  apply Nat.eq_of_testBit_eq
  intro j
  rw [testBit_of, Nat.testBit_mod_two_pow]
  by_cases hj : j < f.width
  · rw [getLsbD_into (by omega)]
    have : f.lo + j < f.lo + f.width := by omega
    simp [hj]
  · simp [hj]

/-- A field that shares no bit with the one written keeps its value. -/
theorem of_into_ne {f g : Fld} {w : BitVec 32} {v : Nat} (h : f.lo + f.width ≤ g.lo ∨ g.lo + g.width ≤ f.lo) :
    f.of (g.into w v) = f.of w := by
  apply Nat.eq_of_testBit_eq
  intro j
  rw [testBit_of, testBit_of]
  by_cases hj : j < f.width
  · by_cases hi : f.lo + j < 32
    · rw [getLsbD_into hi]
      have : ¬ (g.lo ≤ f.lo + j ∧ f.lo + j < g.lo + g.width) := by omega
      simp [this]
    · simp [hj, BitVec.getLsbD_of_ge _ _ (by omega : 32 ≤ f.lo + j)]
  · simp [hj]

theorem fget_fset {f : Fld} {v : Nat} (h : f.lo + f.width ≤ 32) : (s.fset f v).fget f = v % 2 ^ f.width := by
  unfold State.fget State.fset
  rw [reg_setReg_self, of_into h]

theorem fget_fset_addr {f g : Fld} {v : Nat} (h : f.addr ≠ g.addr) : (s.fset g v).fget f = s.fget f := by
  unfold State.fget
  rw [reg_fset_ne h]

theorem fget_fset_ne {f g : Fld} {v : Nat} (h : f.addr ≠ g.addr ∨ f.lo + f.width ≤ g.lo ∨ g.lo + g.width ≤ f.lo) :
    (s.fset g v).fget f = s.fget f := by
  by_cases ha : f.addr = g.addr
  · unfold State.fget State.fset
    rw [ha, reg_setReg_self]
    exact of_into_ne (h.resolve_left (by simp [ha]))
  · exact fget_fset_addr ha

theorem fget_setReg_ne {f : Fld} {a : Nat} {w : BitVec 32} (h : f.addr ≠ a) : (s.setReg a w).fget f = s.fget f := by
  unfold State.fget
  rw [reg_setReg_ne h]

/-! ## Outcomes -/

theorem reply_next {b : Prop} [Decidable b] {t u : State} : reply b t = .next u ↔ ¬b ∧ u = t := by
  unfold reply
  split <;> simp_all [eq_comm]

/-- A command that is well formed answers the state of its meaning. -/
theorem reply_of_not {b : Prop} [Decidable b] {t : State} (h : ¬b) : reply b t = .next t := by simp [reply, h]

end Sys2Proof.Machine
end

