-- ==== Sys2Proof/Laws/Units.lean ====
section
/-! SUPPORT. What the named updates of one unit's state leave: the unit reads as written, another unit as before, and every
other part of the state is unchanged. -/

namespace Sys2Proof.Machine

variable {s : State}

@[simp] theorem setPod_pod {p : Nat} {x : PodSt} : (s.setPod p x).pod p = x := by simp [State.setPod, State.pod]
theorem setPod_pod_ne {p j : Nat} {x : PodSt} (h : j ≠ p) : (s.setPod p x).pod j = s.pod j := by
  simp only [State.setPod, State.pod]
  exact tget_tset_ne _ _ _ h
@[simp] theorem setPod_pending {p : Nat} {x : PodSt} : (s.setPod p x).pending = s.pending := rfl
@[simp] theorem setPod_regs {p : Nat} {x : PodSt} : (s.setPod p x).regs = s.regs := rfl
@[simp] theorem setPod_hbm {p : Nat} {x : PodSt} : (s.setPod p x).hbm = s.hbm := rfl
@[simp] theorem setPod_hbmBad {p : Nat} {x : PodSt} : (s.setPod p x).hbmBad = s.hbmBad := rfl
@[simp] theorem setPod_fresh {p : Nat} {x : PodSt} : (s.setPod p x).fresh = s.fresh := rfl
@[simp] theorem setPod_time {p : Nat} {x : PodSt} : (s.setPod p x).time = s.time := rfl
@[simp] theorem setPod_wireOut {p : Nat} {x : PodSt} : (s.setPod p x).wireOut = s.wireOut := rfl
@[simp] theorem setPod_fch {p : Nat} {x : PodSt} : (s.setPod p x).fch = s.fch := rfl
@[simp] theorem setPod_hull {p : Nat} {x : PodSt} : (s.setPod p x).hull = s.hull := rfl
@[simp] theorem setPod_husk {p : Nat} {x : PodSt} : (s.setPod p x).husk = s.husk := rfl
@[simp] theorem setPod_ctxs {p : Nat} {x : PodSt} : (s.setPod p x).ctxs = s.ctxs := rfl
@[simp] theorem setPod_tim {p : Nat} {x : PodSt} : (s.setPod p x).tim = s.tim := rfl
@[simp] theorem setPod_ln {p : Nat} {x : PodSt} : (s.setPod p x).ln = s.ln := rfl
@[simp] theorem setPod_fab {p : Nat} {x : PodSt} : (s.setPod p x).fab = s.fab := rfl
@[simp] theorem setPod_dmc {p : Nat} {x : PodSt} : (s.setPod p x).dmc = s.dmc := rfl
@[simp] theorem setPod_mtx {p : Nat} {x : PodSt} : (s.setPod p x).mtx = s.mtx := rfl
@[simp] theorem setPod_img {p : Nat} {x : PodSt} : (s.setPod p x).img = s.img := rfl
@[simp] theorem setPod_i3c {p : Nat} {x : PodSt} : (s.setPod p x).i3c = s.i3c := rfl
@[simp] theorem setPod_erl {p : Nat} {x : PodSt} : (s.setPod p x).erl = s.erl := rfl
@[simp] theorem setPod_pwr {p : Nat} {x : PodSt} : (s.setPod p x).pwr = s.pwr := rfl
@[simp] theorem setPod_cnt {p : Nat} {x : PodSt} : (s.setPod p x).cnt = s.cnt := rfl

@[simp] theorem setSlot_slot {e p : Nat} {x : SlotSt} : (s.setSlot e p x).slot e p = x := by simp [State.setSlot, State.slot]
theorem setSlot_slot_ne {e p d q : Nat} {x : SlotSt} (hp : p < 16) (hq : q < 16) (h : d ≠ e ∨ q ≠ p) :
    (s.setSlot e p x).slot d q = s.slot d q := by
  simp only [State.setSlot, State.slot]
  exact tget_tset_ne _ _ _ (by omega)
@[simp] theorem setSlot_pending {e p : Nat} {x : SlotSt} : (s.setSlot e p x).pending = s.pending := rfl
@[simp] theorem setSlot_regs {e p : Nat} {x : SlotSt} : (s.setSlot e p x).regs = s.regs := rfl
@[simp] theorem setSlot_hbm {e p : Nat} {x : SlotSt} : (s.setSlot e p x).hbm = s.hbm := rfl
@[simp] theorem setSlot_hbmBad {e p : Nat} {x : SlotSt} : (s.setSlot e p x).hbmBad = s.hbmBad := rfl
@[simp] theorem setSlot_fresh {e p : Nat} {x : SlotSt} : (s.setSlot e p x).fresh = s.fresh := rfl
@[simp] theorem setSlot_time {e p : Nat} {x : SlotSt} : (s.setSlot e p x).time = s.time := rfl
@[simp] theorem setSlot_wireOut {e p : Nat} {x : SlotSt} : (s.setSlot e p x).wireOut = s.wireOut := rfl
@[simp] theorem setSlot_hull {e p : Nat} {x : SlotSt} : (s.setSlot e p x).hull = s.hull := rfl
@[simp] theorem setSlot_array {e p : Nat} {x : SlotSt} : (s.setSlot e p x).array = s.array := rfl
@[simp] theorem setSlot_husk {e p : Nat} {x : SlotSt} : (s.setSlot e p x).husk = s.husk := rfl
@[simp] theorem setSlot_ctxs {e p : Nat} {x : SlotSt} : (s.setSlot e p x).ctxs = s.ctxs := rfl
@[simp] theorem setSlot_tim {e p : Nat} {x : SlotSt} : (s.setSlot e p x).tim = s.tim := rfl
@[simp] theorem setSlot_ln {e p : Nat} {x : SlotSt} : (s.setSlot e p x).ln = s.ln := rfl
@[simp] theorem setSlot_fab {e p : Nat} {x : SlotSt} : (s.setSlot e p x).fab = s.fab := rfl
@[simp] theorem setSlot_dmc {e p : Nat} {x : SlotSt} : (s.setSlot e p x).dmc = s.dmc := rfl
@[simp] theorem setSlot_mtx {e p : Nat} {x : SlotSt} : (s.setSlot e p x).mtx = s.mtx := rfl
@[simp] theorem setSlot_img {e p : Nat} {x : SlotSt} : (s.setSlot e p x).img = s.img := rfl
@[simp] theorem setSlot_i3c {e p : Nat} {x : SlotSt} : (s.setSlot e p x).i3c = s.i3c := rfl
@[simp] theorem setSlot_erl {e p : Nat} {x : SlotSt} : (s.setSlot e p x).erl = s.erl := rfl
@[simp] theorem setSlot_pwr {e p : Nat} {x : SlotSt} : (s.setSlot e p x).pwr = s.pwr := rfl
@[simp] theorem setSlot_cnt {e p : Nat} {x : SlotSt} : (s.setSlot e p x).cnt = s.cnt := rfl

@[simp] theorem setHusk_huskCtx {c : Nat} {x : Option HuskCtx} : (s.setHusk c x).huskCtx c = x := by simp [State.setHusk, State.huskCtx]
theorem setHusk_huskCtx_ne {c j : Nat} {x : Option HuskCtx} (h : j ≠ c) : (s.setHusk c x).huskCtx j = s.huskCtx j := by
  simp only [State.setHusk, State.huskCtx]
  exact tget_tset_ne _ _ _ h
@[simp] theorem setHusk_pending {c : Nat} {x : Option HuskCtx} : (s.setHusk c x).pending = s.pending := rfl
@[simp] theorem setHusk_regs {c : Nat} {x : Option HuskCtx} : (s.setHusk c x).regs = s.regs := rfl
@[simp] theorem setHusk_hbm {c : Nat} {x : Option HuskCtx} : (s.setHusk c x).hbm = s.hbm := rfl
@[simp] theorem setHusk_hbmBad {c : Nat} {x : Option HuskCtx} : (s.setHusk c x).hbmBad = s.hbmBad := rfl
@[simp] theorem setHusk_fresh {c : Nat} {x : Option HuskCtx} : (s.setHusk c x).fresh = s.fresh := rfl
@[simp] theorem setHusk_time {c : Nat} {x : Option HuskCtx} : (s.setHusk c x).time = s.time := rfl
@[simp] theorem setHusk_wireOut {c : Nat} {x : Option HuskCtx} : (s.setHusk c x).wireOut = s.wireOut := rfl
@[simp] theorem setHusk_fch {c : Nat} {x : Option HuskCtx} : (s.setHusk c x).fch = s.fch := rfl
@[simp] theorem setHusk_hull {c : Nat} {x : Option HuskCtx} : (s.setHusk c x).hull = s.hull := rfl
@[simp] theorem setHusk_array {c : Nat} {x : Option HuskCtx} : (s.setHusk c x).array = s.array := rfl
@[simp] theorem setHusk_ctxs {c : Nat} {x : Option HuskCtx} : (s.setHusk c x).ctxs = s.ctxs := rfl
@[simp] theorem setHusk_tim {c : Nat} {x : Option HuskCtx} : (s.setHusk c x).tim = s.tim := rfl
@[simp] theorem setHusk_ln {c : Nat} {x : Option HuskCtx} : (s.setHusk c x).ln = s.ln := rfl
@[simp] theorem setHusk_fab {c : Nat} {x : Option HuskCtx} : (s.setHusk c x).fab = s.fab := rfl
@[simp] theorem setHusk_dmc {c : Nat} {x : Option HuskCtx} : (s.setHusk c x).dmc = s.dmc := rfl
@[simp] theorem setHusk_mtx {c : Nat} {x : Option HuskCtx} : (s.setHusk c x).mtx = s.mtx := rfl
@[simp] theorem setHusk_img {c : Nat} {x : Option HuskCtx} : (s.setHusk c x).img = s.img := rfl
@[simp] theorem setHusk_i3c {c : Nat} {x : Option HuskCtx} : (s.setHusk c x).i3c = s.i3c := rfl
@[simp] theorem setHusk_erl {c : Nat} {x : Option HuskCtx} : (s.setHusk c x).erl = s.erl := rfl
@[simp] theorem setHusk_pwr {c : Nat} {x : Option HuskCtx} : (s.setHusk c x).pwr = s.pwr := rfl
@[simp] theorem setHusk_cnt {c : Nat} {x : Option HuskCtx} : (s.setHusk c x).cnt = s.cnt := rfl

@[simp] theorem setRun_lrun {l : Nat} {x : LaneRun} : (s.setRun l x).lrun l = x := by simp [State.setRun, State.lrun]
theorem setRun_lrun_ne {l j : Nat} {x : LaneRun} (h : j ≠ l) : (s.setRun l x).lrun j = s.lrun j := by
  simp only [State.setRun, State.lrun]
  exact tget_tset_ne _ _ _ h
@[simp] theorem setRun_pending {l : Nat} {x : LaneRun} : (s.setRun l x).pending = s.pending := rfl
@[simp] theorem setRun_regs {l : Nat} {x : LaneRun} : (s.setRun l x).regs = s.regs := rfl
@[simp] theorem setRun_hbm {l : Nat} {x : LaneRun} : (s.setRun l x).hbm = s.hbm := rfl
@[simp] theorem setRun_hbmBad {l : Nat} {x : LaneRun} : (s.setRun l x).hbmBad = s.hbmBad := rfl
@[simp] theorem setRun_fresh {l : Nat} {x : LaneRun} : (s.setRun l x).fresh = s.fresh := rfl
@[simp] theorem setRun_time {l : Nat} {x : LaneRun} : (s.setRun l x).time = s.time := rfl
@[simp] theorem setRun_wireOut {l : Nat} {x : LaneRun} : (s.setRun l x).wireOut = s.wireOut := rfl
@[simp] theorem setRun_fch {l : Nat} {x : LaneRun} : (s.setRun l x).fch = s.fch := rfl
@[simp] theorem setRun_hull {l : Nat} {x : LaneRun} : (s.setRun l x).hull = s.hull := rfl
@[simp] theorem setRun_array {l : Nat} {x : LaneRun} : (s.setRun l x).array = s.array := rfl
@[simp] theorem setRun_husk {l : Nat} {x : LaneRun} : (s.setRun l x).husk = s.husk := rfl
@[simp] theorem setRun_ctxs {l : Nat} {x : LaneRun} : (s.setRun l x).ctxs = s.ctxs := rfl
@[simp] theorem setRun_tim {l : Nat} {x : LaneRun} : (s.setRun l x).tim = s.tim := rfl
@[simp] theorem setRun_fab {l : Nat} {x : LaneRun} : (s.setRun l x).fab = s.fab := rfl
@[simp] theorem setRun_dmc {l : Nat} {x : LaneRun} : (s.setRun l x).dmc = s.dmc := rfl
@[simp] theorem setRun_mtx {l : Nat} {x : LaneRun} : (s.setRun l x).mtx = s.mtx := rfl
@[simp] theorem setRun_img {l : Nat} {x : LaneRun} : (s.setRun l x).img = s.img := rfl
@[simp] theorem setRun_i3c {l : Nat} {x : LaneRun} : (s.setRun l x).i3c = s.i3c := rfl
@[simp] theorem setRun_erl {l : Nat} {x : LaneRun} : (s.setRun l x).erl = s.erl := rfl
@[simp] theorem setRun_pwr {l : Nat} {x : LaneRun} : (s.setRun l x).pwr = s.pwr := rfl
@[simp] theorem setRun_cnt {l : Nat} {x : LaneRun} : (s.setRun l x).cnt = s.cnt := rfl

@[simp] theorem setSwap_lswap {l : Nat} {x : Option SwapSt} : (s.setSwap l x).lswap l = x := by simp [State.setSwap, State.lswap]
theorem setSwap_lswap_ne {l j : Nat} {x : Option SwapSt} (h : j ≠ l) : (s.setSwap l x).lswap j = s.lswap j := by
  simp only [State.setSwap, State.lswap]
  exact tget_tset_ne _ _ _ h
@[simp] theorem setSwap_pending {l : Nat} {x : Option SwapSt} : (s.setSwap l x).pending = s.pending := rfl
@[simp] theorem setSwap_regs {l : Nat} {x : Option SwapSt} : (s.setSwap l x).regs = s.regs := rfl
@[simp] theorem setSwap_hbm {l : Nat} {x : Option SwapSt} : (s.setSwap l x).hbm = s.hbm := rfl
@[simp] theorem setSwap_hbmBad {l : Nat} {x : Option SwapSt} : (s.setSwap l x).hbmBad = s.hbmBad := rfl
@[simp] theorem setSwap_fresh {l : Nat} {x : Option SwapSt} : (s.setSwap l x).fresh = s.fresh := rfl
@[simp] theorem setSwap_time {l : Nat} {x : Option SwapSt} : (s.setSwap l x).time = s.time := rfl
@[simp] theorem setSwap_wireOut {l : Nat} {x : Option SwapSt} : (s.setSwap l x).wireOut = s.wireOut := rfl
@[simp] theorem setSwap_fch {l : Nat} {x : Option SwapSt} : (s.setSwap l x).fch = s.fch := rfl
@[simp] theorem setSwap_hull {l : Nat} {x : Option SwapSt} : (s.setSwap l x).hull = s.hull := rfl
@[simp] theorem setSwap_array {l : Nat} {x : Option SwapSt} : (s.setSwap l x).array = s.array := rfl
@[simp] theorem setSwap_husk {l : Nat} {x : Option SwapSt} : (s.setSwap l x).husk = s.husk := rfl
@[simp] theorem setSwap_ctxs {l : Nat} {x : Option SwapSt} : (s.setSwap l x).ctxs = s.ctxs := rfl
@[simp] theorem setSwap_tim {l : Nat} {x : Option SwapSt} : (s.setSwap l x).tim = s.tim := rfl
@[simp] theorem setSwap_fab {l : Nat} {x : Option SwapSt} : (s.setSwap l x).fab = s.fab := rfl
@[simp] theorem setSwap_dmc {l : Nat} {x : Option SwapSt} : (s.setSwap l x).dmc = s.dmc := rfl
@[simp] theorem setSwap_mtx {l : Nat} {x : Option SwapSt} : (s.setSwap l x).mtx = s.mtx := rfl
@[simp] theorem setSwap_img {l : Nat} {x : Option SwapSt} : (s.setSwap l x).img = s.img := rfl
@[simp] theorem setSwap_i3c {l : Nat} {x : Option SwapSt} : (s.setSwap l x).i3c = s.i3c := rfl
@[simp] theorem setSwap_erl {l : Nat} {x : Option SwapSt} : (s.setSwap l x).erl = s.erl := rfl
@[simp] theorem setSwap_pwr {l : Nat} {x : Option SwapSt} : (s.setSwap l x).pwr = s.pwr := rfl
@[simp] theorem setSwap_cnt {l : Nat} {x : Option SwapSt} : (s.setSwap l x).cnt = s.cnt := rfl

@[simp] theorem setSeed_seedOf {l : Nat} {x : SeedTx} : (s.setSeed l x).seedOf l = x := by simp [State.setSeed, State.seedOf]
theorem setSeed_seedOf_ne {l j : Nat} {x : SeedTx} (h : j ≠ l) : (s.setSeed l x).seedOf j = s.seedOf j := by
  simp only [State.setSeed, State.seedOf]
  exact tget_tset_ne _ _ _ h
@[simp] theorem setSeed_pending {l : Nat} {x : SeedTx} : (s.setSeed l x).pending = s.pending := rfl
@[simp] theorem setSeed_regs {l : Nat} {x : SeedTx} : (s.setSeed l x).regs = s.regs := rfl
@[simp] theorem setSeed_hbm {l : Nat} {x : SeedTx} : (s.setSeed l x).hbm = s.hbm := rfl
@[simp] theorem setSeed_hbmBad {l : Nat} {x : SeedTx} : (s.setSeed l x).hbmBad = s.hbmBad := rfl
@[simp] theorem setSeed_fresh {l : Nat} {x : SeedTx} : (s.setSeed l x).fresh = s.fresh := rfl
@[simp] theorem setSeed_time {l : Nat} {x : SeedTx} : (s.setSeed l x).time = s.time := rfl
@[simp] theorem setSeed_wireOut {l : Nat} {x : SeedTx} : (s.setSeed l x).wireOut = s.wireOut := rfl
@[simp] theorem setSeed_fch {l : Nat} {x : SeedTx} : (s.setSeed l x).fch = s.fch := rfl
@[simp] theorem setSeed_hull {l : Nat} {x : SeedTx} : (s.setSeed l x).hull = s.hull := rfl
@[simp] theorem setSeed_array {l : Nat} {x : SeedTx} : (s.setSeed l x).array = s.array := rfl
@[simp] theorem setSeed_husk {l : Nat} {x : SeedTx} : (s.setSeed l x).husk = s.husk := rfl
@[simp] theorem setSeed_ctxs {l : Nat} {x : SeedTx} : (s.setSeed l x).ctxs = s.ctxs := rfl
@[simp] theorem setSeed_tim {l : Nat} {x : SeedTx} : (s.setSeed l x).tim = s.tim := rfl
@[simp] theorem setSeed_ln {l : Nat} {x : SeedTx} : (s.setSeed l x).ln = s.ln := rfl
@[simp] theorem setSeed_dmc {l : Nat} {x : SeedTx} : (s.setSeed l x).dmc = s.dmc := rfl
@[simp] theorem setSeed_mtx {l : Nat} {x : SeedTx} : (s.setSeed l x).mtx = s.mtx := rfl
@[simp] theorem setSeed_img {l : Nat} {x : SeedTx} : (s.setSeed l x).img = s.img := rfl
@[simp] theorem setSeed_i3c {l : Nat} {x : SeedTx} : (s.setSeed l x).i3c = s.i3c := rfl
@[simp] theorem setSeed_erl {l : Nat} {x : SeedTx} : (s.setSeed l x).erl = s.erl := rfl
@[simp] theorem setSeed_pwr {l : Nat} {x : SeedTx} : (s.setSeed l x).pwr = s.pwr := rfl
@[simp] theorem setSeed_cnt {l : Nat} {x : SeedTx} : (s.setSeed l x).cnt = s.cnt := rfl

@[simp] theorem setMtxOut_mtxOut {i : Nat} {x : List MtxTxn} : (s.setMtxOut i x).mtxOut i = x := by simp [State.setMtxOut, State.mtxOut]
theorem setMtxOut_mtxOut_ne {i j : Nat} {x : List MtxTxn} (h : j ≠ i) : (s.setMtxOut i x).mtxOut j = s.mtxOut j := by
  simp only [State.setMtxOut, State.mtxOut]
  exact tget_tset_ne _ _ _ h
@[simp] theorem setMtxOut_pending {i : Nat} {x : List MtxTxn} : (s.setMtxOut i x).pending = s.pending := rfl
@[simp] theorem setMtxOut_hbm {i : Nat} {x : List MtxTxn} : (s.setMtxOut i x).hbm = s.hbm := rfl
@[simp] theorem setMtxOut_hbmBad {i : Nat} {x : List MtxTxn} : (s.setMtxOut i x).hbmBad = s.hbmBad := rfl
@[simp] theorem setMtxOut_fresh {i : Nat} {x : List MtxTxn} : (s.setMtxOut i x).fresh = s.fresh := rfl
@[simp] theorem setMtxOut_time {i : Nat} {x : List MtxTxn} : (s.setMtxOut i x).time = s.time := rfl
@[simp] theorem setMtxOut_wireOut {i : Nat} {x : List MtxTxn} : (s.setMtxOut i x).wireOut = s.wireOut := rfl
@[simp] theorem setMtxOut_fch {i : Nat} {x : List MtxTxn} : (s.setMtxOut i x).fch = s.fch := rfl
@[simp] theorem setMtxOut_hull {i : Nat} {x : List MtxTxn} : (s.setMtxOut i x).hull = s.hull := rfl
@[simp] theorem setMtxOut_array {i : Nat} {x : List MtxTxn} : (s.setMtxOut i x).array = s.array := rfl
@[simp] theorem setMtxOut_husk {i : Nat} {x : List MtxTxn} : (s.setMtxOut i x).husk = s.husk := rfl
@[simp] theorem setMtxOut_ctxs {i : Nat} {x : List MtxTxn} : (s.setMtxOut i x).ctxs = s.ctxs := rfl
@[simp] theorem setMtxOut_tim {i : Nat} {x : List MtxTxn} : (s.setMtxOut i x).tim = s.tim := rfl
@[simp] theorem setMtxOut_ln {i : Nat} {x : List MtxTxn} : (s.setMtxOut i x).ln = s.ln := rfl
@[simp] theorem setMtxOut_fab {i : Nat} {x : List MtxTxn} : (s.setMtxOut i x).fab = s.fab := rfl
@[simp] theorem setMtxOut_dmc {i : Nat} {x : List MtxTxn} : (s.setMtxOut i x).dmc = s.dmc := rfl
@[simp] theorem setMtxOut_img {i : Nat} {x : List MtxTxn} : (s.setMtxOut i x).img = s.img := rfl
@[simp] theorem setMtxOut_i3c {i : Nat} {x : List MtxTxn} : (s.setMtxOut i x).i3c = s.i3c := rfl
@[simp] theorem setMtxOut_erl {i : Nat} {x : List MtxTxn} : (s.setMtxOut i x).erl = s.erl := rfl
@[simp] theorem setMtxOut_pwr {i : Nat} {x : List MtxTxn} : (s.setMtxOut i x).pwr = s.pwr := rfl
@[simp] theorem setMtxOut_cnt {i : Nat} {x : List MtxTxn} : (s.setMtxOut i x).cnt = s.cnt := rfl

@[simp] theorem setFenced_fencedIds {i : Nat} {x : List Nat} : (s.setFenced i x).fencedIds i = x := by simp [State.setFenced, State.fencedIds]
theorem setFenced_fencedIds_ne {i j : Nat} {x : List Nat} (h : j ≠ i) : (s.setFenced i x).fencedIds j = s.fencedIds j := by
  simp only [State.setFenced, State.fencedIds]
  exact tget_tset_ne _ _ _ h
@[simp] theorem setFenced_pending {i : Nat} {x : List Nat} : (s.setFenced i x).pending = s.pending := rfl
@[simp] theorem setFenced_hbm {i : Nat} {x : List Nat} : (s.setFenced i x).hbm = s.hbm := rfl
@[simp] theorem setFenced_hbmBad {i : Nat} {x : List Nat} : (s.setFenced i x).hbmBad = s.hbmBad := rfl
@[simp] theorem setFenced_fresh {i : Nat} {x : List Nat} : (s.setFenced i x).fresh = s.fresh := rfl
@[simp] theorem setFenced_time {i : Nat} {x : List Nat} : (s.setFenced i x).time = s.time := rfl
@[simp] theorem setFenced_wireOut {i : Nat} {x : List Nat} : (s.setFenced i x).wireOut = s.wireOut := rfl
@[simp] theorem setFenced_fch {i : Nat} {x : List Nat} : (s.setFenced i x).fch = s.fch := rfl
@[simp] theorem setFenced_hull {i : Nat} {x : List Nat} : (s.setFenced i x).hull = s.hull := rfl
@[simp] theorem setFenced_array {i : Nat} {x : List Nat} : (s.setFenced i x).array = s.array := rfl
@[simp] theorem setFenced_husk {i : Nat} {x : List Nat} : (s.setFenced i x).husk = s.husk := rfl
@[simp] theorem setFenced_ctxs {i : Nat} {x : List Nat} : (s.setFenced i x).ctxs = s.ctxs := rfl
@[simp] theorem setFenced_tim {i : Nat} {x : List Nat} : (s.setFenced i x).tim = s.tim := rfl
@[simp] theorem setFenced_ln {i : Nat} {x : List Nat} : (s.setFenced i x).ln = s.ln := rfl
@[simp] theorem setFenced_fab {i : Nat} {x : List Nat} : (s.setFenced i x).fab = s.fab := rfl
@[simp] theorem setFenced_dmc {i : Nat} {x : List Nat} : (s.setFenced i x).dmc = s.dmc := rfl
@[simp] theorem setFenced_img {i : Nat} {x : List Nat} : (s.setFenced i x).img = s.img := rfl
@[simp] theorem setFenced_i3c {i : Nat} {x : List Nat} : (s.setFenced i x).i3c = s.i3c := rfl
@[simp] theorem setFenced_erl {i : Nat} {x : List Nat} : (s.setFenced i x).erl = s.erl := rfl
@[simp] theorem setFenced_pwr {i : Nat} {x : List Nat} : (s.setFenced i x).pwr = s.pwr := rfl
@[simp] theorem setFenced_cnt {i : Nat} {x : List Nat} : (s.setFenced i x).cnt = s.cnt := rfl

@[simp] theorem setPort_portQ {i : Nat} {x : List MtxReq} : (s.setPort i x).portQ i = x := by simp [State.setPort, State.portQ]
theorem setPort_portQ_ne {i j : Nat} {x : List MtxReq} (h : j ≠ i) : (s.setPort i x).portQ j = s.portQ j := by
  simp only [State.setPort, State.portQ]
  exact tget_tset_ne _ _ _ h
@[simp] theorem setPort_pending {i : Nat} {x : List MtxReq} : (s.setPort i x).pending = s.pending := rfl
@[simp] theorem setPort_regs {i : Nat} {x : List MtxReq} : (s.setPort i x).regs = s.regs := rfl
@[simp] theorem setPort_hbm {i : Nat} {x : List MtxReq} : (s.setPort i x).hbm = s.hbm := rfl
@[simp] theorem setPort_hbmBad {i : Nat} {x : List MtxReq} : (s.setPort i x).hbmBad = s.hbmBad := rfl
@[simp] theorem setPort_fresh {i : Nat} {x : List MtxReq} : (s.setPort i x).fresh = s.fresh := rfl
@[simp] theorem setPort_time {i : Nat} {x : List MtxReq} : (s.setPort i x).time = s.time := rfl
@[simp] theorem setPort_wireOut {i : Nat} {x : List MtxReq} : (s.setPort i x).wireOut = s.wireOut := rfl
@[simp] theorem setPort_fch {i : Nat} {x : List MtxReq} : (s.setPort i x).fch = s.fch := rfl
@[simp] theorem setPort_hull {i : Nat} {x : List MtxReq} : (s.setPort i x).hull = s.hull := rfl
@[simp] theorem setPort_array {i : Nat} {x : List MtxReq} : (s.setPort i x).array = s.array := rfl
@[simp] theorem setPort_husk {i : Nat} {x : List MtxReq} : (s.setPort i x).husk = s.husk := rfl
@[simp] theorem setPort_ctxs {i : Nat} {x : List MtxReq} : (s.setPort i x).ctxs = s.ctxs := rfl
@[simp] theorem setPort_tim {i : Nat} {x : List MtxReq} : (s.setPort i x).tim = s.tim := rfl
@[simp] theorem setPort_ln {i : Nat} {x : List MtxReq} : (s.setPort i x).ln = s.ln := rfl
@[simp] theorem setPort_fab {i : Nat} {x : List MtxReq} : (s.setPort i x).fab = s.fab := rfl
@[simp] theorem setPort_dmc {i : Nat} {x : List MtxReq} : (s.setPort i x).dmc = s.dmc := rfl
@[simp] theorem setPort_img {i : Nat} {x : List MtxReq} : (s.setPort i x).img = s.img := rfl
@[simp] theorem setPort_i3c {i : Nat} {x : List MtxReq} : (s.setPort i x).i3c = s.i3c := rfl
@[simp] theorem setPort_erl {i : Nat} {x : List MtxReq} : (s.setPort i x).erl = s.erl := rfl
@[simp] theorem setPort_pwr {i : Nat} {x : List MtxReq} : (s.setPort i x).pwr = s.pwr := rfl
@[simp] theorem setPort_cnt {i : Nat} {x : List MtxReq} : (s.setPort i x).cnt = s.cnt := rfl

@[simp] theorem setUngranted_ungrantedAt {i : Nat} {x : List (Nat × MtxReq)} : (s.setUngranted i x).ungrantedAt i = x := by simp [State.setUngranted, State.ungrantedAt]
theorem setUngranted_ungrantedAt_ne {i j : Nat} {x : List (Nat × MtxReq)} (h : j ≠ i) : (s.setUngranted i x).ungrantedAt j = s.ungrantedAt j := by
  simp only [State.setUngranted, State.ungrantedAt]
  exact tget_tset_ne _ _ _ h
@[simp] theorem setUngranted_pending {i : Nat} {x : List (Nat × MtxReq)} : (s.setUngranted i x).pending = s.pending := rfl
@[simp] theorem setUngranted_regs {i : Nat} {x : List (Nat × MtxReq)} : (s.setUngranted i x).regs = s.regs := rfl
@[simp] theorem setUngranted_hbm {i : Nat} {x : List (Nat × MtxReq)} : (s.setUngranted i x).hbm = s.hbm := rfl
@[simp] theorem setUngranted_hbmBad {i : Nat} {x : List (Nat × MtxReq)} : (s.setUngranted i x).hbmBad = s.hbmBad := rfl
@[simp] theorem setUngranted_fresh {i : Nat} {x : List (Nat × MtxReq)} : (s.setUngranted i x).fresh = s.fresh := rfl
@[simp] theorem setUngranted_time {i : Nat} {x : List (Nat × MtxReq)} : (s.setUngranted i x).time = s.time := rfl
@[simp] theorem setUngranted_wireOut {i : Nat} {x : List (Nat × MtxReq)} : (s.setUngranted i x).wireOut = s.wireOut := rfl
@[simp] theorem setUngranted_fch {i : Nat} {x : List (Nat × MtxReq)} : (s.setUngranted i x).fch = s.fch := rfl
@[simp] theorem setUngranted_hull {i : Nat} {x : List (Nat × MtxReq)} : (s.setUngranted i x).hull = s.hull := rfl
@[simp] theorem setUngranted_array {i : Nat} {x : List (Nat × MtxReq)} : (s.setUngranted i x).array = s.array := rfl
@[simp] theorem setUngranted_husk {i : Nat} {x : List (Nat × MtxReq)} : (s.setUngranted i x).husk = s.husk := rfl
@[simp] theorem setUngranted_ctxs {i : Nat} {x : List (Nat × MtxReq)} : (s.setUngranted i x).ctxs = s.ctxs := rfl
@[simp] theorem setUngranted_tim {i : Nat} {x : List (Nat × MtxReq)} : (s.setUngranted i x).tim = s.tim := rfl
@[simp] theorem setUngranted_ln {i : Nat} {x : List (Nat × MtxReq)} : (s.setUngranted i x).ln = s.ln := rfl
@[simp] theorem setUngranted_fab {i : Nat} {x : List (Nat × MtxReq)} : (s.setUngranted i x).fab = s.fab := rfl
@[simp] theorem setUngranted_dmc {i : Nat} {x : List (Nat × MtxReq)} : (s.setUngranted i x).dmc = s.dmc := rfl
@[simp] theorem setUngranted_img {i : Nat} {x : List (Nat × MtxReq)} : (s.setUngranted i x).img = s.img := rfl
@[simp] theorem setUngranted_i3c {i : Nat} {x : List (Nat × MtxReq)} : (s.setUngranted i x).i3c = s.i3c := rfl
@[simp] theorem setUngranted_erl {i : Nat} {x : List (Nat × MtxReq)} : (s.setUngranted i x).erl = s.erl := rfl
@[simp] theorem setUngranted_pwr {i : Nat} {x : List (Nat × MtxReq)} : (s.setUngranted i x).pwr = s.pwr := rfl
@[simp] theorem setUngranted_cnt {i : Nat} {x : List (Nat × MtxReq)} : (s.setUngranted i x).cnt = s.cnt := rfl

@[simp] theorem setBursts_burstsAt {i : Nat} {x : List MtxBurst} : (s.setBursts i x).burstsAt i = x := by simp [State.setBursts, State.burstsAt]
theorem setBursts_burstsAt_ne {i j : Nat} {x : List MtxBurst} (h : j ≠ i) : (s.setBursts i x).burstsAt j = s.burstsAt j := by
  simp only [State.setBursts, State.burstsAt]
  exact tget_tset_ne _ _ _ h
@[simp] theorem setBursts_pending {i : Nat} {x : List MtxBurst} : (s.setBursts i x).pending = s.pending := rfl
@[simp] theorem setBursts_regs {i : Nat} {x : List MtxBurst} : (s.setBursts i x).regs = s.regs := rfl
@[simp] theorem setBursts_hbm {i : Nat} {x : List MtxBurst} : (s.setBursts i x).hbm = s.hbm := rfl
@[simp] theorem setBursts_hbmBad {i : Nat} {x : List MtxBurst} : (s.setBursts i x).hbmBad = s.hbmBad := rfl
@[simp] theorem setBursts_fresh {i : Nat} {x : List MtxBurst} : (s.setBursts i x).fresh = s.fresh := rfl
@[simp] theorem setBursts_time {i : Nat} {x : List MtxBurst} : (s.setBursts i x).time = s.time := rfl
@[simp] theorem setBursts_wireOut {i : Nat} {x : List MtxBurst} : (s.setBursts i x).wireOut = s.wireOut := rfl
@[simp] theorem setBursts_fch {i : Nat} {x : List MtxBurst} : (s.setBursts i x).fch = s.fch := rfl
@[simp] theorem setBursts_hull {i : Nat} {x : List MtxBurst} : (s.setBursts i x).hull = s.hull := rfl
@[simp] theorem setBursts_array {i : Nat} {x : List MtxBurst} : (s.setBursts i x).array = s.array := rfl
@[simp] theorem setBursts_husk {i : Nat} {x : List MtxBurst} : (s.setBursts i x).husk = s.husk := rfl
@[simp] theorem setBursts_ctxs {i : Nat} {x : List MtxBurst} : (s.setBursts i x).ctxs = s.ctxs := rfl
@[simp] theorem setBursts_tim {i : Nat} {x : List MtxBurst} : (s.setBursts i x).tim = s.tim := rfl
@[simp] theorem setBursts_ln {i : Nat} {x : List MtxBurst} : (s.setBursts i x).ln = s.ln := rfl
@[simp] theorem setBursts_fab {i : Nat} {x : List MtxBurst} : (s.setBursts i x).fab = s.fab := rfl
@[simp] theorem setBursts_dmc {i : Nat} {x : List MtxBurst} : (s.setBursts i x).dmc = s.dmc := rfl
@[simp] theorem setBursts_img {i : Nat} {x : List MtxBurst} : (s.setBursts i x).img = s.img := rfl
@[simp] theorem setBursts_i3c {i : Nat} {x : List MtxBurst} : (s.setBursts i x).i3c = s.i3c := rfl
@[simp] theorem setBursts_erl {i : Nat} {x : List MtxBurst} : (s.setBursts i x).erl = s.erl := rfl
@[simp] theorem setBursts_pwr {i : Nat} {x : List MtxBurst} : (s.setBursts i x).pwr = s.pwr := rfl
@[simp] theorem setBursts_cnt {i : Nat} {x : List MtxBurst} : (s.setBursts i x).cnt = s.cnt := rfl

end Sys2Proof.Machine
end

