-- ==== Sys2Proof/Tests/Slice0.lean ====
section
/-! SUPPORT. Tests: what well-formedness refuses, small cases with results from the spec, and for every statement with hypotheses
concrete states and operands that meet them. -/

open Sys2Proof Sys2Proof.Machine

section

set_option Elab.async false

/-! ## Helper states -/

/-- Fields written by the part. -/
def poke (l : List (Fld × Nat)) (s : State) : State := l.foldl (fun s x => s.fset x.1 x.2) s

/-- The part in RUN, with nothing else changed since reset. -/
def runS : State := poke [(PWR_STATUS_State, 4)] State.reset

/-- Pod 5 at issue in RUN with word w at program-counter place 0. -/
def podS (w : Nat) (x : PodSt := PodSt.idle) : State :=
  ((poke [(POD_PCFG_Member 5, 1), (POD_PORTOWN_Ports 5, 65535), (POD_CTRL_Run 5, 1)] runS).setPod 5 { x with seq := true }).set2
    (POD_PM_LO 5 0) (POD_PM_HI 5 0) w

/-- An instruction word: opcode and low bits. -/
def opW (op low : Nat) : Nat := op * 2 ^ 58 + low

/-- A presented pass group. -/
def curS : Presented := ⟨0, ⟨0, 0, 0⟩, false, false, false, false⟩

/-- A port open for pod 5 on bus b, all words ready. -/
def opS (b : Nat) : OpenPort := ⟨⟨0, false, 0, 0, 4096⟩, curS, 100000, [⟨5, b, 0⟩]⟩

/-- Pod 5 of a correlating partition, both buses fed by open ports 0 and 1. -/
def mulS (w : Nat) : State :=
  let s := podS w { PodSt.idle with selR := some 0, selC := some 1 }
  { s with array := { s.array with openp := [(0, some (opS 0)), (1, some (opS 1))] } }

/-- Pod 5 of a beam partition with weights, its column bus fed by port 1. -/
def beamS (w : Nat) : State :=
  let s := poke [(POD_PCFG_Mode 5, 1)] (podS w { PodSt.idle with selC := some 1, weights := some ⟨1, 0, []⟩ })
  { s with array := { s.array with openp := [(1, some (opS 1))] } }

/-- The operand stage with samples in it. -/
def withStage (s : State) : State :=
  { s with hull := { s.hull with stage := (List.range 200).map fun i => (i, BitVec.ofNat 8 (i * 37 % 255 + 1)) } }

/-- A staged pass group that partition 0 takes next on stream 3. -/
def takeS (w : Nat) : State :=
  let s := poke [(HULL_SCTRL_ConsumerMask 3, 1), (HULL_SCTRL_Enable 3, 1), (HULL_CTRL_Enable, 1)] (podS w)
  { s with hull := { s.hull with region := [(6, some ⟨3, 0, 0, 0, 0, false, false, false, 1⟩)] } }

/-- A port requested by the lead's OPEN whose pass group is presented. -/
def portS : State :=
  let s := podS (opW 7 (2 ^ 42)) { PodSt.idle with wait := 2 }
  let s := { s with array := { s.array with req := [(0, some (5, [(5, 0)]))], desc := [(0, some ⟨0, false, 0, 0, 1⟩)] } }
  s.setPresented 0 0 (some curS)

/-- Context 0 of kind correlation on pod 0, partition 0 and stream 0, with every START check met. -/
def ctxS : State :=
  poke [(CTX_STATE_State 0, 1), (CTX_CFG_Valid 0, 1), (CTX_K0_HI_StartMode 0, 1), (POD_PCFG_Member 0, 1), (HUSK_DCFG_Valid 0, 1),
    (HULL_SCTRL_Enable 0, 1), (HULL_SCTRL_ConsumerMask 0, 1), (CTX_CFG_AutoRestart 0, 1)] runS

/-- A drain of pod 0 for context 0. -/
def drainS : DrainRec := ⟨0, 0, { Bank.fresh with pg := some ⟨0, 0, 0⟩ }, 0, 4, false, 0, some 0, 128, false, 0⟩

/-- What the Husk holds of context 0. -/
def huskS : HuskCtx := ⟨0, 0, [], [], [], none, 1⟩

/-- The DRAM controllers run with the map of the reset reserve. -/
def withDmc (s : State) : State :=
  poke [(DMC_CTRL_Enable, 1), (DMC_CFG_Reserve, 2)] ((List.range 190).foldl (fun s i => s.fset (DMC_PCMAP_Pc i) i) s)

/-- A drain held at column 0, context 0 RUNNING in kind k with some settings. -/
def heldK (k : Nat) (l : List (Fld × Nat)) (d : DrainRec) : State :=
  let s := poke ([(CTX_STATE_State 0, 3), (CTX_CFG_Kind 0, k), (HUSK_DAUX_DrainsPerPgMinus1 0, 1), (HUSK_MAP_HI_Valid 0, 1),
    (HUSK_DCHAFF_Base 0, 4096), (CTX_PATHS_CountMinus1 0, 31)] ++ l) ctxS
  { s with husk := { s.husk with held := [(0, [d])], ctx := [(0, some huskS)] } }

/-- The drain held at column 0, its context RUNNING. -/
def heldS : State := heldK 0 [] drainS

/-- The same drain from another window or group. -/
def drainAt (k g : Nat) : DrainRec := { drainS with bank := { drainS.bank with pg := some ⟨0, k, g⟩ } }

/-- A bank with sums in two of its cells. -/
def bankS : Bank :=
  { Bank.fresh with pg := some ⟨0, 0, 0⟩, taken := true, cells := [(5, ⟨-70, 90, 3, false⟩), (1024 + 32 * 31 + 7, ⟨1000, -5, 8, false⟩)] }

/-- A beam drain of that bank. -/
def beamD : DrainRec := { drainS with beam := true, slots := 4, bank := bankS }

/-- The same of one slot. -/
def beamOne : DrainRec := { beamD with slots := 1 }

/-- A dump of context 0. -/
def dumpS : Dump := ⟨0, 1, 0, 1, 0, (0, 0), 0, [], false, 0, [], []⟩

/-- Context 0 with a dump and an Ethernet destination of port 0 on lane 0. -/
def dumpingS : State :=
  let s := poke [(CTX_STATE_State 0, 3), (CTX_DEST_Emit 0, 1), (EGR_DCTRL_Valid 0, 1), (EGR_DCTRL_Ports 0, 1), (LN_CFG_Enable 0, 1),
    (LN_CFG_Mode 0, 3), (LN_STATUS_State 0, 2)] ctxS
  { s with husk := { s.husk with dumps := [(0, [dumpS])] } }

/-- An ingest frame of one real sample. -/
def ingF (b0 : Byte) : List Byte :=
  let h : List Byte := [b0, 0, 0, 0, 0, 0, 0, 0, 0, 1, 0, 1, 0, 0]
  h ++ beBytes 2 (crc16 h) ++ List.replicate 8 0

/-- A frame delivered to lane 0 in ingest mode. -/
def ingS (f : List Byte) : State :=
  let s := poke [(LN_CFG_Mode 0, 1)] runS
  { s with ln := { s.ln with rxq := [(0, [(0, f)])] } }

/-- Slot 0 of engine 0 runs, anchored, and takes path 0 of lane 0. -/
def slotS (s : State) : State :=
  (poke [(FCH_CTRL_Enable 0, 1), (FCH_PSRC_Enable 0 0, 1), (FCH_PSRC_Real 0 0, 1), (FCH_STATUS_Anchored 0, 1),
    (FCH_RSINC_Inc 0 0, 2 ^ 30)] s).setSlot 0 0 { SlotSt.idle with phase := 3 }

/-- A DATA frame of one run of path 0 in group 0 and frame 3, format 8+8, from engine 0 of this node. -/
def dataF (n : Nat) : Inbound :=
  ⟨n, [0x14, 0, 0, 0, 0, 0, 0, 3, 0, 0, 0, 0, 1, 0, 0, 7, 1, 2, 3, 4, 5, 6, 7, 8], false⟩

/-- The Hull enabled in format 8+8 with source entry 2 for engine 0 of this node, one DATA frame delivered. -/
def hullS (n : Nat) (tag : Nat) : State :=
  let s := poke [(HULL_CTRL_Enable, 1), (HULL_CFG_Format, 1), (HULL_SRC_Valid 2, 1), (HULL_SRC_Node 2, runS.node)] runS
  { s with hull := { s.hull with inq := [dataF n], tag := some tag } }

/-- The fabric unit enabled, its link on lane 5 UP toward node 1, which is reachable and routed there. -/
def fabS : State :=
  ((poke [(FAB_CTRL_Enable, 1), (FAB_CTRL_MaxHops, 4), (FAB_NH_Valid 1, 1), (FAB_LSTAT_State 5, 2), (FAB_LSTAT_PeerNode 5, 1),
    (LN_CFG_Mode 5, 2), (LN_CFG_Enable 5, 1)] runS).setReg (FAB_LSET 0 0) 32).setReg (FAB_REACH 0) 3

/-- The time exchange on. -/
def ftS : State := poke [(TMB_FTCFG_Enable, 1), (TMB_FTCFG_TimeRank, 2)] fabS

/-- The oldest delivered TIME frame. -/
def timeS (m : TimeMsg) (xs : List Exch) : State := { ftS with tim := { ftS.tim with timeq := [m], exch := xs } }

/-- A TIME frame of kind k and exchange 7 whose master is node 3. -/
def timeM (k : Nat) : TimeMsg := ⟨5000, ftS.timePayload k 7 3 1 4000 12⟩

/-- A TSYNC of node 1. -/
def timeM1 : TimeMsg := ⟨5000, [0x10, 0, 0, 7, 0, 1] ++ List.replicate 26 0⟩

/-- Reference inputs 0 and 1 of ranks 2 and 1, both qualified. -/
def refS : State :=
  poke [(TMB_REFCFG_Rank 0, 2), (TMB_REFCFG_Rank 1, 1), (TMB_REFSTAT_State 0, 5), (TMB_REFSTAT_State 1, 5), (TMB_SEL_Revertive, 1),
    (TMB_STATUS_Selected, 1), (TMB_REFCFG_Rank 4, 3), (TMB_SEL_Force, 0), (TMB_DISAGREE_Limit, 100), (TMB_QUAL_Limit, 500)] runS

/-- The tick before a second boundary. -/
def secS (f : TimSt → TimSt) : State := { runS with time := 2 ^ 80 - 1, tim := f runS.tim }

/-- Lane 5 enabled in a mode and state, at a place of its ladder. -/
def laneS (mode st : Nat) (r : LaneRun) : State :=
  (poke [(LN_CFG_Enable 5, 1), (LN_CFG_Mode 5, mode), (LN_STATUS_State 5, st), (LN_PEER_PeerLane 5, 9)] runS).setRun 5 r

/-- A place of the ladder. -/
def runR (p : LanePhase) : LaneRun := { LaneRun.off with phase := p }

/-- Working lane 5 is UP, spare 6 idle, both at step 3 in native coding with the same peer. -/
def spareS : State :=
  poke [(LN_CFG_Enable 6, 1), (LN_CFG_Mode 6, 0), (LN_STATUS_State 6, 4), (LN_STATUS_Step 5, 3), (LN_STATUS_Step 6, 3),
    (LN_STATUS_Native 5, 1), (LN_STATUS_Native 6, 1), (LN_SPARE_Valid 5, 1), (LN_SPARE_Lane 5, 6), (LN_PEER_SpareCap 5, 1)]
    (laneS 2 2 (runR .top))

/-- A message or comma that left on a lane. -/
def outHead : Out → Nat × List Byte
  | .link l b _ => (l, b)
  | .comma l b _ => (l + 1000, b)
  | .frame l b _ _ => (l + 2000, b)
  | _ => (999, [])

/-- A Gensy frame as the lane delivers it. -/
def gFrame (f : QFrame) : List Byte := gensyBytes f

/-- A frame from node 1 for node d. -/
def frameQ (ty d hops : Nat) : QFrame := ⟨ty, typeVc ty, false, false, hops, d, 1, 3, 0, [1, 2, 3, 4], none, none, 0, none, false⟩

/-- The same, waiting for lane 5. -/
def waitQ (ty d hops : Nat) : QFrame := { frameQ ty d hops with link := some 5 }

/-- A frame delivered on the UP link of lane 5. -/
def rxS (b : List Byte) : State := { fabS with ln := { fabS.ln with rxq := [(5, [(0, b)])] } }

/-- The fabric unit with other contents of its queues. -/
def fabQ (s : State) (f : FabSt → FabSt) : State := { s with fab := f s.fab }

/-- Credit of 100 units on every channel of lane 5. -/
def creditS : State := fabQ fabS fun x => { x with peerInit := [(20, 100), (21, 100), (22, 100), (23, 100)] }

/-- The members reachable at the previous decision. -/
def withHalf (l : List Nat) (x : FabSt) : FabSt := { x with half := l }

/-- The DRAM controllers run with the map of the reset reserve. -/
def dmcS : State := withDmc runS

/-- Pseudo-channel 3 is ACTIVE and 190 in reserve. -/
def pcS (st : Nat) : State := poke [(DMC_PCSTAT_State 3, st), (DMC_PCSTAT_State 190, 4)] dmcS

/-- A line write of its first byte. -/
def lineW : LineWrite := ⟨7 :: List.replicate 63 9, true :: List.replicate 63 false, List.replicate 64 false⟩

/-- The part with the pseudo-channel of address 128 ACTIVE. -/
def busyS : State := poke [(DMC_PCSTAT_State (dmcS.hbmPc 128), 2)] dmcS

/-- A MARK action in queue entry e. -/
def markAct (e : Nat) : SchAct := ⟨e, 9, 7, 0, false⟩

/-- A scheduler queue in which every entry is in use. -/
def fullQ : State := { runS with tim := { runS.tim with queue := (List.range 1024).map markAct } }

theorem fullQ_used (e : Nat) (h : e < 1024) : fullQ.schUsed e = true := by
  have hq : fullQ.tim.queue = (List.range 1024).map markAct := by simp only [fullQ]
  rw [State.schUsed, hq, List.any_map]
  exact List.any_eq_true.mpr ⟨e, List.mem_range.mpr h, by simp [markAct, handleEntry, Nat.mod_eq_of_lt h]⟩

/-- Context 0 RUNNING, its entry with an uncorrectable error. -/
def eccS : State := let s := poke [(CTX_STATE_State 0, 3)] ctxS; { s with erl := { s.erl with eccBad := [(CTX_CFG 0, 1)] } }

theorem eccS_first (x : Nat) : eccS.eccOk (CTX_CFG x) = false ↔ x = 0 := by
  have h : eccS.eccOk (CTX_CFG x) = decide (tget 0 [(CTX_CFG 0, 1)] (CTX_CFG x) = 0) := rfl
  rw [h]; simp [tget, CTX_CFG] <;> omega

theorem low_filter (p : Nat → Bool) (h : ∀ n, 32 ≤ n → n < 4096 → p n = false) :
    (List.range 4096).filter p = (List.range 32).filter p := by
  rw [show (4096 : Nat) = 32 + 4064 from rfl, List.range_add, List.filter_append]
  have : ((List.range 4064).map (32 + ·)).filter p = [] := by
    rw [List.filter_eq_nil_iff]
    intro a ha
    obtain ⟨b, hb, rfl⟩ := List.mem_map.mp ha
    have := List.mem_range.mp hb
    simp [h (32 + b) (by omega) (by omega)]
  rw [this, List.append_nil]

/-- No node above 31 is a configured member. -/
theorem member_low (s : State) (hn : s.node < 32) (h : ((List.range 128).all fun w => w = 0 || s.reg (FAB_MEMBER w) = 0) = true)
    (n : Nat) (h1 : 32 ≤ n) (h2 : n < 4096) : s.isMemberNode n = false := by
  have hw := List.all_eq_true.mp h (n / 32) (List.mem_range.mpr (by omega))
  have h0 : ¬n / 32 = 0 := by omega
  simp only [h0, decide_false, Bool.false_or, decide_eq_true_eq] at hw
  simp [State.isMemberNode, hw] <;> omega

theorem fabMembers_low (s : State) (hn : s.node < 32)
    (h : ((List.range 128).all fun w => w = 0 || s.reg (FAB_MEMBER w) = 0) = true) :
    s.fabMembers = (List.range 32).filter s.isMemberNode := low_filter _ (member_low s hn h)

theorem halfNow_low (s : State) (hn : s.node < 32)
    (h : ((List.range 128).all fun w => w = 0 || s.reg (FAB_MEMBER w) = 0) = true) :
    s.halfNow = (List.range 32).filter fun n => s.isMemberNode n && s.reachable n :=
  low_filter _ fun n h1 h2 => by simp [member_low s hn h n h1 h2]

/-! ## Ill-formed commands: one for each check of a range -/

theorem test_refuses_1 : ([
    .registerWrite 4294967296 0, .lowWordRead GLB_SCRATCH true, .ingestFrame 96, .fchEnable 16, .fchSlotEnable 16 1,
    .fchSlotEnable 1 16, .fchGdataWrite 16 0, .fchGdataRead 16, .gainSwapArm 16 0, .hullStreamEnable 4, .spectrumFrameToHull 16,
    .entryClose 256 1, .entryClose 1 17592186044416, .nop 64, .ldi 64, .addi 64, .bnz 64, .jmp 64, .loop 64, .pdesc 64,
    .openPorts 64, .portStart 16, .sel 64, .mac 64, .bmac 64, .wld 64, .wldComplete 64, .wswap 64, .winit 64, .winitComplete 64,
    .drain 64, .bankSwap 64, .drainEnd 64, .bar 64, .barComplete 8, .nextpg 64] : List Instr).all (fun c => !c.wf) = true := by decide +kernel

theorem test_refuses_2 : ([
    .nextpgComplete 8 1, .nextpgComplete 1 4, .passGroupTake 8 1, .passGroupTake 1 4, .rdpmc 64, .fence 64, .halt 64,
    .podRunStart 64, .podRunStop 64, .steerRequest 64 1, .steerRequest 1 64, .cellParityError 64 1 true,
    .cellParityError 1 33 true, .steerReloadDone 64, .huskStepAccept 8, .drainApply 8, .dumpEnd 4096, .packetSend 4096,
    .ctxStart 4096, .ctxStop 4096, .ctxValidWrite 4096 0, .weightFillDone 4096, .drainingDone 4096, .autoRestart 4096,
    .incrementCommit GLB_SCRATCH 0, .refLos 7, .ppsInPulse 2 1, .freqMeasurement 7 1 1, .wtrExpiry 7, .txtsPop 96,
    .laneEnable 96, .laneRestart 96, .capabSend 96, .capabReceive 96 (List.replicate 7 0), .capabReceive 1 [], .capabTimeout 96] : List Instr).all (fun c => !c.wf) = true := by decide +kernel

theorem test_refuses_3 : ([
    .stepReq 96 1, .stepReq 1 8, .stepSwitch 96, .receiverLock 96, .quietDone 96, .stepOk 96 1, .stepOk 1 8, .stepTimeout 96,
    .lockLossRetry 96 true, .blockLock 96, .blockLockLoss 96, .fecCodeword 96 (.ethernet 1), .fecCodeword 1 (.lane []),
    .fecCodeword 1 (.lane (List.replicate 272 1024)), .legacyLock 96, .legacyLockLoss 96, .laneFrameReceive 96 ⟨false, []⟩,
    .laneFrameReceive 1 ⟨false, [.native 73786976294838206464]⟩, .commaSend 96, .commaReceive 96 (.native 5),
    .commaReceive 1 (.native 73786976294838206464), .commaReceive 1 (.legacy []), .losAssert 96, .losClear 96, .lolAssert 96,
    .laneWarmTrain 96, .laneWarmTrainDone 96, .swapNow 96, .spareReq 96 (List.replicate 7 0), .spareReq 1 [],
    .swapVerified 96 true, .switched 96 (List.replicate 7 0), .switched 1 [], .releaseCommand 96,
    .release 96 (List.replicate 7 0), .release 1 []] : List Instr).all (fun c => !c.wf) = true := by decide +kernel

theorem test_refuses_4 : ([
    .ethLinkUp 96, .ethFrameReceive 96, .ethCoeffRequest 96 1 true, .ethCoeffRequest 1 5 true, .gensyFrameReceive 96,
    .gensyFrameSend 96, .helloSend 96, .helloReceive 96, .helloTimeout 96, .creditSend 96, .creditReceive 96, .reachReceive 96,
    .rejoinRetry 4096, .seed 96, .seedAck 96, .seedResend 96, .seedStop 96, .seedRetry 96, .dramRequest 1 ⟨none, []⟩,
    .dramRequest 274877906944 ⟨none, []⟩, .dramRequest 64 ⟨some ⟨[], [], []⟩, []⟩, .dramRequest 64 ⟨none, [2]⟩, .refreshDue 192,
    .refreshIssue 192, .stackTempRead 6 1, .stackTempRead 1 (-1281), .stackTempRead 1 1280, .rowIdlePrecharge 192 1,
    .rowIdlePrecharge 1 48, .trainingStepDone 192 ⟨1, true⟩, .trainingStepDone 1 ⟨4, true⟩, .retirePlanned 192,
    .retireCopyDone 192, .retireSudden 192, .dmwAccess 268435456 none, .matrixRequest 24 1 64 none 1] : List Instr).all (fun c => !c.wf) = true := by decide +kernel

theorem test_refuses_5 : ([
    .matrixRequest 1 32 64 none 1, .matrixRequest 1 1 65 none 1, .matrixRequest 1 1 64 none 0, .matrixRequest 1 1 64 none 65,
    .matrixRequest 1 1 1099511627776 none 1, .matrixRequest 1 1 4032 none 2, .matrixRequest 1 1 192 none 2,
    .matrixRequest 1 1 64 (some ⟨[1], [true], [false]⟩) 1, .matrixResponse 24 1, .matrixResponse 1 32, .unitReset 23,
    .unitResetRelease 23, .quiesced 24, .quiesceTimeout 24, .bridgeAccess 24 1 none true, .bridgeAccess 0 1 none true,
    .bridgeAccess 21 268435456 none true, .regClkOff 24 1, .regClkOff 1 268435456, .pulseCrossing 4, .peerResetSeen 14 1,
    .peerResetSeen 3 16, .peerReadySeen 14 1, .peerReadySeen 3 16, .enec 256, .disec 256, .entas 4, .entdaa 128, .setmwl 65536,
    .setmrl 65536 1, .setmrl 1 256, .rstact 256, .setdasa 1 128, .setnewda 128, .unsupportedCcc 256, .sdrRead 0] : List Instr).all (fun c => !c.wf) = true := by decide +kernel

theorem test_refuses_6 : ([
    .regWrite [1] true, .setAddr [1], .setAddr [1, 2, 3, 4, 5, 6], .regRead 0, .regRead 1, .imgReload true 1024,
    .selfTestStageDone 6 ⟨true, [], []⟩, .selfTestStageDone 1 ⟨true, [], [(64, 0)]⟩, .selfTestStageDone 1 ⟨true, [], [(0, 33)]⟩,
    .parityError 0 1 1, .parityError 14 1 1, .parityError 1 96 1, .parityError 1 1 4294967296, .eccError 0 1 1 true,
    .eccError 8 1 1 true, .eccError 1 4096 1 true, .eccError 1 1 4294967296 true, .thermalReading [],
    .thermalReading (List.replicate 16 (-513)), .thermalReading (List.replicate 16 512), .resetRelease 8 1, .resetRelease 1 4,
    .pipConfigWrite PMC_PIP0 0, .sproutPatternSample 16, .ethLinkDown 96, .commandAddressParityError 192 true] : List Instr).all (fun c => !c.wf) = true := by decide +kernel

theorem test_accepts_1 : ([
    .registerWrite 1 0, .lowWordRead TMB_TIME_FR true, .ingestFrame 1, .fchEnable 1, .fchSlotEnable 1 1, .fchGdataWrite 1 0,
    .fchGdataRead 1, .gainSwapArm 1 0, .hullStreamEnable 1, .spectrumFrameToHull 1, .entryClose 1 1, .nop 1, .ldi 1, .addi 1,
    .bnz 1, .jmp 1, .loop 1, .pdesc 1, .openPorts 1, .portStart 1, .sel 1, .mac 1, .bmac 1, .wld 1, .wldComplete 1, .wswap 1,
    .winit 1, .winitComplete 1, .drain 1, .bankSwap 1, .drainEnd 1, .bar 1, .barComplete 1, .nextpg 1, .nextpgComplete 1 1,
    .passGroupTake 1 1, .rdpmc 1, .fence 1, .halt 1, .podRunStart 1, .podRunStop 1, .steerRequest 1 1,
    .cellParityError 1 1 true, .steerReloadDone 1, .huskStepAccept 1, .drainApply 1, .dumpEnd 1, .packetSend 1] : List Instr).all Instr.wf = true := by decide +kernel

theorem test_accepts_2 : ([
    .ctxStart 1, .ctxStop 1, .ctxValidWrite 1 0, .weightFillDone 1, .drainingDone 1, .autoRestart 1,
    .incrementCommit TMB_INCRF 0, .refLos 1, .ppsInPulse 1 1, .freqMeasurement 1 1 1, .wtrExpiry 1, .txtsPop 1, .laneEnable 1,
    .laneRestart 1, .capabSend 1, .capabReceive 1 (List.replicate 7 0), .capabTimeout 1, .stepReq 1 1, .stepSwitch 1,
    .receiverLock 1, .quietDone 1, .stepOk 1 1, .stepTimeout 1, .lockLossRetry 1 true, .blockLock 1, .blockLockLoss 1,
    .fecCodeword 1 (.ethernet 1), .legacyLock 1, .legacyLockLoss 1, .laneFrameReceive 1 ⟨false, []⟩, .commaSend 1,
    .commaReceive 1 (.native 5), .losAssert 1, .losClear 1, .lolAssert 1, .laneWarmTrain 1, .laneWarmTrainDone 1, .swapNow 1,
    .spareReq 1 (List.replicate 7 0), .swapVerified 1 true, .switched 1 (List.replicate 7 0), .releaseCommand 1,
    .release 1 (List.replicate 7 0), .ethLinkUp 1, .ethFrameReceive 1, .ethCoeffRequest 1 1 true, .gensyFrameReceive 1,
    .gensyFrameSend 1] : List Instr).all Instr.wf = true := by decide +kernel

theorem test_accepts_3 : ([
    .helloSend 1, .helloReceive 1, .helloTimeout 1, .creditSend 1, .creditReceive 1, .reachReceive 1, .rejoinRetry 1, .seed 1,
    .seedAck 1, .seedResend 1, .seedStop 1, .seedRetry 1, .dramRequest 64 ⟨none, []⟩, .refreshDue 1, .refreshIssue 1,
    .stackTempRead 1 1, .rowIdlePrecharge 1 1, .trainingStepDone 1 ⟨1, true⟩, .retirePlanned 1, .retireCopyDone 1,
    .retireSudden 1, .dmwAccess 1 none, .matrixRequest 1 1 64 none 1, .matrixResponse 1 1, .unitReset 1, .unitResetRelease 1,
    .quiesced 1, .quiesceTimeout 1, .bridgeAccess 21 1 none true, .regClkOff 1 1, .pulseCrossing 1, .peerResetSeen 1 1,
    .peerReadySeen 1 1, .enec 1, .disec 1, .entas 1, .entdaa 1, .setmwl 1, .setmrl 1 1, .rstact 1, .setdasa 1 1, .setnewda 1,
    .unsupportedCcc 1, .sdrRead 1, .regWrite [1, 2] true, .setAddr [1, 2], .regRead 2, .imgReload true 1] : List Instr).all Instr.wf = true := by decide +kernel

theorem test_accepts_4 : ([
    .selfTestStageDone 1 ⟨true, [], []⟩, .parityError 1 1 1, .eccError 1 1 1 true, .thermalReading (List.replicate 16 0),
    .resetRelease 1 1, .pipConfigWrite PMC_PIPCFG 0, .sproutPatternSample 1, .ethLinkDown 1, .commandAddressParityError 1 true] : List Instr).all Instr.wf = true := by decide +kernel

/-! ## Small cases with results from the spec -/

/-- The commands' outcome, or the state itself where there is none. -/
def outOf : Host.Outcome State Fault Refusal → State → State
  | .next t, _ => t
  | _, s => s

/-- The check value of R40. -/
theorem test_crc16_check_value : crc16 [0x31, 0x32, 0x33, 0x34, 0x35, 0x36, 0x37, 0x38, 0x39] = 0x29B1 := by decide +kernel

/-- The check value of R321. -/
theorem test_crc32c_check_value : crc32c [0x31, 0x32, 0x33, 0x34, 0x35, 0x36, 0x37, 0x38, 0x39] = 0xE3069283 := by decide +kernel

/-- The worked example of chapter 10: HBM address 0x4_A86E_27A0 at the default reserve. -/
theorem test_hbm_address_map : (runS.hbmSlot 0x4A86E27A0, runS.hbmPa 0x4A86E27A0, bankOf (runS.hbmPa 0x4A86E27A0)) =
    (103, 108726432, 6) := by decide +kernel

/-- R45: 16 samples before index 0 is index 2^48 - 16. -/
theorem test_index_wraps : idxDiff (idxAdd (2 ^ 48 - 16) 20) (2 ^ 48 - 16) = 20 := by decide +kernel

/-- R190: one tick at the reset increment. -/
theorem test_tick_advances_time : (outOf (exec .eclkTick runS) runS).time = 1125900 * 2 ^ 32 := by decide +kernel

/-- R303 and the worked example of chapter 12: four address bytes set the pointer to 0x0002_0014. -/
theorem test_pointer_set : (outOf (exec (.sdrWrite [0, 2, 0, 0x14] none) (poke [(GLB_STATUS_DaValid, 1)] runS)) runS).i3c.ptr = 0x20014 := by
  decide +kernel

/-- R1: GLB_ID reads 0x1B40_9601. -/
theorem test_id_reads : runS.readReg GLB_ID = 0x1B409601 := by decide +kernel

/-- R13: a W1C write clears the ones it names. -/
theorem test_write_one_clears :
    (outOf (exec (.registerWrite GLB_INTPEND 0x6) (runS.setReg GLB_INTPEND 0xE)) runS).reg GLB_INTPEND = 0x8 := by decide +kernel

/-- R15: a write to a locked field is discarded. -/
theorem test_locked_field_keeps : (outOf (exec (.registerWrite (POD_PCFG 5) 1) (poke [(POD_STATUS_Running 5, 1)] runS)) runS).fget
    (POD_PCFG_Member 5) = 0 := by decide +kernel

/-- R302: a length below 8 is clamped. -/
theorem test_setmwl_clamps : (outOf (exec (.setmwl 4) runS) runS).fget GLB_LEN_Mwl = 8 := by decide +kernel

/-- Chapter 04, ADDI: modulo 2^32, source and destination the same register. -/
theorem test_addi_wraps :
    (outOf (exec (.addi 5) ((podS (opW 2 (2 * 2 ^ 55 + 2 * 2 ^ 52 + 0xFFFFFFFF))).setGreg 5 2 3)) runS).greg 5 2 = 2 := by decide +kernel

/-- Lane 96 does not exist. -/
theorem test_lane_out_of_range : exec (.laneEnable 96) runS = .refused .illFormed := rfl

/-- The front command leaves the queue. -/
theorem test_step_takes_front : step { runS with pending := [.enec 1, .disec 9] } = exec (.enec 1) { runS with pending := [.disec 9] } := rfl

/-- No word spells a command. -/
theorem test_no_command_words : decodeTableWord 32 0x1B409601 = none := rfl

/-! ## The hypotheses of the statements can be met -/

theorem witness_podPlainInstructions :
    (∃ (s : State) (p : Nat) (w : Nat), s.atIssue p w ∧ w / 2 ^ 58 = 0x00) ∧
    (∃ (s : State) (p : Nat) (w : Nat), s.atIssue p w ∧ w / 2 ^ 58 = 0x01) ∧
    (∃ (s : State) (p : Nat) (w : Nat), s.atIssue p w ∧ w / 2 ^ 58 = 0x02) ∧
    (∃ (s : State) (p : Nat) (w : Nat), s.atIssue p w ∧ w / 2 ^ 58 = 0x03 ∧ s.greg p (bits w 55 3) = 0) :=
  ⟨⟨podS (opW 0 0), 5, opW 0 0, by unfold State.atIssue; decide +kernel⟩,
    ⟨podS (opW 1 (3*2^55 + 7)), 5, opW 1 (3*2^55 + 7), by unfold State.atIssue; decide +kernel⟩,
    ⟨(podS (opW 2 (3*2^55 + 2*2^52 + 4294967295))).setGreg 5 2 9, 5, opW 2 (3*2^55 + 2*2^52 + 4294967295), by unfold State.atIssue; decide +kernel⟩,
    ⟨podS (opW 3 7), 5, opW 3 7, by unfold State.atIssue; decide +kernel⟩⟩

theorem witness_podJumps :
    (∃ (s : State) (p : Nat) (w : Nat), s.atIssue p w ∧ w / 2 ^ 58 = 0x03 ∧ s.greg p (bits w 55 3) ≠ 0) ∧
    (∃ (s : State) (p : Nat) (w : Nat), s.atIssue p w ∧ w / 2 ^ 58 = 0x04) :=
  ⟨⟨(podS (opW 3 (1*2^55+4095))).setGreg 5 1 2, 5, opW 3 (1*2^55+4095), by unfold State.atIssue; decide +kernel⟩,
    ⟨podS (opW 4 4095), 5, opW 4 4095, by unfold State.atIssue; decide +kernel⟩⟩

theorem witness_podLoop :
    (∃ (s : State) (p : Nat) (w : Nat) (len : Nat) (n : Nat), s.atIssue p w ∧ w / 2 ^ 58 = 0x05 ∧ len = bits w 52 6 + 1 ∧ n = (if bits w 51 1 = 1 then s.greg p (bits w 48 3) else bits w 0 16) ∧ (∀ i < len, noLoopOp (s.pmWord p (s.pc p + 1 + i) / 2 ^ 58) = false) ∧ s.pc p + 1 + len < 4096 ∧ n = 0) ∧
    (∃ (s : State) (p : Nat) (w : Nat) (len : Nat) (n : Nat), s.atIssue p w ∧ w / 2 ^ 58 = 0x05 ∧ len = bits w 52 6 + 1 ∧ n = (if bits w 51 1 = 1 then s.greg p (bits w 48 3) else bits w 0 16) ∧ (∀ i < len, noLoopOp (s.pmWord p (s.pc p + 1 + i) / 2 ^ 58) = false) ∧ s.pc p + 1 + len ≤ 4096 ∧ n ≠ 0) ∧
    (∃ (s : State) (p : Nat) (w : Nat) (len : Nat) (n : Nat), s.atIssue p w ∧ w / 2 ^ 58 = 0x05 ∧ len = bits w 52 6 + 1 ∧ n = (if bits w 51 1 = 1 then s.greg p (bits w 48 3) else bits w 0 16) ∧ (4096 < s.pc p + 1 + len ∨ ∃ i < len, noLoopOp (s.pmWord p (s.pc p + 1 + i) / 2 ^ 58) = true) ∧ s.owner p = none ∧ (s.pod p).start = false) :=
  ⟨⟨podS (opW 5 (1*2^52)), 5, opW 5 (1*2^52), 2, 0, by unfold State.atIssue; decide +kernel⟩,
    ⟨(podS (opW 5 (1*2^52+2^51+2*2^48))).setGreg 5 2 4, 5, opW 5 (1*2^52+2^51+2*2^48), 2, 4, by unfold State.atIssue; decide +kernel⟩,
    ⟨(podS (opW 5 (2*2^52))).set2 (POD_PM_LO 5 2) (POD_PM_HI 5 2) (opW 5 0), 5, opW 5 (2*2^52), 3, 0, by unfold State.atIssue; decide +kernel⟩⟩

theorem witness_podHalts :
    (∃ (s : State) (p : Nat) (w : Nat), s.atIssue p w ∧ w / 2 ^ 58 = 0x3F ∧ (s.pod p).start = false) :=
  ⟨podS (opW 0x3F 0), 5, opW 0x3F 0, by unfold State.atIssue; decide +kernel⟩

theorem witness_podIllegalOpcodeFaults :
    (∃ (s : State) (p : Nat) (w : Nat), s.atIssue p w ∧ opKnown (w / 2 ^ 58) = false ∧ s.owner p = none ∧ (s.pod p).start = false) :=
  ⟨podS (opW 0x13 0), 5, opW 0x13 0, by unfold State.atIssue; decide +kernel⟩

theorem witness_podReadsCounters :
    (∃ (s : State) (p : Nat) (w : Nat), s.atIssue p w ∧ w / 2 ^ 58 = 0x11 ∧ s.flag PMC_PERMIT_PodRead = false) ∧
    (∃ (s : State) (p : Nat) (w : Nat) (v : _), s.atIssue p w ∧ w / 2 ^ 58 = 0x11 ∧ s.flag PMC_PERMIT_PodRead = true ∧ (bits w 0 9 ≠ 8 ∨ s.pipSelected p = false ∨ (s.pod p).stood = true) ∧ v = s.pmcView (bits w 0 9) (s.flag PMC_PERMIT_PodShadow) ∧ bits w 9 1 = 0) ∧
    (∃ (s : State) (p : Nat) (w : Nat) (v : _), s.atIssue p w ∧ w / 2 ^ 58 = 0x11 ∧ s.flag PMC_PERMIT_PodRead = true ∧ (bits w 0 9 ≠ 8 ∨ s.pipSelected p = false ∨ (s.pod p).stood = true) ∧ v = s.pmcView (bits w 0 9) (s.flag PMC_PERMIT_PodShadow) ∧ bits w 9 1 = 1 ∧ (s.pod p).pmc.map Prod.fst ≠ some (bits w 0 9)) ∧
    (∃ (s : State) (p : Nat) (w : Nat) (h : _), s.atIssue p w ∧ w / 2 ^ 58 = 0x11 ∧ s.flag PMC_PERMIT_PodRead = true ∧ bits w 9 1 = 1 ∧ (s.pod p).pmc = some (bits w 0 9, h) ∧ h < 2 ^ 16) :=
  ⟨⟨poke [(PMC_PERMIT_PodRead,0)] (podS (opW 0x11 (3*2^55+2))), 5, opW 0x11 (3*2^55+2), by unfold State.atIssue; decide +kernel⟩,
    ⟨(poke [(PMC_PERMIT_PodRead,1),(PMC_PERMIT_PodShadow,0)] (podS (opW 0x11 (3*2^55+2)))).set2 (PMC_LIVE_LO 2) (PMC_LIVE_HI 2) (2^40+5), 5, opW 0x11 (3*2^55+2), 2^40+5, by unfold State.atIssue; decide +kernel⟩,
    ⟨(poke [(PMC_PERMIT_PodRead,1),(PMC_PERMIT_PodShadow,0)] (podS (opW 0x11 (3*2^55+2^9+2)) { PodSt.idle with pmc := some (3, 65535) })).set2 (PMC_LIVE_LO 2) (PMC_LIVE_HI 2) (2^40+5), 5, opW 0x11 (3*2^55+2^9+2), 2^40+5, by unfold State.atIssue; decide +kernel⟩,
    ⟨poke [(PMC_PERMIT_PodRead,1)] (podS (opW 0x11 (3*2^55+2^9+2)) { PodSt.idle with pmc := some (2, 65535) }), 5, opW 0x11 (3*2^55+2^9+2), 65535, by unfold State.atIssue; decide +kernel⟩⟩

theorem witness_podPorts :
    (∃ (s : State) (p : Nat) (w : Nat), s.atIssue p w ∧ w / 2 ^ 58 = 0x08 ∧ (bits w 57 1 = 1 → s.podBeam p = false ∧ s.ownsPort p (bits w 53 4) = true) ∧ (bits w 52 1 = 1 → s.ownsPort p (bits w 48 4) = true)) ∧
    (∃ (s : State) (p : Nat) (w : Nat), s.atIssue p w ∧ w / 2 ^ 58 = 0x08 ∧ s.owner p = none ∧ (s.pod p).start = false ∧ (bits w 57 1 = 1 ∧ (s.podBeam p = true ∨ s.ownsPort p (bits w 53 4) = false) ∨ bits w 52 1 = 1 ∧ s.ownsPort p (bits w 48 4) = false)) ∧
    (∃ (s : State) (p : Nat) (w : Nat), s.atIssue p w ∧ w / 2 ^ 58 = 0x06 ∧ s.isLead p = true ∧ s.ownsPort p (bits w 54 4) = true) ∧
    (∃ (s : State) (p : Nat) (w : Nat), s.atIssue p w ∧ w / 2 ^ 58 = 0x06 ∧ s.owner p = none ∧ (s.pod p).start = false ∧ (s.isLead p = false ∨ s.ownsPort p (bits w 54 4) = false)) ∧
    (∃ (s : State) (p : Nat) (w : Nat), s.atIssue p w ∧ w / 2 ^ 58 = 0x07 ∧ s.isLead p = true ∧ s.portsBusy p = false ∧ (s.pod p).wait ≠ 2 ∧ (∀ q < 16, bits w (42 + q) 1 = 1 → s.ownsPort p q = true ∧ (tget none s.array.desc q).isSome = true)) ∧
    (∃ (s : State) (p : Nat) (w : Nat), s.atIssue p w ∧ w / 2 ^ 58 = 0x07 ∧ (s.pod p).wait ≠ 2 ∧ s.owner p = none ∧ (s.pod p).start = false ∧ (s.isLead p = false ∨ ∃ q < 16, bits w (42 + q) 1 = 1 ∧ s.ownsPort p q = false)) ∧
    (∃ (s : State) (p : Nat) (w : Nat), s.atIssue p w ∧ w / 2 ^ 58 = 0x07 ∧ (s.pod p).wait ≠ 2 ∧ s.isLead p = true ∧ (∀ q < 16, bits w (42 + q) 1 = 1 → s.ownsPort p q = true) ∧ s.portsBusy p = true ∧ s.flag (POD_CTRL_Run p) = true) ∧
    (∃ (s : State) (p : Nat) (w : Nat), s.atIssue p w ∧ w / 2 ^ 58 = 0x07 ∧ (s.pod p).wait ≠ 2 ∧ s.isLead p = true ∧ (∀ q < 16, bits w (42 + q) 1 = 1 → s.ownsPort p q = true) ∧ s.portsBusy p = false ∧ s.owner p = none ∧ (s.pod p).start = false ∧ (∃ q < 16, bits w (42 + q) 1 = 1 ∧ tget none s.array.desc q = none)) :=
  ⟨⟨podS (opW 8 (2^57+3*2^53)), 5, opW 8 (2^57+3*2^53), by unfold State.atIssue; decide +kernel⟩,
    ⟨poke [(POD_PCFG_Mode 5, 1)] (podS (opW 8 (2^57+3*2^53))), 5, opW 8 (2^57+3*2^53), by unfold State.atIssue; decide +kernel⟩,
    ⟨(podS (opW 6 (4*2^54+2*2^52+2^51+100*2^36+1*2^48+9*2^20+65535*2^4))).setGreg 5 1 4000, 5, opW 6 (4*2^54+2*2^52+2^51+100*2^36+1*2^48+9*2^20+65535*2^4), by unfold State.atIssue; decide +kernel⟩,
    ⟨(poke [(POD_PORTOWN_Ports 5, 0xFFEF)] (podS (opW 6 (4*2^54)))), 5, opW 6 (4*2^54), by unfold State.atIssue; decide +kernel⟩,
    ⟨{ podS (opW 7 (2^42)) with array := { (podS (opW 7 (2^42))).array with desc := [(0, some ⟨0, false, 0, 0, 1⟩)] } }, 5, opW 7 (2^42), by unfold State.atIssue; decide +kernel⟩,
    ⟨(poke [(POD_PORTOWN_Ports 5, 0x7FFF)] (podS (opW 7 (2^57)))), 5, opW 7 (2^57), by unfold State.atIssue; decide +kernel⟩,
    ⟨{ podS (opW 7 (2^42)) with array := { (podS (opW 7 (2^42))).array with openp := [(1, some (opS 0))] } }, 5, opW 7 (2^42), by unfold State.atIssue; decide +kernel⟩,
    ⟨podS (opW 7 (2^42)), 5, opW 7 (2^42), by unfold State.atIssue; decide +kernel⟩⟩

theorem witness_podWeights :
    (∃ (s : State) (p : Nat) (w : Nat) (cur : _), s.atIssue p w ∧ w / 2 ^ 58 = 0x0B ∧ s.podBeam p = true ∧ s.presented (s.podPart p) (bits w 52 2) = some cur) ∧
    (∃ (s : State) (p : Nat) (x : _) (xs : _), p < 64 ∧ s.fastClk = true ∧ (s.pod p).start = false ∧ (s.pod p).wlds = x :: xs) ∧
    (∃ (s : State) (p : Nat) (w : Nat), s.atIssue p w ∧ w / 2 ^ 58 = 0x0C ∧ s.podBeam p = true ∧ (s.pod p).wlds = []) :=
  ⟨⟨(poke [(POD_PCFG_Mode 5, 1)] (podS (opW 0x0B (2^55+127)))).setPresented 0 0 (some curS), 5, opW 0x0B (2^55+127), curS, by unfold State.atIssue; decide +kernel⟩,
    ⟨podS (opW 0x0B (2^55+127)) { PodSt.idle with wlds := [⟨1, 0, []⟩] }, 5, ⟨1, 0, []⟩, [], by decide +kernel⟩,
    ⟨poke [(POD_PCFG_Mode 5, 1)] (podS (opW 0x0C 0) { PodSt.idle with shadow := some ⟨1, 0, []⟩ }), 5, opW 0x0C 0, by unfold State.atIssue; decide +kernel⟩⟩

theorem witness_podInitialValues :
    (∃ (s : State) (p : Nat) (w : Nat), s.atIssue p w ∧ w / 2 ^ 58 = 0x0D) ∧
    (∃ (s : State) (p : Nat), p < 64 ∧ s.fastClk = true ∧ (s.pod p).wlds ≠ []) ∧
    (∃ (s : State) (p : Nat) (x : _) (xs : _), p < 64 ∧ s.fastClk = true ∧ (s.pod p).wlds = [] ∧ (s.pod p).start = false ∧ (s.pod p).winits = x :: xs) :=
  ⟨⟨podS (opW 0x0D (15*2^49+3)), 5, opW 0x0D (15*2^49+3), by unfold State.atIssue; decide +kernel⟩,
    ⟨podS (opW 0x0D (15*2^49+3)) { PodSt.idle with wlds := [⟨1, 0, []⟩], winits := [⟨0, 1, 0⟩] }, 5, by decide +kernel⟩,
    ⟨podS (opW 0x0D (15*2^49+3)) { PodSt.idle with winits := [⟨0, 1, 0⟩] }, 5, ⟨0, 1, 0⟩, [], by decide +kernel⟩⟩

theorem witness_podDrains :
    (∃ (s : State) (p : Nat) (w : Nat), s.atIssue p w ∧ w / 2 ^ 58 = 0x0E ∧ (s.pod p).swap = none ∧ (∀ d ∈ (s.pod p).drains, d.half ≠ (s.pod p).active)) ∧
    (∃ (s : State) (p : Nat) (w : Nat), s.atIssue p w ∧ w / 2 ^ 58 = 0x0E ∧ ((s.pod p).swap ≠ none ∨ ∃ d ∈ (s.pod p).drains, d.half = (s.pod p).active)) ∧
    (∃ (s : State) (p : Nat) (tag : _) (slots : _), p < 64 ∧ s.isRun = true ∧ (s.pod p).swap = some (tag, slots) ∧ (s.pod p).active ≤ 1 ∧ (s.pod p).steer.length ≤ 1) ∧
    (∃ (s : State) (p : Nat) (tag : _) (slots : _) (col : _) (more : _), p < 64 ∧ s.isRun = true ∧ (s.pod p).swap = some (tag, slots) ∧ (s.pod p).active ≤ 1 ∧ col < 33 ∧ (s.pod p).steer = col :: more ∧ more ≠ [] ∧ s.owner p = none ∧ (s.pod p).seq = true) ∧
    (∃ (s : State) (p : Nat) (d : _) (ds : _), p < 64 ∧ s.fastClk = true ∧ s.xIsHeld 7 (p % 8) = false ∧ (s.pod p).drains = d :: ds ∧ 32 * d.slots ≤ d.steps) :=
  ⟨⟨podS (opW 0x0E (15*2^53+4294967295)), 5, opW 0x0E (15*2^53+4294967295), by unfold State.atIssue; decide +kernel⟩,
    ⟨podS (opW 0x0E (15*2^53+4294967295)) { PodSt.idle with swap := some (1, 2) }, 5, opW 0x0E (15*2^53+4294967295), by unfold State.atIssue; decide +kernel⟩,
    ⟨poke [(POD_CTRL_Run 5, 0)] (podS (opW 0x0E (15*2^53+4294967295)) { PodSt.idle with swap := some (9, 16), steer := [3] }), 5, 9, 16, by decide +kernel⟩,
    ⟨podS (opW 0x0E (15*2^53+4294967295)) { PodSt.idle with swap := some (9, 16), steer := [3, 4] }, 5, 9, 16, 3, [4], by decide +kernel⟩,
    ⟨podS (opW 0x0E (15*2^53+4294967295)) { PodSt.idle with drains := [⟨5, 0, Bank.fresh, 9, 1, false, 0, none, 32, false, 0⟩] }, 5, (⟨5, 0, Bank.fresh, 9, 1, false, 0, none, 32, false, 0⟩ : DrainRec), ([] : List DrainRec), by decide +kernel⟩⟩

theorem witness_podMultiplies :
    (∃ (s : State) (p : Nat) (w : Nat) (n : Nat) (m : Nat) (a : Nat) (b : Nat) (ro : OpenPort) (co : OpenPort) (rp : Nat) (cp : Nat), s.atIssue p w ∧ w / 2 ^ 58 = 0x09 ∧ s.podBeam p = false ∧ (s.pod p).beats = none ∧ (s.pod p).winits = [] ∧ s.bankStall p = none ∧ n = s.beatsOf p w ∧ tget 0 (s.pod p).frames (bits w 56 2) + n * beatFrames (s.podFormat p) ≤ maxPass (s.podFormat p) ∧ s.feeding p 0 = some (a, ro, rp) ∧ s.feeding p 1 = some (b, co, cp) ∧ m = min n (min (wordsReady ro rp / beatWords (s.podFormat p)) (wordsReady co cp / beatWords (s.podFormat p)))) :=
  ⟨withStage (mulS (opW 9 0)), 5, opW 9 0, (withStage (mulS (opW 9 0))).beatsOf (5) (opW 9 0), min ((withStage (mulS (opW 9 0))).beatsOf (5) (opW 9 0)) (min (wordsReady (opS 0) (0) / beatWords ((withStage (mulS (opW 9 0))).podFormat (5))) (wordsReady (opS 1) (0) / beatWords ((withStage (mulS (opW 9 0))).podFormat (5)))), 0, 1, opS 0, opS 1, 0, 0, by unfold State.atIssue; decide +kernel⟩

theorem witness_podBeams :
    (∃ (s : State) (p : Nat) (w : Nat) (n : Nat) (m : Nat) (a : Nat) (x : WSet) (co : OpenPort) (cp : Nat), s.atIssue p w ∧ w / 2 ^ 58 = 0x0A ∧ s.podBeam p = true ∧ (s.pod p).beats = none ∧ (s.pod p).weights = some x ∧ (s.pod p).reloading = false ∧ s.bankStall p = none ∧ n = s.beatsOf p w ∧ bits w 49 9 + n * (4 * beatFrames (s.podFormat p)) ≤ 512 ∧ (∀ e < 512, tget 0 (s.pod p).bmacs e < 128) ∧ s.feeding p 1 = some (a, co, cp) ∧ m = min n (wordsReady co cp / beatWords (s.podFormat p))) :=
  ⟨withStage (beamS (opW 0x0A 0)), 5, opW 0x0A 0, (withStage (beamS (opW 0x0A 0))).beatsOf (5) (opW 0x0A 0), min ((withStage (beamS (opW 0x0A 0))).beatsOf (5) (opW 0x0A 0)) (wordsReady (opS 1) (0) / beatWords ((withStage (beamS (opW 0x0A 0))).podFormat (5))), 1, ⟨1, 0, []⟩, opS 1, 0, by unfold State.atIssue; decide +kernel⟩

theorem witness_podBarriers :
    (∃ (s : State) (p : Nat) (w : Nat), s.atIssue p w ∧ w / 2 ^ 58 = 0x0F ∧ s.flag (POD_CTRL_Run p) = true) ∧
    (∃ (s : State) (n : Nat), n < 8 ∧ s.isRun = true ∧ s.running n ≠ [] ∧ (∀ q ∈ s.running n, (s.pod q).wait = 3 ∧ s.nextPc q < 4096)) ∧
    (∃ (s : State) (n : Nat), n < 8 ∧ (∃ q ∈ s.running n, (s.pod q).wait ≠ 3)) ∧
    (∃ (s : State) (p : Nat) (w : Nat), s.atIssue p w ∧ w / 2 ^ 58 = 0x12 ∧ (s.pod p).outstanding = false) ∧
    (∃ (s : State) (p : Nat) (w : Nat), s.atIssue p w ∧ w / 2 ^ 58 = 0x12 ∧ (s.pod p).outstanding = true ∧ s.flag (POD_CTRL_Run p) = true) :=
  ⟨⟨podS (opW 0x0F 0), 5, opW 0x0F 0, by unfold State.atIssue; decide +kernel⟩,
    ⟨podS (opW 0x0F 0) { PodSt.idle with wait := 3 }, 0, by decide +kernel⟩,
    ⟨podS (opW 0x0F 0), 0, by decide +kernel⟩,
    ⟨podS (opW 0x12 0), 5, opW 0x12 0, by unfold State.atIssue; decide +kernel⟩,
    ⟨podS (opW 0x12 0) { PodSt.idle with wlds := [⟨1, 0, []⟩] }, 5, opW 0x12 0, by unfold State.atIssue; decide +kernel⟩⟩

theorem witness_podPassGroups :
    (∃ (s : State) (p : Nat) (w : Nat), s.atIssue p w ∧ w / 2 ^ 58 = 0x10 ∧ (s.pod p).wait ≠ 5 ∧ s.flag (POD_CTRL_Run p) = true) ∧
    (∃ (s : State) (n : Nat) (st : Nat), n < 8 ∧ st < 4 ∧ s.isRun = true ∧ s.podsHeld n = false ∧ s.partBusy n = false ∧ s.running n ≠ [] ∧ (∀ q ∈ s.running n, (s.pod q).wait = 4 ∧ (s.pod q).waitSt = st)) ∧
    (∃ (s : State) (n : Nat) (st : Nat), n < 8 ∧ st < 4 ∧ (s.podsHeld n = true ∨ s.running n = [] ∨ ∃ q ∈ s.running n, (s.pod q).wait ≠ 4 ∨ (s.pod q).waitSt ≠ st)) ∧
    (∃ (s : State) (n : Nat) (st : Nat) (h : _) (pg : _), n < 8 ∧ st < 4 ∧ s.isRun = true ∧ s.podsHeld n = false ∧ s.presented n st = none ∧ s.stagedNext n st = some (h, pg)) :=
  ⟨⟨podS (opW 0x10 (3*2^52)), 5, opW 0x10 (3*2^52), by unfold State.atIssue; decide +kernel⟩,
    ⟨(podS (opW 0x10 (3*2^52)) { PodSt.idle with wait := 4, waitSt := 3 }).setPresented 0 3 (some curS), 0, 3, by decide +kernel⟩,
    ⟨podS (opW 0x10 (3*2^52)), 0, 3, by decide +kernel⟩,
    ⟨(takeS (opW 0x10 (3*2^52))).setPod 5 { PodSt.idle with seq := true, wait := 5, waitSt := 3 }, 0, 3, 0, (⟨3, 0, 0, 0, 0, false, false, false, 1⟩ : PassGroup), by decide +kernel⟩⟩

theorem witness_podPortStarts :
    (∃ (s : State) (q : Nat) (lead : Nat) (ls : List (Nat × Nat)) (d : PortDesc) (cur : Presented), q < 16 ∧ lead < 64 ∧ s.isRun = true ∧ tget none s.array.req q = some (lead, ls) ∧ tget none s.array.desc q = some d ∧ s.presented (s.podPart lead) d.st = some cur ∧ (∀ e ∈ s.requested lead, (s.presented (s.podPart lead) e.2.st).isSome = true) ∧ (∀ e ∈ s.requested lead, s.portOk lead e.1 e.2 = true) ∧ s.nextPc lead < 4096) ∧
    (∃ (s : State) (q : Nat) (lead : Nat) (ls : List (Nat × Nat)) (d : PortDesc) (cur : Presented), q < 16 ∧ lead < 64 ∧ s.isRun = true ∧ tget none s.array.req q = some (lead, ls) ∧ tget none s.array.desc q = some d ∧ s.presented (s.podPart lead) d.st = some cur ∧ (∀ e ∈ s.requested lead, (s.presented (s.podPart lead) e.2.st).isSome = true) ∧ (∃ e ∈ s.requested lead, s.portOk lead e.1 e.2 = false) ∧ s.owner lead = none ∧ (s.pod lead).start = false) :=
  ⟨⟨portS, 0, 5, [(5, 0)], ⟨0, false, 0, 0, 1⟩, curS, by decide +kernel⟩,
    ⟨{ portS with array := { portS.array with desc := [(0, some ⟨0, false, 0, 65535, 1⟩)] } }, 0, 5, [(5, 0)], ⟨0, false, 0, 65535, 1⟩, curS, by decide +kernel⟩⟩

theorem witness_podRuns :
    (∃ (s : State) (p : Nat), p < 64 ∧ s.takes (POD_CTRL p) ∧ s.flag (POD_STATUS_Failed p) = false ∧ s.ownerRuns p = true ∧ (s.pod p).seq = false ∧ s.podConfigOk p = true ∧ ((s.pod p).outstanding = true ∨ s.isRun = false)) ∧
    (∃ (s : State) (p : Nat), p < 64 ∧ s.takes (POD_CTRL p) ∧ s.flag (POD_STATUS_Failed p) = false ∧ s.ownerRuns p = true ∧ (s.pod p).seq = false ∧ s.podConfigOk p = true ∧ (s.pod p).outstanding = false ∧ s.isRun = true) ∧
    (∃ (s : State) (p : Nat), p < 64 ∧ s.takes (POD_CTRL p) ∧ s.flag (POD_STATUS_Failed p) = false ∧ s.ownerRuns p = true ∧ s.flag (POD_CTRL_Run p) = false ∧ s.podConfigOk p = false) ∧
    (∃ (s : State) (p : Nat), p < 64 ∧ s.takes (POD_CTRL p) ∧ (s.flag (POD_STATUS_Failed p) = true ∨ s.ownerRuns p = false)) ∧
    (∃ (s : State) (p : Nat), p < 64 ∧ s.takes (POD_CTRL p) ∧ (s.pod p).wait = 0) :=
  ⟨⟨poke [(POD_CTRL_Run 5, 0), (POD_STATUS_Running 5, 1)] ((podS 0).setPod 5 { PodSt.idle with wlds := [⟨1, 0, []⟩] }), 5, by unfold State.takes; decide +kernel⟩,
    ⟨poke [(POD_CTRL_Run 5, 0), (POD_CTRL_Entry 5, 4095)] ((podS 0).setPod 5 PodSt.idle), 5, by unfold State.takes; decide +kernel⟩,
    ⟨poke [(POD_CTRL_Run 5, 0), (POD_PCFG_Member 4, 1), (POD_PCFG_Format 4, 1)] ((podS 0).setPod 5 PodSt.idle), 5, by unfold State.takes; decide +kernel⟩,
    ⟨poke [(POD_STATUS_Failed 5, 1)] (podS 0), 5, by unfold State.takes; decide +kernel⟩,
    ⟨podS 0, 5, by unfold State.takes; decide +kernel⟩⟩

theorem witness_podSteering :
    (∃ (s : State) (p : Nat) (col : Nat), p < 64 ∧ col < 33 ∧ s.takes (POD_CMD p) ∧ s.flag (POD_STATUS_Failed p) = false ∧ s.flag (POD_COLMAP_Steered p) = false ∧ s.flag (POD_COLMAP_SpareBad p) = false ∧ col ∉ (s.pod p).steer) ∧
    (∃ (s : State) (p : Nat) (col : Nat), p < 64 ∧ col < 33 ∧ s.takes (POD_CMD p) ∧ s.flag (POD_STATUS_Failed p) = false ∧ (s.flag (POD_COLMAP_Steered p) = true ∨ s.flag (POD_COLMAP_SpareBad p) = true) ∧ col ∉ (s.pod p).steer ∧ s.owner p = none) ∧
    (∃ (s : State) (p : Nat) (col : Nat), p < 64 ∧ col < 33 ∧ s.fastClk = true ∧ s.flag (POD_SPARECFG_AutoSteer p) = false) ∧
    (∃ (s : State) (p : Nat) (col : Nat), p < 64 ∧ col < 33 ∧ s.fastClk = true ∧ s.flag (POD_SPARECFG_AutoSteer p) = true ∧ s.flag (POD_STATUS_Failed p) = false ∧ s.flag (POD_COLMAP_Steered p) = false ∧ s.flag (POD_COLMAP_SpareBad p) = false ∧ col ∉ (s.pod p).steer ∧ max 1 (s.fget (POD_SPARECFG_Limit p)) ≤ (s.reg (POD_COLERR p col) + 1).toNat) ∧
    (∃ (s : State) (p : Nat) (col : Nat), p < 64 ∧ col < 33 ∧ s.fastClk = true ∧ (s.pod p).reloading = true) :=
  ⟨⟨podS 0, 5, 32, by unfold State.takes; decide +kernel⟩,
    ⟨poke [(POD_COLMAP_Steered 5, 1)] (podS 0), 5, 32, by unfold State.takes; decide +kernel⟩,
    ⟨poke [(POD_SPARECFG_AutoSteer 5, 0)] (podS 0), 5, 32, by decide +kernel⟩,
    ⟨poke [(POD_SPARECFG_AutoSteer 5, 1), (POD_SPARECFG_Limit 5, 1)] (podS 0), 5, 32, by decide +kernel⟩,
    ⟨podS 0 { PodSt.idle with reloading := true, weights := some ⟨1, 0, []⟩ }, 5, 32, by decide +kernel⟩⟩

theorem witness_huskFrontEnd :
    (∃ (s : State) (n : Nat) (r : _), n < 8 ∧ s.isRun = true ∧ r < 8 ∧ s.flag HUSK_CTRL_Enable = true ∧ s.unitInReset 18 = false ∧ s.xIsHeld 7 n = false ∧ s.frontUsed n + 32 ≤ 16384 ∧ ((List.range 8).map fun i => (tget 0 s.husk.last n + i) % 8).find? (fun x => (s.pod (8 * x + n)).offers) = some r) ∧
    (∃ (s : State) (n : Nat), n < 8 ∧ s.isRun = true ∧ (∃ r < 8, (s.pod (8 * r + n)).offers = true) ∧ (s.flag HUSK_CTRL_Enable = false ∨ s.unitInReset 18 = true ∨ s.xIsHeld 7 n = true ∨ 16384 < s.frontUsed n + 32)) :=
  ⟨⟨let s := poke [(HUSK_CTRL_Enable, 1)] (runS.setPod 0 { PodSt.idle with drains := [{ drainS with steps := 0 }] }); s, 0, 0, by decide +kernel⟩,
    ⟨let s := poke [(HUSK_CTRL_Enable, 0)] (runS.setPod 0 { PodSt.idle with drains := [{ drainS with steps := 0 }] }); s, 0, by decide +kernel⟩⟩

theorem witness_huskBackEnd :
    (∃ (s : State) (n : Nat) (d : DrainRec) (ds : List DrainRec), n < 8 ∧ s.isRun = true ∧ s.unitInReset 18 = false ∧ s.xIsHeld 7 n = false ∧ s.hbmHeld = false ∧ tget [] s.husk.held n = d :: ds ∧ d.ctx = none) ∧
    (∃ (s : State) (n : Nat) (d : DrainRec) (ds : List DrainRec) (c : _) (h : _) (pg : _) (g : _), n < 8 ∧ s.isRun = true ∧ s.unitInReset 18 = false ∧ s.xIsHeld 7 n = false ∧ s.hbmHeld = false ∧ tget [] s.husk.held n = d :: ds ∧ s.drainOf d c h pg g ∧ d.bank.mixed = true) ∧
    (∃ (s : State) (n : Nat) (d : DrainRec) (ds : List DrainRec) (c : _) (h : _) (pg : _) (g : _), n < 8 ∧ s.isRun = true ∧ s.unitInReset 18 = false ∧ s.xIsHeld 7 n = false ∧ s.hbmHeld = false ∧ tget [] s.husk.held n = d :: ds ∧ s.drainOf d c h pg g ∧ d.bank.mixed = false ∧ s.mapEntries c d = none) ∧
    (∃ (s : State) (n : Nat) (d : DrainRec) (ds : List DrainRec) (c : _) (h : _), n < 8 ∧ s.isRun = true ∧ s.unitInReset 18 = false ∧ s.xIsHeld 7 n = false ∧ s.hbmHeld = false ∧ tget [] s.husk.held n = d :: ds ∧ c < 4096 ∧ d.ctx = some c ∧ s.huskCtx c = some h ∧ (s.ctxState c = 3 ∨ s.ctxState c = 4) ∧ (∀ pg, d.bank.pg = some pg → pg.g < s.ctxFirst c ∨ s.ctxFirst c + s.ctxGroups c ≤ pg.g ∨ pg.k < h.k0)) ∧
    (∃ (s : State) (n : Nat) (d : DrainRec) (ds : List DrainRec) (c : _) (h : _) (pg : _) (g : _), n < 8 ∧ s.isRun = true ∧ s.unitInReset 18 = false ∧ s.xIsHeld 7 n = false ∧ s.hbmHeld = false ∧ tget [] s.husk.held n = d :: ds ∧ s.drainOf d c h pg g ∧ d.bank.mixed = false ∧ (s.mapEntries c d).isSome = true ∧ (pg.k < h.win ∨ s.fget (HUSK_DAUX_DrainsPerPgMinus1 c) < tget 0 h.arrived g)) ∧
    (∃ (s : State) (n : Nat) (d : DrainRec) (ds : List DrainRec), n < 8 ∧ s.isRun = true ∧ s.unitInReset 18 = false ∧ s.xIsHeld 7 n = false ∧ s.hbmHeld = false ∧ tget [] s.husk.held n = d :: ds ∧ ds = [] ∧ s.verdict n d = .order) ∧
    (∃ (s : State) (n : Nat) (d : DrainRec) (ds : List DrainRec), n < 8 ∧ s.isRun = true ∧ s.unitInReset 18 = false ∧ s.xIsHeld 7 n = false ∧ s.hbmHeld = false ∧ tget [] s.husk.held n = d :: ds ∧ ds = [] ∧ s.verdict n d = .late) ∧
    (∃ (s : State) (n : Nat) (d : DrainRec) (ds : List DrainRec), n < 8 ∧ s.isRun = true ∧ s.unitInReset 18 = false ∧ s.xIsHeld 7 n = false ∧ s.hbmHeld = false ∧ tget [] s.husk.held n = d :: ds ∧ ds = [] ∧ s.verdict n d = .stage) :=
  ⟨⟨heldK 0 [] ({ drainS with ctx := none }), 0, ({ drainS with ctx := none } : DrainRec), ([] : List DrainRec), by decide +kernel⟩,
    ⟨heldK 0 [] ({ drainS with bank := { drainS.bank with mixed := true } }), 0, ({ drainS with bank := { drainS.bank with mixed := true } } : DrainRec), ([] : List DrainRec), 0, huskS, (⟨0, 0, 0⟩ : PgId), 0, by unfold State.drainOf; decide +kernel⟩,
    ⟨heldK 0 [(HUSK_MAP_HI_Valid 0, 0)] (drainS), 0, (drainS : DrainRec), ([] : List DrainRec), 0, huskS, (⟨0, 0, 0⟩ : PgId), 0, by unfold State.drainOf; decide +kernel⟩,
    ⟨heldK 0 [] (drainAt 0 9), 0, (drainAt 0 9 : DrainRec), ([] : List DrainRec), 0, huskS, by decide +kernel⟩,
    ⟨let s := heldK 0 [(HUSK_DAUX_DrainsPerPgMinus1 0, 0)] drainS; { s with husk := { s.husk with ctx := [(0, some { huskS with arrived := [(0, 1)] })] } }, 0, drainS, ([] : List DrainRec), 0, ({ huskS with arrived := [(0, 1)] } : HuskCtx), (⟨0, 0, 0⟩ : PgId), 0, by unfold State.drainOf; decide +kernel⟩,
    ⟨heldK 0 [] (drainAt 1 0), 0, (drainAt 1 0 : DrainRec), ([] : List DrainRec), by decide +kernel⟩,
    ⟨let s := heldS; { s with husk := { s.husk with dumps := [(0, [⟨2, 7, 0, 1, 0, (0, 0), 0, [], false, 0, [], []⟩])] } }, 0, drainS, ([] : List DrainRec), by decide +kernel⟩,
    ⟨let s := heldK 3 [(HUSK_MAP_HI_Kind 0, 1), (HUSK_MAP_HI_RowOrBeamBase 0, 31), (CTX_BEAM_BeamCount 0, 32)] beamOne; { s with husk := { s.husk with power := List.replicate 4096 (2 ^ 90, some (1, 1)) } }, 0, (beamOne : DrainRec), ([] : List DrainRec), by decide +kernel⟩⟩

theorem witness_correlationsSpill :
    (∃ (s : State) (n : Nat) (c : Nat) (g : Nat) (m : Nat) (d : DrainRec) (ds : List DrainRec) (h : HuskCtx) (pg : PgId) (ents : List Nat), n < 8 ∧ s.isRun = true ∧ s.unitInReset 18 = false ∧ s.xIsHeld 7 n = false ∧ s.hbmHeld = false ∧ tget [] s.husk.held n = d :: ds ∧ s.drainOf d c h pg g ∧ d.bank.mixed = false ∧ s.mapEntries c d = some ents ∧ pg.k = h.win ∧ tget 0 h.arrived g ≤ s.fget (HUSK_DAUX_DrainsPerPgMinus1 c) ∧ d.beam = false ∧ s.ctxKind c ≤ 1 ∧ m = h.integ (s.ctxP c) h.win) :=
  ⟨withDmc (heldK 0 [] { drainS with bank := bankS }), 0, 0, 0, 0, ({ drainS with bank := bankS } : DrainRec), ([] : List DrainRec), huskS, (⟨0, 0, 0⟩ : PgId), [0], by unfold State.drainOf; decide +kernel⟩

theorem witness_beamDrains :
    (∃ (s : State) (n : Nat) (c : Nat) (g : Nat) (i : Nat) (d : DrainRec) (ds : List DrainRec) (h : HuskCtx) (pg : PgId) (ents : List Nat), n < 8 ∧ s.isRun = true ∧ s.unitInReset 18 = false ∧ s.xIsHeld 7 n = false ∧ s.hbmHeld = false ∧ tget [] s.husk.held n = d :: ds ∧ s.drainOf d c h pg g ∧ d.bank.mixed = false ∧ s.mapEntries c d = some ents ∧ pg.k = h.win ∧ i = ents.headD 0 ∧ tget 0 h.arrived g < s.fget (HUSK_DAUX_DrainsPerPgMinus1 c) ∧ d.beam = true ∧ s.ctxKind c = 3 ∧ s.powerUsed n + s.powerNew (s.powerAdds n c h.win g i d).1 ≤ 4096) ∧
    (∃ (s : State) (n : Nat) (c : Nat) (g : Nat) (i : Nat) (d : DrainRec) (ds : List DrainRec) (h : HuskCtx) (pg : PgId) (ents : List Nat), n < 8 ∧ s.isRun = true ∧ s.unitInReset 18 = false ∧ s.xIsHeld 7 n = false ∧ s.hbmHeld = false ∧ tget [] s.husk.held n = d :: ds ∧ s.drainOf d c h pg g ∧ d.bank.mixed = false ∧ s.mapEntries c d = some ents ∧ pg.k = h.win ∧ i = ents.headD 0 ∧ tget 0 h.arrived g < s.fget (HUSK_DAUX_DrainsPerPgMinus1 c) ∧ d.beam = true ∧ s.ctxKind c = 4 ∧ s.powerUsed n + s.powerNew (s.powerAdds n c h.win g i d).1 ≤ 4096) ∧
    (∃ (s : State) (n : Nat) (c : Nat) (g : Nat) (i : Nat) (d : DrainRec) (ds : List DrainRec) (h : HuskCtx) (pg : PgId) (ents : List Nat), n < 8 ∧ s.isRun = true ∧ s.unitInReset 18 = false ∧ s.xIsHeld 7 n = false ∧ s.hbmHeld = false ∧ tget [] s.husk.held n = d :: ds ∧ s.drainOf d c h pg g ∧ d.bank.mixed = false ∧ s.mapEntries c d = some ents ∧ pg.k = h.win ∧ i = ents.headD 0 ∧ tget 0 h.arrived g < s.fget (HUSK_DAUX_DrainsPerPgMinus1 c) ∧ d.beam = true ∧ s.ctxKind c = 2) :=
  ⟨⟨heldK 3 [(HUSK_MAP_HI_Kind 0, 1), (HUSK_MAP_HI_RowOrBeamBase 0, 30), (CTX_BEAM_BeamCount 0, 32), (HUSK_MAP_LO_FramesMinus1 0, 1), (CTX_DEST_Emit 0, 1)] beamOne, 0, 0, 0, 0, (beamOne : DrainRec), ([] : List DrainRec), huskS, (⟨0, 0, 0⟩ : PgId), [0], by unfold State.drainOf; decide +kernel⟩,
    ⟨heldK 4 [(HUSK_MAP_HI_Kind 0, 1), (HUSK_MAP_HI_RowOrBeamBase 0, 30), (CTX_BEAM_BeamCount 0, 32), (HUSK_MAP_LO_FramesMinus1 0, 1), (CTX_DEST_Emit 0, 1)] beamOne, 0, 0, 0, 0, (beamOne : DrainRec), ([] : List DrainRec), huskS, (⟨0, 0, 0⟩ : PgId), [0], by unfold State.drainOf; decide +kernel⟩,
    ⟨heldK 2 [(HUSK_MAP_HI_Kind 0, 1), (HUSK_MAP_HI_RowOrBeamBase 0, 30), (CTX_BEAM_BeamCount 0, 32), (HUSK_MAP_LO_FramesMinus1 0, 1), (CTX_DEST_Emit 0, 1)] beamOne, 0, 0, 0, 0, (beamOne : DrainRec), ([] : List DrainRec), huskS, (⟨0, 0, 0⟩ : PgId), [0], by unfold State.drainOf; decide +kernel⟩⟩

theorem witness_egressSendsPackets :
    (∃ (s : State) (c : Nat) (x : Nat) (d : _) (rest : _), c < 4096 ∧ s.isRun = true ∧ s.ctxEmit c = true ∧ s.unitInReset 18 = false ∧ s.unitInReset 19 = false ∧ s.hbmHeld = false ∧ s.txHeld c = false ∧ x = s.fget (CTX_DEST_Dest c) ∧ s.ctxKind c ≠ 2 ∧ tget [] s.husk.dumps c = d :: rest ∧ d.sent < s.pktTotal c d) ∧
    (∃ (s : State) (c : Nat) (x : Nat) (b : _) (rest : _), c < 4096 ∧ s.isRun = true ∧ s.ctxEmit c = true ∧ s.unitInReset 18 = false ∧ s.unitInReset 19 = false ∧ s.hbmHeld = false ∧ s.txHeld c = false ∧ x = s.fget (CTX_DEST_Dest c) ∧ s.ctxKind c = 2 ∧ tget [] s.husk.volt c = b :: rest) :=
  ⟨⟨dumpingS, 0, 0, dumpS, [], by decide +kernel⟩,
    ⟨poke [(CTX_CFG_Kind 0, 2)] { dumpingS with husk := { dumpingS.husk with volt := [(0, [(⟨0, 1, (0, 0), 0, 0, 0, 0, [[1, 2], [3, 4]], 0, 0, true⟩ : VoltBlock)])] } }, 0, 0, (⟨0, 1, (0, 0), 0, 0, 0, 0, [[1, 2], [3, 4]], 0, 0, true⟩ : VoltBlock), [], by decide +kernel⟩⟩

theorem witness_dumpEnds :
    (∃ (s : State) (c : Nat) (d : Dump) (rest : List Dump), c < 4096 ∧ s.isRun = true ∧ s.ctxKind c ≠ 5 ∧ s.unitInReset 18 = false ∧ tget [] s.husk.dumps c = d :: rest ∧ (s.ctxEmit c = false ∨ s.pktTotal c d ≤ d.sent)) :=
  ⟨{ dumpingS with husk := { dumpingS.husk with dumps := [(0, [{ dumpS with sent := 2 }])] } }, 0, { dumpS with sent := 2 }, [], by decide +kernel⟩

theorem witness_contextStart :
    (∃ (s : State) (u : State) (c : Nat), c < 4096 ∧ s.takeCmd true c = some u ∧ u.startCode c false false = 0) ∧
    (∃ (s : State) (u : State) (c : Nat) (code : _), c < 4096 ∧ s.takeCmd true c = some u ∧ u.startCode c false false = code ∧ code ≠ 0) :=
  ⟨⟨ctxS, ((ctxS).takeCmd true 0).getD runS, 0, by decide +kernel⟩,
    ⟨runS, ((runS).takeCmd true 1).getD runS, 1, 1, by decide +kernel⟩⟩

theorem witness_contextStop :
    (∃ (s : State) (c : Nat) (u : _), c < 4096 ∧ s.ctxs.leadWait = [] ∧ (∀ p ∈ s.tile c, s.xIsHeld 6 p = false) ∧ s.takeCmd false c = some u ∧ s.ctxState c = 3 ∧ s.ctxKind c ≠ 5 ∧ (s.hasLead c = false ∨ s.othersLive c = false)) ∧
    (∃ (s : State) (c : Nat) (u : _), c < 4096 ∧ s.ctxs.leadWait = [] ∧ (∀ p ∈ s.tile c, s.xIsHeld 6 p = false) ∧ s.takeCmd false c = some u ∧ (s.ctxState c = 2 ∨ s.ctxState c = 3) ∧ s.ctxKind c ≠ 5 ∧ s.hasLead c = true ∧ s.othersLive c = true) ∧
    (∃ (s : State) (c : Nat) (u : _), c < 4096 ∧ s.ctxs.leadWait = [] ∧ (∀ p ∈ s.tile c, s.xIsHeld 6 p = false) ∧ s.takeCmd false c = some u ∧ s.ctxState c = 2 ∧ s.ctxKind c ≠ 5 ∧ (s.hasLead c = false ∨ s.othersLive c = false)) ∧
    (∃ (s : State) (c : Nat) (u : _), c < 4096 ∧ s.ctxs.leadWait = [] ∧ (∀ p ∈ s.tile c, s.xIsHeld 6 p = false) ∧ s.takeCmd false c = some u ∧ (s.ctxState c = 2 ∨ s.ctxState c = 3) ∧ s.ctxKind c = 5) ∧
    (∃ (s : State) (c : Nat) (u : _), c < 4096 ∧ s.ctxs.leadWait = [] ∧ (∀ p ∈ s.tile c, s.xIsHeld 6 p = false) ∧ s.takeCmd false c = some u ∧ (s.ctxState c ≤ 1 ∨ s.ctxState c = 4)) ∧
    (∃ (s : State) (c : Nat), c < 4096 ∧ s.ctxs.leadWait = [] ∧ (∀ p ∈ s.tile c, s.xIsHeld 6 p = false) ∧ s.ctxState c = 4 ∧ s.tileStopped c = true ∧ s.drainsLeft c = false ∧ s.emitLeft c = false) :=
  ⟨⟨poke [(CTX_STATE_State 0, 3)] ctxS, 0, ((poke [(CTX_STATE_State 0, 3)] ctxS).takeCmd false 0).getD runS, by decide +kernel⟩,
    ⟨poke [(CTX_STATE_State 0, 3), (CTX_STATE_State 1, 3)] ctxS, 0, ((poke [(CTX_STATE_State 0, 3), (CTX_STATE_State 1, 3)] ctxS).takeCmd false 0).getD runS, by decide +kernel⟩,
    ⟨poke [(CTX_STATE_State 0, 2)] ctxS, 0, ((poke [(CTX_STATE_State 0, 2)] ctxS).takeCmd false 0).getD runS, by decide +kernel⟩,
    ⟨poke [(CTX_STATE_State 0, 3), (CTX_CFG_Kind 0, 5)] ctxS, 0, ((poke [(CTX_STATE_State 0, 3), (CTX_CFG_Kind 0, 5)] ctxS).takeCmd false 0).getD runS, by decide +kernel⟩,
    ⟨ctxS, 0, ((ctxS).takeCmd false 0).getD runS, by decide +kernel⟩,
    ⟨poke [(CTX_STATE_State 0, 4)] ctxS, 0, by decide +kernel⟩⟩

theorem witness_contextEntry :
    (∃ (s : State) (c : Nat), c < 4096 ∧ s.takes (CTX_CFG c) ∧ s.ctxOpen c = true) ∧
    (∃ (s : State) (c : Nat), c < 4096 ∧ s.ctxState c = 2 ∧ s.flag (CTX_STATE_Loading c) = true ∧ s.unitInReset 20 = false ∧ s.hbmHeld = false ∧ s.startMode c ≠ 0) :=
  ⟨⟨ctxS, 0, by unfold State.takes; decide +kernel⟩,
    ⟨poke [(CTX_STATE_State 0, 2), (CTX_STATE_Loading 0, 1)] ctxS, 0, by decide +kernel⟩⟩

theorem witness_contextRecovery :
    (∃ (s : State) (c : Nat), c < 4096 ∧ s.mayRestart c = true ∧ s.startCode c true true = 0) ∧
    (∃ (s : State) (c : Nat) (code : _), c < 4096 ∧ s.mayRestart c = true ∧ s.startCode c true true = code ∧ code ≠ 0) ∧
    (∃ (s : State) (c : Nat), c < 4096 ∧ (∀ x < 4096, s.eccOk (CTX_CFG x) = true)) ∧
    (∃ (s : State) (c : Nat), c < 4096 ∧ (∀ x < 4096, s.eccOk (CTX_CFG x) = false ↔ x = c) ∧ s.ctxState c = 3) :=
  ⟨⟨poke [(CTX_STATE_State 0, 5)] ctxS, 0, by decide +kernel⟩,
    ⟨poke [(CTX_STATE_State 0, 5), (HULL_SCTRL_Enable 0, 0)] ctxS, 0, 5, by decide +kernel⟩,
    ⟨ctxS, 0, by decide +kernel, fun _ _ => rfl⟩,
    ⟨eccS, 0, by decide +kernel, fun x _ => eccS_first x, by decide +kernel⟩⟩

theorem witness_ingestChecks :
    (∃ (s : State) (lane : Nat) (k : Nat) (f : List Byte) (fs : List (Nat × List Byte)), lane < 96 ∧ tget [] s.ln.rxq lane = (k, f) :: fs ∧ s.fget (LN_CFG_Mode lane) = 1 ∧ s.xIsHeld 0 lane = false ∧ s.isRun = true ∧ s.flag IMG_STATUS_SproutActive = false ∧ 16 ≤ f.length ∧ crc16 (f.take 14) ≠ beAt f 14 2) ∧
    (∃ (s : State) (lane : Nat) (k : Nat) (f : List Byte) (fs : List (Nat × List Byte)), lane < 96 ∧ tget [] s.ln.rxq lane = (k, f) :: fs ∧ s.fget (LN_CFG_Mode lane) = 1 ∧ s.xIsHeld 0 lane = false ∧ s.isRun = true ∧ s.flag IMG_STATUS_SproutActive = false ∧ 16 ≤ f.length ∧ crc16 (f.take 14) = beAt f 14 2 ∧ (ingestHdr f).ok f.length = false) ∧
    (∃ (s : State) (lane : Nat) (k : Nat) (f : List Byte) (fs : List (Nat × List Byte)), lane < 96 ∧ tget [] s.ln.rxq lane = (k, f) :: fs ∧ s.fget (LN_CFG_Mode lane) = 1 ∧ s.xIsHeld 0 lane = false ∧ s.isRun = true ∧ s.flag IMG_STATUS_SproutActive = false ∧ 16 ≤ f.length ∧ crc16 (f.take 14) = beAt f 14 2 ∧ (ingestHdr f).ok f.length = true ∧ (∀ p < (ingestHdr f).pathCount, s.slotsOf lane ((ingestHdr f).firstPath + p) = [])) :=
  ⟨⟨ingS ((ingF 0x11).set 15 0xFF), 0, 0, (ingF 0x11).set 15 0xFF, [], by decide +kernel⟩,
    ⟨ingS (ingF 0x12), 0, 0, (ingF 0x12), [], by decide +kernel⟩,
    ⟨ingS (ingF 0x11), 0, 0, ingF 0x11, [], by decide +kernel⟩⟩

theorem witness_ingestFeedsTheSlot :
    (∃ (s : State) (lane : Nat) (e : Nat) (q : Nat) (k : Nat) (f : List Byte) (fs : List (Nat × List Byte)), lane < 96 ∧ tget [] s.ln.rxq lane = (k, f) :: fs ∧ s.unitInReset e = false ∧ s.fget (LN_CFG_Mode lane) = 1 ∧ s.xIsHeld 0 lane = false ∧ s.isRun = true ∧ s.flag IMG_STATUS_SproutActive = false ∧ 16 ≤ f.length ∧ crc16 (f.take 14) = beAt f 14 2 ∧ (ingestHdr f).ok f.length = true ∧ (ingestHdr f).pathCount = 1 ∧ s.slotsOf lane (ingestHdr f).firstPath = [(e, q)] ∧ decide ((ingestHdr f).format = 1) = s.flag (FCH_PSRC_Real e q) ∧ s.flag (FCH_STATUS_Anchored e) = true ∧ 3 ≤ (s.slot e q).phase ∧ (s.slot e q).joining = false ∧ idxDiff (ingestHdr f).index (s.slot e q).x = 0) :=
  ⟨slotS (ingS (ingF 0x11)), 0, 0, 0, 0, ingF 0x11, [], by decide +kernel⟩

theorem witness_syncAnchors :
    (∃ (s : State), s.fastClk = true ∧ 2 ≤ s.pwrState ∧ s.xIsHeld 10 0 = false) :=
  ⟨slotS runS, by decide +kernel⟩

theorem witness_engineEnables :
    (∃ (s : State) (e : Nat) (p : Nat), e < 16 ∧ p < 16 ∧ s.takes (FCH_CTRL e) ∧ s.flag (FCH_CTRL_Enable e) = false ∧ s.fchLimitsOk e (s.enabledSlots e none) = true) ∧
    (∃ (s : State) (e : Nat) (p : Nat), e < 16 ∧ p < 16 ∧ s.takes (FCH_CTRL e) ∧ s.flag (FCH_CTRL_Enable e) = false ∧ s.fchLimitsOk e (s.enabledSlots e none) = false) ∧
    (∃ (s : State) (e : Nat) (p : Nat), e < 16 ∧ p < 16 ∧ s.takes (FCH_PSRC e p) ∧ s.flag (FCH_PSRC_Enable e p) = false ∧ s.fchLimitsOk e (s.enabledSlots e (some p)) = true) ∧
    (∃ (s : State) (e : Nat) (p : Nat), e < 16 ∧ p < 16 ∧ s.takes (FCH_PSRC e p) ∧ s.flag (FCH_PSRC_Enable e p) = false ∧ s.fchLimitsOk e (s.enabledSlots e (some p)) = false) :=
  ⟨⟨poke [(FCH_PSRC_Enable 0 3, 1), (FCH_RSINC_Inc 0 3, 2 ^ 30)] runS, 0, 3, by unfold State.takes; decide +kernel⟩,
    ⟨poke [(FCH_CHSEL_First 0, 5), (FCH_CHSEL_Last 0, 4)] runS, 0, 3, by unfold State.takes; decide +kernel⟩,
    ⟨poke [(FCH_CTRL_Enable 0, 1), (FCH_RSINC_Inc 0 3, 2 ^ 30), (FCH_STATUS_Anchored 0, 1)] runS, 0, 3, by unfold State.takes; decide +kernel⟩,
    ⟨poke [(FCH_RSINC_Inc 0 3, 1)] runS, 0, 3, by unfold State.takes; decide +kernel⟩⟩

theorem witness_gainTable :
    (∃ (s : State) (e : Nat), e < 16 ∧ s.takes (FCH_GDATA e) ∧ s.flag (FCH_STATUS_SwapPending e) = false) ∧
    (∃ (s : State) (e : Nat), e < 16 ∧ s.takes (FCH_GDATA e) ∧ s.flag (FCH_STATUS_SwapPending e) = true) :=
  ⟨⟨poke [(FCH_GADDR_Index 15, 262143)] runS, 15, by unfold State.takes; decide +kernel⟩,
    ⟨poke [(FCH_STATUS_SwapPending 15, 1)] runS, 15, by unfold State.takes; decide +kernel⟩⟩

theorem witness_gainSwap :
    (∃ (s : State) (e : Nat) (p : _), e < 16 ∧ s.takes (FCH_GSWAP_HI e) ∧ s.flag (FCH_STATUS_SwapPending e) = false ∧ p < 16 ∧ s.slotOn e p = true ∧ (s.slot e p).swapped = false) ∧
    (∃ (s : State) (e : Nat), e < 16 ∧ s.takes (FCH_GSWAP_HI e) ∧ s.flag (FCH_STATUS_SwapPending e) = false ∧ (∀ p, p < 16 → s.slotOn e p = false)) :=
  ⟨⟨slotS runS, 0, 0, by unfold State.takes; decide +kernel⟩,
    ⟨runS, 0, by unfold State.takes; decide +kernel⟩⟩

theorem witness_hullEnables :
    (∃ (s : State) (st : Nat), st < 4 ∧ s.takes HULL_CTRL ∧ s.flag HULL_CTRL_Enable = false ∧ s.hullCheck = true) ∧
    (∃ (s : State) (st : Nat), st < 4 ∧ s.takes HULL_CTRL ∧ s.flag HULL_CTRL_Enable = false ∧ s.hullCheck = false) ∧
    (∃ (s : State) (st : Nat), st < 4 ∧ s.takes (HULL_SCTRL st) ∧ s.flag (HULL_SCTRL_Enable st) = false ∧ s.streamCheck st = true) ∧
    (∃ (s : State) (st : Nat), st < 4 ∧ s.takes (HULL_SCTRL st) ∧ s.flag (HULL_SCTRL_Enable st) = false ∧ s.streamCheck st = false) :=
  ⟨⟨poke [(HULL_OWN_Valid 0, 1), (HULL_CFG_DepthLog2, 1), (HULL_TXCFG_GroupsPerFrame, 1)] runS, 3, by unfold State.takes; decide +kernel⟩,
    ⟨poke [(FCH_CTRL_Enable 0, 1), (HULL_ENGPATH_Count 0, 3)] runS, 3, by unfold State.takes; decide +kernel⟩,
    ⟨poke [(HULL_CFG_DepthLog2, 1), (HULL_ST_TMinus1 3, 15), (HULL_SREGION_Size 3, 1)] runS, 3, by unfold State.takes; decide +kernel⟩,
    ⟨poke [(HULL_ST_TMinus1 3, 4095)] runS, 3, by unfold State.takes; decide +kernel⟩⟩

theorem witness_spectrumFramesCross :
    (∃ (s : State) (e : Nat) (f : EngFrame) (fs : List EngFrame), e < 16 ∧ s.xIsHeld 3 e = false ∧ s.hbmHeld = false ∧ s.unitInReset e = false ∧ s.unitInReset 16 = false ∧ s.hull.tagq = [] ∧ tget [] s.fch.pend e = f :: fs ∧ s.frameComplete e f.j fs.length = true ∧ s.hullOn = false) ∧
    (∃ (s : State) (e : Nat) (f : EngFrame) (fs : List EngFrame), e < 16 ∧ s.xIsHeld 3 e = false ∧ s.hbmHeld = false ∧ s.unitInReset e = false ∧ s.unitInReset 16 = false ∧ s.hull.tagq = [] ∧ tget [] s.fch.pend e = f :: fs ∧ s.frameComplete e f.j fs.length = true ∧ s.hullOn = true) :=
  ⟨⟨{ runS with fch := { runS.fch with pend := [(0, [⟨4, [⟨0, [(1, 2)], false⟩]⟩])] } }, 0, (⟨4, [⟨0, [(1, 2)], false⟩]⟩ : EngFrame), ([] : List EngFrame), by decide +kernel⟩,
    ⟨let s := poke [(HULL_CTRL_Enable, 1), (FCH_CHSEL_Last 0, 7), (FCH_PSRC_Enable 0 0, 1), (HULL_OWN_Valid 0, 1), (HULL_OWN_Valid 1, 1), (HULL_OWN_OwnerNode 0, 1), (HULL_OWN_OwnerNode 1, 1), (HULL_TXCFG_GroupsPerFrame, 1), (HULL_ENGPATH_Count 0, 1)] fabS; { s with fch := { s.fch with pend := [(0, [(⟨4, [⟨0, [(1, 2), (3, -4), (5, 6), (7, 8), (-9, 1), (2, 3), (4, 5), (6, 7)], false⟩]⟩ : EngFrame)])] } }, 0, (⟨4, [⟨0, [(1, 2), (3, -4), (5, 6), (7, 8), (-9, 1), (2, 3), (4, 5), (6, 7)], false⟩]⟩ : EngFrame), ([] : List EngFrame), by decide +kernel⟩⟩

theorem witness_hullTracks :
    (∃ (s : State) (e : _) (x : _) (xs : _), s.hull.tagq = (e, x) :: xs ∧ s.xIsHeld 3 e = false ∧ s.unitInReset 16 = false) ∧
    (∃ (s : State) (i : Nat) (tb : Nat) (l : _), i < 256 ∧ tb < 2 ^ 44 ∧ s.hull.lfi = some l ∧ s.hullOn = true ∧ s.unitInReset 16 = false ∧ s.srcValid i = true ∧ (s.trackOf i tb).closed = false ∧ 0 ≤ idxDiff l (idxAdd (16 * (tb + 1)) (s.fget HULL_SLACK_Frames))) ∧
    (∃ (s : State) (i : Nat) (tb : Nat) (l : _), i < 256 ∧ tb < 2 ^ 44 ∧ s.hull.lfi = some l ∧ s.hullOn = true ∧ s.unitInReset 16 = false ∧ s.srcValid i = true ∧ (s.trackOf i tb).closed = false ∧ idxDiff l (idxAdd (16 * (tb + 1)) (s.fget HULL_SLACK_Frames)) < 0) :=
  ⟨⟨{ runS with hull := { runS.hull with tagq := [(0, 65537), (1, 5)] } }, 0, 65537, [(1, 5)], by decide +kernel⟩,
    ⟨{ hullS 0 7 with hull := { (hullS 0 7).hull with lfi := some 100 } }, 2, 0, 100, by decide +kernel⟩,
    ⟨{ hullS 0 7 with hull := { (hullS 0 7).hull with lfi := some 3 } }, 2, 0, 3, by decide +kernel⟩⟩

theorem witness_hullTakesData :
    (∃ (s : State) (f : Inbound) (fs : List Inbound) (p : List Byte) (count : Nat) (gn : Nat) (run : Nat) (first : Nat) (g0 : Nat) (j : Nat), s.hull.inq = f :: fs ∧ s.unitInReset 16 = false ∧ s.hbmHeld = false ∧ p = f.payload ∧ count = beAt p 8 2 % 16 + 1 ∧ gn = byteAt p 12 ∧ run = count * 4 * fmtBytes s.hullFormat ∧ first = beAt p 8 2 / 16 ∧ g0 = beAt p 10 2 ∧ j = beAt p 2 6 ∧ s.hullOn = false ∨ byteAt p 0 / 16 ≠ 1 ∨ byteAt p 0 / 4 % 4 ≠ s.hullFormat ∨ gn = 0 ∨ 31 < gn ∨ p.length ≠ 16 + gn * run ∨ 4096 < p.length ∨ s.srcOf f.node (byteAt p 1 / 16) = none ∨ s.hullPaths < first + count ∨ g0 < s.ownFirst ∨ s.ownFirst + s.ownCount < g0 + gn) ∧
    (∃ (s : State) (f : Inbound) (fs : List Inbound) (p : List Byte) (i : Nat) (count : Nat) (gn : Nat) (run : Nat) (first : Nat) (g0 : Nat) (j : Nat), s.hull.inq = f :: fs ∧ s.unitInReset 16 = false ∧ s.hbmHeld = false ∧ p = f.payload ∧ count = beAt p 8 2 % 16 + 1 ∧ gn = byteAt p 12 ∧ run = count * 4 * fmtBytes s.hullFormat ∧ first = beAt p 8 2 / 16 ∧ g0 = beAt p 10 2 ∧ j = beAt p 2 6 ∧ s.hullOn = true ∧ byteAt p 0 / 16 = 1 ∧ byteAt p 0 / 4 % 4 = s.hullFormat ∧ 0 < gn ∧ gn ≤ 31 ∧ p.length = 16 + gn * run ∧ p.length ≤ 4096 ∧ s.srcOf f.node (byteAt p 1 / 16) = some i ∧ first + count ≤ s.hullPaths ∧ s.ownFirst ≤ g0 ∧ g0 + gn ≤ s.ownFirst + s.ownCount ∧ s.hull.tag ≠ some (beAt p 14 2)) ∧
    (∃ (s : State) (f : Inbound) (fs : List Inbound) (p : List Byte) (i : Nat) (count : Nat) (gn : Nat) (run : Nat) (first : Nat) (g0 : Nat) (j : Nat) (pos : Nat) (k : Track), s.hull.inq = f :: fs ∧ s.unitInReset 16 = false ∧ s.hbmHeld = false ∧ p = f.payload ∧ count = beAt p 8 2 % 16 + 1 ∧ gn = byteAt p 12 ∧ run = count * 4 * fmtBytes s.hullFormat ∧ first = beAt p 8 2 / 16 ∧ g0 = beAt p 10 2 ∧ j = beAt p 2 6 ∧ s.hullOn = true ∧ byteAt p 0 / 16 = 1 ∧ byteAt p 0 / 4 % 4 = s.hullFormat ∧ 0 < gn ∧ gn ≤ 31 ∧ p.length = 16 + gn * run ∧ p.length ≤ 4096 ∧ s.srcOf f.node (byteAt p 1 / 16) = some i ∧ first + count ≤ s.hullPaths ∧ s.ownFirst ≤ g0 ∧ g0 + gn ≤ s.ownFirst + s.ownCount ∧ s.hull.tag = some (beAt p 14 2) ∧ pos = j % 16 * s.ownCount + (g0 - s.ownFirst) ∧ k = s.trackOf i (j / 16) ∧ k.closed = false ∧ k.next ≤ pos ∧ s.ringBusy (j / 16) = false) :=
  ⟨⟨hullS 77 7, dataF 77, ([] : List Inbound), (dataF 77).payload, 1, 1, 8, 0, 0, 3, by decide +kernel⟩,
    ⟨hullS runS.node 8, dataF runS.node, ([] : List Inbound), (dataF runS.node).payload, 2, 1, 1, 8, 0, 0, 3, by decide +kernel⟩,
    ⟨hullS runS.node 7, dataF runS.node, ([] : List Inbound), (dataF runS.node).payload, 2, 1, 1, 8, 0, 0, 3, 3, Track.fresh, by decide +kernel⟩⟩

theorem witness_staging :
    (∃ (s : State) (st : Nat), st < 4 ∧ s.hullOn = true ∧ s.hull.staging = none ∧ s.unitInReset 17 = false ∧ s.hbmHeld = false ∧ s.xIsHeld 5 0 = false ∧ s.streamReady st = true ∧ (∀ d < st, s.streamReady d = false)) ∧
    (∃ (s : State) (st : Nat) (pg : PassGroup), st < 4 ∧ s.isRun = true ∧ s.hull.staging = some (pg, false) ∧ pg.st = st) :=
  ⟨⟨poke [(HULL_CTRL_Enable, 1)] ctxS, 0, by decide +kernel⟩,
    ⟨{ ctxS with hull := { ctxS.hull with staging := some (⟨0, 0, 5, 1, 3, false, true, false, 6⟩, false) } }, 0, (⟨0, 0, 5, 1, 3, false, true, false, 6⟩ : PassGroup), by decide +kernel⟩⟩

theorem witness_timeAdvances :
    (∃ (s : State) (now : Nat), s.awake = true ∧ s.mtxIdle ∧ now = (s.time + s.timeInc) % 2 ^ 128 ∧ now / 2 ^ 80 = s.time / 2 ^ 80) :=
  ⟨{ runS with tim := { runS.tim with queue := [⟨1024, 0, 7, 5, true⟩, ⟨1, 2 ^ 70, 7, 5, false⟩] } }, (({ runS with tim := { runS.tim with queue := [⟨1024, 0, 7, 5, true⟩, ⟨1, 2 ^ 70, 7, 5, false⟩] } }).time + ({ runS with tim := { runS.tim with queue := [⟨1024, 0, 7, 5, true⟩, ⟨1, 2 ^ 70, 7, 5, false⟩] } }).timeInc) % 2 ^ 128, by unfold State.mtxIdle; decide +kernel⟩

theorem witness_secondBoundaries :
    (∃ (s : State) (now : Nat), s.awake = true ∧ s.mtxIdle ∧ s.timeInc ≠ 0 ∧ now = (s.time + s.timeInc) % 2 ^ 128 ∧ now / 2 ^ 80 ≠ s.time / 2 ^ 80 ∧ s.tim.pendSet = none ∧ s.tim.pendStep = none) ∧
    (∃ (s : State) (now : Nat) (v : _), s.awake = true ∧ s.mtxIdle ∧ s.timeInc ≠ 0 ∧ now = (s.time + s.timeInc) % 2 ^ 128 ∧ now / 2 ^ 80 ≠ s.time / 2 ^ 80 ∧ s.tim.pendSet = some v ∧ s.tim.pendStep = none) ∧
    (∃ (s : State) (now : Nat) (v : _), s.awake = true ∧ s.mtxIdle ∧ s.timeInc ≠ 0 ∧ now = (s.time + s.timeInc) % 2 ^ 128 ∧ now / 2 ^ 80 ≠ s.time / 2 ^ 80 ∧ s.tim.pendSet = none ∧ s.tim.pendStep = some v) ∧
    (∃ (s : State) (now : Nat) (u : _) (v : _), s.awake = true ∧ s.mtxIdle ∧ s.timeInc ≠ 0 ∧ now = (s.time + s.timeInc) % 2 ^ 128 ∧ now / 2 ^ 80 ≠ s.time / 2 ^ 80 ∧ s.tim.pendSet = some u ∧ s.tim.pendStep = some v) ∧
    (∃ (s : State) (now : Nat), s.awake = true ∧ s.mtxIdle ∧ s.timeInc ≠ 0 ∧ now = (s.time + s.timeInc) % 2 ^ 128 ∧ now / 2 ^ 80 ≠ s.time / 2 ^ 80 ∧ s.tim.pendCap = true ∧ s.flag CAL_STATUS_OscFail = false) ∧
    (∃ (s : State) (now : Nat), s.awake = true ∧ s.mtxIdle ∧ s.timeInc ≠ 0 ∧ now = (s.time + s.timeInc) % 2 ^ 128 ∧ now / 2 ^ 80 ≠ s.time / 2 ^ 80 ∧ s.tim.pendSet = none ∧ s.tim.pendStep = none ∧ now % 2 ^ 80 < s.timeInc ∧ s.flag TMB_OUTCFG_PpsEn = true ∧ s.pinsAway = false) :=
  ⟨⟨secS id, ((secS id).time + (secS id).timeInc) % 2 ^ 128, by unfold State.mtxIdle; decide +kernel⟩,
    ⟨secS fun x => { x with pendSet := some 7 }, ((secS fun x => { x with pendSet := some 7 }).time + (secS fun x => { x with pendSet := some 7 }).timeInc) % 2 ^ 128, 7, by unfold State.mtxIdle; decide +kernel⟩,
    ⟨secS fun x => { x with pendStep := some (-3) }, ((secS fun x => { x with pendStep := some (-3) }).time + (secS fun x => { x with pendStep := some (-3) }).timeInc) % 2 ^ 128, (-3 : Int), by unfold State.mtxIdle; decide +kernel⟩,
    ⟨secS fun x => { x with pendSet := some 9, pendStep := some (-3) }, ((secS fun x => { x with pendSet := some 9, pendStep := some (-3) }).time + (secS fun x => { x with pendSet := some 9, pendStep := some (-3) }).timeInc) % 2 ^ 128, 9, (-3 : Int), by unfold State.mtxIdle; decide +kernel⟩,
    ⟨secS fun x => { x with pendCap := true, calDiv := 77 }, ((secS fun x => { x with pendCap := true, calDiv := 77 }).time + (secS fun x => { x with pendCap := true, calDiv := 77 }).timeInc) % 2 ^ 128, by unfold State.mtxIdle; decide +kernel⟩,
    ⟨poke [(TMB_OUTCFG_PpsEn, 1)] (secS id), ((poke [(TMB_OUTCFG_PpsEn, 1)] (secS id)).time + (poke [(TMB_OUTCFG_PpsEn, 1)] (secS id)).timeInc) % 2 ^ 128, by unfold State.mtxIdle; decide +kernel⟩⟩

theorem witness_timeCommands :
    (∃ (s : State) (a : Nat), s.takes TMB_CMD ∧ s.takes CAL_CMD ∧ commitLows a ≠ [] ∧ s.takes a) :=
  ⟨{ runS with tim := { runS.tim with held := [(TMB_INCR, some 7)] } }, TMB_INCRF, by unfold State.takes; decide +kernel⟩

theorem witness_calendarRuns :
    (∃ (s : State), s.flag CAL_STATUS_OscFail = false) ∧
    (∃ (s : State), s.flag CAL_STATUS_OscFail = true) ∧
    (∃ (s : State), s.pwr.fromVbat = true) ∧
    (∃ (s : State), s.pwr.fromVbat = false) :=
  ⟨⟨runS, by decide +kernel⟩,
    ⟨poke [(CAL_STATUS_OscFail, 1)] runS, by decide +kernel⟩,
    ⟨{ State.reset with pwr := { State.reset.pwr with fromVbat := true } }, by decide +kernel⟩,
    ⟨runS, by decide +kernel⟩⟩

theorem witness_referenceStates :
    (∃ (s : State) (i : Nat), i < 7 ∧ s.awake = true ∧ s.refRank i ≠ 0) ∧
    (∃ (s : State) (i : Nat), i < 7 ∧ s.awake = true ∧ s.refState i = 4) ∧
    (∃ (s : State) (i : Nat), i < 7 ∧ s.awake = true ∧ s.takes TMB_CMD) ∧
    (∃ (s : State) (i : Nat) (m : _), i < 7 ∧ s.awake = true ∧ m < 2 ∧ tget [] s.tim.stamps m = []) ∧
    (∃ (s : State) (i : Nat) (m : _) (x : _) (p : _) (ps : _), i < 7 ∧ s.awake = true ∧ m < 2 ∧ tget [] s.tim.stamps m = p :: ps ∧ ppsInWindow p x = true ∧ ps.length < 14) ∧
    (∃ (s : State) (i : Nat) (m : _) (x : _) (p : _) (ps : _), i < 7 ∧ s.awake = true ∧ m < 2 ∧ tget [] s.tim.stamps m = p :: ps ∧ ppsInWindow p x = false ∧ s.refRank (4 + m) ≠ 0) ∧
    (∃ (s : State) (i : Nat), i < 7 ∧ s.awake = true ∧ s.refRank i ≠ 0 ∧ i ≠ 4 ∧ i ≠ 5 ∧ (i = 6 → s.fabInLos = false) ∧ s.refState i = 1) ∧
    (∃ (s : State) (i : Nat), i < 7 ∧ s.awake = true ∧ s.refRank i ≠ 0 ∧ i ≠ 4 ∧ i ≠ 5 ∧ (i = 6 → s.fabInLos = false) ∧ s.refState i ≠ 1) :=
  ⟨⟨refS, 1, by decide +kernel⟩,
    ⟨poke [(TMB_REFSTAT_State 1, 4)] refS, 1, by decide +kernel⟩,
    ⟨poke [(TMB_REFSTAT_State 1, 4)] refS, 1, by unfold State.takes; decide +kernel⟩,
    ⟨refS, 1, 0, by decide +kernel⟩,
    ⟨{ poke [(TMB_REFSTAT_State 4, 1)] refS with tim := { refS.tim with stamps := [(0, [10])] } }, 1, 0, 8 * 10 ^ 9, 10, [], by decide +kernel⟩,
    ⟨{ refS with tim := { refS.tim with stamps := [(0, [10])] } }, 1, 0, 9 * 10 ^ 9, 10, [], by decide +kernel⟩,
    ⟨poke [(TMB_REFSTAT_State 1, 1)] refS, 1, by decide +kernel⟩,
    ⟨poke [(TMB_STATUS_State, 2)] refS, 1, by decide +kernel⟩⟩

theorem witness_referenceSelection :
    (∃ (s : State) (i : Nat), i < 7 ∧ s.awake = true ∧ s.mtxIdle ∧ s.fabInLos = true ∧ s.refRank 6 ≠ 0) ∧
    (∃ (s : State) (i : Nat), i < 7 ∧ s.awake = true ∧ s.mtxIdle ∧ i ≠ 6 ∧ s.refRank i ≠ 0 ∧ s.refState i = 5 ∧ s.offLimit i = true) ∧
    (∃ (s : State) (i : Nat), i < 7 ∧ s.awake = true ∧ s.mtxIdle ∧ s.flag TMB_SEL_Force = false ∧ s.flag TMB_SEL_Revertive = true ∧ (∀ a < 7, ∀ b < 7, s.refDisagree a b = false)) :=
  ⟨⟨poke [(TMB_REFCFG_Rank 6, 3), (TMB_REFSTAT_State 6, 5)] refS, 1, by unfold State.mtxIdle; decide +kernel⟩,
    ⟨{ poke [(TMB_STATUS_State, 2)] refS with tim := { refS.tim with offset := [(1, 501)] } }, 1, by unfold State.mtxIdle; decide +kernel⟩,
    ⟨refS, 1, by unfold State.mtxIdle; decide +kernel⟩⟩

theorem witness_loopStates :
    (∃ (s : State) (i : Nat), i < 7 ∧ s.awake = true ∧ s.mtxIdle ∧ s.flag TMB_SEL_Force = true ∧ s.forceInput = i ∧ s.refState i = 5 ∧ s.offLimit i = false ∧ s.tim.drift = none ∧ (s.selected = i → s.driftBeyond s.tim.driftAcc = false) ∧ (i = 6 → s.fabInLos = false) ∧ s.loopState = 0) ∧
    (∃ (s : State) (i : Nat), i < 7 ∧ s.awake = true ∧ s.mtxIdle ∧ s.flag TMB_SEL_Force = true ∧ s.forceInput = i ∧ s.refState i = 5 ∧ s.offLimit i = false ∧ s.tim.drift = none ∧ (s.selected = i → s.driftBeyond s.tim.driftAcc = false) ∧ (i = 6 → s.fabInLos = false) ∧ s.loopState = 1 ∧ s.selected = i ∧ 10 ≤ s.tim.lockCount) ∧
    (∃ (s : State) (i : Nat), i < 7 ∧ s.awake = true ∧ s.selected = i ∧ s.refRank i ≠ 0 ∧ i ≠ 4 ∧ i ≠ 5 ∧ (i = 6 → s.fabInLos = false) ∧ s.refState i = 5 ∧ s.loopState = 1) ∧
    (∃ (s : State) (i : Nat), i < 7 ∧ s.awake = true ∧ s.selected = i) ∧
    (∃ (s : State) (i : Nat) (e : Int), i < 7 ∧ s.awake = true ∧ s.mtxIdle ∧ s.selected = i ∧ s.refState i = 5 ∧ (i = 6 → s.fabInLos = false) ∧ s.tim.drift = some e ∧ s.flag TMB_STATUS_HistoryValid = true ∧ s.fget TMB_DRIFT_PhaseLimitPs < e.natAbs) ∧
    (∃ (s : State) (i : Nat), i < 7 ∧ s.awake = true ∧ s.mtxIdle ∧ s.selected = i ∧ s.refState i = 5 ∧ (i = 6 → s.fabInLos = false) ∧ s.tim.drift = none ∧ s.flag TMB_STATUS_HistoryValid = true ∧ s.fget TMB_DRIFT_PhaseLimitPs < s.tim.driftAcc.natAbs) ∧
    (∃ (s : State) (i : Nat), i < 7 ∧ s.awake = true ∧ s.loopState = 3 ∧ s.fget TMB_HOLD_LimitSec ≠ 0) :=
  ⟨⟨poke [(TMB_SEL_Force, 1), (TMB_SEL_ForceInput, 1)] refS, 1, by unfold State.mtxIdle; decide +kernel⟩,
    ⟨let s := poke [(TMB_SEL_Force, 1), (TMB_SEL_ForceInput, 1), (TMB_STATUS_State, 1)] refS; { s with tim := { s.tim with lockCount := 10 } }, 1, by unfold State.mtxIdle; decide +kernel⟩,
    ⟨poke [(TMB_STATUS_State, 1)] refS, 1, by decide +kernel⟩,
    ⟨refS, 1, by decide +kernel⟩,
    ⟨let s := poke [(TMB_DRIFT_PhaseLimitPs, 5000), (TMB_STATUS_HistoryValid, 1)] refS; { s with tim := { s.tim with drift := some 5001 } }, 1, (5001 : Int), by unfold State.mtxIdle; decide +kernel⟩,
    ⟨let s := poke [(TMB_DRIFT_PhaseLimitPs, 5000), (TMB_STATUS_HistoryValid, 1)] refS; { s with tim := { s.tim with driftAcc := -5001 } }, 1, by unfold State.mtxIdle; decide +kernel⟩,
    ⟨poke [(TMB_STATUS_State, 3), (TMB_HOLD_LimitSec, 1)] refS, 1, by decide +kernel⟩⟩

theorem witness_stampsAndSpans :
    (∃ (s : State) (l : Nat), l < 96 ∧ s.awake = true ∧ s.takes (TMB_TXTS_FR l)) ∧
    (∃ (s : State) (l : Nat), l < 96 ∧ s.awake = true ∧ (∀ x ∈ s.erl.spans, x.cause ≠ 0)) :=
  ⟨⟨{ runS with tim := { runS.tim with txts := [(95, [(3, 2 ^ 40), (4, 5)])] } }, 95, by unfold State.takes; decide +kernel⟩,
    ⟨{ runS with time := 2 ^ 90, erl := { runS.erl with spans := [⟨1, 65536, 3⟩] } }, 95, by decide +kernel⟩⟩

theorem witness_scheduledActions :
    (∃ (s : State) (v : Word), s.takes SCH_INSERT ∧ s.takes SCH_CANCEL ∧ s.takes SCH_DONE ∧ (SCH_INSERT_Type.of v = 0 ∨ 7 < SCH_INSERT_Type.of v)) ∧
    (∃ (s : State) (v : Word), s.takes SCH_INSERT ∧ s.takes SCH_CANCEL ∧ s.takes SCH_DONE ∧ 1 ≤ SCH_INSERT_Type.of v ∧ SCH_INSERT_Type.of v ≤ 7 ∧ s.schDue * 2 ^ 48 ≤ s.time ∧ SCH_INSERT_Asap.of v = 0) ∧
    (∃ (s : State) (v : Word) (e : _), s.takes SCH_INSERT ∧ s.takes SCH_CANCEL ∧ s.takes SCH_DONE ∧ 1 ≤ SCH_INSERT_Type.of v ∧ SCH_INSERT_Type.of v ≤ 7 ∧ (s.time < s.schDue * 2 ^ 48 ∨ SCH_INSERT_Asap.of v ≠ 0) ∧ e < 1024 ∧ s.schUsed e = false ∧ (∀ d < e, s.schUsed d = true)) ∧
    (∃ (s : State) (v : Word), s.takes SCH_INSERT ∧ s.takes SCH_CANCEL ∧ s.takes SCH_DONE ∧ 1 ≤ SCH_INSERT_Type.of v ∧ SCH_INSERT_Type.of v ≤ 7 ∧ (s.time < s.schDue * 2 ^ 48 ∨ SCH_INSERT_Asap.of v ≠ 0) ∧ (∀ e < 1024, s.schUsed e = true)) :=
  ⟨⟨runS, 0x00000000, by unfold State.takes; decide +kernel⟩,
    ⟨runS, 0x70000005, by unfold State.takes; decide +kernel⟩,
    ⟨runS, 0x78000005, 0, by unfold State.takes; decide +kernel⟩,
    ⟨fullQ, 0x78000005, by (try unfold State.takes); decide +kernel, by (try unfold State.takes); decide +kernel, by (try unfold State.takes); decide +kernel, by (try unfold State.takes); decide +kernel, by (try unfold State.takes); decide +kernel, by (try unfold State.takes); decide +kernel, fullQ_used⟩⟩

theorem witness_actionsRun :
    (∃ (s : State) (a : SchAct) (st : Nat) (rest : List (SchAct × Nat)), s.tim.due = (a, st) :: rest ∧ s.ctxFifoFull a.ty = true) ∧
    (∃ (s : State) (a : SchAct) (st : Nat) (rest : List (SchAct × Nat)), s.tim.due = (a, st) :: rest ∧ s.ctxFifoFull a.ty = false ∧ s.tim.done.length < 64) ∧
    (∃ (s : State), s.flag TMB_OUTCFG_SyncPinEn = true ∧ s.tim.syncTick ≠ s.pmcLive 4 + 1 ∧ 2 ≤ s.pwrState ∧ s.xIsHeld 10 0 = false ∧ tget 0 s.mtx.pulse 0 = 0) ∧
    (∃ (s : State), s.flag TMB_OUTCFG_SyncPinEn = false) :=
  ⟨⟨{ runS with tim := { runS.tim with due := [(⟨5, 0, 2, 9, true⟩, 1)] }, ctxs := { runS.ctxs with queue := (List.range 16).map fun c => ⟨true, true, c⟩ } }, ⟨5, 0, 2, 9, true⟩, 1, [], by decide +kernel⟩,
    ⟨{ runS with tim := { runS.tim with due := [(⟨5, 0, 7, 4097, true⟩, 1)] } }, ⟨5, 0, 7, 4097, true⟩, 1, [], by decide +kernel⟩,
    ⟨poke [(TMB_OUTCFG_SyncPinEn, 1)] runS, by decide +kernel⟩,
    ⟨runS, by decide +kernel⟩⟩

theorem witness_timeExchange :
    (∃ (s : State), s.ftOn = true ∧ s.ftMaster = true) ∧
    (∃ (s : State) (m : TimeMsg) (rest : List TimeMsg), s.tim.timeq = m :: rest ∧ tmMsg m.payload = 0 ∧ s.ftOn = true ∧ s.hearsBetter (tmKey m.payload) = false ∧ (s.timeRank = 0 ∨ keyLess s.timeKey (tmKey m.payload) = false) ∧ s.route (tmKey m.payload).2.2 0 s.node 2 false ≠ none) ∧
    (∃ (s : State) (m : TimeMsg) (rest : List TimeMsg), s.tim.timeq = m :: rest ∧ tmMsg m.payload = 0 ∧ s.ftOn = true ∧ s.ftMaster = false ∧ s.timeRank ≠ 0 ∧ s.hearsBetter (tmKey m.payload) = false ∧ keyLess s.timeKey (tmKey m.payload) = true) ∧
    (∃ (s : State) (m : TimeMsg) (rest : List TimeMsg), s.tim.timeq = m :: rest ∧ tmMsg m.payload = 0 ∧ s.hearsBetter (tmKey m.payload) = true) ∧
    (∃ (s : State) (m : TimeMsg) (rest : List TimeMsg) (x : Exch) (t3 : _) (t4 : Nat) (c : _), s.tim.timeq = m :: rest ∧ tmMsg m.payload = 1 ∧ s.tim.exch = [x] ∧ x.seq = tmSeq m.payload ∧ x.master = tmMaster m.payload ∧ x.t3 = some t3 ∧ x.t4 = some (t4, c) ∧ s.tim.results = []) ∧
    (∃ (s : State) (m : TimeMsg) (rest : List TimeMsg) (x : Exch) (t1 : _) (t3 : _), s.tim.timeq = m :: rest ∧ tmMsg m.payload = 3 ∧ s.tim.exch = [x] ∧ x.seq = tmSeq m.payload ∧ x.master = tmMaster m.payload ∧ x.t1 = some t1 ∧ x.t3 = some t3 ∧ s.tim.results = []) ∧
    (∃ (s : State) (m : TimeMsg) (rest : List TimeMsg), s.tim.timeq = m :: rest ∧ tmMsg m.payload = 2 ∧ s.ftOn = true ∧ s.ftMaster = true ∧ tmMaster m.payload = s.node ∧ s.route (tmReq m.payload) 0 s.node 2 false ≠ none) ∧
    (∃ (s : State) (x : Exch) (xs : List Exch), s.tim.exch = x :: xs ∧ (s.exchHas x 1 x.t1.isSome && s.exchHas x 3 x.t4.isSome) = false) ∧
    (∃ (s : State) (x : Exch) (xs : List Exch), s.tim.exch = x :: xs ∧ (s.exchHas x 1 x.t1.isSome && s.exchHas x 3 x.t4.isSome) = true) ∧
    (∃ (s : State), s.ftOn = true ∧ s.ftMaster = false ∧ s.timeRank ≠ 0) ∧
    (∃ (s : State), s.ftOn = true ∧ s.ftMaster = false ∧ s.timeRank = 0) :=
  ⟨⟨poke [(TMB_FTSTAT_IsMaster, 1)] ftS, by decide +kernel⟩,
    ⟨poke [(TMB_FTCFG_TimeRank, 0)] (timeS timeM1 []), timeM1, [], by decide +kernel⟩,
    ⟨timeS ⟨5000, [0x10, 0xF0, 0, 7, 0, 3] ++ List.replicate 26 0⟩ [], ⟨5000, [0x10, 0xF0, 0, 7, 0, 3] ++ List.replicate 26 0⟩, [], by decide +kernel⟩,
    ⟨let s := timeS ⟨5000, [0x10, 0xF0, 0, 7, 0, 3] ++ List.replicate 26 0⟩ []; { s with tim := { s.tim with heard := some (1, 0, 2) } }, ⟨5000, [0x10, 0xF0, 0, 7, 0, 3] ++ List.replicate 26 0⟩, [], by decide +kernel⟩,
    ⟨timeS (timeM 1) [⟨7, 3, 6000, 2, none, some 6500, some (7000, 5)⟩], timeM 1, [], ⟨7, 3, 6000, 2, none, some 6500, some (7000, 5)⟩, 6500, (7000 : Nat), (5 : Int), by decide +kernel⟩,
    ⟨timeS (timeM 3) [⟨7, 3, 6000, 2, some 5500, some 6500, none⟩], timeM 3, [], ⟨7, 3, 6000, 2, some 5500, some 6500, none⟩, 5500, 6500, by decide +kernel⟩,
    ⟨poke [(TMB_FTSTAT_IsMaster, 1)] (timeS ⟨5000, ftS.timePayload 2 7 ftS.node 1 4000 12⟩ []), ⟨5000, ftS.timePayload 2 7 ftS.node 1 4000 12⟩, [], by decide +kernel⟩,
    ⟨timeS (timeM 0) [⟨7, 3, 6000, 2, none, none, none⟩], ⟨7, 3, 6000, 2, none, none, none⟩, [], by decide +kernel⟩,
    ⟨timeS (timeM 0) [⟨7, 3, 6000, 2, some 5, none, some (7, 0)⟩], ⟨7, 3, 6000, 2, some 5, none, some (7, 0)⟩, [], by decide +kernel⟩,
    ⟨ftS, by decide +kernel⟩,
    ⟨poke [(TMB_FTCFG_TimeRank, 0)] ftS, by decide +kernel⟩⟩

theorem witness_lanesStart :
    (∃ (s : State) (l : Nat), l < 96 ∧ s.takes (LN_CFG l) ∧ s.mclk = true ∧ s.flag (LN_CFG_Enable l) = false ∧ s.lnMode l ≠ 3) ∧
    (∃ (s : State) (l : Nat), l < 96 ∧ s.takes (LN_CFG l) ∧ s.mclk = true ∧ s.flag (LN_CFG_Enable l) = false ∧ s.lnMode l = 3 ∧ s.ethClash l = false) ∧
    (∃ (s : State) (l : Nat), l < 96 ∧ s.takes (LN_CFG l) ∧ s.flag (LN_CFG_Enable l) = false ∧ s.lnMode l = 3 ∧ s.ethClash l = true) ∧
    (∃ (s : State) (l : Nat), l < 96 ∧ s.takes (LN_CMD l) ∧ s.mclk = true ∧ s.flag (LN_CFG_Enable l) = true ∧ s.lnMode l ≤ 2) ∧
    (∃ (s : State) (l : Nat), l < 96 ∧ (s.lrun l).phase = .capab ∧ (s.lrun l).capabRx = false) ∧
    (∃ (s : State) (l : Nat), l < 96 ∧ (s.lrun l).phase = .relock) :=
  ⟨⟨poke [(LN_CFG_Mode 5, 2)] runS, 5, by unfold State.takes; decide +kernel⟩,
    ⟨poke [(LN_CFG_Mode 5, 3)] runS, 5, by unfold State.takes; decide +kernel⟩,
    ⟨poke [(LN_CFG_Mode 5, 3), (LN_CFG_Mode 6, 3), (LN_CFG_Enable 6, 1)] runS, 5, by unfold State.takes; decide +kernel⟩,
    ⟨laneS 2 2 (runR .top), 5, by unfold State.takes; decide +kernel⟩,
    ⟨laneS 2 1 { runR .capab with capabTx := true }, 5, by decide +kernel⟩,
    ⟨laneS 2 1 (runR .relock), 5, by decide +kernel⟩⟩

theorem witness_laneCapabilities :
    (∃ (s : State) (l : Nat) (r : LaneRun), l < 96 ∧ r = s.lrun l ∧ r.phase = .capab ∧ r.capabTx = false ∧ r.capabRx = false ∧ s.pinsAway = false) ∧
    (∃ (s : State) (l : Nat) (r : LaneRun) (c : _), l < 96 ∧ r = s.lrun l ∧ r.phase = .capab ∧ r.capabTx = false ∧ r.capabRx = true ∧ c = (if s.flag (LN_CFG_LegacyOnly l) = true ∨ s.fget (LN_STATUS_PeerClass l) = 0 ∨ r.native = false then min (min (s.lnMax l) (s.fget (LN_PEER_MaxStep l))) 2 else min (s.lnMax l) (s.fget (LN_PEER_MaxStep l)))) ∧
    (∃ (s : State) (l : Nat) (r : LaneRun) (msg : _) (b : _), l < 96 ∧ r = s.lrun l ∧ r.phase = .capab ∧ msg.length = 7 ∧ byteAt msg 0 = 0 ∧ b = byteAt msg 1 ∧ s.sprout = false) :=
  ⟨⟨laneS 2 1 (runR .capab), 5, runR .capab, by decide +kernel⟩,
    ⟨poke [(LN_CFG_MaxStep 5, 4), (LN_PEER_MaxStep 5, 3), (LN_STATUS_PeerClass 5, 1)] (laneS 2 1 { runR .capab with capabRx := true }), 5, { runR .capab with capabRx := true }, 2, by decide +kernel⟩,
    ⟨laneS 2 1 (runR .capab), 5, runR .capab, [0, 60, 9, 1, 2, 3, 4], 60, by decide +kernel⟩⟩

theorem witness_laneSteps :
    (∃ (s : State) (l : Nat) (r : LaneRun) (n : _), l < 96 ∧ r = s.lrun l ∧ n < 8 ∧ s.lnState l = 1) ∧
    (∃ (s : State) (l : Nat) (r : LaneRun), l < 96 ∧ r = s.lrun l ∧ r.phase = .request ∧ r.reqTx = true ∧ r.reqRx = r.rung + 1 ∧ r.rung < 7) ∧
    (∃ (s : State) (l : Nat) (r : LaneRun), l < 96 ∧ r = s.lrun l ∧ r.phase = .adapt) ∧
    (∃ (s : State) (l : Nat) (r : LaneRun), l < 96 ∧ r = s.lrun l ∧ s.flag (LN_STATUS_Los l) = false ∧ s.flag (LN_STATUS_Lol l) = false ∧ s.pinsAway = false ∧ r.phase = .quiet ∧ r.okRx ≠ r.rung + 2) ∧
    (∃ (s : State) (l : Nat) (r : LaneRun), l < 96 ∧ r = s.lrun l ∧ s.flag (LN_STATUS_Los l) = false ∧ s.flag (LN_STATUS_Lol l) = false ∧ r.phase = .quiet ∧ r.okRx = r.rung + 2) ∧
    (∃ (s : State) (l : Nat) (r : LaneRun), l < 96 ∧ r = s.lrun l ∧ s.lnState l = 1 ∧ r.phase = .confirm ∧ r.rung < 7) ∧
    (∃ (s : State) (l : Nat) (r : LaneRun), l < 96 ∧ r = s.lrun l ∧ s.flag (LN_STATUS_Los l) = false ∧ s.flag (LN_STATUS_Lol l) = false ∧ r.phase = .relockQuiet) :=
  ⟨⟨laneS 2 1 (runR .request), 5, runR .request, 3, by decide +kernel⟩,
    ⟨laneS 2 1 { runR .request with reqTx := true, reqRx := 1 }, 5, { runR .request with reqTx := true, reqRx := 1 }, by decide +kernel⟩,
    ⟨laneS 2 1 (runR .adapt), 5, runR .adapt, by decide +kernel⟩,
    ⟨laneS 2 1 (runR .quiet), 5, runR .quiet, by decide +kernel⟩,
    ⟨laneS 2 1 { runR .quiet with okRx := 2, ceil := 1 }, 5, { runR .quiet with okRx := 2, ceil := 1 }, by decide +kernel⟩,
    ⟨laneS 2 1 { runR .confirm with ceil := 1 }, 5, { runR .confirm with ceil := 1 }, by decide +kernel⟩,
    ⟨laneS 2 1 (runR .relockQuiet), 5, runR .relockQuiet, by decide +kernel⟩⟩

theorem witness_laneStepFailures :
    (∃ (s : State) (l : Nat) (r : LaneRun), l < 96 ∧ r = s.lrun l ∧ r.rung < 8 ∧ r.phase = .adapt ∨ r.phase = .confirm) ∧
    (∃ (s : State) (l : Nat) (r : LaneRun), l < 96 ∧ r = s.lrun l ∧ r.rung < 8 ∧ s.lnState l = 1 ∧ r.phase = .backConfirm ∧ r.fails < 4) ∧
    (∃ (s : State) (l : Nat) (r : LaneRun), l < 96 ∧ r = s.lrun l ∧ r.rung < 8 ∧ s.lnState l = 1 ∧ r.phase = .backConfirm ∧ 4 ≤ r.fails ∧ r.rung ≠ 0) :=
  ⟨⟨laneS 2 1 { runR .adapt with rung := 2, native := !false }, 5, { runR .adapt with rung := 2, native := !false }, by decide +kernel⟩,
    ⟨laneS 2 1 { runR .backConfirm with fails := 3 }, 5, { runR .backConfirm with fails := 3 }, by decide +kernel⟩,
    ⟨laneS 2 1 { runR .backConfirm with fails := 4, rung := 1 }, 5, { runR .backConfirm with fails := 4, rung := 1 }, by decide +kernel⟩⟩

theorem witness_laneLockAndSignal :
    (∃ (s : State) (l : Nat) (r : LaneRun), l < 96 ∧ r = s.lrun l ∧ s.lnRuns l = true ∧ s.lnNative l = true ∧ r.blockLock = true ∧ s.flag (LN_STATUS_Lol l) = false ∧ r.phase ≠ .relockQuiet) ∧
    (∃ (s : State) (l : Nat) (r : LaneRun), l < 96 ∧ r = s.lrun l ∧ s.lnRuns l = true ∧ s.lnNative l = false ∧ r.legacyLock = true ∧ s.flag (LN_STATUS_Lol l) = false ∧ r.phase ≠ .relockQuiet) ∧
    (∃ (s : State) (l : Nat) (r : LaneRun), l < 96 ∧ r = s.lrun l ∧ s.lnState l ≠ 0 ∧ s.flag (LN_STATUS_Lol l) = false ∧ r.phase ≠ .relockQuiet) ∧
    (∃ (s : State) (l : Nat) (r : LaneRun), l < 96 ∧ r = s.lrun l ∧ s.lnState l ≠ 0 ∧ s.flag (LN_STATUS_Los l) = false) :=
  ⟨⟨poke [(LN_STATUS_Native 5, 1)] (laneS 2 2 { runR .top with blockLock := true, legacyLock := true }), 5, { runR .top with blockLock := true, legacyLock := true }, by decide +kernel⟩,
    ⟨laneS 2 2 { runR .top with blockLock := true, legacyLock := true }, 5, { runR .top with blockLock := true, legacyLock := true }, by decide +kernel⟩,
    ⟨poke [(LN_STATUS_Native 5, 1)] (laneS 2 2 { runR .top with blockLock := true, legacyLock := true }), 5, { runR .top with blockLock := true, legacyLock := true }, by decide +kernel⟩,
    ⟨poke [(LN_STATUS_Native 5, 1)] (laneS 2 2 { runR .top with blockLock := true, legacyLock := true }), 5, { runR .top with blockLock := true, legacyLock := true }, by decide +kernel⟩⟩

theorem witness_laneErrorCorrection :
    (∃ (s : State) (l : Nat) (n : Nat) (c : List Nat), l < 96 ∧ s.lnMode l ≤ 2 ∧ s.lnState l ≠ 0 ∧ s.lnNative l = true ∧ 3 ≤ s.lnStep l ∧ c.length = 272 ∧ (∀ x ∈ c, x < 1024) ∧ fecDecode c = some n) ∧
    (∃ (s : State) (l : Nat) (c : List Nat), l < 96 ∧ s.lnMode l ≤ 2 ∧ s.lnState l ≠ 0 ∧ s.lnNative l = true ∧ 3 ≤ s.lnStep l ∧ c.length = 272 ∧ (∀ x ∈ c, x < 1024) ∧ fecDecode c = none) ∧
    (∃ (s : State) (l : Nat) (n : Nat), l < 96 ∧ s.lnMode l = 3 ∧ s.lnState l = 2 ∧ n ≤ 15) ∧
    (∃ (s : State) (l : Nat) (n : Nat), l < 96 ∧ s.lnMode l = 3 ∧ s.lnState l = 2 ∧ 15 < n) :=
  ⟨⟨poke [(LN_STATUS_Native 5, 1), (LN_STATUS_Step 5, 3)] (laneS 2 2 (runR .top)), 5, 7, (List.range 272).map fun i => if i % 40 = 0 then 5 else 0, by decide +kernel⟩,
    ⟨poke [(LN_STATUS_Native 5, 1), (LN_STATUS_Step 5, 3)] (laneS 2 2 { runR .top with uncNow := 3 }), 5, (List.range 272).map fun i => if i % 20 = 0 then 5 else 0, by decide +kernel⟩,
    ⟨laneS 3 2 LaneRun.off, 5, 15, by decide +kernel⟩,
    ⟨laneS 3 2 LaneRun.off, 5, 16, by decide +kernel⟩⟩

theorem witness_laneFrames :
    (∃ (s : State) (l : Nat) (w : Nat) (f : List Byte), l < 96 ∧ s.lnRuns l = true ∧ s.lnUp l = true ∧ s.sprout = false ∧ s.rxFor l = some w ∧ s.rxFull w = false ∧ s.lnNative l = true ∧ s.blockErrored l = false ∧ 7 ≤ f.length) ∧
    (∃ (s : State) (l : Nat) (w : Nat), l < 96 ∧ s.lnRuns l = true ∧ s.lnUp l = true ∧ s.sprout = false ∧ s.rxFor l = some w ∧ s.rxFull w = false ∧ s.lnNative l = false) :=
  ⟨⟨poke [(LN_STATUS_Native 5, 1)] (laneS 2 2 (runR .top)), 5, 5, [1, 2, 3, 4, 5, 6, 7, 8, 9, 10, 11], by decide +kernel⟩,
    ⟨laneS 2 2 (runR .top), 5, 5, by decide +kernel⟩⟩

theorem witness_laneCommas :
    (∃ (s : State) (l : Nat) (r : LaneRun), l < 96 ∧ r = s.lrun l ∧ s.lnRuns l = true ∧ s.lnNative l = true ∧ s.lswap l = none ∧ s.swapOn l = none ∧ s.pinsAway = false) ∧
    (∃ (s : State) (l : Nat) (r : LaneRun) (block : _) (b : _), l < 96 ∧ r = s.lrun l ∧ s.lnRuns l = true ∧ s.lnNative l = true ∧ blockOk true block = true ∧ s.commaBlock l block = some b ∧ byteAt b 1 = 0x1B ∧ ((s.swapOld l).any fun q => q.2.verified) = false) ∧
    (∃ (s : State) (l : Nat) (r : LaneRun) (block : _) (b : _), l < 96 ∧ r = s.lrun l ∧ s.lnRuns l = true ∧ s.lnNative l = true ∧ blockOk true block = true ∧ s.commaBlock l block = some b ∧ byteAt b 1 ≠ 0x1B) ∧
    (∃ (s : State) (l : Nat) (r : LaneRun), l < 96 ∧ r = s.lrun l ∧ s.takes (LN_CMD l) ∧ s.lnUp l = true ∧ s.lnMode l ≤ 2) ∧
    (∃ (s : State) (l : Nat) (r : LaneRun), l < 96 ∧ r = s.lrun l ∧ r.warm = true) :=
  ⟨⟨poke [(LN_STATUS_Native 5, 1), (LN_FECCFG_TrendLimit 5, 1)] (laneS 2 2 { runR .top with commaTx := 65535, warm := true, corr := List.replicate 63 1, corrNow := 10000 }), 5, { runR .top with commaTx := 65535, warm := true, corr := List.replicate 63 1, corrNow := 10000 }, by decide +kernel⟩,
    ⟨poke [(LN_STATUS_Native 5, 1), (LN_FECCFG_TrendLimit 5, 1)] (laneS 2 2 { runR .top with commaTx := 65535, warm := true, corr := List.replicate 63 1, corrNow := 10000 }), 5, { runR .top with commaTx := 65535, warm := true, corr := List.replicate 63 1, corrNow := 10000 }, (nativeLines 0 [(2, [0x4B, 0x1B, 9, 0, 5, 1, 0, 0])]).1.headD (.native 0), [0x4B, 0x1B, 9, 0, 5, 1, 0, 0], by decide +kernel⟩,
    ⟨poke [(LN_STATUS_Native 5, 1), (LN_FECCFG_TrendLimit 5, 1)] (laneS 2 2 { runR .top with commaTx := 65535, warm := true, corr := List.replicate 63 1, corrNow := 10000 }), 5, { runR .top with commaTx := 65535, warm := true, corr := List.replicate 63 1, corrNow := 10000 }, (nativeLines 0 [(2, [0x4B, 0x1C, 9, 0, 5, 1, 0, 0])]).1.headD (.native 0), [0x4B, 0x1C, 9, 0, 5, 1, 0, 0], by decide +kernel⟩,
    ⟨poke [(LN_STATUS_Native 5, 1), (LN_FECCFG_TrendLimit 5, 1)] (laneS 2 2 { runR .top with commaTx := 65535, warm := true, corr := List.replicate 63 1, corrNow := 10000 }), 5, { runR .top with commaTx := 65535, warm := true, corr := List.replicate 63 1, corrNow := 10000 }, by unfold State.takes; decide +kernel⟩,
    ⟨poke [(LN_STATUS_Native 5, 1), (LN_FECCFG_TrendLimit 5, 1)] (laneS 2 2 { runR .top with commaTx := 65535, warm := true, corr := List.replicate 63 1, corrNow := 10000 }), 5, { runR .top with commaTx := 65535, warm := true, corr := List.replicate 63 1, corrNow := 10000 }, by decide +kernel⟩⟩

theorem witness_spareSwaps :
    (∃ (s : State) (l : Nat) (w : Nat), l < 96 ∧ w < 96 ∧ s.pinsAway = false ∧ s.takes (LN_CMD l) ∧ (s.lnMode l = 1 ∨ s.lnMode l = 2) ∧ s.canProtect l = true ∧ w = s.fget (LN_SPARE_Lane l)) ∧
    (∃ (s : State) (l : Nat) (w : Nat) (msg : _), l < 96 ∧ w < 96 ∧ s.pinsAway = false ∧ msg.length = 7 ∧ byteAt msg 0 = 3 ∧ s.lnState l = 4 ∧ s.lnMode l = 0 ∧ s.byPeer l (byteAt msg 2) = some w ∧ s.lswap w = none ∧ s.lnState w = 2 ∧ s.swapOn l = none ∧ byteAt msg 1 % 2 = 0) ∧
    (∃ (s : State) (l : Nat) (w : Nat) (msg : _), l < 96 ∧ w < 96 ∧ s.pinsAway = false ∧ msg.length = 7 ∧ byteAt msg 0 = 3 ∧ s.lnState l = 4 ∧ s.lnMode l = 0 ∧ s.byPeer l (byteAt msg 2) = some w ∧ s.lswap w = none ∧ s.lnState w = 2 ∧ s.swapOn l = none ∧ byteAt msg 1 % 2 = 1) ∧
    (∃ (s : State) (l : Nat) (w : Nat) (x : _) (clean : _), l < 96 ∧ w < 96 ∧ s.pinsAway = false ∧ s.lswap l = some x ∧ x.aligned = true ∧ x.taken = false ∧ x.sudden = false ∧ x.verified = false ∧ x.done = false ∧ clean = true) ∧
    (∃ (s : State) (l : Nat) (w : Nat) (x : _) (clean : _), l < 96 ∧ w < 96 ∧ s.pinsAway = false ∧ s.lswap l = some x ∧ x.aligned = true ∧ x.taken = false ∧ x.sudden = false ∧ x.verified = false ∧ x.done = false ∧ clean = false ∧ x.fails ≠ 2) ∧
    (∃ (s : State) (l : Nat) (w : Nat) (x : _) (clean : _), l < 96 ∧ w < 96 ∧ s.pinsAway = false ∧ s.lswap l = some x ∧ x.aligned = true ∧ x.taken = false ∧ x.sudden = false ∧ x.verified = false ∧ x.done = false ∧ clean = false ∧ x.fails = 2) ∧
    (∃ (s : State) (l : Nat) (w : Nat) (msg : _) (x : _), l < 96 ∧ w < 96 ∧ s.pinsAway = false ∧ msg.length = 7 ∧ byteAt msg 0 = 4 ∧ byteAt msg 2 = s.fget (LN_PEER_PeerLane w) ∧ s.swapNew l = some (w, x) ∧ s.commaSent w (beAt msg 3 2) = true ∧ x.spare = l ∧ l ≠ w ∧ x.done = false ∧ x.sentSw = false) ∧
    (∃ (s : State) (l : Nat) (w : Nat) (msg : _) (x : _), l < 96 ∧ w < 96 ∧ s.pinsAway = false ∧ msg.length = 7 ∧ byteAt msg 0 = 4 ∧ byteAt msg 2 = s.fget (LN_PEER_PeerLane w) ∧ s.swapNew l = some (w, x) ∧ s.commaSent w (beAt msg 3 2) = true ∧ x.spare = l ∧ l ≠ w ∧ x.done = false ∧ x.sentSw = true) :=
  ⟨⟨spareS, 5, 6, by unfold State.takes; decide +kernel⟩,
    ⟨spareS, 6, 5, [3, 0, 9, 0, 0, 0, 0], by decide +kernel⟩,
    ⟨spareS, 6, 5, [3, 1, 9, 0, 0, 0, 0], by decide +kernel⟩,
    ⟨spareS.setSwap 5 (some { SwapSt.start 6 with aligned := true }), 5, 6, { SwapSt.start 6 with aligned := true }, true, by decide +kernel⟩,
    ⟨spareS.setSwap 5 (some { SwapSt.start 6 with aligned := true }), 5, 6, { SwapSt.start 6 with aligned := true }, false, by decide +kernel⟩,
    ⟨spareS.setSwap 5 (some { SwapSt.start 6 with aligned := true, fails := 2 }), 5, 6, { SwapSt.start 6 with aligned := true, fails := 2 }, false, by decide +kernel⟩,
    ⟨(spareS.setRun 5 { runR .top with commaTx := 1 }).setSwap 5 (some (SwapSt.start 6)), 6, 5, [4, 0, 9, 0, 0, 0, 0], SwapSt.start 6, by decide +kernel⟩,
    ⟨(spareS.setRun 5 { runR .top with commaTx := 1 }).setSwap 5 (some { SwapSt.start 6 with sentSw := true }), 6, 5, [4, 0, 9, 0, 0, 0, 0], { SwapSt.start 6 with sentSw := true }, by decide +kernel⟩⟩

theorem witness_spareReturns :
    (∃ (s : State) (l : Nat) (x : _), l < 96 ∧ s.takes (LN_CMD l) ∧ s.lnState l = 3 ∧ s.flag (LN_CFG_Enable l) = true ∧ s.mclk = true ∧ s.lswap l = some x ∧ x.done = true ∧ x.spare ≠ l) ∧
    (∃ (s : State) (l : Nat) (x : _), l < 96 ∧ s.takes (LN_CMD l) ∧ s.lnState l = 2 ∧ s.flag (LN_CFG_Enable l) = true ∧ s.mclk = true ∧ s.lswap l = some x ∧ x.done = true ∧ x.back = false) ∧
    (∃ (s : State) (l : Nat), l < 96 ∧ s.takes (LN_CMD l) ∧ s.lnState l = 3 ∧ s.flag (LN_CFG_Enable l) = true ∧ s.mclk = true ∧ s.lswap l = none) ∧
    (∃ (s : State) (l : Nat) (x : _) (msg : _), l < 96 ∧ msg.length = 7 ∧ byteAt msg 0 = 5 ∧ byteAt msg 2 = s.fget (LN_PEER_PeerLane l) ∧ s.lswap l = some x ∧ x.done = true ∧ x.back = true ∧ x.spare < 96 ∧ x.spare ≠ l ∧ (x.sentSw && x.gotSw) = false) ∧
    (∃ (s : State) (l : Nat) (x : _) (msg : _), l < 96 ∧ msg.length = 7 ∧ byteAt msg 0 = 5 ∧ byteAt msg 2 = s.fget (LN_PEER_PeerLane l) ∧ s.lswap l = some x ∧ x.done = true ∧ x.back = true ∧ x.spare < 96 ∧ x.spare ≠ l ∧ x.sentSw = true ∧ x.gotSw = true) :=
  ⟨⟨(laneS 2 3 LaneRun.off).setSwap 5 (some { SwapSt.start 6 with done := true }), 5, { SwapSt.start 6 with done := true }, by unfold State.takes; decide +kernel⟩,
    ⟨(laneS 2 2 (runR .top)).setSwap 5 (some { SwapSt.start 6 with done := true }), 5, { SwapSt.start 6 with done := true }, by unfold State.takes; decide +kernel⟩,
    ⟨laneS 2 3 LaneRun.off, 5, by unfold State.takes; decide +kernel⟩,
    ⟨(laneS 2 3 LaneRun.off).setSwap 5 (some { SwapSt.start 6 with done := true, back := true }), 5, { SwapSt.start 6 with done := true, back := true }, [5, 0, 9, 0, 0, 0, 0], by decide +kernel⟩,
    ⟨poke [(LN_STATUS_State 6, 5)] ((laneS 2 2 (runR .top)).setSwap 5 (some { SwapSt.start 6 with done := true, back := true, sentSw := true, gotSw := true })), 5, { SwapSt.start 6 with done := true, back := true, sentSw := true, gotSw := true }, [5, 0, 9, 0, 0, 0, 0], by decide +kernel⟩⟩

theorem witness_ethernetLanes :
    (∃ (s : State) (l : Nat) (k : Nat), l < 96 ∧ k < 5 ∧ s.lnMode l = 3 ∧ s.lnState l = 1) ∧
    (∃ (s : State) (l : Nat) (k : Nat), l < 96 ∧ k < 5 ∧ s.lnMode l = 3 ∧ s.lnState l = 2) ∧
    (∃ (s : State) (l : Nat) (k : Nat), l < 96 ∧ k < 5 ∧ s.lnMode l = 3 ∧ s.lnState l ≠ 0) :=
  ⟨⟨laneS 3 1 LaneRun.off, 5, 4, by decide +kernel⟩,
    ⟨laneS 3 2 LaneRun.off, 5, 4, by decide +kernel⟩,
    ⟨laneS 3 2 LaneRun.off, 5, 4, by decide +kernel⟩⟩

theorem witness_fabricStarts :
    (∃ (s : State), s.takes FAB_CTRL ∧ s.mclk = true ∧ s.sprout = false ∧ s.flag FAB_CTRL_Enable = false ∧ s.fabMembers.length ≠ 1) ∧
    (∃ (s : State), s.takes FAB_CTRL ∧ s.mclk = true ∧ s.sprout = false ∧ s.flag FAB_CTRL_Enable = false ∧ s.fabMembers.length = 1) :=
  ⟨⟨(poke [(LN_CFG_Mode 5, 2), (LN_STATUS_State 5, 2)] runS).setReg (FAB_MEMBER 0) 2, by (try unfold State.takes); decide +kernel, by (try unfold State.takes); decide +kernel, by (try unfold State.takes); decide +kernel, by (try unfold State.takes); decide +kernel, by rw [fabMembers_low _ (by (try unfold State.takes); decide +kernel) (by (try unfold State.takes); decide +kernel)]; decide +kernel⟩,
    ⟨poke [(LN_CFG_Mode 5, 2), (LN_STATUS_State 5, 2)] runS, by (try unfold State.takes); decide +kernel, by (try unfold State.takes); decide +kernel, by (try unfold State.takes); decide +kernel, by (try unfold State.takes); decide +kernel, by rw [fabMembers_low _ (by (try unfold State.takes); decide +kernel) (by (try unfold State.takes); decide +kernel)]; decide +kernel⟩⟩

theorem witness_gensyFramesArrive :
    (∃ (s : State) (l : Nat) (x : Nat) (b : List Byte) (bs : List (Nat × List Byte)) (f : QFrame), l < 96 ∧ s.fabOn = true ∧ s.lnMode l = 2 ∧ s.xIsHeld 1 l = false ∧ tget [] s.ln.rxq l = (x, b) :: bs ∧ f = parseFrame b ∧ headerOk b = false) ∧
    (∃ (s : State) (l : Nat) (x : Nat) (b : List Byte) (bs : List (Nat × List Byte)) (f : QFrame), l < 96 ∧ s.fabOn = true ∧ s.lnMode l = 2 ∧ s.xIsHeld 1 l = false ∧ tget [] s.ln.rxq l = (x, b) :: bs ∧ f = parseFrame b ∧ headerOk b = true ∧ typeRouted f.ty = true ∧ s.linkUp l = true ∧ s.rxInUse l f.vc + frameUnits f.payload.length ≤ vcUnits f.vc ∧ f.dest = s.node) ∧
    (∃ (s : State) (l : Nat) (x : Nat) (b : List Byte) (bs : List (Nat × List Byte)) (f : QFrame), l < 96 ∧ s.fabOn = true ∧ s.lnMode l = 2 ∧ s.xIsHeld 1 l = false ∧ tget [] s.ln.rxq l = (x, b) :: bs ∧ f = parseFrame b ∧ headerOk b = true ∧ typeRouted f.ty = true ∧ s.linkUp l = true ∧ s.rxInUse l f.vc + frameUnits f.payload.length ≤ vcUnits f.vc ∧ f.dest ≠ s.node ∧ f.hops = 0) ∧
    (∃ (s : State) (l : Nat) (x : Nat) (b : List Byte) (bs : List (Nat × List Byte)) (f : QFrame) (m : _), l < 96 ∧ s.fabOn = true ∧ s.lnMode l = 2 ∧ s.xIsHeld 1 l = false ∧ tget [] s.ln.rxq l = (x, b) :: bs ∧ f = parseFrame b ∧ headerOk b = true ∧ typeRouted f.ty = true ∧ s.linkUp l = true ∧ s.rxInUse l f.vc + frameUnits f.payload.length ≤ vcUnits f.vc ∧ f.dest ≠ s.node ∧ f.hops ≠ 0 ∧ s.routeOf f = some m) :=
  ⟨⟨rxS ((gFrame (frameQ 4 0 2)).set 15 0), 5, 0, (gFrame (frameQ 4 0 2)).set 15 0, ([] : List (Nat × List Byte)), parseFrame ((gFrame (frameQ 4 0 2)).set 15 0), by decide +kernel⟩,
    ⟨rxS (gFrame (frameQ 4 0 2)), 5, 0, gFrame (frameQ 4 0 2), ([] : List (Nat × List Byte)), parseFrame (gFrame (frameQ 4 0 2)), by decide +kernel⟩,
    ⟨rxS (gFrame (frameQ 4 1 0)), 5, 0, gFrame (frameQ 4 1 0), ([] : List (Nat × List Byte)), parseFrame (gFrame (frameQ 4 1 0)), by decide +kernel⟩,
    ⟨rxS (gFrame (frameQ 4 1 2)), 5, 0, gFrame (frameQ 4 1 2), ([] : List (Nat × List Byte)), parseFrame (gFrame (frameQ 4 1 2)), 5, by decide +kernel⟩⟩

theorem witness_gensyFramesLeave :
    (∃ (s : State) (l : Nat) (ty : _) (p : _) (rest : _), l < 96 ∧ s.fabOn = true ∧ s.linkState l ≠ 0 ∧ s.sprout = false ∧ (∀ p ∈ s.txLanes l, s.xIsHeld 2 p = false) ∧ tget [] s.fab.llq l = (ty, p) :: rest ∧ ty ≤ 2 ∧ s.pinsAway = false) ∧
    (∃ (s : State) (l : Nat) (f : _), l < 96 ∧ s.fabOn = true ∧ s.linkState l ≠ 0 ∧ s.sprout = false ∧ (∀ p ∈ s.txLanes l, s.xIsHeld 2 p = false) ∧ tget [] s.fab.llq l = [] ∧ s.headFor l 2 = some f ∧ s.credited l 2 f.payload.length = true ∧ f.ts = false ∧ typeLocal f.ty = false) ∧
    (∃ (s : State) (l : Nat) (f : _), l < 96 ∧ s.fabOn = true ∧ s.linkState l ≠ 0 ∧ s.sprout = false ∧ (∀ p ∈ s.txLanes l, s.xIsHeld 2 p = false) ∧ tget [] s.fab.llq l = [] ∧ s.headFor l 2 = none ∧ s.headFor l 1 = some f ∧ s.credited l 1 f.payload.length = true ∧ f.ts = false ∧ typeLocal f.ty = false) ∧
    (∃ (s : State) (l : Nat) (e : _) (d : _), l < 96 ∧ s.fabOn = true ∧ s.linkState l ≠ 0 ∧ s.sprout = false ∧ (∀ p ∈ s.txLanes l, s.xIsHeld 2 p = false) ∧ tget [] s.fab.llq l = [] ∧ s.headFor l 2 = none ∧ s.headFor l 1 = none ∧ s.headFor l 3 = none ∧ s.headFor l 0 = none ∧ s.hullHead l = some (e, d) ∧ s.credited l 0 (d.hdr.length + d.len) = true) :=
  ⟨⟨fabQ fabS fun x => { x with llq := [(5, [(1, [1, 2])])] }, 5, 1, [1, 2], ([] : List (Nat × List Byte)), by decide +kernel⟩,
    ⟨fabQ creditS fun x => { x with txq := [waitQ 5 1 4] }, 5, waitQ 5 1 4, by decide +kernel⟩,
    ⟨fabQ creditS fun x => { x with txq := [waitQ 6 1 4] }, 5, waitQ 6 1 4, by decide +kernel⟩,
    ⟨poke [(HULL_CTRL_Enable, 1)] { creditS with hull := { creditS.hull with held := [(0, [⟨7, 0, [⟨1, 1, [1, 2, 3], 0, 5⟩]⟩])] } }, 5, 0, (⟨1, 1, [1, 2, 3], 0, 5⟩ : HeldData), by decide +kernel⟩⟩

theorem witness_linkStates :
    (∃ (s : State) (l : Nat), l < 96 ∧ s.fabOn = true ∧ (s.linkState l = 1 ∨ s.linkState l = 2 ∨ s.linkState l = 4) ∧ s.sprout = false) ∧
    (∃ (s : State) (l : Nat) (p : List Byte) (rest : List (List Byte)), l < 96 ∧ tget [] s.fab.creditq l = p :: rest ∧ p.length = 8 ∧ s.carriesCredit l = true) ∧
    (∃ (s : State) (l : Nat) (p : List Byte) (rest : List (List Byte)), l < 96 ∧ tget [] s.fab.helloq l = p :: rest ∧ p.length = 32 ∧ byteAt p 0 / 16 = 1 ∧ (s.linkState l = 1 ∨ s.linkState l = 2) ∧ s.helloCheck l p = (2, 0)) ∧
    (∃ (s : State) (l : Nat) (p : List Byte) (rest : List (List Byte)) (c : _), l < 96 ∧ tget [] s.fab.helloq l = p :: rest ∧ p.length = 32 ∧ byteAt p 0 / 16 = 1 ∧ (s.linkState l = 1 ∨ s.linkState l = 2) ∧ s.helloCheck l p = (3, c)) ∧
    (∃ (s : State) (l : Nat), l < 96 ∧ s.linkState l ≠ 0 ∧ s.sprout = false ∧ s.fabOn = true ∧ s.lnMode l = 2) :=
  ⟨⟨fabS, 5, by decide +kernel⟩,
    ⟨fabQ fabS fun x => { x with creditq := [(5, [[1, 2, 3, 4, 5, 6, 7, 8]])] }, 5, [1, 2, 3, 4, 5, 6, 7, 8], ([] : List (List Byte)), by decide +kernel⟩,
    ⟨fabQ (poke [(FAB_LSTAT_State 5, 1)] fabS) fun x => { x with helloq := [(5, [([0x14, 9, 0, 1] ++ beBytes 8 77 ++ beBytes 8 fabS.imageHash ++ [0, 0, 0, 0, 0, 50, 0, 51, 0, 52, 0, 53])])] }, 5, ([0x14, 9, 0, 1] ++ beBytes 8 77 ++ beBytes 8 fabS.imageHash ++ [0, 0, 0, 0, 0, 50, 0, 51, 0, 52, 0, 53]), ([] : List (List Byte)), by decide +kernel⟩,
    ⟨fabQ fabS fun x => { x with helloq := [(5, [([0x14, 9, 0, 1] ++ beBytes 8 77 ++ beBytes 8 (fabS.imageHash + 1) ++ [0, 0, 0, 0, 0, 50, 0, 51, 0, 52, 0, 53])])] }, 5, ([0x14, 9, 0, 1] ++ beBytes 8 77 ++ beBytes 8 (fabS.imageHash + 1) ++ [0, 0, 0, 0, 0, 50, 0, 51, 0, 52, 0, 53]), ([] : List (List Byte)), 3, by decide +kernel⟩,
    ⟨fabS, 5, by decide +kernel⟩⟩

theorem witness_partitionDecisions_1 :
    ∃ (s : State), s.fabOn = true ∧ s.sprout = false :=
  ⟨(poke [(FAB_STATUS_Role, 1), (FAB_STATUS_PartEpoch, 7)] fabS).setReg (FAB_MEMBER 0) 0xE, by decide +kernel⟩

theorem witness_partitionDecisions_2 :
    ∃ (s : State) (half : List Nat) (ms : List Nat) (primary : Prop), s.fabOn = true ∧ s.sprout = false ∧ (∀ r, s.fab.rejoin = some r → ∃ lf, s.hull.lfi = some lf ∧ idxDiff lf r.frame < 0) ∧ half = s.halfNow ∧ ms = s.fabMembers ∧ (primary ↔ ms.length < 2 * half.length ∨ (2 * half.length = ms.length ∧ ms.headD s.node ∈ half)) ∧ s.role = 1 ∧ ¬primary :=
  ⟨(poke [(FAB_STATUS_Role, 1), (FAB_STATUS_PartEpoch, 7)] fabS).setReg (FAB_MEMBER 0) 0x1C, [0], [0, 2, 3, 4], False, by decide +kernel, by decide +kernel, (fun _ h => nomatch h), by rw [halfNow_low _ (by decide +kernel) (by decide +kernel)]; decide +kernel, by rw [fabMembers_low _ (by decide +kernel) (by decide +kernel)]; decide +kernel, by decide +kernel, by decide +kernel, by decide +kernel⟩

theorem witness_partitionDecisions_3 :
    ∃ (s : State) (half : List Nat) (ms : List Nat) (primary : Prop), s.fabOn = true ∧ s.sprout = false ∧ (∀ r, s.fab.rejoin = some r → ∃ lf, s.hull.lfi = some lf ∧ idxDiff lf r.frame < 0) ∧ half = s.halfNow ∧ ms = s.fabMembers ∧ (primary ↔ ms.length < 2 * half.length ∨ (2 * half.length = ms.length ∧ ms.headD s.node ∈ half)) ∧ s.role ≠ 1 ∧ primary ∧ s.seesRole 1 = false :=
  ⟨(poke [(FAB_STATUS_Role, 0)] fabS).setReg (FAB_MEMBER 0) 2, [0, 1], [0, 1], True, by decide +kernel, by decide +kernel, (fun _ h => nomatch h), by rw [halfNow_low _ (by decide +kernel) (by decide +kernel)]; decide +kernel, by rw [fabMembers_low _ (by decide +kernel) (by decide +kernel)]; decide +kernel, by decide +kernel, by decide +kernel, by decide +kernel, by decide +kernel⟩

theorem witness_partitionDecisions_4 :
    ∃ (s : State) (half : List Nat) (ms : List Nat) (primary : Prop), s.fabOn = true ∧ s.sprout = false ∧ (∀ r, s.fab.rejoin = some r → ∃ lf, s.hull.lfi = some lf ∧ idxDiff lf r.frame < 0) ∧ half = s.halfNow ∧ ms = s.fabMembers ∧ (primary ↔ ms.length < 2 * half.length ∨ (2 * half.length = ms.length ∧ ms.headD s.node ∈ half)) ∧ s.role = 1 ∧ primary ∧ half.headD s.node = s.node ∧ (∃ n ∈ s.fab.half, n ∉ half) ∧ (∀ n ∈ half, n ∈ s.fab.half) :=
  ⟨fabQ ((poke [(FAB_STATUS_Role, 1), (FAB_STATUS_PartEpoch, 7)] fabS).setReg (FAB_MEMBER 0) 6) (withHalf [0, 1, 2]), [0, 1], [0, 1, 2], True, by decide +kernel, by decide +kernel, (fun _ h => nomatch h), by rw [halfNow_low _ (by decide +kernel) (by decide +kernel)]; decide +kernel, by rw [fabMembers_low _ (by decide +kernel) (by decide +kernel)]; decide +kernel, by decide +kernel, by decide +kernel, by decide +kernel, by decide +kernel, by decide +kernel, by decide +kernel⟩

theorem witness_partitionDecisions_5 :
    ∃ (s : State) (half : List Nat) (ms : List Nat) (primary : Prop), s.fabOn = true ∧ s.sprout = false ∧ (∀ r, s.fab.rejoin = some r → ∃ lf, s.hull.lfi = some lf ∧ idxDiff lf r.frame < 0) ∧ half = s.halfNow ∧ ms = s.fabMembers ∧ (primary ↔ ms.length < 2 * half.length ∨ (2 * half.length = ms.length ∧ ms.headD s.node ∈ half)) ∧ s.role ≠ 1 ∧ (¬primary ∨ s.seesRole 1 = true) :=
  ⟨(poke [(FAB_STATUS_Role, 2)] fabS).setReg (FAB_MEMBER 0) 0x1C, [0], [0, 2, 3, 4], False, by decide +kernel, by decide +kernel, (fun _ h => nomatch h), by rw [halfNow_low _ (by decide +kernel) (by decide +kernel)]; decide +kernel, by rw [fabMembers_low _ (by decide +kernel) (by decide +kernel)]; decide +kernel, by decide +kernel, by decide +kernel, by decide +kernel⟩

theorem witness_rejoins :
    (∃ (s : State) (n : Nat) (qs : List Nat), n < 4096 ∧ s.fabOn = true ∧ s.flag FAB_STATUS_IsAnchor = true ∧ tget none s.fab.rejWait n = some qs ∧ s.unitInReset 21 = false ∧ s.route n 0 s.node 1 false ≠ none) ∧
    (∃ (s : State) (src : Nat) (seq : Nat) (p : List Byte) (rest : List (Nat × Nat × List Byte)), s.fab.rejoinq = (src, seq, p) :: rest ∧ s.unitInReset 21 = false ∧ p.length = 16 ∧ byteAt p 0 / 16 = 1 ∧ s.route src 0 s.node 1 false ≠ none ∧ s.hull.lfi = none) ∧
    (∃ (s : State) (src : Nat) (seq : Nat) (p : List Byte) (rest : List (Nat × Nat × List Byte)) (lf : _), s.fab.rejoinq = (src, seq, p) :: rest ∧ s.unitInReset 21 = false ∧ p.length = 16 ∧ byteAt p 0 / 16 = 1 ∧ s.hull.lfi = some lf ∧ beAt p 8 6 ≠ noFrame ∧ idxDiff lf (beAt p 8 6) ≤ 0 ∧ s.fab.rejoin = none) ∧
    (∃ (s : State) (r : RejoinSt) (lf : _), s.fab.rejoin = some r ∧ s.hull.lfi = some lf ∧ 0 ≤ idxDiff lf r.frame) ∧
    (∃ (s : State) (src : Nat) (seq : Nat) (p : List Byte) (qs : List Nat) (rest : List (Nat × Nat × List Byte)), s.fab.ackq = (src, seq, p) :: rest ∧ s.unitInReset 21 = false ∧ p.length = 2 ∧ tget none s.fab.rejWait src = some qs) :=
  ⟨⟨fabQ (poke [(FAB_STATUS_IsAnchor, 1)] fabS) fun x => { x with rejWait := [(1, some [3])], rejMsg := [1, 2] }, 1, [3], by decide +kernel⟩,
    ⟨fabQ fabS fun x => { x with rejoinq := [(1, 5, ([0x10, 0, 0, 9, 0, 1, 0, 0, 0, 0, 0, 0, 1, 0, 0, 0] : List Byte))] }, 1, 5, ([0x10, 0, 0, 9, 0, 1, 0, 0, 0, 0, 0, 0, 1, 0, 0, 0] : List Byte), ([] : List (Nat × Nat × List Byte)), by decide +kernel⟩,
    ⟨let s := fabQ fabS fun x => { x with rejoinq := [(1, 5, ([0x10, 0, 0, 9, 0, 1, 0, 0, 0, 0, 0, 0, 1, 0, 0, 0] : List Byte))] }; { s with hull := { s.hull with lfi := some 100 } }, 1, 5, ([0x10, 0, 0, 9, 0, 1, 0, 0, 0, 0, 0, 0, 1, 0, 0, 0] : List Byte), ([] : List (Nat × Nat × List Byte)), 100, by decide +kernel⟩,
    ⟨let s := fabQ fabS fun x => { x with rejoin := some ⟨9, 1, 256⟩ }; { s with hull := { s.hull with lfi := some 300 } }, ⟨9, 1, 256⟩, 300, by decide +kernel⟩,
    ⟨fabQ fabS fun x => { x with rejWait := [(1, some [3])], ackq := [(1, 5, [0, 5])] }, 1, 5, [0, 5], [3], ([] : List (Nat × Nat × List Byte)), by decide +kernel⟩⟩

theorem witness_remoteReads :
    (∃ (s : State) (v : Word), s.takes FAB_MREQ ∧ FAB_MREQ_Go.of v = 1 ∧ s.flag FAB_MSTAT_Busy = false ∧ s.fabOn = true ∧ s.route (FAB_MREQ_Node.of v) 0 s.node 3 false ≠ none) ∧
    (∃ (s : State) (v : Word), s.takes FAB_MREQ ∧ FAB_MREQ_Go.of v = 1 ∧ s.flag FAB_MSTAT_Busy = false ∧ s.route (FAB_MREQ_Node.of v) 0 s.node 3 false = none) ∧
    (∃ (s : State) (src : Nat) (seq : Nat) (p : List Byte) (rest : List (Nat × Nat × List Byte)), s.fab.mreadq = (src, seq, p) :: rest ∧ s.unitInReset 21 = false ∧ p.length = 4 ∧ s.regHeld (beAt p 0 4 / 4 * 4) = false ∧ s.fabOn = true ∧ s.route src 0 s.node 3 false ≠ none ∧ s.mreadAllowed (beAt p 0 4 / 4 * 4) = false) ∧
    (∃ (s : State) (src : Nat) (seq : Nat) (p : List Byte) (rest : List (Nat × Nat × List Byte)), s.fab.mreadq = (src, seq, p) :: rest ∧ s.unitInReset 21 = false ∧ p.length = 4 ∧ s.regHeld (beAt p 0 4 / 4 * 4) = false ∧ s.fabOn = true ∧ s.route src 0 s.node 3 false ≠ none ∧ s.mreadAllowed (beAt p 0 4 / 4 * 4) = true ∧ isUpperWord (beAt p 0 4 / 4 * 4) = false) ∧
    (∃ (s : State) (src : Nat) (seq : Nat) (p : List Byte) (rest : List (Nat × Nat × List Byte)), s.fab.mrespq = (src, seq, p) :: rest ∧ s.unitInReset 21 = false ∧ p.length = 12 ∧ s.flag FAB_MSTAT_Busy = true) ∧
    (∃ (s : State), s.flag FAB_MSTAT_Busy = true) :=
  ⟨⟨fabS, 0x80000001, by unfold State.takes; decide +kernel⟩,
    ⟨runS, 0x80000002, by unfold State.takes; decide +kernel⟩,
    ⟨fabQ fabS fun x => { x with mreadq := [(1, 5, ([0, 0xC0, 0x10, 8] : List Byte))] }, 1, 5, ([0, 0xC0, 0x10, 8] : List Byte), ([] : List (Nat × Nat × List Byte)), by decide +kernel⟩,
    ⟨fabQ (poke [(PMC_PERMIT_FabricRead, 1), (PMC_PERMIT_ShadowOnly, 0)] fabS) fun x => { x with mreadq := [(1, 5, ([0, 0xC0, 0x10, 8] : List Byte))] }, 1, 5, ([0, 0xC0, 0x10, 8] : List Byte), ([] : List (Nat × Nat × List Byte)), by decide +kernel⟩,
    ⟨fabQ (poke [(FAB_MSTAT_Busy, 1)] fabS) fun x => { x with mrespq := [(1, 5, [0, 0xC0, 0x10, 8, 1, 2, 3, 4, 2, 0, 0, 0])] }, 1, 5, [0, 0xC0, 0x10, 8, 1, 2, 3, 4, 2, 0, 0, 0], ([] : List (Nat × Nat × List Byte)), by decide +kernel⟩,
    ⟨poke [(FAB_MSTAT_Busy, 1)] fabS, by decide +kernel⟩⟩

theorem witness_seeding :
    (∃ (s : State) (l : Nat) (p : List Byte) (rest : List (List Byte)), l < 96 ∧ tget [] s.fab.seedq l = p :: rest ∧ s.hbmHeld = false ∧ 16 ≤ p.length ∧ s.fab.seedLane = some l ∧ beAt p 0 4 ≠ s.fab.seedGot) ∧
    (∃ (s : State) (l : Nat) (p : List Byte) (rest : List (List Byte)), l < 96 ∧ tget [] s.fab.seedq l = p :: rest ∧ s.hbmHeld = false ∧ 16 ≤ p.length ∧ s.fab.seedLane = some l ∧ beAt p 0 4 = s.fab.seedGot) ∧
    (∃ (s : State) (l : Nat), l < 96 ∧ s.fab.seedLane = some l ∧ s.fab.seedCount ≠ 0) ∧
    (∃ (s : State) (l : Nat) (p : List Byte) (rest : List (List Byte)), l < 96 ∧ tget [] s.fab.seedackq l = p :: rest ∧ s.unitInReset 21 = false ∧ 4 ≤ p.length ∧ s.linkState l = 4 ∧ (s.seedOf l).active = true ∧ (s.seedOf l).acked < beAt p 0 4 ∧ beAt p 0 4 ≤ (s.seedOf l).len) ∧
    (∃ (s : State) (l : Nat), l < 96 ∧ s.unitInReset 21 = false ∧ s.hbmHeld = false ∧ (s.seedOf l).active = true ∧ (s.seedOf l).acked < (s.seedOf l).len) ∧
    (∃ (s : State) (l : Nat), l < 96 ∧ (s.seedOf l).active = true) ∧
    (∃ (s : State) (l : Nat), l < 96 ∧ s.fabOn = true ∧ s.unitInReset 21 = false ∧ s.linkState l = 4 ∧ (s.seedOf l).active = false ∧ s.img.appliedLen ≠ 0) ∧
    (∃ (s : State) (l : Nat), l < 96 ∧ s.img.seedHold = true ∧ s.img.unassigned = true ∧ s.loaderBusy = false) :=
  ⟨⟨fabQ fabS fun x => { x with seedq := [(5, [([0, 0, 0, 8, 0, 0, 0, 12] ++ List.replicate 8 0 ++ [1, 2, 3, 4, 5, 6] : List Byte)])], seedLane := some 5, seedGot := 4 }, 5, ([0, 0, 0, 8, 0, 0, 0, 12] ++ List.replicate 8 0 ++ [1, 2, 3, 4, 5, 6] : List Byte), ([] : List (List Byte)), by decide +kernel⟩,
    ⟨fabQ fabS fun x => { x with seedq := [(5, [([0, 0, 0, 8, 0, 0, 0, 12] ++ List.replicate 8 0 ++ [1, 2, 3, 4, 5, 6] : List Byte)])], seedLane := some 5, seedGot := 8 }, 5, ([0, 0, 0, 8, 0, 0, 0, 12] ++ List.replicate 8 0 ++ [1, 2, 3, 4, 5, 6] : List Byte), ([] : List (List Byte)), by decide +kernel⟩,
    ⟨fabQ fabS fun x => { x with seedLane := some 5, seedGot := 8, seedCount := 3 }, 5, by decide +kernel⟩,
    ⟨fabQ (poke [(FAB_LSTAT_State 5, 4)] fabS) fun x => { x with seedackq := [(5, [[0, 0, 15, 240]])], seedTx := [(5, ⟨true, 0, 4080, 1, 0, 10000, 77⟩)] }, 5, [0, 0, 15, 240], ([] : List (List Byte)), by decide +kernel⟩,
    ⟨fabQ (poke [(FAB_LSTAT_State 5, 4)] fabS) fun x => { x with seedTx := [(5, ⟨true, 0, 4080, 1, 0, 10000, 77⟩)] }, 5, by decide +kernel⟩,
    ⟨fabQ (poke [(FAB_LSTAT_State 5, 4)] fabS) fun x => { x with txq := [{ frameQ 10 0 0 with via := some 5 }], seedTx := [(5, ⟨true, 0, 4080, 1, 0, 10000, 77⟩)] }, 5, by decide +kernel⟩,
    ⟨let s := poke [(FAB_LSTAT_State 5, 4)] fabS; { s with img := { s.img with appliedLen := 5000 } }, 5, by decide +kernel⟩,
    ⟨{ fabS with img := { fabS.img with seedHold := true, unassigned := true } }, 5, by decide +kernel⟩⟩

theorem witness_lineRequests :
    (∃ (s : State) (a : Nat) (pc : Nat) (k : Nat) (w : LineWrite) (sev : List Nat), s.dmcOn = true ∧ s.hbmHeld = false ∧ a % 64 = 0 ∧ a < 2 ^ 38 ∧ (∀ b ∈ sev, b < 2) ∧ pc = s.hbmPc a ∧ k = 48 * pc + bankOf (s.hbmPa a) ∧ s.hbmIn a = true ∧ s.pcState pc = 2 ∧ s.pcFailed pc = false ∧ (s.bankQ k).length < 8 ∧ s.dmc.sudden = [] ∧ lineWriteOk w = true ∧ (∀ b ∈ w.badParity, b = false)) ∧
    (∃ (s : State) (a : Nat) (pc : Nat) (k : Nat) (sev : List Nat), s.dmcOn = true ∧ s.hbmHeld = false ∧ a % 64 = 0 ∧ a < 2 ^ 38 ∧ (∀ b ∈ sev, b < 2) ∧ pc = s.hbmPc a ∧ k = 48 * pc + bankOf (s.hbmPa a) ∧ s.hbmIn a = true ∧ s.pcOpen pc = true ∧ (s.bankQ k).length < 8) ∧
    (∃ (s : State) (a : Nat) (pc : Nat) (k : Nat) (sev : List Nat), s.dmcOn = true ∧ s.hbmHeld = false ∧ a % 64 = 0 ∧ a < 2 ^ 38 ∧ (∀ b ∈ sev, b < 2) ∧ pc = s.hbmPc a ∧ k = 48 * pc + bankOf (s.hbmPa a) ∧ s.hbmIn a = false) ∧
    (∃ (s : State) (a : Nat) (pc : Nat) (k : Nat) (sev : List Nat) (acc : LineAccess), s.dmcOn = true ∧ s.hbmHeld = false ∧ a % 64 = 0 ∧ a < 2 ^ 38 ∧ (∀ b ∈ sev, b < 2) ∧ pc = s.hbmPc a ∧ k = 48 * pc + bankOf (s.hbmPa a) ∧ acc.write.all lineWriteOk = true ∧ acc.severe = sev ∧ s.hbmIn a = true ∧ s.pcUrgent pc = true ∧ 8 ≤ (s.bankQ k).length) :=
  ⟨⟨busyS, 128, (busyS).hbmPc (128), 48 * ((busyS).hbmPc (128)) + bankOf ((busyS).hbmPa (128)), lineW, [0], by decide +kernel⟩,
    ⟨busyS, 128, (busyS).hbmPc (128), 48 * ((busyS).hbmPc (128)) + bankOf ((busyS).hbmPa (128)), [0, 1], by decide +kernel⟩,
    ⟨busyS, 2 ^ 38 - 64, (busyS).hbmPc (2 ^ 38 - 64), 48 * ((busyS).hbmPc (2 ^ 38 - 64)) + bankOf ((busyS).hbmPa (2 ^ 38 - 64)), [0], by decide +kernel⟩,
    ⟨let s := busyS; { s with dmc := { s.dmc with owed := [(s.hbmPc 128, 9)], queue := [(48 * s.hbmPc 128 + bankOf (s.hbmPa 128), List.replicate 8 ⟨false, 7, 0⟩)] } }, 128, (let s := busyS; { s with dmc := { s.dmc with owed := [(s.hbmPc 128, 9)], queue := [(48 * s.hbmPc 128 + bankOf (s.hbmPa 128), List.replicate 8 ⟨false, 7, 0⟩)] } }).hbmPc (128), 48 * ((let s := busyS; { s with dmc := { s.dmc with owed := [(s.hbmPc 128, 9)], queue := [(48 * s.hbmPc 128 + bankOf (s.hbmPa 128), List.replicate 8 ⟨false, 7, 0⟩)] } }).hbmPc (128)) + bankOf ((let s := busyS; { s with dmc := { s.dmc with owed := [(s.hbmPc 128, 9)], queue := [(48 * s.hbmPc 128 + bankOf (s.hbmPa 128), List.replicate 8 ⟨false, 7, 0⟩)] } }).hbmPa (128)), [0], ⟨some lineW, [0]⟩, by decide +kernel⟩⟩

theorem witness_dramWindow :
    (∃ (s : State) (off : Nat), s.dmcOn = true ∧ s.regHeld (0x10000000 + off) = false ∧ off % 4 = 0 ∧ off < 2 ^ 28 ∧ s.hbmIn (s.dmwAddr off) = true ∧ s.pcFailed (s.hbmPc (s.dmwAddr off)) = false) :=
  ⟨dmcS, 8, by decide +kernel⟩

theorem witness_refreshes :
    (∃ (s : State) (pc : Nat) (bank : _), pc < 192 ∧ bank < 48 ∧ s.dmcOn = true) ∧
    (∃ (s : State) (pc : Nat), pc < 192 ∧ s.pcRefreshed pc = true) ∧
    (∃ (s : State) (pc : Nat), pc < 192 ∧ s.pcRefreshed pc = true ∧ 1 ≤ s.owed pc ∧ s.pcStalled pc = false ∧ s.tokenFor pc = true ∧ (8 < s.owed pc ∨ s.pcQueued pc < max 1 (s.fget DMC_CFG_PostponeDepth))) ∧
    (∃ (s : State) (pc : Nat) (tenths : Int) (d : Int) (hot : Bool), pc < 192 ∧ -1280 ≤ tenths ∧ tenths ≤ 1279 ∧ s.dmcOn = true ∧ hot = (if 850 < tenths then true else if tenths ≤ 830 then false else s.flag (DMC_STACK_Hot (pc / 32))) ∧ d = tenths - tget 0 s.dmc.tagTemp pc) ∧
    (∃ (s : State) (pc : Nat), pc < 192 ∧ s.dmcOn = true ∧ s.pwr.phase = .retain ∧ s.retainFree = true) :=
  ⟨⟨pcS 2, 3, 47, by decide +kernel⟩,
    ⟨pcS 2, 3, by decide +kernel⟩,
    ⟨{ pcS 2 with dmc := { (pcS 2).dmc with owed := [(3, 9)] } }, 3, by decide +kernel⟩,
    ⟨{ pcS 2 with dmc := { (pcS 2).dmc with owed := [(3, 3)] } }, 3, 855, (855) - tget 0 ({ pcS 2 with dmc := { (pcS 2).dmc with owed := [(3, 3)] } }).dmc.tagTemp (3), true, by decide +kernel⟩,
    ⟨{ pcS 2 with pwr := { (pcS 2).pwr with phase := .retain }, dmc := { (pcS 2).dmc with owed := [(3, 3)] } }, 3, by decide +kernel⟩⟩

theorem witness_dramTrains :
    (∃ (s : State) (pc : Nat) (k : Nat) (was : Nat), pc < 192 ∧ k < 4 ∧ was = tget 0 s.dmc.was pc ∧ (was = 0 ∨ was = 6 ∨ was = 7) ∧ s.dmcTrains = true ∧ s.pcState pc = 1 ∧ tget 0 s.dmc.train pc ≤ k ∧ s.img.romHbm = false ∧ k < 3) ∧
    (∃ (s : State) (pc : Nat) (k : Nat) (was : Nat), pc < 192 ∧ k < 4 ∧ was = tget 0 s.dmc.was pc ∧ (was = 0 ∨ was = 6 ∨ was = 7) ∧ s.dmcTrains = true ∧ s.pcState pc = 1 ∧ tget 0 s.dmc.train pc ≤ k ∧ s.img.romHbm = false) ∧
    (∃ (s : State) (pc : Nat) (k : Nat) (was : Nat), pc < 192 ∧ k < 4 ∧ was = tget 0 s.dmc.was pc ∧ (was = 0 ∨ was = 6 ∨ was = 7) ∧ s.dmcTrains = true ∧ s.pcState pc = 1 ∧ tget 0 s.dmc.train pc ≤ k ∧ s.img.romHbm = false ∧ s.pwr.phase = .exit ∧ 1 ≤ k ∧ tget 0 s.dmc.again pc ≠ k + 1) ∧
    (∃ (s : State) (pc : Nat) (k : Nat) (was : Nat), pc < 192 ∧ k < 4 ∧ was = tget 0 s.dmc.was pc ∧ (was = 0 ∨ was = 6 ∨ was = 7) ∧ s.dmcTrains = true ∧ s.pcState pc = 1 ∧ tget 0 s.dmc.train pc ≤ k ∧ s.img.romHbm = false ∧ (s.pwr.phase ≠ .exit ∨ k = 0 ∨ tget 0 s.dmc.again pc = k + 1) ∧ s.pcMapped pc = false) ∧
    (∃ (s : State) (pc : Nat) (k : Nat) (was : Nat), pc < 192 ∧ k < 4 ∧ was = tget 0 s.dmc.was pc ∧ (was = 0 ∨ was = 6 ∨ was = 7) ∧ s.takes DMC_CTRL ∧ s.dmcOn = true ∧ s.flag DMC_STATUS_Ready = true) ∧
    (∃ (s : State) (pc : Nat) (k : Nat) (was : Nat), pc < 192 ∧ k < 4 ∧ was = tget 0 s.dmc.was pc ∧ (was = 0 ∨ was = 6 ∨ was = 7) ∧ s.flag DMC_STATUS_WarmBusy = true) :=
  ⟨⟨pcS 1, 3, 1, 0, by decide +kernel⟩,
    ⟨let s := pcS 1; { s with dmc := { s.dmc with train := [(3, 1)] } }, 3, 1, 0, by decide +kernel⟩,
    ⟨let s := pcS 1; { s with dmc := { s.dmc with train := [(3, 1)] }, pwr := { s.pwr with phase := .exit } }, 3, 1, 0, by decide +kernel⟩,
    ⟨poke [(DMC_PCSTAT_State 191, 1)] dmcS, 191, 1, 0, by decide +kernel⟩,
    ⟨poke [(DMC_STATUS_Ready, 1)] dmcS, 3, 1, 0, by unfold State.takes; decide +kernel⟩,
    ⟨poke [(DMC_STATUS_WarmBusy, 1)] (pcS 2), 3, 1, 0, by decide +kernel⟩⟩

theorem witness_retirement :
    (∃ (s : State) (pc : Nat) (q : Nat), pc < 192 ∧ q < 192 ∧ q ≠ pc ∧ s.dmcOn = true ∧ s.pcMapped pc = true ∧ s.pcState pc = 2 ∧ tget 0 s.dmc.copy pc = 0 ∧ s.reserves.head? = some q) ∧
    (∃ (s : State) (pc : Nat) (q : Nat), pc < 192 ∧ q < 192 ∧ q ≠ pc ∧ s.dmcOn = true ∧ s.pcMapped pc = true ∧ s.pcState pc = 2 ∧ tget 0 s.dmc.copy pc = 0 ∧ s.reserves = []) ∧
    (∃ (s : State) (pc : Nat) (q : Nat), pc < 192 ∧ q < 192 ∧ q ≠ pc ∧ Memory.wf s = true ∧ tget 0 s.dmc.copy pc = q + 1 ∧ s.pcFailed pc = false ∧ s.pcFailed q = false ∧ s.pcState q = 5) ∧
    (∃ (s : State) (pc : Nat) (q : Nat), pc < 192 ∧ q < 192 ∧ q ≠ pc ∧ tget 0 s.dmc.copy pc = q + 1 ∧ s.pcState q ≠ 5) ∧
    (∃ (s : State) (pc : Nat) (q : Nat) (c : Instr), pc < 192 ∧ q < 192 ∧ q ≠ pc ∧ s.dmcOn = true ∧ s.pcMapped pc = true ∧ (s.pcState pc = 1 ∨ s.pcState pc = 2) ∧ (c = .retireSudden pc ∨ c = .commandAddressParityError pc true) ∧ (tget 0 s.dmc.copy pc = q + 1 ∨ (tget 0 s.dmc.copy pc = 0 ∧ s.reserves.head? = some q)) ∧ s.cleanFree (q / 8) = true) ∧
    (∃ (s : State) (pc : Nat) (q : Nat) (c : Instr), pc < 192 ∧ q < 192 ∧ q ≠ pc ∧ s.dmcOn = true ∧ s.pcMapped pc = true ∧ (s.pcState pc = 1 ∨ s.pcState pc = 2) ∧ (c = .retireSudden pc ∨ c = .commandAddressParityError pc true) ∧ (tget 0 s.dmc.copy pc = q + 1 ∨ (tget 0 s.dmc.copy pc = 0 ∧ s.reserves.head? = some q)) ∧ s.cleanFree (q / 8) = false) ∧
    (∃ (s : State) (pc : Nat) (q : Nat) (c : Instr), pc < 192 ∧ q < 192 ∧ q ≠ pc ∧ s.dmcOn = true ∧ s.pcMapped pc = true ∧ (s.pcState pc = 1 ∨ s.pcState pc = 2) ∧ (c = .retireSudden pc ∨ c = .commandAddressParityError pc true) ∧ tget 0 s.dmc.copy pc = 0 ∧ s.reserves = []) ∧
    (∃ (s : State) (pc : Nat) (q : Nat), pc < 192 ∧ q < 192 ∧ q ≠ pc ∧ s.dmcOn = true ∧ s.pcMapped pc = true ∧ s.pcState pc = 7 ∧ s.reserves.head? = some q ∧ s.cleanFree (q / 8) = true) ∧
    (∃ (s : State) (pc : Nat) (q : Nat), pc < 192 ∧ q < 192 ∧ q ≠ pc ∧ s.dmcOn = true ∧ s.pcMapped pc = false ∧ (s.pcState pc = 1 ∨ s.pcState pc = 4 ∨ s.pcState pc = 5)) :=
  ⟨⟨pcS 2, 3, 190, by decide +kernel⟩,
    ⟨poke [(DMC_PCSTAT_State 3, 2)] dmcS, 3, 190, by decide +kernel⟩,
    ⟨poke [(DMC_PCSTAT_State 190, 5)] { pcS 2 with dmc := { (pcS 2).dmc with copy := [(3, 191)] } }, 3, 190, by decide +kernel⟩,
    ⟨poke [(DMC_PCSTAT_State 190, 4)] { pcS 2 with dmc := { (pcS 2).dmc with copy := [(3, 191)] } }, 3, 190, by decide +kernel⟩,
    ⟨pcS 2, 3, 190, (Instr.retireSudden 3), by decide +kernel⟩,
    ⟨{ pcS 2 with dmc := { (pcS 2).dmc with cleanOf := [(23, 191)] } }, 3, 190, (Instr.retireSudden 3), by decide +kernel⟩,
    ⟨poke [(DMC_PCSTAT_State 3, 2)] dmcS, 3, 190, (Instr.retireSudden 3), by decide +kernel⟩,
    ⟨pcS 7, 3, 190, by decide +kernel⟩,
    ⟨poke [(DMC_PCSTAT_State 191, 1)] dmcS, 191, 190, by decide +kernel⟩⟩

theorem witness_distances :
    (∃ (s : State) (n : Nat) (l : Nat), n < 4096 ∧ l < 96 ∧ n = s.node) ∧
    (∃ (s : State) (n : Nat) (l : Nat) (k : _) (r : _), n < 4096 ∧ l < 96 ∧ n ≠ s.node ∧ k < 96 ∧ s.linkUp k = true ∧ tget none s.fab.report k = some r) ∧
    (∃ (s : State) (n : Nat) (l : Nat), n < 4096 ∧ l < 96 ∧ n ≠ s.node ∧ s.distances.getD n 15 < 15) ∧
    (∃ (s : State) (n : Nat) (l : Nat), n < 4096 ∧ l < 96 ∧ n ≠ s.node ∧ s.distances.getD n 15 = 15) ∧
    (∃ (s : State) (n : Nat) (l : Nat), n < 4096 ∧ l < 96 ∧ s.linkState l ≠ 0 ∧ s.sprout = false ∧ s.fabOn = true ∧ s.lnMode l = 2) :=
  ⟨⟨fabQ fabS fun x => { x with report := [(5, some ⟨1, 5, 1, [2, 0]⟩)] }, 0, 5, by decide +kernel⟩,
    ⟨fabQ fabS fun x => { x with report := [(5, some ⟨1, 5, 1, [2, 0]⟩)] }, 1, 5, 5, (⟨1, 5, 1, [2, 0]⟩ : ReachRep), by decide +kernel⟩,
    ⟨fabQ fabS fun x => { x with report := [(5, some ⟨1, 5, 1, [2, 0]⟩)] }, 1, 5, by decide +kernel⟩,
    ⟨fabS, 1, 5, by decide +kernel⟩,
    ⟨fabQ fabS fun x => { x with report := [(5, some ⟨1, 5, 1, [2, 0]⟩)] }, 1, 5, by decide +kernel⟩⟩

theorem witness_unallocatedAddresses :
    (∃ (s : State) (a : Nat) (i : Nat), s.takes a ∧ a % 4 = 0 ∧ findRow a = none ∧ inBlock a = true ∧ i < 24 ∧ mayAddress i 26 = true) :=
  ⟨runS, 0xC0F000, 21, by unfold State.takes; decide +kernel⟩

theorem witness_addressLowBits :
    (∃ (a : Nat), a < 2 ^ 32) :=
  ⟨7, by decide +kernel⟩

theorem witness_plainWrites :
    (∃ (s : State) (a : Nat) (i : Nat) (v : Word) (ws : List Posted) (w : Posted) (r : RegRow) (ix : List Nat) (c : Instr) (f : _), s.takes a ∧ plainReg a = true ∧ findRow a = some (r, ix) ∧ i < 24 ∧ ((c = .registerWrite a v ∧ i = 21) ∨ (c = .postedWrite ∧ s.i3c.posted = w :: ws ∧ w.addr / 4 * 4 = a ∧ w.value = v ∧ i = 21) ∨ (c = .bridgeAccess i a (some v) true ∧ mayAddress i 26 = true)) ∧ f ∈ r.fields) ∧
    (∃ (s : State) (a : Nat) (i : Nat) (v : Word) (ws : List Posted) (w : Posted) (r : RegRow) (ix : List Nat) (c : Instr), s.takes a ∧ plainReg a = true ∧ findRow a = some (r, ix) ∧ i < 24 ∧ ((c = .registerWrite a v ∧ i = 21) ∨ (c = .postedWrite ∧ s.i3c.posted = w :: ws ∧ w.addr / 4 * 4 = a ∧ w.value = v ∧ i = 21) ∨ (c = .bridgeAccess i a (some v) true ∧ mayAddress i 26 = true)) ∧ (s.ownerOpen r.owner ix = true ∨ r.hasRwl = false)) ∧
    (∃ (s : State) (a : Nat) (i : Nat) (v : Word) (ws : List Posted) (w : Posted) (r : RegRow) (ix : List Nat) (c : Instr), s.takes a ∧ plainReg a = true ∧ findRow a = some (r, ix) ∧ i < 24 ∧ ((c = .registerWrite a v ∧ i = 21) ∨ (c = .postedWrite ∧ s.i3c.posted = w :: ws ∧ w.addr / 4 * 4 = a ∧ w.value = v ∧ i = 21) ∨ (c = .bridgeAccess i a (some v) true ∧ mayAddress i 26 = true)) ∧ s.ownerOpen r.owner ix = false ∧ r.hasRwl = true) ∧
    (∃ (s : State) (a : Nat) (i : Nat) (v : Word) (ws : List Posted) (w : Posted) (r : RegRow) (ix : List Nat) (c : Instr), s.takes a ∧ plainReg a = true ∧ findRow a = some (r, ix) ∧ i < 24 ∧ ((c = .registerWrite a v ∧ i = 21) ∨ (c = .postedWrite ∧ s.i3c.posted = w :: ws ∧ w.addr / 4 * 4 = a ∧ w.value = v ∧ i = 21) ∨ (c = .bridgeAccess i a (some v) true ∧ mayAddress i 26 = true)) ∧ c = .postedWrite) :=
  ⟨⟨runS, POD_PCFG 5, 21, 0xABCD0123, ([] : List Posted), (⟨POD_PCFG 5, 0xABCD0123, true⟩ : Posted), ((findRow (POD_PCFG 5)).get (by (try unfold State.takes); decide +kernel)).1, [5], Instr.registerWrite (POD_PCFG 5) 0xABCD0123, ((findRow (POD_PCFG 5)).get (by (try unfold State.takes); decide +kernel)).1.fields.getD 3 ⟨0, 1, .ro⟩, by (try unfold State.takes); decide +kernel⟩,
    ⟨runS, POD_PCFG 5, 21, 0xABCD0123, ([] : List Posted), (⟨POD_PCFG 5, 0xABCD0123, true⟩ : Posted), ((findRow (POD_PCFG 5)).get (by (try unfold State.takes); decide +kernel)).1, [5], Instr.registerWrite (POD_PCFG 5) 0xABCD0123, by (try unfold State.takes); decide +kernel⟩,
    ⟨poke [(POD_STATUS_Running 5, 1)] runS, POD_PCFG 5, 23, 0xABCD0123, ([] : List Posted), (⟨POD_PCFG 5, 0xABCD0123, true⟩ : Posted), ((findRow (POD_PCFG 5)).get (by (try unfold State.takes); decide +kernel)).1, [5], Instr.bridgeAccess 23 (POD_PCFG 5) (some 0xABCD0123) true, by (try unfold State.takes); decide +kernel⟩,
    ⟨{ runS with i3c := { runS.i3c with posted := [⟨POD_PCFG 5, 0xABCD0123, true⟩] } }, POD_PCFG 5, 21, 0xABCD0123, ([] : List Posted), (⟨POD_PCFG 5, 0xABCD0123, true⟩ : Posted), ((findRow (POD_PCFG 5)).get (by (try unfold State.takes); decide +kernel)).1, [5], Instr.postedWrite, by (try unfold State.takes); decide +kernel⟩⟩

theorem witness_tableWrites :
    (∃ (s : State) (a : Nat) (v : Word) (r : RegRow) (ix : List Nat), s.takes a ∧ findRow a = some (r, ix) ∧ s.tableOpen a v = some true) ∧
    (∃ (s : State) (a : Nat) (v : Word) (r : RegRow) (ix : List Nat), s.takes a ∧ findRow a = some (r, ix) ∧ s.tableOpen a v = some false) :=
  ⟨⟨runS, HULL_SRC 7, 0x5A5A1234, ((findRow (HULL_SRC 7)).get (by (try unfold State.takes); decide +kernel)).1, [7], by (try unfold State.takes); decide +kernel⟩,
    ⟨poke [(HULL_CTRL_Enable, 1)] runS, HULL_SRC 7, 0x5A5A1234, ((findRow (HULL_SRC 7)).get (by (try unfold State.takes); decide +kernel)).1, [7], by (try unfold State.takes); decide +kernel⟩⟩

theorem witness_enableWords :
    (∃ (s : State) (a : Nat) (v : Word) (r : RegRow) (ix : List Nat) (e : Fld) (f : _), s.takes a ∧ findRow a = some (r, ix) ∧ enableOf a = some e ∧ e.of v = s.fget e ∧ f ∈ r.fields) ∧
    (∃ (s : State) (a : Nat) (v : Word) (r : RegRow) (ix : List Nat) (e : Fld), s.takes a ∧ findRow a = some (r, ix) ∧ enableOf a = some e ∧ e.of v = s.fget e ∧ (s.ownerOpen r.owner ix = true ∨ r.hasRwl = false)) ∧
    (∃ (s : State) (a : Nat) (v : Word) (r : RegRow) (ix : List Nat) (e : Fld), s.takes a ∧ findRow a = some (r, ix) ∧ enableOf a = some e ∧ e.of v = s.fget e ∧ s.ownerOpen r.owner ix = false ∧ r.hasRwl = true) :=
  ⟨⟨runS, HULL_CTRL, 0xFFFFFFF0, ((findRow (HULL_CTRL)).get (by (try unfold State.takes); decide +kernel)).1, [], HULL_CTRL_Enable, (((findRow (HULL_CTRL)).get (by (try unfold State.takes); decide +kernel)).1).fields.getD 0 ⟨0, 1, .ro⟩, by (try unfold State.takes); decide +kernel⟩,
    ⟨runS, HULL_CTRL, 0xFFFFFFF0, ((findRow (HULL_CTRL)).get (by (try unfold State.takes); decide +kernel)).1, [], HULL_CTRL_Enable, by (try unfold State.takes); decide +kernel⟩,
    ⟨poke [(FCH_CTRL_Enable 2, 1)] runS, FCH_CTRL 2, 0xFFFFFFFF, ((findRow (FCH_CTRL 2)).get (by (try unfold State.takes); decide +kernel)).1, [2], FCH_CTRL_Enable 2, by (try unfold State.takes); decide +kernel⟩⟩

theorem witness_commandWords :
    (∃ (s : State) (a : Nat) (v : Word) (c : Instr), c.wf = true ∧ commandWord c = some (a, v) ∧ s.takes a) ∧
    (∃ (s : State) (n : Nat) (v : Word) (start : Bool), n < 4096 ∧ s.takes CTX_CMD ∧ v = CTX_CMD_Op.into (CTX_CMD_Context.into 0 n) (if start then 1 else 2) ∧ s.flag CTX_CSTAT_Busy = true) ∧
    (∃ (s : State) (n : Nat) (v : Word) (start : Bool), n < 4096 ∧ s.takes CTX_CMD ∧ v = CTX_CMD_Op.into (CTX_CMD_Context.into 0 n) (if start then 1 else 2) ∧ s.flag CTX_CSTAT_Busy = false) :=
  ⟨⟨runS, SCH_CANCEL, 77, Instr.schCancel 77, by unfold State.takes; decide +kernel⟩,
    ⟨poke [(CTX_CSTAT_Busy, 1)] runS, 5, CTX_CMD_Op.into (CTX_CMD_Context.into 0 5) 1, true, by unfold State.takes; decide +kernel⟩,
    ⟨runS, 5, CTX_CMD_Op.into (CTX_CMD_Context.into 0 5) 1, true, by unfold State.takes; decide +kernel⟩⟩

theorem witness_actedWords :
    (∃ (s : State) (a : Nat) (r : RegRow) (ix : List Nat) (f : _), s.takes a ∧ findRow a = some (r, ix) ∧ (∃ i, i < 7 ∧ a = TMB_REFCFG i) ∨ a = TMB_FTCFG ∨ a = DMC_CTRL ∨ isPipConfig a = true ∧ f ∈ r.fields) ∧
    (∃ (s : State) (a : Nat) (p : Nat) (r : RegRow) (ix : List Nat), s.takes a ∧ findRow a = some (r, ix) ∧ p < 64 ∧ a = POD_CTRL p) ∧
    (∃ (s : State) (a : Nat) (r : RegRow) (ix : List Nat), s.takes a ∧ findRow a = some (r, ix) ∧ isHeldWord a = true) :=
  ⟨⟨runS, TMB_REFCFG 2, ((findRow (TMB_REFCFG 2)).get (by (try unfold State.takes); decide +kernel)).1, [2], (((findRow (TMB_REFCFG 2)).get (by (try unfold State.takes); decide +kernel)).1).fields.getD 0 ⟨0, 1, .ro⟩, by (try unfold State.takes); decide +kernel⟩,
    ⟨poke [(POD_PCFG_Member 5, 1)] runS, POD_CTRL 5, 5, ((findRow (POD_CTRL 5)).get (by (try unfold State.takes); decide +kernel)).1, [5], by (try unfold State.takes); decide +kernel⟩,
    ⟨runS, TMB_INCR, ((findRow (TMB_INCR)).get (by (try unfold State.takes); decide +kernel)).1, [], by (try unfold State.takes); decide +kernel⟩⟩

theorem witness_unusedAddresses :
    (∃ (s : State) (a : Nat), s.awake = true ∧ a % 4 = 0 ∧ findRow a = none ∧ isDmw a = false ∧ a < 2 ^ 32) ∧
    (∃ (s : State) (a : Nat) (i : Nat), s.awake = true ∧ a % 4 = 0 ∧ findRow a = none ∧ isDmw a = false ∧ a < 2 ^ 28 ∧ i < 24 ∧ mayAddress i 26 = true ∧ s.regHeld a = false) :=
  ⟨⟨runS, 0x30000000, by decide +kernel⟩,
    ⟨runS, 0x48000, 21, by decide +kernel⟩⟩

theorem witness_stoppedClocks :
    (∃ (s : State) (a : Nat) (i : Nat), s.awake = true ∧ s.regOff a = true ∧ s.regHeld a = false ∧ a % 4 = 0 ∧ a < 2 ^ 28 ∧ i < 24 ∧ mayAddress i 26 = true) :=
  ⟨poke [(PWR_STATUS_State, 1)] State.reset, 0x200000, 21, by decide +kernel⟩

theorem witness_wideReads :
    (∃ (s : State) (a : Nat), s.takes a ∧ a % 4 = 0 ∧ upperWords a ≠ []) ∧
    (∃ (s : State) (a : Nat) (i : Nat), s.takes a ∧ a % 4 = 0 ∧ a < 2 ^ 28 ∧ i < 24 ∧ mayAddress i 26 = true) :=
  ⟨⟨{ runS with time := 2 ^ 81 + 2 ^ 47 }, TMB_TIME_FR, by unfold State.takes; decide +kernel⟩,
    ⟨{ runS with time := 2 ^ 81 + 2 ^ 47 }, TMB_TIME_FR, 21, by unfold State.takes; decide +kernel⟩⟩

theorem witness_matrixTransactions :
    (∃ (s : State) (i : Nat) (id : Nat) (a : Nat) (n : Nat) (t : Nat) (q : Nat) (base : Nat) (w : LineWrite), s.awake = true ∧ s.mclk = true ∧ s.portState i = 0 ∧ matrixOk i id a (some w) n = true ∧ t = s.reqTarget i a ∧ q = s.reqId i id a ∧ (s.fencedIds i).contains q = false ∧ (t ≤ 23 → s.dmcOn = true) ∧ s.portQ i = [] ∧ base = a - 0x8000000000 ∧ t < 28 ∧ s.mtxHold i q t = none ∧ s.targetFree i q t ∧ t = 24 ∧ s.beatsOut t + n ≤ 64) ∧
    (∃ (s : State) (i : Nat) (id : Nat) (a : Nat) (n : Nat) (t : Nat) (q : Nat) (base : Nat) (w : LineWrite), s.awake = true ∧ s.mclk = true ∧ s.portState i = 0 ∧ matrixOk i id a (some w) n = true ∧ t = s.reqTarget i a ∧ q = s.reqId i id a ∧ (s.fencedIds i).contains q = false ∧ (t ≤ 23 → s.dmcOn = true) ∧ s.portQ i = [] ∧ base = a - 0x8000000000 ∧ t < 28 ∧ s.mtxHold i q t = none ∧ s.targetFree i q t ∧ t = 24 ∧ n ≤ 4 * min (portWidth i) (targetWidth t)) ∧
    (∃ (s : State) (i : Nat) (id : Nat) (a : Nat) (n : Nat) (t : Nat) (q : Nat) (base : Nat) (w : LineWrite), s.awake = true ∧ s.mclk = true ∧ s.portState i = 0 ∧ matrixOk i id a (some w) n = true ∧ t = s.reqTarget i a ∧ q = s.reqId i id a ∧ (s.fencedIds i).contains q = false ∧ (t ≤ 23 → s.dmcOn = true) ∧ s.portQ i = [] ∧ base = a - 0x8000000000 ∧ t < 28 ∧ s.mtxHold i q t = none ∧ s.targetFree i q t ∧ t = 27 ∧ n ≤ 4 * min (portWidth i) (targetWidth t)) ∧
    (∃ (s : State) (i : Nat) (id : Nat) (a : Nat) (n : Nat) (t : Nat) (q : Nat) (base : Nat) (w : LineWrite), s.awake = true ∧ s.mclk = true ∧ s.portState i = 0 ∧ matrixOk i id a (some w) n = true ∧ t = s.reqTarget i a ∧ q = s.reqId i id a ∧ (s.fencedIds i).contains q = false ∧ (t ≤ 23 → s.dmcOn = true) ∧ s.portQ i = [] ∧ base = a - 0x8000000000 ∧ t < 28 ∧ s.mtxHold i q t = none ∧ s.targetFree i q t ∧ (t = 25 ∨ t = 26) ∧ (t = 26 → ∀ j < 16 * n, s.regHeld (base + 4 * j) = false) ∧ (∀ j < 16 * n, s.regOff (base + 4 * j) = false)) ∧
    (∃ (s : State) (i : Nat) (id : Nat) (a : Nat) (n : Nat) (t : Nat) (q : Nat) (base : Nat) (w : LineWrite) (g : _) (r : _) (row : _) (ix : _), s.awake = true ∧ s.mclk = true ∧ s.portState i = 0 ∧ matrixOk i id a (some w) n = true ∧ t = s.reqTarget i a ∧ q = s.reqId i id a ∧ (s.fencedIds i).contains q = false ∧ (t ≤ 23 → s.dmcOn = true) ∧ s.portQ i = [] ∧ base = a - 0x8000000000 ∧ t < 28 ∧ s.mtxHold i q t = none ∧ s.targetFree i q t ∧ t = 25 ∧ n = 1 ∧ g < 16 ∧ r = base + 4 * g ∧ r < 0x940000 ∧ r % 64 ≠ 0 ∧ s.mclk = true ∧ findRow r = some (row, ix) ∧ w.strobes = (List.range 64).map (fun j => decide (j / 4 = g))) ∧
    (∃ (s : State) (i : Nat) (id : Nat) (a : Nat) (n : Nat) (t : Nat) (q : Nat) (base : Nat) (w : LineWrite), s.awake = true ∧ s.mclk = true ∧ s.portState i = 0 ∧ matrixOk i id a (some w) n = true ∧ t = s.reqTarget i a ∧ q = s.reqId i id a ∧ (s.fencedIds i).contains q = false ∧ (t ≤ 23 → s.dmcOn = true) ∧ s.portQ i = [] ∧ base = a - 0x8000000000 ∧ t < 28 ∧ s.mtxHold i q t = none ∧ s.targetFree i q t ∧ t ≤ 23 ∧ s.hbmIn a = true ∧ s.beatsOut t + n ≤ 128) ∧
    (∃ (s : State) (i : Nat) (id : Nat) (a : Nat) (n : Nat) (t : Nat) (q : Nat) (base : Nat) (w : LineWrite), s.awake = true ∧ s.mclk = true ∧ s.portState i = 0 ∧ matrixOk i id a (some w) n = true ∧ t = s.reqTarget i a ∧ q = s.reqId i id a ∧ (s.fencedIds i).contains q = false ∧ (t ≤ 23 → s.dmcOn = true) ∧ s.portQ i = [] ∧ base = a - 0x8000000000 ∧ t < 28 ∧ s.mtxHold i q t = none ∧ s.targetFree i q t ∧ t ≤ 23 ∧ s.hbmIn a = true ∧ n ≤ 4 * min (portWidth i) (targetWidth t) ∧ s.pcFailed (s.hbmPc a) = false ∧ s.dmc.sudden = [] ∧ (∀ b ∈ w.badParity, b = false)) ∧
    (∃ (s : State) (i : Nat) (id : Nat) (a : Nat) (n : Nat) (t : Nat) (q : Nat) (base : Nat) (w : LineWrite), s.awake = true ∧ s.mclk = true ∧ s.portState i = 0 ∧ matrixOk i id a (some w) n = true ∧ t = s.reqTarget i a ∧ q = s.reqId i id a ∧ (s.fencedIds i).contains q = false ∧ (t ≤ 23 → s.dmcOn = true) ∧ s.portQ i = [] ∧ base = a - 0x8000000000 ∧ t = 32 ∧ s.mtxHold i q 32 = none) ∧
    (∃ (s : State) (i : Nat) (id : Nat) (a : Nat) (n : Nat) (t : Nat) (q : Nat) (base : Nat) (w : LineWrite) (c : _), s.awake = true ∧ s.mclk = true ∧ s.portState i = 0 ∧ matrixOk i id a (some w) n = true ∧ t = s.reqTarget i a ∧ q = s.reqId i id a ∧ (s.fencedIds i).contains q = false ∧ (t ≤ 23 → s.dmcOn = true) ∧ s.portQ i = [] ∧ base = a - 0x8000000000 ∧ s.mtxHold i q t = some c) :=
  ⟨⟨runS, 17, 3, 0x4000000040, 1, (runS).reqTarget (17) (0x4000000040), (runS).reqId (17) (3) (0x4000000040), (0x4000000040) - 0x8000000000, lineW, by unfold State.targetFree; decide +kernel⟩,
    ⟨runS, 17, 3, 0x4000000040, 1, (runS).reqTarget (17) (0x4000000040), (runS).reqId (17) (3) (0x4000000040), (0x4000000040) - 0x8000000000, lineW, by unfold State.targetFree; decide +kernel⟩,
    ⟨runS, 19, 3, 0xA000000040, 1, (runS).reqTarget (19) (0xA000000040), (runS).reqId (19) (3) (0xA000000040), (0xA000000040) - 0x8000000000, lineW, by unfold State.targetFree; decide +kernel⟩,
    ⟨runS, 21, 3, 0x8000000040, 1, (runS).reqTarget (21) (0x8000000040), (runS).reqId (21) (3) (0x8000000040), (0x8000000040) - 0x8000000000, lineW, by unfold State.targetFree; decide +kernel⟩,
    ⟨poke [(CTX_CFG_Valid 3, 1)] runS, 21, 3, 0x80009000C0, 1, (poke [(CTX_CFG_Valid 3, 1)] runS).reqTarget (21) (0x80009000C0), (poke [(CTX_CFG_Valid 3, 1)] runS).reqId (21) (3) (0x80009000C0), (0x80009000C0) - 0x8000000000, (⟨(List.range 64).map fun j => BitVec.ofNat 8 (j + 100), (List.range 64).map (fun j => decide (j / 4 = 2)), List.replicate 64 false⟩ : LineWrite), 2, ((0x80009000C0) - 0x8000000000) + 4 * 2, ((findRow 0x9000C8).get (by (try unfold State.targetFree); decide +kernel)).1, [3], by (try unfold State.targetFree); decide +kernel⟩,
    ⟨dmcS, 17, 3, 0x340, 1, (dmcS).reqTarget (17) (0x340), (dmcS).reqId (17) (3) (0x340), (0x340) - 0x8000000000, lineW, by unfold State.targetFree; decide +kernel⟩,
    ⟨dmcS, 17, 3, 0x340, 1, (dmcS).reqTarget (17) (0x340), (dmcS).reqId (17) (3) (0x340), (0x340) - 0x8000000000, lineW, by unfold State.targetFree; decide +kernel⟩,
    ⟨runS, 17, 3, 0x5000000000, 1, (runS).reqTarget (17) (0x5000000000), (runS).reqId (17) (3) (0x5000000000), (0x5000000000) - 0x8000000000, lineW, by decide +kernel⟩,
    ⟨runS.setMtxOut 15 [⟨3, 2, false, .done, [], []⟩], 15, 3, 0x4000000040, 1, (runS.setMtxOut 15 [⟨3, 2, false, .done, [], []⟩]).reqTarget (15) (0x4000000040), (runS.setMtxOut 15 [⟨3, 2, false, .done, [], []⟩]).reqId (15) (3) (0x4000000040), (0x4000000040) - 0x8000000000, lineW, MTX_ORDHOLD 15, by decide +kernel⟩⟩

theorem witness_unitResets :
    (∃ (s : State) (u : Nat) (i : Nat) (id : _) (x : _), u < 23 ∧ i = unitPort u ∧ s.takes GLB_URESET ∧ id < 32 ∧ (s.mtxOut i).find? (fun x => decide (x.id = id)) = some x ∧ x.stage ≠ .done) ∧
    (∃ (s : State) (u : Nat) (i : Nat) (id : _) (x : _), u < 23 ∧ i = unitPort u ∧ s.takes GLB_URESET ∧ id < 32 ∧ (s.mtxOut i).find? (fun x => decide (x.id = id)) = some x ∧ x.stage = .done ∧ s.portQ i = [] ∧ tget [] s.mtx.wait x.target = [] ∧ s.portState i = 0 ∧ (s.fencedIds i).contains id = false) ∧
    (∃ (s : State) (u : Nat) (i : Nat) (id : _) (x : _), u < 23 ∧ i = unitPort u ∧ s.takes GLB_URESET ∧ id < 32 ∧ (s.mtxOut i).find? (fun x => decide (x.id = id)) = some x ∧ x.stage = .done ∧ s.portQ i = [] ∧ tget [] s.mtx.wait x.target = [] ∧ (s.fencedIds i).contains id = true) ∧
    (∃ (s : State) (u : Nat) (i : Nat) (l : _), u < 23 ∧ i = unitPort u ∧ s.takes GLB_URESET ∧ (s.reg GLB_URESET).getLsbD u = false ∧ l = (s.mtxOut i).filter (fun x => decide (x.stage ≠ .accepted))) ∧
    (∃ (s : State) (u : Nat) (i : Nat), u < 23 ∧ i = unitPort u ∧ s.takes GLB_URESET) ∧
    (∃ (s : State) (u : Nat) (i : Nat), u < 23 ∧ i = unitPort u ∧ s.takes GLB_URESET ∧ s.portState i = 1 ∧ s.mtxOut i = []) ∧
    (∃ (s : State) (u : Nat) (i : Nat), u < 23 ∧ i = unitPort u ∧ s.takes GLB_URESET ∧ s.portState i = 1) :=
  ⟨⟨runS.setMtxOut 17 [(⟨3, 24, false, .granted, [1, 2], [false, false]⟩ : MtxTxn)], 17, 17, 3, (⟨3, 24, false, .granted, [1, 2], [false, false]⟩ : MtxTxn), by unfold State.takes; decide +kernel⟩,
    ⟨runS.setMtxOut 17 [(⟨3, 24, false, .done, [1, 2], [false, false]⟩ : MtxTxn)], 17, 17, 3, (⟨3, 24, false, .done, [1, 2], [false, false]⟩ : MtxTxn), by unfold State.takes; decide +kernel⟩,
    ⟨(runS.setMtxOut 17 [(⟨3, 24, false, .done, [1, 2], [false, false]⟩ : MtxTxn)]).setFenced 17 [3], 17, 17, 3, (⟨3, 24, false, .done, [1, 2], [false, false]⟩ : MtxTxn), by unfold State.takes; decide +kernel⟩,
    ⟨runS.setMtxOut 17 [(⟨3, 24, false, .done, [1, 2], [false, false]⟩ : MtxTxn)], 17, 17, [(⟨3, 24, false, .done, [1, 2], [false, false]⟩ : MtxTxn)], by unfold State.takes; decide +kernel⟩,
    ⟨(runS.fset (MTX_PSTAT_State 17) 2).setReg GLB_URESET 0x20000, 17, 17, by unfold State.takes; decide +kernel⟩,
    ⟨runS.fset (MTX_PSTAT_State 17) 1, 17, 17, by unfold State.takes; decide +kernel⟩,
    ⟨(runS.setMtxOut 17 [(⟨3, 24, false, .done, [1, 2], [false, false]⟩ : MtxTxn)]).fset (MTX_PSTAT_State 17) 1, 17, 17, by unfold State.takes; decide +kernel⟩⟩

theorem witness_crossings :
    (∃ (s : State) (k : Nat) (n : Nat), k < 14 ∧ n < xInstances k ∧ s.awake = true) ∧
    (∃ (s : State) (k : Nat) (n : Nat), k < 14 ∧ n < xInstances k ∧ (∀ u ∈ s.xUnits k n, s.unitInReset u = false)) ∧
    (∃ (s : State) (k : Nat) (n : Nat), k < 14 ∧ n < xInstances k ∧ (∃ u ∈ s.xUnits k n, s.unitInReset u = true)) ∧
    (∃ (s : State) (k : Nat) (n : Nat), k < 14 ∧ n < xInstances k ∧ k = 10 ∧ s.awake = true ∧ s.xIsHeld 10 n = false ∧ tget 0 s.mtx.pulse n ≠ 0) :=
  ⟨⟨{ runS with fch := { runS.fch with pend := [(15, [])] } }, 3, 15, by decide +kernel⟩,
    ⟨runS, 3, 15, by decide +kernel⟩,
    ⟨(runS.setReg GLB_URSTAT 0x8000), 3, 15, by decide +kernel⟩,
    ⟨{ runS with mtx := { runS.mtx with pulse := [(2, 7)] } }, 10, 2, by decide +kernel⟩⟩

theorem witness_busAddresses :
    (∃ (s : State) (da : Nat) (e : Nat), s.sdrOn = true ∧ s.pinsAway = false ∧ da < 128 ∧ e < 256 ∧ s.daValid = false) ∧
    (∃ (s : State) (da : Nat) (e : Nat), s.sdrOn = true ∧ s.pinsAway = false ∧ da < 128 ∧ e < 256 ∧ s.daValid = false ∧ s.i3c.hjEn = true ∧ s.i3c.hjDone = false ∧ s.i3c.hjAt + 12500000 ≤ s.tim.ticks) ∧
    (∃ (s : State) (da : Nat) (e : Nat), s.sdrOn = true ∧ s.pinsAway = false ∧ da < 128 ∧ e < 256 ∧ (s.daValid = true ∨ s.i3c.hjEn = false ∨ s.i3c.hjDone = true ∨ s.tim.ticks < s.i3c.hjAt + 12500000)) ∧
    (∃ (s : State) (da : Nat) (e : Nat), s.sdrOn = true ∧ s.pinsAway = false ∧ da < 128 ∧ e < 256 ∧ s.daValid = true) ∧
    (∃ (s : State) (da : Nat) (n : Nat) (e : Nat), s.sdrOn = true ∧ s.pinsAway = false ∧ da < 128 ∧ e < 256 ∧ n < 4) ∧
    (∃ (s : State) (da : Nat) (n : Nat) (e : Nat), s.sdrOn = true ∧ s.pinsAway = false ∧ da < 128 ∧ e < 256 ∧ n < 65536) ∧
    (∃ (s : State) (da : Nat) (n : Nat) (e : Nat), s.sdrOn = true ∧ s.pinsAway = false ∧ da < 128 ∧ e < 256 ∧ n < 65536) ∧
    (∃ (s : State) (da : Nat) (n : Nat) (e : Nat), s.sdrOn = true ∧ s.pinsAway = false ∧ da < 128 ∧ e < 256 ∧ n < 65536 ∧ e ≠ 1) ∧
    (∃ (s : State) (da : Nat) (e : Nat), s.sdrOn = true ∧ s.pinsAway = false ∧ da < 128 ∧ e < 256 ∧ 1 < e) :=
  ⟨⟨runS, 127, 9, by decide +kernel⟩,
    ⟨{ runS with i3c := { runS.i3c with hjEn := true }, tim := { runS.tim with ticks := 12500000 } }, 127, 9, by decide +kernel⟩,
    ⟨poke [(GLB_STATUS_DaValid, 1)] runS, 127, 9, by decide +kernel⟩,
    ⟨poke [(GLB_STATUS_DaValid, 1)] runS, 127, 9, by decide +kernel⟩,
    ⟨runS, 127, 3, 9, by decide +kernel⟩,
    ⟨runS, 127, 65535, 9, by decide +kernel⟩,
    ⟨runS, 127, 2, 9, by decide +kernel⟩,
    ⟨runS, 127, 65535, 2, by decide +kernel⟩,
    ⟨runS, 127, 2, by decide +kernel⟩⟩

theorem witness_busAnswers :
    (∃ (s : State) (code : Nat), s.sdrOn = true ∧ s.daValid = true ∧ s.pinsAway = false ∧ code < 256) :=
  ⟨poke [(GLB_STATUS_DaValid, 1)] runS, 128, by decide +kernel⟩

theorem witness_busWrites :
    (∃ (s : State) (bs : List Byte) (c : Instr), s.pinsAway = false ∧ 4 ≤ bs.length ∧ bs.length % 4 = 0 ∧ bs.length ≤ s.fget GLB_LEN_Mwl ∧ ((c = .sdrWrite bs none ∧ s.sdrOn = true ∧ s.daValid = true) ∨ (c = .regWrite bs true ∧ s.ddrOn = true) ∨ (c = .setAddr bs ∧ bs.length = 4 ∧ s.ddrOn = true)) ∧ s.bufRoom = false) ∧
    (∃ (s : State) (bs : List Byte) (j : Nat) (c : Instr), s.pinsAway = false ∧ 4 ≤ bs.length ∧ bs.length % 4 = 0 ∧ bs.length ≤ s.fget GLB_LEN_Mwl ∧ ((c = .sdrWrite bs none ∧ s.sdrOn = true ∧ s.daValid = true) ∨ (c = .regWrite bs true ∧ s.ddrOn = true) ∨ (c = .setAddr bs ∧ bs.length = 4 ∧ s.ddrOn = true)) ∧ s.bufRoom = true ∧ s.sdrOn = true ∧ s.daValid = true ∧ j < 4) ∧
    (∃ (s : State) (bs : List Byte) (c : Instr), s.pinsAway = false ∧ 4 ≤ bs.length ∧ bs.length % 4 = 0 ∧ bs.length ≤ s.fget GLB_LEN_Mwl ∧ ((c = .sdrWrite bs none ∧ s.sdrOn = true ∧ s.daValid = true) ∨ (c = .regWrite bs true ∧ s.ddrOn = true) ∨ (c = .setAddr bs ∧ bs.length = 4 ∧ s.ddrOn = true)) ∧ s.bufRoom = true ∧ s.ddrOn = true) :=
  ⟨⟨let s := poke [(GLB_STATUS_DaValid, 1), (GLB_STATUS_HdrActive, 1)] runS; { s with i3c := { s.i3c with posted := List.replicate 400 ⟨0, 0, false⟩ } }, (List.replicate 8 3), (Instr.regWrite (List.replicate 8 3) true), by decide +kernel⟩,
    ⟨poke [(GLB_STATUS_DaValid, 1)] runS, (List.replicate 8 3), 3, (Instr.sdrWrite (List.replicate 8 3) none), by decide +kernel⟩,
    ⟨poke [(GLB_STATUS_DaValid, 1), (GLB_STATUS_HdrActive, 1)] runS, List.replicate 4 255, Instr.setAddr (List.replicate 4 255), by decide +kernel⟩⟩

theorem witness_busReads :
    (∃ (s : State) (m : Nat) (c : Instr), s.pinsAway = false ∧ ((c = .sdrRead (4 * m) ∧ s.sdrOn = true ∧ s.daValid = true) ∨ (c = .regRead (4 * m) ∧ s.ddrOn = true)) ∧ 1 ≤ m ∧ m ≤ s.i3c.prefetch.length ∧ 4 * m ≤ s.fget GLB_LEN_Mrl) ∧
    (∃ (s : State) (m : Nat) (c : Instr), s.pinsAway = false ∧ ((c = .sdrRead (4 * m) ∧ s.sdrOn = true ∧ s.daValid = true) ∨ (c = .regRead (4 * m) ∧ s.ddrOn = true)) ∧ 1 ≤ m ∧ s.i3c.prefetch = [] ∧ 0 < s.fget GLB_LEN_Mrl) ∧
    (∃ (s : State) (a : _), s.pinsAway = false ∧ a = (s.i3c.ptr + 4 * s.i3c.prefetch.length) % 2 ^ 32 ∧ s.awake = true ∧ s.i3c.posted = [] ∧ s.i3c.prefetch.length < 8 ∧ s.regHeld a = false ∧ s.regOff a = false ∧ isDmw a = false) ∧
    (∃ (s : State), s.pinsAway = false ∧ s.awake = true) ∧
    (∃ (s : State), s.pinsAway = false ∧ s.sdrOn = true ∧ (s.ibiWanted = true ∨ (s.i3c.ibiReq = true ∧ s.enabledCauses ≠ 0)) ∧ s.ibiMay = true) ∧
    (∃ (s : State), s.pinsAway = false ∧ s.sdrOn = true ∧ (s.ibiWanted = true ∨ (s.i3c.ibiReq = true ∧ s.enabledCauses ≠ 0)) ∧ s.ibiMay = false) ∧
    (∃ (s : State), s.pinsAway = false ∧ s.sdrOn = true ∧ s.ibiWanted = false ∧ (s.i3c.ibiReq = false ∨ s.enabledCauses = 0)) ∧
    (∃ (s : State), s.pinsAway = false ∧ s.sdrOn = true ∧ s.i3c.ibiReq = true) :=
  ⟨⟨{ poke [(GLB_STATUS_DaValid, 1)] runS with i3c := { runS.i3c with prefetch := [1, 2, 3] } }, 2, (Instr.sdrRead (4 * 2)), by decide +kernel⟩,
    ⟨poke [(GLB_STATUS_DaValid, 1), (GLB_STATUS_HdrActive, 1)] runS, 2, (Instr.regRead (4 * 2)), by decide +kernel⟩,
    ⟨{ runS with i3c := { runS.i3c with ptr := TMB_TIME_FR } }, TMB_TIME_FR, by decide +kernel⟩,
    ⟨{ poke [(GLB_STATUS_DaValid, 1)] runS with i3c := { runS.i3c with prefetch := [1, 2, 3] } }, by decide +kernel⟩,
    ⟨let s := poke [(GLB_STATUS_DaValid, 1)] ((runS.setReg GLB_INTEN 4).setReg GLB_INTPEND 4); { s with i3c := { s.i3c with ibiEn := true } }, by decide +kernel⟩,
    ⟨let s := poke [(GLB_STATUS_DaValid, 1)] ((runS.setReg GLB_INTEN 4).setReg GLB_INTPEND 4); { s with i3c := { s.i3c with ibiEn := true, ibiAt := 1 } }, by decide +kernel⟩,
    ⟨{ poke [(GLB_STATUS_DaValid, 1)] runS with i3c := { runS.i3c with prefetch := [1, 2, 3] } }, by decide +kernel⟩,
    ⟨{ runS with i3c := { runS.i3c with ibiReq := true } }, by decide +kernel⟩⟩

theorem witness_imageStreams :
    (∃ (s : State) (c : Instr) (stage : Bool), s.awake = true ∧ s.img.romHbm = false ∧ ((c = .imgLoad ∧ stage = false) ∨ (c = .imgStage ∧ stage = true)) ∧ s.img.check = false ∧ s.img.reload = none ∧ (stage = false → s.anyLive = false) ∧ s.dmcReady = true) ∧
    (∃ (s : State) (c : Instr) (stage : Bool), s.awake = true ∧ s.img.romHbm = false ∧ ((c = .imgLoad ∧ stage = false) ∨ (c = .imgStage ∧ stage = true)) ∧ s.img.check = false ∧ s.img.reload = none ∧ (stage = false → s.anyLive = false) ∧ s.dmcReady = false) ∧
    (∃ (s : State) (c : Instr) (stage : Bool), s.awake = true ∧ s.img.romHbm = false ∧ ((c = .imgLoad ∧ stage = false) ∨ (c = .imgStage ∧ stage = true)) ∧ s.img.check = true) ∧
    (∃ (s : State) (c : Instr) (stage : Bool), s.awake = true ∧ s.img.romHbm = false ∧ ((c = .imgLoad ∧ stage = false) ∨ (c = .imgStage ∧ stage = true)) ∧ s.img.open' = true ∧ s.img.mapLost = false) :=
  ⟨⟨poke [(DMC_STATUS_Ready, 1)] dmcS, Instr.imgStage, true, by decide +kernel⟩,
    ⟨dmcS, Instr.imgStage, true, by decide +kernel⟩,
    ⟨{ runS with img := { runS.img with check := true } }, Instr.imgStage, true, by decide +kernel⟩,
    ⟨{ runS with img := { runS.img with open' := true } }, Instr.imgStage, true, by decide +kernel⟩⟩

theorem witness_imageBytes :
    (∃ (s : State) (a : Nat), s.awake = true ∧ s.img.open' = true ∧ s.img.seed = false ∧ s.dmcReady = true ∧ s.hbmHeld = false ∧ 32 ≤ s.img.head.length ∧ s.img.head.length = headLen s.img.head ∧ a = slotBase s.nextSlot + s.fget IMG_RXCOUNT_Bytes ∧ s.fget IMG_RXCOUNT_Bytes + 4 ≤ hdrTotal s.img.head ∧ (∀ i < 4, s.hbmIn (a + i) = true ∧ s.pcFailed (s.hbmPc (a + i)) = false)) :=
  ⟨let s := (poke [(DMC_STATUS_Ready, 1)] dmcS).setReg IMG_RXCOUNT 32; { s with img := { s.img with open' := true, head := (List.replicate 8 0 ++ [36, 0, 0, 0, 0, 0, 0, 0] ++ List.replicate 16 0) } }, 32, by decide +kernel⟩

theorem witness_imageEnds :
    (∃ (s : State) (slot : Nat) (node : Nat) (h : List Byte), s.img.check = true ∧ s.hbmHeld = false ∧ slot = s.nextSlot ∧ h = s.slotHead slot ∧ node = (s.nodeIn slot).getD 0 ∧ s.img.mapLost = false) :=
  ⟨{ dmcS with img := { dmcS.img with check := true } }, 0, ((({ dmcS with img := { dmcS.img with check := true } } : State).nodeIn 0).getD 0), ({ dmcS with img := { dmcS.img with check := true } } : State).slotHead 0, by decide +kernel⟩

theorem witness_reloadsAndScrubs :
    (∃ (s : State) (mask : Nat), mask < 1024 ∧ s.awake = true ∧ s.img.reload = none ∧ s.img.check = false ∧ s.img.stagedLen = 0) ∧
    (∃ (s : State) (mask : Nat), mask < 1024 ∧ s.awake = true ∧ s.img.reload = none ∧ s.img.check = false ∧ s.img.stagedLen ≠ 0 ∧ s.dmcReady = true) ∧
    (∃ (s : State) (mask : Nat) (r : ReloadSt), mask < 1024 ∧ s.img.reload = some r ∧ s.reloadStopped r = true ∧ r.units.all s.unitCalm = true ∧ s.dmcReady = true ∧ s.hbmHeld = false) ∧
    (∃ (s : State) (mask : Nat) (r : ReloadSt) (t0 : _) (rec : _) (a : _) (v : _) (node : _) (row : _) (ix : _), mask < 1024 ∧ s.img.reload = some r ∧ s.reloadStopped r = true ∧ r.units.all s.unitCalm = true ∧ s.dmcReady = true ∧ s.hbmHeld = false ∧ node = s.fget IMG_NODE_NodeId ∧ (s.chosenSecs r.mask).map (fun x => (x, s.stagedRecs x)) = [(t0, [rec])] ∧ (∀ b bs, rec.body ≠ .hbm b bs) ∧ rec.words = [(a, v)] ∧ secOf a = t0 ∧ plainReg a = true ∧ findRow a = some (row, ix) ∧ s.reloadClear.wordChanges node a v = true ∧ (r.units.flatMap enablesOf).filter (fun x => s.flag (enableFld x)) = [] ∧ r.again = [] ∧ (s.reloadClear.ownerOpen row.owner ix = true ∨ row.hasRwl = false)) ∧
    (∃ (s : State) (mask : Nat) (r : ReloadSt), mask < 1024 ∧ s.img.reload = some r ∧ s.reloadStopped r = false) ∧
    (∃ (s : State) (mask : Nat), mask < 1024 ∧ s.awake = true ∧ s.img.golden ≠ [] ∧ (∀ x ∈ s.img.golden, 0x100 ≤ x.1 ∧ x.1 < 0xC00000) ∧ (s.img.golden.map (·.1)).Nodup) :=
  ⟨⟨runS, 4, by decide +kernel⟩,
    ⟨let s := poke [(DMC_STATUS_Ready, 1)] dmcS; { s with img := { s.img with stagedLen := 64 } }, 4, by decide +kernel⟩,
    ⟨let s := poke [(DMC_STATUS_Ready, 1)] dmcS; { s with img := { s.img with reload := some (⟨false, 4, [(4, 0)], [0], []⟩ : ReloadSt) } }, 4, (⟨false, 4, [(4, 0)], [0], []⟩ : ReloadSt), by decide +kernel⟩,
    ⟨let s := (poke [(DMC_STATUS_Ready, 1)] dmcS).hbmWrite 0 (List.replicate 6 0 ++ [1, 0, 64] ++ List.replicate 23 0 ++ [3, 0, 0, 0, 48, 0, 0, 0, 16, 0, 0, 0, 0, 0, 0, 0] ++ [1, 0, 0, 128, 1, 0, 0, 0] ++ leBytes 4 TMB_HOLD ++ [0x34, 0x12, 0, 0]); { s with img := { s.img with reload := some (⟨false, 4, [], [], []⟩ : ReloadSt) } }, 4, (⟨false, 4, [], [], []⟩ : ReloadSt), 3, (⟨48, true, 0, .regs TMB_HOLD [0x1234]⟩ : ImgRec), TMB_HOLD, 0x1234, 0, ((findRow TMB_HOLD).get (by decide +kernel)).1, [], by decide +kernel, by decide +kernel, by decide +kernel, by decide +kernel, by decide +kernel, by decide +kernel, by decide +kernel, by decide +kernel, by intro b bs; simp, by decide +kernel, by decide +kernel, by decide +kernel, by decide +kernel, by decide +kernel, by decide +kernel, by decide +kernel, by decide +kernel⟩,
    ⟨let s := ctxS.fset (CTX_STATE_State 0) 3; { s with img := { s.img with reload := some (⟨false, 4, [(4, 0)], [0], []⟩ : ReloadSt) } }, 4, (⟨false, 4, [(4, 0)], [0], []⟩ : ReloadSt), by decide +kernel⟩,
    ⟨{ runS with img := { runS.img with golden := [(0x200008, some 0x10)] } }, 4, by decide +kernel⟩⟩

theorem witness_sproutMode :
    (∃ (s : State) (e : Nat) (stage : Nat) (pass : Bool) (result : StageResult), s.awake = true ∧ e < 16 ∧ stage < 6 ∧ (∀ x ∈ result.columns, x.1 < 64 ∧ x.2 < 33) ∧ pass = s.stagePass stage result ∧ s.img.check = false ∧ s.img.reload = none ∧ s.img.romHbm = false ∧ s.anyLive = false ∧ s.dmcReady = false ∧ s.img.mapLost = false) ∧
    (∃ (s : State) (e : Nat) (stage : Nat) (pass : Bool) (result : StageResult), s.awake = true ∧ e < 16 ∧ stage < 6 ∧ (∀ x ∈ result.columns, x.1 < 64 ∧ x.2 < 33) ∧ pass = s.stagePass stage result ∧ s.img.check = false ∧ s.img.reload = none ∧ s.img.romHbm = false ∧ s.anyLive = false ∧ s.dmcReady = true ∧ s.img.open' = false) ∧
    (∃ (s : State) (e : Nat) (stage : Nat) (pass : Bool) (result : StageResult), s.awake = true ∧ e < 16 ∧ stage < 6 ∧ (∀ x ∈ result.columns, x.1 < 64 ∧ x.2 < 33) ∧ pass = s.stagePass stage result ∧ s.img.appliedLen = 0) ∧
    (∃ (s : State) (e : Nat) (stage : Nat) (pass : Bool) (result : StageResult), s.awake = true ∧ e < 16 ∧ stage < 6 ∧ (∀ x ∈ result.columns, x.1 < 64 ∧ x.2 < 33) ∧ pass = s.stagePass stage result ∧ s.img.appliedLen ≠ 0 ∧ s.sprout = false) ∧
    (∃ (s : State) (e : Nat) (stage : Nat) (pass : Bool) (result : StageResult), s.awake = true ∧ e < 16 ∧ stage < 6 ∧ (∀ x ∈ result.columns, x.1 < 64 ∧ x.2 < 33) ∧ pass = s.stagePass stage result ∧ s.sprout = true ∧ s.isRun = true ∧ s.flag (FCH_STATUS_Anchored e) = true) ∧
    (∃ (s : State) (e : Nat) (stage : Nat) (pass : Bool) (result : StageResult), s.awake = true ∧ e < 16 ∧ stage < 6 ∧ (∀ x ∈ result.columns, x.1 < 64 ∧ x.2 < 33) ∧ pass = s.stagePass stage result ∧ s.img.testStage = stage + 1 ∧ stage < 5 ∧ (stage = 3 → ∀ x ∈ result.columns, s.canSteer x.1 = false)) ∧
    (∃ (s : State) (e : Nat) (stage : Nat) (pass : Bool) (result : StageResult), s.awake = true ∧ e < 16 ∧ stage < 6 ∧ (∀ x ∈ result.columns, x.1 < 64 ∧ x.2 < 33) ∧ pass = s.stagePass stage result ∧ s.img.testStage = stage + 1 ∧ stage = 3 ∧ (∃ x ∈ result.columns, s.canSteer x.1 = true)) ∧
    (∃ (s : State) (e : Nat) (stage : Nat) (pass : Bool) (result : StageResult), s.awake = true ∧ e < 16 ∧ stage < 6 ∧ (∀ x ∈ result.columns, x.1 < 64 ∧ x.2 < 33) ∧ pass = s.stagePass stage result ∧ s.img.testStage = stage + 1 ∧ stage = 5 ∧ (s.stopAll s.liveCtxs).anyLive = true) ∧
    (∃ (s : State) (e : Nat) (stage : Nat) (pass : Bool) (result : StageResult), s.awake = true ∧ e < 16 ∧ stage < 6 ∧ (∀ x ∈ result.columns, x.1 < 64 ∧ x.2 < 33) ∧ pass = s.stagePass stage result ∧ s.img.testStage = stage + 1 ∧ stage = 5 ∧ (s.stopAll s.liveCtxs).anyLive = false) :=
  ⟨⟨runS, 3, 5, runS.stagePass 5 ⟨true, [], []⟩, (⟨true, [], []⟩ : StageResult), by decide +kernel⟩,
    ⟨poke [(DMC_STATUS_Ready, 1)] dmcS, 3, 5, runS.stagePass 5 ⟨true, [], []⟩, (⟨true, [], []⟩ : StageResult), by decide +kernel⟩,
    ⟨runS, 3, 5, runS.stagePass 5 ⟨true, [], []⟩, (⟨true, [], []⟩ : StageResult), by decide +kernel⟩,
    ⟨{ runS with img := { runS.img with appliedLen := 64 } }, 3, 5, runS.stagePass 5 ⟨true, [], []⟩, (⟨true, [], []⟩ : StageResult), by decide +kernel⟩,
    ⟨poke [(IMG_STATUS_SproutActive, 1), (FCH_STATUS_Anchored 3, 1)] runS, 3, 5, runS.stagePass 5 ⟨true, [], []⟩, (⟨true, [], []⟩ : StageResult), by decide +kernel⟩,
    ⟨{ runS with img := { runS.img with testStage := 5 } }, 3, 4, runS.stagePass 4 ⟨true, [], []⟩, (⟨true, [], []⟩ : StageResult), by decide +kernel, by decide +kernel, by decide +kernel, by decide +kernel, rfl, by decide +kernel, by decide +kernel, by decide +kernel⟩,
    ⟨let s := poke [(POD_SPARECFG_AutoSteer 5, 1), (POD_PCFG_Member 5, 1)] runS; { s with img := { s.img with testStage := 4 } }, 3, 3, runS.stagePass 3 ⟨true, [], [(5, 7)]⟩, (⟨true, [], [(5, 7)]⟩ : StageResult), by decide +kernel, by decide +kernel, by decide +kernel, by decide +kernel, rfl, by decide +kernel, by decide +kernel, by decide +kernel⟩,
    ⟨let s := poke [(CTX_STATE_State 0, 3), (CTX_K0_HI_StartMode 0, 1)] ctxS; { s with img := { s.img with testStage := 6 } }, 3, 5, runS.stagePass 5 ⟨true, [], []⟩, (⟨true, [], []⟩ : StageResult), by decide +kernel⟩,
    ⟨{ runS with img := { runS.img with testStage := 6 } }, 3, 5, runS.stagePass 5 ⟨true, [], []⟩, (⟨true, [], []⟩ : StageResult), by decide +kernel⟩⟩

theorem witness_errorsAreHandled :
    (∃ (s : State) (site : Nat) (inst : Nat) (info : Nat) (store : Nat) (i : Nat) (y : Nat), s.awake = true ∧ 1 ≤ site ∧ site ≤ 13 ∧ inst < siteInstances site ∧ info < 2 ^ 32 ∧ 1 ≤ store ∧ store ≤ 7 ∧ i < storeSize store ∧ y < 2 ^ 32) ∧
    (∃ (s : State) (site : Nat) (inst : Nat) (info : Nat) (store : Nat) (i : Nat) (y : Nat), s.awake = true ∧ 1 ≤ site ∧ site ≤ 13 ∧ inst < siteInstances site ∧ info < 2 ^ 32 ∧ 1 ≤ store ∧ store ≤ 7 ∧ i < storeSize store ∧ y < 2 ^ 32) ∧
    (∃ (s : State) (site : Nat) (inst : Nat) (info : Nat) (store : Nat) (i : Nat) (y : Nat), s.awake = true ∧ 1 ≤ site ∧ site ≤ 13 ∧ inst < siteInstances site ∧ info < 2 ^ 32 ∧ 1 ≤ store ∧ store ≤ 7 ∧ i < storeSize store ∧ y < 2 ^ 32) :=
  ⟨⟨runS, 4, 22, 9, 1, 0, 0, by decide +kernel⟩,
    ⟨runS, 13, 0, 9, 1, 0, 0, by decide +kernel⟩,
    ⟨poke [(CTX_STATE_State 0, 3)] runS, 13, 0, 9, 1, 0, 0, by decide +kernel⟩⟩

theorem witness_logAndAccount :
    (∃ (s : State) (n : _), s.awake = true ∧ s.fget ERL_COUNT_Unread = n + 1) :=
  ⟨(runS.log 9 2 3 4).log 8 0 0 1, 1, by decide +kernel⟩

theorem witness_powerCommands :
    (∃ (s : State) (c : Instr) (k : Nat), s.awake = true ∧ ((c = .pwrStandby ∧ k = 1) ∨ (c = .pwrRetain ∧ k = 2) ∨ (c = .pwrReady ∧ k = 3) ∨ (c = .pwrRun ∧ k = 4)) ∧ s.flag PWR_STATUS_Tripped = true) ∧
    (∃ (s : State) (c : Instr) (k : Nat), s.awake = true ∧ ((c = .pwrStandby ∧ k = 1) ∨ (c = .pwrRetain ∧ k = 2) ∨ (c = .pwrReady ∧ k = 3) ∨ (c = .pwrRun ∧ k = 4)) ∧ s.flag PWR_STATUS_Tripped = false ∧ s.flag PWR_STATUS_Busy = true) ∧
    (∃ (s : State) (c : Instr) (k : Nat), s.awake = true ∧ ((c = .pwrStandby ∧ k = 1) ∨ (c = .pwrRetain ∧ k = 2) ∨ (c = .pwrReady ∧ k = 3) ∨ (c = .pwrRun ∧ k = 4)) ∧ s.flag PWR_STATUS_Tripped = false ∧ s.flag PWR_STATUS_Busy = false ∧ k = s.pwrState) ∧
    (∃ (s : State) (c : Instr) (k : Nat), s.awake = true ∧ ((c = .pwrStandby ∧ k = 1) ∨ (c = .pwrRetain ∧ k = 2) ∨ (c = .pwrReady ∧ k = 3) ∨ (c = .pwrRun ∧ k = 4)) ∧ s.flag PWR_STATUS_Tripped = false ∧ s.flag PWR_STATUS_Busy = false ∧ k ≠ s.pwrState ∧ mayGo s.pwrState k = false) ∧
    (∃ (s : State) (c : Instr) (k : Nat), s.awake = true ∧ ((c = .pwrStandby ∧ k = 1) ∨ (c = .pwrRetain ∧ k = 2) ∨ (c = .pwrReady ∧ k = 3) ∨ (c = .pwrRun ∧ k = 4)) ∧ s.flag PWR_STATUS_Tripped = false ∧ s.flag PWR_STATUS_Busy = false ∧ mayGo s.pwrState k = true ∧ k ≠ s.pwrState) :=
  ⟨⟨poke [(PWR_STATUS_Tripped, 1)] runS, Instr.pwrReady, 3, by decide +kernel⟩,
    ⟨poke [(PWR_STATUS_Busy, 1)] runS, Instr.pwrReady, 3, by decide +kernel⟩,
    ⟨runS, Instr.pwrRun, 4, by decide +kernel⟩,
    ⟨runS, Instr.pwrStandby, 1, by decide +kernel⟩,
    ⟨runS, Instr.pwrReady, 3, by decide +kernel⟩⟩

theorem witness_powerTransitions :
    (∃ (s : State) (c : Instr), s.pwr.phase = .drain ∧ s.anyLive = false ∧ (c = .drainComplete ∨ c = .drainTimeout)) ∧
    (∃ (s : State), s.pwr.phase = .drain ∧ s.anyLive = true) ∧
    (∃ (s : State), s.pwr.phase = .retain ∧ s.retainFree = true) ∧
    (∃ (s : State), s.pwr.phase = .exit ∧ s.dmc.again = []) ∧
    (∃ (s : State), s.pwr.phase = .exit ∧ s.dmc.again ≠ []) ∧
    (∃ (s : State), s.pwr.phase = .pll ∧ s.fget GLB_STRAP_BootSrc = 0) ∧
    (∃ (s : State) (slow : Bool), s.pwr.phase = .start ∧ (slow = true ∨ (s.dmcReady = true ∧ s.lanesLeft = false))) :=
  ⟨⟨let s := runS; { s with pwr := { s.pwr with phase := .drain } }, Instr.drainComplete, by decide +kernel⟩,
    ⟨let s := ctxS.fset (CTX_STATE_State 0) 3; { s with pwr := { s.pwr with phase := .drain } }, by decide +kernel⟩,
    ⟨let s := dmcS; { s with pwr := { s.pwr with phase := .retain } }, by decide +kernel⟩,
    ⟨let s := poke [(DMC_PCSTAT_State 3, 3), (DMC_PCSTAT_State 190, 3)] dmcS; { s with pwr := { s.pwr with phase := .exit } }, by decide +kernel⟩,
    ⟨let s := { dmcS with dmc := { dmcS.dmc with again := [(3, 1)] } }; { s with pwr := { s.pwr with phase := .exit } }, by decide +kernel⟩,
    ⟨let s := poke [(PWR_STATUS_State, 1)] State.reset; { s with pwr := { s.pwr with phase := .pll } }, by decide +kernel⟩,
    ⟨let s := poke [(PWR_STATUS_State, 1)] State.reset; { s with pwr := { s.pwr with phase := .start } }, true, by decide +kernel⟩⟩

theorem witness_temperature :
    (∃ (s : State) (q : Int) (rest : List Int), s.awake = true ∧ rest.length = 15 ∧ (∀ x ∈ q :: rest, -512 ≤ x ∧ x ≤ 511) ∧ s.pwr.fromVbat = false) ∧
    (∃ (s : State) (q : Int) (rest : List Int) (u : State), s.awake = true ∧ rest.length = 15 ∧ (∀ x ∈ q :: rest, -512 ≤ x ∧ x ≤ 511) ∧ u.awake = false ∧ u.pwr.fromVbat = false) :=
  ⟨⟨{ runS with pwr := { runS.pwr with warnArmed := true } }, 400, List.replicate 15 (-8), by decide +kernel⟩,
    ⟨{ runS with pwr := { runS.pwr with warnArmed := true } }, 400, List.replicate 15 (-8), { runS with pwr := { runS.pwr with inReset := true } }, by decide +kernel⟩⟩

theorem witness_resetAndSupplies :
    (∃ (s : State) (w : Nat), s.pwr.inReset = false ∧ w < 1000) ∧
    (∃ (s : State) (w : Nat), s.pwr.inReset = false ∧ 10000 ≤ w) ∧
    (∃ (s : State) (a : Nat) (b : Nat), s.pwr.inReset = true ∧ a < 8 ∧ b < 4) ∧
    (∃ (s : State), s.pwr.fromVbat = false) ∧
    (∃ (s : State), s.pwr.fromVbat = true) :=
  ⟨⟨ctxS, 999, by decide +kernel⟩,
    ⟨ctxS, 10000, by decide +kernel⟩,
    ⟨{ ctxS with pwr := { ctxS.pwr with inReset := true } }, 7, 3, by decide +kernel⟩,
    ⟨ctxS, by decide +kernel⟩,
    ⟨{ ctxS with pwr := { ctxS.pwr with fromVbat := true } }, by decide +kernel⟩⟩

theorem witness_shadowBank :
    (∃ (s : State) (n : Nat), s.takes PMC_CMD ∧ n < 512 ∧ s.pmcHeld = false) ∧
    (∃ (s : State) (n : Nat), s.takes PMC_CMD ∧ n < 512 ∧ s.pmcHeld = true) :=
  ⟨⟨runS.pmc 11 7, 11, by unfold State.takes; decide +kernel⟩,
    ⟨poke [(PMC_STATUS_Held, 1)] runS, 11, by unfold State.takes; decide +kernel⟩⟩

theorem witness_pipSampler :
    (∃ (s : State) (p : Nat), s.takes PMC_PIPCFG ∧ p < 64 ∧ s.fget PMC_PIPCFG_Mode = 2 ∧ s.pmcLive (s.fget PMC_PIPTRIG_Event) ≠ s.array.pipSeen) ∧
    (∃ (s : State) (p : Nat), s.takes PMC_PIPCFG ∧ p < 64) ∧
    (∃ (s : State) (p : Nat) (r : _) (lat : _) (ab : _), s.takes PMC_PIPCFG ∧ p < 64 ∧ s.cnt.pipStop = false ∧ s.portState 23 = 0 ∧ s.pipNext = some p ∧ (s.pod p).pip = some r ∧ r.done = some (lat, ab) ∧ s.flag PMC_PIPCFG_StopFull = false ∨ s.pipUnread ≠ 1024) ∧
    (∃ (s : State) (p : Nat) (r : _) (lat : _) (ab : _), s.takes PMC_PIPCFG ∧ p < 64 ∧ s.cnt.pipStop = false ∧ s.portState 23 = 0 ∧ s.pipNext = some p ∧ (s.pod p).pip = some r ∧ r.done = some (lat, ab) ∧ s.flag PMC_PIPCFG_StopFull = true ∧ s.pipUnread = 1024) ∧
    (∃ (s : State) (p : Nat) (n : _), s.takes PMC_PIPCFG ∧ p < 64 ∧ s.pipUnread = n + 1 ∧ n < 1024) :=
  ⟨⟨let s := poke [(PMC_PIPCFG_Mode, 2), (PMC_PIPTRIG_Event, 11)] ((runS.pmc 11 7).setReg PMC_PIPMASK_LO 0x20); s, 5, by unfold State.takes; decide +kernel⟩,
    ⟨runS, 5, by unfold State.takes; decide +kernel⟩,
    ⟨(runS.setPod 5 { PodSt.idle with pip := some ⟨true, 5, 9, 100, [(1, 3)], 0, some (12, false), 0, none⟩ }), 5, (⟨true, 5, 9, 100, [(1, 3)], 0, some (12, false), 0, none⟩ : PipRec), 12, false, by unfold State.takes; decide +kernel⟩,
    ⟨poke [(PMC_PIPCFG_StopFull, 1), (PMC_PIPCOUNT_Unread, 1024)] (runS.setPod 5 { PodSt.idle with pip := some ⟨true, 5, 9, 100, [(1, 3)], 0, some (12, false), 0, none⟩ }), 5, (⟨true, 5, 9, 100, [(1, 3)], 0, some (12, false), 0, none⟩ : PipRec), 12, false, by unfold State.takes; decide +kernel⟩,
    ⟨poke [(PMC_PIPCOUNT_Unread, 3)] runS, 5, 2, by unfold State.takes; decide +kernel⟩⟩

/-- A REACH payload of node 1. -/
def reachP : List Byte := [0x11, 0, 0, 1, 0, 5, 0, 1] ++ List.replicate 2048 0x21

theorem witness_reachabilityFollows :
    (∃ (s : State) (l : Nat) (p : List Byte) (r : ReachRep), l < 96 ∧ r = ⟨byteAt p 0 % 4, beAt p 4 2, beAt p 6 2 % 4096, unpackDist (p.drop 8)⟩ ∧ s.fabOn = true ∧ s.sprout = false ∧ s.linkUp l = true) ∧
    (∃ (s : State) (l : Nat) (p : List Byte) (rest : List (List Byte)) (r : ReachRep), l < 96 ∧ r = ⟨byteAt p 0 % 4, beAt p 4 2, beAt p 6 2 % 4096, unpackDist (p.drop 8)⟩ ∧ tget [] s.fab.reachq l = p :: rest ∧ p.length = 2056 ∧ byteAt p 0 / 16 = 1 ∧ (s.linkState l = 1 ∨ s.linkState l = 2)) :=
  ⟨⟨fabS, 5, reachP, _, by decide, rfl, by decide +kernel⟩,
    ⟨fabQ fabS fun x => { x with reachq := [(5, [reachP])] }, 5, reachP, [], _, by decide, rfl, rfl, by rw [reachP, List.length_append, List.length_replicate]; rfl, by decide +kernel, by decide +kernel⟩⟩

end
end

section
/-! Proofs about the state right after reset, the transmit time-stamps and the spans of the account. -/

namespace Sys2Proof.Machine
open Sys2Proof

variable {s : State}

/-! ## Outcomes -/

theorem gives_of {c : Instr} {t : State} {post : State → Prop} (h : exec c s = .next t) (hp : post t) : gives c s post :=
  ⟨t, h, hp⟩

theorem regsBut_of_regs {t : State} {l : List Nat} (h : t.regs = s.regs) : regsBut s t l := fun a _ => by
  unfold State.reg
  rw [h]

/-! ## The reset state -/

/-- Settles O4: every store of the reset state is empty, and the part has its supplies and is out of reset. -/
theorem resetMeetsInv : Obligations.ResetMeetsInv where
  memory := (memory_wf_iff _).mpr ⟨rfl, rfl, rfl, rfl, rfl, rfl, rfl⟩
  power := ⟨nofun, nofun⟩

/-! ## Time-stamps and spans -/

theorem hostPop_of_takes {a : Nat} {f : State → State} (h : s.takes a) : s.hostPop a f = f s := by
  obtain ⟨haw, hheld, hclk⟩ := h
  simp [State.hostPop, haw, hheld, hclk]

/-- The lengths of the spans of a list enter the account one after another. -/
def State.addLosses (s : State) (l : List Span) : State := s.each l fun s x => s.addLoss x.cause (x.hi - x.lo)

theorem addLosses_cons {x : Span} {l : List Span} : s.addLosses (x :: l) = (s.addLoss x.cause (x.hi - x.lo)).addLosses l := rfl

theorem addLosses_spans (l : List Span) : (s.addLosses l).erl.spans = s.erl.spans := by
  induction l generalizing s with
  | nil => rfl
  | cons x l ih => exact ih

theorem addLosses_regs (l : List Span) : (s.addLosses l).regs = s.regs := by
  induction l generalizing s with
  | nil => rfl
  | cons x l ih => exact ih

theorem addLosses_time (l : List Span) : (s.addLosses l).time = s.time := by
  induction l generalizing s with
  | nil => rfl
  | cons x l ih => exact ih

/-- A loss by a cause of its own enters the total of all causes. -/
theorem addLoss_total {c n : Nat} (h : c ≠ 0) : tget 0 (s.addLoss c n).erl.acc 0 = tget 0 s.erl.acc 0 + n := by
  simp [State.addLoss, State.addAcc, tget_tset_ne _ _ _ (Ne.symm h)]

theorem addLosses_total {l : List Span} (h : ∀ x ∈ l, x.cause ≠ 0) :
    tget 0 (s.addLosses l).erl.acc 0 = tget 0 s.erl.acc 0 + (l.map fun x => x.hi - x.lo).sum := by
  induction l generalizing s with
  | nil => rfl
  | cons x l ih =>
    have hx := h x (List.mem_cons_self ..)
    rw [addLosses_cons, ih fun y hy => h y (List.mem_cons_of_mem _ hy), addLoss_total hx, List.map_cons, List.sum_cons,
      Nat.add_assoc]

theorem retireSpans_regs : s.retireSpans.regs = s.regs := addLosses_regs _

theorem spanOld_addLosses (l : List Span) (x : Span) : (s.addLosses l).spanOld x = s.spanOld x := by
  unfold State.spanOld State.grace16 State.fget State.reg
  rw [addLosses_regs, addLosses_time]

theorem retireSpans_spans : s.retireSpans.erl.spans = s.erl.spans.filter fun x => !s.spanOld x := by
  show ((s.addLosses (s.erl.spans.filter s.spanOld)).erl.spans).filter
    (fun x => !(s.addLosses (s.erl.spans.filter s.spanOld)).spanOld x) = _
  simp only [addLosses_spans, spanOld_addLosses]

/-- What a pop leaves in lane l's queue and in the latch of its middle word. -/
theorem txtsPop_txts {l : Nat} : tget [] (s.txtsPop l).tim.txts l = (tget [] s.tim.txts l).drop 1 :=
  tget_tset_self ..

theorem txtsPop_regs {l : Nat} : (s.txtsPop l).regs = s.regs := rfl

theorem txtsPop_shadow {l : Nat} :
    tget (regReset (TMB_TXTS_SL l)) (s.txtsPop l).shadow (TMB_TXTS_SL l) = (s.txHead l).2.1 := by
  have hne : TMB_TXTS_SL l ≠ TMB_TXTS_SH l := by unfold TMB_TXTS_SL TMB_TXTS_SH; omega
  simp [State.txtsPop, State.setShadow, tget_tset_ne _ _ _ hne]

/-- Settles O28: the pop by its three parts of the state, the retirement by induction over the retired spans. -/
theorem stampsAndSpans : Obligations.StampsAndSpans := by
  unfold Obligations.StampsAndSpans
  intro s l hl haw
  refine ⟨fun htake => ?_, fun hcause => ?_⟩
  · refine gives_of (t := s.txtsPop l) ?_ ⟨txtsPop_txts, regsBut_of_regs txtsPop_regs, fun id x xs hq => ?_⟩
    · show execTxtsPop l s = _
      rw [execTxtsPop, hostPop_of_takes htake, reply_of_not (by omega)]
    · rw [txtsPop_shadow, State.txHead, hq]
  · refine gives_of (t := s.retireSpans) ?_ ⟨regsBut_of_regs retireSpans_regs, ?_, ?_⟩
    · show execSpanRetire s = _
      simp [execSpanRetire, haw]
    · rw [retireSpans_spans]
      refine List.filter_congr fun x _ => ?_
      simp [State.spanOld, ← decide_not]
    · exact addLosses_total fun x hx => hcause x (List.mem_filter.mp hx).1

end Sys2Proof.Machine
end

section
/-! SUPPORT. Where the registers stand: what a row's address tells of an address in it, when an address is a register, and that
every register stands at a multiple of 4. -/

namespace Sys2Proof.Machine

/-! ## Places of a row -/

/-- Bound on an offset in the dimensions: the last register's, and one more. -/
def dimsSpan : List (Nat × Nat) → Nat
  | [] => 1
  | (st, c) :: ds => st * (c - 1) + dimsSpan ds

/-- Bound on an offset in the dimensions, modulo m: strides that m divides do not count. -/
def dimsInner (m : Nat) : List (Nat × Nat) → Nat
  | [] => 1
  | (st, c) :: ds => if st % m = 0 then dimsInner m ds else st * (c - 1) + dimsSpan ds

/-- The strides are multiples of 4. -/
def stridesOk (ds : List (Nat × Nat)) : Bool := ds.all fun d => decide (d.1 % 4 = 0)

/-- An offset's first index, and the rest of the offset. -/
theorem splitDims_cons {st c o : Nat} {ds : List (Nat × Nat)} {ix : List Nat} (h : splitDims ((st, c) :: ds) o = some ix) :
    o / st < c ∧ ∃ jx, splitDims ds (o % st) = some jx ∧ ix = o / st :: jx := by
  unfold splitDims at h
  split at h
  · rename_i hlt
    obtain ⟨jx, hj, rfl⟩ := Option.map_eq_some_iff.mp h
    exact ⟨hlt, jx, hj, rfl⟩
  · cases h

theorem splitDims_nil {o : Nat} {ix : List Nat} (h : splitDims [] o = some ix) : o = 0 ∧ ix = [] := by
  unfold splitDims at h
  split at h <;> simp_all

theorem stridesOk_cons {st c : Nat} {ds : List (Nat × Nat)} (h : stridesOk ((st, c) :: ds) = true) :
    st % 4 = 0 ∧ stridesOk ds = true := by
  simpa [stridesOk] using h

theorem splitDims_lt_span {ds : List (Nat × Nat)} {o : Nat} {ix : List Nat} (h : splitDims ds o = some ix) : o < dimsSpan ds := by
  induction ds generalizing o ix with
  | nil => simp [dimsSpan, (splitDims_nil h).1]
  | cons d ds ih =>
    obtain ⟨st, c⟩ := d
    obtain ⟨hlt, jx, hj, -⟩ := splitDims_cons h
    have hrest := ih hj
    have hmul : st * (o / st) ≤ st * (c - 1) := Nat.mul_le_mul_left st (by omega)
    have := Nat.div_add_mod o st
    rw [dimsSpan]
    omega

theorem splitDims_mod_lt {m o : Nat} {ds : List (Nat × Nat)} {ix : List Nat} (h : splitDims ds o = some ix) : o % m < dimsInner m ds := by
  induction ds generalizing o ix with
  | nil => simp [dimsInner, (splitDims_nil h).1]
  | cons d ds ih =>
    obtain ⟨st, c⟩ := d
    obtain ⟨-, jx, hj, -⟩ := splitDims_cons h
    unfold dimsInner
    split
    · rename_i hm
      have := ih hj
      rwa [Nat.mod_mod_of_dvd _ (Nat.dvd_of_mod_eq_zero hm)] at this
    · exact lt_of_le_of_lt (Nat.mod_le o m) (splitDims_lt_span h)

theorem splitDims_mod_four {o : Nat} {ds : List (Nat × Nat)} {ix : List Nat} (hds : stridesOk ds = true)
    (h : splitDims ds o = some ix) : o % 4 = 0 := by
  induction ds generalizing o ix with
  | nil => simp [(splitDims_nil h).1]
  | cons d ds ih =>
    obtain ⟨st, c⟩ := d
    obtain ⟨hst, hrest⟩ := stridesOk_cons hds
    obtain ⟨-, jx, hj, -⟩ := splitDims_cons h
    have := ih hrest hj
    rwa [Nat.mod_mod_of_dvd _ (Nat.dvd_of_mod_eq_zero hst)] at this

theorem indices_eq_some {r : RegRow} {a : Nat} {ix : List Nat} (h : r.indices a = some ix) :
    r.base ≤ a ∧ splitDims r.dims (a - r.base) = some ix := by
  unfold RegRow.indices at h
  split at h
  · cases h
  · exact ⟨by omega, h⟩

/-! ## The row of an address -/

theorem findRowIn_eq_some {l : List RegRow} {a : Nat} {r : RegRow} {ix : List Nat} (h : findRowIn l a = some (r, ix)) :
    r ∈ l ∧ r.indices a = some ix := by
  induction l with
  | nil => cases h
  | cons q l ih =>
    unfold findRowIn at h
    split at h
    · rename_i jx hj
      cases h
      exact ⟨List.mem_cons_self .., hj⟩
    · exact (ih h).imp_left (List.mem_cons_of_mem _)

theorem findRowIn_ne_none {l : List RegRow} {a : Nat} {r : RegRow} {ix : List Nat} (hr : r ∈ l) (h : r.indices a = some ix) :
    findRowIn l a ≠ none := by
  induction l with
  | nil => cases hr
  | cons q l ih =>
    unfold findRowIn
    split
    · simp
    · rename_i hn
      rcases List.mem_cons.mp hr with rfl | hr
      · rw [h] at hn
        cases hn
      · exact ih hr

/-- The row stands at a multiple of 4, and so do all its registers. -/
def RegRow.placed (r : RegRow) : Bool := decide (r.base % 4 = 0) && stridesOk r.dims

theorem regTable_placed : regTable.all RegRow.placed = true := by decide +kernel

theorem placed_of_findRow {a : Nat} {r : RegRow} {ix : List Nat} (h : findRow a = some (r, ix)) :
    r.base % 4 = 0 ∧ stridesOk r.dims = true := by
  simpa [RegRow.placed] using List.all_eq_true.mp regTable_placed r (findRowIn_eq_some h).1

/-- A register stands at a multiple of 4. -/
theorem findRow_mod_four {a : Nat} {r : RegRow} {ix : List Nat} (h : findRow a = some (r, ix)) : a % 4 = 0 := by
  obtain ⟨hbase, hst⟩ := placed_of_findRow h
  obtain ⟨hle, hix⟩ := indices_eq_some (findRowIn_eq_some h).2
  have := splitDims_mod_four hst hix
  omega

/-- Row r may hold a register between lo and hi at k modulo m. -/
def RegRow.mayHold (r : RegRow) (lo hi m k : Nat) : Bool :=
  decide (r.base < hi) && decide (lo < r.base + dimsSpan r.dims) &&
    (decide (m < r.base % m + dimsInner m r.dims) || (decide (r.base % m ≤ k) && decide (k < r.base % m + dimsInner m r.dims)))

theorem mayHold_of_findRow {a m : Nat} {r : RegRow} {ix : List Nat} {lo hi : Nat} (h : findRow a = some (r, ix))
    (hlo : lo ≤ a) (hhi : a < hi) : r.mayHold lo hi m (a % m) = true := by
  obtain ⟨hle, hix⟩ := indices_eq_some (findRowIn_eq_some h).2
  have hspan := splitDims_lt_span hix
  have hinner := splitDims_mod_lt (m := m) hix
  have hmod : ¬ m < r.base % m + dimsInner m r.dims → a % m = r.base % m + (a - r.base) % m := fun hm => by
    have e : a = r.base + (a - r.base) := by omega
    rw [e, Nat.add_mod, ← e]
    exact Nat.mod_eq_of_lt (by omega)
  simp only [RegRow.mayHold, Bool.and_eq_true, Bool.or_eq_true, decide_eq_true_eq]
  refine ⟨⟨by omega, by omega⟩, ?_⟩
  by_cases hm : m < r.base % m + dimsInner m r.dims
  · exact .inl hm
  · have := hmod hm
    exact .inr ⟨by omega, by omega⟩

/-- What every row that may hold a register of a kind has, the row of such a register has. -/
theorem row_of_kind {P : RegRow → Bool} {lo hi m k : Nat} (hP : (regTable.all fun r => !r.mayHold lo hi m k || P r) = true)
    {a : Nat} {r : RegRow} {ix : List Nat} (h : findRow a = some (r, ix)) (hlo : lo ≤ a) (hhi : a < hi) (hk : a % m = k) :
    P r = true := by
  have := List.all_eq_true.mp hP r (findRowIn_eq_some h).1
  simpa [← hk, mayHold_of_findRow h hlo hhi] using this

/-- The index of an address in a row of one dimension. -/
theorem index_of_findRow {a st c : Nat} {r : RegRow} {ix : List Nat} (h : findRow a = some (r, ix)) (hd : r.dims = [(st, c)]) :
    ix = [(a - r.base) / st] ∧ (a - r.base) % st = 0 ∧ r.base ≤ a := by
  obtain ⟨hle, hix⟩ := indices_eq_some (findRowIn_eq_some h).2
  rw [hd] at hix
  obtain ⟨-, jx, hj, rfl⟩ := splitDims_cons hix
  obtain ⟨h0, rfl⟩ := splitDims_nil hj
  exact ⟨rfl, h0, hle⟩

/-! ## Addresses that are registers -/

/-- A row of the table has this base and these dimensions. -/
def hasRow (base : Nat) (ds : List (Nat × Nat)) : Bool := regTable.any fun r => decide (r.base = base) && decide (r.dims = ds)

theorem findRow_ne_none {a base : Nat} {ds : List (Nat × Nat)} {ix : List Nat} (hr : hasRow base ds = true) (hle : base ≤ a)
    (h : splitDims ds (a - base) = some ix) : findRow a ≠ none := by
  obtain ⟨r, hmem, hb⟩ := List.any_eq_true.mp hr
  obtain ⟨rfl, rfl⟩ : r.base = base ∧ r.dims = ds := by simpa using hb
  exact findRowIn_ne_none hmem (by rw [RegRow.indices, if_neg (by omega), h])

/-- A register without indices. -/
theorem findRow_ne_none_single {a : Nat} (hr : hasRow a [] = true) : findRow a ≠ none :=
  findRow_ne_none hr (Nat.le_refl a) (ix := []) (by simp [splitDims])

/-- A register of a row with one index. -/
theorem findRow_ne_none_array {a base st c : Nat} (hr : hasRow base [(st, c)] = true) (hle : base ≤ a)
    (hc : (a - base) / st < c) (h0 : (a - base) % st = 0) : findRow a ≠ none :=
  findRow_ne_none hr hle (ix := [(a - base) / st]) (by simp [splitDims, hc, h0])

/-- A register of a row with two indices. -/
theorem findRow_ne_none_grid {a base st c tt d : Nat} (hr : hasRow base [(st, c), (tt, d)] = true) (hle : base ≤ a)
    (hc : (a - base) / st < c) (hd : (a - base) % st / tt < d) (h0 : (a - base) % st % tt = 0) : findRow a ≠ none :=
  findRow_ne_none hr hle (ix := [(a - base) / st, (a - base) % st / tt]) (by simp [splitDims, hc, hd, h0])

end Sys2Proof.Machine
end

section
/-! SUPPORT. Accesses to addresses that no register is allocated to: nothing happens (R12). -/

namespace Sys2Proof.Machine

variable {s : State} {a i : Nat} {v : BitVec 32}

/-! ## What such an address is not -/

theorem ne_of_findRow_none {b : Nat} (hn : findRow a = none) (hb : hasRow b [] = true) : a ≠ b := fun h =>
  findRow_ne_none_single (h ▸ hb) hn

theorem not_mem_of_findRow_none {l : List Nat} (hn : findRow a = none) (hl : (l.all fun b => hasRow b []) = true) : a ∉ l :=
  fun h => ne_of_findRow_none hn (List.all_eq_true.mp hl a h) rfl

/-- The highest words of the values that take effect as a whole. -/
def commitWords : List Nat :=
  [TMB_INCRF, TMB_TSET_HI, TMB_STEP_HI, TMB_SREFIDX_HI, TMB_SREFT_SH, TMB_SPER_HI, SCH_DUE_SH]

theorem commitLows_of_not_mem (h : a ∉ commitWords) : commitLows a = [] := by
  simp only [commitWords, List.mem_cons, List.not_mem_nil, or_false, not_or] at h
  simp [commitLows, h]

theorem isHeldWord_of_findRow_none (hn : findRow a = none) : isHeldWord a = false := by
  have := not_mem_of_findRow_none hn (l := [TMB_INCR, TMB_TSET_LO, TMB_STEP_LO, TMB_SREFIDX_LO, TMB_SREFT_FR, TMB_SREFT_SL,
    TMB_SPER_LO, SCH_DUE_FR, SCH_DUE_SL]) (by decide +kernel)
  simpa [isHeldWord] using this

theorem isPipConfig_of_findRow_none (hn : findRow a = none) : isPipConfig a = false := by
  have := not_mem_of_findRow_none hn (l := [PMC_PIPCFG, PMC_PIPTRIG, PMC_PIPMASK_LO, PMC_PIPMASK_HI]) (by decide +kernel)
  simpa [isPipConfig, and_assoc] using this

/-! ## Writes, block by block -/

theorem rowWrite_of_findRow_none (hn : findRow a = none) : s.rowWrite i a v = s := by
  simp [State.rowWrite, hn]

theorem writeGlb_of_findRow_none (hn : findRow a = none) : s.writeGlb i a v = s := by
  have h := not_mem_of_findRow_none hn (l := [GLB_INTPEND, GLB_INTEN, GLB_URESET]) (by decide +kernel)
  simp only [List.mem_cons, List.not_mem_nil, or_false, not_or] at h
  simp [State.writeGlb, h, rowWrite_of_findRow_none hn]

theorem writeTime_of_findRow_none (hn : findRow a = none) (h4 : a % 4 = 0) : s.writeTime i a v = s := by
  have h := not_mem_of_findRow_none hn (l := [TMB_CMD, CAL_CMD, SCH_INSERT, SCH_CANCEL, TMB_FTCFG, TMB_OUTCFG]) (by decide +kernel)
  simp only [List.mem_cons, List.not_mem_nil, or_false, not_or] at h
  have hc : commitLows a = [] := commitLows_of_not_mem (not_mem_of_findRow_none hn (by decide +kernel))
  have hr : ¬ (TMB_REFCFG 0 ≤ a ∧ a < TMB_REFCFG 7) := fun hr => by
    unfold TMB_REFCFG at hr
    exact findRow_ne_none_array (base := 0x20060) (st := 4) (c := 7) (by decide +kernel) (by omega) (by omega) (by omega) hn
  simp [State.writeTime, h, hc, hr, isHeldWord_of_findRow_none hn, rowWrite_of_findRow_none hn]

theorem writeLane_of_findRow_none (hn : findRow a = none) (hlo : 0x100000 ≤ a) (hhi : a < 0x118000) : s.writeLane i a v = s := by
  have hcfg : a % 1024 ≠ 0 := fun h =>
    findRow_ne_none_array (base := 0x100000) (st := 1024) (c := 96) (by decide +kernel) hlo (by omega) (by omega) hn
  have hcmd : a % 1024 ≠ 8 := fun h =>
    findRow_ne_none_array (base := 0x100008) (st := 1024) (c := 96) (by decide +kernel) (by omega) (by omega) (by omega) hn
  simp [State.writeLane, hcfg, hcmd, rowWrite_of_findRow_none hn]

theorem writeFab_of_findRow_none (hn : findRow a = none) (h4 : a % 4 = 0) : s.writeFab i a v = s := by
  have h := not_mem_of_findRow_none hn (l := [FAB_CTRL, FAB_MREQ]) (by decide +kernel)
  simp only [List.mem_cons, List.not_mem_nil, or_false, not_or] at h
  have ht : ¬ ((FAB_LSET 0 0 ≤ a ∧ a < FAB_LSET 64 0 ∧ a % 16 ≠ 12) ∨ (FAB_NH 0 ≤ a ∧ a < FAB_NH 4096)) := by
    unfold FAB_LSET FAB_NH
    rintro (⟨hlo, hhi, h12⟩ | ⟨hlo, hhi⟩)
    · exact findRow_ne_none_grid (base := 0x140800) (st := 16) (c := 64) (tt := 4) (d := 3) (by decide +kernel)
        (by omega) (by omega) (by omega) (by omega) hn
    · exact findRow_ne_none_array (base := 0x144000) (st := 4) (c := 4096) (by decide +kernel) (by omega) (by omega) (by omega) hn
  simp [State.writeFab, h, ht, rowWrite_of_findRow_none hn]

theorem writeFch_of_findRow_none (hn : findRow a = none) (hlo : 0x200000 ≤ a) (hhi : a < 0x300000) : s.writeFch i a v = s := by
  have hoff : ∀ k, hasRow (0x200000 + k) [(65536, 16)] = true → k < 65536 → a % 65536 ≠ k := fun k hr hk h =>
    findRow_ne_none_array hr (by omega) (by omega) (by omega) hn
  have hslot : 0x100 ≤ a % 65536 → a % 65536 < 0x500 → a % 64 ≠ 0 := fun h1 h2 h3 =>
    findRow_ne_none_grid (base := 0x200100) (st := 65536) (c := 16) (tt := 64) (d := 16) (by decide +kernel)
      (by omega) (by omega) (by omega) (by omega) hn
  simp +contextual [State.writeFch, hoff 0 (by decide +kernel), hoff 0x30 (by decide +kernel), hoff 0x34 (by decide +kernel),
    hoff 0x3C (by decide +kernel), hslot, rowWrite_of_findRow_none hn]

theorem writeHull_of_findRow_none (hn : findRow a = none) (h4 : a % 4 = 0) : s.writeHull i a v = s := by
  have hctrl : a ≠ HULL_CTRL := ne_of_findRow_none hn (by decide +kernel)
  have hst : ¬ (HULL_SCTRL 0 ≤ a ∧ a < HULL_SCTRL 4 ∧ a % 32 = 0) := by
    unfold HULL_SCTRL
    rintro ⟨hlo, hhi, h32⟩
    exact findRow_ne_none_array (base := 0x300200) (st := 32) (c := 4) (by decide +kernel) (by omega) (by omega) (by omega) hn
  have ht : ¬ ((HULL_SRC 0 ≤ a ∧ a < HULL_SRC 256) ∨ (HULL_OWN 0 ≤ a ∧ a < HULL_OWN 8192)) := by
    unfold HULL_SRC HULL_OWN
    rintro (⟨hlo, hhi⟩ | ⟨hlo, hhi⟩)
    · exact findRow_ne_none_array (base := 0x304000) (st := 4) (c := 256) (by decide +kernel) (by omega) (by omega) (by omega) hn
    · exact findRow_ne_none_array (base := 0x308000) (st := 4) (c := 8192) (by decide +kernel) (by omega) (by omega) (by omega) hn
  simp [State.writeHull, hctrl, hst, ht, rowWrite_of_findRow_none hn]

theorem writePod_of_findRow_none (hn : findRow a = none) (hlo : 0x400000 ≤ a) (hhi : a < 0x800000) : s.writePod i a v = s := by
  have hctrl : a % 65536 ≠ 0 := fun h =>
    findRow_ne_none_array (base := 0x400000) (st := 65536) (c := 64) (by decide +kernel) hlo (by omega) (by omega) hn
  have hcmd : a % 65536 ≠ 0x1C := fun h =>
    findRow_ne_none_array (base := 0x40001C) (st := 65536) (c := 64) (by decide +kernel) (by omega) (by omega) (by omega) hn
  simp [State.writePod, hctrl, hcmd, rowWrite_of_findRow_none hn]

theorem writeHusk_of_findRow_none (hn : findRow a = none) (h4 : a % 4 = 0) : s.writeHusk i a v = s := by
  have hmap : ¬ (HUSK_MAP_LO 0 ≤ a ∧ a < HUSK_MAP_LO 16384) := by
    unfold HUSK_MAP_LO
    rintro ⟨hlo, hhi⟩
    rcases (by omega : a % 8 = 0 ∨ a % 8 = 4) with h | h
    · exact findRow_ne_none_array (base := 0x840000) (st := 8) (c := 16384) (by decide +kernel) (by omega) (by omega) (by omega) hn
    · exact findRow_ne_none_array (base := 0x840004) (st := 8) (c := 16384) (by decide +kernel) (by omega) (by omega) (by omega) hn
  simp [State.writeHusk, hmap, rowWrite_of_findRow_none hn]

theorem writeCtx_of_findRow_none (hn : findRow a = none) (h4 : a % 4 = 0) (hlo : 0x900000 ≤ a) : s.writeCtx i a v = s := by
  have hcmd : a ≠ CTX_CMD := ne_of_findRow_none hn (by decide +kernel)
  have hpath : ¬ (0x980000 ≤ a ∧ a < 0x9A0000) := fun ⟨hl, hh⟩ =>
    findRow_ne_none_array (base := 0x980000) (st := 4) (c := 32768) (by decide +kernel) hl (by omega) (by omega) hn
  have hcfg : a < 0x940000 → a % 64 ≠ 0 := fun hh h =>
    findRow_ne_none_array (base := 0x900000) (st := 64) (c := 4096) (by decide +kernel) hlo (by omega) (by omega) hn
  by_cases hlt : a < 0x940000
  · simp [State.writeCtx, hlt, hcfg hlt, hn, rowWrite_of_findRow_none hn]
  · simp [State.writeCtx, hlt, hcmd, hpath, rowWrite_of_findRow_none hn]

theorem writeDmc_of_findRow_none (hn : findRow a = none) : s.writeDmc i a v = s := by
  have h := not_mem_of_findRow_none hn (l := [DMC_CTRL, DMC_RETIRE]) (by decide +kernel)
  simp only [List.mem_cons, List.not_mem_nil, or_false, not_or] at h
  simp [State.writeDmc, h, rowWrite_of_findRow_none hn]

theorem writeErl_of_findRow_none (hn : findRow a = none) : s.writeErl i a v = s := by
  have h : a ≠ ERL_CMD := ne_of_findRow_none hn (by decide +kernel)
  simp [State.writeErl, h, rowWrite_of_findRow_none hn]

theorem writePmc_of_findRow_none (hn : findRow a = none) : s.writePmc i a v = s := by
  have h : a ≠ PMC_CMD := ne_of_findRow_none hn (by decide +kernel)
  simp [State.writePmc, h, isPipConfig_of_findRow_none hn, rowWrite_of_findRow_none hn]

/-- A register write is the write of the block in which the address lies. -/
theorem blockWrite_cases {P : State → Prop} (hd : isDmw a = false) (row : P (s.rowWrite i a v))
    (glb : a < 0x10000 → P (s.writeGlb i a v))
    (time : 0x20000 ≤ a → a < 0x100000 → P (s.writeTime i a v))
    (lane : 0x100000 ≤ a → a < 0x118000 → P (s.writeLane i a v))
    (fab : 0x118000 ≤ a → a < 0x160000 → P (s.writeFab i a v))
    (fch : 0x200000 ≤ a → a < 0x300000 → P (s.writeFch i a v))
    (hull : 0x300000 ≤ a → a < 0x400000 → P (s.writeHull i a v))
    (pod : 0x400000 ≤ a → a < 0x800000 → P (s.writePod i a v))
    (husk : 0x800000 ≤ a → a < 0x900000 → P (s.writeHusk i a v))
    (ctx : 0x900000 ≤ a → a < 0xA00000 → P (s.writeCtx i a v))
    (dmc : 0xA00000 ≤ a → a < 0xB00000 → P (s.writeDmc i a v))
    (pmc : 0xC00000 ≤ a → a < 0xD00000 → P (s.writePmc i a v))
    (erl : 0xD00000 ≤ a → a < 0xE00000 → P (s.writeErl i a v)) : P (s.blockWrite i a v) := by
  have ite : ∀ {c : Prop} [Decidable c] {x y : State}, (c → P x) → (¬ c → P y) → P (if c then x else y) :=
    fun hx hy => by split <;> simp_all
  refine ite glb fun h1 => ite (fun _ => row) fun h2 => ite (time (by omega)) fun h3 => ite (lane (by omega)) fun h4 =>
    ite (fab (by omega)) fun h5 => ite (fun _ => row) fun h6 => ite (fch (by omega)) fun h7 => ite (hull (by omega)) fun h8 =>
    ite (pod (by omega)) fun h9 => ite (husk (by omega)) fun h10 => ite (ctx (by omega)) fun h11 => ite (dmc (by omega)) fun h12 =>
    ite (fun _ => row) fun h13 => ite (pmc (by omega)) fun h14 => ite (erl (by omega)) fun _ => ?_
  rw [hd]
  exact row

/-- A write where no register stands changes nothing (R12). -/
theorem blockWrite_of_findRow_none (hn : findRow a = none) (h4 : a % 4 = 0) (hd : isDmw a = false) : s.blockWrite i a v = s :=
  blockWrite_cases (P := (· = s)) hd (rowWrite_of_findRow_none hn)
    (glb := fun _ => writeGlb_of_findRow_none hn)
    (time := fun _ _ => writeTime_of_findRow_none hn h4)
    (lane := writeLane_of_findRow_none hn)
    (fab := fun _ _ => writeFab_of_findRow_none hn h4)
    (fch := writeFch_of_findRow_none hn)
    (hull := fun _ _ => writeHull_of_findRow_none hn h4)
    (pod := writePod_of_findRow_none hn)
    (husk := fun _ _ => writeHusk_of_findRow_none hn h4)
    (ctx := fun hlo _ => writeCtx_of_findRow_none hn h4 hlo)
    (dmc := fun _ _ => writeDmc_of_findRow_none hn)
    (pmc := fun _ _ => writePmc_of_findRow_none hn)
    (erl := fun _ _ => writeErl_of_findRow_none hn)

theorem goldenFollow_of_findRow_none (hn : findRow a = none) : s.goldenFollow a v = s := by
  unfold State.goldenFollow
  rw [hn]
  split <;> simp_all

theorem regOff_of_findRow_none (hn : findRow a = none) (hd : isDmw a = false) : s.regOff a = false := by
  simp [State.regOff, hn, hd]

/-- The same whoever writes, and whether or not the block's clock runs. -/
theorem writeAny_of_findRow_none (hn : findRow a = none) (h4 : a % 4 = 0) (hd : isDmw a = false) : s.writeAny i a v = s := by
  have h := not_mem_of_findRow_none hn (l := [IMG_CMD, PWR_CMD]) (by decide +kernel)
  simp only [List.mem_cons, List.not_mem_nil, or_false, not_or] at h
  have hwin : ¬ (IMG_WIN 0 ≤ a ∧ a < IMG_WIN 1024) := by
    unfold IMG_WIN
    rintro ⟨hlo, hhi⟩
    exact findRow_ne_none_array (base := 0xE01000) (st := 4) (c := 1024) (by decide +kernel) (by omega) (by omega) (by omega) hn
  simp [State.writeAny, regOff_of_findRow_none hn hd, h, hwin, State.regWrite, blockWrite_of_findRow_none hn h4 hd,
    goldenFollow_of_findRow_none hn]

end Sys2Proof.Machine
end

section
/-! SUPPORT. The words of the values wider than 32 bits (R17): each is a register. -/

namespace Sys2Proof.Machine

/-- The words that a read of a latches stand at registers, and so does the word at a. -/
def wordsStand (a : Nat) (l : List Nat) : Prop := ∀ u ∈ l, findRow a ≠ none ∧ findRow u ≠ none

variable {a : Nat}

theorem wordsStand_nil : wordsStand a [] := fun _ hu => nomatch hu

theorem wordsStand_cons {u : Nat} {l : List Nat} (ha : findRow a ≠ none) (hu : findRow u ≠ none) (hl : wordsStand a l) :
    wordsStand a (u :: l) := List.forall_mem_cons.mpr ⟨⟨ha, hu⟩, hl⟩

theorem wordsStand_two (ha : findRow a ≠ none) (h4 : findRow (a + 4) ≠ none) : wordsStand a [a + 4] :=
  wordsStand_cons ha h4 wordsStand_nil

theorem wordsStand_three (ha : findRow a ≠ none) (h4 : findRow (a + 4) ≠ none) (h8 : findRow (a + 8) ≠ none) :
    wordsStand a [a + 4, a + 8] := wordsStand_cons ha h4 (wordsStand_cons ha h8 wordsStand_nil)

theorem wordsStand_ite {c : Prop} [Decidable c] {x y : List Nat} (hx : c → wordsStand a x) (hy : ¬ c → wordsStand a y) :
    wordsStand a (if c then x else y) := by
  split
  · exact hx ‹_›
  · exact hy ‹_›

/-- One of the two-word values without indices. -/
theorem wordsStand_two_of_mem {l : List Nat} (hl : (l.all fun b => hasRow b [] && hasRow (b + 4) []) = true)
    (h : l.contains a = true) : wordsStand a [a + 4] := by
  have := List.all_eq_true.mp hl a (List.contains_iff_mem.mp h)
  rw [Bool.and_eq_true] at this
  exact wordsStand_two (findRow_ne_none_single this.1) (findRow_ne_none_single this.2)

/-- One of the three-word values without indices. -/
theorem wordsStand_three_of_mem {l : List Nat} (hl : (l.all fun b => hasRow b [] && hasRow (b + 4) [] && hasRow (b + 8) []) = true)
    (h : l.contains a = true) : wordsStand a [a + 4, a + 8] := by
  have := List.all_eq_true.mp hl a (List.contains_iff_mem.mp h)
  simp only [Bool.and_eq_true] at this
  obtain ⟨⟨h0, h4⟩, h8⟩ := this
  exact wordsStand_three (findRow_ne_none_single h0) (findRow_ne_none_single h4) (findRow_ne_none_single h8)

/-- A two-word value of rows with one index: the words stand at base and base + 4. -/
theorem wordsStand_two_array {base st c : Nat} (h0 : hasRow base [(st, c)] = true) (h4 : hasRow (base + 4) [(st, c)] = true)
    (hle : base ≤ a) (hc : (a - base) / st < c) (hm : (a - base) % st = 0) : wordsStand a [a + 4] := by
  have e : a + 4 - (base + 4) = a - base := by omega
  exact wordsStand_two (findRow_ne_none_array h0 hle hc hm) (findRow_ne_none_array h4 (by omega) (by rwa [e]) (by rwa [e]))

/-- The middle and high words of the values below the F-engines' block. -/
theorem upperWords_low (h : a < 0x200000) : wordsStand a (upperWords a) := by
  unfold upperWords
  rw [if_pos h]
  refine wordsStand_ite (fun hr => wordsStand_ite (fun hm => ?_) fun _ => wordsStand_nil) fun _ =>
    wordsStand_ite (fun hr => wordsStand_ite (fun hm => ?_) fun _ => wordsStand_nil) fun _ =>
    wordsStand_ite (fun hr => wordsStand_ite (fun hm => ?_) fun _ => wordsStand_nil) fun _ =>
    wordsStand_ite (wordsStand_three_of_mem (by decide +kernel)) fun _ =>
    wordsStand_ite (wordsStand_two_of_mem (by decide +kernel)) fun _ => wordsStand_nil
  · exact wordsStand_two_array (base := 0x100040) (st := 1024) (c := 96) (by decide +kernel) (by decide +kernel)
      (by omega) (by omega) (by omega)
  · unfold TMB_TXTS_FR at hr
    exact wordsStand_three
      (findRow_ne_none_array (base := 0x21000) (st := 16) (c := 96) (by decide +kernel) (by omega) (by omega) (by omega))
      (findRow_ne_none_array (base := 0x21004) (st := 16) (c := 96) (by decide +kernel) (by omega) (by omega) (by omega))
      (findRow_ne_none_array (base := 0x21008) (st := 16) (c := 96) (by decide +kernel) (by omega) (by omega) (by omega))
  · unfold EGR_DCTRL at hr
    exact wordsStand_two_array (base := 0x161004) (st := 32) (c := 64) (by decide +kernel) (by decide +kernel)
      (by omega) (by omega) (by omega)

/-- The upper words of the values from the F-engines' block to the contexts'. -/
theorem upperWords_mid (hlo : 0x200000 ≤ a) (hc : a < 0x800000 ∨ 0x900000 ≤ a ∧ a < 0x940000) :
    wordsStand a (upperWords a) := by
  unfold upperWords
  rw [if_neg (by omega)]
  refine wordsStand_ite (fun h2 => wordsStand_ite (fun hm => ?_) fun _ => wordsStand_nil) fun _ =>
    wordsStand_ite (fun h3 => wordsStand_ite (fun hm => ?_) fun _ => wordsStand_nil) fun _ =>
    wordsStand_ite (fun h4 => wordsStand_ite (fun hm => ?_) fun _ => wordsStand_nil) fun _ =>
    wordsStand_ite (fun h9 => wordsStand_ite (fun hm => ?_) fun _ => wordsStand_nil) fun _ => ?_
  · have hoff : ∀ k, hasRow (0x200000 + k) [(65536, 16)] = true → hasRow (0x200000 + k + 4) [(65536, 16)] = true →
        a % 65536 = k → wordsStand a [a + 4] := fun k h0 h4 hk =>
      wordsStand_two_array h0 h4 (by omega) (by omega) (by omega)
    have : a % 65536 = 0x10 ∨ a % 65536 = 0x18 ∨ a % 65536 = 0x30 := by simpa using hm
    rcases this with h | h | h
    · exact hoff 0x10 (by decide +kernel) (by decide +kernel) h
    · exact hoff 0x18 (by decide +kernel) (by decide +kernel) h
    · exact hoff 0x30 (by decide +kernel) (by decide +kernel) h
  · rcases Bool.or_eq_true _ _ ▸ hm with h | h
    · exact wordsStand_two_of_mem (l := [HULL_CTBASE_LO]) (by decide +kernel) (by simpa using h)
    · obtain ⟨st, hst, h⟩ := List.any_eq_true.mp h
      have hst := List.mem_range.mp hst
      have h : a = HULL_SF0_LO st := of_decide_eq_true h
      unfold HULL_SF0_LO at h
      exact wordsStand_two_array (base := 0x300208) (st := 32) (c := 4) (by decide +kernel) (by decide +kernel)
        (by omega) (by omega) (by omega)
  · exact wordsStand_two
      (findRow_ne_none_grid (base := 0x408000) (st := 65536) (c := 64) (tt := 8) (d := 4096) (by decide +kernel)
        (by omega) (by omega) (by omega) (by omega))
      (findRow_ne_none_grid (base := 0x408004) (st := 65536) (c := 64) (tt := 8) (d := 4096) (by decide +kernel)
        (by omega) (by omega) (by omega) (by omega))
  · rcases hm with h | h
    · exact wordsStand_two_array (base := 0x900018) (st := 64) (c := 4096) (by decide +kernel) (by decide +kernel)
        (by omega) (by omega) (by omega)
    · exact wordsStand_two_array (base := 0x900038) (st := 64) (c := 4096) (by decide +kernel) (by decide +kernel)
        (by omega) (by omega) (by omega)
  · omega

/-- The upper words of the values of every other block. -/
theorem upperWords_high (hlo : 0x800000 ≤ a) (hc : ¬ (0x900000 ≤ a ∧ a < 0x940000)) : wordsStand a (upperWords a) := by
  unfold upperWords
  rw [if_neg (by omega), if_neg (by omega), if_neg (by omega), if_neg (by omega), if_neg hc]
  refine wordsStand_ite (fun h => ?_) fun _ =>
    wordsStand_ite (fun hp => wordsStand_ite (fun h => ?_) fun _ => wordsStand_ite (fun h => ?_) fun _ =>
      wordsStand_ite (fun h => ?_) fun _ => wordsStand_nil) fun _ =>
    wordsStand_ite (fun h => ?_) fun _ => wordsStand_ite (fun h => ?_) fun _ => wordsStand_nil
  · exact wordsStand_two_of_mem (l := [MTX_DECLO, IMG_HASH_LO]) (by decide +kernel) (by simpa using h)
  · exact wordsStand_three_of_mem (l := [PMC_SNAPTIME_FR]) (by decide +kernel) (by simpa using h)
  · subst h
    have hw : ∀ k < 3, findRow (PMC_PIPW k) ≠ none := fun k hk => by
      unfold PMC_PIPW
      exact findRow_ne_none_array (base := 0xC00034) (st := 4) (c := 3) (by decide +kernel) (by omega) (by omega) (by omega)
    have h0 : findRow PMC_PIP0 ≠ none := findRow_ne_none_single (by decide +kernel)
    exact wordsStand_cons h0 (hw 0 (by omega)) (wordsStand_cons h0 (hw 1 (by omega)) (wordsStand_cons h0 (hw 2 (by omega))
      wordsStand_nil))
  · rcases (by omega : a < 0xC02000 ∨ 0xC02000 ≤ a) with hs | hs
    · exact wordsStand_two_array (base := 0xC01000) (st := 8) (c := 512) (by decide +kernel) (by decide +kernel)
        (by omega) (by omega) (by omega)
    · exact wordsStand_two_array (base := 0xC02000) (st := 8) (c := 512) (by decide +kernel) (by decide +kernel)
        (by omega) (by omega) (by omega)
  · subst h
    have hall : ([ERL_E0, ERL_E1, ERL_E2, ERL_E3].all fun b => hasRow b []) = true := by decide +kernel
    have h : ∀ b ∈ [ERL_E0, ERL_E1, ERL_E2, ERL_E3], findRow b ≠ none := fun b hb =>
      findRow_ne_none_single (List.all_eq_true.mp hall b hb)
    exact wordsStand_cons (h _ (by simp)) (h ERL_E1 (by simp)) (wordsStand_cons (h _ (by simp)) (h ERL_E2 (by simp))
      (wordsStand_cons (h _ (by simp)) (h ERL_E3 (by simp)) wordsStand_nil))
  · rcases h with h | h | h
    · exact wordsStand_two_of_mem (l := [ERL_LPS_FR]) (by decide +kernel) (by simpa using h)
    · exact wordsStand_two_of_mem (l := [ERL_FABLPS_FR]) (by decide +kernel) (by simpa using h)
    · obtain ⟨c, hc, h⟩ := List.any_eq_true.mp h
      have hc := List.mem_range.mp hc
      have h : a = ERL_LPSCAUSE_FR (c + 1) := of_decide_eq_true h
      unfold ERL_LPSCAUSE_FR at h
      exact wordsStand_two_array (base := 0xD00108) (st := 8) (c := 8) (by decide +kernel) (by decide +kernel)
        (by omega) (by omega) (by omega)

/-- The words of a value wider than 32 bits are registers, its low word among them. -/
theorem upperWords_stand (a : Nat) : wordsStand a (upperWords a) := by
  rcases Nat.lt_or_ge a 0x200000 with hl | hl
  · exact upperWords_low hl
  · by_cases hm : a < 0x800000 ∨ 0x900000 ≤ a ∧ a < 0x940000
    · exact upperWords_mid hl hm
    · exact upperWords_high (by omega) (by omega)

theorem upperWords_of_findRow_none (hn : findRow a = none) : upperWords a = [] :=
  List.eq_nil_iff_forall_not_mem.mpr fun u hu => (upperWords_stand a u hu).1 hn

/-- An address of no register is no upper word of a value. -/
theorem isUpperWord_of_findRow_none (hn : findRow a = none) : isUpperWord a = false := by
  have h : ∀ b, a ∉ upperWords b := fun b hm => (upperWords_stand b a hm).2 hn
  simp [isUpperWord, h]

end Sys2Proof.Machine
end

section
/-! Proofs about accesses by an address: one that no register stands at, and the two low bits that the part ignores. -/

namespace Sys2Proof.Machine
open Sys2Proof

variable {s : State}

/-! ## The bridge's answer -/

theorem emit_bridge {i : Nat} {w : Word} : s.emit (.bridge i w) = { s with wireOut := s.wireOut ++ [.bridge i w] } := rfl

/-- What the bridge does for an initiator it knows, where nothing holds the access. -/
theorem bridgeAccess_of {i a : Nat} {w : Option Word} {strobes : Bool} (hi : i < 24) (hm : mayAddress i 26 = true) (ha : a < 2 ^ 28)
    (h4 : a % 4 = 0) (haw : s.awake = true) (hh : s.regHeld a = false) : exec (.bridgeAccess i a w strobes) s =
      .next (if w.isNone then (s.groupAccess i a w strobes).1.emit (.bridge i (s.groupAccess i a w strobes).2)
        else (s.groupAccess i a w strobes).1) := by
  have e : a / 4 * 4 = a := by omega
  show execBridgeAccess i a w strobes s = _
  rw [execBridgeAccess, reply_of_not (by simp [hm]; omega), e]
  simp [haw, hh]

theorem registerWrite_of {a : Nat} {v : Word} (ha : a < 2 ^ 32) (h4 : a % 4 = 0) (haw : s.awake = true) (hh : s.regHeld a = false) :
    exec (.registerWrite a v) s = .next (s.writeAny 21 a v) := by
  have e : a / 4 * 4 = a := by omega
  show execRegisterWrite a v s = _
  rw [execRegisterWrite, reply_of_not (by omega), e]
  simp [haw, hh]

theorem registerWrite_held {a : Nat} {v : Word} (ha : a < 2 ^ 32) (h4 : a % 4 = 0) (hh : s.regHeld a = true) :
    exec (.registerWrite a v) s = .next s := by
  have e : a / 4 * 4 = a := by omega
  show execRegisterWrite a v s = _
  rw [execRegisterWrite, reply_of_not (by omega), e]
  simp [hh]

/-! ## Addresses of no register -/

theorem isDmw_of_lt {a : Nat} (h : a < 2 ^ 28) : isDmw a = false := by
  simp [isDmw]
  omega

theorem fetchReg_of_findRow_none {i a : Nat} (hn : findRow a = none) (hd : isDmw a = false) : s.fetchReg i a = (0, s) := by
  simp [State.fetchReg, regOff_of_findRow_none hn hd, hd, State.readReg, isUpperWord_of_findRow_none hn, State.peek, hn,
    State.latch, upperWords_of_findRow_none hn, State.each]

/-- The bridge ignores a write where no register stands. -/
theorem bridgeWrite_of_findRow_none {i a : Nat} {v : Word} (hi : i < 24) (hm : mayAddress i 26 = true) (ha : a < 2 ^ 28)
    (h4 : a % 4 = 0) (haw : s.awake = true) (hh : s.regHeld a = false) (hn : findRow a = none) :
    exec (.bridgeAccess i a (some v) true) s = .next s := by
  rw [bridgeAccess_of hi hm ha h4 haw hh]
  simp [State.groupAccess, writeAny_of_findRow_none hn h4 (isDmw_of_lt ha)]

/-- The bridge answers 0 to a read where no register stands. -/
theorem bridgeRead_of_findRow_none {i a : Nat} (hi : i < 24) (hm : mayAddress i 26 = true) (ha : a < 2 ^ 28)
    (h4 : a % 4 = 0) (haw : s.awake = true) (hh : s.regHeld a = false) (hn : findRow a = none) :
    exec (.bridgeAccess i a none true) s = .next { s with wireOut := s.wireOut ++ [.bridge i 0] } := by
  rw [bridgeAccess_of hi hm ha h4 haw hh]
  simp [State.groupAccess, fetchReg_of_findRow_none hn (isDmw_of_lt ha), emit_bridge]

theorem lt_of_inBlock {a : Nat} (h : inBlock a = true) : a < 0xF00000 := by
  simp only [inBlock, Bool.or_eq_true, Bool.and_eq_true, decide_eq_true_eq] at h
  omega

/-- Settles O45: a block's write leaves such an address alone, the bridge's read of it finds neither a word nor a latch. -/
theorem unallocatedAddresses : Obligations.UnallocatedAddresses := by
  unfold Obligations.UnallocatedAddresses
  rintro s a i v ⟨haw, hh, -⟩ h4 hn hb
  have ha := lt_of_inBlock hb
  refine ⟨?_, fun hi hm => ⟨bridgeWrite_of_findRow_none hi hm (by omega) h4 haw hh hn,
    gives_of (bridgeRead_of_findRow_none hi hm (by omega) h4 haw hh hn) rfl⟩⟩
  rw [registerWrite_of (by omega) h4 haw hh, writeAny_of_findRow_none hn h4 (isDmw_of_lt (by omega))]

/-! ## Bits [1:0] of an address -/

theorem reply_congr {b c : Prop} [Decidable b] [Decidable c] {t u : State} (h : b ↔ c) (ht : t = u) : reply b t = reply c u := by
  subst ht
  simp [reply, h]

/-- The aligned address is its own aligned address. -/
theorem align_align (a : Nat) : a / 4 * 4 / 4 * 4 = a / 4 * 4 := by omega

theorem leBytes_length (k n : Nat) : (leBytes k n).length = k := by
  induction k generalizing n with
  | zero => rfl
  | succ k ih => simp [leBytes, ih]

theorem beBytes_length (k n : Nat) : (beBytes k n).length = k := by simp [beBytes, leBytes_length]

theorem ofLe_leBytes (k n : Nat) : ofLe (leBytes k n) = n % 256 ^ k := by
  induction k generalizing n with
  | zero => simp [leBytes, ofLe, Nat.mod_one]
  | succ k ih =>
    have : n % 256 ^ (k + 1) = n % 256 + 256 * (n / 256 % 256 ^ k) := by rw [Nat.pow_succ, Nat.mul_comm, Nat.mod_mul]
    simp [leBytes, ofLe, ih, this]

/-- The four address bytes read as the address. -/
theorem beAt_address {a : Nat} (ha : a < 2 ^ 32) (bs : List Byte) : beAt (beBytes 4 a ++ bs) 0 4 = a := by
  rw [beAt, List.drop_zero, List.take_left' (beBytes_length 4 a), ofBe, beBytes, List.reverse_reverse, ofLe_leBytes]
  omega

/-- A write of at least the address: the pointer and the posted words rest on the aligned address and the bytes behind it. -/
theorem postWrite_align {a : Nat} (ha : a < 2 ^ 32) (bs : List Byte) :
    s.postWrite (beBytes 4 a ++ bs) = s.postWrite (beBytes 4 (a / 4 * 4) ++ bs) := by
  have hd : ∀ n, (beBytes 4 n ++ bs).drop 4 = bs := fun n => List.drop_left' (beBytes_length 4 n)
  unfold State.postWrite
  rw [beAt_address ha, beAt_address (by omega), align_align, hd, hd]
  simp [beBytes_length]

theorem takeWrite_align {a : Nat} (ha : a < 2 ^ 32) (bs : List Byte) :
    s.takeWrite (beBytes 4 a ++ bs) = s.takeWrite (beBytes 4 (a / 4 * 4) ++ bs) := by
  simp [State.takeWrite, postWrite_align ha, beBytes_length]

/-- The bytes that the maximum write length leaves: too few for an address, or the address and some behind it. -/
theorem takeWrite_clip_align {a m : Nat} (ha : a < 2 ^ 32) (bs : List Byte) :
    s.takeWrite ((beBytes 4 a ++ bs).take m) = s.takeWrite ((beBytes 4 (a / 4 * 4) ++ bs).take m) := by
  by_cases hm : m < 4
  · have hl : ∀ n, ((beBytes 4 n ++ bs).take m).length < 4 := fun n => by simp; omega
    simp only [State.takeWrite, hl, if_true]
  · have ht : ∀ n, (beBytes 4 n ++ bs).take m = beBytes 4 n ++ bs.take (m - 4) := fun n => by
      rw [List.take_append, beBytes_length, List.take_of_length_le (by rw [beBytes_length]; omega)]
    rw [ht, ht, takeWrite_align ha]

theorem sdrWrite_align {a : Nat} (ha : a < 2 ^ 32) (bs : List Byte) :
    execSdrWrite (beBytes 4 a ++ bs) none s = execSdrWrite (beBytes 4 (a / 4 * 4) ++ bs) none s := by
  have hlen : (beBytes 4 a ++ bs).length = (beBytes 4 (a / 4 * 4) ++ bs).length := by simp [beBytes_length]
  simp only [execSdrWrite, State.clipWrite, hlen, takeWrite_clip_align ha]

/-- Settles O46: each command takes its address to a multiple of 4 and asks of the rest only its range. -/
theorem addressLowBits : Obligations.AddressLowBits := by
  unfold Obligations.AddressLowBits
  intro s a i v w strobes fabric bs
  refine ⟨?_, ?_, ?_, ?_, ?_, fun ha => sdrWrite_align ha bs⟩
  · show execRegisterWrite a v s = execRegisterWrite (a / 4 * 4) v s
    rw [execRegisterWrite, execRegisterWrite, align_align]
    exact reply_congr (by omega) rfl
  · show execBridgeAccess i a w strobes s = execBridgeAccess i (a / 4 * 4) w strobes s
    rw [execBridgeAccess, execBridgeAccess, align_align]
    exact reply_congr (or_congr_right (or_congr_right (by omega))) rfl
  · show execDmwAccess a w s = execDmwAccess (a / 4 * 4) w s
    rw [execDmwAccess, execDmwAccess, align_align]
    exact reply_congr (by omega) rfl
  · show execRegClkOff i a s = execRegClkOff i (a / 4 * 4) s
    rw [execRegClkOff, execRegClkOff, align_align]
    exact reply_congr (by omega) rfl
  · show execLowWordRead a fabric s = execLowWordRead (a / 4 * 4) fabric s
    rw [execLowWordRead, execLowWordRead, align_align]

end Sys2Proof.Machine
end

section
/-! SUPPORT. What a logged event leaves: the newest entry names it, and the registers outside the log, the event counters and the
pending causes hold what they held. -/

namespace Sys2Proof.Machine

variable {s : State} {a : Nat}

theorem reg_of_regs {t : State} (h : t.regs = s.regs) : t.reg a = s.reg a := by
  unfold State.reg
  rw [h]

theorem reg_when {c : Bool} {f : State → State} (h : (f s).reg a = s.reg a) : (s.when c f).reg a = s.reg a := by
  unfold State.when
  split
  · exact h
  · rfl

/-- The address lies below the counters and the log, and is not that of the pending causes. -/
def offLog (a : Nat) : Prop := a ≠ GLB_INTPEND ∧ a < 0xC00000

theorem ne_of_offLog {b : Nat} (h : offLog a) (hb : 0xC00000 ≤ b) : a ≠ b := by
  obtain ⟨-, h⟩ := h
  omega

theorem reg_pmc_of_offLog {n k : Nat} (h : offLog a) : (s.pmc n k).reg a = s.reg a :=
  reg_pmc_ne (ne_of_offLog h (by unfold PMC_LIVE_LO; omega)) (ne_of_offLog h (by unfold PMC_LIVE_HI; omega))

theorem ERL_RING_le (n w : Nat) : 0xC00000 ≤ ERL_RING n w := by unfold ERL_RING; omega

/-- The words of a new entry, and the slot of the next one. -/
def State.logSlot (s : State) (e0 info : BitVec 32) : State :=
  let n := s.fget ERL_COUNT_NextSlot
  let s := (s.setReg (ERL_RING n 0) e0).setReg (ERL_RING n 1) info
  let s := s.setReg (ERL_RING n 2) (BitVec.ofNat 32 s.frac32)
  let s := s.setReg (ERL_RING n 3) (BitVec.ofNat 32 (s.sec % 2 ^ 16))
  s.fset ERL_COUNT_NextSlot ((n + 1) % 256)

/-- One more entry is unread, or the oldest one is lost. -/
def State.logUnread (s : State) : State :=
  if s.fget ERL_COUNT_Unread = 256 then (s.inc ERL_LOST).fset ERL_STATUS_Wrapped 1
  else s.fset ERL_COUNT_Unread (s.fget ERL_COUNT_Unread + 1)

theorem logNew_regs {e0 info : BitVec 32} :
    (s.logNew e0 info).regs = (((s.logSlot e0 info).logUnread.fset ERL_STATUS_NotEmpty 1).raise 9).regs := rfl

theorem reg_logUnread_ne (hc : a ≠ ERL_COUNT) (hl : a ≠ ERL_LOST) (hs : a ≠ ERL_STATUS) : s.logUnread.reg a = s.reg a := by
  unfold State.logUnread
  split
  · rw [reg_fset_ne hs, reg_inc_ne hl]
  · rw [reg_fset_ne hc]

/-- A register that is not among the log's counts and the pending causes. -/
theorem reg_logNew_ne {e0 info : BitVec 32} (hp : a ≠ GLB_INTPEND) (hc : a ≠ ERL_COUNT) (hl : a ≠ ERL_LOST)
    (hs : a ≠ ERL_STATUS) : (s.logNew e0 info).reg a = (s.logSlot e0 info).reg a := by
  rw [reg_of_regs logNew_regs, reg_raise_ne hp, reg_fset_ne hs, reg_logUnread_ne hc hl hs]

theorem reg_logSlot_ne {e0 info : BitVec 32} (hc : a ≠ ERL_COUNT) (hr : ∀ w, a ≠ ERL_RING (s.fget ERL_COUNT_NextSlot) w) :
    (s.logSlot e0 info).reg a = s.reg a := by
  unfold State.logSlot
  rw [reg_fset_ne hc, reg_setReg_ne (hr 3), reg_setReg_ne (hr 2), reg_setReg_ne (hr 1), reg_setReg_ne (hr 0)]

theorem ERL_RING_ne {n v w : Nat} (h : v ≠ w) : ERL_RING n v ≠ ERL_RING n w := by unfold ERL_RING; omega

theorem ERL_RING_ne_of_lt {n w b : Nat} (h : b < 0xD01000) : ERL_RING n w ≠ b := by unfold ERL_RING; omega

/-- The first word of the entry just made. -/
theorem reg_logSlot_head {e0 info : BitVec 32} : (s.logSlot e0 info).reg (ERL_RING (s.fget ERL_COUNT_NextSlot) 0) = e0 := by
  unfold State.logSlot
  rw [reg_fset_ne (ERL_RING_ne_of_lt (by decide)), reg_setReg_ne (ERL_RING_ne (by decide)), reg_setReg_ne (ERL_RING_ne (by decide)),
    reg_setReg_ne (ERL_RING_ne (by decide)), reg_setReg_self]

theorem nextSlot_lt : s.fget ERL_COUNT_NextSlot < 256 := Nat.mod_lt _ (by decide)

theorem logged_logNew {code site inst : Nat} {info : BitVec 32} : logged (s.logNew (logE0 code site inst) info) code site inst := by
  refine ⟨s.fget ERL_COUNT_NextSlot, (((s.logSlot (logE0 code site inst) info).logUnread.fset ERL_STATUS_NotEmpty 1)).sec, rfl, ?_⟩
  rw [Nat.mod_eq_of_lt nextSlot_lt, reg_logNew_ne (ERL_RING_ne_of_lt (by decide)) (ERL_RING_ne_of_lt (by decide))
    (ERL_RING_ne_of_lt (by decide)) (ERL_RING_ne_of_lt (by decide)), reg_logSlot_head]

/-- An event takes a new entry, or it counts in the word that the newest entry keeps its repeats in (R356). -/
theorem log_cases (s : State) (code site inst info : Nat) :
    s.log code site inst info = (s.pmc 10 1).logNew (logE0 code site inst) (BitVec.ofNat 32 info) ∨
    ∃ n sec w, s.erl.newest = some (n, sec) ∧ (s.pmc 10 1).reg (ERL_RING (n % 256) 0) = logE0 code site inst ∧
      s.log code site inst info = (s.pmc 10 1).setReg (ERL_RING (n % 256) 3) w := by
  dsimp only [State.log]
  split
  · rename_i n sec hnew
    split
    · rename_i h
      exact .inr ⟨n, sec, _, hnew, h.1, rfl⟩
    · exact .inl rfl
  · exact .inl rfl

/-- The newest entry after an event names it. -/
theorem logged_log {code site inst info : Nat} : logged (s.log code site inst info) code site inst := by
  obtain h | ⟨n, sec, w, hnew, h0, h⟩ := log_cases s code site inst info
  · exact h ▸ logged_logNew
  · rw [h]
    exact ⟨n, sec, hnew, (reg_setReg_ne (ERL_RING_ne (by decide))).trans h0⟩

theorem reg_log_of_offLog {code site inst info : Nat} (h : offLog a) : (s.log code site inst info).reg a = s.reg a := by
  obtain e | ⟨n, sec, w, -, -, e⟩ := log_cases s code site inst info
  · rw [e, reg_logNew_ne h.1 (ne_of_offLog h (by decide)) (ne_of_offLog h (by decide)) (ne_of_offLog h (by decide)),
      reg_logSlot_ne (ne_of_offLog h (by decide)) fun w => ne_of_offLog h (ERL_RING_le _ w), reg_pmc_of_offLog h]
  · rw [e, reg_setReg_ne (ne_of_offLog h (ERL_RING_le _ 3)), reg_pmc_of_offLog h]

/-- The log stands in the registers and in the error log's own state. -/
theorem logged_of_eq {t : State} {code site inst : Nat} (h : logged s code site inst) (hr : t.regs = s.regs) (he : t.erl = s.erl) :
    logged t code site inst := by
  obtain ⟨n, sec, hn, hw⟩ := h
  exact ⟨n, sec, he ▸ hn, (reg_of_regs hr).trans hw⟩

/-! ## What the log leaves of the state -/

variable {code site inst info : Nat}

theorem log_kept : Kept (fun p => p == .regs || p == .erl) s (s.log code site inst info) :=
  kept_log (Kept.refl s) rfl rfl

@[simp] theorem log_wireOut : (s.log code site inst info).wireOut = s.wireOut := log_kept.same .wireOut rfl

end Sys2Proof.Machine
end

section
/-! Proofs about reads of registers: the latch of a wide value, registers whose clock is stopped, and the bridge's answers. -/

namespace Sys2Proof.Machine
open Sys2Proof

variable {s : State} {a i : Nat}

/-! ## Operations over a list -/

/-- What every step of a fold leaves alone, the fold does. -/
theorem each_keeps {α β : Type} {l : List α} {f : State → α → State} (g : State → β) (hf : ∀ s x, g (f s x) = g s) :
    g (s.each l f) = g s := by
  induction l generalizing s with
  | nil => rfl
  | cons x l ih => exact (ih (s := f s x)).trans (hf s x)

/-! ## Latches (R17) -/

/-- The latch of one word for the host leaves the live value of every other. -/
theorem peek_setShadow_ne {b u : Nat} {w : BitVec 32} (h : u ≠ b) : (s.setShadow b w).peek u = s.peek u := by
  have hu : tget 0 (s.setShadow b w).shadow u = tget 0 s.shadow u := tget_tset_ne _ _ _ h
  have hhigh : (s.setShadow b w).peekHigh u = s.peekHigh u := by
    unfold State.peekHigh
    rw [hu]
    rfl
  unfold State.peek
  rw [hhigh]
  rfl

/-- A read latches one, two or three words after its own. -/
theorem upperWords_forms (a : Nat) : upperWords a ∈ [[], [a + 4], [a + 4, a + 8], [a + 4, a + 8, a + 12]] := by
  unfold upperWords
  repeat' split
  all_goals simp

theorem upperWords_nodup (a : Nat) : (upperWords a).Nodup := by
  have h := upperWords_forms a
  simp only [List.mem_cons, List.not_mem_nil, or_false] at h
  rcases h with h | h | h | h <;> simp [h]

/-- A latch of several words in turn holds the value that each had at first. -/
theorem latch_holds {f : State → Nat → State} {sh : State → Tbl (BitVec 32)}
    (hset : ∀ s b, sh (f s b) = tset (regReset b) (sh s) b (s.peek b)) (hpeek : ∀ s b u, u ≠ b → (f s b).peek u = s.peek u)
    {l : List Nat} (hl : l.Nodup) : ∀ u ∈ l, shadowOf (sh (s.each l f)) u = s.peek u := by
  have hout : ∀ (l : List Nat) (s : State) (u : Nat), u ∉ l → shadowOf (sh (s.each l f)) u = shadowOf (sh s) u := by
    intro l
    induction l with
    | nil => exact fun s u _ => rfl
    | cons b l ih =>
      intro s u hu
      obtain ⟨hb, hl⟩ := not_or.mp (List.mem_cons.not.mp hu)
      refine (ih (f s b) u hl).trans ?_
      rw [shadowOf, hset, shadowOf]
      exact tget_tset_ne _ _ _ hb
  induction l generalizing s with
  | nil => exact fun u hu => nomatch hu
  | cons b l ih =>
    obtain ⟨hb, hl⟩ := List.nodup_cons.mp hl
    intro u hu
    rcases List.mem_cons.mp hu with rfl | hu
    · refine (hout l (f s u) u hb).trans ?_
      rw [shadowOf, hset, tget_tset_self]
    · exact (ih (s := f s b) hl u hu).trans (hpeek s b u fun h => hb (h ▸ hu))

theorem latch_shadow (a : Nat) : ∀ u ∈ upperWords a, shadowOf (s.latch a).shadow u = s.peek u :=
  latch_holds (sh := State.shadow) (fun _ _ => rfl) (fun _ _ _ h => peek_setShadow_ne h) (upperWords_nodup a)

theorem latchFab_shadow (a : Nat) : ∀ u ∈ upperWords a, shadowOf (s.latchFab a).shadowFab u = s.peek u :=
  latch_holds (f := fun s u => { s with shadowFab := tset (regReset u) s.shadowFab u (s.peek u) }) (sh := State.shadowFab)
    (fun _ _ => rfl) (fun _ _ _ _ => rfl) (upperWords_nodup a)

@[simp] theorem latch_regs : (s.latch a).regs = s.regs := each_keeps State.regs fun _ _ => rfl
@[simp] theorem latch_shadowFab : (s.latch a).shadowFab = s.shadowFab := each_keeps State.shadowFab fun _ _ => rfl
@[simp] theorem latch_wireOut : (s.latch a).wireOut = s.wireOut := each_keeps State.wireOut fun _ _ => rfl
@[simp] theorem latchFab_regs : (s.latchFab a).regs = s.regs := each_keeps State.regs fun _ _ => rfl
@[simp] theorem latchFab_shadow_host : (s.latchFab a).shadow = s.shadow := each_keeps State.shadow fun _ _ => rfl

theorem lowWordRead_of {fabric : Bool} (ht : s.takes a) (h4 : a % 4 = 0) (hu : upperWords a ≠ []) :
    exec (.lowWordRead a fabric) s = .next (if fabric then s.latchFab a else s.latch a) := by
  obtain ⟨haw, hh, hclk⟩ := ht
  have e : a / 4 * 4 = a := by omega
  show execLowWordRead a fabric s = _
  rw [execLowWordRead, e, reply_of_not (by simpa using hu)]
  simp [haw, hh, hclk]

/-! ## A register whose clock is stopped (R291) -/

/-- Such a register lies above the blocks whose clock always runs. -/
theorem le_of_regOff (h : s.regOff a = true) : 0x100000 ≤ a := by
  by_contra hlt
  simp [State.regOff, State.clockOn, Nat.lt_of_not_le hlt] at h

theorem offLog_of_regOff (h : s.regOff a = true) (hlt : a < 0xC00000) : offLog a := by
  have := le_of_regOff h
  exact ⟨by unfold GLB_INTPEND; omega, hlt⟩

theorem regOff_of_takes (h : s.takes a) : s.regOff a = false := by
  simp [State.regOff, h.2.2]

theorem writeAny_of_regOff {v : BitVec 32} (h : s.regOff a = true) : s.writeAny i a v = s.log 6 0 i (a % 2 ^ 32) := by
  simp [State.writeAny, h]

theorem fetchReg_of_regOff (h : s.regOff a = true) : s.fetchReg i a = (0, s.log 6 0 i (a % 2 ^ 32)) := by
  simp [State.fetchReg, h]

theorem fetchReg_of_takes (h : s.takes a) (hd : isDmw a = false) : s.fetchReg i a = (s.readReg a, s.latch a) := by
  simp [State.fetchReg, regOff_of_takes h, hd]

theorem regClkOff_of (hi : i < 24) (ha : a < 2 ^ 28) (h4 : a % 4 = 0) (haw : s.awake = true) (hoff : s.regOff a = true) :
    exec (.regClkOff i a) s = .next (s.log 6 0 i a) := by
  have e : a / 4 * 4 = a := by omega
  show execRegClkOff i a s = _
  rw [execRegClkOff, e, reply_of_not (by omega)]
  simp [haw, hoff]

/-- The bridge's answer to a read of a whole group. -/
theorem bridgeRead_of (hi : i < 24) (hm : mayAddress i 26 = true) (ha : a < 2 ^ 28) (h4 : a % 4 = 0) (haw : s.awake = true)
    (hh : s.regHeld a = false) : exec (.bridgeAccess i a none true) s =
      .next ((s.fetchReg i a).2.emit (.bridge i (s.fetchReg i a).1)) := by
  rw [bridgeAccess_of hi hm ha h4 haw hh]
  rfl

/-- A stopped clock: the write, the read and the access are logged, and the register stands. -/
theorem clockStopped (s : State) (a i : Nat) (v : Word) (haw : s.awake = true) (hoff : s.regOff a = true) (hh : s.regHeld a = false)
    (h4 : a % 4 = 0) (ha : a < 2 ^ 28) (hi : i < 24) :
    (gives (.registerWrite a v) s fun t => logged t 6 0 21 ∧ (a < 0xC00000 → t.reg a = s.reg a)) ∧
    (mayAddress i 26 = true → gives (.bridgeAccess i a none true) s fun t => logged t 6 0 i ∧
      t.wireOut = s.wireOut ++ [.bridge i 0]) ∧
    (gives (.regClkOff i a) s fun t => logged t 6 0 i ∧ (a < 0xC00000 → t.reg a = s.reg a)) := by
  have hreg : ∀ {code site inst info : Nat}, a < 0xC00000 → (s.log code site inst info).reg a = s.reg a := fun hlt =>
    reg_log_of_offLog (offLog_of_regOff hoff hlt)
  refine ⟨gives_of (registerWrite_of (by omega) h4 haw hh) ?_, fun hm => gives_of (bridgeRead_of hi hm ha h4 haw hh) ?_,
    gives_of (regClkOff_of hi ha h4 haw hoff) ⟨logged_log, hreg⟩⟩
  · rw [writeAny_of_regOff hoff]
    exact ⟨logged_log, hreg⟩
  · rw [fetchReg_of_regOff hoff, emit_bridge]
    exact ⟨logged_of_eq logged_log rfl rfl, by simp⟩

/-- The latch of a wide value, for the host and for the fabric. -/
theorem lowWordReads (s : State) (a : Nat) (ht : s.takes a) (h4 : a % 4 = 0) (hu : upperWords a ≠ []) :
    (gives (.lowWordRead a false) s fun t => t.regs = s.regs ∧ t.shadowFab = s.shadowFab ∧
      ∀ u ∈ upperWords a, shadowOf t.shadow u = s.peek u) ∧
    (gives (.lowWordRead a true) s fun t => t.regs = s.regs ∧ t.shadow = s.shadow ∧
      ∀ u ∈ upperWords a, shadowOf t.shadowFab u = s.peek u) :=
  ⟨gives_of (lowWordRead_of ht h4 hu) ⟨latch_regs, latch_shadowFab, latch_shadow a⟩,
    gives_of (lowWordRead_of ht h4 hu) ⟨latchFab_regs, latchFab_shadow_host, latchFab_shadow a⟩⟩

/-- A read through the bridge of a register whose clock runs, with all strobes and with some. -/
theorem bridgeReads (s : State) (a i : Nat) (ht : s.takes a) (h4 : a % 4 = 0) (ha : a < 2 ^ 28) (hi : i < 24)
    (hm : mayAddress i 26 = true) :
    (gives (.bridgeAccess i a none true) s fun t => t.regs = s.regs ∧
      t.wireOut = s.wireOut ++ [.bridge i (if isUpperWord a then shadowOf s.shadow a else s.peek a)]) ∧
    (gives (.bridgeAccess i a none false) s fun t => regsBut s t [MTX_DECERR i] ∧
      t.reg (MTX_DECERR i) = s.reg (MTX_DECERR i) + 1 ∧ t.wireOut = s.wireOut ++ [.bridge i 0]) := by
  refine ⟨gives_of (bridgeRead_of hi hm ha h4 ht.1 ht.2.1) ?_, gives_of (bridgeAccess_of hi hm ha h4 ht.1 ht.2.1) ?_⟩
  · rw [fetchReg_of_takes ht (isDmw_of_lt ha), emit_bridge]
    exact ⟨latch_regs, by rw [latch_wireOut, State.readReg]⟩
  · have hne : ∀ b ∉ [MTX_DECERR i], (s.inc (MTX_DECERR i)).reg b = s.reg b := fun b hb => reg_inc_ne (by simpa using hb)
    exact ⟨hne, reg_inc_self (s := s), rfl⟩

/-- An address of no register, whatever block it lies in. -/
theorem nowhereAccesses (s : State) (a i : Nat) (v : Word) (haw : s.awake = true) (h4 : a % 4 = 0) (hn : findRow a = none)
    (hd : isDmw a = false) :
    (a < 2 ^ 32 → exec (.registerWrite a v) s = .next s) ∧
    (a < 2 ^ 28 → i < 24 → mayAddress i 26 = true → s.regHeld a = false →
      exec (.bridgeAccess i a (some v) true) s = .next s ∧
      gives (.bridgeAccess i a none true) s fun t => t = { s with wireOut := s.wireOut ++ [.bridge i 0] }) := by
  refine ⟨fun ha => ?_, fun ha hi hm hh => ⟨bridgeWrite_of_findRow_none hi hm ha h4 haw hh hn,
    gives_of (bridgeRead_of_findRow_none hi hm ha h4 haw hh hn) rfl⟩⟩
  cases hh : s.regHeld a with
  | true => exact registerWrite_held ha h4 hh
  | false => rw [registerWrite_of ha h4 haw hh, writeAny_of_findRow_none hn h4 hd]

/-- Settles O48, part by part. -/
theorem registerReads : Obligations.RegisterReads := by
  unfold Obligations.RegisterReads
  exact ⟨clockStopped, fun s a i ht h4 => ⟨lowWordReads s a ht h4, bridgeReads s a i ht h4⟩, nowhereAccesses⟩

end Sys2Proof.Machine
end

section
/-! Proofs about temperatures, the trip, RESET_N, the supplies and the test access port. -/

namespace Sys2Proof.Machine
open Sys2Proof

variable {s : State}

/-! ## Fields beside an update -/

@[simp] theorem reg_modPwr {f : PwrSt → PwrSt} {a : Nat} : (s.modPwr f).reg a = s.reg a := rfl
@[simp] theorem modPwr_regs {f : PwrSt → PwrSt} : (s.modPwr f).regs = s.regs := rfl
@[simp] theorem modPwr_pwr {f : PwrSt → PwrSt} : (s.modPwr f).pwr = f s.pwr := rfl
theorem modPwr_fset {f : PwrSt → PwrSt} {x : Fld} {v : Nat} : (s.modPwr f).fset x v = (s.fset x v).modPwr f := rfl
theorem modPwr_inc {f : PwrSt → PwrSt} {a : Nat} : (s.modPwr f).inc a = (s.inc a).modPwr f := rfl
theorem modPwr_raise {f : PwrSt → PwrSt} {c : Nat} : (s.modPwr f).raise c = (s.raise c).modPwr f := rfl

theorem flag_fset {f : Fld} {v : Nat} (h : f.lo + f.width ≤ 32) : (s.fset f v).flag f = decide (v % 2 ^ f.width ≠ 0) := by
  rw [State.flag, fget_fset h]

theorem fget_of_reg {t : State} {f : Fld} (h : t.reg f.addr = s.reg f.addr) : t.fget f = s.fget f := by
  rw [State.fget, State.fget, h]

/-! ## Temperatures (R376) -/

/-- The hottest reading is no less than the one to begin with and any of the list. -/
theorem le_hottest {l : List Int} {i : Nat} {b : Nat × Int} : ∀ x ∈ b.2 :: l, x ≤ (hottest l i b).2 := by
  induction l generalizing i b with
  | nil => simp [hottest]
  | cons q l ih =>
    have h := ih (i := i + 1) (b := if b.2 < q then (i, q) else b)
    have hb : b.2 ≤ (if b.2 < q then (i, q) else b).2 ∧ q ≤ (if b.2 < q then (i, q) else b).2 := by
      split
      · exact ⟨by omega, le_refl q⟩
      · exact ⟨le_refl _, by omega⟩
    obtain ⟨h0, hl⟩ := List.forall_mem_cons.mp h
    exact List.forall_mem_cons.mpr ⟨hb.1.trans h0, List.forall_mem_cons.mpr ⟨hb.2.trans h0, hl⟩⟩

/-- The sensor that shows it is among those read. -/
theorem hottest_lt {l : List Int} {i : Nat} {b : Nat × Int} (hb : b.1 < i + l.length) : (hottest l i b).1 < i + l.length := by
  induction l generalizing i b with
  | nil => exact hb
  | cons q l ih =>
    rw [List.length_cons] at hb
    have hb : (if b.2 < q then (i, q) else b).1 < i + 1 + l.length := by
      split
      · exact (by omega : i < i + 1 + l.length)
      · omega
    have := ih hb
    rw [hottest, List.length_cons]
    omega

/-- The registers as a period's readings show them, before the warning. -/
def State.showTemp (s : State) (sensor : Nat) (q : Int) : State :=
  let peak := if s.pwr.read then max (q / 4) (toSigned 8 (s.fget PWR_TEMP_PeakC)) else q / 4
  let s := ((s.fset PWR_TEMP_Sensor sensor).fset PWR_TEMP_JunctionC (byteOf (q / 4))).fset PWR_TEMP_PeakC (byteOf peak)
  s.fset PWR_STATUS_OverMax (if 380 < q then 1 else 0)

/-- The period's readings with the note that one has been taken. -/
def State.tempRead (s : State) (sensor : Nat) (q : Int) : State := (s.showTemp sensor q).modPwr fun x => { x with read := true }

/-- A reading of 90.00 °C or more warns where the warning is armed; one below 88.00 °C arms it. -/
theorem thermal_eq {sensor : Nat} {q : Int} : s.thermal sensor q =
    if 360 ≤ q && s.pwr.warnArmed then
      ((((s.tempRead sensor q).modPwr fun x => { x with warnArmed := false }).fset PWR_STATUS_ThermWarn 1).inc PWR_WARNCNT).raise 1
    else if q < 352 then (s.tempRead sensor q).modPwr fun x => { x with warnArmed := true }
    else s.tempRead sensor q := by
  have hw : (s.tempRead sensor q).pwr.warnArmed = s.pwr.warnArmed := by
    simp only [State.tempRead, State.showTemp, modPwr_pwr, fset_pwr]
  rw [← hw]
  simp only [State.thermal, State.tempRead, State.showTemp]
  congr 1

theorem thermal_warned {sensor : Nat} {q : Int} (h : (decide (360 ≤ q) && s.pwr.warnArmed) = true) :
    (s.thermal sensor q).regs = ((((s.showTemp sensor q).fset PWR_STATUS_ThermWarn 1).inc PWR_WARNCNT).raise 1).regs ∧
      (s.thermal sensor q).pwr.warnArmed = false := by
  rw [thermal_eq, if_pos h]
  simp only [State.tempRead, modPwr_fset, modPwr_inc, modPwr_raise, modPwr_regs, modPwr_pwr, and_self]

theorem thermal_quiet {sensor : Nat} {q : Int} (h : ¬ (decide (360 ≤ q) && s.pwr.warnArmed) = true) :
    (s.thermal sensor q).regs = (s.showTemp sensor q).regs := by
  rw [thermal_eq, if_neg h]
  split <;> simp only [State.tempRead, modPwr_regs]

/-- The warning touches its own bit, its count and its cause. -/
theorem reg_warn_ne {t : State} {a : Nat} (hs : a ≠ PWR_STATUS) (hw : a ≠ PWR_WARNCNT) (hp : a ≠ GLB_INTPEND) :
    (((t.fset PWR_STATUS_ThermWarn 1).inc PWR_WARNCNT).raise 1).reg a = t.reg a := by
  rw [reg_raise_ne hp, reg_inc_ne hw, reg_fset_ne hs]

theorem fget_thermal_temp {sensor : Nat} {q : Int} {f : Fld} (hf : f.addr = PWR_TEMP) :
    (s.thermal sensor q).fget f = (s.showTemp sensor q).fget f := by
  refine fget_of_reg ?_
  by_cases h : (decide (360 ≤ q) && s.pwr.warnArmed) = true
  · rw [reg_of_regs (thermal_warned h).1, hf]
    exact reg_warn_ne (by decide) (by decide) (by decide)
  · exact reg_of_regs (thermal_quiet h)

theorem flag_thermal_overMax {sensor : Nat} {q : Int} :
    (s.thermal sensor q).flag PWR_STATUS_OverMax = decide (380 < q) := by
  have hshow : (s.showTemp sensor q).flag PWR_STATUS_OverMax = decide (380 < q) := by
    rw [State.showTemp, flag_fset (by decide)]
    split <;> simp_all [PWR_STATUS_OverMax]
  refine Eq.trans ?_ hshow
  by_cases h : (decide (360 ≤ q) && s.pwr.warnArmed) = true
  · have e : (s.thermal sensor q).fget PWR_STATUS_OverMax =
        ((s.showTemp sensor q).fset PWR_STATUS_ThermWarn 1).fget PWR_STATUS_OverMax := by
      refine fget_of_reg ?_
      rw [reg_of_regs (thermal_warned h).1, reg_raise_ne (by decide), reg_inc_ne (by decide)]
    rw [State.flag, e, fget_fset_ne (by decide), State.flag]
  · rw [State.flag, fget_of_reg (reg_of_regs (thermal_quiet h)), State.flag]

theorem reg_showTemp_ne {sensor a : Nat} {q : Int} (ht : a ≠ PWR_TEMP) (hs : a ≠ PWR_STATUS) :
    (s.showTemp sensor q).reg a = s.reg a := by
  unfold State.showTemp
  rw [reg_fset_ne hs, reg_fset_ne ht, reg_fset_ne ht, reg_fset_ne ht]

theorem showTemp_sensor {sensor : Nat} {q : Int} (h : sensor < 16) : (s.showTemp sensor q).fget PWR_TEMP_Sensor = sensor := by
  unfold State.showTemp
  rw [fget_fset_ne (by decide), fget_fset_ne (by decide), fget_fset_ne (by decide), fget_fset (by decide)]
  exact Nat.mod_eq_of_lt h

theorem showTemp_junction {sensor : Nat} {q : Int} : (s.showTemp sensor q).fget PWR_TEMP_JunctionC = ofSigned 8 (q / 4) := by
  unfold State.showTemp
  rw [fget_fset_ne (by decide), fget_fset_ne (by decide), fget_fset (by decide)]
  have hlt : byteOf (q / 4) < 256 := by unfold byteOf; omega
  exact Nat.mod_eq_of_lt hlt

/-- One period's readings. -/
theorem readingsShown (s : State) (q : Int) (rest : List Int) (haw : s.awake = true) (hlen : rest.length = 15)
    (hr : ∀ x ∈ q :: rest, -512 ≤ x ∧ x ≤ 511) : gives (.thermalReading (q :: rest)) s fun t =>
      t.fget PWR_TEMP_JunctionC = ofSigned 8 ((hottest rest 1 (0, q)).2 / 4) ∧
      t.fget PWR_TEMP_Sensor = (hottest rest 1 (0, q)).1 ∧ (∀ x ∈ q :: rest, x ≤ (hottest rest 1 (0, q)).2) ∧
      t.flag PWR_STATUS_OverMax = decide (380 < (hottest rest 1 (0, q)).2) ∧
      (360 ≤ (hottest rest 1 (0, q)).2 → s.pwr.warnArmed = true → t.flag PWR_STATUS_ThermWarn = true ∧
        t.reg PWR_WARNCNT = s.reg PWR_WARNCNT + 1 ∧ (t.reg GLB_INTPEND).getLsbD 0 = true ∧ t.pwr.warnArmed = false) ∧
      (s.pwr.warnArmed = false → t.reg PWR_WARNCNT = s.reg PWR_WARNCNT) := by
  have hbad : ¬ ((q :: rest).length ≠ 16 ∨ ((q :: rest).any fun x => decide (x < -512) || decide (511 < x)) = true) := by
    simp only [List.length_cons, hlen, ne_eq, not_true_eq_false, false_or, Bool.not_eq_true, List.any_eq_false,
      Bool.or_eq_true, decide_eq_true_eq]
    exact fun x hx => by have := hr x hx; omega
  have hlt : (hottest rest 1 (0, q)).1 < 16 := by
    have := hottest_lt (l := rest) (i := 1) (b := (0, q)) (by simp)
    omega
  refine gives_of (t := s.thermal (hottest rest 1 (0, q)).1 (hottest rest 1 (0, q)).2) ?_ ⟨?_, ?_, le_hottest (b := (0, q)),
    flag_thermal_overMax, fun h360 harm => ?_, fun harm => ?_⟩
  · show execThermalReading (q :: rest) s = _
    rw [execThermalReading, reply_of_not hbad]
    simp [haw]
  · rw [fget_thermal_temp rfl, showTemp_junction]
  · rw [fget_thermal_temp rfl, showTemp_sensor hlt]
  · obtain ⟨hregs, hoff⟩ := thermal_warned (s := s) (sensor := (hottest rest 1 (0, q)).1) (q := (hottest rest 1 (0, q)).2)
      (by simp [h360, harm])
    have hreg : ∀ a, _ := fun a => reg_of_regs (a := a) hregs
    refine ⟨?_, ?_, ?_, hoff⟩
    · rw [State.flag, fget_of_reg ((hreg _).trans ((reg_raise_ne (by decide)).trans (reg_inc_ne (by decide)))),
        fget_fset (by decide)]
      rfl
    · rw [hreg, reg_raise_ne (by decide), reg_inc_self, reg_fset_ne (by decide), reg_showTemp_ne (by decide) (by decide)]
    · rw [hreg, State.raise, reg_setReg_self]
      simp
  · rw [reg_of_regs (thermal_quiet (by simp [harm])), reg_showTemp_ne (by decide) (by decide)]

end Sys2Proof.Machine
end

section
/-! Proofs about the trip, RESET_N, the supplies and the test access port. -/

namespace Sys2Proof.Machine
open Sys2Proof

variable {s : State}

/-! ## The trip (R377, R378) -/

/-- The trip latch is set and shown. -/
def State.tripLatch (s : State) : State := (s.modPwr fun x => { x with trip := true }).fset PWR_STATUS_Tripped 1

theorem pwrBreak_regs : s.pwrBreak.regs = ((s.fset PWR_STATUS_Busy 0).fset PWR_STATUS_Target s.pwr.last).regs := rfl

theorem pwrBreak_pwr : s.pwrBreak.pwr = { s.pwr with phase := .none } := rfl

theorem thermalTrip_of (hv : s.pwr.fromVbat = false) :
    exec .thermalTrip s = .next (if s.awake then s.tripLatch.pwrBreak else s.tripLatch) := by
  show execThermalTrip s = _
  rw [execThermalTrip, hv]
  rfl

theorem fget_pwrBreak {f : Fld} (hb : f.lo + f.width ≤ 7 ∨ 8 ≤ f.lo)
    (ht : f.lo + f.width ≤ 4 ∨ 7 ≤ f.lo) : s.pwrBreak.fget f = s.fget f := by
  rw [fget_of_reg (reg_of_regs pwrBreak_regs), fget_fset_ne (.inr ht), fget_fset_ne (.inr hb)]

/-- While the trip shows, the fast clocks stand and the part is not in RUN. -/
theorem fastClk_of_tripped (h : s.flag PWR_STATUS_Tripped = true) : s.fastClk = false := by simp [State.fastClk, h]

theorem isRun_of_tripped (h : s.flag PWR_STATUS_Tripped = true) : s.isRun = false := by simp [State.isRun, State.inRun, h]

/-- A trip of a part that is awake: the latch, the clocks, the transition. -/
theorem tripStops (s : State) (haw : s.awake = true) (hv : s.pwr.fromVbat = false) : gives .thermalTrip s fun t =>
    t.flag PWR_STATUS_Tripped = true ∧ t.fget PWR_STATUS_Target = s.pwr.last % 8 ∧ t.flag PWR_STATUS_Busy = false ∧
      t.pwr.phase = .none ∧ t.pwr.trip = true ∧ t.fastClk = false ∧ t.isRun = false ∧ regsBut s t [PWR_STATUS] := by
  have hpwr : s.tripLatch.pwr = { s.pwr with trip := true } := rfl
  have htrip : s.tripLatch.pwrBreak.flag PWR_STATUS_Tripped = true := by
    rw [State.flag, fget_pwrBreak (by decide) (by decide), State.tripLatch, fget_fset (by decide)]
    rfl
  refine gives_of (t := s.tripLatch.pwrBreak) ?_ ⟨htrip, ?_, ?_, by rw [pwrBreak_pwr], by rw [pwrBreak_pwr, hpwr],
    fastClk_of_tripped htrip, isRun_of_tripped htrip, fun a ha => ?_⟩
  · rw [thermalTrip_of hv, if_pos haw]
  · rw [fget_of_reg (reg_of_regs pwrBreak_regs), fget_fset (by decide), hpwr]
    rfl
  · rw [State.flag, fget_of_reg (reg_of_regs pwrBreak_regs), fget_fset_ne (by decide), fget_fset (by decide)]
    rfl
  · have ha : a ≠ PWR_STATUS := by simpa using ha
    rw [reg_of_regs pwrBreak_regs, reg_fset_ne ha, reg_fset_ne ha, State.tripLatch, reg_fset_ne ha, reg_modPwr]

/-- A trip in reset is latched all the same. -/
theorem tripLatches (u : State) (haw : u.awake = false) (hv : u.pwr.fromVbat = false) : exec .thermalTrip u =
    .next { u.fset PWR_STATUS_Tripped 1 with pwr := { u.pwr with trip := true } } := by
  rw [thermalTrip_of hv, haw]
  rfl

/-! ## RESET_N (R402) -/

/-- What a table keeps of an entry where only some keys stay. -/
theorem tget_filter {α : Type} (d : α) (t : Tbl α) (p : Nat → Bool) (i : Nat) :
    tget d (t.filter fun e => p e.1) i = if p i then tget d t i else d := by
  induction t with
  | nil => simp
  | cons e t ih =>
    obtain ⟨k, v⟩ := e
    by_cases hk : k = i
    · subst hk
      by_cases hp : p k = true
      · simp [hp, tget]
      · simpa [List.filter_cons, hp] using ih
    · by_cases hp : p k = true
      · simpa [List.filter_cons, hp, tget, hk] using ih
      · simpa [List.filter_cons, hp, tget, hk] using ih

/-- The state of reset but for the fuse bits and the trip's. -/
def State.resetBare (s : State) : State :=
  { State.reset with
    pending := s.pending
    fresh := s.fresh
    wireOut := s.wireOut
    regs := s.regs.filter fun e => isVbat e.1 || isFuse e.1
    tim := { TimSt.reset with calDiv := s.tim.calDiv }
    pwr := { PwrSt.reset with
      off := s.pwr.off, inReset := true, trip := s.pwr.trip, fromVbat := s.pwr.fromVbat, tap := s.pwr.tap
      boundary := s.pwr.boundary, vbatLow := s.pwr.vbatLow } }

theorem resetAll_eq : s.resetAll = (s.resetBare.setReg IMG_FUSE (s.reg IMG_FUSE &&& 0x80000F0F#32)).fset PWR_STATUS_Tripped
    (if s.pwr.trip then 1 else 0) := rfl

theorem reg_resetBare {a : Nat} : s.resetBare.reg a = if isVbat a || isFuse a then s.reg a else regReset a :=
  tget_filter (regReset a) s.regs (fun a => isVbat a || isFuse a) a

theorem reg_resetAll {a : Nat} (hf : a ≠ IMG_FUSE) (hp : a ≠ PWR_STATUS) :
    s.resetAll.reg a = if isVbat a || isFuse a then s.reg a else regReset a := by
  rw [resetAll_eq, reg_fset_ne hp, reg_setReg_ne hf, reg_resetBare]

theorem ne_of_isVbat {a b : Nat} (ha : isVbat a = true) (hb : isVbat b = false) : a ≠ b := fun h => by
  rw [h, hb] at ha
  cases ha

theorem ne_of_not_isVbat {a b : Nat} (ha : isVbat a = false) (hb : isVbat b = true) : a ≠ b := fun h => by
  rw [h, hb] at ha
  cases ha

theorem ne_of_not_isFuse {a b : Nat} (ha : isFuse a = false) (hb : isFuse b = true) : a ≠ b := fun h => by
  rw [h, hb] at ha
  cases ha

theorem reg_resetAll_vbat {a : Nat} (h : isVbat a = true) : s.resetAll.reg a = s.reg a := by
  rw [reg_resetAll (ne_of_isVbat h (by decide)) (ne_of_isVbat h (by decide)), h]
  rfl

theorem reg_resetAll_fuse {a : Nat} (h : isFuse a = true) (hf : a ≠ IMG_FUSE) : s.resetAll.reg a = s.reg a := by
  have hp : a ≠ PWR_STATUS := fun e => by
    rw [e] at h
    exact absurd h (by decide)
  rw [reg_resetAll hf hp, h, Bool.or_true]
  rfl

theorem reg_resetAll_other {a : Nat} (hv : isVbat a = false) (hf : isFuse a = false) (hp : a ≠ PWR_STATUS) :
    s.resetAll.reg a = regReset a := by
  rw [reg_resetAll (ne_of_not_isFuse hf (by decide)) hp, hv, hf]
  rfl

theorem regReset_pwrStatus : regReset PWR_STATUS = 1 := by decide +kernel

theorem reg_resetAll_pwrStatus : s.resetAll.reg PWR_STATUS = PWR_STATUS_Tripped.into 1 (if s.pwr.trip then 1 else 0) := by
  have e : (s.resetBare.setReg IMG_FUSE (s.reg IMG_FUSE &&& 0x80000F0F#32)).reg PWR_STATUS_Tripped.addr = 1 := by
    rw [reg_setReg_ne (by decide), reg_resetBare]
    exact regReset_pwrStatus
  rw [resetAll_eq, State.fset, e]
  exact reg_setReg_self

theorem resetAll_pwrState : s.resetAll.pwrState = 1 := by
  rw [State.pwrState, State.fget, show PWR_STATUS_State.addr = PWR_STATUS from rfl, reg_resetAll_pwrStatus, of_into_ne (by decide)]
  decide

theorem resetAll_tripped : s.resetAll.flag PWR_STATUS_Tripped = s.pwr.trip := by
  rw [State.flag, State.fget, show PWR_STATUS_Tripped.addr = PWR_STATUS from rfl, reg_resetAll_pwrStatus, of_into (by decide)]
  cases s.pwr.trip <;> rfl

theorem resetAll_pwr : s.resetAll.pwr = { PwrSt.reset with
    off := s.pwr.off, inReset := true, trip := s.pwr.trip, fromVbat := s.pwr.fromVbat, tap := s.pwr.tap
    boundary := s.pwr.boundary, vbatLow := s.pwr.vbatLow } := rfl

theorem resetAll_awake : s.resetAll.awake = false := by
  rw [State.awake, resetAll_pwr, Bool.not_true, Bool.and_false]

/-- RESET_N low: a pulse under a microsecond is filtered, one of ten and more resets the part. -/
theorem resetAsserted (s : State) (w : Nat) (hr : s.pwr.inReset = false) (hw : 10000 ≤ w) :
    exec (.resetAssert w) s = .next s.resetAll := by
  show execResetAssert w s = _
  rw [execResetAssert, hr, if_neg (by simp), if_neg (by omega), if_neg (by omega)]

theorem resetFiltered (s : State) (w : Nat) (hr : s.pwr.inReset = false) (hw : w < 1000) : exec (.resetAssert w) s = .next s := by
  show execResetAssert w s = _
  rw [execResetAssert, hr, if_neg (by simp), if_pos hw]

/-! ## The release of RESET_N (R362, R400) -/

/-- The account's registers lie in the error log's block. -/
theorem reg_setTotal_of_lt {fr sec n a : Nat} (ha : a < 0xD00000) (hf : 0xD00000 ≤ fr) (hs : 0xD00000 ≤ sec) :
    (s.setTotal fr sec n).reg a = s.reg a := by
  unfold State.setTotal
  rw [reg_setReg_ne (by omega), reg_setReg_ne (by omega)]

theorem reg_causeTotals_of_lt {a : Nat} {l : List Nat} {n : Nat → Nat} (ha : a < 0xD00000) :
    (s.each l fun s c => s.setTotal (ERL_LPSCAUSE_FR c) (ERL_LPSCAUSE_SEC c) (n c)).reg a = s.reg a :=
  each_keeps (fun s => s.reg a) fun s c =>
    reg_setTotal_of_lt ha (by unfold ERL_LPSCAUSE_FR; omega) (by unfold ERL_LPSCAUSE_SEC; omega)

theorem reg_accountPut_of_lt {w : VbatWrite} {a : Nat} (ha : a < 0xD00000) : (s.accountPut w).reg a = s.reg a := by
  unfold State.accountPut
  rw [reg_setReg_ne (ne_of_lt (lt_of_lt_of_le ha (by decide))), reg_setTotal_of_lt ha (by decide) (by decide),
    reg_causeTotals_of_lt ha, reg_setTotal_of_lt ha (by decide) (by decide)]

theorem reg_withErl {e : ErlSt} {a : Nat} : ({ s with erl := e } : State).reg a = s.reg a := rfl

theorem reg_clearLps_of_lt {a : Nat} (ha : a < 0xD00000) : s.clearLps.reg a = s.reg a := by
  simp only [State.clearLps]
  rw [reg_withErl, reg_setReg_ne (ne_of_lt (lt_of_lt_of_le ha (by decide))), reg_causeTotals_of_lt ha,
    reg_setTotal_of_lt ha (by decide) (by decide)]

theorem reg_clearFab_of_lt {a : Nat} (ha : a < 0xD00000) : s.clearFab.reg a = s.reg a := by
  simp only [State.clearFab]
  rw [reg_withErl, reg_setTotal_of_lt ha (by decide) (by decide)]

theorem reg_addAcc {i n a : Nat} : (s.addAcc i n).reg a = s.reg a := rfl

theorem reg_addLoss {c n a : Nat} : (s.addLoss c n).reg a = s.reg a := rfl

theorem reg_accountLoad_of_lt {a : Nat} (ha : a < 0xD00000) : s.accountLoad.reg a = s.reg a := by
  simp only [State.accountLoad]
  split
  · rw [reg_fset_ne (ne_of_lt (lt_of_lt_of_le ha (by decide))), reg_accountPut_of_lt ha, reg_withErl, reg_addLoss, reg_addAcc]
    exact each_keeps (fun s => s.reg a) fun _ _ => reg_addAcc
  · rw [reg_clearFab_of_lt ha, reg_clearLps_of_lt ha]

theorem loadShadows_regs : s.loadShadows.regs = s.regs := each_keeps State.regs fun _ _ => rfl

/-- The part comes out of reset: its straps are sampled, its time is loaded. -/
def State.strapped (s : State) (a b : Nat) : State :=
  ((s.modPwr fun x => { x with off := false, inReset := false, fromVbat := false }).fset GLB_STRAP_AddrSel a).fset
    GLB_STRAP_BootSrc b

theorem resetEnd_eq {a b : Nat} : s.resetEnd a b = ({ s.strapped a b with
    time := (if (s.strapped a b).flag CAL_STATUS_Valid then (s.strapped a b).get2 CAL_SEC_LO CAL_SEC_HI + 1 else 0)
      % 2 ^ 48 * 2 ^ 80 } : State).accountLoad.loadShadows := rfl

theorem reg_strapped_ne {a b r : Nat} (h : r ≠ GLB_STRAP) : (s.strapped a b).reg r = s.reg r := by
  unfold State.strapped
  rw [reg_fset_ne h, reg_fset_ne h, reg_modPwr]

theorem reg_resetEnd_of_lt {a b r : Nat} (hr : r < 0xD00000) : (s.resetEnd a b).reg r = (s.strapped a b).reg r := by
  rw [resetEnd_eq, reg_of_regs loadShadows_regs, reg_accountLoad_of_lt hr]
  rfl

theorem resetEnd_kept {a b : Nat} : (s.resetEnd a b).pwr = { s.pwr with off := false, inReset := false, fromVbat := false } ∧
    (s.resetEnd a b).time = (if s.flag CAL_STATUS_Valid then (s.get2 CAL_SEC_LO CAL_SEC_HI + 1) % 2 ^ 48 * 2 ^ 80 else 0) := by
  have hk : ∀ t : State, Kept (fun p => p == .regs || p == .erl || p == .fab || p == .shadow) t t.accountLoad.loadShadows :=
    fun t => kept_loadShadows (kept_accountLoad (Kept.refl t) rfl rfl rfl) rfl
  have hv : (s.strapped a b).flag CAL_STATUS_Valid = s.flag CAL_STATUS_Valid := by
    rw [State.flag, State.flag, fget_of_reg (reg_strapped_ne (by decide))]
  have ht : (s.strapped a b).get2 CAL_SEC_LO CAL_SEC_HI = s.get2 CAL_SEC_LO CAL_SEC_HI := by
    rw [State.get2, State.get2, reg_strapped_ne (by decide), reg_strapped_ne (by decide)]
  rw [resetEnd_eq]
  refine ⟨(hk _).pwr, ((hk _).same .time rfl).trans ?_⟩
  show (if _ then _ else 0) % 2 ^ 48 * 2 ^ 80 = _
  rw [hv, ht]
  split <;> rfl

/-- The release of RESET_N. -/
theorem resetReleased (s : State) (a b : Nat) (hr : s.pwr.inReset = true) (ha : a < 8) (hb : b < 4) :
    gives (.resetRelease a b) s fun t => t.awake = true ∧ t.pwr.fromVbat = false ∧
      t.fget GLB_STRAP_AddrSel = a ∧ t.fget GLB_STRAP_BootSrc = b ∧ t.flag PWR_STATUS_Tripped = s.flag PWR_STATUS_Tripped ∧
      t.time = (if s.flag CAL_STATUS_Valid then (s.get2 CAL_SEC_LO CAL_SEC_HI + 1) % 2 ^ 48 * 2 ^ 80 else 0) := by
  obtain ⟨hpwr, htime⟩ := resetEnd_kept (s := s) (a := a) (b := b)
  refine gives_of (t := s.resetEnd a b) ?_ ⟨by rw [State.awake, hpwr]; rfl, by rw [hpwr], ?_, ?_, ?_, htime⟩
  · show execResetRelease a b s = _
    rw [execResetRelease, reply_of_not (by omega), hr]
    rfl
  · rw [fget_of_reg (reg_resetEnd_of_lt (by decide)), State.strapped, fget_fset_ne (by decide), fget_fset (by decide)]
    exact Nat.mod_eq_of_lt ha
  · rw [fget_of_reg (reg_resetEnd_of_lt (by decide)), State.strapped, fget_fset (by decide)]
    exact Nat.mod_eq_of_lt hb
  · rw [State.flag, State.flag, fget_of_reg ((reg_resetEnd_of_lt (by decide)).trans (reg_strapped_ne (by decide)))]

/-! ## Loss of the supplies (R194, R362, R405) -/

/-- The VBAT domain runs from VBAT, and the account's write in flight is dropped. -/
def State.vbatRun (s : State) : State :=
  { s with erl := { s.erl with vbat := none }, pwr := { s.pwr with fromVbat := true } }

theorem onVbat_eq : s.onVbat = if s.pwr.vbatLow then s.vbatRun.fset CAL_STATUS_Valid 0 else s.vbatRun := rfl

theorem onVbat_low (h : s.pwr.vbatLow = true) : s.onVbat = s.vbatRun.fset CAL_STATUS_Valid 0 := by rw [onVbat_eq, if_pos h]

theorem onVbat_good (h : s.pwr.vbatLow = false) : s.onVbat = s.vbatRun := by rw [onVbat_eq, if_neg (by simp [h])]

theorem vbatRun_regs : s.vbatRun.regs = s.regs := rfl

theorem onVbat_regs (h : s.pwr.vbatLow = false) : s.onVbat.regs = s.regs := by rw [onVbat_good h, vbatRun_regs]

theorem reg_onVbat_ne {a : Nat} (ha : a ≠ CAL_STATUS) : s.onVbat.reg a = s.reg a := by
  cases h : s.pwr.vbatLow with
  | true => rw [onVbat_low h, reg_fset_ne ha, reg_of_regs vbatRun_regs]
  | false => rw [reg_of_regs (onVbat_regs h)]

/-- A low VBAT loses Valid as the VBAT domain comes to run from it. -/
theorem onVbat_invalid (h : s.pwr.vbatLow = true) : s.onVbat.flag CAL_STATUS_Valid = false := by
  rw [onVbat_low h, flag_fset (by decide)]
  rfl

/-- The fields of the state beside the registers that running from VBAT leaves and changes. -/
theorem onVbat_state : s.onVbat.pwr = { s.pwr with fromVbat := true } ∧ s.onVbat.erl = { s.erl with vbat := none } ∧
    s.onVbat.tim = s.tim ∧ s.onVbat.hbm = s.hbm := by
  cases h : s.pwr.vbatLow with
  | true =>
    rw [onVbat_low h]
    exact ⟨rfl, rfl, rfl, rfl⟩
  | false =>
    rw [onVbat_good h]
    exact ⟨rfl, rfl, rfl, rfl⟩

/-- The part after the loss of its main supplies, before what is OFF is noted. -/
def State.unsupplied (s : State) : State := (s.resetAll.fset PWR_STATUS_Tripped 0).onVbat

theorem mainSupplyLoss_of : exec .mainSupplyLoss s =
    .next (s.unsupplied.modPwr fun x => { x with off := true, trip := false, tap := .idcode, boundary := 0 }) := rfl

theorem reg_unsupplied_ne {a : Nat} (hc : a ≠ CAL_STATUS ∨ s.pwr.vbatLow = false) (hp : a ≠ PWR_STATUS) :
    s.unsupplied.reg a = s.resetAll.reg a := by
  refine Eq.trans ?_ (reg_fset_ne (f := PWR_STATUS_Tripped) (v := 0) hp)
  rcases hc with hc | hl
  · exact reg_onVbat_ne hc
  · exact reg_of_regs (onVbat_regs hl)

theorem reg_unsupplied_pwrStatus : s.unsupplied.reg PWR_STATUS = regReset PWR_STATUS := by
  have e : PWR_STATUS_Tripped.into (PWR_STATUS_Tripped.into 1 (if s.pwr.trip then 1 else 0)) 0 = 1#32 := by
    cases s.pwr.trip <;> decide
  rw [State.unsupplied, reg_onVbat_ne (by decide), State.fset, show PWR_STATUS_Tripped.addr = PWR_STATUS from rfl,
    reg_setReg_self, reg_resetAll_pwrStatus, regReset_pwrStatus]
  exact e

/-- RESET_N low for ten microseconds and more. -/
theorem resetClears (s : State) (w : Nat) (hr : s.pwr.inReset = false) (hw : 10000 ≤ w) :
    gives (.resetAssert w) s fun t => t.awake = false ∧ t.pwr.trip = s.pwr.trip ∧
      t.pwr.tap = s.pwr.tap ∧ (∀ r, isVbat r = true → t.reg r = s.reg r) ∧
      (∀ r, isVbat r = false → isFuse r = false → r ≠ PWR_STATUS → t.reg r = regReset r) ∧
      (∀ r, isFuse r = true → r ≠ IMG_FUSE → t.reg r = s.reg r) ∧ t.pwrState = 1 ∧ t.flag PWR_STATUS_Tripped = s.pwr.trip ∧
      t.pwr.fromVbat = s.pwr.fromVbat ∧ t.pwr.vbatLow = s.pwr.vbatLow ∧ t.hbm = [] ∧ t.time = 0 ∧ t.fch = FchSt.reset ∧
      t.hbmBad = [] ∧ t.shadow = [] ∧ t.shadowFab = [] ∧ t.hull = HullSt.reset ∧ t.array = ArraySt.reset ∧ t.husk = HuskSt.reset ∧
      t.ctxs = CtxsSt.reset ∧ t.tim = { TimSt.reset with calDiv := s.tim.calDiv } ∧ t.ln = LnSt.reset ∧ t.fab = FabSt.reset ∧
        t.dmc = DmcSt.reset ∧
      t.mtx = MtxSt.reset ∧ t.img = ImgSt.reset ∧ t.i3c = I3cSt.reset ∧ t.erl = ErlSt.reset ∧ t.cnt = CntSt.reset ∧
      t.wireOut = s.wireOut := by
  refine gives_of (resetAsserted s w hr hw) ⟨resetAll_awake, by rw [resetAll_pwr], by rw [resetAll_pwr],
    fun r => reg_resetAll_vbat, fun r => reg_resetAll_other, fun r => reg_resetAll_fuse, resetAll_pwrState, resetAll_tripped,
    by rw [resetAll_pwr], by rw [resetAll_pwr], ?_⟩
  exact ⟨rfl, rfl, rfl, rfl, rfl, rfl, rfl, rfl, rfl, rfl, rfl, rfl, rfl, rfl, rfl, rfl, rfl, rfl, rfl, rfl⟩

/-- The main supplies fail. -/
theorem supplyLost (s : State) : gives .mainSupplyLoss s fun t => t.awake = false ∧ t.pwr.off = true ∧ t.pwr.trip = false ∧
      t.pwr.fromVbat = true ∧ t.pwr.tap = .idcode ∧ t.pwr.boundary = 0 ∧
      (∀ r, isVbat r = true → (r ≠ CAL_STATUS ∨ s.pwr.vbatLow = false) → t.reg r = s.reg r) ∧
      (s.pwr.vbatLow = true → t.flag CAL_STATUS_Valid = false) ∧ t.erl.vbat = none ∧ t.tim.calDiv = s.tim.calDiv ∧
      (∀ r, isVbat r = false → isFuse r = false → t.reg r = regReset r) ∧ t.hbm = [] := by
  obtain ⟨hpwr, herl, htim, hhbm⟩ := onVbat_state (s := s.resetAll.fset PWR_STATUS_Tripped 0)
  refine gives_of mainSupplyLoss_of ⟨rfl, rfl, rfl, ?_, rfl, rfl, fun r hv hc => ?_, fun hl => onVbat_invalid hl, ?_, ?_,
    fun r hv hf => ?_, hhbm⟩
  · rw [modPwr_pwr]
    show s.unsupplied.pwr.fromVbat = true
    rw [State.unsupplied, hpwr]
  · rw [reg_modPwr, reg_unsupplied_ne hc (ne_of_isVbat hv (by decide)), reg_resetAll_vbat hv]
  · exact congrArg ErlSt.vbat herl
  · have h := congrArg TimSt.calDiv htim
    exact h
  · rw [reg_modPwr]
    by_cases hp : r = PWR_STATUS
    · rw [hp, reg_unsupplied_pwrStatus]
    · rw [reg_unsupplied_ne (.inl (ne_of_not_isVbat hv (by decide))) hp, reg_resetAll_other hv hf hp]

/-- The VBAT domain comes to run from VBAT. -/
theorem switchedToVbat (s : State) : gives (.vddIoSwitchover true) s fun t => t.pwr.fromVbat = true ∧ t.erl.vbat = none ∧
    regsBut s t [CAL_STATUS] ∧ (s.pwr.vbatLow = false → t.regs = s.regs) ∧
      (s.pwr.vbatLow = true → t.flag CAL_STATUS_Valid = false) := by
  obtain ⟨hpwr, herl, -, -⟩ := onVbat_state (s := s)
  exact gives_of (t := s.onVbat) rfl ⟨by rw [hpwr], by rw [herl], fun a ha => reg_onVbat_ne (by simpa using ha),
    onVbat_regs, onVbat_invalid⟩

/-- The part with a VBAT below 1.6 V. -/
def State.lowVbat (s : State) : State := s.modPwr fun x => { x with vbatLow := true }

theorem vbatLow_of : exec .vbatLow s = .next (if s.pwr.fromVbat then s.lowVbat.fset CAL_STATUS_Valid 0 else s.lowVbat) := rfl

/-- VBAT falls low. -/
theorem vbatFell (s : State) : gives .vbatLow s fun t => t.pwr.vbatLow = true ∧ regsBut s t [CAL_STATUS] ∧
    (s.pwr.fromVbat = false → t.regs = s.regs) ∧ (s.pwr.fromVbat = true → t.flag CAL_STATUS_Valid = false) := by
  refine gives_of vbatLow_of ?_
  cases h : s.pwr.fromVbat with
  | true =>
    refine ⟨rfl, fun a ha => reg_fset_ne (List.ne_of_not_mem_cons ha), (fun e => by cases e), fun _ => ?_⟩
    rw [if_pos rfl, flag_fset (by decide)]
    rfl
  | false => exact ⟨rfl, fun a _ => rfl, fun _ => rfl, (fun e => by cases e)⟩

/-! ## The test access port (R410) -/

/-- The instruction is in force, and the boundary register has taken its pins where the instruction selects it. -/
def State.tapped (s : State) (ins : TapIns) : State :=
  let s := (s.modPwr fun x => { x with tap := ins }).when (tapBound ins) State.boundScan
  s.modPwr fun x => { x with tapUsed := x.tapUsed || s.pinsAway }

/-- What a scan shifts out is not on a pin the port takes away. -/
theorem emit_tdo {b : BitVec 64} : s.emit (.tdo b) = { s with wireOut := s.wireOut ++ [.tdo b] } := rfl

theorem tapInstruction_of {ins : TapIns} (h : s.pwr.fromVbat = false) :
    exec (.tapInstruction ins) s = .next ((s.tapped ins).emit (.tdo (s.tapped ins).tapCapture)) := by
  show execTapInstruction ins s = _
  rw [execTapInstruction, h]
  rfl

theorem tapped_of {ins : TapIns} : (s.tapped ins).pwr.tap = ins ∧ (s.tapped ins).regs = s.regs ∧
    (s.tapped ins).wireOut = s.wireOut ∧ (tapBound ins = false → (s.tapped ins).pwr.boundary = s.pwr.boundary) := by
  unfold State.tapped
  cases h : tapBound ins with
  | true => exact ⟨rfl, rfl, rfl, (fun e => by cases e)⟩
  | false => exact ⟨rfl, rfl, rfl, fun _ => rfl⟩

theorem pinsAway_iff : s.pinsAway =
    decide (s.pwr.tap = .extest ∨ s.pwr.tap = .highz ∨ s.pwr.tap = .extestPulse ∨ s.pwr.tap = .extestTrain) := by
  unfold State.pinsAway
  cases s.pwr.tap <;> rfl

theorem tapCapture_eq : s.tapCapture = if s.pwr.tap = .idcode then 0x19601369#64
    else if s.pwr.tap = .bypass ∨ s.pwr.tap = .highz then 0#64 else s.pwr.boundary := by
  unfold State.tapCapture
  cases s.pwr.tap <;> rfl

/-- A scan of the test access port. -/
theorem tapScans (s : State) (ins : TapIns) (h : s.pwr.fromVbat = false) : gives (.tapInstruction ins) s fun t =>
    t.pwr.tap = ins ∧ t.regs = s.regs ∧
      t.pinsAway = decide (ins = .extest ∨ ins = .highz ∨ ins = .extestPulse ∨ ins = .extestTrain) ∧
      (tapBound ins = false → t.pwr.boundary = s.pwr.boundary) ∧
      t.wireOut = s.wireOut ++ [.tdo (if ins = .idcode then 0x19601369#64 else if ins = .bypass ∨ ins = .highz then 0#64
        else t.pwr.boundary)] := by
  obtain ⟨htap, hregs, hwire, hbound⟩ := tapped_of (s := s) (ins := ins)
  refine gives_of (tapInstruction_of h) ?_
  rw [emit_tdo]
  exact ⟨htap, hregs, by rw [pinsAway_iff, htap], hbound, by rw [tapCapture_eq, htap, hwire]⟩

theorem tapUnpowered (s : State) (ins : TapIns) (h : s.pwr.fromVbat = true) : exec (.tapInstruction ins) s = .next s := by
  show execTapInstruction ins s = _
  rw [execTapInstruction, h]
  rfl

/-- Settles O59, clause by clause. -/
theorem suppliesAndHeat : Obligations.SuppliesAndHeat := by
  unfold Obligations.SuppliesAndHeat
  exact ⟨fun s q rest haw hlen hr => ⟨readingsShown s q rest haw hlen hr, tripStops s haw, tripLatches⟩,
    fun s w a b ins => ⟨resetFiltered s w, resetClears s w, resetReleased s a b, supplyLost s, switchedToVbat s, rfl, vbatFell s,
      rfl, tapScans s ins, tapUnpowered s ins⟩⟩

end Sys2Proof.Machine
end

section
/-! SUPPORT. What a register's word holds after a write, field by field (R13, R15), and the write of a row's word by its access
codes. -/

namespace Sys2Proof.Machine

variable {s : State} {a i : Nat} {v : BitVec 32}

/-! ## One bit of one field -/

/-- What a bit of a field of access code acc holds after a write of v where it held old. -/
def bitAfter (acc : Access) (o v old : Bool) : Bool :=
  match acc with
  | .rw => v
  | .rwl => if o then v else old
  | .w1c => old && !v
  | .ro | .wo => old

theorem getLsbD_afterWrite {w j : Nat} {acc : Access} {o : Bool} {x old : BitVec w} (hj : j < w) :
    (afterWrite acc o x old).getLsbD j = bitAfter acc o (x.getLsbD j) (old.getLsbD j) := by
  cases acc <;> simp [afterWrite, bitAfter, hj]
  split <;> rfl

/-- Bit j lies in the field. -/
def FieldSpec.has (f : FieldSpec) (j : Nat) : Bool := decide (f.lo ≤ j) && decide (j < f.lo + f.width)

theorem getLsbD_fieldMask {f : FieldSpec} {j : Nat} (hj : j < 32) :
    (BitVec.ofNat 32 (2 ^ f.width - 1) <<< f.lo).getLsbD j = f.has j := by
  rw [BitVec.getLsbD_shiftLeft, BitVec.getLsbD_ofNat, Nat.testBit_two_pow_sub_one, FieldSpec.has]
  by_cases h : j < f.lo
  · simp [h]
  · have hlt : j - f.lo < 32 := by omega
    have e : j - f.lo < f.width ↔ j < f.lo + f.width := by omega
    simp [h, hj, hlt, e, Nat.le_of_not_lt h]

/-- A write of one field, bit by bit. -/
theorem getLsbD_fieldWritten {f : FieldSpec} {o : Bool} {old : BitVec 32} {j : Nat} (hj : j < 32) :
    (f.written o v old).getLsbD j = if f.has j then bitAfter f.acc o (v.getLsbD j) (old.getLsbD j) else old.getLsbD j := by
  have hm := getLsbD_fieldMask (f := f) hj
  dsimp only [FieldSpec.written]
  generalize (BitVec.ofNat 32 (2 ^ f.width - 1) <<< f.lo) = m at hm ⊢
  rw [← hm]
  cases f.acc <;> cases o <;> cases h : m.getLsbD j <;>
    simp only [bitAfter, if_true, BitVec.getLsbD_or, BitVec.getLsbD_and, BitVec.getLsbD_not, h, hj] <;> simp

/-! ## The word of a row -/

/-- Fields within a word, no two of them on the same bit. -/
def fieldsApart : List FieldSpec → Bool
  | [] => true
  | f :: l => decide (f.lo + f.width ≤ 32) &&
      l.all (fun g => decide (f.lo + f.width ≤ g.lo) || decide (g.lo + g.width ≤ f.lo)) && fieldsApart l

theorem regTable_apart : (regTable.all fun r => fieldsApart r.fields) = true := by decide +kernel

theorem foldl_written_out {l : List FieldSpec} {o : Bool} {old : BitVec 32} {j : Nat} (hj : j < 32) (h : ∀ g ∈ l, g.has j = false) :
    (l.foldl (fun w g => g.written o v w) old).getLsbD j = old.getLsbD j := by
  induction l generalizing old with
  | nil => rfl
  | cons g l ih =>
    obtain ⟨hg, hl⟩ := List.forall_mem_cons.mp h
    rw [List.foldl_cons, ih hl, getLsbD_fieldWritten hj, hg, if_neg Bool.false_ne_true]

theorem foldl_written_in {l : List FieldSpec} {o : Bool} {old : BitVec 32} {j : Nat} {f : FieldSpec} (hl : fieldsApart l = true)
    (hf : f ∈ l) (hj : f.has j = true) :
    (l.foldl (fun w g => g.written o v w) old).getLsbD j = bitAfter f.acc o (v.getLsbD j) (old.getLsbD j) := by
  induction l generalizing old with
  | nil => cases hf
  | cons g l ih =>
    simp only [fieldsApart, Bool.and_eq_true, decide_eq_true_eq, List.all_eq_true, Bool.or_eq_true] at hl
    obtain ⟨⟨h32, hg⟩, hl⟩ := hl
    rw [List.foldl_cons]
    rcases List.mem_cons.mp hf with rfl | hf
    · have hj32 : j < 32 := by simp only [FieldSpec.has, Bool.and_eq_true, decide_eq_true_eq] at hj; omega
      rw [foldl_written_out hj32, getLsbD_fieldWritten hj32, hj, if_pos rfl]
      intro g' hg'
      have := hg g' hg'
      simp only [FieldSpec.has, Bool.and_eq_true, decide_eq_true_eq] at hj
      simp only [FieldSpec.has, Bool.and_eq_false_iff, decide_eq_false_iff_not]
      omega
    · have hgj : g.has j = false := by
        have := hg f hf
        simp only [FieldSpec.has, Bool.and_eq_true, decide_eq_true_eq] at hj
        simp only [FieldSpec.has, Bool.and_eq_false_iff, decide_eq_false_iff_not]
        omega
      rw [ih hl hf]
      by_cases hj32 : j < 32
      · rw [getLsbD_fieldWritten hj32, hgj, if_neg Bool.false_ne_true]
      · rw [BitVec.getLsbD_of_ge (g.written o v old) j (by omega), BitVec.getLsbD_of_ge old j (by omega)]

variable {r : RegRow} {ix : List Nat}

theorem apart_of_findRow (h : findRow a = some (r, ix)) : fieldsApart r.fields = true :=
  List.all_eq_true.mp regTable_apart r (findRowIn_eq_some h).1

/-- Each field of a register takes the value by its access code. -/
theorem extract_written {o : Bool} {old : BitVec 32} (h : findRow a = some (r, ix)) {f : FieldSpec} (hf : f ∈ r.fields) :
    (r.written o v old).extractLsb' f.lo f.width =
      afterWrite f.acc o (v.extractLsb' f.lo f.width) (old.extractLsb' f.lo f.width) := by
  refine BitVec.eq_of_getLsbD_eq fun j hj => ?_
  have hin : f.has (f.lo + j) = true := by simp [FieldSpec.has, hj]
  rw [getLsbD_afterWrite hj]
  simp only [BitVec.getLsbD_extractLsb', hj, decide_true, Bool.true_and]
  exact foldl_written_in (apart_of_findRow h) hf hin

/-- No field is cleared by a written 1. -/
def RegRow.noClear (r : RegRow) : Bool := r.fields.all fun f => decide (f.acc ≠ .w1c)

/-- A bit whose value the write leaves as it is stays, but where a written 1 clears it. -/
theorem getLsbD_written_same {o : Bool} {old : BitVec 32} {j : Nat} (hj : j < 32) (hr : r.noClear = true)
    (h : v.getLsbD j = old.getLsbD j) : (r.written o v old).getLsbD j = old.getLsbD j := by
  unfold RegRow.written
  unfold RegRow.noClear at hr
  generalize r.fields = l at hr ⊢
  induction l generalizing old with
  | nil => rfl
  | cons g l ih =>
    simp only [List.all_cons, Bool.and_eq_true, decide_eq_true_eq] at hr
    obtain ⟨hg, hl⟩ := hr
    have e : (g.written o v old).getLsbD j = old.getLsbD j := by
      rw [getLsbD_fieldWritten hj, h]
      split
      · cases hacc : g.acc <;> simp_all [bitAfter]
      · rfl
    rw [List.foldl_cons, ih (h.trans e.symm) hl, e]

/-! ## The write of a row's word -/

theorem regTable_hasRwl : (regTable.all fun r => !r.mayHold 0 0x20000 1 0 || !r.hasRwl) = true := by decide +kernel

theorem regTable_hasRwl_top : (regTable.all fun r => !r.mayHold 0xC00000 (2 ^ 32) 1 0 || !r.hasRwl) = true := by decide +kernel

/-- Fields that their unit locks stand off the error log, the counters and the pending causes. -/
theorem offLog_of_hasRwl (h : findRow a = some (r, ix)) (hr : r.hasRwl = true) (ha : a < 2 ^ 32) : offLog a := by
  have hlo : ¬ a < 0x20000 := fun hlt => by
    have := row_of_kind (P := fun r => !r.hasRwl) regTable_hasRwl h (Nat.zero_le a) hlt (Nat.mod_one a)
    simp [hr] at this
  have hhi : ¬ 0xC00000 ≤ a := fun hge => by
    have := row_of_kind (P := fun r => !r.hasRwl) regTable_hasRwl_top h hge ha (Nat.mod_one a)
    simp [hr] at this
  have e : GLB_INTPEND < 0x20000 := by decide
  exact ⟨fun he => by omega, by omega⟩

/-- The fields take the value, and a locked field's write is logged. -/
theorem rowWrite_eq (h : findRow a = some (r, ix)) : s.rowWrite i a v =
    if !s.ownerOpen r.owner ix && r.hasRwl then (s.setReg a (r.written (s.ownerOpen r.owner ix) v (s.reg a))).writeLocked i a
    else s.setReg a (r.written (s.ownerOpen r.owner ix) v (s.reg a)) := by
  simp only [State.rowWrite, h]

theorem rowWrite_free (h : findRow a = some (r, ix)) (ho : s.ownerOpen r.owner ix = true ∨ r.hasRwl = false) :
    s.rowWrite i a v = s.setReg a (r.written (s.ownerOpen r.owner ix) v (s.reg a)) := by
  rw [rowWrite_eq h, if_neg]
  rcases ho with ho | ho <;> simp [ho]

theorem rowWrite_locked (h : findRow a = some (r, ix)) (ho : s.ownerOpen r.owner ix = false) (hr : r.hasRwl = true) :
    s.rowWrite i a v = (s.setReg a (r.written false v (s.reg a))).log 4 0 i a := by
  rw [rowWrite_eq h, ho, hr]
  rfl

/-- The word itself, locked or not. -/
theorem reg_rowWrite (h : findRow a = some (r, ix)) (ha : a < 2 ^ 32) :
    (s.rowWrite i a v).reg a = r.written (s.ownerOpen r.owner ix) v (s.reg a) := by
  rw [rowWrite_eq h]
  split
  · rename_i hc
    rw [State.writeLocked, reg_log_of_offLog (offLog_of_hasRwl h (by simp_all) ha), reg_setReg_self]
  · rw [reg_setReg_self]

end Sys2Proof.Machine
end

section
/-! SUPPORT. A register write where the address is a register whose write only takes its fields: the block's write is the write of
the row's word, as the registers and the error log see it. -/

namespace Sys2Proof.Machine

variable {s t u : State} {a i : Nat} {v : BitVec 32}

/-! ## What a golden word's change leaves -/

/-- The golden copy is all that follows a write. -/
theorem goldenFollow_eq : s.goldenFollow a v = { s with img := { s.img with golden := (s.goldenFollow a v).img.golden } } := by
  unfold State.goldenFollow
  split <;> rfl

@[simp] theorem goldenFollow_regs : (s.goldenFollow a v).regs = s.regs := by rw [goldenFollow_eq]
@[simp] theorem goldenFollow_erl : (s.goldenFollow a v).erl = s.erl := by rw [goldenFollow_eq]
@[simp] theorem goldenFollow_i3c : (s.goldenFollow a v).i3c = s.i3c := by rw [goldenFollow_eq]
@[simp] theorem goldenFollow_tim : (s.goldenFollow a v).tim = s.tim := by rw [goldenFollow_eq]
@[simp] theorem goldenFollow_ctxs : (s.goldenFollow a v).ctxs = s.ctxs := by rw [goldenFollow_eq]

/-! ## One register write of the host -/

theorem regOff_of_on (h : s.clockOn a = true) : s.regOff a = false := by rw [State.regOff, h, Bool.not_true, Bool.false_and]

/-- A register whose write goes by its block. -/
theorem writeAny_of_on (h : s.clockOn a = true) (hi : a ≠ IMG_CMD) (hw : ¬ (IMG_WIN 0 ≤ a ∧ a < IMG_WIN 1024)) (hp : a ≠ PWR_CMD) :
    s.writeAny i a v = (s.blockWrite i a v).goldenFollow a v := by
  simp [State.writeAny, regOff_of_on h, hi, hw, hp, State.regWrite]

/-- A register outside the image loader and the power unit. -/
theorem writeAny_of_lt (h : s.clockOn a = true) (ha : a < 0xE00000) (hp : a ≠ PWR_CMD) :
    s.writeAny i a v = (s.blockWrite i a v).goldenFollow a v :=
  writeAny_of_on h (ne_of_lt (lt_of_lt_of_le ha (by decide))) (fun hw => by unfold IMG_WIN at hw; omega) hp

theorem registerWrite_takes {r : RegRow} {ix : List Nat} (h : s.takes a) (hr : findRow a = some (r, ix)) (ha : a < 2 ^ 32) :
    exec (.registerWrite a v) s = .next (s.writeAny 21 a v) := by
  obtain ⟨haw, hh, -⟩ := h
  exact registerWrite_of ha (findRow_mod_four hr) haw hh

/-! ## States with the same registers and the same error log -/

/-- The registers and the error log of t are those of s. -/
def State.sameRegs (s t : State) : Prop := (∀ b, t.reg b = s.reg b) ∧ t.erl = s.erl

theorem State.sameRegs.trans (h : s.sameRegs t) (h' : t.sameRegs u) : s.sameRegs u :=
  ⟨fun b => (h'.1 b).trans (h.1 b), h'.2.trans h.2⟩

theorem sameRegs_of_regs (h : t.regs = s.regs) (he : t.erl = s.erl) : s.sameRegs t := ⟨fun _ => reg_of_regs h, he⟩

theorem sameRegs_refl : s.sameRegs s := sameRegs_of_regs rfl rfl

theorem sameRegs_goldenFollow : s.sameRegs (s.goldenFollow a v) := sameRegs_of_regs goldenFollow_regs goldenFollow_erl

theorem logged_of_sameRegs {code site inst : Nat} (h : s.sameRegs t) (hl : logged s code site inst) : logged t code site inst := by
  obtain ⟨n, sec, hn, hw⟩ := hl
  exact ⟨n, sec, h.2 ▸ hn, (h.1 _).trans hw⟩

variable {r : RegRow} {ix : List Nat}

/-- Each field of the register takes the value by its access code. -/
theorem extract_of_rowWrite (h : findRow a = some (r, ix)) (ha : a < 2 ^ 32) (ht : t.reg a = (s.rowWrite i a v).reg a)
    {f : FieldSpec} (hf : f ∈ r.fields) : (t.reg a).extractLsb' f.lo f.width = afterWrite f.acc (s.ownerOpen r.owner ix)
      (v.extractLsb' f.lo f.width) ((s.reg a).extractLsb' f.lo f.width) := by
  rw [ht, reg_rowWrite h ha, extract_written h hf]

/-- What a write of the register (r, ix) at a by initiator i does: each field takes the value by its access code; where none is
locked no other register changes, else the write is logged. -/
def State.tookFields (s : State) (r : RegRow) (ix : List Nat) (i a : Nat) (v : BitVec 32) (t : State) : Prop :=
  (∀ f ∈ r.fields, (t.reg a).extractLsb' f.lo f.width = afterWrite f.acc (s.ownerOpen r.owner ix)
    (v.extractLsb' f.lo f.width) ((s.reg a).extractLsb' f.lo f.width)) ∧
  ((s.ownerOpen r.owner ix = true ∨ r.hasRwl = false) → regsBut s t [a] ∧ t.erl = s.erl) ∧
  (s.ownerOpen r.owner ix = false → r.hasRwl = true → logged t 4 0 i)

theorem tookFields_of_rowWrite (h : findRow a = some (r, ix)) (ha : a < 2 ^ 32) (ht : (s.rowWrite i a v).sameRegs t) :
    s.tookFields r ix i a v t := by
  refine ⟨fun f hf => extract_of_rowWrite h ha (ht.1 a) hf, fun ho => ?_, fun ho hr => ?_⟩
  · rw [rowWrite_free h ho] at ht
    exact ⟨fun b hb => (ht.1 b).trans (reg_setReg_ne (List.ne_of_not_mem_cons hb)), ht.2⟩
  · rw [rowWrite_locked h ho hr] at ht
    exact logged_of_sameRegs ht logged_log

/-! ## Registers that only take their fields -/

/-- The write takes the row's word, as the registers, the error log and the posted writes see it. -/
def State.tookRow (s : State) (i a : Nat) (v : BitVec 32) (t : State) : Prop :=
  (s.rowWrite i a v).sameRegs t ∧ t.i3c.posted = s.i3c.posted

theorem rowWrite_i3c : (s.rowWrite i a v).i3c = s.i3c := by
  unfold State.rowWrite
  split
  · rfl
  · dsimp only
    split
    · exact (log_kept (s := s.setReg a _)).same .i3c rfl
    · rfl

theorem tookRow_rowWrite : s.tookRow i a v (s.rowWrite i a v) := ⟨sameRegs_refl, by rw [rowWrite_i3c]⟩

theorem writeGlb_of_plain (h : plainReg a = true) : s.tookRow i a v (s.writeGlb i a v) := by
  have hu : a ≠ GLB_URESET := fun e => by
    rw [e] at h
    exact absurd h (by decide)
  simp only [State.writeGlb, hu, if_false]
  split
  · exact ⟨sameRegs_of_regs rfl rfl, by rw [← rowWrite_i3c (s := s) (i := i) (a := a) (v := v)]; rfl⟩
  · exact tookRow_rowWrite

theorem plain_time (h : plainReg a = true) (hlo : 0x20000 ≤ a) (hhi : a < 0x100000) :
    a ∉ [TMB_CMD, CAL_CMD, SCH_INSERT, SCH_CANCEL, TMB_FTCFG] ∧ isHeldWord a = false ∧ commitLows a = [] ∧
      ¬ (TMB_REFCFG 0 ≤ a ∧ a < TMB_REFCFG 7) := by
  have hge : ∀ n, 0x100000 ≤ n → ¬ n ≤ a := fun n hn => by omega
  have hlt : ¬ a < 0x20000 := by omega
  simp only [plainReg, hge, hlt, hlo, hhi, decide_true, decide_false, Bool.false_and, Bool.or_false, Bool.true_and, Nat.reduceLeDiff,
    Bool.false_or, Bool.and_eq_true, Bool.not_eq_true', List.isEmpty_iff, Bool.and_eq_false_iff, decide_eq_false_iff_not] at h
  obtain ⟨⟨⟨hl, hh⟩, hc⟩, hr⟩ := h
  exact ⟨fun hm => Bool.false_ne_true (hl.symm.trans (List.contains_iff_mem.mpr hm)), hh, hc,
    fun ⟨h1, h2⟩ => hr.elim (· h1) (· h2)⟩

theorem writeTime_of_plain (h : plainReg a = true) (hlo : 0x20000 ≤ a) (hhi : a < 0x100000) :
    s.tookRow i a v (s.writeTime i a v) := by
  obtain ⟨hl, hh, hc, hr⟩ := plain_time h hlo hhi
  simp only [List.mem_cons, List.not_mem_nil, or_false, not_or] at hl
  have e : s.writeTime i a v = if a = TMB_OUTCFG then (s.rowWrite i a v).outConfig else s.rowWrite i a v := by
    simp [State.writeTime, hl, hh, hc, hr]
  rw [e]
  split
  · exact ⟨sameRegs_of_regs rfl rfl, by rw [← rowWrite_i3c (s := s) (i := i) (a := a) (v := v)]; rfl⟩
  · exact tookRow_rowWrite

theorem plain_fch (h : plainReg a = true) (hlo : 0x200000 ≤ a) (hhi : a < 0x300000) :
    a % 65536 ∉ [0, 0x30, 0x34, 0x3C] ∧ ¬ (0x100 ≤ a % 65536 ∧ a % 65536 < 0x500 ∧ a % 64 = 0) := by
  have hge : ∀ n, 0x300000 ≤ n → ¬ n ≤ a := fun n hn => by omega
  have hlt : ∀ n, n ≤ 0x200000 → ¬ a < n := fun n hn => by omega
  simp only [plainReg, hge, hlt, hlo, hhi, decide_true, decide_false, Bool.false_and, Bool.and_false, Bool.or_false, Bool.true_and,
    Nat.reduceLeDiff, Bool.false_or, Bool.and_eq_true, Bool.not_eq_true', Bool.and_eq_false_iff, decide_eq_false_iff_not] at h
  obtain ⟨hl, hs⟩ := h
  exact ⟨fun hm => Bool.false_ne_true (hl.symm.trans (List.contains_iff_mem.mpr hm)), by omega⟩

theorem plain_pmc (h : plainReg a = true) (hlo : 0xC00000 ≤ a) (hhi : a < 0xD00000) : a ≠ PMC_CMD ∧ isPipConfig a = false := by
  have hlt : ∀ n, n ≤ 0xC00000 → ¬ a < n := fun n hn => by omega
  simp only [plainReg, hlt, hlo, decide_true, decide_false, Bool.false_and, Bool.and_false, Bool.true_and,
    Nat.reduceLeDiff, Bool.false_or, Bool.and_eq_true, Bool.not_eq_true', decide_eq_true_eq] at h
  obtain ⟨⟨⟨⟨⟨-, hc⟩, hp⟩, -⟩, -⟩, -⟩ := h
  exact ⟨hc, hp⟩

/-- What a register of another block is not. -/
theorem plain_high (h : plainReg a = true) (hge : 0x100000 ≤ a) : a < 0xF00000 ∧
    (a < 0x118000 → a % 1024 ≠ 0 ∧ a % 1024 ≠ 8) ∧
    (a < 0x160000 → a ≠ FAB_CTRL ∧ a ≠ FAB_MREQ ∧ ¬ (FAB_LSET 0 0 ≤ a ∧ a < FAB_LSET 64 0) ∧ ¬ (FAB_NH 0 ≤ a ∧ a < FAB_NH 4096)) ∧
    (0x300000 ≤ a → a < 0x400000 → a ≠ HULL_CTRL ∧ ¬ (HULL_SCTRL 0 ≤ a ∧ a < HULL_SCTRL 4 ∧ a % 32 = 0) ∧
      ¬ (HULL_SRC 0 ≤ a ∧ a < HULL_SRC 256) ∧ ¬ (HULL_OWN 0 ≤ a ∧ a < HULL_OWN 8192)) ∧
    (0x400000 ≤ a → a < 0x800000 → a % 65536 ≠ 0 ∧ a % 65536 ≠ 0x1C) ∧
    (0x800000 ≤ a → a < 0x900000 → a < 0x840000) ∧
    (0x900000 ≤ a → a < 0xA00000 → 0x940000 ≤ a ∧ a < 0x980000 ∧ a ≠ CTX_CMD) ∧
    (0xA00000 ≤ a → a < 0xB00000 → a ≠ DMC_CTRL ∧ a ≠ DMC_RETIRE) ∧
    (0xD00000 ≤ a → a ≠ ERL_CMD ∧ a ≠ IMG_CMD ∧ ¬ (IMG_WIN 0 ≤ a ∧ a < IMG_WIN 1024)) := by
  have hlt : ¬ a < 0x20000 := by omega
  have hlt' : ¬ a < 0x100000 := by omega
  simp only [plainReg, hlt, hlt', decide_false, Bool.false_and, Bool.and_false, Bool.false_or, Bool.or_eq_true, Bool.and_eq_true,
    decide_eq_true_eq, Bool.not_eq_true', Bool.and_eq_false_iff, decide_eq_false_iff_not] at h
  unfold FAB_LSET FAB_NH HULL_SCTRL HULL_SRC HULL_OWN IMG_WIN at *
  unfold FAB_CTRL FAB_MREQ HULL_CTRL CTX_CMD DMC_CTRL DMC_RETIRE ERL_CMD IMG_CMD at *
  omega

/-- A register of another block: its write is the write of the row's word. -/
theorem blockWrite_of_plain (h : plainReg a = true) (hge : 0x100000 ≤ a) : s.blockWrite i a v = s.rowWrite i a v := by
  obtain ⟨hhi, hln, hfab, hhull, hpod, hhusk, hctx, hdmc, herl⟩ := plain_high h hge
  refine blockWrite_cases (P := (· = s.rowWrite i a v)) (isDmw_of_lt (by omega)) rfl
    (glb := fun _ => by omega) (time := fun _ _ => by omega)
    (lane := fun _ hr => by simp [State.writeLane, hln hr])
    (fab := fun hl hr => ?fab)
    (fch := fun hl hr => ?fch)
    (hull := fun hl hr => ?hull)
    (pod := fun hl hr => by simp [State.writePod, hpod hl hr])
    (husk := fun hl hr => ?husk)
    (ctx := fun hl hr => ?ctx)
    (dmc := fun hl hr => by simp [State.writeDmc, hdmc hl hr])
    (pmc := fun hl hr => by simp [State.writePmc, plain_pmc h hl hr])
    (erl := fun hl _ => by simp [State.writeErl, herl hl])
  case fab =>
    obtain ⟨hc, hm, hs, hn⟩ := hfab hr
    have ht : ¬ ((FAB_LSET 0 0 ≤ a ∧ a < FAB_LSET 64 0 ∧ a % 16 ≠ 12) ∨ (FAB_NH 0 ≤ a ∧ a < FAB_NH 4096)) := by
      rintro (⟨h1, h2, -⟩ | hn')
      · exact hs ⟨h1, h2⟩
      · exact hn hn'
    simp only [State.writeFab, hc, hm, ht, if_false]
  case fch =>
    obtain ⟨hoff, hslot⟩ := plain_fch h hl hr
    simp only [List.mem_cons, List.not_mem_nil, or_false, not_or] at hoff
    have hslot : ¬ (0x100 ≤ a % 65536 ∧ a % 65536 < 0x500 ∧ a % 65536 % 64 = 0) := by omega
    simp only [State.writeFch, hoff, hslot, if_false]
  case hull =>
    obtain ⟨hc, hst, hsrc, hown⟩ := hhull hl hr
    simp only [State.writeHull, hc, hst, hsrc, hown, or_self, if_false]
  case husk =>
    have hm : ¬ (HUSK_MAP_LO 0 ≤ a ∧ a < HUSK_MAP_LO 16384) := by
      unfold HUSK_MAP_LO
      have := hhusk hl hr
      omega
    simp only [State.writeHusk, hm, if_false]
  case ctx =>
    obtain ⟨h1, h2, hc⟩ := hctx hl hr
    have he : ¬ a < 0x940000 := by omega
    have hp : ¬ (0x980000 ≤ a ∧ a < 0x9A0000) := by omega
    simp only [State.writeCtx, he, hc, hp, if_false]

theorem lt_of_plain (h : plainReg a = true) : a < 0xF00000 := by
  by_cases hge : 0x100000 ≤ a
  · exact (plain_high h hge).1
  · omega

/-- The write of a register that only takes its fields, by any initiator. -/
theorem writeAny_of_plain (h : plainReg a = true) (hon : s.clockOn a = true) : s.tookRow i a v (s.writeAny i a v) := by
  have hp : a ≠ PWR_CMD := fun e => by
    rw [e] at h
    exact absurd h (by decide)
  have himg : a ≠ IMG_CMD := fun e => by
    rw [e] at h
    exact absurd h (by decide)
  have hwin : ¬ (IMG_WIN 0 ≤ a ∧ a < IMG_WIN 1024) := fun hw => by
    have hge : 0xD00000 ≤ a := by unfold IMG_WIN at hw; omega
    obtain ⟨-, -, -, -, -, -, -, -, htop⟩ := plain_high h (by omega)
    exact (htop hge).2.2 hw
  have hb : s.tookRow i a v (s.blockWrite i a v) := by
    by_cases hge : 0x100000 ≤ a
    · rw [blockWrite_of_plain h hge]
      exact tookRow_rowWrite
    · exact blockWrite_cases (P := s.tookRow i a v) (isDmw_of_lt (by omega)) tookRow_rowWrite (fun _ => writeGlb_of_plain h)
        (fun hl hr => writeTime_of_plain h hl hr) (fun _ _ => by omega) (fun _ _ => by omega) (fun _ _ => by omega)
        (fun _ _ => by omega) (fun _ _ => by omega) (fun _ _ => by omega) (fun _ _ => by omega) (fun _ _ => by omega)
        (fun _ _ => by omega) (fun _ _ => by omega)
  rw [writeAny_of_on hon himg hwin hp]
  exact ⟨hb.1.trans sameRegs_goldenFollow, by rw [goldenFollow_i3c, hb.2]⟩

/-- A write of a plain register by any of the three ways. -/
theorem plainWrite_of (h : plainReg a = true) (ht : s.takes a) (hr : findRow a = some (r, ix)) (hi : i < 24) {c : Instr}
    {ws : List Posted} {w : Posted} (hc : (c = .registerWrite a v ∧ i = 21) ∨
      (c = .postedWrite ∧ s.i3c.posted = w :: ws ∧ w.addr / 4 * 4 = a ∧ w.value = v ∧ i = 21) ∨
      (c = .bridgeAccess i a (some v) true ∧ mayAddress i 26 = true)) :
    ∃ t, exec c s = .next t ∧ s.tookFields r ix i a v t ∧ (c = .postedWrite → t.i3c.posted = ws) := by
  have ha := lt_of_plain h
  obtain ⟨haw, hh, hon⟩ := ht
  obtain ⟨rfl, rfl⟩ | ⟨rfl, hw, rfl, rfl, rfl⟩ | ⟨rfl, hm⟩ := hc
  case inl =>
    exact ⟨_, registerWrite_of (by omega) (findRow_mod_four hr) haw hh,
      tookFields_of_rowWrite hr (by omega) (writeAny_of_plain h hon).1, (fun e => by cases e)⟩
  case inr.inl =>
    have hp := writeAny_of_plain (s := { s with i3c := { s.i3c with posted := ws } }) (i := 21) (v := w.value) h hon
    have hf := tookFields_of_rowWrite hr (by omega) hp.1
    refine ⟨({ s with i3c := { s.i3c with posted := ws } } : State).writeAny 21 (w.addr / 4 * 4) w.value, ?_, hf, fun _ => hp.2⟩
    show execPostedWrite s = _
    simp [execPostedWrite, hw, haw, hh]
  case inr.inr =>
    exact ⟨_, bridgeAccess_of hi hm (by omega) (findRow_mod_four hr) haw hh,
      tookFields_of_rowWrite hr (by omega) (writeAny_of_plain h hon).1, (fun e => by cases e)⟩

end Sys2Proof.Machine
end

section
/-! Proofs about writes of a table's words (R15, R117, R149): taken where the owner is stopped, else ignored and logged. -/

namespace Sys2Proof.Machine

variable {s t : State} {a i : Nat} {v : BitVec 32}

/-! ## The block of an address -/

theorem blockWrite_time (hlo : 0x20000 ≤ a) (hhi : a < 0x100000) : s.blockWrite i a v = s.writeTime i a v := by
  rw [State.blockWrite, if_neg (by omega), if_neg (by omega), if_pos hhi]

theorem blockWrite_lane (hlo : 0x100000 ≤ a) (hhi : a < 0x118000) : s.blockWrite i a v = s.writeLane i a v := by
  rw [State.blockWrite, if_neg (by omega), if_neg (by omega), if_neg (by omega), if_pos hhi]

theorem blockWrite_fab (hlo : 0x118000 ≤ a) (hhi : a < 0x160000) : s.blockWrite i a v = s.writeFab i a v := by
  rw [State.blockWrite, if_neg (by omega), if_neg (by omega), if_neg (by omega), if_neg (by omega), if_pos hhi]

theorem blockWrite_fch (hlo : 0x200000 ≤ a) (hhi : a < 0x300000) : s.blockWrite i a v = s.writeFch i a v := by
  rw [State.blockWrite, if_neg (by omega), if_neg (by omega), if_neg (by omega), if_neg (by omega), if_neg (by omega),
    if_neg (by omega), if_pos hhi]

theorem blockWrite_hull (hlo : 0x300000 ≤ a) (hhi : a < 0x400000) : s.blockWrite i a v = s.writeHull i a v := by
  rw [State.blockWrite, if_neg (by omega), if_neg (by omega), if_neg (by omega), if_neg (by omega), if_neg (by omega),
    if_neg (by omega), if_neg (by omega), if_pos hhi]

theorem blockWrite_pod (hlo : 0x400000 ≤ a) (hhi : a < 0x800000) : s.blockWrite i a v = s.writePod i a v := by
  rw [State.blockWrite, if_neg (by omega), if_neg (by omega), if_neg (by omega), if_neg (by omega), if_neg (by omega),
    if_neg (by omega), if_neg (by omega), if_neg (by omega), if_pos hhi]

theorem blockWrite_husk (hlo : 0x800000 ≤ a) (hhi : a < 0x900000) : s.blockWrite i a v = s.writeHusk i a v := by
  rw [State.blockWrite, if_neg (by omega), if_neg (by omega), if_neg (by omega), if_neg (by omega), if_neg (by omega),
    if_neg (by omega), if_neg (by omega), if_neg (by omega), if_neg (by omega), if_pos hhi]

theorem blockWrite_ctx (hlo : 0x900000 ≤ a) (hhi : a < 0xA00000) : s.blockWrite i a v = s.writeCtx i a v := by
  rw [State.blockWrite, if_neg (by omega), if_neg (by omega), if_neg (by omega), if_neg (by omega), if_neg (by omega),
    if_neg (by omega), if_neg (by omega), if_neg (by omega), if_neg (by omega), if_neg (by omega), if_pos hhi]

theorem blockWrite_dmc (hlo : 0xA00000 ≤ a) (hhi : a < 0xB00000) : s.blockWrite i a v = s.writeDmc i a v := by
  rw [State.blockWrite, if_neg (by omega), if_neg (by omega), if_neg (by omega), if_neg (by omega), if_neg (by omega),
    if_neg (by omega), if_neg (by omega), if_neg (by omega), if_neg (by omega), if_neg (by omega), if_neg (by omega), if_pos hhi]

theorem blockWrite_pmc (hlo : 0xC00000 ≤ a) (hhi : a < 0xD00000) : s.blockWrite i a v = s.writePmc i a v := by
  rw [State.blockWrite, if_neg (by omega), if_neg (by omega), if_neg (by omega), if_neg (by omega), if_neg (by omega),
    if_neg (by omega), if_neg (by omega), if_neg (by omega), if_neg (by omega), if_neg (by omega), if_neg (by omega),
    if_neg (by omega), if_neg (by omega), if_pos hhi]

theorem blockWrite_erl (hlo : 0xD00000 ≤ a) (hhi : a < 0xE00000) : s.blockWrite i a v = s.writeErl i a v := by
  rw [State.blockWrite, if_neg (by omega), if_neg (by omega), if_neg (by omega), if_neg (by omega), if_neg (by omega),
    if_neg (by omega), if_neg (by omega), if_neg (by omega), if_neg (by omega), if_neg (by omega), if_neg (by omega),
    if_neg (by omega), if_neg (by omega), if_neg (by omega), if_pos hhi]

/-! ## A word taken, a word refused -/

/-- What a write of the word at a does to a table that is open (o) or locked. -/
def State.tableTook (s : State) (r : RegRow) (a : Nat) (v : BitVec 32) (o : Bool) (t : State) : Prop :=
  (o = true → regsBut s t [a] ∧ ∀ f ∈ r.fields, (t.reg a).extractLsb' f.lo f.width = afterWrite f.acc true
    (v.extractLsb' f.lo f.width) ((s.reg a).extractLsb' f.lo f.width)) ∧
  (o = false → t.reg a = s.reg a ∧ logged t 4 0 21)

variable {r : RegRow} {ix : List Nat}

theorem tableTook_open (h : findRow a = some (r, ix)) (ha : a < 2 ^ 32) (ho : s.ownerOpen r.owner ix = true)
    (ht : ∀ b, t.reg b = (s.rowWrite i a v).reg b) : s.tableTook r a v true t := by
  refine ⟨fun _ => ⟨fun b hb => ?_, fun f hf => ?_⟩, (fun e => by cases e)⟩
  · rw [ht, rowWrite_free h (.inl ho), reg_setReg_ne (List.ne_of_not_mem_cons hb)]
  · rw [extract_of_rowWrite h ha (ht a) hf, ho]

theorem tableTook_locked (ha : offLog a) (ht : (s.writeLocked 21 a).sameRegs t) : s.tableTook r a v false t :=
  ⟨(fun e => by cases e), fun _ => ⟨(ht.1 a).trans (reg_log_of_offLog ha), logged_of_sameRegs ht logged_log⟩⟩

/-- A word that is guarded as a whole. -/
theorem tableTook_store {o : Bool} {k : Nat} (h : findRow a = some (r, ix)) (ha : offLog a)
    (ho : o = true → s.ownerOpen r.owner ix = true) : s.tableTook r a v o ((s.storeWrite 21 a k v o).goldenFollow a v) := by
  have hlt := ha.2
  cases o with
  | true => exact tableTook_open h (by omega) (ho rfl) fun b => reg_of_regs goldenFollow_regs
  | false => exact tableTook_locked ha sameRegs_goldenFollow

/-- No field takes anything while the word is locked. -/
def RegRow.lockedAlone (r : RegRow) : Bool := r.fields.all fun f => decide (f.acc = .rwl)

theorem written_locked {old : BitVec 32} (hr : r.lockedAlone = true) : r.written false v old = old := by
  unfold RegRow.written
  unfold RegRow.lockedAlone at hr
  generalize r.fields = l at hr ⊢
  induction l generalizing old with
  | nil => rfl
  | cons g l ih =>
    simp only [List.all_cons, Bool.and_eq_true, decide_eq_true_eq] at hr
    obtain ⟨hg, hl⟩ := hr
    have e : g.written false v old = old := by
      unfold FieldSpec.written
      rw [hg]
      rfl
    rw [List.foldl_cons, e, ih hl]

/-! ## The tables -/

theorem fabTables_owner :
    (regTable.all fun r => !r.mayHold (FAB_LSET 0 0) (FAB_LSET 64 0) 1 0 || decide (r.owner = .fab)) = true ∧
    (regTable.all fun r => !r.mayHold (FAB_NH 0) (FAB_NH 4096) 1 0 || decide (r.owner = .fab)) = true := by decide +kernel

theorem hullTables_owner :
    (regTable.all fun r => !r.mayHold (HULL_SRC 0) (HULL_SRC 256) 1 0 || decide (r.owner = .hull)) = true ∧
    (regTable.all fun r => !r.mayHold (HULL_OWN 0) (HULL_OWN 8192) 1 0 || decide (r.owner = .hull)) = true := by decide +kernel

theorem huskMap_owner :
    (regTable.all fun r => !r.mayHold (HUSK_MAP_LO 0) (HUSK_MAP_LO 16384) 1 0 || decide (r.owner = .none)) = true := by
  decide +kernel

theorem pathStore_owner : (regTable.all fun r => !r.mayHold 0x980000 0x9A0000 1 0 || decide (r.owner = .none)) = true := by
  decide +kernel

/-- A row with fields that a unit locks is one of a context's entry, and locked as a whole. -/
def RegRow.ofEntry (r : RegRow) : Bool := !r.hasRwl || (decide (r.owner = .ctx) && decide (r.dims = [(64, 4096)]) &&
  decide (0x900000 ≤ r.base) && decide (r.base < 0x900040) && r.lockedAlone)

theorem ctxEntry_rows : (regTable.all fun r => !r.mayHold 0x900000 0x940000 1 0 || r.ofEntry) = true := by decide +kernel

theorem ownerOpen_ctx {c : Nat} : s.ownerOpen .ctx [c] = s.ctxOpen c := rfl

/-- The row of a context's entry at a: its owner is context (a - 0x900000) / 64. -/
theorem ctxEntry_of_findRow (h : findRow a = some (r, ix)) (hlo : 0x900000 ≤ a) (hhi : a < 0x940000) (hr : r.hasRwl = true) :
    s.ownerOpen r.owner ix = s.ctxOpen ((a - 0x900000) / 64) ∧ r.lockedAlone = true := by
  have hP := row_of_kind ctxEntry_rows h hlo hhi (Nat.mod_one a)
  simp only [RegRow.ofEntry, hr, Bool.not_true, Bool.false_or, Bool.and_eq_true, decide_eq_true_eq] at hP
  obtain ⟨⟨⟨⟨howner, hdims⟩, hb⟩, hb'⟩, hlock⟩ := hP
  obtain ⟨rfl, hmod, hle⟩ := index_of_findRow h hdims
  have e : (a - r.base) / 64 = (a - 0x900000) / 64 := by omega
  exact ⟨by rw [howner, e, ownerOpen_ctx], hlock⟩

/-! ## The write of a table's word -/

theorem writeFab_table (h : (FAB_LSET 0 0 ≤ a ∧ a < FAB_LSET 64 0 ∧ a % 16 ≠ 12) ∨ (FAB_NH 0 ≤ a ∧ a < FAB_NH 4096)) :
    s.writeFab i a v = s.storeWrite i a a v (!s.flag FAB_CTRL_Enable) := by
  have hc : a ≠ FAB_CTRL := by unfold FAB_LSET FAB_NH at h; unfold FAB_CTRL; omega
  have hm : a ≠ FAB_MREQ := by unfold FAB_LSET FAB_NH at h; unfold FAB_MREQ; omega
  rw [State.writeFab, if_neg hc, if_neg hm, if_pos h]
  rfl

theorem writeHull_table (h : (HULL_SRC 0 ≤ a ∧ a < HULL_SRC 256) ∨ (HULL_OWN 0 ≤ a ∧ a < HULL_OWN 8192)) :
    s.writeHull i a v = s.storeWrite i a a v (!s.flag HULL_CTRL_Enable) := by
  have hc : a ≠ HULL_CTRL := by unfold HULL_SRC HULL_OWN at h; unfold HULL_CTRL; omega
  have hs : ¬ (HULL_SCTRL 0 ≤ a ∧ a < HULL_SCTRL 4 ∧ a % 32 = 0) := by
    unfold HULL_SRC HULL_OWN at h
    unfold HULL_SCTRL
    omega
  rw [State.writeHull, if_neg hc, if_neg hs, if_pos h]
  rfl

theorem writeCtx_path (hlo : 0x980000 ≤ a) (hhi : a < 0x9A0000) :
    s.writeCtx i a v = s.storeWrite i a a v ((s.pathUsers ((a - 0x980000) / 4)).all s.ctxIdle) := by
  have hc : a ≠ CTX_CMD := by unfold CTX_CMD; omega
  rw [State.writeCtx, if_neg (by omega), if_neg hc, if_pos ⟨hlo, hhi⟩]

theorem writeCtx_entry (h : findRow a = some (r, ix)) (hhi : a < 0x940000) (hne : a % 64 ≠ 0) (hr : r.hasRwl = true) :
    s.writeCtx i a v = if s.ctxOpen ((a - 0x900000) / 64) then (s.rowWrite i a v).eccClear (ctxKey a) else s.rowWrite i a v := by
  simp [State.writeCtx, hhi, hne, h, hr]

/-- A write of a word of a context's entry. -/
theorem tableTook_entry (h : findRow a = some (r, ix)) (hlo : 0x900000 ≤ a) (hhi : a < 0x940000) (hne : a % 64 ≠ 0)
    (hr : r.hasRwl = true) : s.tableTook r a v (s.ctxOpen ((a - 0x900000) / 64)) ((s.writeCtx 21 a v).goldenFollow a v) := by
  obtain ⟨howner, hlock⟩ := ctxEntry_of_findRow (s := s) h hlo hhi hr
  rw [writeCtx_entry h hhi hne hr]
  cases ho : s.ctxOpen ((a - 0x900000) / 64) with
  | true => exact tableTook_open h (by omega) (howner.trans ho) fun b => reg_of_regs goldenFollow_regs
  | false =>
    rw [ho] at howner
    refine ⟨(fun e => by cases e), fun _ => ⟨?_, ?_⟩⟩
    · rw [reg_of_regs goldenFollow_regs, if_neg Bool.false_ne_true, reg_rowWrite h (by omega), howner, written_locked hlock]
    · rw [if_neg Bool.false_ne_true, rowWrite_locked h howner hr]
      exact logged_of_sameRegs sameRegs_goldenFollow logged_log

theorem writeHusk_map (h : HUSK_MAP_LO 0 ≤ a ∧ a < HUSK_MAP_LO 16384) : s.writeHusk i a v =
    if s.ctxOpen (s.fget (HUSK_MAP_HI_Context ((a - HUSK_MAP_LO 0) / 8))) &&
      s.ctxOpen (if a % 8 = 4 then (HUSK_MAP_HI_Context ((a - HUSK_MAP_LO 0) / 8)).of v
        else s.fget (HUSK_MAP_HI_Context ((a - HUSK_MAP_LO 0) / 8))) then s.rowWrite i a v else s.writeLocked i a := by
  rw [State.writeHusk, if_pos h]

theorem tableTook_map {o : Bool} (h : findRow a = some (r, ix)) (hm : HUSK_MAP_LO 0 ≤ a ∧ a < HUSK_MAP_LO 16384) :
    s.tableTook r a v o ((if o then s.rowWrite 21 a v else s.writeLocked 21 a).goldenFollow a v) := by
  have howner : r.owner = .none := of_decide_eq_true
    (row_of_kind (P := fun r => decide (r.owner = .none)) huskMap_owner h hm.1 hm.2 (Nat.mod_one a))
  unfold HUSK_MAP_LO at hm
  cases o with
  | true => exact tableTook_open h (by omega) (by rw [howner]; rfl) fun b => reg_of_regs goldenFollow_regs
  | false => exact tableTook_locked ⟨by unfold GLB_INTPEND; omega, by omega⟩ sameRegs_goldenFollow

/-- A table's word lies off the log. -/
theorem tableOpen_range {o : Bool} (h : s.tableOpen a v = some o) : 0x118000 ≤ a ∧ a < 0x9A0000 := by
  unfold State.tableOpen FAB_LSET FAB_NH HULL_SRC HULL_OWN HUSK_MAP_LO at h
  split_ifs at h <;> omega

theorem tableWrite_of {o : Bool} (ht : s.takes a) (h : findRow a = some (r, ix)) (ho : s.tableOpen a v = some o) :
    ∃ t, exec (.registerWrite a v) s = .next t ∧ s.tableTook r a v o t := by
  obtain ⟨hlo, hhi⟩ := tableOpen_range ho
  have hoff : offLog a := ⟨by unfold GLB_INTPEND; omega, by omega⟩
  refine ⟨_, registerWrite_takes ht h (by omega), ?_⟩
  rw [writeAny_of_lt ht.2.2 (by omega) (by unfold PWR_CMD; omega)]
  dsimp only [State.tableOpen] at ho
  split at ho
  next hfab =>
    have howner : r.owner = .fab := by
      obtain ⟨hl, hn⟩ := fabTables_owner
      rcases hfab with ⟨h1, h2, -⟩ | ⟨h1, h2⟩
      · exact of_decide_eq_true (row_of_kind (P := fun r => decide (r.owner = .fab)) hl h h1 h2 (Nat.mod_one a))
      · exact of_decide_eq_true (row_of_kind (P := fun r => decide (r.owner = .fab)) hn h h1 h2 (Nat.mod_one a))
    have hr : a < 0x160000 := by unfold FAB_LSET FAB_NH at hfab; omega
    obtain rfl := Option.some.inj ho
    rw [blockWrite_fab hlo hr, writeFab_table hfab]
    exact tableTook_store h hoff fun e => by rw [howner]; exact e
  split at ho
  next hhull =>
    have howner : r.owner = .hull := by
      obtain ⟨hl, hn⟩ := hullTables_owner
      rcases hhull with ⟨h1, h2⟩ | ⟨h1, h2⟩
      · exact of_decide_eq_true (row_of_kind (P := fun r => decide (r.owner = .hull)) hl h h1 h2 (Nat.mod_one a))
      · exact of_decide_eq_true (row_of_kind (P := fun r => decide (r.owner = .hull)) hn h h1 h2 (Nat.mod_one a))
    have hr : 0x300000 ≤ a ∧ a < 0x400000 := by unfold HULL_SRC HULL_OWN at hhull; omega
    obtain rfl := Option.some.inj ho
    rw [blockWrite_hull hr.1 hr.2, writeHull_table hhull]
    exact tableTook_store h hoff fun e => by rw [howner]; exact e
  split at ho
  next hmap =>
    have hr : 0x800000 ≤ a ∧ a < 0x900000 := by unfold HUSK_MAP_LO at hmap; omega
    obtain rfl := Option.some.inj ho
    rw [blockWrite_husk hr.1 hr.2, writeHusk_map hmap]
    exact tableTook_map h hmap
  split at ho
  next hent =>
    obtain ⟨h1, h2, hne, hrwl⟩ := hent
    rw [h] at hrwl
    obtain rfl := Option.some.inj ho
    rw [blockWrite_ctx h1 (by omega)]
    exact tableTook_entry h h1 h2 hne hrwl
  split at ho
  next hpath =>
    have howner : r.owner = .none := of_decide_eq_true
      (row_of_kind (P := fun r => decide (r.owner = .none)) pathStore_owner h hpath.1 hpath.2 (Nat.mod_one a))
    obtain rfl := Option.some.inj ho
    rw [blockWrite_ctx (by omega) (by omega), writeCtx_path hpath.1 hpath.2]
    exact tableTook_store h hoff fun _ => by rw [howner]; rfl
  cases ho

end Sys2Proof.Machine
end

section
/-! Proofs about writes of a word that holds an enable and leaves it as it is: only the other fields take the value (R65). -/

namespace Sys2Proof.Machine

variable {s t : State} {a i : Nat} {v : BitVec 32} {r : RegRow} {ix : List Nat} {f : Fld}

/-! ## A field that stays -/

/-- A field replaced by its own value. -/
theorem into_of_same {w : BitVec 32} : f.into w (f.of w) = w := by
  refine BitVec.eq_of_getLsbD_eq fun j hj => ?_
  rw [getLsbD_into hj]
  split
  · rw [testBit_of, Nat.add_sub_cancel' (by omega)]
    simp
    omega
  · rfl

/-- A field that the write leaves as it is stays. -/
theorem of_written_same {o : Bool} {old : BitVec 32} (hf : f.lo + f.width ≤ 32) (hr : r.noClear = true) (h : f.of v = f.of old) :
    f.of (r.written o v old) = f.of old := by
  refine Nat.eq_of_testBit_eq fun j => ?_
  rw [testBit_of, testBit_of]
  by_cases hj : j < f.width
  · have hbit := congrArg (Nat.testBit · j) h
    simp only [testBit_of, hj, decide_true, Bool.true_and] at hbit ⊢
    exact getLsbD_written_same (by omega) hr hbit
  · simp [hj]

/-! ## The write of the word -/

theorem flag_eq_of {n : Nat} (h : s.fget f = n) : s.flag f = decide (n ≠ 0) := by rw [State.flag, h]

/-- What an enable's write to its own value does: the other fields take the value, and neither an enabling nor a disabling changes
a register. -/
theorem enableWrite_same {on off : State → State} (h : findRow a = some (r, ix)) (hfa : f.addr = a) (ha : a < 2 ^ 32)
    (hw : f.width = 1) (hf : f.lo < 32) (hr : r.noClear = true) (hv : f.of v = s.fget f)
    (hon : ∀ t : State, t.flag f = true → on t = t) (hoff : ∀ t : State, t.flag f = false → t.sameRegs (off t)) :
    (s.rowWrite i a v).sameRegs (s.enableWrite i f v on off) := by
  subst hfa
  have hval : f.into v (s.fget f) = v := by rw [← hv, into_of_same]
  have hkeep : (s.rowWrite i f.addr v).fget f = f.of v := by
    rw [State.fget, reg_rowWrite h ha, of_written_same (by omega) hr hv, hv, State.fget]
  have hlt : f.of v < 2 := by
    unfold Fld.of
    rw [hw]
    exact Nat.mod_lt _ (by decide)
  simp only [State.enableWrite, hval]
  split
  · rw [hon _ (by rw [flag_eq_of hkeep]; simp; omega)]
    exact sameRegs_refl
  · exact hoff _ (by rw [flag_eq_of hkeep]; simp; omega)

/-- The same, where a disabling of what is disabled changes nothing at all. -/
theorem sameRegs_ite {c : Bool} {x : State} (h : c = false) : t.sameRegs (if c then x else t) := by
  rw [h]
  exact sameRegs_refl

/-! ## The enables -/

theorem laneOn_of_on {l : Nat} (h : s.flag (LN_CFG_Enable l) = true) : s.laneOn l = s := by rw [State.laneOn, if_pos h]

theorem fabEnable_of_on (h : s.flag FAB_CTRL_Enable = true) : s.fabEnable = s := by rw [State.fabEnable, if_pos h]

theorem fabDisable_of_off (h : s.flag FAB_CTRL_Enable = false) : s.fabDisable = s := by rw [State.fabDisable, h]; rfl

theorem fchEnable_of_on {e : Nat} (h : s.flag (FCH_CTRL_Enable e) = true) : s.fchEnable e = s := by rw [State.fchEnable, if_pos h]

theorem fchSlotEnable_of_on {e p : Nat} (h : s.flag (FCH_PSRC_Enable e p) = true) : s.fchSlotEnable e p = s := by
  rw [State.fchSlotEnable, if_pos h]

theorem hullEnable_of_on (h : s.flag HULL_CTRL_Enable = true) : s.hullEnable = s := by rw [State.hullEnable, if_pos h]

theorem streamEnable_of_on {st : Nat} (h : s.flag (HULL_SCTRL_Enable st) = true) : s.streamEnable st = s := by
  rw [State.streamEnable, if_pos h]

/-- A field written with its own value: the register holds what it held. -/
theorem sameRegs_fset {n : Nat} (h : s.fget f = n) : s.sameRegs (s.fset f n) := by
  refine ⟨fun b => ?_, fset_erl⟩
  by_cases hb : b = f.addr
  · rw [hb, State.fset, reg_setReg_self, ← h]
    exact into_of_same
  · rw [reg_fset_ne hb]

theorem enable_rows :
    (regTable.all fun r => !r.mayHold 0x100000 0x118000 1024 0 || r.noClear) = true ∧
    (regTable.all fun r => !r.mayHold FAB_CTRL (FAB_CTRL + 1) 1 0 || r.noClear) = true ∧
    (regTable.all fun r => !r.mayHold 0x200000 0x300000 64 0 || r.noClear) = true ∧
    (regTable.all fun r => !r.mayHold HULL_CTRL (HULL_CTRL + 1) 1 0 || r.noClear) = true ∧
    (regTable.all fun r => !r.mayHold (HULL_SCTRL 0) (HULL_SCTRL 4) 32 0 || r.noClear) = true := by decide +kernel

/-- The write of an enable's word that leaves the enable as it is. -/
theorem blockWrite_enable {e : Fld} (h : findRow a = some (r, ix)) (he : enableOf a = some e) (hv : e.of v = s.fget e) :
    (s.rowWrite i a v).sameRegs (s.blockWrite i a v) := by
  obtain ⟨hln, hfab, hfch, hhull, hst⟩ := enable_rows
  unfold enableOf at he
  split at he
  next hr =>
    obtain ⟨h1, h2, h3⟩ := hr
    obtain rfl := Option.some.inj he
    rw [blockWrite_lane h1 h2, State.writeLane, if_pos h3]
    exact enableWrite_same h (show LN_CFG _ = a by unfold LN_CFG; omega) (by omega) rfl (show 31 < 32 by decide)
      (row_of_kind hln h h1 h2 h3) hv (fun _ => laneOn_of_on) (fun _ => sameRegs_ite)
  split at he
  next hr =>
    obtain rfl := Option.some.inj he
    obtain ⟨h1, h2⟩ : 0x118000 ≤ a ∧ a < 0x160000 := by rw [hr]; decide
    rw [blockWrite_fab h1 h2, State.writeFab, if_pos hr]
    exact enableWrite_same h hr.symm (by omega) rfl (by decide) (row_of_kind hfab h (by omega) (by omega) (Nat.mod_one a)) hv
      (fun _ => fabEnable_of_on) (fun _ ht => by rw [fabDisable_of_off ht]; exact sameRegs_refl)
  split at he
  next hr =>
    obtain ⟨h1, h2, h3⟩ := hr
    obtain rfl := Option.some.inj he
    simp only [blockWrite_fch h1 h2, State.writeFch, h3, if_true]
    exact enableWrite_same h (show FCH_CTRL _ = a by unfold FCH_CTRL; omega) (by omega) rfl (show 0 < 32 by decide)
      (row_of_kind hfch h h1 h2 (by omega)) hv (fun _ => fchEnable_of_on) (fun _ => sameRegs_ite)
  split at he
  next hr =>
    obtain ⟨h1, h2, h3, h4, h5⟩ := hr
    obtain rfl := Option.some.inj he
    have hne : a % 65536 ≠ 0 ∧ a % 65536 ≠ 0x30 ∧ a % 65536 ≠ 0x34 ∧ a % 65536 ≠ 0x3C := by omega
    have hslot : 0x100 ≤ a % 65536 ∧ a % 65536 < 0x500 ∧ a % 65536 % 64 = 0 := by omega
    simp only [blockWrite_fch h1 h2, State.writeFch, hne, hslot, if_true, if_false, and_self]
    exact enableWrite_same h (show FCH_PSRC _ _ = a by unfold FCH_PSRC; omega) (by omega) rfl (show 31 < 32 by decide)
      (row_of_kind hfch h h1 h2 h5) hv (fun _ => fchSlotEnable_of_on) (fun _ => sameRegs_ite)
  split at he
  next hr =>
    obtain rfl := Option.some.inj he
    obtain ⟨h1, h2⟩ : 0x300000 ≤ a ∧ a < 0x400000 := by rw [hr]; decide
    rw [blockWrite_hull h1 h2, State.writeHull, if_pos hr]
    exact enableWrite_same h hr.symm (by omega) rfl (by decide) (row_of_kind hhull h (by omega) (by omega) (Nat.mod_one a)) hv
      (fun _ => hullEnable_of_on) (fun _ => sameRegs_ite)
  split at he
  next hc hr =>
    obtain rfl := Option.some.inj he
    obtain ⟨h1, h2, h3⟩ := hr
    have hb : 0x300000 ≤ a ∧ a < 0x400000 := by unfold HULL_SCTRL at h1 h2; omega
    simp only [blockWrite_hull hb.1 hb.2, State.writeHull, hc, h1, h2, h3, if_true, if_false, and_self]
    exact enableWrite_same h (show HULL_SCTRL _ = a by unfold HULL_SCTRL at *; omega) (by omega) rfl (show 31 < 32 by decide)
      (row_of_kind hst h h1 h2 h3) hv (fun _ => streamEnable_of_on)
      (fun t ht => sameRegs_fset (of_decide_eq_false ht |> Decidable.not_not.mp))
  cases he

/-- An enable stands below the counters, off the power unit. -/
theorem enableOf_range {e : Fld} (he : enableOf a = some e) : 0x100000 ≤ a ∧ a < 0x400000 := by
  unfold enableOf FAB_CTRL HULL_CTRL HULL_SCTRL at he
  split_ifs at he <;> omega

/-- A write of an enable's word that leaves the enable as it is. -/
theorem enableWrite_of {e : Fld} (ht : s.takes a) (h : findRow a = some (r, ix)) (he : enableOf a = some e) (hv : e.of v = s.fget e) :
    ∃ t, exec (.registerWrite a v) s = .next t ∧ s.tookFields r ix 21 a v t := by
  obtain ⟨hlo, hhi⟩ := enableOf_range he
  refine ⟨_, registerWrite_takes ht h (by omega), ?_⟩
  rw [writeAny_of_lt ht.2.2 (by omega) (by unfold PWR_CMD; omega)]
  exact tookFields_of_rowWrite h (by omega) ((blockWrite_enable h he hv).trans sameRegs_goldenFollow)

end Sys2Proof.Machine
end

section
/-! Proofs about writes of words that their unit acts on, and of words that are held until their value is whole (R191). -/

namespace Sys2Proof.Machine

variable {s t : State} {a i : Nat} {v : BitVec 32} {r : RegRow} {ix : List Nat}

/-! ## Timing -/

theorem reg_setRef_ne {n st : Nat} (h : a ≠ TMB_REFSTAT n) : (s.setRef n st).reg a = s.reg a := by
  rw [State.setRef, reg_fset_ne h, reg_fset_ne h]

theorem reg_refConfig_ne {n : Nat} (h : a ≠ TMB_REFSTAT n) : (s.refConfig n).reg a = s.reg a := by
  unfold State.refConfig
  split
  · exact reg_setRef_ne h
  · split
    · exact reg_setRef_ne h
    · rfl

theorem reg_ftDisable_ne (h : a ≠ TMB_FTSTAT) : s.ftDisable.reg a = s.reg a :=
  (reg_fset_ne (f := TMB_FTSTAT_IsMaster) h).trans (reg_fset_ne (f := TMB_FTSTAT_Valid) h)

/-- The write of a reference's rank and type. -/
theorem writeTime_refcfg {n : Nat} (hn : n < 7) : (s.writeTime i (TMB_REFCFG n) v).reg (TMB_REFCFG n) =
    (s.rowWrite i (TMB_REFCFG n) v).reg (TMB_REFCFG n) := by
  have hr : TMB_REFCFG 0 ≤ TMB_REFCFG n ∧ TMB_REFCFG n < TMB_REFCFG 7 := by unfold TMB_REFCFG; omega
  have hb : 0x20060 ≤ TMB_REFCFG n ∧ TMB_REFCFG n < 0x2007C := by unfold TMB_REFCFG; omega
  have hl : TMB_REFCFG n ∉ [TMB_CMD, CAL_CMD, SCH_INSERT, SCH_CANCEL] := by
    simp only [TMB_CMD, CAL_CMD, SCH_INSERT, SCH_CANCEL, List.mem_cons, List.not_mem_nil, or_false]
    omega
  have hh : isHeldWord (TMB_REFCFG n) = false := by
    simp only [isHeldWord, TMB_INCR, TMB_TSET_LO, TMB_STEP_LO, TMB_SREFIDX_LO, TMB_SREFT_FR, TMB_SREFT_SL, TMB_SPER_LO,
      SCH_DUE_FR, SCH_DUE_SL, List.contains_eq_mem, List.mem_cons, List.not_mem_nil, or_false, decide_eq_false_iff_not]
    omega
  have hc : commitLows (TMB_REFCFG n) = [] := commitLows_of_not_mem (by
    simp only [commitWords, TMB_INCRF, TMB_TSET_HI, TMB_STEP_HI, TMB_SREFIDX_HI, TMB_SREFT_SH, TMB_SPER_HI, SCH_DUE_SH,
      List.mem_cons, List.not_mem_nil, or_false]
    omega)
  simp only [List.mem_cons, List.not_mem_nil, or_false, not_or] at hl
  simp only [State.writeTime, hl, hh, hc, hr, if_false, if_true, Bool.false_eq_true, ne_eq, not_true_eq_false, and_self]
  exact reg_refConfig_ne (by unfold TMB_REFCFG TMB_REFSTAT; omega)

/-- The write of fabric time's configuration. -/
theorem writeTime_ftcfg : (s.writeTime i TMB_FTCFG v).reg TMB_FTCFG = (s.rowWrite i TMB_FTCFG v).reg TMB_FTCFG := by
  have e : s.writeTime i TMB_FTCFG v =
      if s.ftOn && !(s.rowWrite i TMB_FTCFG v).ftOn then (s.rowWrite i TMB_FTCFG v).ftDisable else s.rowWrite i TMB_FTCFG v := rfl
  rw [e]
  split
  · exact reg_ftDisable_ne (by decide)
  · rfl

/-! ## The controllers' control word -/

theorem reg_noteReserve_ne (hs : a ≠ DMC_STATUS) (hp : a ≠ GLB_INTPEND) : s.noteReserve.reg a = s.reg a := by
  simp only [State.noteReserve]
  split
  · rw [reg_raise_ne hp, reg_fset_ne hs, reg_fset_ne hs]
  · rw [reg_fset_ne hs, reg_fset_ne hs]

theorem reg_dmcEnable_ctrl : s.dmcEnable.reg DMC_CTRL = s.reg DMC_CTRL := by
  have hmap : ∀ n, DMC_CTRL ≠ DMC_PCMAP n := fun n => by unfold DMC_CTRL DMC_PCMAP; omega
  have hstat : ∀ n, DMC_CTRL ≠ DMC_PCSTAT n := fun n => by unfold DMC_CTRL DMC_PCSTAT; omega
  rw [State.dmcEnable, reg_noteReserve_ne (by decide) (by decide),
    each_keeps (fun s => s.reg DMC_CTRL) fun _ p => reg_fset_ne (hstat p)]
  exact each_keeps (fun s => s.reg DMC_CTRL) fun _ n => reg_fset_ne (hmap n)

theorem reg_dmcWarm_ctrl : s.dmcWarm.reg DMC_CTRL = s.reg DMC_CTRL := by
  unfold State.dmcWarm
  split
  · exact reg_fset_ne (by decide)
  · rfl

theorem writeDmc_ctrl : (s.writeDmc i DMC_CTRL v).reg DMC_CTRL = (s.rowWrite i DMC_CTRL v).reg DMC_CTRL := by
  simp only [State.writeDmc, if_true]
  exact (reg_when reg_dmcWarm_ctrl).trans (reg_when reg_dmcEnable_ctrl)

/-! ## The sampler's configuration -/

theorem withArray_regs {x : ArraySt} : ({ s with array := x } : State).regs = s.regs := rfl

theorem each_modPod_regs {l : List Nat} {f : PodSt → PodSt} : (s.each l fun s p => s.modPod p f).regs = s.regs :=
  each_keeps State.regs fun _ _ => rfl

theorem pipRestart_regs : s.pipRestart.regs = s.regs := by
  simp only [State.pipRestart]
  rw [withArray_regs, each_modPod_regs]

theorem pipWrite_regs : (s.pipWrite a v).regs = (s.putReg a true v).regs := by
  simp only [State.pipWrite]
  split
  · exact pipRestart_regs
  · split <;> rfl

theorem reg_putReg (h : findRow a = some (r, ix)) {o : Bool} : (s.putReg a o v).reg a = r.written o v (s.reg a) := by
  simp only [State.putReg, h, reg_setReg_self]

theorem pipConfig_rows : (regTable.all fun r => !r.mayHold PMC_PIPCFG (PMC_PIPMASK_HI + 1) 1 0 || decide (r.owner = .none)) = true := by
  decide +kernel

theorem isPipConfig_range (h : isPipConfig a = true) : PMC_PIPCFG ≤ a ∧ a < PMC_PIPMASK_HI + 1 ∧ a ≠ PMC_CMD := by
  simp only [isPipConfig, Bool.or_eq_true, decide_eq_true_eq] at h
  obtain ((rfl | rfl) | rfl) | rfl := h <;> decide

theorem writePmc_pip (h : findRow a = some (r, ix)) (hp : isPipConfig a = true) :
    (s.writePmc i a v).reg a = (s.rowWrite i a v).reg a := by
  obtain ⟨hlo, hhi, hc⟩ := isPipConfig_range hp
  have ha : a < 2 ^ 32 := lt_trans hhi (by decide)
  have howner : r.owner = .none := of_decide_eq_true
    (row_of_kind (P := fun r => decide (r.owner = .none)) pipConfig_rows h hlo hhi (Nat.mod_one a))
  rw [State.writePmc, if_neg hc, if_pos hp, reg_of_regs pipWrite_regs, reg_putReg h, reg_rowWrite h ha, howner]
  rfl

/-- Words that their unit acts on and that take their fields all the same. -/
theorem unitWrite_of (ht : s.takes a) (h : findRow a = some (r, ix))
    (hu : (∃ n, n < 7 ∧ a = TMB_REFCFG n) ∨ a = TMB_FTCFG ∨ a = DMC_CTRL ∨ isPipConfig a = true)
    {f : FieldSpec} (hf : f ∈ r.fields) :
    gives (.registerWrite a v) s fun t => (t.reg a).extractLsb' f.lo f.width = afterWrite f.acc (s.ownerOpen r.owner ix)
      (v.extractLsb' f.lo f.width) ((s.reg a).extractLsb' f.lo f.width) := by
  have hreg : 0x20000 ≤ a ∧ a < 0xE00000 ∧ (s.blockWrite 21 a v).reg a = (s.rowWrite 21 a v).reg a := by
    rcases hu with ⟨n, hn, rfl⟩ | rfl | rfl | hp
    · have hr : 0x20000 ≤ TMB_REFCFG n ∧ TMB_REFCFG n < 0x100000 := by unfold TMB_REFCFG; omega
      exact ⟨by omega, by omega, by rw [blockWrite_time hr.1 hr.2, writeTime_refcfg hn]⟩
    · exact ⟨by decide, by decide, by rw [blockWrite_time (by decide) (by decide), writeTime_ftcfg]⟩
    · exact ⟨by decide, by decide, by rw [blockWrite_dmc (by decide) (by decide), writeDmc_ctrl]⟩
    · obtain ⟨hlo, hhi, -⟩ := isPipConfig_range hp
      unfold PMC_PIPCFG PMC_PIPMASK_HI at *
      exact ⟨by omega, by omega, by rw [blockWrite_pmc (by omega) (by omega), writePmc_pip h hp]⟩
  obtain ⟨hlo, hhi, hreg⟩ := hreg
  refine gives_of (registerWrite_takes ht h (by omega)) (extract_of_rowWrite (i := 21) h (by omega) ?_ hf)
  rw [writeAny_of_lt ht.2.2 hhi (by unfold PWR_CMD; omega), reg_of_regs goldenFollow_regs, hreg]

/-! ## The entry point of a pod -/

theorem reg_podBegin_ctrl {p : Nat} : (s.podBegin p).reg (POD_CTRL p) = s.reg (POD_CTRL p) := by
  have h : POD_CTRL p ≠ POD_STATUS p := by unfold POD_CTRL POD_STATUS; omega
  simp only [State.podBegin]
  rw [reg_fset_ne h, reg_fset_ne h, reg_fset_ne h, reg_fset_ne h]
  rfl

theorem reg_podSettle_ctrl {p : Nat} : (s.podSettle p).reg (POD_CTRL p) = s.reg (POD_CTRL p) := by
  have h : POD_CTRL p ≠ POD_STATUS p := by unfold POD_CTRL POD_STATUS; omega
  simp only [State.podSettle]
  rw [reg_fset_ne h, reg_fset_ne h]
  exact reg_when reg_podBegin_ctrl

theorem pipRetire_regs {p : Nat} {n : Option Nat} {ab : Bool} : (s.pipRetire p n ab).regs = s.regs := by
  unfold State.pipRetire
  split
  · split
    · rfl
    · split <;> rfl
  · rfl

theorem reg_podHalt_ctrl {p : Nat} : (s.podHalt p).reg (POD_CTRL p) = s.reg (POD_CTRL p) := by
  have h : POD_CTRL p ≠ POD_STATUS p := by unfold POD_CTRL POD_STATUS; omega
  simp only [State.podHalt, State.podEnd]
  rw [reg_podSettle_ctrl, reg_fset_ne h]
  exact reg_of_regs pipRetire_regs

theorem fget_podRunStop_entry {p : Nat} : (s.podRunStop p).fget (POD_CTRL_Entry p) = s.fget (POD_CTRL_Entry p) := by
  refine Eq.trans (fget_of_reg ?_) (fget_fset_ne (f := POD_CTRL_Entry p) (g := POD_CTRL_Run p) (v := 0) (.inr (.inr ?_)))
  · simp only [State.podRunStop, State.podStopCheck]
    split
    · exact reg_podHalt_ctrl
    · rfl
  · show 0 + 1 ≤ 2
    decide

theorem fget_podRunStart_entry {p : Nat} : (s.podRunStart p).fget (POD_CTRL_Entry p) = s.fget (POD_CTRL_Entry p) := by
  have h : POD_CTRL p ≠ POD_STATUS p := by unfold POD_CTRL POD_STATUS; omega
  have hrun : (s.fset (POD_CTRL_Run p) 1).fget (POD_CTRL_Entry p) = s.fget (POD_CTRL_Entry p) :=
    fget_fset_ne (.inr (.inr (show 0 + 1 ≤ 2 by decide)))
  unfold State.podRunStart
  split
  · rfl
  split
  · exact fget_fset_addr h
  split
  · exact hrun
  · exact Eq.trans (fget_of_reg reg_podSettle_ctrl) hrun

/-- A field as bits of its word. -/
theorem of_eq_extract {f : Fld} {w : BitVec 32} : f.of w = (w.extractLsb' f.lo f.width).toNat := by
  simp [Fld.of, BitVec.extractLsb'_toNat, BitVec.toNat_ushiftRight]

/-- The row of the pods' control words. -/
def RegRow.podCtrl (r : RegRow) : Bool :=
  decide (r.owner = .pod) && decide (r.base = 0x400000) && decide (r.dims = [(65536, 64)]) && r.fields.contains ⟨2, 12, .rwl⟩

theorem podCtrl_rows : (regTable.all fun r => !r.mayHold 0x400000 0x800000 65536 0 || r.podCtrl) = true := by decide +kernel

theorem podEntry_of {p : Nat} (hp : p < 64) (ht : s.takes (POD_CTRL p)) (h : findRow (POD_CTRL p) = some (r, ix)) :
    gives (.registerWrite (POD_CTRL p) v) s fun t => t.fget (POD_CTRL_Entry p) =
      if s.flag (POD_STATUS_Running p) then s.fget (POD_CTRL_Entry p) else (POD_CTRL_Entry p).of v := by
  obtain ⟨hlo, hhi, hmod⟩ : 0x400000 ≤ POD_CTRL p ∧ POD_CTRL p < 0x800000 ∧ POD_CTRL p % 65536 = 0 := by unfold POD_CTRL; omega
  have hP := row_of_kind podCtrl_rows h hlo hhi hmod
  simp only [RegRow.podCtrl, Bool.and_eq_true, decide_eq_true_eq, List.contains_iff_mem] at hP
  obtain ⟨⟨⟨howner, hbase⟩, hdims⟩, hfield⟩ := hP
  obtain ⟨rfl, -, -⟩ := index_of_findRow h hdims
  have hix : (POD_CTRL p - r.base) / 65536 = p ∧ (POD_CTRL p - 0x400000) / 65536 = p := by
    rw [hbase]
    unfold POD_CTRL
    omega
  have hopen : s.ownerOpen r.owner [(POD_CTRL p - r.base) / 65536] = !s.flag (POD_STATUS_Running p) := by rw [howner, hix.1]; rfl
  have hrow : (s.rowWrite 21 (POD_CTRL p) ((POD_CTRL_Run p).into v (s.fget (POD_CTRL_Run p)))).fget (POD_CTRL_Entry p) =
      if s.flag (POD_STATUS_Running p) then s.fget (POD_CTRL_Entry p) else (POD_CTRL_Entry p).of v := by
    have hx := extract_of_rowWrite (s := s) (i := 21) (v := (POD_CTRL_Run p).into v (s.fget (POD_CTRL_Run p))) h (by omega) rfl hfield
    have hinto : (POD_CTRL_Entry p).of ((POD_CTRL_Run p).into v (s.fget (POD_CTRL_Run p))) = (POD_CTRL_Entry p).of v :=
      of_into_ne (.inr (show 0 + 1 ≤ 2 by decide))
    rw [of_eq_extract] at hinto
    rw [State.fget, of_eq_extract]
    refine (congrArg BitVec.toNat hx).trans ?_
    rw [hopen]
    cases s.flag (POD_STATUS_Running p) with
    | true => exact (of_eq_extract (f := POD_CTRL_Entry p) (w := s.reg (POD_CTRL p))).symm
    | false => exact hinto
  refine gives_of (registerWrite_takes ht h (by omega)) (Eq.trans ?_ hrow)
  rw [writeAny_of_lt ht.2.2 (by omega) (by unfold PWR_CMD; omega), fget_of_reg (reg_of_regs goldenFollow_regs),
    blockWrite_pod hlo hhi]
  simp only [State.writePod, hmod, if_true, hix.2, State.enableWrite]
  split
  · exact fget_podRunStart_entry
  · exact fget_podRunStop_entry

/-! ## Held words -/

/-- The words that are held. -/
theorem isHeldWord_place (h : isHeldWord a = true) : 0x20000 ≤ a ∧ a < 0x100000 ∧
    a ∉ [TMB_CMD, CAL_CMD, SCH_INSERT, SCH_CANCEL, TMB_TIME_FR, TMB_TIME_SL, TMB_TIME_SH] := by
  simp only [isHeldWord, List.contains_eq_mem, decide_eq_true_eq, List.mem_cons, List.not_mem_nil, or_false] at h
  rcases h with rfl | rfl | rfl | rfl | rfl | rfl | rfl | rfl | rfl <;> decide

theorem peek_of_held (h : isHeldWord a = true) (hr : findRow a ≠ none) : s.peek a = (tget none s.tim.held a).getD (s.reg a) := by
  obtain ⟨hlo, hhi, hl⟩ := isHeldWord_place h
  simp only [List.mem_cons, List.not_mem_nil, or_false, not_or] at hl
  have hg : a ≠ GLB_STATUS ∧ a ≠ PWR_STATUS ∧ a ≠ GLB_I3C ∧ a ≠ GLB_INTTOP := by
    unfold GLB_STATUS PWR_STATUS GLB_I3C GLB_INTTOP
    omega
  have hn : (findRow a).isNone = false := by cases e : findRow a <;> simp_all
  have hlt : a < 0x200000 := by omega
  simp only [State.peek, hn, Bool.false_eq_true, if_false, hlt, if_true, State.peekLow, hg, hl, h]

theorem heldWrite_of (ht : s.takes a) (h : findRow a = some (r, ix)) (hh : isHeldWord a = true) :
    gives (.registerWrite a v) s fun t => t.peek a = v ∧ t.regs = s.regs := by
  obtain ⟨hlo, hhi, hl⟩ := isHeldWord_place hh
  simp only [List.mem_cons, List.not_mem_nil, or_false, not_or] at hl
  have e : s.writeAny 21 a v = (s.holdWord a v).goldenFollow a v := by
    rw [writeAny_of_lt ht.2.2 (by omega) (by unfold PWR_CMD; omega), blockWrite_time hlo hhi]
    simp only [State.writeTime, hl, hh, if_false, if_true]
  refine gives_of ((registerWrite_takes ht h (by omega)).trans (congrArg _ e)) ⟨?_, goldenFollow_regs⟩
  rw [peek_of_held hh (by simp [h]), goldenFollow_tim, State.holdWord, tget_tset_self]
  rfl

end Sys2Proof.Machine
end

section
/-! Proofs about writes of command words: each acts as its command, but for the golden copy, which follows every write. -/

namespace Sys2Proof.Machine

variable {s t u : State} {a i : Nat} {v : BitVec 32} {c : Instr}

/-! ## A write that acts as a command -/

theorem hostWrite_of_takes {f : State → State} (h : s.takes a) : s.hostWrite a f = f s := by
  obtain ⟨haw, hh, hon⟩ := h
  simp [State.hostWrite, haw, hh, hon]

/-- The host's write of v to the word at a acts as command c. -/
def State.actsAs (s : State) (a : Nat) (v : BitVec 32) (c : Instr) : Prop :=
  gives (.registerWrite a v) s fun t => ∃ u, exec c s = .next u ∧ u = { t with img := { t.img with golden := u.img.golden } }

theorem actsAs_of_write (ht : s.takes a) (h4 : a % 4 = 0) (ha : a < 2 ^ 32) (hx : exec c s = .next (s.writeAny 21 a v)) :
    s.actsAs a v c := gives_of (registerWrite_of ha h4 ht.1 ht.2.1) ⟨_, hx, rfl⟩

/-- The command does what the block does with the write. -/
theorem actsAs_of_block (ht : s.takes a) (h4 : a % 4 = 0) (ha : a < 0xE00000) (hp : a ≠ PWR_CMD)
    (hx : exec c s = .next (s.blockWrite 21 a v)) : s.actsAs a v c := by
  refine gives_of (registerWrite_of (by omega) h4 ht.1 ht.2.1) ⟨_, hx, ?_⟩
  rw [writeAny_of_lt ht.2.2 ha hp, goldenFollow_eq]

/-! ## Timing -/

theorem blockWrite_tmbCmd : s.blockWrite i TMB_CMD v = s.tmbCmd v := by
  rw [blockWrite_time (by decide) (by decide), State.writeTime, if_pos rfl]

theorem tmbCmd_setTime : s.tmbCmd (TMB_CMD_SetTime.into 0 1) = s.setTimeCmd := by
  simp [State.tmbCmd, State.when, TMB_CMD_SetTime, TMB_CMD_ClearWtr, TMB_CMD_Realign, Fld.of, Fld.into, Fld.mask]

theorem tmbCmd_realign : s.tmbCmd (TMB_CMD_Realign.into 0 1) = s.realignCmd := by
  simp [State.tmbCmd, State.when, TMB_CMD_SetTime, TMB_CMD_ClearWtr, TMB_CMD_Realign, Fld.of, Fld.into, Fld.mask]

/-- The mask has one bit for each of the seven inputs. -/
theorem clearWtr_mod {mask : Nat} : s.clearWtr (mask % 256) = s.clearWtr mask := by
  unfold State.clearWtr
  congr 1
  refine List.filter_congr fun n hn => ?_
  have hbit : mask % 256 / 2 ^ n % 2 = mask / 2 ^ n % 2 := by
    have hlt : n < 7 := List.mem_range.mp hn
    interval_cases n <;> omega
  rw [hbit]

theorem tmbCmd_clearWtr {mask : Nat} : s.tmbCmd (TMB_CMD_ClearWtr.into (TMB_CMD_WtrMask.into 0 mask) 1) = s.clearWtr mask := by
  generalize hw : TMB_CMD_ClearWtr.into (TMB_CMD_WtrMask.into 0 mask) 1 = w
  have hset : TMB_CMD_SetTime.of w = 0 := by
    rw [← hw, of_into_ne (by decide), of_into_ne (by decide)]
    rfl
  have hre : TMB_CMD_Realign.of w = 0 := by
    rw [← hw, of_into_ne (by decide), of_into_ne (by decide)]
    rfl
  have hclr : TMB_CMD_ClearWtr.of w = 1 := by
    rw [← hw, of_into (by decide)]
    rfl
  have hmask : TMB_CMD_WtrMask.of w = mask % 256 := by
    rw [← hw, of_into_ne (by decide), of_into (by decide)]
    rfl
  simp [State.tmbCmd, State.when, hset, hre, hclr, hmask, clearWtr_mod]

/-- A command of the word TMB_CMD. -/
theorem actsAs_tmbCmd {f : State → State} (ht : s.takes TMB_CMD) (hx : exec c s = .next (s.hostWrite TMB_CMD f))
    (hf : s.tmbCmd v = f s) : s.actsAs TMB_CMD v c :=
  actsAs_of_block ht (by decide) (by decide) (by decide) (by rw [hx, hostWrite_of_takes ht, blockWrite_tmbCmd, hf])

theorem actsAs_calendarCapture (ht : s.takes CAL_CMD) : s.actsAs CAL_CMD (CAL_CMD_Capture.into 0 1) .calendarCapture := by
  refine actsAs_of_block ht (by decide) (by decide) (by decide) ?_
  show execCalendarCapture s = _
  rw [execCalendarCapture, hostWrite_of_takes ht, blockWrite_time (by decide) (by decide), State.writeTime, if_neg (by decide),
    if_pos rfl]
  simp [State.when, CAL_CMD_Capture, Fld.of, Fld.into, Fld.mask]

theorem actsAs_schInsert (ht : s.takes SCH_INSERT) : s.actsAs SCH_INSERT v (.schInsert v) := by
  refine actsAs_of_block ht (by decide) (by decide) (by decide) ?_
  show execSchInsert v s = _
  rw [execSchInsert, hostWrite_of_takes ht, blockWrite_time (by decide) (by decide), State.writeTime, if_neg (by decide),
    if_neg (by decide), if_pos rfl]

theorem actsAs_schCancel (ht : s.takes SCH_CANCEL) : s.actsAs SCH_CANCEL v (.schCancel v) := by
  refine actsAs_of_block ht (by decide) (by decide) (by decide) ?_
  show execSchCancel v s = _
  rw [execSchCancel, hostWrite_of_takes ht, blockWrite_time (by decide) (by decide), State.writeTime, if_neg (by decide),
    if_neg (by decide), if_neg (by decide), if_pos rfl]

/-- A highest word of a value that takes effect as a whole. -/
theorem commitWords_place (h : commitLows a ≠ []) : a % 4 = 0 ∧ 0x20000 ≤ a ∧ a < 0x100000 ∧ isHeldWord a = false ∧
    a ∉ [TMB_CMD, CAL_CMD, SCH_INSERT, SCH_CANCEL] := by
  have hm : a ∈ commitWords := by_contra fun hn => h (commitLows_of_not_mem hn)
  simp only [commitWords, List.mem_cons, List.not_mem_nil, or_false] at hm
  rcases hm with rfl | rfl | rfl | rfl | rfl | rfl | rfl <;> decide

theorem actsAs_incrementCommit (h : commitLows (a / 4 * 4) ≠ []) (ht : s.takes (a / 4 * 4)) :
    s.actsAs (a / 4 * 4) v (.incrementCommit a v) := by
  obtain ⟨h4, hlo, hhi, hh, hl⟩ := commitWords_place h
  simp only [List.mem_cons, List.not_mem_nil, or_false, not_or] at hl
  refine actsAs_of_block ht h4 (by omega) (by unfold PWR_CMD; omega) ?_
  show execIncrementCommit a v s = _
  rw [execIncrementCommit, reply_of_not h, hostWrite_of_takes ht, blockWrite_time hlo hhi]
  simp only [State.writeTime, hl, hh, h, if_false, if_true, Bool.false_eq_true, ne_eq, not_false_eq_true]

/-! ## Lanes and the fabric unit -/

theorem blockWrite_lnCmd {l : Nat} (hl : l < 96) : s.blockWrite i (LN_CMD l) v = s.laneCmd l v := by
  have h8 : LN_CMD l % 1024 = 8 ∧ (LN_CMD l - 0x100000) / 1024 = l := by unfold LN_CMD; omega
  have hr : 0x100000 ≤ LN_CMD l ∧ LN_CMD l < 0x118000 := by unfold LN_CMD; omega
  simp only [blockWrite_lane hr.1 hr.2, State.writeLane, h8, if_true, if_false, (by decide : ¬ 8 = 0)]

/-- A command of the word LN_CMD of a lane. -/
theorem actsAs_lnCmd {l : Nat} {f : State → State} (hl : l < 96) (ht : s.takes (LN_CMD l))
    (hx : exec c s = reply (96 ≤ l) (s.hostWrite (LN_CMD l) f)) (hf : s.laneCmd l v = f s) : s.actsAs (LN_CMD l) v c := by
  have hr : LN_CMD l % 4 = 0 ∧ 0x100000 ≤ LN_CMD l ∧ LN_CMD l < 0x118000 := by unfold LN_CMD; omega
  refine actsAs_of_block ht hr.1 (by omega) (by unfold PWR_CMD; omega) ?_
  rw [hx, reply_of_not (by omega), hostWrite_of_takes ht, blockWrite_lnCmd hl, hf]

theorem laneCmd_restart {l : Nat} : s.laneCmd l ((LN_CMD_Restart l).into 0 1) = s.laneRestart l := by
  simp [State.laneCmd, State.when, LN_CMD_Restart, LN_CMD_WarmTrain, LN_CMD_SwapNow, LN_CMD_Release, Fld.of, Fld.into, Fld.mask]

theorem laneCmd_warm {l : Nat} : s.laneCmd l ((LN_CMD_WarmTrain l).into 0 1) = s.laneWarm l := by
  simp [State.laneCmd, State.when, LN_CMD_Restart, LN_CMD_WarmTrain, LN_CMD_SwapNow, LN_CMD_Release, Fld.of, Fld.into, Fld.mask]

theorem laneCmd_swapNow {l : Nat} : s.laneCmd l ((LN_CMD_SwapNow l).into 0 1) = s.swapNow l := by
  simp [State.laneCmd, State.when, LN_CMD_Restart, LN_CMD_WarmTrain, LN_CMD_SwapNow, LN_CMD_Release, Fld.of, Fld.into, Fld.mask]

theorem laneCmd_release {l : Nat} : s.laneCmd l ((LN_CMD_Release l).into 0 1) = s.laneRelease l := by
  simp [State.laneCmd, State.when, LN_CMD_Restart, LN_CMD_WarmTrain, LN_CMD_SwapNow, LN_CMD_Release, Fld.of, Fld.into, Fld.mask]

theorem actsAs_mreadRequest (ht : s.takes FAB_MREQ) : s.actsAs FAB_MREQ v (.mreadRequest v) := by
  refine actsAs_of_block ht (by decide) (by decide) (by decide) ?_
  show execMreadRequest v s = _
  rw [execMreadRequest, hostWrite_of_takes ht, blockWrite_fab (by decide) (by decide), State.writeFab, if_neg (by decide), if_pos rfl]

/-! ## F-engines, pods and contexts -/

theorem actsAs_gainSwapArm {e : Nat} (he : e < 16) (ht : s.takes (FCH_GSWAP_HI e)) :
    s.actsAs (FCH_GSWAP_HI e) v (.gainSwapArm e v) := by
  have hoff : FCH_GSWAP_HI e % 65536 = 0x34 ∧ (FCH_GSWAP_HI e - 0x200000) / 65536 = e := by unfold FCH_GSWAP_HI; omega
  have hr : 0x200000 ≤ FCH_GSWAP_HI e ∧ FCH_GSWAP_HI e < 0x300000 := by unfold FCH_GSWAP_HI; omega
  refine actsAs_of_block ht (by omega) (by omega) (by unfold PWR_CMD; omega) ?_
  show execGainSwapArm e v s = _
  rw [execGainSwapArm, reply_of_not (by omega), hostWrite_of_takes ht, blockWrite_fch hr.1 hr.2]
  simp [State.writeFch, hoff]

theorem actsAs_fchGdataWrite {e : Nat} (he : e < 16) (ht : s.takes (FCH_GDATA e)) :
    s.actsAs (FCH_GDATA e) v (.fchGdataWrite e v) := by
  have hoff : FCH_GDATA e % 65536 = 0x3C ∧ (FCH_GDATA e - 0x200000) / 65536 = e := by unfold FCH_GDATA; omega
  have hr : 0x200000 ≤ FCH_GDATA e ∧ FCH_GDATA e < 0x300000 := by unfold FCH_GDATA; omega
  refine actsAs_of_block ht (by omega) (by omega) (by unfold PWR_CMD; omega) ?_
  show execFchGdataWrite e v s = _
  rw [execFchGdataWrite, reply_of_not (by omega), hostWrite_of_takes ht, blockWrite_fch hr.1 hr.2]
  simp [State.writeFch, hoff]

theorem actsAs_steerRequest {p col : Nat} (hp : p < 64) (hc : col < 64) (ht : s.takes (POD_CMD p)) :
    s.actsAs (POD_CMD p) ((POD_CMD_Steer p).into ((POD_CMD_Column p).into 0 col) 1) (.steerRequest p col) := by
  generalize hw : (POD_CMD_Steer p).into ((POD_CMD_Column p).into 0 col) 1 = w
  have hoff : POD_CMD p % 65536 = 0x1C ∧ (POD_CMD p - 0x400000) / 65536 = p := by unfold POD_CMD; omega
  have hr : 0x400000 ≤ POD_CMD p ∧ POD_CMD p < 0x800000 := by unfold POD_CMD; omega
  have hsteer : (POD_CMD_Steer p).of w = 1 := by
    rw [← hw]
    exact of_into (show 31 + 1 ≤ 32 by decide)
  have hcol : (POD_CMD_Column p).of w = col := by
    rw [← hw, of_into_ne (.inl (show 0 + 6 ≤ 31 by decide)), of_into (show 0 + 6 ≤ 32 by decide)]
    exact Nat.mod_eq_of_lt hc
  refine actsAs_of_block ht (by omega) (by omega) (by unfold PWR_CMD; omega) ?_
  show execSteerRequest p col s = _
  rw [execSteerRequest, reply_of_not (by omega), hostWrite_of_takes ht, blockWrite_pod hr.1 hr.2]
  have hcols : col < 33 ↔ ¬ 32 < col := by omega
  simp only [State.writePod, hoff, hsteer, hcol, hcols, true_and, ite_not, if_true, if_false, (by decide : ¬ 0x1C = 0)]

theorem actsAs_ctxValidWrite {n : Nat} (hn : n < 4096) (ht : s.takes (CTX_CFG n)) : s.actsAs (CTX_CFG n) v (.ctxValidWrite n v) := by
  have hoff : CTX_CFG n % 64 = 0 ∧ (CTX_CFG n - 0x900000) / 64 = n := by unfold CTX_CFG; omega
  have hr : 0x900000 ≤ CTX_CFG n ∧ CTX_CFG n < 0x940000 := by unfold CTX_CFG; omega
  refine actsAs_of_block ht (by omega) (by omega) (by unfold PWR_CMD; omega) ?_
  show execCtxValidWrite n v s = _
  rw [execCtxValidWrite, reply_of_not (by omega), hostWrite_of_takes ht, blockWrite_ctx (by omega) (by omega)]
  simp [State.writeCtx, hoff, hr.2]

/-! ## The HBM controllers -/

/-- The controllers are on where the register that retires is clocked and they are enabled. -/
theorem dmcOn_of_takes (ht : s.takes DMC_RETIRE) : s.dmcOn = s.flag DMC_CTRL_Enable := by
  obtain ⟨-, -, hon⟩ := ht
  have e : s.clockOn DMC_RETIRE = (s.fastClk && !s.dmc.asleep) := rfl
  rw [State.dmcOn, Bool.and_assoc, ← e, hon, Bool.and_true]

/-- A word that retires pseudo-channel p, at once (k = 1) or as planned (k = 0). -/
theorem retireCmd_of {p k : Nat} (hp : p < 192) (hgo : DMC_RETIRE_Go.of v = 1) (hpc : DMC_RETIRE_Pc.of v = p)
    (hk : DMC_RETIRE_Sudden.of v = k) : s.retireCmd v = if s.flag DMC_CTRL_Enable && s.pcMapped p then
      (if k = 1 then s.retireSudden p else s.retirePlanned p) else s := by
  simp [State.retireCmd, hgo, hpc, hk, hp]

theorem blockWrite_retire : s.blockWrite i DMC_RETIRE v = s.retireCmd v := by
  rw [blockWrite_dmc (by decide) (by decide), State.writeDmc, if_neg (by decide), if_pos rfl]

theorem retirePc_of {p : Nat} {w : BitVec 32} (hp : p < 192) (h : DMC_RETIRE_Pc.of w = DMC_RETIRE_Pc.of (DMC_RETIRE_Pc.into 0 p)) :
    DMC_RETIRE_Pc.of w = p := by
  rw [h, of_into (by decide)]
  exact Nat.mod_eq_of_lt (by show p < 256; omega)

theorem actsAs_retirePlanned {p : Nat} (hp : p < 192) (ht : s.takes DMC_RETIRE) :
    s.actsAs DMC_RETIRE (DMC_RETIRE_Go.into (DMC_RETIRE_Pc.into 0 p) 1) (.retirePlanned p) := by
  have hk : DMC_RETIRE_Sudden.of (DMC_RETIRE_Go.into (DMC_RETIRE_Pc.into 0 p) 1) = 0 := by
    rw [of_into_ne (by decide), of_into_ne (by decide)]
    rfl
  refine actsAs_of_block ht (by decide) (by decide) (by decide) ?_
  show execRetirePlanned p s = _
  rw [execRetirePlanned, reply_of_not (by omega), blockWrite_retire,
    retireCmd_of hp (of_into (by decide)) (retirePc_of hp (of_into_ne (by decide))) hk, dmcOn_of_takes ht]
  rfl

theorem actsAs_retireSudden {p : Nat} (hp : p < 192) (ht : s.takes DMC_RETIRE) :
    s.actsAs DMC_RETIRE (DMC_RETIRE_Go.into (DMC_RETIRE_Sudden.into (DMC_RETIRE_Pc.into 0 p) 1) 1) (.retireSudden p) := by
  have hk : DMC_RETIRE_Sudden.of (DMC_RETIRE_Go.into (DMC_RETIRE_Sudden.into (DMC_RETIRE_Pc.into 0 p) 1) 1) = 1 := by
    rw [of_into_ne (by decide), of_into (by decide)]
    rfl
  have hpc : DMC_RETIRE_Pc.of (DMC_RETIRE_Go.into (DMC_RETIRE_Sudden.into (DMC_RETIRE_Pc.into 0 p) 1) 1) = p :=
    retirePc_of hp (by rw [of_into_ne (by decide), of_into_ne (by decide)])
  refine actsAs_of_block ht (by decide) (by decide) (by decide) ?_
  show execRetireSudden p s = _
  rw [execRetireSudden, reply_of_not (by omega), blockWrite_retire, retireCmd_of hp (of_into (by decide)) hpc hk, dmcOn_of_takes ht]
  rfl

/-! ## Counters and accounts -/

/-- A command of the word PMC_CMD. -/
theorem actsAs_pmcCmd {f : State → State} (ht : s.takes PMC_CMD) (hx : exec c s = .next (s.hostWrite PMC_CMD f))
    (hf : s.pmcCmd v = f s) : s.actsAs PMC_CMD v c := by
  refine actsAs_of_block ht (by decide) (by decide) (by decide) ?_
  rw [hx, hostWrite_of_takes ht, blockWrite_pmc (by decide) (by decide), State.writePmc, if_pos rfl, hf]

theorem pmcCmd_snap : s.pmcCmd (PMC_CMD_Snap.into 0 1) = s.pmcSnap none := by
  simp [State.pmcCmd, State.when, PMC_CMD_Snap, PMC_CMD_Thaw, PMC_CMD_Freeze, Fld.of, Fld.into, Fld.mask]

theorem pmcCmd_freeze : s.pmcCmd (PMC_CMD_Freeze.into 0 1) = s.pmcFreeze none := by
  simp [State.pmcCmd, State.when, PMC_CMD_Snap, PMC_CMD_Thaw, PMC_CMD_Freeze, Fld.of, Fld.into, Fld.mask]

theorem pmcCmd_thaw : s.pmcCmd (PMC_CMD_Thaw.into 0 1) = s.pmcThaw := by
  simp [State.pmcCmd, State.when, PMC_CMD_Snap, PMC_CMD_Thaw, PMC_CMD_Freeze, Fld.of, Fld.into, Fld.mask]

theorem actsAs_pipConfigWrite (h : isPipConfig (a / 4 * 4) = true) (ht : s.takes (a / 4 * 4)) :
    s.actsAs (a / 4 * 4) v (.pipConfigWrite a v) := by
  obtain ⟨hlo, hhi, hc⟩ := isPipConfig_range h
  unfold PMC_PIPCFG PMC_PIPMASK_HI at *
  refine actsAs_of_block ht (by omega) (by omega) (by unfold PWR_CMD; omega) ?_
  show execPipConfigWrite a v s = _
  rw [execPipConfigWrite, reply_of_not (by simp [h]), hostWrite_of_takes ht, blockWrite_pmc (by omega) (by omega), State.writePmc,
    if_neg hc, if_pos h]

theorem blockWrite_erlCmd : s.blockWrite i ERL_CMD v =
    (s.when (decide (ERL_CMD_ClearLps.of v = 1)) State.clearLps).when (decide (ERL_CMD_ClearFab.of v = 1)) State.clearFab := by
  rw [blockWrite_erl (by decide) (by decide), State.writeErl, if_pos rfl]

theorem actsAs_clearLps (ht : s.takes ERL_CMD) : s.actsAs ERL_CMD (ERL_CMD_ClearLps.into 0 1) .clearLps := by
  refine actsAs_of_block ht (by decide) (by decide) (by decide) ?_
  show execClearLps s = _
  rw [execClearLps, ht.1, blockWrite_erlCmd]
  simp [State.when, ERL_CMD_ClearLps, ERL_CMD_ClearFab, Fld.of, Fld.into, Fld.mask]

theorem actsAs_clearFab (ht : s.takes ERL_CMD) : s.actsAs ERL_CMD (ERL_CMD_ClearFab.into 0 1) .clearFab := by
  refine actsAs_of_block ht (by decide) (by decide) (by decide) ?_
  show execClearFab s = _
  rw [execClearFab, ht.1, blockWrite_erlCmd]
  simp [State.when, ERL_CMD_ClearLps, ERL_CMD_ClearFab, Fld.of, Fld.into, Fld.mask]

/-! ## The image loader and the power unit -/

/-- A command of the word IMG_CMD. -/
theorem actsAs_imgCmd (ht : s.takes IMG_CMD) (hx : exec c s = .next (if s.awake then u else s)) (hf : s.imgCmd v = u) :
    s.actsAs IMG_CMD v c := by
  refine actsAs_of_write ht (by decide) (by decide) ?_
  rw [hx, ht.1, if_pos rfl, State.writeAny, regOff_of_on ht.2.2, if_neg Bool.false_ne_true, if_pos rfl, hf]

theorem imgCmd_load : s.imgCmd (IMG_CMD_Op.into 0 1) = s.startStream false := by
  simp [State.imgCmd, IMG_CMD_Op, Fld.of, Fld.into, Fld.mask]

theorem imgCmd_stage : s.imgCmd (IMG_CMD_Op.into 0 2) = s.startStream true := by
  simp [State.imgCmd, IMG_CMD_Op, Fld.of, Fld.into, Fld.mask]

theorem imgCmd_abort : s.imgCmd (IMG_CMD_Op.into 0 4) = s.imgAbort := by
  simp [State.imgCmd, IMG_CMD_Op, Fld.of, Fld.into, Fld.mask]

theorem imgCmd_sproutRom : s.imgCmd (IMG_CMD_Op.into (IMG_CMD_FromRom.into 0 1) 5) = s.sproutRom := by
  simp [State.imgCmd, IMG_CMD_Op, IMG_CMD_FromRom, Fld.of, Fld.into, Fld.mask]

theorem imgCmd_sproutApplied : s.imgCmd (IMG_CMD_Op.into 0 5) = s.sproutApplied := by
  simp [State.imgCmd, IMG_CMD_Op, IMG_CMD_FromRom, Fld.of, Fld.into, Fld.mask]

theorem imgCmd_reload {restart : Bool} {mask : Nat} (hm : mask < 1024) : s.imgCmd (IMG_CMD_Op.into
    (IMG_CMD_Restart.into (IMG_CMD_SectionMask.into 0 mask) (if restart then 1 else 0)) 3) = s.reloadStart restart mask := by
  generalize hw : IMG_CMD_Op.into (IMG_CMD_Restart.into (IMG_CMD_SectionMask.into 0 mask) (if restart then 1 else 0)) 3 = w
  have hop : IMG_CMD_Op.of w = 3 := by
    rw [← hw, of_into (by decide)]
    rfl
  have hre : IMG_CMD_Restart.of w = if restart then 1 else 0 := by
    rw [← hw, of_into_ne (by decide), of_into (by decide)]
    cases restart <;> rfl
  have hmask : IMG_CMD_SectionMask.of w = mask := by
    rw [← hw, of_into_ne (by decide), of_into_ne (by decide), of_into (by decide)]
    exact Nat.mod_eq_of_lt hm
  unfold State.imgCmd
  rw [hop]
  simp only [hre, hmask]
  cases restart <;> rfl

theorem actsAs_imgWinWrite (ht : s.takes (IMG_WIN 0)) : s.actsAs (IMG_WIN 0) v (.imgWinWrite v) := by
  have hheld : s.hbmHeld = false := by
    have h := ht.2.1
    simp only [State.regHeld, Bool.or_eq_false_iff, Bool.and_eq_false_iff] at h
    obtain ⟨⟨-, hw | hb⟩, -⟩ := h
    · exact absurd hw.2 (by decide)
    · exact hb
  refine actsAs_of_write ht (by decide) (by decide) ?_
  show execImgWinWrite v s = _
  rw [execImgWinWrite, ht.1, hheld, if_pos (show (true && !false) = true from rfl), State.writeAny,
    regOff_of_on ht.2.2, if_neg Bool.false_ne_true,
    if_neg (by decide), if_pos (by decide)]

/-- A command of the word PWR_CMD. -/
theorem actsAs_pwrCmd {k : Nat} (ht : s.takes PWR_CMD) (hx : exec c s = .next (if s.awake then s.pwrCmd k else s)) (hk : k < 8) :
    s.actsAs PWR_CMD (PWR_CMD_Target.into 0 k) c := by
  have hof : PWR_CMD_Target.of (PWR_CMD_Target.into 0 k) = k := by
    rw [of_into (by decide)]
    exact Nat.mod_eq_of_lt hk
  refine actsAs_of_write ht (by decide) (by decide) ?_
  rw [hx, ht.1, if_pos rfl, State.writeAny, regOff_of_on ht.2.2, if_neg Bool.false_ne_true, if_neg (by decide), if_neg (by decide),
    if_pos rfl, hof]

/-- The write of a command word acts as its command. -/
theorem actsAs_commandWord (hw : c.wf = true) (hc : commandWord c = some (a, v)) (ht : s.takes a) : s.actsAs a v c := by
  cases c
  case setTime => cases hc; exact actsAs_tmbCmd ht rfl tmbCmd_setTime
  case realign => cases hc; exact actsAs_tmbCmd ht rfl tmbCmd_realign
  case clearWtr mask => cases hc; exact actsAs_tmbCmd (f := fun s => s.clearWtr mask) ht rfl tmbCmd_clearWtr
  case incrementCommit b w => cases hc; exact actsAs_incrementCommit (by simpa [Instr.wf] using hw) ht
  case calendarCapture => cases hc; exact actsAs_calendarCapture ht
  case schInsert w => cases hc; exact actsAs_schInsert ht
  case schCancel w => cases hc; exact actsAs_schCancel ht
  case laneRestart l => cases hc; exact actsAs_lnCmd (f := fun s => s.laneRestart l) (of_decide_eq_true hw) ht rfl laneCmd_restart
  case laneWarmTrain l => cases hc; exact actsAs_lnCmd (f := fun s => s.laneWarm l) (of_decide_eq_true hw) ht rfl laneCmd_warm
  case swapNow l => cases hc; exact actsAs_lnCmd (f := fun s => s.swapNow l) (of_decide_eq_true hw) ht rfl laneCmd_swapNow
  case releaseCommand l => cases hc; exact actsAs_lnCmd (f := fun s => s.laneRelease l) (of_decide_eq_true hw) ht rfl laneCmd_release
  case mreadRequest w => cases hc; exact actsAs_mreadRequest ht
  case gainSwapArm e w => cases hc; exact actsAs_gainSwapArm (of_decide_eq_true hw) ht
  case fchGdataWrite e w => cases hc; exact actsAs_fchGdataWrite (of_decide_eq_true hw) ht
  case steerRequest p col =>
    cases hc
    obtain ⟨hp, hcol⟩ := (Bool.and_eq_true ..).mp hw
    exact actsAs_steerRequest (of_decide_eq_true hp) (of_decide_eq_true hcol) ht
  case ctxValidWrite n w => cases hc; exact actsAs_ctxValidWrite (of_decide_eq_true hw) ht
  case retirePlanned p => cases hc; exact actsAs_retirePlanned (of_decide_eq_true hw) ht
  case retireSudden p => cases hc; exact actsAs_retireSudden (of_decide_eq_true hw) ht
  case pmcSnap => cases hc; exact actsAs_pmcCmd (f := fun s => s.pmcSnap none) ht rfl pmcCmd_snap
  case pmcFreeze => cases hc; exact actsAs_pmcCmd (f := fun s => s.pmcFreeze none) ht rfl pmcCmd_freeze
  case pmcThaw => cases hc; exact actsAs_pmcCmd ht rfl pmcCmd_thaw
  case pipConfigWrite b w => cases hc; exact actsAs_pipConfigWrite hw ht
  case clearLps => cases hc; exact actsAs_clearLps ht
  case clearFab => cases hc; exact actsAs_clearFab ht
  case imgLoad => cases hc; exact actsAs_imgCmd ht rfl imgCmd_load
  case imgStage => cases hc; exact actsAs_imgCmd ht rfl imgCmd_stage
  case imgReload restart mask =>
    cases hc
    have hm : mask < 1024 := of_decide_eq_true hw
    refine actsAs_imgCmd ht ?_ (imgCmd_reload hm)
    show execImgReload restart mask s = _
    rw [execImgReload, reply_of_not (by omega)]
  case imgAbort => cases hc; exact actsAs_imgCmd ht rfl imgCmd_abort
  case imgSproutRom => cases hc; exact actsAs_imgCmd ht rfl imgCmd_sproutRom
  case imgSproutApplied => cases hc; exact actsAs_imgCmd ht rfl imgCmd_sproutApplied
  case imgWinWrite w => cases hc; exact actsAs_imgWinWrite ht
  case pwrStandby => cases hc; exact actsAs_pwrCmd ht rfl (by decide)
  case pwrRetain => cases hc; exact actsAs_pwrCmd ht rfl (by decide)
  case pwrReady => cases hc; exact actsAs_pwrCmd ht rfl (by decide)
  case pwrRun => cases hc; exact actsAs_pwrCmd ht rfl (by decide)
  all_goals cases hc

end Sys2Proof.Machine
end

section
/-! Proofs about register writes, put together (R13 to R16, R65, R149, R191). -/

namespace Sys2Proof.Machine
open Sys2Proof

variable {s : State} {v : BitVec 32}

/-! ## START and STOP by the contexts' command register (R149) -/

theorem writeCtx_cmd {i : Nat} : s.writeCtx i CTX_CMD v = s.ctxCmd v := by
  rw [State.writeCtx, if_neg (by decide), if_pos rfl]

theorem ctxCmdWrite_of (ht : s.takes CTX_CMD) :
    exec (.registerWrite CTX_CMD v) s = .next ((s.ctxCmd v).goldenFollow CTX_CMD v) := by
  rw [registerWrite_of (by decide) (by decide) ht.1 ht.2.1, writeAny_of_lt ht.2.2 (by decide) (by decide),
    blockWrite_ctx (by decide) (by decide), writeCtx_cmd]

/-- A START or STOP waits for the command unit, or sets Overrun where one waits already. -/
theorem ctxCmd_of {op : Nat} (ho : CTX_CMD_Op.of v = op) (h : op = 1 ∨ op = 2) : s.ctxCmd v =
    if s.flag CTX_CSTAT_Busy then s.fset CTX_CSTAT_Overrun 1 else { s.fset CTX_CSTAT_Busy 1 with
      ctxs := { s.ctxs with queue := s.ctxs.queue ++ [⟨false, decide (op = 1), CTX_CMD_Context.of v⟩] } } := by
  have hop : ¬ (op ≠ 1 ∧ op ≠ 2) := by omega
  simp only [State.ctxCmd, ho, if_neg hop]
  rfl

/-- A write of START or STOP for context n. -/
theorem ctxCmdWrites (s : State) (n : Nat) (v : Word) (start : Bool) (hn : n < 4096) (ht : s.takes CTX_CMD)
    (hv : v = CTX_CMD_Op.into (CTX_CMD_Context.into 0 n) (if start then 1 else 2)) :
    (s.flag CTX_CSTAT_Busy = true → gives (.registerWrite CTX_CMD v) s fun t =>
      t.flag CTX_CSTAT_Overrun = true ∧ t.ctxs = s.ctxs ∧ regsBut s t [CTX_CSTAT]) ∧
    (s.flag CTX_CSTAT_Busy = false → gives (.registerWrite CTX_CMD v) s fun t =>
      t.flag CTX_CSTAT_Busy = true ∧ t.ctxs.queue = s.ctxs.queue ++ [⟨false, start, n⟩] ∧ regsBut s t [CTX_CSTAT]) := by
  have hop : CTX_CMD_Op.of v = if start then 1 else 2 := by
    rw [hv, of_into (by decide)]
    cases start <;> rfl
  have hctx : CTX_CMD_Context.of v = n := by
    rw [hv, of_into_ne (by decide), of_into (by decide)]
    exact Nat.mod_eq_of_lt hn
  have hstart : decide ((if start then 1 else 2) = 1) = start := by cases start <;> rfl
  have hcmd := ctxCmd_of (s := s) hop (by cases start <;> simp)
  rw [hctx, hstart] at hcmd
  constructor
  · intro hb
    rw [hb, if_pos rfl] at hcmd
    refine gives_of (ctxCmdWrite_of ht) ⟨?_, ?_, fun b hb' => ?_⟩
    · rw [State.flag, fget_of_reg (reg_of_regs goldenFollow_regs), hcmd, fget_fset (by decide)]
      rfl
    · rw [goldenFollow_ctxs, hcmd, fset_ctxs]
    · rw [reg_of_regs goldenFollow_regs, hcmd, reg_fset_ne (List.ne_of_not_mem_cons hb')]
  · intro hb
    rw [hb, if_neg Bool.false_ne_true] at hcmd
    refine gives_of (ctxCmdWrite_of ht) ⟨?_, ?_, fun b hb' => ?_⟩
    · rw [State.flag, fget_of_reg (reg_of_regs goldenFollow_regs), hcmd]
      exact flag_fset (f := CTX_CSTAT_Busy) (v := 1) (by decide)
    · rw [goldenFollow_ctxs, hcmd]
    · rw [reg_of_regs goldenFollow_regs, hcmd]
      exact reg_fset_ne (f := CTX_CSTAT_Busy) (List.ne_of_not_mem_cons hb')

/-- Settles O47, by the kind of the word: plain, of a table, with an enable, a command's, one that its unit acts on. -/
theorem registerWrites : Obligations.RegisterWrites := by
  unfold Obligations.RegisterWrites
  refine ⟨?plain, ?table, ?enable, ?command, ?unit⟩
  case plain =>
    intro s a i v ws w r ix c ht hp hr hi hc
    obtain ⟨t, hx, ⟨hf, hfree, hlock⟩, hposted⟩ := plainWrite_of hp ht hr hi hc
    exact ⟨fun f hm => gives_of hx (hf f hm), fun ho => gives_of hx (hfree ho), fun ho hl => gives_of hx (hlock ho hl),
      fun e => gives_of hx (hposted e)⟩
  case table =>
    intro s a v r ix ht hr
    constructor
    · intro ho
      obtain ⟨t, hx, hopen, -⟩ := tableWrite_of ht hr ho
      exact gives_of hx (hopen rfl)
    · intro ho
      obtain ⟨t, hx, -, hlock⟩ := tableWrite_of ht hr ho
      exact gives_of hx (hlock rfl)
  case enable =>
    intro s a v r ix e ht hr he hv
    obtain ⟨t, hx, hf, hfree, hlock⟩ := enableWrite_of ht hr he hv
    exact ⟨fun f hm => gives_of hx (hf f hm), fun ho => gives_of hx (hfree ho).1, fun ho hl => gives_of hx (hlock ho hl)⟩
  case command =>
    intro s a n v c start
    exact ⟨actsAs_commandWord, ctxCmdWrites s n v start⟩
  case unit =>
    intro s a p v r ix ht hr
    refine ⟨fun hu f hf => unitWrite_of ht hr hu hf, fun hp ha => ?_, heldWrite_of ht hr⟩
    subst ha
    exact podEntry_of hp ht hr

end Sys2Proof.Machine
end

section
/-! Proofs about the SYNC event (R33, R57, R87): every engine's anchor, and what reaches the Hull. -/

namespace Sys2Proof.Machine
open Sys2Proof

variable {s t : State} {d e p : Nat}

/-! ## Operations over a list -/

/-- What holds at first and every step keeps holds after the fold. -/
theorem each_invariant {α : Type} {l : List α} {f : State → α → State} {I : State → Prop}
    (hI : ∀ t, ∀ y ∈ l, I t → I (f t y)) (h : I s) : I (s.each l f) := by
  induction l generalizing s with
  | nil => exact h
  | cons y l ih => exact ih (fun t z hz => hI t z (List.mem_cons_of_mem y hz)) (hI s y List.mem_cons_self h)

/-- What the step of x brings about under an invariant, and the steps of the others keep, holds after the fold. -/
theorem each_of_mem {α : Type} {l : List α} {f : State → α → State} {I Q : State → Prop} {x : α} (hx : x ∈ l)
    (hI : ∀ t, ∀ y ∈ l, I t → I (f t y)) (hset : ∀ t, I t → Q (f t x))
    (hkeep : ∀ t, ∀ y ∈ l, y ≠ x → Q t → Q (f t y)) (h : I s) : Q (s.each l f) := by
  have hboth : ∀ t, ∀ y ∈ l, I t ∧ Q t → I (f t y) ∧ Q (f t y) := fun t y hy ht => by
    refine ⟨hI t y hy ht.1, ?_⟩
    by_cases hyx : y = x
    · exact hyx ▸ hset t ht.1
    · exact hkeep t y hy hyx ht.2
  obtain ⟨l₁, l₂, rfl⟩ := List.append_of_mem hx
  have hfirst : I (s.each l₁ f) := each_invariant (fun t y hy => hI t y (List.mem_append_left _ hy)) h
  have hstep : I (f (s.each l₁ f) x) ∧ Q (f (s.each l₁ f) x) := ⟨hI _ x hx hfirst, hset _ hfirst⟩
  have hrest := each_invariant (I := fun t => I t ∧ Q t)
    (fun t y hy => hboth t y (List.mem_append_right _ (List.mem_cons_of_mem x hy))) hstep
  rw [State.each, List.foldl_append]
  exact hrest.2

/-! ## Two-word values and slots -/

/-- A value below 2^64 reads back from its two words. -/
theorem get2_set2 {lo hi v : Nat} (hne : lo ≠ hi) (hv : v < 2 ^ 64) : (s.set2 lo hi v).get2 lo hi = v := by
  rw [State.get2, State.set2, reg_setReg_self, reg_setReg_ne hne, reg_setReg_self, BitVec.toNat_ofNat, BitVec.toNat_ofNat]
  omega

theorem reg_set2_ne {a lo hi v : Nat} (hl : a ≠ lo) (hh : a ≠ hi) : (s.set2 lo hi v).reg a = s.reg a := by
  rw [State.set2, reg_setReg_ne hh, reg_setReg_ne hl]

theorem flag_of_fget {f : Fld} (h : t.fget f = s.fget f) : t.flag f = s.flag f := by rw [State.flag, State.flag, h]

theorem slot_of_fch (h : t.fch.slot = s.fch.slot) : t.slot e p = s.slot e p := by rw [State.slot, State.slot, h]

/-! ## What one engine's part of the event reads -/

/-- The registers of engine e that the SYNC event goes by read in t as in s: its enables and its next anchor index. -/
structure State.keepsSetup (s t : State) (e : Nat) : Prop where
  enable : t.flag (FCH_CTRL_Enable e) = s.flag (FCH_CTRL_Enable e)
  slotWord : ∀ p < 16, t.reg (FCH_PSRC e p) = s.reg (FCH_PSRC e p)
  nextLow : t.reg (FCH_SYNCNEXT_LO e) = s.reg (FCH_SYNCNEXT_LO e)
  nextHigh : t.reg (FCH_SYNCNEXT_HI e) = s.reg (FCH_SYNCNEXT_HI e)

theorem State.keepsSetup.trans {u : State} (h : s.keepsSetup t e) (g : t.keepsSetup u e) : s.keepsSetup u e where
  enable := g.enable.trans h.enable
  slotWord p hp := (g.slotWord p hp).trans (h.slotWord p hp)
  nextLow := g.nextLow.trans h.nextLow
  nextHigh := g.nextHigh.trans h.nextHigh

/-- The address is that of no engine's status and of no engine's anchor index. -/
def offAnchor (a : Nat) : Prop := ∀ d, a ≠ FCH_STATUS d ∧ a ≠ FCH_SYNCIDX_LO d ∧ a ≠ FCH_SYNCIDX_HI d

/-- Only those words and the counters, which lie above the units' blocks, may differ. -/
theorem keepsSetup_of_reg (h : ∀ a, offAnchor a → a < 0xC00000 → t.reg a = s.reg a) (he : e < 16) : s.keepsSetup t e where
  enable := flag_of_fget (fget_of_reg (h (FCH_CTRL e) (by unfold offAnchor FCH_CTRL FCH_STATUS FCH_SYNCIDX_LO FCH_SYNCIDX_HI; omega)
    (by unfold FCH_CTRL; omega)))
  slotWord p hp := h _ (by unfold offAnchor FCH_PSRC FCH_STATUS FCH_SYNCIDX_LO FCH_SYNCIDX_HI; omega) (by unfold FCH_PSRC; omega)
  nextLow := h _ (by unfold offAnchor FCH_SYNCNEXT_LO FCH_STATUS FCH_SYNCIDX_LO FCH_SYNCIDX_HI; omega)
    (by unfold FCH_SYNCNEXT_LO; omega)
  nextHigh := h _ (by unfold offAnchor FCH_SYNCNEXT_HI FCH_STATUS FCH_SYNCIDX_LO FCH_SYNCIDX_HI; omega)
    (by unfold FCH_SYNCNEXT_HI; omega)

theorem State.keepsSetup.slotOn (h : s.keepsSetup t e) (hp : p < 16) : t.slotOn e p = s.slotOn e p := by
  rw [State.slotOn, State.slotOn, h.enable, flag_of_fget (f := FCH_PSRC_Enable e p) (fget_of_reg (h.slotWord p hp))]

theorem State.keepsSetup.next (h : s.keepsSetup t e) :
    t.get2 (FCH_SYNCNEXT_LO e) (FCH_SYNCNEXT_HI e) = s.get2 (FCH_SYNCNEXT_LO e) (FCH_SYNCNEXT_HI e) := by
  rw [State.get2, State.get2, h.nextLow, h.nextHigh]

/-! ## One engine takes its anchor (R57) -/

/-- A slot that waits for its anchor, its chain empty. -/
def SlotSt.waiting : SlotSt := { SlotSt.idle with phase := 2 }

/-- The step of one slot: it waits where it runs. -/
def State.slotWait (s : State) (e p : Nat) : State := if s.slotOn e p then s.setSlot e p SlotSt.waiting else s

theorem slotWait_regs : (s.slotWait e p).regs = s.regs := by
  unfold State.slotWait
  split <;> rfl

theorem slotWait_hull : (s.slotWait e p).hull = s.hull := by
  unfold State.slotWait
  split <;> rfl

theorem slotWait_slotOn {q : Nat} : (s.slotWait d q).slotOn e p = s.slotOn e p := by
  unfold State.slotWait
  split <;> rfl

theorem slotWait_slot (h : s.slotOn e p = true) : (s.slotWait e p).slot e p = SlotSt.waiting := by
  rw [State.slotWait, if_pos h, setSlot_slot]

theorem slotWait_slot_ne {q : Nat} (hq : q < 16) (hp : p < 16) (h : e ≠ d ∨ p ≠ q) :
    (s.slotWait d q).slot e p = s.slot e p := by
  unfold State.slotWait
  split
  · exact setSlot_slot_ne hq hp h
  · rfl

/-- The registers of engine e with the anchor index it takes. -/
def State.anchorRegs (s : State) (e : Nat) : State :=
  (s.set2 (FCH_SYNCIDX_LO e) (FCH_SYNCIDX_HI e) (s.get2 (FCH_SYNCNEXT_LO e) (FCH_SYNCNEXT_HI e) % 2 ^ 48)).fset
    (FCH_STATUS_Anchored e) 1

/-- An engine writes its anchor, then its slots take their turns. -/
theorem engineSync_eq_each (s : State) (e : Nat) : ∃ u : State,
    s.engineSync e = u.each (List.range 16) (fun u p => u.slotWait e p) ∧ u.regs = (s.anchorRegs e).regs ∧
    u.hull = s.hull ∧ u.fch.slot = s.fch.slot :=
  ⟨_, rfl, rfl, rfl, rfl⟩

theorem engineSync_regs : (s.engineSync e).regs = (s.anchorRegs e).regs := by
  obtain ⟨u, heq, hregs, -⟩ := engineSync_eq_each s e
  rw [heq, each_keeps State.regs fun _ _ => slotWait_regs, hregs]

theorem engineSync_hull : (s.engineSync e).hull = s.hull := by
  obtain ⟨u, heq, -, hhull, -⟩ := engineSync_eq_each s e
  rw [heq, each_keeps State.hull fun _ _ => slotWait_hull, hhull]

theorem reg_engineSync_ne {a : Nat} (hs : a ≠ FCH_STATUS e) (hl : a ≠ FCH_SYNCIDX_LO e) (hh : a ≠ FCH_SYNCIDX_HI e) :
    (s.engineSync e).reg a = s.reg a := by
  rw [reg_of_regs engineSync_regs, State.anchorRegs, reg_fset_ne hs, reg_set2_ne hl hh]

theorem engineSync_keepsSetup (he : e < 16) : s.keepsSetup (s.engineSync d) e :=
  keepsSetup_of_reg (fun _ ha _ => reg_engineSync_ne (ha d).1 (ha d).2.1 (ha d).2.2) he

theorem engineSync_anchored : (s.engineSync e).fget (FCH_STATUS_Anchored e) = 1 := by
  rw [fget_of_reg (reg_of_regs engineSync_regs)]
  exact fget_fset (Nat.le_add_left 1 31)

theorem engineSync_fchS : (s.engineSync e).fchS e = s.get2 (FCH_SYNCNEXT_LO e) (FCH_SYNCNEXT_HI e) % 2 ^ 48 := by
  have hlow : FCH_SYNCIDX_LO e ≠ FCH_STATUS e := by unfold FCH_SYNCIDX_LO FCH_STATUS; omega
  have hhigh : FCH_SYNCIDX_HI e ≠ FCH_STATUS e := by unfold FCH_SYNCIDX_HI FCH_STATUS; omega
  have hne : FCH_SYNCIDX_LO e ≠ FCH_SYNCIDX_HI e := by unfold FCH_SYNCIDX_LO FCH_SYNCIDX_HI; omega
  rw [State.fchS, State.get2, reg_of_regs engineSync_regs, reg_of_regs engineSync_regs, State.anchorRegs,
    reg_fset_ne (f := FCH_STATUS_Anchored e) hlow, reg_fset_ne (f := FCH_STATUS_Anchored e) hhigh, ← State.get2,
    get2_set2 hne (by omega), Nat.mod_mod]

/-- A running slot of the engine waits for the anchor. -/
theorem engineSync_slot (he : e < 16) (hp : p < 16) (hon : s.slotOn e p = true) : (s.engineSync e).slot e p = SlotSt.waiting := by
  have hend := ((engineSync_keepsSetup (s := s) (d := e) he).slotOn hp).trans hon
  obtain ⟨u, heq, -⟩ := engineSync_eq_each s e
  rw [heq] at hend ⊢
  rw [each_keeps (fun t => t.slotOn e p) fun _ _ => slotWait_slotOn] at hend
  exact each_of_mem (I := fun t => t.slotOn e p = true) (Q := fun t => t.slot e p = SlotSt.waiting) (List.mem_range.mpr hp)
    (fun t q _ ht => slotWait_slotOn.trans ht) (fun t ht => slotWait_slot ht)
    (fun t q hq hne ht => (slotWait_slot_ne (List.mem_range.mp hq) hp (.inr hne.symm)).trans ht) hend

/-- Another engine's slots stay. -/
theorem engineSync_slot_ne (hp : p < 16) (h : e ≠ d) : (s.engineSync d).slot e p = s.slot e p := by
  obtain ⟨u, heq, -, -, hslot⟩ := engineSync_eq_each s d
  rw [heq, ← slot_of_fch hslot]
  exact each_invariant (I := fun t => t.slot e p = u.slot e p)
    (fun t q hq ht => (slotWait_slot_ne (List.mem_range.mp hq) hp (.inl h)).trans ht) rfl

/-- In t engine e has taken the anchor index that stood next in s, and the slots that run in s wait for it. -/
structure State.anchoredBy (s t : State) (e : Nat) : Prop where
  anchored : t.fget (FCH_STATUS_Anchored e) = 1
  index : t.fchS e = s.get2 (FCH_SYNCNEXT_LO e) (FCH_SYNCNEXT_HI e) % 2 ^ 48
  waits : ∀ p < 16, s.slotOn e p = true → t.slot e p = SlotSt.waiting

theorem State.keepsSetup.anchors (h : s.keepsSetup t e) (he : e < 16) : s.anchoredBy (t.engineSync e) e where
  anchored := engineSync_anchored
  index := by rw [engineSync_fchS, h.next]
  waits p hp hon := engineSync_slot he hp ((h.slotOn hp).trans hon)

/-- Another engine's anchor leaves what an engine has. -/
theorem State.anchoredBy.engineSync (h : s.anchoredBy t e) (hne : e ≠ d) : s.anchoredBy (t.engineSync d) e where
  anchored := by
    have hreg : (t.engineSync d).reg (FCH_STATUS e) = t.reg (FCH_STATUS e) := by
      apply reg_engineSync_ne <;> simp only [FCH_STATUS, FCH_SYNCIDX_LO, FCH_SYNCIDX_HI] <;> omega
    exact (fget_of_reg (f := FCH_STATUS_Anchored e) hreg).trans h.anchored
  index := by
    rw [← h.index, State.fchS, State.get2, reg_engineSync_ne, reg_engineSync_ne, ← State.get2, ← State.fchS]
    all_goals simp only [FCH_STATUS, FCH_SYNCIDX_LO, FCH_SYNCIDX_HI]; omega
  waits p hp hon := (engineSync_slot_ne hp hne).trans (h.waits p hp hon)

/-! ## The banks change where a swap is armed and no slot is left to wait for (R64) -/

theorem modSlot_regs {f : SlotSt → SlotSt} : (s.modSlot e p f).regs = s.regs := rfl

theorem reg_swapCheck_ne {a : Nat} (hc : a ≠ FCH_CTRL d) (hs : a ≠ FCH_STATUS d) : (s.swapCheck d).reg a = s.reg a := by
  unfold State.swapCheck
  split
  · rw [reg_of_regs (each_keeps State.regs fun _ _ => modSlot_regs), reg_fset_ne hs, reg_fset_ne hc]
  · rfl

/-- Bit 0 of a word, Enable and Anchored among them, is not what the change of banks writes. -/
theorem fget_swapCheck {f : Fld} (h : f.lo + f.width ≤ 1) : (s.swapCheck d).fget f = s.fget f := by
  unfold State.swapCheck
  split
  · rw [fget_of_reg (reg_of_regs (each_keeps State.regs fun _ _ => modSlot_regs)), fget_fset_ne (.inr (.inl h)),
      fget_fset_ne (.inr (.inl h))]
  · rfl

theorem swapCheck_hull : (s.swapCheck d).hull = s.hull := by
  unfold State.swapCheck
  split
  · exact each_keeps State.hull fun _ _ => rfl
  · rfl

/-- A waiting slot has passed no swap, so it stays as it is. -/
theorem swapCheck_slot (hp : p < 16) (h : s.slot e p = SlotSt.waiting) : (s.swapCheck d).slot e p = SlotSt.waiting := by
  unfold State.swapCheck
  split
  · refine each_invariant (I := fun t => t.slot e p = SlotSt.waiting) (fun t q hq ht => ?_) h
    by_cases hsame : e = d ∧ p = q
    · obtain ⟨rfl, rfl⟩ := hsame
      rw [State.modSlot, setSlot_slot, ht]
      rfl
    · rw [State.modSlot, setSlot_slot_ne (List.mem_range.mp hq) hp (by omega), ht]
  · exact h

theorem swapCheck_keepsSetup : s.keepsSetup (s.swapCheck d) e where
  enable := flag_of_fget (fget_swapCheck (f := FCH_CTRL_Enable e) (Nat.le_refl 1))
  slotWord p hp := by apply reg_swapCheck_ne <;> simp only [FCH_PSRC, FCH_CTRL, FCH_STATUS] <;> omega
  nextLow := by apply reg_swapCheck_ne <;> simp only [FCH_SYNCNEXT_LO, FCH_CTRL, FCH_STATUS] <;> omega
  nextHigh := by apply reg_swapCheck_ne <;> simp only [FCH_SYNCNEXT_HI, FCH_CTRL, FCH_STATUS] <;> omega

theorem State.anchoredBy.swapCheck (h : s.anchoredBy t e) : s.anchoredBy (t.swapCheck d) e where
  anchored := (fget_swapCheck (f := FCH_STATUS_Anchored e) (Nat.le_refl 1)).trans h.anchored
  index := by
    rw [← h.index, State.fchS, State.get2, reg_swapCheck_ne, reg_swapCheck_ne, ← State.get2, ← State.fchS]
    all_goals simp only [FCH_CTRL, FCH_STATUS, FCH_SYNCIDX_LO, FCH_SYNCIDX_HI]; omega
  waits p hp hon := swapCheck_slot hp (h.waits p hp hon)

/-! ## The event in all engines -/

/-- The SYNC event in the F-engines: all anchors, then the swaps that wait for no slot. -/
def State.enginesSync (s : State) : State :=
  (s.each (List.range 16) fun s e => s.engineSync e).each (List.range 16) fun s e => s.swapCheck e

/-- What the F-engines tell the Hull: the lowest enabled one's index, or that no engine will. -/
def State.tellHull (s : State) : State :=
  match (List.range 16).find? fun e => s.flag (FCH_CTRL_Enable e) with
  | some e => { s with hull := { s.hull with tagq := s.hull.tagq ++ [(e, s.fchS e)] } }
  | none => { s.hullSync with hull := { s.hullSync.hull with tag := none, tagq := [] } }

theorem syncApply_eq : s.syncApply = s.enginesSync.tellHull := rfl

theorem enginesSync_hull : s.enginesSync.hull = s.hull :=
  (each_keeps State.hull fun _ _ => swapCheck_hull).trans (each_keeps State.hull fun _ _ => engineSync_hull)

theorem State.keepsSetup.refl (s : State) (e : Nat) : s.keepsSetup s e := ⟨rfl, fun _ _ => rfl, rfl, rfl⟩

theorem enginesSync_keepsSetup (he : e < 16) : s.keepsSetup s.enginesSync e := by
  have hanchors : s.keepsSetup (s.each (List.range 16) fun s e => s.engineSync e) e :=
    each_invariant (I := fun t => s.keepsSetup t e) (fun _ _ _ ht => ht.trans (engineSync_keepsSetup he)) (.refl s e)
  exact each_invariant (I := fun t => s.keepsSetup t e) (fun _ _ _ ht => ht.trans swapCheck_keepsSetup) hanchors

theorem enginesSync_anchoredBy (he : e < 16) : s.anchoredBy s.enginesSync e := by
  have hanchors : s.anchoredBy (s.each (List.range 16) fun s e => s.engineSync e) e :=
    each_of_mem (I := fun t => s.keepsSetup t e) (Q := fun t => s.anchoredBy t e) (List.mem_range.mpr he)
      (fun _ _ _ ht => ht.trans (engineSync_keepsSetup he)) (fun _ ht => ht.anchors he)
      (fun _ _ _ hne ht => ht.engineSync hne.symm) (.refl s e)
  exact each_invariant (I := fun t => s.anchoredBy t e) (fun _ _ _ ht => ht.swapCheck) hanchors

/-- What an engine has stands in the registers and in the F-engines' own state. -/
theorem State.anchoredBy.of_eq {u : State} (h : s.anchoredBy t e) (hr : u.regs = t.regs) (hf : u.fch = t.fch) :
    s.anchoredBy u e where
  anchored := (fget_of_reg (reg_of_regs hr)).trans h.anchored
  index := by rw [State.fchS, State.get2, reg_of_regs hr, reg_of_regs hr]; exact h.index
  waits p hp hon := (slot_of_fch (by rw [hf])).trans (h.waits p hp hon)

theorem tellHull_regs : s.tellHull.regs = s.regs := by
  unfold State.tellHull
  split <;> rfl

theorem tellHull_fch : s.tellHull.fch = s.fch := by
  unfold State.tellHull
  split <;> rfl

theorem syncApply_anchoredBy (he : e < 16) : s.anchoredBy s.syncApply e :=
  (enginesSync_anchoredBy he).of_eq tellHull_regs tellHull_fch

/-! ## What reaches the Hull (R33, R87) -/

theorem tellHull_of_none (h : ∀ e < 16, s.flag (FCH_CTRL_Enable e) = false) :
    s.tellHull.hull = { s.hullSync.hull with tag := none, tagq := [] } := by
  have hfind : (List.range 16).find? (fun e => s.flag (FCH_CTRL_Enable e)) = none :=
    List.find?_range_eq_none.mpr fun e he => by simp [h e he]
  rw [State.tellHull, hfind]

theorem tellHull_of_lowest (he : e < 16) (hon : s.flag (FCH_CTRL_Enable e) = true)
    (hlow : ∀ d < e, s.flag (FCH_CTRL_Enable d) = false) :
    s.tellHull.hull = { s.hull with tagq := s.hull.tagq ++ [(e, s.fchS e)] } := by
  have hfind : (List.range 16).find? (fun e => s.flag (FCH_CTRL_Enable e)) = some e :=
    List.find?_range_eq_some.mpr ⟨hon, List.mem_range.mpr he, fun d hd => by simp [hlow d hd]⟩
  rw [State.tellHull, hfind]

/-- With no engine enabled the Hull clears the old numbering at once. -/
theorem syncApply_hull_of_none (h : ∀ e < 16, s.flag (FCH_CTRL_Enable e) = false) :
    s.syncApply.hull = { s.enginesSync.hullSync.hull with tag := none, tagq := [] } :=
  tellHull_of_none fun e he => (enginesSync_keepsSetup he).enable.trans (h e he)

/-- The lowest enabled engine passes its index on. -/
theorem syncApply_hull_of_lowest (he : e < 16) (hon : s.flag (FCH_CTRL_Enable e) = true)
    (hlow : ∀ d < e, s.flag (FCH_CTRL_Enable d) = false) : s.syncApply.hull =
      { s.hull with tagq := s.hull.tagq ++ [(e, s.get2 (FCH_SYNCNEXT_LO e) (FCH_SYNCNEXT_HI e) % 2 ^ 48)] } := by
  rw [syncApply_eq, tellHull_of_lowest he ((enginesSync_keepsSetup he).enable.trans hon) fun d hd =>
    (enginesSync_keepsSetup (hd.trans he)).enable.trans (hlow d hd), enginesSync_hull, (enginesSync_anchoredBy he).index]

/-! ## The command -/

/-- The event is counted where no pulse under way stands for it. -/
def State.syncCounted (s : State) : State := if tget 0 s.mtx.pulse 0 = 0 then s.pmc 476 1 else s

theorem syncCounted_mtx : s.syncCounted.mtx = s.mtx := by
  unfold State.syncCounted
  split <;> rfl

theorem syncCounted_pwr : s.syncCounted.pwr = s.pwr := by
  unfold State.syncCounted
  split <;> rfl

theorem syncCounted_hull : s.syncCounted.hull = s.hull := by
  unfold State.syncCounted
  split <;> rfl

theorem reg_syncCounted {a : Nat} (ha : a < 0xC00000) : s.syncCounted.reg a = s.reg a := by
  unfold State.syncCounted
  split
  · exact reg_pmc_ne (by unfold PMC_LIVE_LO; omega) (by unfold PMC_LIVE_HI; omega)
  · rfl

theorem syncCounted_pwrState : s.syncCounted.pwrState = s.pwrState :=
  fget_of_reg (reg_syncCounted (by decide))

theorem syncCounted_fastClk : s.syncCounted.fastClk = s.fastClk := by
  have htripped : s.syncCounted.flag PWR_STATUS_Tripped = s.flag PWR_STATUS_Tripped :=
    flag_of_fget (fget_of_reg (reg_syncCounted (by decide)))
  rw [State.fastClk, syncCounted_pwrState, syncCounted_pwr, htripped, State.fastClk]

/-- Where FCLK runs and the crossing is not held the event takes effect. -/
theorem syncEvent_of (hclk : s.fastClk = true) (hpwr : 2 ≤ s.pwrState) (hheld : s.xIsHeld 10 0 = false) :
    exec .syncEvent s = .next (s.syncCounted.pulseTake 0).syncApply := by
  have hnow : (s.syncCounted.fastClk && decide (2 ≤ s.syncCounted.pwrState) && !s.syncCounted.xIsHeld 10 0) = true := by
    rw [syncCounted_fastClk, syncCounted_pwrState, State.xIsHeld, syncCounted_mtx, ← State.xIsHeld, hclk, hheld]
    simpa using hpwr
  exact congrArg Host.Outcome.next (if_pos hnow)

theorem keepsSetup_syncCounted (he : e < 16) : s.keepsSetup (s.syncCounted.pulseTake 0) e :=
  keepsSetup_of_reg (fun _ _ ha => reg_syncCounted ha) he

theorem State.keepsSetup.anchoredBy {u : State} (h : s.keepsSetup t e) (ha : t.anchoredBy u e) : s.anchoredBy u e where
  anchored := ha.anchored
  index := ha.index.trans (by rw [h.next])
  waits p hp hon := ha.waits p hp ((h.slotOn hp).trans hon)

/-- Settles O20, engine by engine; the Hull by the engines that are enabled. -/
theorem syncAnchors : Obligations.SyncAnchors := by
  unfold Obligations.SyncAnchors
  intro s hclk hpwr hheld
  refine gives_of (syncEvent_of hclk hpwr hheld) ⟨fun e he => ?_, fun hoff => ?_, fun e he hon hlow => ?_⟩
  · obtain ⟨hanchored, hindex, hwaits⟩ := (keepsSetup_syncCounted (s := s) he).anchoredBy (syncApply_anchoredBy he)
    exact ⟨hanchored, hindex, hwaits⟩
  · rw [syncApply_hull_of_none fun e he => (keepsSetup_syncCounted he).enable.trans (hoff e he)]
    exact ⟨rfl, rfl, rfl, rfl, rfl, rfl⟩
  · have hhull : (s.syncCounted.pulseTake 0).hull = s.hull := syncCounted_hull
    rw [syncApply_hull_of_lowest he ((keepsSetup_syncCounted he).enable.trans hon) fun d hd =>
      (keepsSetup_syncCounted (hd.trans he)).enable.trans (hlow d hd), (keepsSetup_syncCounted he).next, hhull]

end Sys2Proof.Machine
end

section
/-! SUPPORT. Registers and the state of the F-engines behind an enable and a pop: the golden copy that follows an enable, and what the
registers tell of the slots. -/

namespace Sys2Proof.Machine

variable {s t : State} {f g : Fld} {d e p v : Nat}

/-! ## The golden copy behind an enable (R337) -/

theorem goldenFld_eq : s.goldenFld f v = { s with img := { s.img with golden := (s.goldenFld f v).img.golden } } := by
  unfold State.goldenFld
  split
  · split <;> rfl
  · rfl

@[simp] theorem goldenFld_regs : (s.goldenFld f v).regs = s.regs := by rw [goldenFld_eq]
@[simp] theorem goldenFld_fch : (s.goldenFld f v).fch = s.fch := by rw [goldenFld_eq]
@[simp] theorem goldenFld_hull : (s.goldenFld f v).hull = s.hull := by rw [goldenFld_eq]
@[simp] theorem reg_goldenFld {a : Nat} : (s.goldenFld f v).reg a = s.reg a := reg_of_regs goldenFld_regs
@[simp] theorem fget_goldenFld : (s.goldenFld f v).fget g = s.fget g := fget_of_reg reg_goldenFld
@[simp] theorem slot_goldenFld : (s.goldenFld f v).slot e p = s.slot e p := slot_of_fch (by rw [goldenFld_fch])

/-- A field that did not take the value: there is nothing to follow. -/
theorem goldenFld_of_ne (h : s.fget f ≠ v) : s.goldenFld f v = s := by
  unfold State.goldenFld
  split
  · rw [if_neg h]
  · rfl

theorem fget_of_flag_false (h : s.flag f = false) : s.fget f = 0 := by simpa [State.flag] using h

theorem hostEnable_of_takes {on : State → State} (h : s.takes f.addr) : s.hostEnable f on = (on s).goldenFld f 1 :=
  hostWrite_of_takes h

/-- An enable that its checks refuse leaves what the refusal tells, in another register, and no more. -/
theorem hostEnable_refused {on : State → State} (ht : s.takes f.addr) (hoff : s.flag f = false) (hon : on s = s.fset g v)
    (hne : f.addr ≠ g.addr) : s.hostEnable f on = s.fset g v := by
  have hzero : (s.fset g v).fget f = 0 := (fget_fset_addr hne).trans (fget_of_flag_false hoff)
  rw [hostEnable_of_takes ht, hon, goldenFld_of_ne (by omega)]

/-! ## One-bit fields, and a step under a condition -/

theorem flag_fset_one {f : Fld} (hw : f.width = 1) (hl : f.lo < 32) : (s.fset f 1).flag f = true := by
  rw [flag_fset (by omega), hw]
  rfl

theorem fget_fset_one {f : Fld} (hw : f.width = 1) (hl : f.lo < 32) : (s.fset f 1).fget f = 1 := by
  rw [fget_fset (by omega), hw]
  rfl

theorem fget_when_fset {c : Bool} {f g : Fld} {n : Nat}
    (h : f.addr ≠ g.addr ∨ f.lo + f.width ≤ g.lo ∨ g.lo + g.width ≤ f.lo) : (s.when c fun s => s.fset g n).fget f = s.fget f := by
  unfold State.when
  split
  · exact fget_fset_ne h
  · rfl

theorem when_fch {c : Bool} {f : State → State} (h : (f s).fch = s.fch) : (s.when c f).fch = s.fch := by
  unfold State.when
  split
  · exact h
  · rfl

/-! ## Addresses of an engine -/

theorem FCH_PSRC_ne_CTRL (hp : p < 16) : FCH_PSRC e p ≠ FCH_CTRL d := by unfold FCH_PSRC FCH_CTRL; omega
theorem FCH_PSRC_ne_STATUS : FCH_PSRC e p ≠ FCH_STATUS d := by unfold FCH_PSRC FCH_STATUS; omega
theorem FCH_CTRL_ne_STATUS : FCH_CTRL e ≠ FCH_STATUS d := by unfold FCH_CTRL FCH_STATUS; omega

/-! ## Slots -/

theorem flag_of_regs (h : t.regs = s.regs) : t.flag f = s.flag f := flag_of_fget (fget_of_reg (reg_of_regs h))

/-- A slot runs by the words of its engine's enable and its own. -/
theorem slotOn_of_reg (hc : t.reg (FCH_CTRL e) = s.reg (FCH_CTRL e)) (hp : t.reg (FCH_PSRC e p) = s.reg (FCH_PSRC e p)) :
    t.slotOn e p = s.slotOn e p := by
  rw [State.slotOn, State.slotOn, flag_of_fget (fget_of_reg (f := FCH_CTRL_Enable e) hc),
    flag_of_fget (fget_of_reg (f := FCH_PSRC_Enable e p) hp)]

theorem slotOn_of_regs (h : t.regs = s.regs) : t.slotOn e p = s.slotOn e p :=
  slotOn_of_reg (reg_of_regs h) (reg_of_regs h)

theorem slot_of_fch_eq (h : t.fch = s.fch) : t.slot e p = s.slot e p := slot_of_fch (by rw [h])

end Sys2Proof.Machine
end

section
/-! Proofs about the enables of engine, slot, Hull and stream (R47, R57, R60, R65, R80, R82). -/

namespace Sys2Proof.Machine
open Sys2Proof

variable {s t : State} {d e p st : Nat}

/-! ## A slot begins to run (R60) -/

/-- What a slot of engine e begins with: it joins where the anchor has been taken, else it is idle. -/
def State.slotFirst (s : State) (e : Nat) : SlotSt :=
  if s.flag (FCH_STATUS_Anchored e) then { SlotSt.idle with phase := 2, joining := true } else SlotSt.idle

theorem slotFirst_of_regs (h : t.regs = s.regs) : t.slotFirst e = s.slotFirst e := by
  rw [State.slotFirst, State.slotFirst, flag_of_regs h]

theorem slotActivate_of_on (h : s.slotOn e p = true) : s.slotActivate e p = s.setSlot e p (s.slotFirst e) := if_pos h

theorem slotActivate_regs : (s.slotActivate e p).regs = s.regs := by
  unfold State.slotActivate
  split <;> rfl

theorem slotActivate_slot (h : s.slotOn e p = true) : (s.slotActivate e p).slot e p = s.slotFirst e := by
  rw [slotActivate_of_on h, setSlot_slot]

theorem slotActivate_slot_ne {q : Nat} (hq : q < 16) (hp : p < 16) (h : p ≠ q) : (s.slotActivate e q).slot e p = s.slot e p := by
  unfold State.slotActivate
  split
  · exact setSlot_slot_ne hq hp (.inr h)
  · rfl

/-- All slots of an engine in turn: each that runs has begun. -/
theorem each_slotActivate_slot (hp : p < 16) (h : s.slotOn e p = true) :
    (s.each (List.range 16) fun s p => s.slotActivate e p).slot e p = s.slotFirst e :=
  each_of_mem (I := fun t => t.regs = s.regs) (Q := fun t => t.slot e p = s.slotFirst e) (List.mem_range.mpr hp)
    (fun _ _ _ ht => slotActivate_regs.trans ht)
    (fun _ ht => (slotActivate_slot ((slotOn_of_regs ht).trans h)).trans (slotFirst_of_regs ht))
    (fun _ _ hq hne ht => (slotActivate_slot_ne (List.mem_range.mp hq) hp hne.symm).trans ht) rfl

theorem each_slotActivate_regs : (s.each (List.range 16) fun s p => s.slotActivate e p).regs = s.regs :=
  each_keeps State.regs fun _ _ => slotActivate_regs

/-- The write of an enable that is not in the engine's status word leaves what a slot begins with. -/
theorem slotFirst_fset {f : Fld} {v : Nat} (h : f.addr ≠ FCH_STATUS e) : (s.fset f v).slotFirst e = s.slotFirst e := by
  rw [State.slotFirst, State.slotFirst, flag_of_fget (fget_fset_addr (f := FCH_STATUS_Anchored e) h.symm)]

/-! ## The engine's enable (R47) -/

/-- The engine is enabled, and its slots take their turns. -/
def State.fchOn (s : State) (e : Nat) : State :=
  (s.fset (FCH_CTRL_Enable e) 1).each (List.range 16) fun s p => s.slotActivate e p

theorem fchEnable_of_ok (hoff : s.flag (FCH_CTRL_Enable e) = false) (hok : s.fchLimitsOk e (s.enabledSlots e none) = true) :
    s.fchEnable e = s.fchOn e := by
  rw [State.fchEnable, hoff, if_neg Bool.false_ne_true, if_pos hok, State.fchOn]

theorem fchEnable_of_bad (hoff : s.flag (FCH_CTRL_Enable e) = false) (hbad : s.fchLimitsOk e (s.enabledSlots e none) = false) :
    s.fchEnable e = s.fset (FCH_STATUS_ConfigErr e) 1 := by
  rw [State.fchEnable, hoff, if_neg Bool.false_ne_true, hbad, if_neg Bool.false_ne_true]

theorem fchOn_regs : (s.fchOn e).regs = (s.fset (FCH_CTRL_Enable e) 1).regs := each_slotActivate_regs

theorem fchOn_slot (hp : p < 16) (h : s.flag (FCH_PSRC_Enable e p) = true) : (s.fchOn e).slot e p = s.slotFirst e := by
  have hslot : (s.fset (FCH_CTRL_Enable e) 1).flag (FCH_PSRC_Enable e p) = true :=
    (flag_of_fget (fget_fset_addr (f := FCH_PSRC_Enable e p) (g := FCH_CTRL_Enable e) (FCH_PSRC_ne_CTRL hp))).trans h
  have hon : (s.fset (FCH_CTRL_Enable e) 1).slotOn e p = true := by
    rw [State.slotOn, flag_fset_one rfl (by decide : 0 < 32), hslot, Bool.true_and]
  rw [State.fchOn, each_slotActivate_slot hp hon, slotFirst_fset FCH_CTRL_ne_STATUS]

theorem fchEnable_exec (he : e < 16) :
    exec (.fchEnable e) s = .next (s.hostEnable (FCH_CTRL_Enable e) fun s => s.fchEnable e) := by
  show execFchEnable e s = _
  rw [execFchEnable, reply_of_not (by omega)]

theorem engineEnabled (he : e < 16) (hp : p < 16) (ht : s.takes (FCH_CTRL e)) (hoff : s.flag (FCH_CTRL_Enable e) = false)
    (hok : s.fchLimitsOk e (s.enabledSlots e none) = true) : gives (.fchEnable e) s fun t =>
      t.fget (FCH_CTRL_Enable e) = 1 ∧ regsBut s t [FCH_CTRL e] ∧
        (s.flag (FCH_PSRC_Enable e p) = true → t.slot e p = s.slotFirst e) := by
  have hstate : s.hostEnable (FCH_CTRL_Enable e) (fun s => s.fchEnable e) = (s.fchOn e).goldenFld (FCH_CTRL_Enable e) 1 := by
    rw [hostEnable_of_takes ht, fchEnable_of_ok hoff hok]
  refine gives_of ((fchEnable_exec he).trans (congrArg _ hstate)) ⟨?_, fun a ha => ?_, fun hslot => ?_⟩
  · rw [fget_goldenFld, fget_of_reg (reg_of_regs fchOn_regs), fget_fset_one rfl (by decide : 0 < 32)]
  · rw [reg_goldenFld, reg_of_regs fchOn_regs, reg_fset_ne (List.ne_of_not_mem_cons ha)]
  · rw [slot_goldenFld, fchOn_slot hp hslot]

/-! ## A slot's enable (R47) -/

theorem fchSlotEnable_of_ok (hoff : s.flag (FCH_PSRC_Enable e p) = false)
    (hok : s.fchLimitsOk e (s.enabledSlots e (some p)) = true) :
    s.fchSlotEnable e p = (s.fset (FCH_PSRC_Enable e p) 1).slotActivate e p := by
  rw [State.fchSlotEnable, hoff, if_neg Bool.false_ne_true, if_pos hok]

theorem fchSlotEnable_of_bad (hoff : s.flag (FCH_PSRC_Enable e p) = false)
    (hbad : s.fchLimitsOk e (s.enabledSlots e (some p)) = false) :
    s.fchSlotEnable e p = s.fset (FCH_STATUS_ConfigErr e) 1 := by
  rw [State.fchSlotEnable, hoff, if_neg Bool.false_ne_true, hbad, if_neg Bool.false_ne_true]

theorem fchSlotOn_slot (hp : p < 16) (h : s.flag (FCH_CTRL_Enable e) = true) :
    ((s.fset (FCH_PSRC_Enable e p) 1).slotActivate e p).slot e p = s.slotFirst e := by
  have hengine : (s.fset (FCH_PSRC_Enable e p) 1).flag (FCH_CTRL_Enable e) = true :=
    (flag_of_fget (fget_fset_addr (f := FCH_CTRL_Enable e) (g := FCH_PSRC_Enable e p) (FCH_PSRC_ne_CTRL hp).symm)).trans h
  have hon : (s.fset (FCH_PSRC_Enable e p) 1).slotOn e p = true := by
    rw [State.slotOn, flag_fset_one rfl (by decide : 31 < 32), hengine, Bool.true_and]
  rw [slotActivate_slot hon, slotFirst_fset FCH_PSRC_ne_STATUS]

theorem fchSlotEnable_exec (he : e < 16) (hp : p < 16) :
    exec (.fchSlotEnable e p) s = .next (s.hostEnable (FCH_PSRC_Enable e p) fun s => s.fchSlotEnable e p) := by
  show execFchSlotEnable e p s = _
  rw [execFchSlotEnable, reply_of_not (by omega)]

theorem slotEnabled (he : e < 16) (hp : p < 16) (ht : s.takes (FCH_PSRC e p)) (hoff : s.flag (FCH_PSRC_Enable e p) = false)
    (hok : s.fchLimitsOk e (s.enabledSlots e (some p)) = true) : gives (.fchSlotEnable e p) s fun t =>
      t.fget (FCH_PSRC_Enable e p) = 1 ∧ regsBut s t [FCH_PSRC e p] ∧
        (s.flag (FCH_CTRL_Enable e) = true → t.slot e p = s.slotFirst e) := by
  have hstate : s.hostEnable (FCH_PSRC_Enable e p) (fun s => s.fchSlotEnable e p) =
      ((s.fset (FCH_PSRC_Enable e p) 1).slotActivate e p).goldenFld (FCH_PSRC_Enable e p) 1 := by
    rw [hostEnable_of_takes ht, fchSlotEnable_of_ok hoff hok]
  refine gives_of ((fchSlotEnable_exec he hp).trans (congrArg _ hstate)) ⟨?_, fun a ha => ?_, fun hengine => ?_⟩
  · rw [fget_goldenFld, fget_of_reg (reg_of_regs slotActivate_regs), fget_fset_one rfl (by decide : 31 < 32)]
  · rw [reg_goldenFld, reg_of_regs slotActivate_regs, reg_fset_ne (List.ne_of_not_mem_cons ha)]
  · rw [slot_goldenFld, fchSlotOn_slot hp hengine]

/-! ## The Hull's enable (R65) -/

theorem hullEnable_of_ok (hoff : s.flag HULL_CTRL_Enable = false) (hok : s.hullCheck = true) :
    s.hullEnable = (s.fset HULL_CTRL_Enable 1).fset HULL_STATUS_Running 1 := by
  rw [State.hullEnable, hoff, if_neg Bool.false_ne_true, if_pos hok]

theorem hullEnable_of_bad (hoff : s.flag HULL_CTRL_Enable = false) (hbad : s.hullCheck = false) :
    s.hullEnable = s.fset HULL_STATUS_ConfigErr 1 := by
  rw [State.hullEnable, hoff, if_neg Bool.false_ne_true, hbad, if_neg Bool.false_ne_true]

theorem hullEnabled (ht : s.takes HULL_CTRL) (hoff : s.flag HULL_CTRL_Enable = false) (hok : s.hullCheck = true) :
    gives .hullEnable s fun t => t.fget HULL_CTRL_Enable = 1 ∧ t.fget HULL_STATUS_Running = 1 ∧ t.hull = s.hull ∧
      regsBut s t [HULL_CTRL, HULL_STATUS] := by
  have hstate : s.hostEnable HULL_CTRL_Enable State.hullEnable =
      ((s.fset HULL_CTRL_Enable 1).fset HULL_STATUS_Running 1).goldenFld HULL_CTRL_Enable 1 := by
    rw [hostEnable_of_takes ht, hullEnable_of_ok hoff hok]
  refine gives_of (congrArg Host.Outcome.next hstate) ⟨?_, ?_, ?_, fun a ha => ?_⟩
  · rw [fget_goldenFld, fget_fset_addr (by decide), fget_fset_one rfl (by decide)]
  · rw [fget_goldenFld, fget_fset_one rfl (by decide)]
  · rw [goldenFld_hull, fset_hull, fset_hull]
  · obtain ⟨hctrl, hstatus⟩ := not_or.mp (List.mem_cons.not.mp ha)
    rw [reg_goldenFld, reg_fset_ne (List.ne_of_not_mem_cons hstatus), reg_fset_ne hctrl]

/-! ## A stream's enable (R80, R82) -/

/-- The Hull without what it held of stream st: at window 0, group 0, half 0, both regions free and nothing taken. -/
def HullSt.streamFresh (h : HullSt) (st : Nat) : HullSt := { h with
  stream := tset StreamSt.zero h.stream st StreamSt.zero
  staging := h.staging.filter fun p => decide (p.1.st ≠ st)
  region := tset none (tset none h.region (2 * st) none) (2 * st + 1) none
  taken := (List.range 8).foldl (fun t n => tset 0 t (4 * n + st) 0) h.taken }

theorem streamFresh_stream {h : HullSt} : tget StreamSt.zero (h.streamFresh st).stream st = StreamSt.zero :=
  tget_tset_self StreamSt.zero h.stream st StreamSt.zero

theorem streamFresh_region {h : HullSt} : tget none (h.streamFresh st).region (2 * st) = none ∧
    tget none (h.streamFresh st).region (2 * st + 1) = none :=
  ⟨(tget_tset_ne none _ none (by omega)).trans (tget_tset_self ..), tget_tset_self none (tset none h.region (2 * st) none) _ none⟩

/-- Keys of a list set to the default read as the default, and so do those that did before. -/
theorem tget_foldl_clear {α : Type} [DecidableEq α] {d : α} {key : Nat → Nat} {l : List Nat} {x : Tbl α} {n : Nat}
    (h : n ∈ l ∨ tget d x (key n) = d) : tget d (l.foldl (fun t n => tset d t (key n) d) x) (key n) = d := by
  induction l generalizing x with
  | nil => exact h.resolve_left (List.not_mem_nil)
  | cons m l ih =>
    refine ih ?_
    by_cases hkey : key n = key m
    · exact .inr (hkey ▸ tget_tset_self ..)
    · refine h.imp (fun hm => (List.mem_cons.mp hm).resolve_left fun hnm => hkey (hnm ▸ rfl)) fun hd => ?_
      rw [tget_tset_ne _ _ _ hkey, hd]

theorem streamFresh_taken {h : HullSt} {n : Nat} (hn : n < 8) : tget 0 (h.streamFresh st).taken (4 * n + st) = 0 :=
  tget_foldl_clear (key := fun n => 4 * n + st) (.inl (List.mem_range.mpr hn))

/-- The stream's enable sets its bit; what the partitions present of it signals nothing any more. -/
theorem streamEnable_of_ok (hoff : s.flag (HULL_SCTRL_Enable st) = false) (hok : s.streamCheck st = true) :
    (s.streamEnable st).regs = (s.fset (HULL_SCTRL_Enable st) 1).regs ∧ (s.streamEnable st).hull = s.hull.streamFresh st := by
  rw [State.streamEnable, hoff, if_neg Bool.false_ne_true, if_pos hok]
  exact ⟨rfl, rfl⟩

theorem HULL_SCTRL_ne_STATUS : HULL_SCTRL st ≠ HULL_STATUS := by unfold HULL_SCTRL HULL_STATUS; omega

theorem streamEnable_of_bad (hoff : s.flag (HULL_SCTRL_Enable st) = false) (hbad : s.streamCheck st = false) :
    s.streamEnable st = s.fset HULL_STATUS_ConfigErr 1 := by
  rw [State.streamEnable, hoff, if_neg Bool.false_ne_true, hbad, if_neg Bool.false_ne_true]

theorem hullStreamEnable_exec (hst : st < 4) :
    exec (.hullStreamEnable st) s = .next (s.hostEnable (HULL_SCTRL_Enable st) fun s => s.streamEnable st) := by
  show execHullStreamEnable st s = _
  rw [execHullStreamEnable, reply_of_not (by omega)]

theorem streamEnabled (hst : st < 4) (ht : s.takes (HULL_SCTRL st)) (hoff : s.flag (HULL_SCTRL_Enable st) = false)
    (hok : s.streamCheck st = true) : gives (.hullStreamEnable st) s fun t => t.fget (HULL_SCTRL_Enable st) = 1 ∧
      t.hull = s.hull.streamFresh st ∧ regsBut s t [HULL_SCTRL st] := by
  obtain ⟨hregs, hhull⟩ := streamEnable_of_ok hoff hok
  have hstate : s.hostEnable (HULL_SCTRL_Enable st) (fun s => s.streamEnable st) =
      (s.streamEnable st).goldenFld (HULL_SCTRL_Enable st) 1 := hostEnable_of_takes ht
  refine gives_of ((hullStreamEnable_exec hst).trans (congrArg _ hstate)) ⟨?_, goldenFld_hull.trans hhull, fun a ha => ?_⟩
  · rw [fget_goldenFld, fget_of_reg (reg_of_regs hregs), fget_fset_one rfl (by decide : 31 < 32)]
  · rw [reg_goldenFld, reg_of_regs hregs, reg_fset_ne (List.ne_of_not_mem_cons ha)]

/-- Settles O21, enable by enable: taken where the checks hold, else only the refusal is told. -/
theorem unitEnables : Obligations.UnitEnables := by
  unfold Obligations.UnitEnables
  refine ⟨fun s e p he hp => ⟨fun ht hoff => ⟨engineEnabled he hp ht hoff, fun hbad => ?_⟩,
    fun ht hoff => ⟨slotEnabled he hp ht hoff, fun hbad => ?_⟩⟩,
    fun s st hst => ⟨fun ht hoff => ⟨hullEnabled ht hoff, fun hbad => ?_⟩, fun ht hoff => ⟨fun hok => ?_, fun hbad => ?_⟩⟩⟩
  · exact (fchEnable_exec he).trans (congrArg _ (hostEnable_refused ht hoff (fchEnable_of_bad hoff hbad) FCH_CTRL_ne_STATUS))
  · exact (fchSlotEnable_exec he hp).trans
      (congrArg _ (hostEnable_refused ht hoff (fchSlotEnable_of_bad hoff hbad) FCH_PSRC_ne_STATUS))
  · exact congrArg Host.Outcome.next (hostEnable_refused ht hoff (hullEnable_of_bad hoff hbad) (by decide))
  · obtain ⟨t, hx, hon, hhull, hregs⟩ := streamEnabled hst ht hoff hok
    refine gives_of hx ⟨hon, ?_⟩
    rw [hhull]
    obtain ⟨hlow, hhigh⟩ := streamFresh_region (st := st) (h := s.hull)
    exact ⟨streamFresh_stream, hlow, hhigh, fun n hn => streamFresh_taken hn, hregs⟩
  · exact (hullStreamEnable_exec hst).trans
      (congrArg _ (hostEnable_refused ht hoff (streamEnable_of_bad hoff hbad) HULL_SCTRL_ne_STATUS))

end Sys2Proof.Machine
end

section
/-! Proofs about the gain table and the swap of its banks (R64). -/

namespace Sys2Proof.Machine
open Sys2Proof

variable {s t : State} {d e p init : Nat} {v : BitVec 32}

/-! ## The table -/

/-- Word i of bank b of engine e holds v. -/
def State.gainPut (s : State) (e b i : Nat) (v : BitVec 32) : State :=
  { s with fch := { s.fch with gain := tset 0x4000#32 s.fch.gain ((2 * e + b) * 262144 + i) v } }

theorem gainAt_gainPut {b i : Nat} (hi : i < 262144) : (s.gainPut e b i v).gainAt e b i = v := by
  rw [State.gainAt, Nat.mod_eq_of_lt hi]
  exact tget_tset_self ..

theorem gainAt_gainPut_ne {b c i j : Nat} (hb : b < 2) (hc : c < 2) (hi : i < 262144) (hj : j < 262144)
    (h : d ≠ e ∨ c ≠ b ∨ j ≠ i) : (s.gainPut e b i v).gainAt d c j = s.gainAt d c j := by
  rw [State.gainAt, State.gainAt, Nat.mod_eq_of_lt hj]
  exact tget_tset_ne _ _ _ (by omega)

theorem gaddrIndex_lt : s.fget (FCH_GADDR_Index e) < 262144 := Nat.mod_lt _ (Nat.two_pow_pos 18)

theorem reg_gaddrNext_ne {a : Nat} (h : a ≠ FCH_GADDR e) : (s.gaddrNext e).reg a = s.reg a := reg_fset_ne h

theorem gaddrNext_index : (s.gaddrNext e).fget (FCH_GADDR_Index e) = (s.fget (FCH_GADDR_Index e) + 1) % 262144 :=
  (fget_fset (f := FCH_GADDR_Index e) (Nat.le_of_ble_eq_true rfl)).trans (Nat.mod_mod _ _)

theorem gdataWrite_of_free (h : s.flag (FCH_STATUS_SwapPending e) = false) : s.gdataWrite init e v =
    (s.gainPut e (1 - s.fget (FCH_CTRL_ActiveBank e)) (s.fget (FCH_GADDR_Index e)) v).gaddrNext e := by
  rw [State.gdataWrite, h, if_neg Bool.false_ne_true, State.gainPut]

theorem gdataWrite_of_pending (h : s.flag (FCH_STATUS_SwapPending e) = true) :
    s.gdataWrite init e v = s.log 4 0 init (FCH_GDATA e) := by
  rw [State.gdataWrite, if_pos h]

theorem fchGdataWrite_exec (he : e < 16) (ht : s.takes (FCH_GDATA e)) :
    exec (.fchGdataWrite e v) s = .next (s.gdataWrite 21 e v) := by
  show execFchGdataWrite e v s = _
  rw [execFchGdataWrite, reply_of_not (by omega), hostWrite_of_takes ht]

/-- A write while no swap is pending. -/
theorem gainStored (he : e < 16) (ht : s.takes (FCH_GDATA e)) (hfree : s.flag (FCH_STATUS_SwapPending e) = false) :
    gives (.fchGdataWrite e v) s fun t =>
      t.gainAt e (1 - s.fget (FCH_CTRL_ActiveBank e)) (s.fget (FCH_GADDR_Index e)) = v ∧
      t.fget (FCH_GADDR_Index e) = (s.fget (FCH_GADDR_Index e) + 1) % 262144 ∧ regsBut s t [FCH_GADDR e] ∧
      ∀ d b i, b < 2 → i < 262144 → (d ≠ e ∨ b ≠ 1 - s.fget (FCH_CTRL_ActiveBank e) ∨ i ≠ s.fget (FCH_GADDR_Index e)) →
        t.gainAt d b i = s.gainAt d b i := by
  refine gives_of ((fchGdataWrite_exec he ht).trans (congrArg _ (gdataWrite_of_free hfree)))
    ⟨gainAt_gainPut gaddrIndex_lt, gaddrNext_index, fun a ha => reg_gaddrNext_ne (List.ne_of_not_mem_cons ha), ?_⟩
  exact fun d b i hb hi hne => gainAt_gainPut_ne (by omega) hb gaddrIndex_lt hi hne

/-- A write while a swap is pending is discarded and logged. -/
theorem gainRefused (he : e < 16) (ht : s.takes (FCH_GDATA e)) (hpend : s.flag (FCH_STATUS_SwapPending e) = true) :
    gives (.fchGdataWrite e v) s fun t => t.fch = s.fch ∧ t.fget (FCH_GADDR_Index e) = s.fget (FCH_GADDR_Index e) := by
  refine gives_of ((fchGdataWrite_exec he ht).trans (congrArg _ (gdataWrite_of_pending hpend)))
    ⟨log_kept.same .fch rfl, fget_of_reg (reg_log_of_offLog ?_)⟩
  show offLog (FCH_GADDR e)
  unfold offLog FCH_GADDR GLB_INTPEND
  omega

theorem fchGdataRead_exec (he : e < 16) (ht : s.takes (FCH_GDATA e)) : exec (.fchGdataRead e) s = .next (s.gaddrNext e) := by
  show execFchGdataRead e s = _
  rw [execFchGdataRead, reply_of_not (by omega), hostPop_of_takes ht]

theorem gainRead (he : e < 16) (ht : s.takes (FCH_GDATA e)) : gives (.fchGdataRead e) s fun t =>
    t.fget (FCH_GADDR_Index e) = (s.fget (FCH_GADDR_Index e) + 1) % 262144 ∧ t.fch = s.fch ∧ regsBut s t [FCH_GADDR e] :=
  gives_of (fchGdataRead_exec he ht) ⟨gaddrNext_index, rfl, fun _ ha => reg_gaddrNext_ne (List.ne_of_not_mem_cons ha)⟩

/-! ## The swap is armed -/

/-- The frame index that the low word as it stands and a write of v to the high word give. -/
def State.swapIndex (s : State) (e : Nat) (v : BitVec 32) : Nat := (s.reg (FCH_GSWAP_LO e)).toNat + 2 ^ 32 * (v.toNat % 2 ^ 16)

/-- The swap is pending from the frame index that the words give. -/
def State.swapSet (s : State) (e : Nat) (v : BitVec 32) : State :=
  let u := (s.fset (FCH_GSWAP_HI_FrameHigh e) ((FCH_GSWAP_HI_FrameHigh e).of v)).fset (FCH_STATUS_SwapPending e) 1
  { u with fch := { u.fch with swapFrom := tset 0 u.fch.swapFrom e (s.swapIndex e v) } }

/-- A running slot of engine e is past frame f. -/
def State.swapLate (s : State) (e f : Nat) : Bool :=
  (List.range 16).any fun p => s.slotOn e p && decide (idxDiff f (s.slot e p).nextFrame < 0)

/-- The swap is pending, and late where a slot is past its frame. -/
def State.swapArmed (s : State) (e : Nat) (v : BitVec 32) : State :=
  (s.swapSet e v).when ((s.swapSet e v).swapLate e (s.swapIndex e v)) fun s => s.fset (FCH_STATUS_LateSwap e) 1

/-- The two words read as the index. -/
theorem get2_swapIndex : (s.fset (FCH_GSWAP_HI_FrameHigh e) ((FCH_GSWAP_HI_FrameHigh e).of v)).get2 (FCH_GSWAP_LO e) (FCH_GSWAP_HI e) %
    2 ^ 48 = s.swapIndex e v := by
  have hne : FCH_GSWAP_LO e ≠ FCH_GSWAP_HI e := by unfold FCH_GSWAP_LO FCH_GSWAP_HI; omega
  have hlow := (s.reg (FCH_GSWAP_LO e)).isLt
  have hof : ∀ w, (FCH_GSWAP_HI_FrameHigh e).of w = w.toNat % 2 ^ 16 := fun w => by simp [Fld.of, FCH_GSWAP_HI_FrameHigh]
  have hhigh : ((s.fset (FCH_GSWAP_HI_FrameHigh e) ((FCH_GSWAP_HI_FrameHigh e).of v)).reg (FCH_GSWAP_HI e)).toNat % 2 ^ 16 =
      v.toNat % 2 ^ 16 := by
    rw [← hof, ← hof v]
    exact (fget_fset (f := FCH_GSWAP_HI_FrameHigh e) (Nat.le_of_ble_eq_true rfl)).trans (Nat.mod_mod _ _)
  rw [State.get2, reg_fset_ne (f := FCH_GSWAP_HI_FrameHigh e) hne, State.swapIndex]
  omega

theorem gswapArm_of_free (h : s.flag (FCH_STATUS_SwapPending e) = false) : s.gswapArm init e v = (s.swapArmed e v).swapCheck e := by
  rw [State.gswapArm, h, if_neg Bool.false_ne_true, State.swapArmed, State.swapSet, ← get2_swapIndex]
  rfl

theorem gainSwapArm_exec (he : e < 16) (ht : s.takes (FCH_GSWAP_HI e)) (hfree : s.flag (FCH_STATUS_SwapPending e) = false) :
    exec (.gainSwapArm e v) s = .next ((s.swapArmed e v).swapCheck e) := by
  show execGainSwapArm e v s = _
  rw [execGainSwapArm, reply_of_not (by omega), hostWrite_of_takes ht, gswapArm_of_free hfree]

/-! ### What the arming leaves -/

theorem swapSet_regs : (s.swapSet e v).regs =
    ((s.fset (FCH_GSWAP_HI_FrameHigh e) ((FCH_GSWAP_HI_FrameHigh e).of v)).fset (FCH_STATUS_SwapPending e) 1).regs := rfl

theorem swapSet_slot : (s.swapSet e v).fch.slot = s.fch.slot := rfl

theorem reg_swapSet_ne {a : Nat} (hh : a ≠ FCH_GSWAP_HI e) (hs : a ≠ FCH_STATUS e) : (s.swapSet e v).reg a = s.reg a := by
  rw [reg_of_regs swapSet_regs, reg_fset_ne (f := FCH_STATUS_SwapPending e) hs, reg_fset_ne (f := FCH_GSWAP_HI_FrameHigh e) hh]

theorem reg_swapArmed_ne {a : Nat} (hh : a ≠ FCH_GSWAP_HI e) (hs : a ≠ FCH_STATUS e) : (s.swapArmed e v).reg a = s.reg a := by
  rw [State.swapArmed, reg_when (reg_fset_ne (f := FCH_STATUS_LateSwap e) hs), reg_swapSet_ne hh hs]

theorem swapArmed_fch : (s.swapArmed e v).fch = (s.swapSet e v).fch := when_fch fset_fch

theorem swapArmed_slot : (s.swapArmed e v).slot e p = s.slot e p :=
  slot_of_fch ((congrArg FchSt.slot swapArmed_fch).trans swapSet_slot)

theorem swapArmed_swapFrom : tget 0 (s.swapArmed e v).fch.swapFrom e = s.swapIndex e v := by
  rw [swapArmed_fch]
  exact tget_tset_self 0 s.fch.swapFrom e (s.swapIndex e v)

theorem swapArmed_pending : (s.swapArmed e v).fget (FCH_STATUS_SwapPending e) = 1 := by
  rw [State.swapArmed, fget_when_fset (f := FCH_STATUS_SwapPending e) (g := FCH_STATUS_LateSwap e) (.inr (.inl (Nat.le_refl 2))),
    fget_of_reg (reg_of_regs swapSet_regs), fget_fset_one rfl (by decide : 1 < 32)]

theorem FCH_CTRL_ne_GSWAP_HI : FCH_CTRL d ≠ FCH_GSWAP_HI e := by unfold FCH_CTRL FCH_GSWAP_HI; omega

theorem FCH_PSRC_ne_GSWAP_HI : FCH_PSRC d p ≠ FCH_GSWAP_HI e := by unfold FCH_PSRC FCH_GSWAP_HI; omega

theorem swapSet_slotOn : (s.swapSet e v).slotOn e p = s.slotOn e p :=
  slotOn_of_reg (reg_swapSet_ne FCH_CTRL_ne_GSWAP_HI FCH_CTRL_ne_STATUS)
    (reg_swapSet_ne FCH_PSRC_ne_GSWAP_HI FCH_PSRC_ne_STATUS)

theorem swapArmed_slotOn : (s.swapArmed e v).slotOn e p = s.slotOn e p :=
  slotOn_of_reg (reg_swapArmed_ne FCH_CTRL_ne_GSWAP_HI FCH_CTRL_ne_STATUS)
    (reg_swapArmed_ne FCH_PSRC_ne_GSWAP_HI FCH_PSRC_ne_STATUS)

theorem swapArmed_activeBank : (s.swapArmed e v).fget (FCH_CTRL_ActiveBank e) = s.fget (FCH_CTRL_ActiveBank e) :=
  fget_of_reg (reg_swapArmed_ne FCH_CTRL_ne_GSWAP_HI FCH_CTRL_ne_STATUS)

/-- A running slot past the frame makes the swap late. -/
theorem swapArmed_late (hp : p < 16) (hon : s.slotOn e p = true) (hpast : idxDiff (s.swapIndex e v) (s.slot e p).nextFrame < 0) :
    (s.swapArmed e v).fget (FCH_STATUS_LateSwap e) = 1 := by
  have hlate : (s.swapSet e v).swapLate e (s.swapIndex e v) = true :=
    List.any_eq_true.mpr ⟨p, List.mem_range.mpr hp, by rw [swapSet_slotOn, hon, Bool.true_and]; exact decide_eq_true hpast⟩
  rw [State.swapArmed, State.when, if_pos hlate, fget_fset_one rfl (by decide : 2 < 32)]

/-! ### The banks change when every running slot has passed the frame -/

theorem swapCheck_of_waits (hp : p < 16) (hon : s.slotOn e p = true) (hw : (s.slot e p).swapped = false) : s.swapCheck e = s := by
  have hall : ((List.range 16).all fun p => !s.slotOn e p || (s.slot e p).swapped) = false :=
    List.all_eq_false.mpr ⟨p, List.mem_range.mpr hp, by rw [hon, hw]; decide⟩
  rw [State.swapCheck, hall, Bool.and_false, if_neg Bool.false_ne_true]

/-- With no slot running, a pending swap takes place. -/
theorem swapCheck_of_none (hpend : s.flag (FCH_STATUS_SwapPending e) = true) (hoff : ∀ p < 16, s.slotOn e p = false) :
    (s.swapCheck e).regs = ((s.fset (FCH_CTRL_ActiveBank e) (1 - s.fget (FCH_CTRL_ActiveBank e))).fset
      (FCH_STATUS_SwapPending e) 0).regs := by
  have hall : ((List.range 16).all fun p => !s.slotOn e p || (s.slot e p).swapped) = true :=
    List.all_eq_true.mpr fun p hp => by rw [hoff p (List.mem_range.mp hp)]; rfl
  rw [State.swapCheck, hpend, hall, Bool.and_self, if_pos rfl]
  exact each_keeps State.regs fun _ _ => modSlot_regs

/-- Arming while a running slot has not passed the frame: the swap waits. -/
theorem swapWaits (he : e < 16) (ht : s.takes (FCH_GSWAP_HI e)) (hfree : s.flag (FCH_STATUS_SwapPending e) = false)
    (hp : p < 16) (hon : s.slotOn e p = true) (hw : (s.slot e p).swapped = false) : gives (.gainSwapArm e v) s fun t =>
      t.fget (FCH_STATUS_SwapPending e) = 1 ∧ t.fget (FCH_CTRL_ActiveBank e) = s.fget (FCH_CTRL_ActiveBank e) ∧
      tget 0 t.fch.swapFrom e = s.swapIndex e v ∧
      (idxDiff (s.swapIndex e v) (s.slot e p).nextFrame < 0 → t.fget (FCH_STATUS_LateSwap e) = 1) := by
  have hcheck : (s.swapArmed e v).swapCheck e = s.swapArmed e v :=
    swapCheck_of_waits hp (swapArmed_slotOn.trans hon) (by rw [swapArmed_slot, hw])
  exact gives_of ((gainSwapArm_exec he ht hfree).trans (congrArg _ hcheck))
    ⟨swapArmed_pending, swapArmed_activeBank, swapArmed_swapFrom, swapArmed_late hp hon⟩

/-- Arming with no slot running: the banks change at once. -/
theorem swapAtOnce (he : e < 16) (ht : s.takes (FCH_GSWAP_HI e)) (hfree : s.flag (FCH_STATUS_SwapPending e) = false)
    (hoff : ∀ p < 16, s.slotOn e p = false) : gives (.gainSwapArm e v) s fun t =>
      t.fget (FCH_STATUS_SwapPending e) = 0 ∧ t.fget (FCH_CTRL_ActiveBank e) = 1 - s.fget (FCH_CTRL_ActiveBank e) := by
  have hpend : (s.swapArmed e v).flag (FCH_STATUS_SwapPending e) = true := by rw [State.flag, swapArmed_pending]; rfl
  have hregs := swapCheck_of_none hpend fun p hp => swapArmed_slotOn.trans (hoff p hp)
  refine gives_of (gainSwapArm_exec he ht hfree) ⟨?_, ?_⟩
  · rw [fget_of_reg (reg_of_regs hregs)]
    exact fget_fset (f := FCH_STATUS_SwapPending e) (v := 0) (Nat.le_of_ble_eq_true rfl)
  · rw [fget_of_reg (reg_of_regs hregs),
      fget_fset_addr (f := FCH_CTRL_ActiveBank e) (g := FCH_STATUS_SwapPending e) FCH_CTRL_ne_STATUS, swapArmed_activeBank]
    exact (fget_fset (f := FCH_CTRL_ActiveBank e) (Nat.le_of_ble_eq_true rfl)).trans
      (Nat.mod_eq_of_lt (show 1 - s.fget (FCH_CTRL_ActiveBank e) < 2 by omega))

/-- Settles O22: the table by its key, the swap by whether a running slot waits. -/
theorem gains : Obligations.Gains := by
  unfold Obligations.Gains
  refine ⟨fun s e v he ht => ⟨gainStored he ht, gainRefused he ht, gainRead he ht⟩, fun s e v he ht hfree => ⟨?_, ?_⟩⟩
  · exact fun p hp hon hw => swapWaits he ht hfree hp hon hw
  · exact swapAtOnce he ht hfree

end Sys2Proof.Machine
end

section
/-! SUPPORT. What a slot's chain leaves as its samples pass (R46, R48 to R56): the expected index rises with every sample, and the
engine's counters and status apart, the registers of the units hold what they held. -/

namespace Sys2Proof.Machine

variable {s t : State} {c : ChainCfg} {o : ChainOut} {e p a q : Nat}

/-! ## The expected index (R45, R46) -/

theorem resampleAt_x {m fuel : Nat} : (resampleAt c m fuel o).slot.x = o.slot.x := by
  induction fuel generalizing o with
  | zero => rfl
  | succ fuel ih =>
    unfold resampleAt
    dsimp only
    split
    · rw [ih]
      split <;> rfl
    · rfl

theorem chainPush_x {y : Smp} : (chainPush c o y).slot.x = idxAdd o.slot.x 1 := by
  unfold chainPush
  dsimp only
  split
  · rw [resampleAt_x]
  · rfl

theorem idxAdd_idxAdd {x m n : Nat} : idxAdd (idxAdd x m) n = idxAdd x (m + n) := by
  unfold idxAdd
  omega

/-- Samples pushed one after another, one at least. -/
theorem foldl_chainPush_x {xs : List Smp} (h : xs ≠ []) : (xs.foldl (chainPush c) o).slot.x = idxAdd o.slot.x xs.length := by
  induction xs generalizing o with
  | nil => exact absurd rfl h
  | cons y ys ih =>
    rcases eq_or_ne ys [] with rfl | hys
    · exact chainPush_x
    · rw [List.foldl_cons, ih hys, chainPush_x, idxAdd_idxAdd, List.length_cons, Nat.add_comm 1]

/-- Indices without a difference have the same successors. -/
theorem idxAdd_of_idxDiff {x n : Nat} (h : idxDiff a x = 0) : idxAdd x n = idxAdd a n := by
  unfold idxDiff toSigned at h
  unfold idxAdd
  dsimp only at h
  split at h <;> omega

/-! ## The registers of an engine that its chains write -/

/-- The address is that of no status word, switch or counter that a frame of slot p of engine e moves, and of no event counter. -/
structure offChain (e p a : Nat) : Prop where
  below : a < 0xC00000
  ctrl : a ≠ FCH_CTRL e
  status : a ≠ FCH_STATUS e
  satcnt : a ≠ FCH_SATCNT e
  invout : a ≠ FCH_INVOUT e
  fftsat : a ≠ FCH_FFTSAT e
  stagesat : a ≠ FCH_STAGESAT e p

theorem reg_pmc_of_lt {n k : Nat} (h : a < 0xC00000) : (s.pmc n k).reg a = s.reg a :=
  reg_pmc_ne (by unfold PMC_LIVE_LO; omega) (by unfold PMC_LIVE_HI; omega)

/-! ## An output frame (R55, R64) -/

/-- The change of banks leaves every slot's expected index. -/
theorem swapCheck_slot_x (hp : p < 16) : ((s.swapCheck q).slot e p).x = (s.slot e p).x := by
  unfold State.swapCheck
  split
  · refine each_invariant (I := fun t => (t.slot e p).x = (s.slot e p).x) (fun t j hj ht => ?_) rfl
    by_cases hsame : e = q ∧ p = j
    · obtain ⟨rfl, rfl⟩ := hsame
      rw [State.modSlot, setSlot_slot]
      exact ht
    · rw [State.modSlot, setSlot_slot_ne (List.mem_range.mp hj) hp (by omega), ht]
  · rfl

/-- The counters of a frame: clamps, and n invalid outputs where it is invalid. -/
def State.frameCounted (s : State) (e sats n : Nat) (inv : Bool) : State :=
  if inv then ((s.incBy (FCH_SATCNT e) sats).pmc (224 + e) sats).incBy (FCH_INVOUT e) n
  else (s.incBy (FCH_SATCNT e) sats).pmc (224 + e) sats

/-- Slot p of engine e is as x tells, and pend holds the frames that have not crossed to the Hull. -/
def State.framePut (s : State) (e p : Nat) (x : SlotSt) (pend : Tbl (List EngFrame)) : State :=
  { s.setSlot e p x with fch := { (s.setSlot e p x).fch with pend := pend } }

theorem reg_frameCounted {sats n : Nat} {inv : Bool} (h : offChain e p a) : (s.frameCounted e sats n inv).reg a = s.reg a := by
  have hcount : ((s.incBy (FCH_SATCNT e) sats).pmc (224 + e) sats).reg a = s.reg a := by
    rw [reg_pmc_of_lt h.below, reg_incBy_ne h.satcnt]
  unfold State.frameCounted
  split
  · rw [reg_incBy_ne h.invout, hcount]
  · exact hcount

/-- A frame is counted, leaves the slot its expected index, and then the banks may change. -/
theorem emitFrame_eq (s : State) (e p : Nat) (f : ChanFrame) : ∃ sats x pend, x.x = (s.slot e p).x ∧
    s.emitFrame e p f = ((s.frameCounted e sats f.y.length f.inv).framePut e p x pend).swapCheck e := by
  refine ⟨_, _, _, ?_, rfl⟩
  rfl

theorem framePut_slot {x : SlotSt} {pend : Tbl (List EngFrame)} : (s.framePut e p x pend).slot e p = x := setSlot_slot (s := s)

theorem emitFrame_slot_x {f : ChanFrame} (hp : p < 16) : ((s.emitFrame e p f).slot e p).x = (s.slot e p).x := by
  obtain ⟨sats, x, pend, hx, heq⟩ := emitFrame_eq s e p f
  rw [heq, swapCheck_slot_x hp, framePut_slot, hx]

theorem reg_emitFrame {f : ChanFrame} (h : offChain e p a) : (s.emitFrame e p f).reg a = s.reg a := by
  obtain ⟨sats, x, pend, -, heq⟩ := emitFrame_eq s e p f
  have hput : ((s.frameCounted e sats f.y.length f.inv).framePut e p x pend).regs =
      (s.frameCounted e sats f.y.length f.inv).regs := rfl
  rw [heq, reg_swapCheck_ne h.ctrl h.status, reg_of_regs hput, reg_frameCounted h]

/-! ## Samples fed to a slot -/

/-- The chain's state, the engine's newest index and the two counters of clamps stand as told. -/
def State.chainPut (s : State) (e p : Nat) (x : SlotSt) (seen : Tbl Nat) (stageSat fftSat : Nat) : State :=
  (({ s.setSlot e p x with fch := { (s.setSlot e p x).fch with seen := seen } }).incBy (FCH_STAGESAT e p) stageSat).incBy
    (FCH_FFTSAT e) fftSat

theorem chainPut_slot {x : SlotSt} {seen : Tbl Nat} {m n : Nat} : (s.chainPut e p x seen m n).slot e p = x := setSlot_slot (s := s)

theorem reg_chainPut {x : SlotSt} {seen : Tbl Nat} {m n : Nat} (h : offChain e p a) : (s.chainPut e p x seen m n).reg a = s.reg a := by
  rw [State.chainPut, reg_incBy_ne h.fftsat, reg_incBy_ne h.stagesat]
  rfl

/-- Samples run through the chain, and then the frames that it gave go out. -/
theorem feed_eq (s : State) (e p : Nat) (xs : List Smp) : ∃ seen m n frames,
    s.feed e p xs = (s.chainPut e p (xs.foldl (chainPush (s.chainCfg e p)) ⟨s.slot e p, [], 0, 0⟩).slot seen m n).each frames
      fun s f => s.emitFrame e p f :=
  ⟨_, _, _, _, rfl⟩

theorem feed_slot_x {xs : List Smp} (hp : p < 16) (h : xs ≠ []) :
    ((s.feed e p xs).slot e p).x = idxAdd (s.slot e p).x xs.length := by
  obtain ⟨seen, m, n, frames, heq⟩ := feed_eq s e p xs
  rw [heq, each_keeps (fun t => (t.slot e p).x) fun _ _ => emitFrame_slot_x hp, chainPut_slot, foldl_chainPush_x h]

theorem reg_feed {xs : List Smp} (h : offChain e p a) : (s.feed e p xs).reg a = s.reg a := by
  obtain ⟨seen, m, n, frames, heq⟩ := feed_eq s e p xs
  rw [heq, each_keeps (fun t => t.reg a) fun _ _ => reg_emitFrame h, reg_chainPut h]

/-! ## Samples accepted by a slot (R43, R46) -/

theorem accept_slot_x {xs : List Smp} (hp : p < 16) (h : xs ≠ []) :
    ((s.accept e p xs).slot e p).x = idxAdd (s.slot e p).x xs.length := by
  rw [State.accept, feed_slot_x hp h, slot_of_fch_eq (pmc_fch.trans incBy_fch)]

theorem reg_accept_ne {xs : List Smp} (h : offChain e p a) (hne : a ≠ FCH_INVIN e p) : (s.accept e p xs).reg a = s.reg a := by
  rw [State.accept, reg_feed h, reg_pmc_of_lt h.below, reg_incBy_ne hne]

theorem offChain_invin (he : e < 16) (hp : p < 16) : offChain e p (FCH_INVIN e p) := by
  constructor <;>
    simp only [FCH_INVIN, FCH_CTRL, FCH_STATUS, FCH_SATCNT, FCH_INVOUT, FCH_FFTSAT, FCH_STAGESAT] <;> omega

theorem reg_accept_invin {xs : List Smp} (he : e < 16) (hp : p < 16) : (s.accept e p xs).reg (FCH_INVIN e p) =
    s.reg (FCH_INVIN e p) + BitVec.ofNat 32 (xs.filter (·.inv)).length := by
  have h := offChain_invin he hp
  rw [State.accept, reg_feed h, reg_pmc_of_lt h.below, reg_incBy_self]

/-- A running slot whose expected index the samples begin with accepts them all. -/
theorem slotTake_of_expected {xs : List Smp} (hxs : xs ≠ []) (hanch : s.flag (FCH_STATUS_Anchored e) = true)
    (hphase : 3 ≤ (s.slot e p).phase) (hjoin : (s.slot e p).joining = false) (hx : idxDiff a (s.slot e p).x = 0) :
    s.slotTake e p a xs = s.accept e p xs := by
  have hruns : ¬ ((s.slot e p).phase < 3 ∨ (s.slot e p).joining = true) := by
    rw [hjoin]
    simpa using hphase
  have hstarts : ¬ (xs = [] ∨ s.flag (FCH_STATUS_Anchored e) = false) := by simp [hxs, hanch]
  simp only [State.slotTake, if_neg hstarts, if_neg hruns, if_pos hx]

end Sys2Proof.Machine
end

section
/-! Proofs about the deframer (R39 to R44, R46): what it checks and counts, and a good frame into its slot. -/

namespace Sys2Proof.Machine
open Sys2Proof

variable {s t : State} {lane e q k : Nat} {f : List Byte} {fs : List (Nat × List Byte)}

/-! ## The deframer's outcomes -/

/-- Lane `lane` holds the delivered frames fs. -/
def State.laneHolds (s : State) (lane : Nat) (fs : List (Nat × List Byte)) : State :=
  { s with ln := { s.ln with rxq := tset [] s.ln.rxq lane fs } }

theorem laneHolds_regs : (s.laneHolds lane fs).regs = s.regs := rfl
theorem laneHolds_fch : (s.laneHolds lane fs).fch = s.fch := rfl

theorem laneHolds_rxq : tget [] (s.laneHolds lane fs).ln.rxq lane = fs := tget_tset_self [] s.ln.rxq lane fs

/-- The part takes the oldest frame of lane `lane` now: the lane delivers to the deframer and the part runs. -/
structure State.deframes (s : State) (lane k : Nat) (f : List Byte) (fs : List (Nat × List Byte)) : Prop where
  lane_lt : lane < 96
  queue : tget [] s.ln.rxq lane = (k, f) :: fs
  mode : s.fget (LN_CFG_Mode lane) = 1
  crossing : s.xIsHeld 0 lane = false
  run : s.isRun = true
  noSprout : s.flag IMG_STATUS_SproutActive = false

theorem State.deframes.exec (h : s.deframes lane k f fs) :
    exec (.ingestFrame lane) s = .next ((s.laneHolds lane fs).deframe lane f) := by
  have hopen : (s.fget (LN_CFG_Mode lane) = 1 && !s.xIsHeld 0 lane) = true := by rw [h.mode, h.crossing]; rfl
  have hruns : ((s.laneHolds lane fs).isRun && !(s.laneHolds lane fs).flag IMG_STATUS_SproutActive) = true := by
    show (s.isRun && !s.flag IMG_STATUS_SproutActive) = true
    rw [h.run, h.noSprout]
    rfl
  show execIngestFrame lane s = _
  rw [execIngestFrame, reply_of_not (by have := h.lane_lt; omega), h.queue]
  dsimp only
  rw [if_pos hopen]
  exact congrArg _ (if_pos hruns)

theorem deframe_of_badCrc (hlen : 16 ≤ f.length) (hcrc : crc16 (f.take 14) ≠ beAt f 14 2) :
    s.deframe lane f = s.inc (LN_DFHDR lane) := by
  rw [State.deframe, if_neg (by omega), if_pos hcrc]

theorem deframe_of_badFormat (hlen : 16 ≤ f.length) (hcrc : crc16 (f.take 14) = beAt f 14 2)
    (hok : (ingestHdr f).ok f.length = false) : s.deframe lane f = s.inc (LN_DFFMT lane) := by
  rw [State.deframe, if_neg (by omega), if_neg (not_not.mpr hcrc)]
  exact if_pos (by rw [hok]; rfl)

/-- The samples of the path at position p of a good frame go to the slots that map it; a path of none is counted. -/
def State.pathTake (s : State) (lane : Nat) (f : List Byte) (p : Nat) : State :=
  if s.slotsOf lane ((ingestHdr f).firstPath + p) = [] then s.inc (LN_DFUNMAP lane)
  else s.each (s.slotsOf lane ((ingestHdr f).firstPath + p)) fun s ep =>
    s.toSlot lane (ingestHdr f) (pathSamples (ingestHdr f) f p) ep.1 ep.2

theorem deframe_of_good (hlen : 16 ≤ f.length) (hcrc : crc16 (f.take 14) = beAt f 14 2)
    (hok : (ingestHdr f).ok f.length = true) : s.deframe lane f =
      (s.inc (LN_DFOK lane)).each (List.range (ingestHdr f).pathCount) fun s p => s.pathTake lane f p := by
  have hgood : ¬ (!(ingestHdr f).ok f.length) = true := by simp [hok]
  rw [State.deframe, if_neg (by omega), if_neg (not_not.mpr hcrc)]
  refine (if_neg hgood).trans ?_
  refine congrArg (fun g => (s.inc (LN_DFOK lane)).each (List.range (ingestHdr f).pathCount) g) (funext fun u => funext fun p => ?_)
  unfold State.pathTake
  split
  · rename_i hnone
    rw [if_pos hnone]
  · rename_i hsome
    rw [if_neg hsome]

/-! ## Paths without a slot (R44) -/

/-- The slots that map a path stand in the engines' registers. -/
theorem slotsOf_of_reg {path : Nat} (h : ∀ a, 0x200000 ≤ a → t.reg a = s.reg a) : t.slotsOf lane path = s.slotsOf lane path := by
  refine List.filter_congr fun ep _ => ?_
  have hslot : t.reg (FCH_PSRC ep.1 ep.2) = s.reg (FCH_PSRC ep.1 ep.2) := h _ (by unfold FCH_PSRC; omega)
  have hon : t.slotOn ep.1 ep.2 = s.slotOn ep.1 ep.2 := slotOn_of_reg (h _ (by unfold FCH_CTRL; omega)) hslot
  have hlane : t.fget (FCH_PSRC_Lane ep.1 ep.2) = s.fget (FCH_PSRC_Lane ep.1 ep.2) := fget_of_reg hslot
  have hpath : t.fget (FCH_PSRC_PathId ep.1 ep.2) = s.fget (FCH_PSRC_PathId ep.1 ep.2) := fget_of_reg hslot
  rw [hon, State.slotLane, State.slotLane, hlane, hpath]

theorem mem_slotsOf {path : Nat} (h : (e, q) ∈ s.slotsOf lane path) : e < 16 ∧ q < 16 := by
  obtain ⟨hmem, -⟩ := List.mem_filter.mp h
  simpa using hmem

/-- State t is s with n more paths counted as unmapped. -/
structure State.unmapped (s t : State) (lane n : Nat) : Prop where
  count : t.reg (LN_DFUNMAP lane) = s.reg (LN_DFUNMAP lane) + BitVec.ofNat 32 n
  other : ∀ a, a ≠ LN_DFUNMAP lane → t.reg a = s.reg a
  fch : t.fch = s.fch
  ln : t.ln = s.ln

theorem State.unmapped.inc {n : Nat} (h : s.unmapped t lane n) : s.unmapped (t.inc (LN_DFUNMAP lane)) lane (n + 1) where
  count := by rw [reg_inc_self, h.count, BitVec.ofNat_add, BitVec.add_assoc]; rfl
  other a ha := (reg_inc_ne ha).trans (h.other a ha)
  fch := h.fch
  ln := h.ln

/-- Each of the first n paths is counted where no slot takes it. -/
theorem unmapped_paths {n : Nat} (hl : lane < 96) (h : ∀ p < n, s.slotsOf lane ((ingestHdr f).firstPath + p) = []) :
    s.unmapped (s.each (List.range n) fun s p => s.pathTake lane f p) lane n := by
  induction n with
  | zero => exact ⟨(BitVec.add_zero _).symm, fun _ _ => rfl, rfl, rfl⟩
  | succ n ih =>
    have hprev := ih fun p hp => h p (hp.trans n.lt_succ_self)
    have hnone : (s.each (List.range n) fun s p => s.pathTake lane f p).slotsOf lane ((ingestHdr f).firstPath + n) = [] :=
      (slotsOf_of_reg fun a ha => hprev.other a (by unfold LN_DFUNMAP; omega)).trans (h n n.lt_succ_self)
    have hlast : s.each (List.range (n + 1)) (fun s p => s.pathTake lane f p) =
        (s.each (List.range n) fun s p => s.pathTake lane f p).inc (LN_DFUNMAP lane) := by
      rw [State.each, List.range_succ, List.foldl_append]
      exact if_pos hnone
    exact hlast ▸ hprev.inc

/-! ## A good frame of one path (R43, R46) -/

/-- A path that one slot takes. -/
theorem pathTake_of_one {p : Nat} (h : s.slotsOf lane ((ingestHdr f).firstPath + p) = [(e, q)]) :
    s.pathTake lane f p = s.toSlot lane (ingestHdr f) (pathSamples (ingestHdr f) f p) e q := by
  rw [State.pathTake, h, if_neg (List.cons_ne_nil (e, q) [])]
  rfl

/-- A frame of one path that one slot takes. -/
theorem deframe_of_one (hlen : 16 ≤ f.length) (hcrc : crc16 (f.take 14) = beAt f 14 2) (hok : (ingestHdr f).ok f.length = true)
    (hone : (ingestHdr f).pathCount = 1) (hl : lane < 96) (hslot : s.slotsOf lane (ingestHdr f).firstPath = [(e, q)]) :
    s.deframe lane f = (s.inc (LN_DFOK lane)).toSlot lane (ingestHdr f) (pathSamples (ingestHdr f) f 0) e q := by
  have hmap : (s.inc (LN_DFOK lane)).slotsOf lane ((ingestHdr f).firstPath + 0) = [(e, q)] :=
    (slotsOf_of_reg fun a ha => reg_inc_ne (by unfold LN_DFOK; omega)).trans hslot
  rw [deframe_of_good hlen hcrc hok, hone]
  exact pathTake_of_one hmap

/-- Slot q of engine e runs and expects the samples that begin with the index of header h, of the kind it takes. -/
structure State.expects (s : State) (e q : Nat) (h : IngestHdr) : Prop where
  noReset : s.unitInReset e = false
  kind : decide (h.format = 1) = s.flag (FCH_PSRC_Real e q)
  anchored : s.flag (FCH_STATUS_Anchored e) = true
  settles : 3 ≤ (s.slot e q).phase
  joined : (s.slot e q).joining = false
  index : idxDiff h.index (s.slot e q).x = 0

/-- The slot's own counter of overrange frames. -/
def State.overranged (s : State) (h : IngestHdr) (e q : Nat) : State := s.draw.when h.overrange fun s => s.inc (FCH_OVRFR e q)

theorem reg_overranged_ne {h : IngestHdr} {a : Nat} (hne : a ≠ FCH_OVRFR e q) : (s.overranged h e q).reg a = s.reg a :=
  reg_when (reg_inc_ne hne)

theorem overranged_fch {h : IngestHdr} : (s.overranged h e q).fch = s.fch := when_fch (inc_fch (s := s.draw))

theorem toSlot_full {h : IngestHdr} {xs : List (Int × Int)} (hexp : s.expects e q h)
    (hfull : Config.inputBufferFull s.fresh = true) : s.toSlot lane h xs e q = s.draw.inc (FCH_DROPFR e q) := by
  rw [State.toSlot, hexp.noReset, if_neg Bool.false_ne_true, if_neg (not_not.mpr hexp.kind), if_pos hfull]

theorem toSlot_taken {h : IngestHdr} {xs : List (Int × Int)} (hexp : s.expects e q h)
    (hfull : Config.inputBufferFull s.fresh = false) : s.toSlot lane h xs e q =
      (s.overranged h e q).slotTake e q h.index (xs.map (smpOf h.clockBad (decide (h.format = 1)))) := by
  rw [State.toSlot, hexp.noReset, if_neg Bool.false_ne_true, if_neg (not_not.mpr hexp.kind), hfull, if_neg Bool.false_ne_true]
  rfl

theorem pathSamples_length {h : IngestHdr} {p : Nat} : (pathSamples h f p).length = h.sampleCount := by simp [pathSamples]

/-- A good frame carries a sample. -/
theorem sampleCount_pos {h : IngestHdr} {n : Nat} (hok : h.ok n = true) : 1 ≤ h.sampleCount := by
  simp only [IngestHdr.ok, Bool.and_eq_true, decide_eq_true_eq] at hok
  omega

theorem offChain_dfok (hl : lane < 96) : offChain e q (LN_DFOK lane) := by
  constructor <;>
    simp only [LN_DFOK, FCH_CTRL, FCH_STATUS, FCH_SATCNT, FCH_INVOUT, FCH_FFTSAT, FCH_STAGESAT] <;> omega

/-- The samples as the slot takes them. -/
def frameSmps (f : List Byte) : List Smp :=
  (pathSamples (ingestHdr f) f 0).map (smpOf (ingestHdr f).clockBad (decide ((ingestHdr f).format = 1)))

theorem frameSmps_length : (frameSmps f).length = (ingestHdr f).sampleCount := by rw [frameSmps, List.length_map, pathSamples_length]

theorem frameSmps_ne_nil (hok : (ingestHdr f).ok f.length = true) : frameSmps f ≠ [] :=
  List.ne_nil_of_length_pos (frameSmps_length ▸ sampleCount_pos hok)

theorem FCH_INVIN_ne_OVRFR : FCH_INVIN e q ≠ FCH_OVRFR e q := by unfold FCH_INVIN FCH_OVRFR; omega

theorem FCH_STATUS_ne_OVRFR : FCH_STATUS e ≠ FCH_OVRFR e q := by unfold FCH_STATUS FCH_OVRFR; omega

theorem FCH_PSRC_ge : 0x200000 ≤ FCH_PSRC e q := by unfold FCH_PSRC; omega

theorem FCH_STATUS_ge : 0x200000 ≤ FCH_STATUS e := by unfold FCH_STATUS; omega

theorem LN_DFOK_ne_fch {a : Nat} (hl : lane < 96) (ha : 0x200000 ≤ a) : LN_DFOK lane ≠ a := by unfold LN_DFOK; omega

/-- A running slot takes the whole frame that begins at the index it expects. -/
theorem toSlot_expected (hok : (ingestHdr f).ok f.length = true) (hexp : s.expects e q (ingestHdr f))
    (hfull : Config.inputBufferFull s.fresh = false) : s.toSlot lane (ingestHdr f) (pathSamples (ingestHdr f) f 0) e q =
      (s.overranged (ingestHdr f) e q).accept e q (frameSmps f) := by
  have hslot : (s.overranged (ingestHdr f) e q).slot e q = s.slot e q := slot_of_fch_eq overranged_fch
  have hanch : (s.overranged (ingestHdr f) e q).flag (FCH_STATUS_Anchored e) = true :=
    (flag_of_fget (fget_of_reg (f := FCH_STATUS_Anchored e) (reg_overranged_ne FCH_STATUS_ne_OVRFR))).trans hexp.anchored
  rw [toSlot_taken hexp hfull, ← frameSmps]
  exact slotTake_of_expected (frameSmps_ne_nil hok) hanch (hslot ▸ hexp.settles) (hslot ▸ hexp.joined) (hslot ▸ hexp.index)

/-! ## The obligation -/

/-- A frame with a bad header or format is counted, and nothing else changes. -/
theorem badFrame {c : Nat} (h : s.deframes lane k f fs) (hbad : (s.laneHolds lane fs).deframe lane f = (s.laneHolds lane fs).inc c) :
    gives (.ingestFrame lane) s fun t => tget [] t.ln.rxq lane = fs ∧
      t.reg c = s.reg c + 1 ∧ t.fch = s.fch ∧ regsBut s t [c] := by
  refine gives_of (h.exec.trans (congrArg _ hbad)) ⟨laneHolds_rxq, ?_, laneHolds_fch (lane := lane) (fs := fs), fun a ha => ?_⟩
  · rw [reg_inc_self, reg_of_regs laneHolds_regs]
  · rw [reg_inc_ne (List.ne_of_not_mem_cons ha), reg_of_regs laneHolds_regs]

/-- The state in which a good frame is counted and goes to its slots. -/
def State.goodFrame (s : State) (lane : Nat) (fs : List (Nat × List Byte)) : State := (s.laneHolds lane fs).inc (LN_DFOK lane)

theorem goodFrame_fch : (s.goodFrame lane fs).fch = s.fch := rfl

theorem goodFrame_rxq : tget [] (s.goodFrame lane fs).ln.rxq lane = fs := laneHolds_rxq

theorem reg_goodFrame_self : (s.goodFrame lane fs).reg (LN_DFOK lane) = s.reg (LN_DFOK lane) + 1 := by
  rw [State.goodFrame, reg_inc_self, reg_of_regs laneHolds_regs]

theorem reg_goodFrame_ne {a : Nat} (h : a ≠ LN_DFOK lane) : (s.goodFrame lane fs).reg a = s.reg a := by
  rw [State.goodFrame, reg_inc_ne h, reg_of_regs laneHolds_regs]

theorem LN_DFOK_ne_DFUNMAP : LN_DFOK lane ≠ LN_DFUNMAP lane := by unfold LN_DFOK LN_DFUNMAP; omega

/-- A good frame that no slot takes a path of. -/
theorem unmappedFrame (h : s.deframes lane k f fs) (hlen : 16 ≤ f.length) (hcrc : crc16 (f.take 14) = beAt f 14 2)
    (hok : (ingestHdr f).ok f.length = true)
    (hnone : ∀ p < (ingestHdr f).pathCount, s.slotsOf lane ((ingestHdr f).firstPath + p) = []) :
    gives (.ingestFrame lane) s fun t => tget [] t.ln.rxq lane = fs ∧ t.reg (LN_DFOK lane) = s.reg (LN_DFOK lane) + 1 ∧
      t.reg (LN_DFUNMAP lane) = s.reg (LN_DFUNMAP lane) + BitVec.ofNat 32 (ingestHdr f).pathCount ∧ t.fch = s.fch ∧
      regsBut s t [LN_DFOK lane, LN_DFUNMAP lane] := by
  have hall : (s.goodFrame lane fs).unmapped
      ((s.goodFrame lane fs).each (List.range (ingestHdr f).pathCount) fun s p => s.pathTake lane f p)
      lane (ingestHdr f).pathCount :=
    unmapped_paths h.lane_lt fun p hp =>
      (slotsOf_of_reg fun a ha => reg_goodFrame_ne (LN_DFOK_ne_fch h.lane_lt ha).symm).trans (hnone p hp)
  refine gives_of (h.exec.trans (congrArg _ (deframe_of_good hlen hcrc hok))) ⟨?_, ?_, ?_, ?_, fun a ha => ?_⟩
  · exact (congrArg (fun l => tget [] l.rxq lane) hall.ln).trans goodFrame_rxq
  · exact (hall.other _ LN_DFOK_ne_DFUNMAP).trans reg_goodFrame_self
  · exact hall.count.trans (congrArg (· + _) (reg_goodFrame_ne LN_DFOK_ne_DFUNMAP.symm))
  · exact hall.fch.trans goodFrame_fch
  · obtain ⟨hok, hunmap⟩ := not_or.mp (List.mem_cons.not.mp ha)
    exact (hall.other a (List.ne_of_not_mem_cons hunmap)).trans (reg_goodFrame_ne hok)

/-- The frame's count leaves what its slot expects. -/
theorem State.expects.goodFrame {h : IngestHdr} (hexp : s.expects e q h) (hl : lane < 96) : (s.goodFrame lane fs).expects e q h := by
  have hunit {a : Nat} (ha : 0x200000 ≤ a) : (s.goodFrame lane fs).reg a = s.reg a := reg_goodFrame_ne (LN_DFOK_ne_fch hl ha).symm
  have hslot : (s.goodFrame lane fs).slot e q = s.slot e q := slot_of_fch_eq goodFrame_fch
  exact {
    noReset := by
      rw [State.unitInReset, reg_goodFrame_ne (by unfold GLB_URSTAT LN_DFOK; omega)]
      exact hexp.noReset
    kind := hexp.kind.trans (flag_of_fget (fget_of_reg (f := FCH_PSRC_Real e q) (hunit FCH_PSRC_ge))).symm
    anchored := (flag_of_fget (fget_of_reg (f := FCH_STATUS_Anchored e) (hunit FCH_STATUS_ge))).trans hexp.anchored
    settles := hslot ▸ hexp.settles
    joined := hslot ▸ hexp.joined
    index := hslot ▸ hexp.index }

/-- A good frame of one path that one slot takes goes to it. -/
theorem oneSlotFrame (h : s.deframes lane k f fs) (hlen : 16 ≤ f.length) (hcrc : crc16 (f.take 14) = beAt f 14 2)
    (hok : (ingestHdr f).ok f.length = true) (hone : (ingestHdr f).pathCount = 1)
    (hslot : s.slotsOf lane (ingestHdr f).firstPath = [(e, q)]) : exec (.ingestFrame lane) s =
      .next ((s.goodFrame lane fs).toSlot lane (ingestHdr f) (pathSamples (ingestHdr f) f 0) e q) := by
  have hheld : (s.laneHolds lane fs).slotsOf lane (ingestHdr f).firstPath = [(e, q)] :=
    (slotsOf_of_reg fun _ _ => reg_of_regs laneHolds_regs).trans hslot
  exact h.exec.trans (congrArg _ (deframe_of_one hlen hcrc hok hone h.lane_lt hheld))

/-- Where the engine's input buffer is full the slot drops the frame. -/
theorem frameDropped (hl : lane < 96) (hexp : s.expects e q (ingestHdr f)) (hfull : Config.inputBufferFull s.fresh = true)
    {t : State} (ht : t = (s.goodFrame lane fs).toSlot lane (ingestHdr f) (pathSamples (ingestHdr f) f 0) e q) :
    t.reg (LN_DFOK lane) = s.reg (LN_DFOK lane) + 1 ∧ t.fch = s.fch ∧ regsBut s t [LN_DFOK lane, FCH_DROPFR e q] ∧
      t.reg (FCH_DROPFR e q) = s.reg (FCH_DROPFR e q) + 1 := by
  have hne : LN_DFOK lane ≠ FCH_DROPFR e q := LN_DFOK_ne_fch hl (by unfold FCH_DROPFR; omega)
  rw [ht, toSlot_full (hexp.goodFrame hl) hfull]
  refine ⟨?_, goodFrame_fch (lane := lane) (fs := fs), fun a ha => ?_, ?_⟩
  · rw [reg_inc_ne hne, reg_draw, reg_goodFrame_self]
  · obtain ⟨hdfok, hdrop⟩ := not_or.mp (List.mem_cons.not.mp ha)
    rw [reg_inc_ne (List.ne_of_not_mem_cons hdrop), reg_draw, reg_goodFrame_ne hdfok]
  · rw [reg_inc_self, reg_draw, reg_goodFrame_ne hne.symm]

/-- Else it takes every sample. -/
theorem frameTaken (hl : lane < 96) (he : e < 16) (hq : q < 16) (hok : (ingestHdr f).ok f.length = true)
    (hexp : s.expects e q (ingestHdr f)) (hfull : Config.inputBufferFull s.fresh = false)
    {t : State} (ht : t = (s.goodFrame lane fs).toSlot lane (ingestHdr f) (pathSamples (ingestHdr f) f 0) e q) :
    t.reg (LN_DFOK lane) = s.reg (LN_DFOK lane) + 1 ∧
      (t.slot e q).x = idxAdd (ingestHdr f).index (ingestHdr f).sampleCount ∧
      t.reg (FCH_INVIN e q) = s.reg (FCH_INVIN e q) + BitVec.ofNat 32 ((frameSmps f).filter (·.inv)).length := by
  have hinvin : LN_DFOK lane ≠ FCH_INVIN e q := LN_DFOK_ne_fch hl (by unfold FCH_INVIN; omega)
  have hovrfr : LN_DFOK lane ≠ FCH_OVRFR e q := LN_DFOK_ne_fch hl (by unfold FCH_OVRFR; omega)
  rw [ht, toSlot_expected hok (hexp.goodFrame hl) hfull]
  refine ⟨?_, ?_, ?_⟩
  · rw [reg_accept_ne (offChain_dfok hl) hinvin, reg_overranged_ne hovrfr, reg_goodFrame_self]
  · rw [accept_slot_x hq (frameSmps_ne_nil hok), slot_of_fch_eq overranged_fch, frameSmps_length,
      idxAdd_of_idxDiff (hexp.goodFrame hl).index]
  · rw [reg_accept_invin he hq, reg_overranged_ne FCH_INVIN_ne_OVRFR, reg_goodFrame_ne hinvin.symm]

/-- Settles O19: the deframer's outcomes, and a good frame by whether the engine's input buffer is full. -/
theorem ingest : Obligations.Ingest := by
  unfold Obligations.Ingest
  refine ⟨fun s lane k f fs hl hq hmode hx hrun hsp hlen => ?_, ?_⟩
  · have h : s.deframes lane k f fs := ⟨hl, hq, hmode, hx, hrun, hsp⟩
    exact ⟨fun hcrc => badFrame h (deframe_of_badCrc hlen hcrc),
      fun hcrc hok => badFrame h (deframe_of_badFormat hlen hcrc hok),
      fun hcrc hok hnone => unmappedFrame h hlen hcrc hok hnone⟩
  · intro s lane e q k f fs hl hqueue hreset hmode hx hrun hsp hlen hcrc hok hone hslot hkind hanch hphase hjoin hidx
    have hexp : s.expects e q (ingestHdr f) := ⟨hreset, hkind, hanch, hphase, hjoin, hidx⟩
    obtain ⟨he, hq⟩ := mem_slotsOf (hslot ▸ List.mem_singleton.mpr rfl : (e, q) ∈ s.slotsOf lane (ingestHdr f).firstPath)
    refine gives_of (oneSlotFrame ⟨hl, hqueue, hmode, hx, hrun, hsp⟩ hlen hcrc hok hone hslot) ?_
    by_cases hfull : Config.inputBufferFull s.fresh = true
    · rw [if_pos hfull]
      exact frameDropped hl hexp hfull rfl
    · rw [if_neg hfull]
      exact frameTaken hl he hq hok hexp (Bool.eq_false_iff.mpr hfull) rfl

end Sys2Proof.Machine
end

section
/-! SUPPORT. What the shared operations of a pod leave (R104 to R106, R110, R388 to R390): one relation for the sampler and the
cycle counts beside a program, one for a sequencer that goes on, one for a sequencer that stops; and what issue does. -/

namespace Sys2Proof.Machine

variable {s t u : State} {p q : Nat}

/-! ## What stays outside one pod -/

/-- Only pod p, its status word, the counters and the log differ between s and t. -/
structure PodOnly (p : Nat) (s t : State) : Prop where
  pods : ∀ q, q ≠ p → t.pod q = s.pod q
  reg : ∀ a, offLog a → a ≠ POD_STATUS p → t.reg a = s.reg a

theorem PodOnly.trans (h : PodOnly p s t) (g : PodOnly p t u) : PodOnly p s u :=
  ⟨fun q hq => (g.pods q hq).trans (h.pods q hq), fun a ha hs => (g.reg a ha hs).trans (h.reg a ha hs)⟩

theorem offLog_pod {a : Nat} (hlo : 0x400000 ≤ a) (hhi : a < 0xC00000) : offLog a :=
  ⟨by unfold GLB_INTPEND; omega, hhi⟩

theorem offLog_GREG {i : Nat} (hq : q < 64) (hi : i < 8) : offLog (POD_GREG q i) := by
  unfold POD_GREG
  exact offLog_pod (by omega) (by omega)

theorem GREG_ne_STATUS {i : Nat} (hi : i < 8) : POD_GREG q i ≠ POD_STATUS p := by
  unfold POD_GREG POD_STATUS
  omega

theorem GREG_ne {i j : Nat} (hi : i < 8) (hj : j < 8) (h : q ≠ p ∨ i ≠ j) : POD_GREG q i ≠ POD_GREG p j := by
  unfold POD_GREG
  omega

theorem greg_of_reg {i : Nat} (h : t.reg (POD_GREG q i) = s.reg (POD_GREG q i)) : t.greg q i = s.greg q i := by
  rw [State.greg, State.greg, h]

theorem PodOnly.greg {i : Nat} (h : PodOnly p s t) (hq : q < 64) (hi : i < 8) : t.greg q i = s.greg q i :=
  greg_of_reg (h.reg _ (offLog_GREG hq hi) (GREG_ne_STATUS hi))

theorem PodOnly.alone {r : Nat} (h : PodOnly p s t) : podAlone s t p r :=
  ⟨h.pods, fun _ _ hq hi _ => h.greg hq hi⟩

theorem podAlone_trans {r : Nat} (h : podAlone s t p r) (g : podAlone t u p r) : podAlone s u p r :=
  ⟨fun q hq => (g.1 q hq).trans (h.1 q hq), fun q i hq hi hne => (g.2 q i hq hi hne).trans (h.2 q i hq hi hne)⟩

theorem podAlone_setGreg {r v : Nat} (hr : r < 8) : podAlone s (s.setGreg p r v) p r :=
  ⟨fun _ _ => rfl, fun _ _ _ hi hne => greg_of_reg (reg_setReg_ne (GREG_ne hi hr hne))⟩

theorem greg_setGreg {r v : Nat} : (s.setGreg p r v).greg p r = v % 2 ^ 32 := by
  rw [State.greg, State.setGreg, reg_setReg_self, BitVec.toNat_ofNat]

@[simp] theorem pod_setReg {a : Nat} {w : BitVec 32} : (s.setReg a w).pod q = s.pod q := rfl
@[simp] theorem pod_fset {f : Fld} {v : Nat} : (s.fset f v).pod q = s.pod q := rfl
@[simp] theorem pod_setGreg {i v : Nat} : (s.setGreg p i v).pod q = s.pod q := pod_setReg

theorem fget_setGreg_status {r v : Nat} {f : Fld} (hr : r < 8) (hf : f.addr = POD_STATUS p) : (s.setGreg q r v).fget f = s.fget f :=
  fget_setReg_ne (hf ▸ (GREG_ne_STATUS hr).symm)

/-! ## The sampler and the cycle counts -/

/-- A pod without what only the sampler and the cycle counts look at. -/
def PodSt.plain (x : PodSt) : PodSt :=
  { x with stood := false, pipCount := 0, pipArmed := false, pip := none, clk := 0, lastL := 0, held := 0, heldN := 0 }

theorem eq_of_plain {β : Type} {x y : PodSt} (h : x.plain = y.plain) (π : PodSt → β) (hπ : ∀ x, π x.plain = π x) : π x = π y := by
  rw [← hπ, h, hπ]

/-- From s to t no more has changed than the pods' own state, registers and draws. -/
def OnlyPods (s t : State) : Prop := t = { s with array := { s.array with pod := t.array.pod }, regs := t.regs, fresh := t.fresh }

theorem OnlyPods.trans (h : OnlyPods s t) (g : OnlyPods t u) : OnlyPods s u := by
  unfold OnlyPods at h g ⊢
  rw [g, h]

theorem onlyPods_modPod {f : PodSt → PodSt} : OnlyPods s (s.modPod p f) := rfl
theorem onlyPods_fset {f : Fld} {v : Nat} : OnlyPods s (s.fset f v) := rfl

/-- From s to t the sampler and the cycle counts of pod p have moved, and nothing else. -/
structure Beside (p : Nat) (s t : State) : Prop where
  pods : ∀ q, q ≠ p → t.pod q = s.pod q
  plain : (t.pod p).plain = (s.pod p).plain
  reg : ∀ a, offLog a → t.reg a = s.reg a
  rest : OnlyPods s t

@[simp] theorem pod_modPod {f : PodSt → PodSt} : (s.modPod p f).pod p = f (s.pod p) := setPod_pod

theorem Beside.refl : Beside p s s := ⟨fun _ _ => rfl, rfl, fun _ _ => rfl, rfl⟩

theorem Beside.trans (h : Beside p s t) (g : Beside p t u) : Beside p s u where
  pods q hq := (g.pods q hq).trans (h.pods q hq)
  plain := g.plain.trans h.plain
  reg a ha := (g.reg a ha).trans (h.reg a ha)
  rest := h.rest.trans g.rest

theorem Beside.only (h : Beside p s t) : PodOnly p s t := ⟨h.pods, fun a ha _ => h.reg a ha⟩

/-- What of a pod the sampler and the cycle counts are no part of. -/
theorem Beside.keeps {β : Type} (h : Beside p s t) (π : PodSt → β) (hπ : ∀ x, π x.plain = π x) : π (t.pod p) = π (s.pod p) :=
  eq_of_plain h.plain π hπ

theorem beside_modPod {f : PodSt → PodSt} (h : (f (s.pod p)).plain = (s.pod p).plain) : Beside p s (s.modPod p f) where
  pods _ hq := setPod_pod_ne hq
  plain := (congrArg PodSt.plain setPod_pod).trans h
  reg _ _ := rfl
  rest := rfl

theorem beside_pmc {n k : Nat} : Beside p s (s.pmc n k) := ⟨fun _ _ => rfl, rfl, fun _ ha => reg_pmc_of_offLog ha, rfl⟩

theorem beside_draw : Beside p s s.draw := ⟨fun _ _ => rfl, rfl, fun _ _ => rfl, rfl⟩

theorem beside_podClock {n : Nat} : Beside p s (s.podClock p n) := beside_modPod rfl

theorem beside_pipChosen {op pc : Nat} {trigger : Bool} : Beside p s (s.pipChosen p op pc trigger) := by
  unfold State.pipChosen
  split
  · exact beside_pmc
  · exact beside_modPod rfl

theorem beside_pipIssue {op pc : Nat} : Beside p s (s.pipIssue p op pc) := by
  dsimp only [State.pipIssue]
  split
  · exact .refl
  split
  · split
    · exact beside_modPod rfl
    · exact (beside_modPod rfl).trans beside_pipChosen
  split
  · exact (beside_modPod rfl).trans beside_pipChosen
  · exact .refl

theorem beside_pipRetire {exact : Option Nat} {aborted : Bool} : Beside p s (s.pipRetire p exact aborted) := by
  unfold State.pipRetire
  split
  · split
    · exact .refl
    · split
      · exact beside_modPod rfl
      · exact (beside_modPod rfl).trans beside_draw
  · exact .refl

theorem beside_pipWait {op n : Nat} {last : Option Nat} : Beside p s (s.pipWait p op n last) := by
  unfold State.pipWait
  split
  · split
    · exact beside_modPod rfl
    · exact .refl
  · exact .refl

theorem beside_pipVoid : Beside p s (s.pipVoid p) := by
  unfold State.pipVoid
  split
  · split
    · exact beside_modPod rfl
    · exact .refl
  · exact .refl

theorem beside_pipDone {op : Nat} : Beside p s (s.pipDone p op) := by
  dsimp only [State.pipDone]
  split
  · split
    · split
      · exact (beside_modPod rfl).trans beside_pipRetire
      · exact beside_modPod rfl
    · exact .refl
  · exact .refl

/-- The counter of a stall cause rises by 1, where it has one. -/
def State.stallCounted (s : State) (p cause : Nat) : State :=
  match stallReg p cause with
  | some a => s.inc a
  | none => s

theorem stallCounted_modPod {cause : Nat} {f : PodSt → PodSt} :
    (s.modPod p f).stallCounted p cause = (s.stallCounted p cause).modPod p f := by
  unfold State.stallCounted
  split <;> rfl

/-- A stalled cycle in the record of the sampled instruction. -/
def State.pipStalled (s : State) (p cause : Nat) : State :=
  match (s.pod p).pip with
  | some r => if r.done.isSome then s else
      s.modPod p fun x => { x with pip := some { r with stalls := tset 0 r.stalls cause (tget 0 r.stalls cause + 1) } }
  | none => s

theorem beside_pipStalled {cause : Nat} : Beside p s (s.pipStalled p cause) := by
  unfold State.pipStalled
  split
  · split
    · exact .refl
    · exact beside_modPod rfl
  · exact .refl

theorem stallFor_eq {cause : Nat} : s.stallFor p cause 1 =
    (((s.stallCounted p cause).pmc (80 + p) 1).podClock p (if cause = 5 then 0 else 1)).pipStalled p cause := rfl

theorem beside_stallFor {cause : Nat} : Beside p (s.stallCounted p cause) (s.stallFor p cause 1) :=
  stallFor_eq ▸ (beside_pmc.trans beside_podClock).trans beside_pipStalled

/-- A stalled cycle is its count, and beside it the sampler's and the cycles'. -/
theorem beside_stall {cause : Nat} : Beside p (s.stallCounted p cause) (s.stall p cause) := by
  refine Beside.trans ?_ beside_stallFor
  rw [stallCounted_modPod]
  refine beside_modPod ?_
  split <;> rfl

end Sys2Proof.Machine
end

section
/-! SUPPORT. A pod's sequencer: what it leaves where it goes on, where it stops and where its program faults, and what issue hands to
an instruction (R104 to R106, R110). -/

namespace Sys2Proof.Machine

variable {s t u : State} {p q n : Nat}

/-! ## What the sampler leaves as it was -/

theorem offLog_status (hp : p < 64) : offLog (POD_STATUS p) := by
  unfold POD_STATUS
  exact offLog_pod (by omega) (by omega)

theorem Beside.fget (h : Beside p s t) {f : Fld} (hf : offLog f.addr) : t.fget f = s.fget f := fget_of_reg (h.reg _ hf)

theorem Beside.flag (h : Beside p s t) {f : Fld} (hf : offLog f.addr) : t.flag f = s.flag f := flag_of_fget (h.fget hf)

theorem Beside.pc (h : Beside p s t) (hp : p < 64) : t.pc p = s.pc p := h.fget (offLog_status hp)

theorem Beside.greg (h : Beside p s t) {i : Nat} (hq : q < 64) (hi : i < 8) : t.greg q i = s.greg q i := h.only.greg hq hi

theorem nextPc_congr (hl : (t.pod p).loop = (s.pod p).loop) (hpc : t.pc p = s.pc p) : t.nextPc p = s.nextPc p := by
  unfold State.nextPc
  rw [hl, hpc]

theorem nextPc_modPod {f : PodSt → PodSt} (h : (f (s.pod p)).loop = (s.pod p).loop) : (s.modPod p f).nextPc p = s.nextPc p :=
  nextPc_congr ((congrArg PodSt.loop pod_modPod).trans h) rfl

theorem Beside.nextPc (h : Beside p s t) (hp : p < 64) : t.nextPc p = s.nextPc p :=
  nextPc_congr (h.keeps PodSt.loop fun _ => rfl) (h.pc hp)

/-! ## The sequencer goes on -/

/-- A pod without the sequencer's place in its program. -/
def PodSt.task (x : PodSt) : PodSt := { x.plain with loop := none, beats := none, wait := 0 }

theorem eq_of_task {β : Type} {x y : PodSt} (h : x.task = y.task) (π : PodSt → β) (hπ : ∀ x, π x.task = π x) : π x = π y := by
  rw [← hπ, h, hπ]

/-- From s to t the sequencer of pod p has gone to word n, and nothing else of the array has changed. -/
structure Goes (p n : Nat) (s t : State) : Prop where
  only : PodOnly p s t
  task : (t.pod p).task = (s.pod p).task
  status : ∀ f, f.addr = POD_STATUS p → f.lo + f.width ≤ 1 ∨ 2 ≤ f.lo → f.lo + f.width ≤ 8 ∨ 20 ≤ f.lo → t.fget f = s.fget f
  rest : OnlyPods s t
  pc : t.pc p = n
  wait : (t.pod p).wait = 0
  waiting : t.fget (POD_STATUS_Waiting p) = 0

theorem Goes.wentOn (h : Goes p (s.nextPc p) u t) : wentOn s t p := ⟨h.pc, h.wait, h.waiting⟩

/-- What of a pod the sequencer's place is no part of. -/
theorem Goes.keeps {β : Type} (h : Goes p n s t) (π : PodSt → β) (hπ : ∀ x, π x.task = π x) : π (t.pod p) = π (s.pod p) :=
  eq_of_task h.task π hπ

theorem Goes.after_beside (h : Beside p s u) (hp : p < 64) (g : Goes p n u t) : Goes p n s t where
  only := h.only.trans g.only
  task := g.task.trans (congrArg (fun x : PodSt => { x with loop := none, beats := none, wait := 0 }) h.plain)
  status f hf hw hpc := (g.status f hf hw hpc).trans (h.fget (hf ▸ offLog_status hp))
  rest := h.rest.trans g.rest
  pc := g.pc
  wait := g.wait
  waiting := g.waiting

theorem podOnly_modPod {f : PodSt → PodSt} : PodOnly p s (s.modPod p f) := ⟨fun _ hq => setPod_pod_ne hq, fun _ _ _ => rfl⟩

theorem podOnly_fset_status {f : Fld} {v : Nat} (hf : f.addr = POD_STATUS p) : PodOnly p s (s.fset f v) :=
  ⟨fun _ _ => rfl, fun _ _ ha => reg_fset_ne (hf ▸ ha)⟩

theorem Goes.after_modPod {f : PodSt → PodSt} (h : (f (s.pod p)).task = (s.pod p).task) (g : Goes p n (s.modPod p f) t) :
    Goes p n s t where
  only := podOnly_modPod.trans g.only
  task := g.task.trans ((congrArg PodSt.task setPod_pod).trans h)
  status := g.status
  rest := onlyPods_modPod.trans g.rest
  pc := g.pc
  wait := g.wait
  waiting := g.waiting

theorem podGoto_of_lt (hn : n < 4096) : s.podGoto p n =
    ((s.modPod p fun x => { x with wait := 0, stood := false, held := 0, beats := none }).fset (POD_STATUS_Waiting p) 0).fset
      (POD_STATUS_Pc p) n := by
  rw [State.podGoto, if_neg (by omega)]

theorem podGoto_pod (hn : n < 4096) : (s.podGoto p n).pod p = { s.pod p with wait := 0, stood := false, held := 0, beats := none } := by
  rw [podGoto_of_lt hn]
  exact setPod_pod

/-- A field reads what was written where it fits. -/
theorem fget_fset_of_lt {f : Fld} {v : Nat} (h : f.lo + f.width ≤ 32) (hv : v < 2 ^ f.width) : (s.fset f v).fget f = v :=
  (fget_fset h).trans (Nat.mod_eq_of_lt hv)

theorem goes_podGoto (hn : n < 4096) : Goes p n s (s.podGoto p n) where
  only := podGoto_of_lt hn ▸ (podOnly_modPod.trans (podOnly_fset_status rfl)).trans (podOnly_fset_status rfl)
  task := by
    rw [podGoto_pod hn]
    rfl
  status f hf hw hpc := by
    rw [podGoto_of_lt hn, fget_fset_ne (.inr hpc), fget_fset_ne (.inr hw)]
    rfl
  rest := podGoto_of_lt hn ▸ (onlyPods_modPod.trans onlyPods_fset).trans onlyPods_fset
  pc := by
    rw [podGoto_of_lt hn]
    exact fget_fset_of_lt (f := POD_STATUS_Pc p) (by simp [POD_STATUS_Pc]) hn
  wait := by rw [podGoto_pod hn]
  waiting := by
    rw [podGoto_of_lt hn, fget_fset_ne (.inr (.inl (by decide : 1 + 1 ≤ 8)))]
    exact fget_fset_of_lt (f := POD_STATUS_Waiting p) (by simp [POD_STATUS_Waiting]) (by simp [POD_STATUS_Waiting])

theorem goes_podNext (hn : s.nextPc p < 4096) : Goes p (s.nextPc p) s (s.podNext p) := by
  revert hn
  unfold State.nextPc State.podNext
  cases (s.pod p).loop with
  | none => exact goes_podGoto
  | some l =>
    obtain ⟨a, b, left⟩ := l
    by_cases hb : s.pc p = b
    · by_cases hl : 1 < left
      · simp only [if_pos hb, if_pos hl]
        exact fun hn => (goes_podGoto hn).after_modPod rfl
      · simp only [if_pos hb, if_neg hl]
        exact fun hn => (goes_podGoto hn).after_modPod rfl
    · simp only [if_neg hb]
      exact goes_podGoto

/-- The sequencer goes on after operations beside the program. -/
theorem goes_podNext_after (h : Beside p s u) (hp : p < 64) (hn : s.nextPc p < 4096) : Goes p (s.nextPc p) s (u.podNext p) :=
  (h.nextPc hp ▸ goes_podNext (h.nextPc hp ▸ hn)).after_beside h hp

theorem goes_podStep (hp : p < 64) (hn : s.nextPc p < 4096) : Goes p (s.nextPc p) s (s.podStep p) :=
  goes_podNext_after (beside_pipRetire.trans beside_podClock) hp hn

theorem goes_podResume (hp : p < 64) (hn : s.nextPc p < 4096) : Goes p (s.nextPc p) s (s.podResume p) :=
  goes_podNext_after (beside_podClock.trans beside_pipRetire) hp hn

theorem goes_podIssued_goto {k : Nat} (hp : p < 64) (hn : n < 4096) : Goes p n s (s.podIssued p k fun s => s.podGoto p n) :=
  (goes_podGoto hn).after_beside (beside_pipRetire.trans beside_podClock) hp

/-! ## The sequencer stops -/

/-- From s to t the sequencer of pod p has stopped, and the pod has left its ports and barriers. -/
structure Halts (p : Nat) (s t : State) : Prop where
  only : PodOnly p s t
  kept : { (t.pod p).task with seq := false } = { (s.pod p).task with seq := false }
  seq : (t.pod p).seq = false
  loop : (t.pod p).loop = none
  status : ∀ f, f.addr = POD_STATUS p → f.lo = 2 ∨ 4 ≤ f.lo → f.lo + f.width ≤ 3 ∨ 4 ≤ f.lo → t.fget f = s.fget f

theorem podSettle_of_waits (h : ((s.pod p).start && !(s.pod p).outstanding && s.isRun) = false) : s.podSettle p =
    (s.fset (POD_STATUS_Running p) (if (s.pod p).seq || (s.pod p).outstanding then 1 else 0)).fset (POD_STATUS_DrainBusy p)
      (if (s.pod p).drains.isEmpty then 0 else 1) := by
  dsimp only [State.podSettle]
  rw [h]
  rfl

theorem podSettle_of_not_start (h : (s.pod p).start = false) : s.podSettle p =
    (s.fset (POD_STATUS_Running p) (if (s.pod p).seq || (s.pod p).outstanding then 1 else 0)).fset (POD_STATUS_DrainBusy p)
      (if (s.pod p).drains.isEmpty then 0 else 1) := podSettle_of_waits (by rw [h]; rfl)

theorem podOnly_podSettle (h : (s.pod p).start = false) : PodOnly p s (s.podSettle p) :=
  podSettle_of_not_start h ▸ (podOnly_fset_status rfl).trans (podOnly_fset_status rfl)

theorem podSettle_pod (h : (s.pod p).start = false) : (s.podSettle p).pod q = s.pod q := by rw [podSettle_of_not_start h]; rfl

theorem fget_podSettle {f : Fld} (h : (s.pod p).start = false) (h0 : 1 ≤ f.lo) (h3 : f.lo + f.width ≤ 3 ∨ 4 ≤ f.lo) :
    (s.podSettle p).fget f = s.fget f := by
  rw [podSettle_of_not_start h, fget_fset_ne (.inr h3), fget_fset_ne (g := POD_STATUS_Running p) (.inr (.inr h0))]

theorem podOnly_leavePorts : PodOnly p s (s.leavePorts p) := ⟨fun _ _ => rfl, fun _ _ _ => rfl⟩

theorem halts_podEnd (h : (s.pod p).start = false) : Halts p s (s.podEnd p) := by
  have hpod : (((s.modPod p fun x => { x with seq := false, loop := none, beats := none, wait := 0, stood := false, held := 0
      }).leavePorts p).fset (POD_STATUS_Waiting p) 0).pod p =
      { s.pod p with seq := false, loop := none, beats := none, wait := 0, stood := false, held := 0 } := setPod_pod
  have hstart := (congrArg PodSt.start hpod).trans h
  have hend : (s.podEnd p).pod p = _ := (podSettle_pod hstart).trans hpod
  refine ⟨((podOnly_modPod.trans podOnly_leavePorts).trans (podOnly_fset_status rfl)).trans (podOnly_podSettle hstart), ?_, ?_, ?_,
    fun f hf hlo hhi => ?_⟩
  · rw [hend]
    rfl
  · rw [hend]
  · rw [hend]
  · unfold State.podEnd
    rw [fget_podSettle hstart (by omega) hhi, fget_fset_ne (.inr (.inr (by rcases hlo with h | h <;> omega : 1 + 1 ≤ f.lo)))]
    rfl

theorem Halts.after_beside (h : Beside p s u) (hp : p < 64) (g : Halts p u t) : Halts p s t where
  only := h.only.trans g.only
  kept := g.kept.trans (congrArg (fun x : PodSt => { x with loop := none, beats := none, wait := 0, seq := false }) h.plain)
  seq := g.seq
  loop := g.loop
  status f hf hlo hhi := (g.status f hf hlo hhi).trans (h.fget (hf ▸ offLog_status hp))

theorem halts_podHalt (hp : p < 64) (h : (s.pod p).start = false) : Halts p s (s.podHalt p) :=
  (halts_podEnd ((beside_pipRetire.keeps PodSt.start fun _ => rfl).trans h)).after_beside beside_pipRetire hp

/-! ## Program faults (R106) -/

theorem log_array {code site inst info : Nat} : (s.log code site inst info).array = s.array := log_kept.same .array rfl

theorem podOnly_log {code site inst info : Nat} : PodOnly p s (s.log code site inst info) :=
  ⟨fun _ _ => by rw [State.pod, State.pod, log_array], fun _ ha _ => reg_log_of_offLog ha⟩

theorem podFaultEnter_only {c : Nat} (hp : p < 64) (h : (s.pod p).start = false) : PodOnly p s (s.podFaultEnter p c) :=
  ((podOnly_fset_status rfl).trans (podOnly_fset_status rfl)).trans
    ((halts_podHalt (s := (s.fset (POD_STATUS_FaultCode p) c).fset (POD_STATUS_Fault p) 1) hp h).only.trans podOnly_log)

theorem podFaultEnter_faulted {c : Nat} (hp : p < 64) (hc : c < 256) (h : (s.pod p).start = false) :
    podFaulted s (s.podFaultEnter p c) p c := by
  have hhalt : Halts p ((s.fset (POD_STATUS_FaultCode p) c).fset (POD_STATUS_Fault p) 1) _ := halts_podHalt hp h
  have hlog {f : Fld} (hf : f.addr = POD_STATUS p) (hlo : 4 ≤ f.lo) : (s.podFaultEnter p c).fget f =
      ((s.fset (POD_STATUS_FaultCode p) c).fset (POD_STATUS_Fault p) 1).fget f :=
    (fget_of_reg (reg_log_of_offLog (hf ▸ offLog_status hp))).trans (hhalt.status f hf (.inr hlo) (.inr hlo))
  refine ⟨?_, ?_, ?_, ?_⟩
  · rw [State.podFaultEnter, State.pod, log_array]
    exact hhalt.seq
  · rw [hlog rfl (Nat.le_refl 4)]
    exact fget_fset_one rfl (by decide : 4 < 32)
  · rw [hlog rfl (by decide : 4 ≤ 24), fget_fset_ne (.inr (.inr (by decide : 4 + 1 ≤ 24)))]
    exact fget_fset_of_lt (f := POD_STATUS_FaultCode p) (by simp [POD_STATUS_FaultCode]) hc
  · rw [State.pc, hlog rfl (by decide : 4 ≤ 8), fget_fset_ne (.inr (.inr (by decide : 4 + 1 ≤ 8))),
      fget_fset_ne (.inr (.inl (by decide : 8 + 12 ≤ 24)))]
    rfl

theorem podFaultEnter_keeps {c : Nat} {β : Type} (hp : p < 64) (h : (s.pod p).start = false) (π : PodSt → β)
    (hπ : ∀ x, π { x.task with seq := false } = π x) : π ((s.podFaultEnter p c).pod p) = π (s.pod p) := by
  have hhalt : Halts p ((s.fset (POD_STATUS_FaultCode p) c).fset (POD_STATUS_Fault p) 1) _ := halts_podHalt hp h
  rw [State.podFaultEnter, State.pod, log_array, ← hπ]
  exact (congrArg π hhalt.kept).trans (hπ _)

theorem fget_podFaultEnter {c : Nat} {f : Fld} (hp : p < 64) (h : (s.pod p).start = false) (hf : f.addr = POD_STATUS p)
    (hlo : 5 ≤ f.lo) (hhi : f.lo + f.width ≤ 24) : (s.podFaultEnter p c).fget f = s.fget f := by
  have hhalt : Halts p ((s.fset (POD_STATUS_FaultCode p) c).fset (POD_STATUS_Fault p) 1) _ := halts_podHalt hp h
  have hlog : (s.podFaultEnter p c).fget f = ((s.fset (POD_STATUS_FaultCode p) c).fset (POD_STATUS_Fault p) 1).fget f :=
    (fget_of_reg (reg_log_of_offLog (hf ▸ offLog_status hp))).trans (hhalt.status f hf (.inr (by omega)) (.inr (by omega)))
  rw [hlog, fget_fset_ne (g := POD_STATUS_Fault p) (.inr (.inr hlo)), fget_fset_ne (g := POD_STATUS_FaultCode p) (.inr (.inl hhi))]

/-- The program fault of a pod that no context owns. -/
theorem podFault_faulted {c : Nat} (hp : p < 64) (hc : c < 256) (hown : s.owner p = none) (h : (s.pod p).start = false) :
    podFaulted s (s.podFault p c) p c := by
  rw [State.podFault, hown]
  exact podFaultEnter_faulted hp hc h

end Sys2Proof.Machine
end

section
/-! Proofs about the instructions that use only the pod's registers and its program (R99, R104 to R106, R387). -/

namespace Sys2Proof.Machine

variable {s t u : State} {p q n w : Nat}

/-! ## Issue -/

/-- The state that an instruction at issue works on: it stands, and the sampler has looked at it (R388). -/
def State.issuing (s : State) (p op : Nat) : State :=
  if (s.pod p).stood then s.modPod p fun x => { x with held := 0 }
  else (s.modPod p fun x => { x with stood := true }).pipIssue p op (s.pc p)

theorem beside_issuing {op : Nat} : Beside p s (s.issuing p op) := by
  unfold State.issuing
  split
  · exact beside_modPod rfl
  · exact (beside_modPod rfl).trans beside_pipIssue

theorem issue_of_atIssue {op : Nat} {f : State → Nat → State} (h : s.atIssue p w) (hop : w / 2 ^ 58 = op) (hk : opKnown op = true) :
    s.issue p op f = f (s.issuing p op) w := by
  obtain ⟨-, hrun, hseq, rfl, -⟩ := h
  dsimp only [State.issue]
  rw [hseq, hrun, hop, hk]
  simp [State.issuing]

theorem issue_of_unknown {op : Nat} {f : State → Nat → State} (h : s.atIssue p w) (hk : opKnown (w / 2 ^ 58) = false) :
    s.issue p op f = s.podFault p 1 := by
  obtain ⟨-, hrun, hseq, rfl, -⟩ := h
  dsimp only [State.issue]
  rw [hseq, hrun, hk]
  rfl

/-- An instruction at issue gives what its effect gives. -/
theorem exec_of_atIssue {c : Instr} {op : Nat} {f : State → Nat → State} (hx : exec c s = reply (64 ≤ p) (s.issue p op f))
    (h : s.atIssue p w) (hop : w / 2 ^ 58 = op) (hk : opKnown op = true) : exec c s = .next (f (s.issuing p op) w) := by
  rw [hx, reply_of_not (by have := h.1; omega), issue_of_atIssue h hop hk]

theorem goes_podStep_after (h : Beside p s u) (hp : p < 64) (hn : s.nextPc p < 4096) : Goes p (s.nextPc p) s (u.podStep p) :=
  goes_podNext_after (h.trans (beside_pipRetire.trans beside_podClock)) hp hn

theorem bits_lt {x lo k : Nat} : bits x lo k < 2 ^ k := Nat.mod_lt _ (Nat.two_pow_pos k)

/-- The instruction at issue is done. -/
theorem goes_of_issuing (h : s.atIssue p w) (hn : u.nextPc p = s.nextPc p) : Goes p (s.nextPc p) u (u.podStep p) :=
  hn ▸ goes_podStep h.1 (hn ▸ h.2.2.2.2)

/-! ## One register is written -/

/-- An instruction that writes one register, with whatever else pod p does after it. -/
theorem regWritten {r v : Nat} (hp : p < 64) (hu : Beside p s u) (hr : r < 8) (h : PodOnly p (u.setGreg p r v) t) :
    podAlone s t p r ∧ t.greg p r = v % 2 ^ 32 :=
  ⟨podAlone_trans hu.only.alone (podAlone_trans (podAlone_setGreg hr) h.alone), (h.greg hp hr).trans greg_setGreg⟩

theorem pc_setGreg {r v : Nat} (hu : Beside p s u) (hp : p < 64) (hr : r < 8) : (u.setGreg p r v).pc p = s.pc p :=
  (fget_setGreg_status hr rfl).trans (hu.pc hp)

theorem nextPc_setGreg {r v : Nat} (hu : Beside p s u) (hp : p < 64) (hr : r < 8) : (u.setGreg p r v).nextPc p = s.nextPc p :=
  nextPc_congr ((congrArg PodSt.loop pod_setGreg).trans (hu.keeps PodSt.loop fun _ => rfl)) (pc_setGreg hu hp hr)

/-- Settles O7: each writes at most one register and goes on. -/
theorem podPlainInstructions : Obligations.PodPlainInstructions := by
  unfold Obligations.PodPlainInstructions
  intro s p w h
  have hp := h.1
  have hr : bits w 55 3 < 8 := bits_lt
  have hgo {op : Nat} : wentOn s ((s.issuing p op).podStep p) p ∧ podAlone s ((s.issuing p op).podStep p) p 8 :=
    have hgoes := goes_podStep_after beside_issuing hp h.2.2.2.2
    ⟨hgoes.wentOn, hgoes.only.alone⟩
  have hset {op v : Nat} : wentOn s (((s.issuing p op).setGreg p (bits w 55 3) v).podStep p) p ∧
      podAlone s (((s.issuing p op).setGreg p (bits w 55 3) v).podStep p) p (bits w 55 3) ∧
      (((s.issuing p op).setGreg p (bits w 55 3) v).podStep p).greg p (bits w 55 3) = v % 2 ^ 32 :=
    have hgoes := goes_of_issuing h (nextPc_setGreg (v := v) (beside_issuing (op := op)) hp hr)
    ⟨hgoes.wentOn, regWritten hp beside_issuing hr hgoes.only⟩
  refine ⟨fun hop => gives_of (exec_of_atIssue rfl h hop rfl) hgo, fun hop => gives_of (exec_of_atIssue rfl h hop rfl) ?_,
    fun hop => gives_of (exec_of_atIssue rfl h hop rfl) ?_, fun hop hz => gives_of (exec_of_atIssue rfl h hop rfl) ?_⟩
  · obtain ⟨hwent, halone, hval⟩ := hset (op := 0x01) (v := bits w 0 32)
    exact ⟨hwent, halone, hval.trans (Nat.mod_eq_of_lt bits_lt)⟩
  · rw [beside_issuing.greg hp bits_lt]
    exact hset
  · dsimp only
    rw [beside_issuing.greg hp hr, if_pos hz]
    exact hgo

/-! ## Jumps and loops (R104, R105) -/

theorem greg_lt {i : Nat} : s.greg p i < 2 ^ 32 := BitVec.isLt _

theorem bnzTaken (h : s.atIssue p w) (hop : w / 2 ^ 58 = 0x03) (hz : s.greg p (bits w 55 3) ≠ 0) : gives (.bnz p) s fun t =>
    t.pc p = bits w 0 12 ∧ t.greg p (bits w 55 3) = s.greg p (bits w 55 3) - 1 ∧ podAlone s t p (bits w 55 3) := by
  have hp := h.1
  have hr : bits w 55 3 < 8 := bits_lt
  refine gives_of (exec_of_atIssue rfl h hop rfl) ?_
  dsimp only
  rw [beside_issuing.greg hp hr, if_neg hz]
  have hgo : Goes p (bits w 0 12) ((s.issuing p 0x03).setGreg p (bits w 55 3) (s.greg p (bits w 55 3) - 1)) _ :=
    goes_podIssued_goto (k := 2) hp bits_lt
  obtain ⟨halone, hval⟩ := regWritten hp beside_issuing hr hgo.only
  exact ⟨hgo.pc, hval.trans (Nat.mod_eq_of_lt (lt_of_le_of_lt (Nat.sub_le ..) greg_lt)), halone⟩

theorem jmpGoes (h : s.atIssue p w) (hop : w / 2 ^ 58 = 0x04) :
    ∃ t, exec (.jmp p) s = .next t ∧ t.pc p = bits w 0 12 ∧ (t.pod p).wait = 0 ∧ podAlone s t p 8 := by
  have hgo : Goes p (bits w 0 12) (s.issuing p 0x04) _ := goes_podIssued_goto (k := 2) h.1 bits_lt
  exact ⟨_, exec_of_atIssue rfl h hop rfl, hgo.pc, hgo.wait, (beside_issuing.only.trans hgo.only).alone⟩

theorem Beside.pmWord (h : Beside p s t) (hp : p < 64) (hn : n < 8192) : t.pmWord p n = s.pmWord p n := by
  have hlo : offLog (POD_PM_LO p n) := offLog_pod (by unfold POD_PM_LO; omega) (by unfold POD_PM_LO; omega)
  have hhi : offLog (POD_PM_HI p n) := offLog_pod (by unfold POD_PM_HI; omega) (by unfold POD_PM_HI; omega)
  rw [State.pmWord, State.pmWord, State.get2, State.get2, h.reg _ hlo, h.reg _ hhi]

theorem Beside.owner (h : Beside p s t) (hq : q < 64) : t.owner q = s.owner q := by
  have haddr : offLog (POD_OWNER q) := offLog_pod (by unfold POD_OWNER; omega) (by unfold POD_OWNER; omega)
  rw [State.owner, State.owner, h.flag (f := POD_OWNER_Owned q) haddr, h.fget (f := POD_OWNER_Context q) haddr]

theorem Beside.start (h : Beside p s t) : (t.pod p).start = (s.pod p).start := (h.keeps PodSt.start fun _ => rfl)

/-- The program fault of a pod that no context owns, after operations beside the program. -/
theorem podFaulted_after {c : Nat} (hu : Beside p s u) (hp : p < 64) (hc : c < 256) (hown : s.owner p = none)
    (hstart : (s.pod p).start = false) : podFaulted s (u.podFault p c) p c := by
  obtain ⟨hseq, hf, hcode, hpc⟩ := podFault_faulted hp hc ((hu.owner hp).trans hown) (hu.start.trans hstart)
  exact ⟨hseq, hf, hcode, hpc.trans (hu.pc hp)⟩

theorem pc_lt : s.pc p < 4096 := Nat.mod_lt _ (by decide : 0 < 2 ^ 12)

/-- The check of a loop body reads the words of the program as they stand (R105). -/
theorem loopOp_any (hu : Beside p s u) (hp : p < 64) {len : Nat} (hlen : len ≤ 64) :
    ((List.range len).any fun i => noLoopOp (u.pmWord p (u.pc p + 1 + i) / 2 ^ 58)) = true ↔
      ∃ i < len, noLoopOp (s.pmWord p (s.pc p + 1 + i) / 2 ^ 58) = true := by
  have hw : ∀ i < len, u.pmWord p (u.pc p + 1 + i) = s.pmWord p (s.pc p + 1 + i) := fun i hi => by
    have := pc_lt (s := s) (p := p)
    rw [hu.pc hp]
    exact hu.pmWord hp (by omega)
  simp only [List.any_eq_true, List.mem_range]
  exact exists_congr fun i => and_congr_right fun hi => by rw [hw i hi]

/-- What LOOP does, by its body and its count (R105). -/
theorem loop_exec (h : s.atIssue p w) (hop : w / 2 ^ 58 = 0x05) {len n : Nat} (hlen : len = bits w 52 6 + 1)
    (hn : n = (if bits w 51 1 = 1 then s.greg p (bits w 48 3) else bits w 0 16)) : exec (.loop p) s = .next
      (if 4096 < s.pc p + 1 + len ∨ ∃ i < len, noLoopOp (s.pmWord p (s.pc p + 1 + i) / 2 ^ 58) = true then
        (s.issuing p 0x05).podFault p 2
      else if n = 0 then (s.issuing p 0x05).podIssued p 1 fun s' => s'.podGoto p (s.pc p + 1 + len)
      else (s.issuing p 0x05).podIssued p 1 fun s' =>
        (s'.modPod p fun x => { x with loop := some (s.pc p + 1, s.pc p + len, n) }).podGoto p (s.pc p + 1)) := by
  have hp := h.1
  have hlast : s.pc p + 1 + len - 1 = s.pc p + len := by omega
  have hbody := loopOp_any (beside_issuing (s := s) (op := 0x05)) hp (hlen ▸ bits_lt : len ≤ 64)
  rw [beside_issuing.pc hp] at hbody
  rw [exec_of_atIssue (c := .loop p) rfl h hop rfl]
  simp only [← hlen, hbody, beside_issuing.pc hp, beside_issuing.greg hp (bits_lt : bits w 48 3 < 2 ^ 3), ← hn, hlast]

/-- A loop is in force where the sequencer has gone to its first word. -/
theorem podGoto_loop {n : Nat} {l : Option (Nat × Nat × Nat)} (hn : n < 4096) :
    (((s.modPod p fun x => { x with loop := l }).podGoto p n).pod p).loop = l := by
  rw [podGoto_pod hn, State.modPod, setPod_pod]

theorem loopRuns {len n : Nat} (h : s.atIssue p w) (hop : w / 2 ^ 58 = 0x05) (hlen : len = bits w 52 6 + 1)
    (hn : n = (if bits w 51 1 = 1 then s.greg p (bits w 48 3) else bits w 0 16)) :
    ((∀ i < len, noLoopOp (s.pmWord p (s.pc p + 1 + i) / 2 ^ 58) = false) → s.pc p + 1 + len < 4096 → n = 0 →
      ∃ t, exec (.loop p) s = .next t ∧ t.pc p = s.pc p + 1 + len ∧ podAlone s t p 8) ∧
    ((∀ i < len, noLoopOp (s.pmWord p (s.pc p + 1 + i) / 2 ^ 58) = false) → s.pc p + 1 + len ≤ 4096 → n ≠ 0 →
      ∃ t, exec (.loop p) s = .next t ∧ t.pc p = s.pc p + 1 ∧
        (t.pod p).loop = some (s.pc p + 1, s.pc p + len, n) ∧ podAlone s t p 8) ∧
    ((4096 < s.pc p + 1 + len ∨ ∃ i < len, noLoopOp (s.pmWord p (s.pc p + 1 + i) / 2 ^ 58) = true) → s.owner p = none →
      (s.pod p).start = false → ∃ t, exec (.loop p) s = .next t ∧ podFaulted s t p 2) := by
  have hp := h.1
  have hex := loop_exec h hop hlen hn
  have hgood (hb : ∀ i < len, noLoopOp (s.pmWord p (s.pc p + 1 + i) / 2 ^ 58) = false) (hfit : s.pc p + 1 + len ≤ 4096) :
      ¬ (4096 < s.pc p + 1 + len ∨ ∃ i < len, noLoopOp (s.pmWord p (s.pc p + 1 + i) / 2 ^ 58) = true) := by
    rintro (hlt | ⟨i, hi, hop⟩)
    · omega
    · rw [hb i hi] at hop
      cases hop
  refine ⟨fun hb hfit hz => ?_, fun hb hfit hz => ?_, fun hbad hown hstart => ?_⟩
  · rw [if_neg (hgood hb (by omega)), if_pos hz] at hex
    have hgo : Goes p (s.pc p + 1 + len) (s.issuing p 0x05) _ := goes_podIssued_goto (k := 1) hp hfit
    exact ⟨_, hex, hgo.pc, (beside_issuing.only.trans hgo.only).alone⟩
  · rw [if_neg (hgood hb hfit), if_neg hz] at hex
    have hlt : s.pc p + 1 < 4096 := by omega
    have hclk : Beside p s (((s.issuing p 0x05).pipRetire p (some 1) false).podClock p 1) :=
      beside_issuing.trans (beside_pipRetire.trans beside_podClock)
    have hgo := goes_podGoto (p := p) (s := (((s.issuing p 0x05).pipRetire p (some 1) false).podClock p 1).modPod p fun x =>
      { x with loop := some (s.pc p + 1, s.pc p + len, n) }) hlt
    refine ⟨_, hex, hgo.pc, ?_, ((hclk.only.trans podOnly_modPod).trans hgo.only).alone⟩
    exact podGoto_loop hlt
  · rw [if_pos hbad] at hex
    exact ⟨_, hex, podFaulted_after beside_issuing hp (by decide) hown hstart⟩

/-- A sequencer that has stopped, shown as halted. -/
theorem Halts.shown (h : Halts p s t) : (t.fset (POD_STATUS_Halted p) 1).fget (POD_STATUS_Halted p) = 1 ∧
    ((t.fset (POD_STATUS_Halted p) 1).pod p).seq = false ∧ ((t.fset (POD_STATUS_Halted p) 1).pod p).loop = none ∧
    (t.fset (POD_STATUS_Halted p) 1).pc p = s.pc p ∧ podAlone s (t.fset (POD_STATUS_Halted p) 1) p 8 := by
  refine ⟨fget_fset_one rfl (by decide : 2 < 32), ?_, ?_, ?_, (h.only.trans (podOnly_fset_status rfl)).alone⟩
  · rw [pod_fset, h.seq]
  · rw [pod_fset, h.loop]
  · rw [State.pc, fget_fset_ne (.inr (.inr (by decide : 2 + 1 ≤ 8)))]
    exact h.status (POD_STATUS_Pc p) rfl (.inr (by decide : 4 ≤ 8)) (.inr (by decide : 4 ≤ 8))

/-- HALT stops the sequencer on its word (R104). -/
theorem haltStops (h : s.atIssue p w) (hop : w / 2 ^ 58 = 0x3F) (hstart : (s.pod p).start = false) :
    ∃ t, exec (.halt p) s = .next t ∧ t.fget (POD_STATUS_Halted p) = 1 ∧ (t.pod p).seq = false ∧ (t.pod p).loop = none ∧
      t.pc p = s.pc p ∧ podAlone s t p 8 := by
  have hclk : Beside p s (((s.issuing p 0x3F).pipRetire p (some 1) false).podClock p 1) :=
    beside_issuing.trans (beside_pipRetire.trans beside_podClock)
  exact ⟨_, exec_of_atIssue rfl h hop rfl, ((halts_podEnd (hclk.start.trans hstart)).after_beside hclk h.1).shown⟩

/-! ## Reads of the counters (R387) -/

/-- The registers that issue may write are those of the counter of lost records. -/
theorem reg_issuing_ne {op a : Nat} (hl : a ≠ PMC_LIVE_LO 8) (hh : a ≠ PMC_LIVE_HI 8) : (s.issuing p op).reg a = s.reg a := by
  have hchosen {u : State} {pc : Nat} {tr : Bool} (hu : u.reg a = s.reg a) : (u.pipChosen p op pc tr).reg a = s.reg a := by
    unfold State.pipChosen
    split
    · exact (reg_pmc_ne hl hh).trans hu
    · exact hu
  unfold State.issuing
  split
  · rfl
  · dsimp only [State.pipIssue]
    split
    · rfl
    split
    · split
      · rfl
      · exact hchosen rfl
    split
    · exact hchosen rfl
    · rfl

/-- Where no record is taken, issue writes no register. -/
theorem issuing_regs {op : Nat} (h : s.pipSelected p = false ∨ (s.pod p).stood = true) : (s.issuing p op).regs = s.regs := by
  unfold State.issuing
  split
  · rfl
  · rename_i hst
    have hsel : (s.modPod p fun x => { x with stood := true }).pipSelected p = false := h.resolve_right hst
    dsimp only [State.pipIssue]
    rw [if_pos (by simp [hsel])]
    rfl

theorem pmcView_of_reg {n : Nat} {b : Bool} (hs : t.reg PMC_STATUS = s.reg PMC_STATUS)
    (hl : t.reg (PMC_LIVE_LO n) = s.reg (PMC_LIVE_LO n)) (hh : t.reg (PMC_LIVE_HI n) = s.reg (PMC_LIVE_HI n))
    (hsl : t.reg (PMC_SHADOW_LO n) = s.reg (PMC_SHADOW_LO n)) (hsh : t.reg (PMC_SHADOW_HI n) = s.reg (PMC_SHADOW_HI n)) :
    t.pmcView n b = s.pmcView n b := by
  rw [State.pmcView, State.pmcView, flag_of_fget (fget_of_reg (f := PMC_STATUS_Held) hs), State.pmcLive, State.pmcLive, State.get2,
    State.get2, State.get2, State.get2, hl, hh, hsl, hsh]

/-- A counter reads at issue as it stands, but the count of lost records where the instruction may lose one. -/
theorem pmcView_issuing {op n : Nat} {b : Bool} (h : n ≠ 8 ∨ s.pipSelected p = false ∨ (s.pod p).stood = true) :
    (s.issuing p op).pmcView n b = s.pmcView n b := by
  rcases h with hn | h
  · refine pmcView_of_reg ?_ ?_ ?_ ?_ ?_ <;> refine reg_issuing_ne ?_ ?_ <;>
      (simp only [PMC_STATUS, PMC_LIVE_LO, PMC_LIVE_HI, PMC_SHADOW_LO, PMC_SHADOW_HI]; omega)
  · have hregs {a : Nat} : (s.issuing p op).reg a = s.reg a := reg_of_regs (issuing_regs h)
    exact pmcView_of_reg hregs hregs hregs hregs hregs

theorem flag_issuing_permit {op : Nat} {f : Fld} (hf : f.addr = PMC_PERMIT) : (s.issuing p op).flag f = s.flag f :=
  flag_of_fget (fget_of_reg (reg_issuing_ne (by rw [hf]; decide) (by rw [hf]; decide)))

theorem get2_lt {lo hi : Nat} : s.get2 lo hi < 2 ^ 64 := by
  have hl := (s.reg lo).isLt
  have hh := (s.reg hi).isLt
  unfold State.get2
  omega

theorem pmcView_lt {n : Nat} {b : Bool} : s.pmcView n b < 2 ^ 64 := by
  unfold State.pmcView State.pmcLive
  split <;> exact get2_lt

/-- What RDPMC does, by the permission, its half and the latch of an earlier low read (R387). -/
theorem rdpmc_exec (h : s.atIssue p w) (hop : w / 2 ^ 58 = 0x11) : exec (.rdpmc p) s = .next
    (if s.flag PMC_PERMIT_PodRead = false then
      (((s.issuing p 0x11).setGreg p (bits w 55 3) 0).fset (POD_STATUS_PmcDenied p) 1).podStep p
    else if bits w 9 1 = 0 then
      (((s.issuing p 0x11).setGreg p (bits w 55 3) ((s.issuing p 0x11).pmcView (bits w 0 9) (s.flag PMC_PERMIT_PodShadow))).modPod p
        fun x => { x with pmc := some (bits w 0 9,
          (s.issuing p 0x11).pmcView (bits w 0 9) (s.flag PMC_PERMIT_PodShadow) / 2 ^ 32) }).podStep p
    else
      ((s.issuing p 0x11).setGreg p (bits w 55 3) (match (s.pod p).pmc with
        | some (m, hi) => if m = bits w 0 9 then hi
          else (s.issuing p 0x11).pmcView (bits w 0 9) (s.flag PMC_PERMIT_PodShadow) / 2 ^ 32
        | none => (s.issuing p 0x11).pmcView (bits w 0 9) (s.flag PMC_PERMIT_PodShadow) / 2 ^ 32)).podStep p) := by
  have hpmc : ((s.issuing p 0x11).pod p).pmc = (s.pod p).pmc := (beside_issuing.keeps PodSt.pmc fun _ => rfl)
  rw [exec_of_atIssue (c := .rdpmc p) rfl h hop rfl]
  dsimp only
  rw [flag_issuing_permit rfl, flag_issuing_permit rfl, hpmc]
  cases s.flag PMC_PERMIT_PodRead <;> rfl

/-- Without permission the register reads 0. -/
theorem rdpmcDenied (h : s.atIssue p w) (hop : w / 2 ^ 58 = 0x11) (hperm : s.flag PMC_PERMIT_PodRead = false) :
    ∃ t, exec (.rdpmc p) s = .next t ∧ wentOn s t p ∧ t.greg p (bits w 55 3) = 0 ∧
      t.fget (POD_STATUS_PmcDenied p) = 1 ∧ podAlone s t p (bits w 55 3) := by
  have hp := h.1
  have hr : bits w 55 3 < 8 := bits_lt
  have hn : (((s.issuing p 0x11).setGreg p (bits w 55 3) 0).fset (POD_STATUS_PmcDenied p) 1).nextPc p = s.nextPc p :=
    (nextPc_congr (congrArg PodSt.loop pod_fset) (fget_fset_ne (.inr (.inr (by decide : 6 + 1 ≤ 8))))).trans
      (nextPc_setGreg beside_issuing hp hr)
  have hgo := goes_of_issuing h hn
  obtain ⟨halone, hval⟩ := regWritten hp beside_issuing hr ((podOnly_fset_status rfl).trans hgo.only)
  have hex := rdpmc_exec h hop
  rw [if_pos hperm] at hex
  refine ⟨_, hex, hgo.wentOn, hval, ?_, halone⟩
  exact (hgo.status (POD_STATUS_PmcDenied p) rfl (.inr (by decide : 2 ≤ 6)) (.inl (by decide : 6 + 1 ≤ 8))).trans
    (fget_fset_one rfl (by decide : 6 < 32))

/-- A low read gives the low word and holds the upper bits. -/
theorem rdpmcLow (h : s.atIssue p w) (hop : w / 2 ^ 58 = 0x11) (hperm : s.flag PMC_PERMIT_PodRead = true) {v : Nat}
    (hv : (s.issuing p 0x11).pmcView (bits w 0 9) (s.flag PMC_PERMIT_PodShadow) = v) (hlow : bits w 9 1 = 0) :
    ∃ t, exec (.rdpmc p) s = .next t ∧ wentOn s t p ∧ podAlone s t p (bits w 55 3) ∧
      t.greg p (bits w 55 3) = v % 2 ^ 32 ∧ (t.pod p).pmc = some (bits w 0 9, v / 2 ^ 32) := by
  have hp := h.1
  have hr : bits w 55 3 < 8 := bits_lt
  have hn : (((s.issuing p 0x11).setGreg p (bits w 55 3) v).modPod p fun x =>
      { x with pmc := some (bits w 0 9, v / 2 ^ 32) }).nextPc p = s.nextPc p :=
    (nextPc_modPod rfl).trans (nextPc_setGreg beside_issuing hp hr)
  have hgo := goes_of_issuing h hn
  obtain ⟨halone, hval⟩ := regWritten hp beside_issuing hr (podOnly_modPod.trans hgo.only)
  have hex := rdpmc_exec h hop
  rw [if_neg (by simp [hperm]), if_pos hlow, hv] at hex
  refine ⟨_, hex, hgo.wentOn, halone, hval, (hgo.keeps PodSt.pmc fun _ => rfl).trans ?_⟩
  rw [pod_modPod]

/-- A high read gives what the latch holds of its counter, else the counter's present upper bits. -/
theorem rdpmcHigh (h : s.atIssue p w) (hop : w / 2 ^ 58 = 0x11) (hperm : s.flag PMC_PERMIT_PodRead = true) {hi : Nat}
    (hlt : hi < 2 ^ 32) (hhigh : bits w 9 1 = 1) (hhi : (match (s.pod p).pmc with
      | some (m, hi) => if m = bits w 0 9 then hi
        else (s.issuing p 0x11).pmcView (bits w 0 9) (s.flag PMC_PERMIT_PodShadow) / 2 ^ 32
      | none => (s.issuing p 0x11).pmcView (bits w 0 9) (s.flag PMC_PERMIT_PodShadow) / 2 ^ 32) = hi) :
    ∃ t, exec (.rdpmc p) s = .next t ∧ wentOn s t p ∧ podAlone s t p (bits w 55 3) ∧ t.greg p (bits w 55 3) = hi := by
  have hp := h.1
  have hr : bits w 55 3 < 8 := bits_lt
  have hgo := goes_of_issuing h (nextPc_setGreg (v := hi) (beside_issuing (op := 0x11)) hp hr)
  obtain ⟨halone, hval⟩ := regWritten hp beside_issuing hr hgo.only
  have hex := rdpmc_exec h hop
  rw [if_neg (by simp [hperm]), if_neg (by omega), hhi] at hex
  exact ⟨_, hex, hgo.wentOn, halone, hval.trans (Nat.mod_eq_of_lt hlt)⟩

/-- Settles O8, instruction by instruction. -/
theorem podControl : Obligations.PodControl := by
  unfold Obligations.PodControl
  refine ⟨fun s p w h => ⟨bnzTaken h, jmpGoes h⟩, fun s p w len n h hop hlen hn => loopRuns h hop hlen hn,
    fun s p w h hop hstart => haltStops h hop hstart, fun s p w h hk hown hstart => ?_, fun s p w h hop => ⟨rdpmcDenied h hop,
    fun v hperm hcount hv => ⟨fun hlow => ?_, fun hhigh hother => ?_⟩, fun hi hperm hhigh hheld hlt => ?_⟩⟩
  · refine gives_of (t := s.podFault p 1) ?_ (podFault_faulted h.1 (by decide) hown hstart)
    show execNop p s = _
    rw [execNop, reply_of_not (by have := h.1; omega), issue_of_unknown h hk]
  · exact rdpmcLow h hop hperm ((pmcView_issuing hcount).trans hv.symm) hlow
  · have hview := (pmcView_issuing (op := 0x11) (b := s.flag PMC_PERMIT_PodShadow) hcount).trans hv.symm
    refine rdpmcHigh h hop hperm (hi := v / 2 ^ 32) ?_ hhigh ?_
    · have := pmcView_lt (s := s) (n := bits w 0 9) (b := s.flag PMC_PERMIT_PodShadow)
      omega
    · split
      · rename_i m hi heq
        rw [if_neg fun hm => hother (by rw [heq, hm]; rfl), hview]
      · rw [hview]
  · obtain ⟨t, hex, hwent, halone, hval⟩ := rdpmcHigh h hop hperm (hi := hi) (by omega) hhigh (by rw [hheld]; exact if_pos rfl)
    exact ⟨t, hex, hwent, hval, halone⟩

end Sys2Proof.Machine
end

section
/-! Proofs about the loads of weights and initial values and their completions (R102, R103, R108, R427). -/

namespace Sys2Proof.Machine

variable {s t u : State} {p q n w op : Nat}

/-! ## What the loads read -/

theorem offLog_PCFG (hq : q < 64) : offLog (POD_PCFG q) := offLog_pod (by unfold POD_PCFG; omega) (by unfold POD_PCFG; omega)

theorem Beside.podBeam (h : Beside p s t) (hq : q < 64) : t.podBeam q = s.podBeam q := h.flag (f := POD_PCFG_Mode q) (offLog_PCFG hq)

theorem Beside.podPart (h : Beside p s t) (hq : q < 64) : t.podPart q = s.podPart q :=
  h.fget (f := POD_PCFG_Partition q) (offLog_PCFG hq)

theorem Beside.podFormat (h : Beside p s t) (hq : q < 64) : t.podFormat q = s.podFormat q := by
  rw [State.podFormat, State.podFormat, h.fget (f := POD_PCFG_Format q) (offLog_PCFG hq)]

theorem OnlyPods.array (h : OnlyPods s t) : t.array = { s.array with pod := t.array.pod } := by
  unfold OnlyPods at h
  exact (congrArg State.array h :)

theorem OnlyPods.cur (h : OnlyPods s t) : t.array.cur = s.array.cur := by rw [h.array]
theorem OnlyPods.store (h : OnlyPods s t) : t.array.store = s.array.store := by rw [h.array]
theorem OnlyPods.desc (h : OnlyPods s t) : t.array.desc = s.array.desc := by rw [h.array]
theorem OnlyPods.req (h : OnlyPods s t) : t.array.req = s.array.req := by rw [h.array]
theorem OnlyPods.openp (h : OnlyPods s t) : t.array.openp = s.array.openp := by rw [h.array]

theorem OnlyPods.presented {k st : Nat} (h : OnlyPods s t) : t.presented k st = s.presented k st := by
  rw [State.presented, State.presented, h.cur]

theorem OnlyPods.storeLe {i k : Nat} (h : OnlyPods s t) : t.storeLe p i k = s.storeLe p i k := by
  unfold State.storeLe State.storeByte
  rw [h.store]

theorem Beside.weightSet {set ch : Nat} (h : Beside p s t) (hp : p < 64) : t.weightSet p set ch = s.weightSet p set ch := by
  unfold State.weightSet
  simp only [h.podFormat hp, h.rest.storeLe]

theorem find?_congr_mem {α : Type} {l : List α} {f g : α → Bool} (h : ∀ x ∈ l, f x = g x) : l.find? f = l.find? g := by
  induction l with
  | nil => rfl
  | cons x l ih =>
    rw [List.find?_cons, List.find?_cons, h x (List.mem_cons_self ..), ih fun y hy => h y (List.mem_cons_of_mem _ hy)]

theorem Beside.groupChan {g : Nat} (h : Beside p s t) : t.groupChan g = s.groupChan g := by
  have hfch {a : Nat} (hlo : 0x200000 ≤ a) (hhi : a < 0x300000) : offLog a := ⟨by unfold GLB_INTPEND; omega, by omega⟩
  have hfirst : ∀ e < 16, t.fget (FCH_CHSEL_First e) = s.fget (FCH_CHSEL_First e) := fun e he =>
    h.fget (f := FCH_CHSEL_First e) (hfch (by simp only [FCH_CHSEL_First, FCH_CHSEL]; omega) (by simp only [FCH_CHSEL_First, FCH_CHSEL]; omega))
  have hfind : (List.range 16).find? (fun e => t.flag (FCH_CTRL_Enable e)) = (List.range 16).find? fun e => s.flag (FCH_CTRL_Enable e) :=
    find?_congr_mem fun e he => h.flag (f := FCH_CTRL_Enable e) (by
      have := List.mem_range.mp he
      exact hfch (by simp only [FCH_CTRL_Enable, FCH_CTRL]; omega) (by simp only [FCH_CTRL_Enable, FCH_CTRL]; omega))
  have hown : t.ownFirst = s.ownFirst := h.fget ⟨by decide, by decide⟩
  unfold State.groupChan
  rw [hfind, hown]
  cases hf : (List.range 16).find? fun e => s.flag (FCH_CTRL_Enable e) with
  | none => simp only [Option.getD_none, hfirst 0 (by decide)]
  | some e => simp only [Option.getD_some, hfirst e (List.mem_range.mp (List.mem_of_find?_eq_some hf))]

/-! ## What a load and a completion leave -/

/-- An instruction that changes pod p's own state and goes on. -/
theorem goes_after_modPod {f : PodSt → PodSt} (h : s.atIssue p w) (hu : Beside p s u) (hloop : (f (u.pod p)).loop = (u.pod p).loop)
    (ht : Beside p (u.modPod p f) t) :
    wentOn s (t.podNext p) p ∧ podAlone s (t.podNext p) p 8 ∧ ((t.podNext p).pod p).task = (f (u.pod p)).task := by
  have hn : (u.modPod p f).nextPc p = s.nextPc p := (nextPc_modPod hloop).trans (hu.nextPc h.1)
  have hgo : Goes p (s.nextPc p) (u.modPod p f) (t.podNext p) := hn ▸ goes_podNext_after ht h.1 (hn ▸ h.2.2.2.2)
  exact ⟨hgo.wentOn, ((hu.only.trans podOnly_modPod).trans hgo.only).alone, hgo.task.trans (congrArg PodSt.task pod_modPod)⟩

/-- A completion of pod p, settled, where no start waits. -/
theorem settled {f : PodSt → PodSt} (hf : (f (s.pod p)).start = false) :
    podAlone s (((s.modPod p f).pipDone p op).podSettle p) p 8 ∧
      ((((s.modPod p f).pipDone p op).podSettle p).pod p).plain = (f (s.pod p)).plain := by
  have hdone : Beside p (s.modPod p f) ((s.modPod p f).pipDone p op) := beside_pipDone
  have hstart : (((s.modPod p f).pipDone p op).pod p).start = false := by
    rw [hdone.start, pod_modPod, hf]
  refine ⟨((podOnly_modPod.trans hdone.only).trans (podOnly_podSettle hstart)).alone, ?_⟩
  rw [podSettle_pod hstart, hdone.plain, pod_modPod]

/-! ## WLD, WSWAP -/

theorem wldQueued (h : s.atIssue p w) (hop : w / 2 ^ 58 = 0x0B) (hbeam : s.podBeam p = true) {cur : Presented}
    (hcur : s.presented (s.podPart p) (bits w 52 2) = some cur) : gives (.wld p) s fun t => wentOn s t p ∧
      (t.pod p).wlds = (s.pod p).wlds ++
        [s.weightSet p ((bits w 0 7 + s.greg p (bits w 55 3)) % 128) (s.groupChan cur.pg.g)] ∧ podAlone s t p 8 := by
  have hp := h.1
  have hu : Beside p s (s.issuing p 0x0B) := beside_issuing
  have hv : Beside p s ((s.issuing p 0x0B).pipVoid p) := hu.trans beside_pipVoid
  refine gives_of (exec_of_atIssue rfl h hop rfl) ?_
  dsimp only
  rw [hu.podBeam hp, hbeam, hu.podPart hp, hu.rest.presented, hcur, hu.greg hp bits_lt, if_neg (by decide)]
  dsimp only
  rw [hu.weightSet hp, hu.groupChan]
  obtain ⟨hwent, halone, htask⟩ := goes_after_modPod (f := fun x => { x with wlds := x.wlds ++
    [s.weightSet p ((bits w 0 7 + s.greg p (bits w 55 3)) % 128) (s.groupChan cur.pg.g)] }) h hv rfl
    (beside_pipWait.trans beside_podClock)
  refine ⟨hwent, ?_, halone⟩
  rw [← hv.keeps PodSt.wlds fun _ => rfl]
  exact eq_of_task htask PodSt.wlds fun _ => rfl

theorem wldDone (hp : p < 64) (hclk : s.fastClk = true) (hstart : (s.pod p).start = false) {x : WSet} {xs : List WSet}
    (hw : (s.pod p).wlds = x :: xs) : gives (.wldComplete p) s fun t =>
      (t.pod p).wlds = xs ∧ (t.pod p).shadow = some x ∧ podAlone s t p 8 := by
  obtain ⟨halone, hplain⟩ := settled (op := 0x0B) (f := fun y : PodSt => { y with wlds := xs, shadow := some x }) hstart
  refine gives_of ?_ ⟨eq_of_plain hplain PodSt.wlds fun _ => rfl, eq_of_plain hplain PodSt.shadow fun _ => rfl, halone⟩
  show execWldComplete p s = _
  rw [execWldComplete, reply_of_not (by omega), hclk, hw]
  rfl

theorem wswapDone (h : s.atIssue p w) (hop : w / 2 ^ 58 = 0x0C) (hbeam : s.podBeam p = true) (hnone : (s.pod p).wlds = []) :
    gives (.wswap p) s fun t => wentOn s t p ∧ (t.pod p).weights = (s.pod p).shadow ∧ (t.pod p).shadow = (s.pod p).shadow ∧
      podAlone s t p 8 := by
  have hp := h.1
  have hu : Beside p s (s.issuing p 0x0C) := beside_issuing
  obtain ⟨hwent, halone, htask⟩ := goes_after_modPod (f := fun x => { x with weights := x.shadow }) h hu rfl
    (beside_podClock.trans beside_pipRetire)
  refine gives_of (exec_of_atIssue rfl h hop rfl) ?_
  rw [hu.podBeam hp, hbeam, hu.keeps PodSt.wlds fun _ => rfl, hnone, if_neg (by decide), if_neg (by simp)]
  refine ⟨hwent, ?_, ?_, halone⟩
  · rw [← hu.keeps PodSt.shadow fun _ => rfl]
    exact eq_of_task htask PodSt.weights fun _ => rfl
  · rw [← hu.keeps PodSt.shadow fun _ => rfl]
    exact eq_of_task htask PodSt.shadow fun _ => rfl

/-! ## WINIT -/

theorem winitQueued (h : s.atIssue p w) (hop : w / 2 ^ 58 = 0x0D) : gives (.winit p) s fun t => wentOn s t p ∧
    podAlone s t p 8 ∧ (t.pod p).winits = (s.pod p).winits ++
      [⟨(s.pod p).active, bits w 49 4 + 1, (bits w 0 7 + s.greg p (bits w 55 3)) % 128⟩] := by
  have hu : Beside p s (s.issuing p 0x0D) := beside_issuing
  have hv : Beside p s ((s.issuing p 0x0D).pipVoid p) := hu.trans beside_pipVoid
  obtain ⟨hwent, halone, htask⟩ := goes_after_modPod (f := fun x => { x with winits := x.winits ++
    [⟨x.active, bits w 49 4 + 1, (bits w 0 7 + s.greg p (bits w 55 3)) % 128⟩] }) h hv rfl (beside_pipWait.trans beside_podClock)
  refine gives_of (exec_of_atIssue rfl h hop rfl) ?_
  dsimp only
  rw [hu.greg h.1 bits_lt]
  refine ⟨hwent, halone, ?_⟩
  rw [← hv.keeps PodSt.winits fun _ => rfl, ← hv.keeps PodSt.active fun _ => rfl]
  exact eq_of_task htask PodSt.winits fun _ => rfl

theorem winitWaits (hp : p < 64) (hw : (s.pod p).wlds ≠ []) : exec (.winitComplete p) s = .next s := by
  show execWinitComplete p s = _
  rw [execWinitComplete, reply_of_not (by omega), if_pos (.inr hw)]

/-- The pod after the completion of its oldest WINIT: the values are in the slots of its bank, in use or draining. -/
def State.winitDone (s : State) (p : Nat) (x : WInit) (xs : List WInit) (y : PodSt) : PodSt :=
  if x.half = y.active then { y with winits := xs }.setBank x.half (s.winitBank p x (y.bank x.half))
  else { y with
    winits := xs, drains := y.drains.map fun d => if d.half = x.half then { d with bank := s.winitBank p x d.bank } else d }

theorem winitDone_kept {x : WInit} {xs : List WInit} {y : PodSt} :
    (s.winitDone p x xs y).winits = xs ∧ (s.winitDone p x xs y).start = y.start ∧ (s.winitDone p x xs y).active = y.active := by
  unfold State.winitDone PodSt.setBank
  split
  · split <;> exact ⟨rfl, rfl, rfl⟩
  · exact ⟨rfl, rfl, rfl⟩

theorem winitDone_act {x : WInit} {xs : List WInit} {y : PodSt} (h : x.half = y.active) :
    (s.winitDone p x xs y).act = s.winitBank p x y.act ∧ (s.winitDone p x xs y).drains = y.drains := by
  unfold State.winitDone PodSt.act
  rw [if_pos h, h]
  unfold PodSt.setBank PodSt.bank
  by_cases hz : y.active = 0 <;> simp [hz]

theorem winitDone_drains {x : WInit} {xs : List WInit} {y : PodSt} (h : x.half ≠ y.active) :
    (s.winitDone p x xs y).act = y.act ∧ (s.winitDone p x xs y).drains =
      y.drains.map fun d => if d.half = x.half then { d with bank := s.winitBank p x d.bank } else d := by
  unfold State.winitDone
  rw [if_neg h]
  exact ⟨rfl, rfl⟩

theorem winitCompletes (hp : p < 64) (hclk : s.fastClk = true) (hnone : (s.pod p).wlds = []) (hstart : (s.pod p).start = false)
    {x : WInit} {xs : List WInit} (hw : (s.pod p).winits = x :: xs) : gives (.winitComplete p) s fun t =>
      (t.pod p).winits = xs ∧ podAlone s t p 8 ∧
        (x.half = (s.pod p).active → (t.pod p).act = s.winitBank p x (s.pod p).act ∧ (t.pod p).drains = (s.pod p).drains) ∧
        (x.half ≠ (s.pod p).active → (t.pod p).act = (s.pod p).act ∧ (t.pod p).drains =
          (s.pod p).drains.map fun d => if d.half = x.half then { d with bank := s.winitBank p x d.bank } else d) := by
  obtain ⟨hwinits, hstart', -⟩ := winitDone_kept (s := s) (p := p) (x := x) (xs := xs) (y := s.pod p)
  obtain ⟨halone, hplain⟩ := settled (s := s) (op := 0x0D) (f := s.winitDone p x xs) (hstart'.trans hstart)
  have hex : exec (.winitComplete p) s = .next (((s.modPod p (s.winitDone p x xs)).pipDone p 0x0D).podSettle p) := by
    show execWinitComplete p s = _
    rw [execWinitComplete, reply_of_not (by omega), if_neg (by simp [hclk, hnone]), hw]
    rfl
  refine gives_of hex ?_
  revert hplain
  generalize ((((s.modPod p (s.winitDone p x xs)).pipDone p 0x0D).podSettle p).pod p) = y
  intro hplain
  have hact : y.act = (s.winitDone p x xs (s.pod p)).act := eq_of_plain hplain PodSt.act fun _ => rfl
  have hdrains : y.drains = (s.winitDone p x xs (s.pod p)).drains := eq_of_plain hplain PodSt.drains fun _ => rfl
  refine ⟨(eq_of_plain hplain PodSt.winits fun _ => rfl).trans hwinits, halone, fun hh => ?_, fun hh => ?_⟩
  · rw [hact, hdrains]
    exact winitDone_act hh
  · rw [hact, hdrains]
    exact winitDone_drains hh

/-- Settles O10, instruction by instruction and completion by completion. -/
theorem podLoads : Obligations.PodLoads := by
  unfold Obligations.PodLoads
  exact ⟨fun s p w => ⟨fun h hop hbeam cur hcur => wldQueued h hop hbeam hcur,
      fun hp hclk hstart x xs hw => wldDone hp hclk hstart hw, wswapDone⟩,
    fun s p w => ⟨winitQueued, fun hp _ => winitWaits hp,
      fun hp hclk hnone hstart x xs hw => winitCompletes hp hclk hnone hstart hw⟩⟩

end Sys2Proof.Machine
end

section
/-! Proofs about the pods' operands: selections, port descriptors, the opening of ports (R95 to R98, R104, R106). -/

namespace Sys2Proof.Machine

variable {s t u : State} {p q n w : Nat}

/-! ## Partitions and ports -/

theorem filter_congr_range {k : Nat} {f g : Nat → Bool} (h : ∀ x < k, f x = g x) : (List.range k).filter f = (List.range k).filter g :=
  List.filter_congr fun x hx => h x (List.mem_range.mp hx)

theorem Beside.members (h : Beside p s t) : t.members n = s.members n :=
  filter_congr_range fun q hq => by
    rw [State.isMember, State.isMember, h.flag (f := POD_PCFG_Member q) (offLog_PCFG hq), h.podPart hq]

theorem Beside.isLead (h : Beside p s t) (hq : q < 64) : t.isLead q = s.isLead q := by
  rw [State.isLead, State.isLead, State.isMember, State.isMember, h.flag (f := POD_PCFG_Member q) (offLog_PCFG hq), State.lead,
    State.lead, h.members, h.podPart hq]

theorem Beside.ownsPort {k : Nat} (h : Beside p s t) (hq : q < 64) : t.ownsPort q k = s.ownsPort q k := by
  have haddr : offLog (POD_PORTOWN q) := offLog_pod (by unfold POD_PORTOWN; omega) (by unfold POD_PORTOWN; omega)
  rw [State.ownsPort, State.ownsPort, State.podPorts, State.podPorts, h.fget (f := POD_PORTOWN_Ports q) haddr]

theorem OnlyPods.portBusy {k : Nat} (h : OnlyPods s t) : t.portBusy k = s.portBusy k := by
  rw [State.portBusy, State.portBusy, h.req, h.openp]

theorem Beside.portsBusy (h : Beside p s t) (hq : q < 64) : t.portsBusy q = s.portsBusy q := by
  unfold State.portsBusy
  congr 1
  funext k
  rw [h.ownsPort hq, h.rest.portBusy]

theorem Beside.podKeeps {β : Type} (h : Beside p s t) (π : PodSt → β) (hπ : ∀ x, π x.plain = π x) : π (t.pod q) = π (s.pod q) := by
  by_cases hq : q = p
  · exact hq ▸ h.keeps π hπ
  · rw [h.pods q hq]

theorem Beside.listeners {k : Nat} (h : Beside p s t) : t.listeners n k = s.listeners n k := by
  unfold State.listeners State.running
  simp only [h.members, h.podKeeps PodSt.seq fun _ => rfl, h.podKeeps PodSt.selR fun _ => rfl, h.podKeeps PodSt.selC fun _ => rfl]

/-! ## SEL (R97) -/

/-- SEL is taken where it names ports of the pod, and the row bus only in a correlation partition. -/
theorem selSets (h : s.atIssue p w) (hop : w / 2 ^ 58 = 0x08)
    (hr : bits w 57 1 = 1 → s.podBeam p = false ∧ s.ownsPort p (bits w 53 4) = true)
    (hc : bits w 52 1 = 1 → s.ownsPort p (bits w 48 4) = true) : gives (.sel p) s fun t => wentOn s t p ∧
      (t.pod p).selR = (if bits w 57 1 = 1 then some (bits w 53 4) else none) ∧
      (t.pod p).selC = (if bits w 52 1 = 1 then some (bits w 48 4) else none) ∧ podAlone s t p 8 := by
  have hu : Beside p s (s.issuing p 0x08) := beside_issuing
  obtain ⟨hwent, halone, htask⟩ := goes_after_modPod (f := fun x => { x with
    selR := if bits w 57 1 = 1 then some (bits w 53 4) else none, selC := if bits w 52 1 = 1 then some (bits w 48 4) else none })
    h hu rfl (beside_pipRetire.trans beside_podClock)
  refine gives_of (exec_of_atIssue rfl h hop rfl) ?_
  dsimp only
  rw [hu.podBeam h.1, hu.ownsPort h.1, hu.ownsPort h.1, if_neg ?_]
  · exact ⟨hwent, eq_of_task htask PodSt.selR fun _ => rfl, eq_of_task htask PodSt.selC fun _ => rfl, halone⟩
  · rintro (⟨he, hb | ho⟩ | ⟨he, ho⟩)
    · simp [(hr he).1] at hb
    · simp [(hr he).2] at ho
    · simp [hc he] at ho

theorem selFaults (h : s.atIssue p w) (hop : w / 2 ^ 58 = 0x08) (hown : s.owner p = none) (hstart : (s.pod p).start = false)
    (hbad : bits w 57 1 = 1 ∧ (s.podBeam p = true ∨ s.ownsPort p (bits w 53 4) = false) ∨
      bits w 52 1 = 1 ∧ s.ownsPort p (bits w 48 4) = false) : gives (.sel p) s fun t => podFaulted s t p 5 := by
  have hu : Beside p s (s.issuing p 0x08) := beside_issuing
  refine gives_of (exec_of_atIssue rfl h hop rfl) ?_
  dsimp only
  rw [hu.podBeam h.1, hu.ownsPort h.1, hu.ownsPort h.1, if_pos hbad]
  exact podFaulted_after hu h.1 (by decide) hown hstart

/-! ## PDESC (R95) -/

theorem podOnly_setDesc {d : PortDesc} : PodOnly p s (s.setDesc q d) := ⟨fun _ _ => rfl, fun _ _ _ => rfl⟩

theorem setDesc_desc {d : PortDesc} : tget none (s.setDesc q d).array.desc q = some d := by simp [State.setDesc]

theorem pdescWrites (h : s.atIssue p w) (hop : w / 2 ^ 58 = 0x06) (hlead : s.isLead p = true)
    (hport : s.ownsPort p (bits w 54 4) = true) : gives (.pdesc p) s fun t => wentOn s t p ∧
      podAlone s t p 8 ∧ tget none t.array.desc (bits w 54 4) = some ⟨bits w 52 2, decide (bits w 51 1 = 1),
        (bits w 36 12 + s.greg p (bits w 48 3)) % 4096, bits w 20 16, bits w 4 16 + 1⟩ := by
  have hu : Beside p s (s.issuing p 0x06) := beside_issuing
  refine gives_of (exec_of_atIssue rfl h hop rfl) ?_
  dsimp only
  rw [hu.isLead h.1, hu.ownsPort h.1, hlead, hport, hu.greg h.1 bits_lt, if_neg (by decide), if_neg (by decide)]
  generalize (⟨bits w 52 2, decide (bits w 51 1 = 1), (bits w 36 12 + s.greg p (bits w 48 3)) % 4096, bits w 20 16,
    bits w 4 16 + 1⟩ : PortDesc) = d
  have hgo := goes_of_issuing (u := (s.issuing p 0x06).setDesc (bits w 54 4) d) h (hu.nextPc h.1)
  refine ⟨hgo.wentOn, ((hu.only.trans podOnly_setDesc).trans hgo.only).alone, ?_⟩
  rw [hgo.rest.desc]
  exact setDesc_desc

theorem pdescFaults (h : s.atIssue p w) (hop : w / 2 ^ 58 = 0x06) (hown : s.owner p = none) (hstart : (s.pod p).start = false)
    (hbad : s.isLead p = false ∨ s.ownsPort p (bits w 54 4) = false) : gives (.pdesc p) s fun t =>
      podFaulted s t p (if s.isLead p then 5 else 4) := by
  have hu : Beside p s (s.issuing p 0x06) := beside_issuing
  refine gives_of (exec_of_atIssue rfl h hop rfl) ?_
  dsimp only
  rw [hu.isLead h.1, hu.ownsPort h.1]
  cases hl : s.isLead p with
  | false => exact podFaulted_after hu h.1 (by decide) hown hstart
  | true =>
    rw [hbad.resolve_left (by simp [hl])]
    exact podFaulted_after hu h.1 (by decide) hown hstart

/-! ## Waits (R110) -/

theorem stallReg_range {cause a : Nat} (h : stallReg p cause = some a) : POD_STALLDRN p ≤ a ∧ a ≤ POD_DRAINHOLD p := by
  unfold stallReg at h
  split at h <;> cases h <;>
    (simp only [POD_STALLDRN, POD_STALLOPND, POD_STALLPORT, POD_STALLW, POD_DRAINHOLD]; omega)

theorem reg_stallCounted_ne {cause a : Nat} (ha : a < POD_STALLDRN p ∨ POD_DRAINHOLD p < a) :
    (s.stallCounted p cause).reg a = s.reg a := by
  unfold State.stallCounted
  split
  · rename_i b hb
    have := stallReg_range hb
    exact reg_inc_ne (by omega)
  · rfl

@[simp] theorem stallCounted_array {cause : Nat} : (s.stallCounted p cause).array = s.array := by
  unfold State.stallCounted
  split <;> rfl

@[simp] theorem pod_stallCounted {cause : Nat} : (s.stallCounted p cause).pod q = s.pod q := by
  rw [State.pod, State.pod, stallCounted_array]

/-- A stalled cycle leaves every register but its counter's. -/
theorem reg_stall_ne {cause a : Nat} (hoff : offLog a) (ha : a < POD_STALLDRN p ∨ POD_DRAINHOLD p < a) :
    (s.stall p cause).reg a = s.reg a := (beside_stall.reg a hoff).trans (reg_stallCounted_ne ha)

theorem stall_keeps {cause : Nat} {β : Type} (π : PodSt → β) (hπ : ∀ x, π x.plain = π x) :
    π ((s.stall p cause).pod p) = π (s.pod p) := by rw [beside_stall.keeps π hπ, pod_stallCounted]

theorem stall_req {cause : Nat} : (s.stall p cause).array.req = s.array.req := by rw [beside_stall.rest.req, stallCounted_array]

theorem stall_alone {cause : Nat} : podAlone s (s.stall p cause) p 8 := by
  refine podAlone_trans ⟨fun _ _ => pod_stallCounted, fun k i hk hi _ => greg_of_reg (reg_stallCounted_ne ?_)⟩ beside_stall.only.alone
  unfold POD_GREG POD_STALLDRN POD_DRAINHOLD
  omega

theorem fget_stall_status {cause : Nat} {f : Fld} (hp : p < 64) (hf : f.addr = POD_STATUS p) : (s.stall p cause).fget f = s.fget f :=
  fget_of_reg (hf ▸ reg_stall_ne (offLog_status hp) (.inl (by unfold POD_STATUS POD_STALLDRN; omega)))

theorem flag_stall_run {cause : Nat} (hp : p < 64) : (s.stall p cause).flag (POD_CTRL_Run p) = s.flag (POD_CTRL_Run p) :=
  flag_of_fget (fget_of_reg (reg_stall_ne (offLog_pod (by simp only [POD_CTRL_Run, POD_CTRL]; omega) (by simp only [POD_CTRL_Run, POD_CTRL]; omega))
    (.inl (by simp only [POD_CTRL_Run, POD_CTRL, POD_STALLDRN]; omega))))

theorem podStopCheck_of_run (h : s.flag (POD_CTRL_Run p) = true) : s.podStopCheck p = s := by
  dsimp only [State.podStopCheck]
  rw [h, if_neg (by simp)]

/-- A sequencer that waits while Run is 1 stands on its word. -/
theorem waits_of_run {k st cause : Nat} (hp : p < 64) (h : s.flag (POD_CTRL_Run p) = true) :
    ((s.podWait p k st cause).pod p).wait = k ∧ ((s.podWait p k st cause).pod p).waitSt = st ∧
      (s.podWait p k st cause).fget (POD_STATUS_Waiting p) = 1 ∧ (s.podWait p k st cause).pc p = s.pc p ∧
      (s.podWait p k st cause).array.req = s.array.req ∧ podAlone s (s.podWait p k st cause) p 8 := by
  have hrun : (((s.modPod p fun x => { x with wait := k, waitSt := st }).fset (POD_STATUS_Waiting p) 1).stall p cause).flag
      (POD_CTRL_Run p) = true := by
    rw [flag_stall_run hp, flag_of_fget (fget_fset_addr (by simp [POD_CTRL_Run, POD_STATUS_Waiting, POD_CTRL, POD_STATUS]))]
    exact h
  have hwait : s.podWait p k st cause =
      ((s.modPod p fun x => { x with wait := k, waitSt := st }).fset (POD_STATUS_Waiting p) 1).stall p cause := podStopCheck_of_run hrun
  rw [hwait]
  refine ⟨?_, ?_, ?_, ?_, stall_req, podAlone_trans (podOnly_modPod.trans (podOnly_fset_status rfl)).alone stall_alone⟩
  · rw [stall_keeps PodSt.wait fun _ => rfl, pod_fset, pod_modPod]
  · rw [stall_keeps PodSt.waitSt fun _ => rfl, pod_fset, pod_modPod]
  · rw [fget_stall_status hp rfl]
    exact fget_fset_one rfl (by decide : 1 < 32)
  · rw [State.pc, fget_stall_status hp rfl, fget_fset_ne (.inr (.inr (by decide : 1 + 1 ≤ 8)))]
    rfl

/-! ## OPEN (R97) -/

/-- The ports that an OPEN word names. -/
def openMask (w : Nat) : List Nat := (List.range 16).filter fun q => bits w (42 + q) 1 = 1

theorem mem_openMask : q ∈ openMask w ↔ q < 16 ∧ bits w (42 + q) 1 = 1 := by simp [openMask]

/-- What OPEN does where it is not yet issued: it faults, waits, goes on without a port or requests its ports. -/
theorem open_exec (h : s.atIssue p w) (hop : w / 2 ^ 58 = 0x07) (hwait : (s.pod p).wait ≠ 2) : exec (.openPorts p) s = .next
    (if !s.isLead p then (s.issuing p 0x07).podFault p 4
    else if (openMask w).any fun q => !s.ownsPort p q then (s.issuing p 0x07).podFault p 5
    else if s.portsBusy p then (s.issuing p 0x07).podWait p 1 0 3
    else if (openMask w).any fun q => (tget none s.array.desc q).isNone then (s.issuing p 0x07).podFault p 6
    else if openMask w = [] then (s.issuing p 0x07).podResume p
    else ((((s.issuing p 0x07).each (openMask w) fun s q => s.setReq q (some (p, s.listeners (s.podPart p) q))).modPod p
      fun x => { x with wait := 2 }).fset (POD_STATUS_Waiting p) 1)) := by
  have hu : Beside p s (s.issuing p 0x07) := beside_issuing
  have hw : ¬ ((s.issuing p 0x07).pod p).wait = 2 := by rwa [hu.keeps PodSt.wait fun _ => rfl]
  rw [exec_of_atIssue (c := .openPorts p) rfl h hop rfl]
  simp only [if_neg hw, hu.isLead h.1, hu.ownsPort h.1, hu.portsBusy h.1, hu.rest.desc]
  rfl

theorem openMask_any {f : Nat → Bool} : (openMask w).any f = true ↔ ∃ q < 16, bits w (42 + q) 1 = 1 ∧ f q = true := by
  simp only [List.any_eq_true, mem_openMask, and_assoc]

theorem openMask_owned (hown : ∀ q < 16, bits w (42 + q) 1 = 1 → s.ownsPort p q = true) :
    ((openMask w).any fun q => !s.ownsPort p q) = false := by
  rw [Bool.eq_false_iff, ne_eq, openMask_any]
  rintro ⟨q, hq, hb, hn⟩
  simp [hown q hq hb] at hn

theorem openFaults (h : s.atIssue p w) (hop : w / 2 ^ 58 = 0x07) (hwait : (s.pod p).wait ≠ 2) (hown : s.owner p = none)
    (hstart : (s.pod p).start = false)
    (hbad : s.isLead p = false ∨ ∃ q < 16, bits w (42 + q) 1 = 1 ∧ s.ownsPort p q = false) :
    gives (.openPorts p) s fun t => podFaulted s t p (if s.isLead p then 5 else 4) := by
  refine gives_of (open_exec h hop hwait) ?_
  cases hl : s.isLead p with
  | false => exact podFaulted_after beside_issuing h.1 (by decide) hown hstart
  | true =>
    obtain ⟨q, hq, hb, hn⟩ := hbad.resolve_left (by simp [hl])
    rw [if_neg (by decide), if_pos (openMask_any.mpr ⟨q, hq, hb, by simp [hn]⟩)]
    exact podFaulted_after beside_issuing h.1 (by decide) hown hstart

theorem openWaits (h : s.atIssue p w) (hop : w / 2 ^ 58 = 0x07) (hwait : (s.pod p).wait ≠ 2) (hlead : s.isLead p = true)
    (hown : ∀ q < 16, bits w (42 + q) 1 = 1 → s.ownsPort p q = true) (hbusy : s.portsBusy p = true)
    (hrun : s.flag (POD_CTRL_Run p) = true) : gives (.openPorts p) s fun t => (t.pod p).wait = 1 ∧
      t.fget (POD_STATUS_Waiting p) = 1 ∧ t.pc p = s.pc p ∧ t.array.req = s.array.req ∧ podAlone s t p 8 := by
  have hp := h.1
  have hu : Beside p s (s.issuing p 0x07) := beside_issuing
  have hrun' : (s.issuing p 0x07).flag (POD_CTRL_Run p) = true := by
    rwa [hu.flag (offLog_pod (by simp only [POD_CTRL_Run, POD_CTRL]; omega) (by simp only [POD_CTRL_Run, POD_CTRL]; omega))]
  obtain ⟨hw, -, hshow, hpc, hreq, halone⟩ := waits_of_run (k := 1) (st := 0) (cause := 3) hp hrun'
  refine gives_of (open_exec h hop hwait) ?_
  rw [hlead, openMask_owned hown, hbusy, if_neg (by decide), if_neg (by decide), if_pos rfl]
  exact ⟨hw, hshow, hpc.trans (hu.pc hp), hreq.trans hu.rest.req, podAlone_trans hu.only.alone halone⟩

theorem openNoDesc (h : s.atIssue p w) (hop : w / 2 ^ 58 = 0x07) (hwait : (s.pod p).wait ≠ 2) (hlead : s.isLead p = true)
    (hports : ∀ q < 16, bits w (42 + q) 1 = 1 → s.ownsPort p q = true) (hbusy : s.portsBusy p = false) (hown : s.owner p = none)
    (hstart : (s.pod p).start = false) (hdesc : ∃ q < 16, bits w (42 + q) 1 = 1 ∧ tget none s.array.desc q = none) :
    gives (.openPorts p) s fun t => podFaulted s t p 6 := by
  obtain ⟨q, hq, hb, hn⟩ := hdesc
  refine gives_of (open_exec h hop hwait) ?_
  rw [hlead, openMask_owned hports, hbusy, if_neg (by decide), if_neg (by decide), if_neg (by decide),
    if_pos (openMask_any.mpr ⟨q, hq, hb, by simp [hn]⟩)]
  exact podFaulted_after beside_issuing h.1 (by decide) hown hstart

@[simp] theorem setReq_req {v : Option (Nat × List (Nat × Nat))} : tget none (s.setReq q v).array.req q = v := by simp [State.setReq]

theorem setReq_req_ne {v : Option (Nat × List (Nat × Nat))} {k : Nat} (h : k ≠ q) :
    tget none (s.setReq q v).array.req k = tget none s.array.req k := by
  simp only [State.setReq]
  exact tget_tset_ne _ _ _ h

/-- Each port of a list is requested with the listeners of the state before. -/
theorem each_setReq {l : List Nat} : tget none (s.each l fun s q => s.setReq q (some (p, s.listeners (s.podPart p) q))).array.req q =
    if q ∈ l then some (p, s.listeners (s.podPart p) q) else tget none s.array.req q := by
  induction l generalizing s with
  | nil => rfl
  | cons a l ih =>
    refine (ih (s := s.setReq a (some (p, s.listeners (s.podPart p) a)))).trans ?_
    by_cases hl : q ∈ l
    · rw [if_pos hl, if_pos (List.mem_cons_of_mem _ hl)]
      rfl
    · rw [if_neg hl]
      by_cases ha : q = a
      · rw [if_pos (by simp [ha]), ha]
        exact setReq_req
      · rw [if_neg (by simp [ha, hl])]
        exact setReq_req_ne ha

theorem openRequests (h : s.atIssue p w) (hop : w / 2 ^ 58 = 0x07) (hlead : s.isLead p = true) (hbusy : s.portsBusy p = false)
    (hwait : (s.pod p).wait ≠ 2)
    (hports : ∀ q < 16, bits w (42 + q) 1 = 1 → s.ownsPort p q = true ∧ (tget none s.array.desc q).isSome = true) :
    gives (.openPorts p) s fun t => ((∀ q < 16, bits w (42 + q) 1 = 0) → wentOn s t p) ∧
      (∀ q < 16, bits w (42 + q) 1 = 1 → (t.pod p).wait = 2 ∧ t.fget (POD_STATUS_Waiting p) = 1 ∧
        tget none t.array.req q = some (p, s.listeners (s.podPart p) q)) := by
  have hp := h.1
  have hu : Beside p s (s.issuing p 0x07) := beside_issuing
  have hdesc : ((openMask w).any fun q => (tget none s.array.desc q).isNone) = false := by
    rw [Bool.eq_false_iff, ne_eq, openMask_any]
    rintro ⟨q, hq, hb, hn⟩
    simp [Option.isSome_iff_ne_none.mp (hports q hq hb).2] at hn
  refine gives_of (open_exec h hop hwait) ?_
  rw [hlead, openMask_owned fun q hq hb => (hports q hq hb).1, hbusy, hdesc, if_neg (by decide), if_neg (by decide),
    if_neg (by decide), if_neg (by decide)]
  by_cases hnil : openMask w = []
  · have hgo : Goes p (s.nextPc p) (s.issuing p 0x07) _ := hu.nextPc hp ▸ goes_podResume hp (hu.nextPc hp ▸ h.2.2.2.2)
    rw [if_pos hnil]
    refine ⟨fun _ => hgo.wentOn, fun q hq hb => absurd (mem_openMask.mpr ⟨hq, hb⟩) (by simp [hnil])⟩
  · rw [if_neg hnil]
    refine ⟨fun hz => absurd (List.eq_nil_iff_forall_not_mem.mpr fun q hq => ?_) hnil, fun q hq hb => ⟨?_, ?_, ?_⟩⟩
    · obtain ⟨hlt, hb⟩ := mem_openMask.mp hq
      simp [hz q hlt] at hb
    · rw [pod_fset, pod_modPod]
    · exact fget_fset_one rfl (by decide : 1 < 32)
    · refine (each_setReq (s := s.issuing p 0x07)).trans ?_
      rw [if_pos (mem_openMask.mpr ⟨hq, hb⟩), hu.podPart hp, hu.listeners]

/-! ## A requested port opens (R95 to R97) -/

theorem mem_requested {lead : Nat} {e : Nat × PortDesc} : e ∈ s.requested lead ↔
    e.1 < 16 ∧ (∃ ls, tget none s.array.req e.1 = some (lead, ls)) ∧ tget none s.array.desc e.1 = some e.2 := by
  obtain ⟨q, d⟩ := e
  unfold State.requested
  simp only [List.mem_filterMap, List.mem_range]
  constructor
  · rintro ⟨k, hk, hm⟩
    split at hm
    · rename_i l ls d' hreq hdesc
      split at hm
      · rename_i hl
        cases hm
        exact ⟨hk, ⟨ls, hl ▸ hreq⟩, hdesc⟩
      · cases hm
    · cases hm
  · rintro ⟨hq, ⟨ls, hreq⟩, hdesc⟩
    exact ⟨q, hq, by rw [hreq, hdesc]; exact if_pos rfl⟩

/-- Port q is open with what it streams, and no more requested. -/
def State.portOpened (s : State) (q : Nat) (o : Option OpenPort) : State := (s.setReq q none).setOpen q o

theorem pod_portOpened {o : Option OpenPort} {k : Nat} : (s.portOpened q o).pod k = s.pod k := rfl

theorem portOpened_openp {o : Option OpenPort} : tget none (s.portOpened q o).array.openp q = o := by
  simp [State.portOpened, State.setOpen]

theorem portOpened_array_req {o : Option OpenPort} : (s.portOpened q o).array.req = (s.setReq q none).array.req := rfl

theorem portOpened_req {o : Option OpenPort} : tget none (s.portOpened q o).array.req q = none := by
  rw [portOpened_array_req, setReq_req]

theorem portOpened_nextPc {o : Option OpenPort} : (s.portOpened q o).nextPc p = s.nextPc p :=
  nextPc_congr (congrArg PodSt.loop pod_portOpened) rfl

/-- With the last port of an OPEN none is left requested. -/
theorem requested_portOpened {lead : Nat} {d : PortDesc} {o : Option OpenPort} (hmem : (q, d) ∈ s.requested lead)
    (hone : (s.requested lead).length = 1) : (s.portOpened q o).requested lead = [] := by
  obtain ⟨x, hx⟩ := List.length_eq_one_iff.mp hone
  refine List.eq_nil_iff_forall_not_mem.mpr fun e he => ?_
  obtain ⟨hlt, ⟨ls, hreq⟩, hdesc⟩ := mem_requested.mp he
  have hne : e.1 ≠ q := fun heq => by
    rw [heq, portOpened_req] at hreq
    cases hreq
  rw [portOpened_array_req, setReq_req_ne hne] at hreq
  have hold : e ∈ s.requested lead := mem_requested.mpr ⟨hlt, ⟨ls, hreq⟩, hdesc⟩
  rw [hx, List.mem_singleton] at hmem hold
  exact hne (congrArg Prod.fst (hold.trans hmem.symm))

/-- What PORT_START does with a requested port, once every port of its OPEN has its pass group (R97). -/
theorem portStart_exec {lead : Nat} {ls : List (Nat × Nat)} {d : PortDesc} {cur : Presented} (hq : q < 16) (hrun : s.isRun = true)
    (hreq : tget none s.array.req q = some (lead, ls)) (hdesc : tget none s.array.desc q = some d)
    (hcur : s.presented (s.podPart lead) d.st = some cur)
    (hall : ∀ e ∈ s.requested lead, (s.presented (s.podPart lead) e.2.st).isSome = true) {t : State} (ht : t = s.portOpened q
      (closeIfDone ⟨d, cur, portWords (s.podFormat lead) d.count, ls.map fun l => ⟨l.1, l.2, 0⟩⟩)) : exec (.portStart q) s = .next
    (if (s.requested lead).any fun e => !s.portOk lead e.1 e.2 then s.podFault lead 6
    else if (t.requested lead).isEmpty && decide ((t.pod lead).wait = 2) then t.podResume lead else t) := by
  have hnone : ((s.requested lead).any fun e => (s.presented (s.podPart lead) e.2.st).isNone) = false := by
    rw [List.any_eq_false]
    intro e he
    simp [Option.isSome_iff_ne_none.mp (hall e he)]
  subst ht
  show execPortStart q s = _
  rw [execPortStart, reply_of_not (by omega), hrun, hreq, hdesc, if_neg (by decide)]
  dsimp only
  rw [hcur]
  dsimp only
  rw [hnone, if_neg (by decide)]
  rfl

theorem portOpens {lead : Nat} {ls : List (Nat × Nat)} {d : PortDesc} {cur : Presented} (hq : q < 16) (hlead : lead < 64)
    (hrun : s.isRun = true) (hreq : tget none s.array.req q = some (lead, ls)) (hdesc : tget none s.array.desc q = some d)
    (hcur : s.presented (s.podPart lead) d.st = some cur)
    (hall : ∀ e ∈ s.requested lead, (s.presented (s.podPart lead) e.2.st).isSome = true)
    (hok : ∀ e ∈ s.requested lead, s.portOk lead e.1 e.2 = true) (hn : s.nextPc lead < 4096) :
    gives (.portStart q) s fun t => tget none t.array.req q = none ∧
      ((s.requested lead).length = 1 → (s.pod lead).wait = 2 → wentOn s t lead) ∧ tget none t.array.openp q =
      closeIfDone ⟨d, cur, portWords (s.podFormat lead) d.count, ls.map fun l => ⟨l.1, l.2, 0⟩⟩ := by
  have hgood : ((s.requested lead).any fun e => !s.portOk lead e.1 e.2) = false := by
    rw [List.any_eq_false]
    intro e he
    simp [hok e he]
  refine gives_of (portStart_exec hq hrun hreq hdesc hcur hall rfl) ?_
  rw [hgood, if_neg (by decide)]
  generalize closeIfDone ⟨d, cur, portWords (s.podFormat lead) d.count, ls.map fun l => ⟨l.1, l.2, 0⟩⟩ = o
  have hgo : Goes lead (s.nextPc lead) (s.portOpened q o) ((s.portOpened q o).podResume lead) :=
    portOpened_nextPc (s := s) ▸ goes_podResume hlead (portOpened_nextPc.symm ▸ hn)
  by_cases hlast : ((s.portOpened q o).requested lead).isEmpty && decide (((s.portOpened q o).pod lead).wait = 2)
  · rw [if_pos hlast, hgo.rest.req, hgo.rest.openp]
    exact ⟨portOpened_req, fun _ _ => hgo.wentOn, portOpened_openp⟩
  · rw [if_neg hlast]
    refine ⟨portOpened_req, fun hone hwait => absurd ?_ hlast, portOpened_openp⟩
    rw [requested_portOpened (mem_requested.mpr ⟨hq, ⟨ls, hreq⟩, hdesc⟩) hone, pod_portOpened, hwait]
    rfl

/-- Settles O9, instruction by instruction; a requested port by the checks of its OPEN. -/
theorem podOperands : Obligations.PodOperands := by
  unfold Obligations.PodOperands
  refine ⟨fun s p w h => ⟨selSets h, selFaults h, pdescWrites h, pdescFaults h, openRequests h, openFaults h, openWaits h,
    openNoDesc h⟩, fun s q lead ls d cur hq hlead hrun hreq hdesc hcur hall => ⟨portOpens hq hlead hrun hreq hdesc hcur hall,
    fun hbad hown hstart => ?_⟩⟩
  obtain ⟨e, he, hno⟩ := hbad
  refine gives_of (portStart_exec hq hrun hreq hdesc hcur hall rfl) ?_
  rw [if_pos (List.any_eq_true.mpr ⟨e, he, by simp [hno]⟩)]
  exact podFault_faulted hlead (by decide) hown hstart

end Sys2Proof.Machine
end

section
/-! Proofs about Run and the stop of a pod, steering, and parity errors of cells (R100, R109 to R112, R349, R350). -/

namespace Sys2Proof.Machine

variable {s t u : State} {p q n col : Nat}

/-! ## Registers of a pod beside its status -/

theorem podAlone_fset {f : Fld} {v : Nat} (h : ∀ q i, i < 8 → POD_GREG q i ≠ f.addr) : podAlone s (s.fset f v) p 8 :=
  ⟨fun _ _ => rfl, fun q i _ hi _ => greg_of_reg (reg_fset_ne (h q i hi))⟩

theorem GREG_ne_CTRL {i : Nat} (hi : i < 8) : POD_GREG q i ≠ POD_CTRL p := by
  unfold POD_GREG POD_CTRL
  omega

theorem CTRL_ne_STATUS : POD_CTRL q ≠ POD_STATUS p := by
  unfold POD_CTRL POD_STATUS
  omega

theorem offLog_CTRL (hp : p < 64) : offLog (POD_CTRL p) := offLog_pod (by unfold POD_CTRL; omega) (by unfold POD_CTRL; omega)

theorem podAlone_fset_run {v : Nat} : podAlone s (s.fset (POD_CTRL_Run p) v) p 8 := podAlone_fset fun _ _ hi => GREG_ne_CTRL hi

theorem isRun_of_reg (h : t.reg PWR_STATUS = s.reg PWR_STATUS) (hp : t.pwr = s.pwr) : t.isRun = s.isRun := by
  rw [State.isRun, State.isRun, State.inRun, State.inRun, State.pwrState, State.pwrState,
    fget_of_reg (f := PWR_STATUS_State) h, flag_of_fget (fget_of_reg (f := PWR_STATUS_Tripped) h), hp]

theorem isRun_fset_run {v : Nat} : (s.fset (POD_CTRL_Run p) v).isRun = s.isRun :=
  isRun_of_reg (reg_fset_ne (by simp only [POD_CTRL_Run, POD_CTRL, PWR_STATUS]; omega)) rfl

/-! ## Banks -/

theorem act_setAct {x : PodSt} {b : Bank} : (x.setAct b).act = b := by
  unfold PodSt.act PodSt.setAct PodSt.setBank PodSt.bank
  by_cases h : x.active = 0 <;> simp [h]

theorem setAct_kept {x : PodSt} {b : Bank} : { x.setAct b with bankA := x.bankA, bankB := x.bankB } = x := by
  unfold PodSt.setAct PodSt.setBank
  split <;> rfl

/-- What of a pod is none of its banks stays as the active bank changes. -/
theorem setAct_keeps {β : Type} {x : PodSt} {b : Bank} (π : PodSt → β) (hπ : ∀ x A B, π { x with bankA := A, bankB := B } = π x) :
    π (x.setAct b) = π x := by
  rw [← hπ (x.setAct b) x.bankA x.bankB, setAct_kept]

/-! ## Run (R100, R110) -/

theorem podRunStart_exec (hp : p < 64) (ht : s.takes (POD_CTRL p)) : exec (.podRunStart p) s = .next (s.podRunStart p) := by
  show execPodRunStart p s = _
  rw [execPodRunStart, reply_of_not (by omega), hostWrite_of_takes ht]

/-- Run is 1 and the start waits for what is outstanding. -/
def State.runSet (s : State) (p : Nat) : State :=
  (s.fset (POD_CTRL_Run p) 1).modPod p fun x => { x with start := true, fillBad := if (s.owner p).isSome then x.fillBad else none }

theorem runSet_pod : (s.runSet p).pod p =
    { s.pod p with start := true, fillBad := if (s.owner p).isSome then (s.pod p).fillBad else none } := pod_modPod

theorem runSet_isRun : (s.runSet p).isRun = s.isRun := isRun_fset_run (s := s)

theorem runSet_run : (s.runSet p).fget (POD_CTRL_Run p) = 1 :=
  (fget_of_reg (s := s.fset (POD_CTRL_Run p) 1) (reg_of_regs rfl)).trans (fget_fset_one rfl (by decide : 0 < 32))

theorem runSet_alone : podAlone s (s.runSet p) p 8 := podAlone_trans podAlone_fset_run podOnly_modPod.alone

theorem podRunStart_of_ok (hf : s.flag (POD_STATUS_Failed p) = false) (ho : s.ownerRuns p = true) (hseq : (s.pod p).seq = false)
    (hok : s.podConfigOk p = true) : s.podRunStart p = (s.runSet p).podSettle p := by
  unfold State.podRunStart
  rw [hf, ho, hseq, hok]
  rfl

theorem fget_fset_run_status {f : Fld} {v : Nat} (hf : f.addr = POD_STATUS p) :
    (s.fset f v).fget (POD_CTRL_Run p) = s.fget (POD_CTRL_Run p) :=
  fget_fset_addr (hf ▸ CTRL_ne_STATUS)

theorem runWaits (hp : p < 64) (ht : s.takes (POD_CTRL p)) (hf : s.flag (POD_STATUS_Failed p) = false) (ho : s.ownerRuns p = true)
    (hseq : (s.pod p).seq = false) (hok : s.podConfigOk p = true) (hw : (s.pod p).outstanding = true ∨ s.isRun = false) :
    gives (.podRunStart p) s fun t => t.fget (POD_CTRL_Run p) = 1 ∧ (t.pod p).seq = false ∧ (t.pod p).start = true ∧
      (t.pod p).act = (s.pod p).act ∧ podAlone s t p 8 := by
  have hwait : (((s.runSet p).pod p).start && !((s.runSet p).pod p).outstanding && (s.runSet p).isRun) = false := by
    rw [runSet_isRun, runSet_pod]
    rcases hw with h | h
    · rw [Bool.and_eq_false_iff, Bool.and_eq_false_iff, Bool.not_eq_false']
      exact .inl (.inr h)
    · rw [h, Bool.and_false]
  refine gives_of (podRunStart_exec hp ht) ?_
  rw [podRunStart_of_ok hf ho hseq hok, podSettle_of_waits hwait]
  refine ⟨?_, ?_, ?_, ?_, podAlone_trans runSet_alone ((podOnly_fset_status rfl).trans (podOnly_fset_status rfl)).alone⟩
  · rw [fget_fset_run_status rfl, fget_fset_run_status rfl, runSet_run]
  · rw [pod_fset, pod_fset, runSet_pod, hseq]
  · rw [pod_fset, pod_fset, runSet_pod]
  · rw [pod_fset, pod_fset, runSet_pod]
    rfl

/-- The pod as its sequencer starts (R110). -/
def PodSt.begun (x : PodSt) : PodSt :=
  { (x.setAct Bank.fresh) with
    seq := true, start := false, frames := [], bmacs := [], loop := none, beats := none, macd := false, wait := 0
    stood := false, held := 0, shadow := none, weights := none }

theorem begun_act {x : PodSt} : x.begun.act = Bank.fresh := act_setAct (x := x)

theorem podBegin_eq : s.podBegin p = ((((s.modPod p PodSt.begun).fset (POD_STATUS_FaultCode p) 0).fset (POD_STATUS_Fault p) 0).fset
    (POD_STATUS_Halted p) 0).fset (POD_STATUS_Pc p) (s.fget (POD_CTRL_Entry p)) := by
  have hkept : (((s.modPod p PodSt.begun).fset (POD_STATUS_FaultCode p) 0).fset (POD_STATUS_Fault p) 0).fget (POD_CTRL_Entry p) =
      s.fget (POD_CTRL_Entry p) := (fget_fset_addr CTRL_ne_STATUS).trans (fget_fset_addr CTRL_ne_STATUS)
  rw [← hkept]
  rfl

theorem podBegin_pod : (s.podBegin p).pod p = (s.pod p).begun := by
  rw [podBegin_eq, pod_fset, pod_fset, pod_fset, pod_fset, pod_modPod]

theorem podOnly_podBegin : PodOnly p s (s.podBegin p) :=
  podBegin_eq (s := s) ▸ (((podOnly_modPod.trans (podOnly_fset_status rfl)).trans (podOnly_fset_status rfl)).trans
    (podOnly_fset_status rfl)).trans (podOnly_fset_status rfl)

theorem podBegin_status : (s.podBegin p).pc p = s.fget (POD_CTRL_Entry p) ∧ (s.podBegin p).fget (POD_STATUS_Fault p) = 0 ∧
    (s.podBegin p).fget (POD_STATUS_Halted p) = 0 := by
  have hentry : s.fget (POD_CTRL_Entry p) < 4096 := Nat.mod_lt _ (by decide : 0 < 2 ^ 12)
  rw [podBegin_eq]
  refine ⟨fget_fset_of_lt (f := POD_STATUS_Pc p) (by simp [POD_STATUS_Pc]) hentry, ?_, ?_⟩
  · rw [fget_fset_ne (.inr (.inl (by decide : 4 + 1 ≤ 8))), fget_fset_ne (.inr (.inr (by decide : 2 + 1 ≤ 4)))]
    exact fget_fset_of_lt (f := POD_STATUS_Fault p) (by simp [POD_STATUS_Fault]) (by simp [POD_STATUS_Fault])
  · rw [fget_fset_ne (.inr (.inl (by decide : 2 + 1 ≤ 8)))]
    exact fget_fset_of_lt (f := POD_STATUS_Halted p) (by simp [POD_STATUS_Halted]) (by simp [POD_STATUS_Halted])

/-- Where nothing is outstanding in RUN, a waiting start takes effect. -/
theorem podSettle_of_ready (h : ((s.pod p).start && !(s.pod p).outstanding && s.isRun) = true) : s.podSettle p =
    ((s.podBegin p).fset (POD_STATUS_Running p) 1).fset (POD_STATUS_DrainBusy p) (if (s.pod p).begun.drains.isEmpty then 0 else 1) := by
  dsimp only [State.podSettle]
  rw [h, State.when, if_pos rfl, podBegin_pod]
  rfl

theorem runStarts (hp : p < 64) (ht : s.takes (POD_CTRL p)) (hf : s.flag (POD_STATUS_Failed p) = false) (ho : s.ownerRuns p = true)
    (hseq : (s.pod p).seq = false) (hok : s.podConfigOk p = true) (hout : (s.pod p).outstanding = false) (hrun : s.isRun = true) :
    gives (.podRunStart p) s fun t => t.fget (POD_CTRL_Run p) = 1 ∧ (t.pod p).seq = true ∧ t.pc p = s.fget (POD_CTRL_Entry p) ∧
      (t.pod p).act = Bank.fresh ∧ t.fget (POD_STATUS_Running p) = 1 ∧ t.fget (POD_STATUS_Fault p) = 0 ∧
      t.fget (POD_STATUS_Halted p) = 0 ∧ podAlone s t p 8 := by
  have hready : (((s.runSet p).pod p).start && !((s.runSet p).pod p).outstanding && (s.runSet p).isRun) = true := by
    rw [runSet_isRun, runSet_pod, hrun, Bool.and_true, Bool.and_eq_true, Bool.not_eq_true']
    exact ⟨rfl, hout⟩
  have hentry : (s.runSet p).fget (POD_CTRL_Entry p) = s.fget (POD_CTRL_Entry p) :=
    fget_fset_ne (s := s) (g := POD_CTRL_Run p) (.inr (.inr (by decide : 0 + 1 ≤ 2)))
  obtain ⟨hpc, hfault, hhalt⟩ := podBegin_status (s := s.runSet p) (p := p)
  have hctrl : ((s.runSet p).podBegin p).fget (POD_CTRL_Run p) = 1 :=
    (fget_of_reg (podOnly_podBegin.reg _ (offLog_CTRL hp) CTRL_ne_STATUS)).trans runSet_run
  refine gives_of (podRunStart_exec hp ht) ?_
  rw [podRunStart_of_ok hf ho hseq hok, podSettle_of_ready hready]
  refine ⟨?_, ?_, ?_, ?_, ?_, ?_, ?_, podAlone_trans runSet_alone
    ((podOnly_podBegin.trans (podOnly_fset_status rfl)).trans (podOnly_fset_status rfl)).alone⟩
  · rw [fget_fset_run_status rfl, fget_fset_run_status rfl, hctrl]
  · rw [pod_fset, pod_fset, podBegin_pod]
    rfl
  · rw [State.pc, fget_fset_ne (.inr (.inr (by decide : 3 + 1 ≤ 8))), fget_fset_ne (.inr (.inr (by decide : 0 + 1 ≤ 8)))]
    exact hpc.trans hentry
  · rw [pod_fset, pod_fset, podBegin_pod, begun_act]
  · rw [fget_fset_ne (.inr (.inl (by decide : 0 + 1 ≤ 3)))]
    exact fget_fset_one rfl (by decide : 0 < 32)
  · rw [fget_fset_ne (.inr (.inr (by decide : 3 + 1 ≤ 4))), fget_fset_ne (.inr (.inr (by decide : 0 + 1 ≤ 4))), hfault]
  · rw [fget_fset_ne (.inr (.inl (by decide : 2 + 1 ≤ 3))), fget_fset_ne (.inr (.inr (by decide : 0 + 1 ≤ 2))), hhalt]

theorem runConfigErr (hp : p < 64) (ht : s.takes (POD_CTRL p)) (hf : s.flag (POD_STATUS_Failed p) = false)
    (ho : s.ownerRuns p = true) (hrun : s.flag (POD_CTRL_Run p) = false) (hbad : s.podConfigOk p = false) :
    gives (.podRunStart p) s fun t => t.flag (POD_STATUS_ConfigErr p) = true ∧ t.flag (POD_CTRL_Run p) = false ∧
      t.array = s.array := by
  have hshown : s.podRunStart p = s.fset (POD_STATUS_ConfigErr p) 1 := by
    unfold State.podRunStart
    rw [hf, ho, hrun, hbad, Bool.and_false]
    rfl
  refine gives_of (podRunStart_exec hp ht) ?_
  rw [hshown]
  exact ⟨flag_fset_one rfl (by decide : 7 < 32), (flag_of_fget (fget_fset_run_status rfl)).trans hrun, rfl⟩

theorem runRefused (hp : p < 64) (ht : s.takes (POD_CTRL p)) (h : s.flag (POD_STATUS_Failed p) = true ∨ s.ownerRuns p = false) :
    exec (.podRunStart p) s = .next s := by
  rw [podRunStart_exec hp ht, State.podRunStart, if_pos (by rcases h with h | h <;> simp [h])]

theorem runStopped (hp : p < 64) (ht : s.takes (POD_CTRL p)) (hw : (s.pod p).wait = 0) : gives (.podRunStop p) s fun t =>
    t.fget (POD_CTRL_Run p) = 0 ∧ t.pod p = { s.pod p with start := false } ∧ podAlone s t p 8 := by
  have hpod : ((s.fset (POD_CTRL_Run p) 0).modPod p fun x => { x with start := false }).pod p = { s.pod p with start := false } := by
    rw [pod_modPod, pod_fset]
  have hstop : s.podRunStop p = (s.fset (POD_CTRL_Run p) 0).modPod p fun x => { x with start := false } := by
    dsimp only [State.podRunStop, State.podStopCheck]
    rw [hpod, if_neg (by simp [hw])]
  refine gives_of (t := s.podRunStop p) ?_ ?_
  · show execPodRunStop p s = _
    rw [execPodRunStop, reply_of_not (by omega), hostWrite_of_takes ht]
  · rw [hstop]
    exact ⟨fget_fset_of_lt (s := s) (f := POD_CTRL_Run p) (by simp [POD_CTRL_Run]) (by simp [POD_CTRL_Run]), hpod,
      podAlone_trans podAlone_fset_run podOnly_modPod.alone⟩

/-! ## Steering (R111, R112) -/

theorem steer_exec (hp : p < 64) (hcol : col < 33) (ht : s.takes (POD_CMD p)) :
    exec (.steerRequest p col) s = .next (s.steerRequest p col) := by
  show execSteerRequest p col s = _
  rw [execSteerRequest, reply_of_not (by omega), if_neg (by omega), hostWrite_of_takes ht]

theorem steerRequest_of_free (hf : s.flag (POD_STATUS_Failed p) = false) (hs : s.flag (POD_COLMAP_Steered p) = false)
    (hb : s.flag (POD_COLMAP_SpareBad p) = false) (hcol : col ∉ (s.pod p).steer) :
    s.steerRequest p col = s.modPod p fun x => { x with steer := x.steer ++ [col] } := by
  unfold State.steerRequest
  rw [hf, hs, hb, if_neg (by simp [hcol]), if_neg (by decide)]

theorem steerRequest_of_used (hf : s.flag (POD_STATUS_Failed p) = false)
    (hu : s.flag (POD_COLMAP_Steered p) = true ∨ s.flag (POD_COLMAP_SpareBad p) = true) (hcol : col ∉ (s.pod p).steer) :
    s.steerRequest p col = s.podFail p := by
  unfold State.steerRequest
  rw [hf, if_neg (by simp [hcol]), if_pos (by simpa using hu)]

/-- The pod is shown as failed, and no request or start waits any more. -/
def State.failShown (s : State) (p : Nat) : State :=
  ((s.modPod p fun x => { x with steer := [], start := false }).fset (POD_STATUS_Failed p) 1).raise 5

theorem failShown_pod : (s.failShown p).pod p = { s.pod p with steer := [], start := false } := by
  rw [State.failShown, State.raise, pod_setReg, pod_fset, pod_modPod]

theorem podOnly_raise {c : Nat} : PodOnly p s (s.raise c) := ⟨fun _ _ => pod_setReg, fun _ ha _ => reg_raise_ne ha.1⟩

theorem podOnly_failShown : PodOnly p s (s.failShown p) :=
  (podOnly_modPod.trans (podOnly_fset_status rfl)).trans podOnly_raise

theorem fget_failShown {f : Fld} (hp : p < 64) (hf : f.addr = POD_STATUS p) (hne : f.lo + f.width ≤ 5 ∨ 6 ≤ f.lo) :
    (s.failShown p).fget f = s.fget f :=
  (fget_of_reg (reg_raise_ne (hf ▸ (offLog_status hp).1))).trans ((fget_fset_ne (.inr hne)).trans rfl)

theorem flag_failShown (hp : p < 64) : (s.failShown p).flag (POD_STATUS_Failed p) = true :=
  (flag_of_fget (fget_of_reg (reg_raise_ne (offLog_status hp).1))).trans (flag_fset_one rfl (by decide : 5 < 32))

theorem podFail_of_free (hown : s.owner p = none) : s.podFail p = s.podFailEnter p := by
  have hnone : s.failOwner p = none := by
    unfold State.failOwner
    split
    · exact hown
    · rfl
  rw [State.podFail, hnone]
  rfl

theorem podFailEnter_of_stopped (h : (s.pod p).seq = false) : s.podFailEnter p = s.failShown p := by
  have hseq : ((s.failShown p).pod p).seq = false := by rw [failShown_pod]; exact h
  show (if ((s.failShown p).pod p).seq then _ else _) = _
  rw [hseq]
  rfl

theorem podFailEnter_of_running (h : (s.pod p).seq = true) : s.podFailEnter p = (s.failShown p).podFaultEnter p 9 := by
  have hseq : ((s.failShown p).pod p).seq = true := by rw [failShown_pod]; exact h
  show (if ((s.failShown p).pod p).seq then _ else _) = _
  rw [hseq]
  rfl

theorem podFail_left (hp : p < 64) (hown : s.owner p = none) : (s.podFail p).flag (POD_STATUS_Failed p) = true ∧
    ((s.podFail p).pod p).steer = [] ∧ ((s.podFail p).pod p).start = false ∧
      ((s.pod p).seq = true → podFaulted s (s.podFail p) p 9) ∧ podAlone s (s.podFail p) p 8 := by
  have hstart : ((s.failShown p).pod p).start = false := by rw [failShown_pod]
  have hsteer : ((s.failShown p).pod p).steer = [] := by rw [failShown_pod]
  rw [podFail_of_free hown]
  cases hseq : (s.pod p).seq with
  | false =>
    rw [podFailEnter_of_stopped hseq]
    exact ⟨flag_failShown hp, hsteer, hstart, nofun, podOnly_failShown.alone⟩
  | true =>
    rw [podFailEnter_of_running hseq]
    obtain ⟨hstop, hfault, hcode, hpc⟩ := podFaultEnter_faulted (c := 9) hp (by decide) hstart
    refine ⟨?_, ?_, ?_, fun _ => ⟨hstop, hfault, hcode, hpc.trans (fget_failShown hp rfl (.inr (by decide : 6 ≤ 8)))⟩,
      (podOnly_failShown.trans (podFaultEnter_only hp hstart)).alone⟩
    · rw [flag_of_fget (fget_podFaultEnter hp hstart rfl (Nat.le_refl 5) (by decide : 5 + 1 ≤ 24)), flag_failShown hp]
    · rw [podFaultEnter_keeps hp hstart PodSt.steer fun _ => rfl, hsteer]
    · rw [podFaultEnter_keeps hp hstart PodSt.start fun _ => rfl, hstart]

/-! ## Parity errors of cells (R109, R349) -/

theorem reg_log_PARCNT {code site inst info k : Nat} (hk : k < 18) :
    (s.log code site inst info).reg (ERL_PARCNT k) = s.reg (ERL_PARCNT k) := by
  have hring (m j : Nat) : ERL_PARCNT k ≠ ERL_RING m j := (ERL_RING_ne_of_lt (by unfold ERL_PARCNT; omega)).symm
  have hpmc : (s.pmc 10 1).reg (ERL_PARCNT k) = s.reg (ERL_PARCNT k) :=
    reg_pmc_ne (by unfold ERL_PARCNT PMC_LIVE_LO; omega) (by unfold ERL_PARCNT PMC_LIVE_HI; omega)
  obtain e | ⟨n, sec, w, -, -, e⟩ := log_cases s code site inst info
  · rw [e, reg_logNew_ne (by unfold ERL_PARCNT GLB_INTPEND; omega) (by unfold ERL_PARCNT ERL_COUNT; omega)
      (by unfold ERL_PARCNT ERL_LOST; omega) (by unfold ERL_PARCNT ERL_STATUS; omega),
      reg_logSlot_ne (by unfold ERL_PARCNT ERL_COUNT; omega) fun w => hring _ w, hpmc]
  · rw [e, reg_setReg_ne (hring _ 3), hpmc]

/-- The error of site 9 is told: counted and logged, its bank marked. -/
def State.cellError (s : State) (p col : Nat) : State := (s.podContam p false).parity 9 p col

theorem podContam_active : s.podContam p false = s.modPod p fun x => x.setAct { x.act with contam := true } := rfl

theorem cellError_pod : (s.cellError p col).pod q = (s.podContam p false).pod q := by
  rw [State.cellError, State.parity, State.pod, log_array]
  rfl

theorem cellError_contam : ((s.cellError p col).pod p).act.contam = true := by
  rw [cellError_pod, podContam_active, pod_modPod, act_setAct]

theorem cellError_steer : ((s.cellError p col).pod p).steer = (s.pod p).steer := by
  rw [cellError_pod, podContam_active, pod_modPod, setAct_keeps PodSt.steer fun _ _ _ => rfl]

theorem reg_cellError {a : Nat} (ha : offLog a) : (s.cellError p col).reg a = s.reg a := by
  have hpar : a ≠ ERL_PARCNT 9 := ne_of_offLog ha (by decide)
  rw [State.cellError, State.parity, reg_log_of_offLog ha, reg_pmc_of_offLog ha, reg_inc_ne hpar]
  rfl

theorem cellError_parcnt : (s.cellError p col).reg (ERL_PARCNT 9) = s.reg (ERL_PARCNT 9) + 1 := by
  rw [State.cellError, State.parity, reg_log_PARCNT (by decide), reg_pmc_ne (by decide) (by decide), reg_inc_self]
  rfl

theorem cellError_alone : podAlone s (s.cellError p col) p 8 :=
  ⟨fun _ hq => cellError_pod.trans (podOnly_modPod.pods _ hq), fun _ _ hq hi _ => greg_of_reg (reg_cellError (offLog_GREG hq hi))⟩

/-- The column's errors and the pod's are counted. -/
def State.colCounted (s : State) (p col : Nat) : State := (s.inc (POD_COLERR p col)).inc (POD_PARITY p)

theorem COLERR_ne_PARITY (hcol : col < 33) : POD_COLERR p col ≠ POD_PARITY p := by
  unfold POD_COLERR POD_PARITY
  omega

theorem colCounted_pod : (s.colCounted p col).pod q = s.pod q := rfl

theorem colCounted_colerr (hcol : col < 33) : (s.colCounted p col).reg (POD_COLERR p col) = s.reg (POD_COLERR p col) + 1 := by
  rw [State.colCounted, reg_inc_ne (COLERR_ne_PARITY hcol), reg_inc_self]

theorem colCounted_parity (hcol : col < 33) : (s.colCounted p col).reg (POD_PARITY p) = s.reg (POD_PARITY p) + 1 := by
  rw [State.colCounted, reg_inc_self, reg_inc_ne (COLERR_ne_PARITY hcol).symm]

theorem reg_colCounted_ne {a : Nat} (hc : a ≠ POD_COLERR p col) (hp : a ≠ POD_PARITY p) : (s.colCounted p col).reg a = s.reg a := by
  rw [State.colCounted, reg_inc_ne hp, reg_inc_ne hc]

/-- A register of pod p below its error counts is not one of them. -/
theorem reg_colCounted_low {k : Nat} (hcol : col < 33) (hk : k < 0x100) :
    (s.colCounted p col).reg (0x400000 + 65536 * q + k) = s.reg (0x400000 + 65536 * q + k) :=
  reg_colCounted_ne (by unfold POD_COLERR; omega) (by unfold POD_PARITY; omega)

theorem colCounted_alone (hcol : col < 33) : podAlone s (s.colCounted p col) p 8 :=
  ⟨fun _ _ => rfl, fun q i _ hi _ => greg_of_reg (by
    have := reg_colCounted_low (s := s) (p := p) (q := q) (k := 0x20 + 4 * i) hcol (by omega)
    rwa [show 0x400000 + 65536 * q + (0x20 + 4 * i) = POD_GREG q i from by unfold POD_GREG; omega] at this)⟩

theorem fget_colCounted {f : Fld} {k : Nat} (hcol : col < 33) (hk : k < 0x100) (hf : f.addr = 0x400000 + 65536 * p + k) :
    (s.colCounted p col).fget f = s.fget f := fget_of_reg (hf ▸ reg_colCounted_low hcol hk)

theorem cellParity_exec (hp : p < 64) (hcol : col < 33) (hclk : s.fastClk = true) : exec (.cellParityError p col false) s = .next
    (if ((s.cellError p col).colCounted p col).flag (POD_SPARECFG_AutoSteer p) &&
        decide (max 1 (((s.cellError p col).colCounted p col).fget (POD_SPARECFG_Limit p)) ≤
          (((s.cellError p col).colCounted p col).reg (POD_COLERR p col)).toNat) then
      ((s.cellError p col).colCounted p col).steerRequest p col
    else (s.cellError p col).colCounted p col) := by
  show execCellParityError p col false s = _
  rw [execCellParityError, reply_of_not (by omega), hclk, if_pos rfl]
  rfl

theorem COLMAP_place : POD_COLMAP p = 0x400000 + 65536 * p + 0x14 := by unfold POD_COLMAP; omega
theorem SPARECFG_place : POD_SPARECFG p = 0x400000 + 65536 * p + 0x18 := by unfold POD_SPARECFG; omega
theorem STATUS_place : POD_STATUS p = 0x400000 + 65536 * p + 4 := by unfold POD_STATUS; omega

/-- A field of pod p's status and setting registers is as before the error. -/
theorem fget_errorCounted {f : Fld} {k : Nat} (hp : p < 64) (hcol : col < 33) (hk : k < 0x100)
    (hf : f.addr = 0x400000 + 65536 * p + k) : ((s.cellError p col).colCounted p col).fget f = s.fget f :=
  (fget_colCounted hcol hk hf).trans (fget_of_reg (reg_cellError (hf ▸ offLog_pod (by omega) (by omega))))

theorem reg_errorCounted_colerr (hp : p < 64) (hcol : col < 33) :
    ((s.cellError p col).colCounted p col).reg (POD_COLERR p col) = s.reg (POD_COLERR p col) + 1 := by
  rw [colCounted_colerr hcol, reg_cellError (offLog_pod (by unfold POD_COLERR; omega) (by unfold POD_COLERR; omega))]

theorem errorCounted (hp : p < 64) (hcol : col < 33) (hclk : s.fastClk = true) (hauto : s.flag (POD_SPARECFG_AutoSteer p) = false) :
    gives (.cellParityError p col false) s fun t => t.reg (POD_COLERR p col) = s.reg (POD_COLERR p col) + 1 ∧
      t.reg (POD_PARITY p) = s.reg (POD_PARITY p) + 1 ∧ t.reg (ERL_PARCNT 9) = s.reg (ERL_PARCNT 9) + 1 ∧
      (t.pod p).act.contam = true ∧ podAlone s t p 8 := by
  have hoff : ((s.cellError p col).colCounted p col).flag (POD_SPARECFG_AutoSteer p) = false :=
    (flag_of_fget (fget_errorCounted hp hcol (by decide : 0x18 < 0x100) SPARECFG_place)).trans hauto
  refine gives_of (cellParity_exec hp hcol hclk) ?_
  rw [hoff, Bool.false_and, if_neg (by decide)]
  refine ⟨reg_errorCounted_colerr hp hcol, ?_, ?_, by rw [colCounted_pod, cellError_contam], podAlone_trans cellError_alone (colCounted_alone hcol)⟩
  · rw [colCounted_parity hcol, reg_cellError (offLog_pod (by unfold POD_PARITY; omega) (by unfold POD_PARITY; omega))]
  · rw [reg_colCounted_ne (by unfold ERL_PARCNT POD_COLERR; omega) (by unfold ERL_PARCNT POD_PARITY; omega), cellError_parcnt]

theorem errorSteers (hp : p < 64) (hcol : col < 33) (hclk : s.fastClk = true) (hauto : s.flag (POD_SPARECFG_AutoSteer p) = true)
    (hf : s.flag (POD_STATUS_Failed p) = false) (hs : s.flag (POD_COLMAP_Steered p) = false)
    (hb : s.flag (POD_COLMAP_SpareBad p) = false) (hnew : col ∉ (s.pod p).steer)
    (hlim : max 1 (s.fget (POD_SPARECFG_Limit p)) ≤ (s.reg (POD_COLERR p col) + 1).toNat) :
    gives (.cellParityError p col false) s fun t => (t.pod p).steer = (s.pod p).steer ++ [col] ∧
      (t.pod p).act.contam = true ∧ t.reg (POD_COLERR p col) = s.reg (POD_COLERR p col) + 1 ∧ podAlone s t p 8 := by
  have hcfg {f : Fld} (h : f.addr = POD_SPARECFG p) : ((s.cellError p col).colCounted p col).fget f = s.fget f :=
    fget_errorCounted hp hcol (by decide : 0x18 < 0x100) (h.trans SPARECFG_place)
  have hmap {f : Fld} (h : f.addr = POD_COLMAP p) : ((s.cellError p col).colCounted p col).flag f = s.flag f :=
    flag_of_fget (fget_errorCounted hp hcol (by decide : 0x14 < 0x100) (h.trans COLMAP_place))
  have hfail : ((s.cellError p col).colCounted p col).flag (POD_STATUS_Failed p) = false :=
    (flag_of_fget (fget_errorCounted hp hcol (by decide : 4 < 0x100) STATUS_place)).trans hf
  have hsteer : (((s.cellError p col).colCounted p col).pod p).steer = (s.pod p).steer := by rw [colCounted_pod, cellError_steer]
  have hcontam : (((s.cellError p col).colCounted p col).pod p).act.contam = true := by rw [colCounted_pod, cellError_contam]
  have hcount := reg_errorCounted_colerr (s := s) hp hcol
  have halone : podAlone s ((s.cellError p col).colCounted p col) p 8 := podAlone_trans cellError_alone (colCounted_alone hcol)
  refine gives_of (cellParity_exec hp hcol hclk) ?_
  rw [flag_of_fget (hcfg rfl), hcfg rfl, hcount, hauto, decide_eq_true hlim, Bool.and_self, if_pos rfl,
    steerRequest_of_free hfail ((hmap rfl).trans hs) ((hmap rfl).trans hb) (hsteer ▸ hnew), pod_modPod, ← hsteer]
  revert hcontam hcount halone
  generalize (s.cellError p col).colCounted p col = u
  exact fun hcontam hcount halone => ⟨rfl, hcontam, hcount, podAlone_trans halone podOnly_modPod.alone⟩

theorem weightsReloaded (hp : p < 64) (hclk : s.fastClk = true) (hload : (s.pod p).reloading = true) :
    gives (.steerReloadDone p) s fun t => (t.pod p).reloading = false ∧
      (t.pod p).weights = (s.pod p).weights.map (fun x => s.weightSet p x.set x.chan) ∧ podAlone s t p 8 := by
  refine gives_of (t := s.modPod p fun x => { x with
    reloading := false, weights := x.weights.map fun w => s.weightSet p w.set w.chan
    shadow := x.shadow.map fun w => s.weightSet p w.set w.chan }) ?_ ⟨?_, ?_, podOnly_modPod.alone⟩
  · show execSteerReloadDone p s = _
    rw [execSteerReloadDone, reply_of_not (by omega), hclk, if_neg (by decide), if_pos hload]
  · rw [pod_modPod]
  · rw [pod_modPod]

/-- Settles O14: Run and the stop by what waits, steering by the column map, a parity error by AutoSteer. -/
theorem podRunsAndSteering : Obligations.PodRunsAndSteering := by
  unfold Obligations.PodRunsAndSteering
  refine ⟨fun s p hp ht => ⟨runWaits hp ht, runStarts hp ht, runConfigErr hp ht, runRefused hp ht, runStopped hp ht⟩,
    fun s p col hp hcol => ⟨fun ht hf hs hb hnew => gives_of (steer_exec hp hcol ht) ?_,
      fun ht hf hu hnew hown => gives_of (steer_exec hp hcol ht) ?_, errorCounted hp hcol, errorSteers hp hcol, weightsReloaded hp⟩⟩
  · rw [steerRequest_of_free hf hs hb hnew, pod_modPod]
    exact ⟨rfl, podOnly_modPod.alone⟩
  · rw [steerRequest_of_used hf hu hnew]
    exact podFail_left hp hown

end Sys2Proof.Machine
end

section
/-! SUPPORT. What the beats of MAC and BMAC add to the cells of a bank (R92 to R94, R103). -/

namespace Sys2Proof.Machine

variable {s t u : State} {p q n : Nat}

/-! ## Cells and the products that enter them -/

/-- The sum and the count of products. -/
def productSum (ps : List (Int × Int)) : Sum := ⟨(ps.map Prod.fst).sum, (ps.map Prod.snd).sum, ps.length⟩

theorem foldl_sumAdd {ps : List (Int × Int)} {a : Sum} :
    ps.foldl Sum.add a = ⟨a.re + (ps.map Prod.fst).sum, a.im + (ps.map Prod.snd).sum, a.n + ps.length⟩ := by
  induction ps generalizing a with
  | nil => simp
  | cons v ps ih =>
    rw [List.foldl_cons, ih]
    simp only [Sum.add, List.map_cons, List.sum_cons, List.length_cons, Sum.mk.injEq]
    omega

theorem productSum_eq_foldl {ps : List (Int × Int)} : ps.foldl Sum.add Sum.zero = productSum ps := by
  rw [foldl_sumAdd]
  simp [Sum.zero, productSum]

theorem wrap40_congr {a b : Int} (h : a % 2 ^ 40 = b % 2 ^ 40) : wrap40 a = wrap40 b := by rw [wrap40, wrap40, h]

theorem wrap40_emod {a : Int} : wrap40 a % 2 ^ 40 = a % 2 ^ 40 := by
  unfold wrap40 toSigned
  dsimp only
  split <;> omega

theorem wrap40_wrap40_add {a b : Int} : wrap40 (wrap40 a + b) = wrap40 (a + b) := by
  have := wrap40_emod (a := a)
  exact wrap40_congr (by omega)

theorem add_productSum {c : Cell} {ps : List (Int × Int)} :
    c.add (productSum ps).re (productSum ps).im (productSum ps).n = cellAfter c ps := by
  unfold Cell.add cellAfter productSum
  split <;> simp

theorem cellAfter_append {c : Cell} {ps qs : List (Int × Int)} : cellAfter (cellAfter c ps) qs = cellAfter c (ps ++ qs) := by
  unfold cellAfter
  simp only [Bool.false_eq_true, if_false, List.map_append, List.sum_append, List.length_append, wrap40_wrap40_add, add_assoc,
    Nat.mod_add_mod]

/-! ## A table after changes at distinct keys -/

section
variable {α ι : Type} [DecidableEq α] {d : α} {key : ι → Nat} {g : ι → α → α} {x : Tbl α} {k : Nat}

theorem tget_tmod_self {f : α → α} : tget d (tmod d x k f) k = f (tget d x k) := tget_tset_self ..

theorem tget_tmod_ne {f : α → α} {j : Nat} (h : k ≠ j) : tget d (tmod d x j f) k = tget d x k := tget_tset_ne d x _ h

theorem tget_foldl_tmod_ne {l : List ι} (h : ∀ i ∈ l, k ≠ key i) :
    tget d (l.foldl (fun t i => tmod d t (key i) (g i)) x) k = tget d x k := by
  induction l generalizing x with
  | nil => rfl
  | cons i l ih =>
    rw [List.foldl_cons, ih fun j hj => h j (List.mem_cons_of_mem _ hj), tget_tmod_ne (h i List.mem_cons_self)]

theorem tget_foldl_tmod {l : List ι} {i : ι} (hi : i ∈ l) (hl : l.Nodup) (hkey : ∀ j ∈ l, key i = key j → j = i) :
    tget d (l.foldl (fun t i => tmod d t (key i) (g i)) x) (key i) = g i (tget d x (key i)) := by
  induction l generalizing x with
  | nil => cases hi
  | cons j l ih =>
    obtain ⟨hj, hl⟩ := List.nodup_cons.mp hl
    rw [List.foldl_cons]
    by_cases hij : i = j
    · subst hij
      rw [tget_foldl_tmod_ne fun m hm hk => hj (hkey m (List.mem_cons_of_mem _ hm) hk ▸ hm), tget_tmod_self]
    · rw [ih ((List.mem_cons.mp hi).resolve_left hij) hl fun m hm => hkey m (List.mem_cons_of_mem _ hm),
        tget_tmod_ne fun hk => hij (hkey j List.mem_cons_self hk).symm]

end

/-! ## The beats of a MAC -/

theorem corrProducts_add {ro co : OpenPort} {f tr tc m n r c k : Nat} : s.corrProducts ro co f tr tc (m + n) r c k =
    s.corrProducts ro co f tr tc m r c k ++ s.corrProducts ro co f (tr + m) (tc + m) n r c k := by
  simp only [State.corrProducts, List.range_add, List.filterMap_append, List.filterMap_map, Function.comp_def, add_assoc]

theorem macSum_eq {ro co : OpenPort} {f tr tc r c k : Nat} :
    s.macSum ro co f tr tc r c k = productSum (s.corrProducts ro co f tr tc (beatFrames f) r c k) := by
  rw [State.macSum, ← productSum_eq_foldl, State.corrProducts, List.foldl_filterMap]
  congr 1
  funext a q
  cases s.portSample ro f (tr + q) r k <;> cases s.portSample co f (tc + q) c k <;> rfl

/-- The cells after one correlation beat into slot group g from frames tr and tc on. -/
def State.macCells (s : State) (ro co : OpenPort) (f g tr tc : Nat) (x : Tbl Cell) : Tbl Cell :=
  (List.range 4096).foldl (fun x i => tmod Cell.empty x (cellKey (4 * g + i / 1024) (i / 32 % 32) (i % 32)) fun v =>
    cellAfter v (s.corrProducts ro co f tr tc (beatFrames f) (i / 32 % 32) (i % 32) (i / 1024))) x

theorem tget_macCells {ro co : OpenPort} {f g tr tc slot r c : Nat} {x : Tbl Cell} (hr : r < 32) (hc : c < 32) :
    tget Cell.empty (s.macCells ro co f g tr tc x) (cellKey slot r c) =
      if slot / 4 = g then
        cellAfter (tget Cell.empty x (cellKey slot r c)) (s.corrProducts ro co f tr tc (beatFrames f) r c (slot % 4))
      else tget Cell.empty x (cellKey slot r c) := by
  split
  · rename_i hg
    obtain ⟨i, hi, rfl, rfl, rfl⟩ : ∃ i < 4096, 4 * g + i / 1024 = slot ∧ i / 32 % 32 = r ∧ i % 32 = c :=
      ⟨1024 * (slot % 4) + 32 * r + c, by omega, by omega, by omega, by omega⟩
    have hk : (4 * g + i / 1024) % 4 = i / 1024 := by omega
    rw [hk]
    refine tget_foldl_tmod (key := fun i => cellKey (4 * g + i / 1024) (i / 32 % 32) (i % 32)) (List.mem_range.mpr hi)
      List.nodup_range fun j hj hkey => ?_
    have := List.mem_range.mp hj
    simp only [cellKey] at hkey
    omega
  · refine tget_foldl_tmod_ne fun i hi hkey => ?_
    have := List.mem_range.mp hi
    simp only [cellKey] at hkey
    omega

theorem tget_macCells_foldl {ro co : OpenPort} {f g rp cp slot r c : Nat} {x : Tbl Cell} (hr : r < 32) (hc : c < 32) :
    tget Cell.empty ((List.range (n + 1)).foldl (fun t beat => s.macCells ro co f g (ro.desc.t0 + (rp + beat) * beatFrames f)
        (co.desc.t0 + (cp + beat) * beatFrames f) t) x) (cellKey slot r c) =
      if slot / 4 = g then cellAfter (tget Cell.empty x (cellKey slot r c)) (s.corrProducts ro co f
        (ro.desc.t0 + rp * beatFrames f) (co.desc.t0 + cp * beatFrames f) ((n + 1) * beatFrames f) r c (slot % 4))
      else tget Cell.empty x (cellKey slot r c) := by
  induction n with
  | zero => rw [Nat.zero_add, List.range_one, List.foldl_cons, List.foldl_nil, tget_macCells hr hc, Nat.add_zero, Nat.add_zero, Nat.one_mul]
  | succ n ih =>
    rw [List.range_succ, List.foldl_append, List.foldl_cons, List.foldl_nil, tget_macCells hr hc, ih]
    by_cases hg : slot / 4 = g
    · rw [if_pos hg, if_pos hg, if_pos hg, cellAfter_append, Nat.add_one_mul (n + 1), corrProducts_add]
      simp only [add_mul, add_assoc]
    · rw [if_neg hg, if_neg hg, if_neg hg]

/-! ## The beats of a BMAC -/

theorem bmacSum_eq {x : WSet} {co : OpenPort} {f tt r k : Nat} :
    s.bmacSum x co f tt r k = productSum (s.beamProducts x co f tt r k) := by
  rw [State.bmacSum, ← productSum_eq_foldl, State.beamProducts, List.foldl_filterMap]
  congr 1
  funext a c
  cases s.portSample co f tt c k <;> rfl

/-- The cells after one beam beat from entry e on, its first frame at tt. -/
def State.bmacCells (s : State) (y : WSet) (co : OpenPort) (f e tt : Nat) (x : Tbl Cell) : Tbl Cell :=
  (List.range (32 * (4 * beatFrames f))).foldl (fun x i => tmod Cell.empty x
    (cellKey ((e + i % (4 * beatFrames f)) / 32) (i / (4 * beatFrames f)) ((e + i % (4 * beatFrames f)) % 32)) fun v =>
      cellAfter v (s.beamProducts y co f (tt + i % (4 * beatFrames f) / 4) (i / (4 * beatFrames f)) (i % (4 * beatFrames f) % 4))) x

theorem beatFrames_cases {f : Nat} : beatFrames f = 1 ∨ beatFrames f = 4 := by
  unfold beatFrames
  split
  · exact .inr rfl
  · exact .inl rfl

theorem tget_bmacCells {y : WSet} {co : OpenPort} {f e e' tt r : Nat} {x : Tbl Cell} (hr : r < 32) :
    tget Cell.empty (s.bmacCells y co f e tt x) (cellKey (e' / 32) r (e' % 32)) =
      if e ≤ e' ∧ e' < e + 4 * beatFrames f then
        cellAfter (tget Cell.empty x (cellKey (e' / 32) r (e' % 32)))
          (s.beamProducts y co f (tt + (e' - e) / 4) r ((e' - e) % 4))
      else tget Cell.empty x (cellKey (e' / 32) r (e' % 32)) := by
  unfold State.bmacCells
  obtain ⟨L, hL, hLs⟩ : ∃ L, 4 * beatFrames f = L ∧ (L = 4 ∨ L = 16) := ⟨_, rfl, by have := beatFrames_cases (f := f); omega⟩
  rw [hL]
  have hi32 {i : Nat} (hi : i ∈ List.range (32 * L)) : i / L < 32 ∧ i % L < L ∧ i = L * (i / L) + i % L := by
    have := List.mem_range.mp hi
    exact ⟨Nat.div_lt_of_lt_mul (by omega), Nat.mod_lt _ (by omega), (Nat.div_add_mod i L).symm⟩
  split
  · obtain ⟨i, hi, rfl, rfl⟩ : ∃ i ∈ List.range (32 * L), i / L = r ∧ e + i % L = e' :=
      ⟨L * r + (e' - e), List.mem_range.mpr (by rcases hLs with rfl | rfl <;> omega), by rcases hLs with rfl | rfl <;> omega,
        by rcases hLs with rfl | rfl <;> omega⟩
    rw [Nat.add_sub_cancel_left]
    refine tget_foldl_tmod (key := fun i => cellKey ((e + i % L) / 32) (i / L) ((e + i % L) % 32)) hi List.nodup_range
      fun j hj hkey => ?_
    obtain ⟨-, -, hi3⟩ := hi32 hi
    obtain ⟨hj1, -, hj3⟩ := hi32 hj
    simp only [cellKey] at hkey
    have hrow : i / L = j / L := by omega
    have hlane : i % L = j % L := by omega
    rw [hi3, hj3, hrow, hlane]
  · refine tget_foldl_tmod_ne fun i hi hkey => ?_
    obtain ⟨hi1, hi2, -⟩ := hi32 hi
    simp only [cellKey] at hkey
    omega

theorem tget_bmacCells_foldl {y : WSet} {co : OpenPort} {f base cp e r : Nat} {x : Tbl Cell} (hr : r < 32) :
    tget Cell.empty ((List.range n).foldl (fun t beat => s.bmacCells y co f (base + 4 * beatFrames f * (0 + beat))
        (co.desc.t0 + (cp + beat) * beatFrames f) t) x) (cellKey (e / 32) r (e % 32)) =
      if base ≤ e ∧ e < base + n * (4 * beatFrames f) then cellAfter (tget Cell.empty x (cellKey (e / 32) r (e % 32)))
        (s.beamProducts y co f (co.desc.t0 + cp * beatFrames f + (e - base) / 4) r ((e - base) % 4))
      else tget Cell.empty x (cellKey (e / 32) r (e % 32)) := by
  induction n with
  | zero => rw [if_neg (by omega)]; rfl
  | succ n ih =>
    rw [List.range_succ, List.foldl_append, List.foldl_cons, List.foldl_nil, tget_bmacCells hr, ih]
    generalize hF : beatFrames f = F
    have hFs : F = 1 ∨ F = 4 := hF ▸ beatFrames_cases
    by_cases hin : base + 4 * F * (0 + n) ≤ e ∧ e < base + 4 * F * (0 + n) + 4 * F
    · have hframe : co.desc.t0 + (cp + n) * F + (e - (base + 4 * F * (0 + n))) / 4 = co.desc.t0 + cp * F + (e - base) / 4 := by
        rcases hFs with rfl | rfl <;> omega
      have hlane : (e - (base + 4 * F * (0 + n))) % 4 = (e - base) % 4 := by rcases hFs with rfl | rfl <;> omega
      rw [if_pos hin, if_neg (by rcases hFs with rfl | rfl <;> omega), if_pos (by rcases hFs with rfl | rfl <;> omega), hframe, hlane]
    · have hiff : (base ≤ e ∧ e < base + n * (4 * F)) ↔ (base ≤ e ∧ e < base + (n + 1) * (4 * F)) := by
        rcases hFs with rfl | rfl <;> omega
      simp only [if_neg hin, hiff]

end Sys2Proof.Machine
end

section
/-! Proofs about MAC and BMAC: the beats that are ready, what they count, and the cells they enter (R91 to R94, R98, R103). -/

namespace Sys2Proof.Machine

variable {s t u v : State} {p q n m w op : Nat}

/-! ## What the beats read -/

theorem fresh_issuing : (s.issuing p op).fresh = s.fresh := by
  have hchosen {u : State} {pc : Nat} {tr : Bool} : (u.pipChosen p op pc tr).fresh = u.fresh := by
    unfold State.pipChosen
    split <;> rfl
  unfold State.issuing
  split
  · rfl
  dsimp only [State.pipIssue]
  split
  · rfl
  split
  · split
    · rfl
    · exact hchosen
  split
  · exact hchosen
  · rfl

theorem OnlyPods.hull (h : OnlyPods s t) : t.hull = s.hull := by
  unfold OnlyPods at h
  exact (congrArg State.hull h :)

theorem OnlyPods.feeding {bus : Nat} (h : OnlyPods s t) : t.feeding p bus = s.feeding p bus := by
  unfold State.feeding
  rw [h.openp]

/-- Samples and products rest on the staged frames, the Hull's registers and the free values, none of which the pods' own state is. -/
structure Samples (s t : State) : Prop where
  hull : t.hull = s.hull
  fresh : t.fresh = s.fresh
  cfg : t.reg HULL_CFG = s.reg HULL_CFG
  region : ∀ st, t.reg (HULL_SREGION st) = s.reg (HULL_SREGION st)

theorem samples_issuing_modPod {f : PodSt → PodSt} : Samples s ((s.issuing p op).modPod p f) where
  hull := beside_issuing.rest.hull
  fresh := fresh_issuing
  cfg := reg_issuing_ne (by decide) (by decide)
  region st := reg_issuing_ne (by unfold HULL_SREGION PMC_LIVE_LO; omega) (by unfold HULL_SREGION PMC_LIVE_HI; omega)

theorem Samples.portSample (h : Samples s t) {o : OpenPort} {f tt i k : Nat} : t.portSample o f tt i k = s.portSample o f tt i k := by
  have hpaths : t.hullPaths = s.hullPaths := congrArg (· + 1) (fget_of_reg h.cfg)
  have hoff {st : Nat} : t.fget (HULL_SREGION_Offset st) = s.fget (HULL_SREGION_Offset st) := fget_of_reg (h.region st)
  simp only [State.portSample, hpaths, hoff, h.hull, h.fresh]

theorem Samples.corrProducts (h : Samples s t) {ro co : OpenPort} {f tr tc r c k : Nat} :
    t.corrProducts ro co f tr tc n r c k = s.corrProducts ro co f tr tc n r c k := by
  simp only [State.corrProducts, h.portSample]

theorem Samples.beamProducts (h : Samples s t) {y : WSet} {co : OpenPort} {f tt r k : Nat} :
    t.beamProducts y co f tt r k = s.beamProducts y co f tt r k := by
  simp only [State.beamProducts, h.portSample]

/-! ## What the beats write -/

/-- From s to t beats have entered the active bank of pod p, which now holds these cells; beside it only open ports have changed. -/
structure Fed (p : Nat) (cells : Tbl Cell) (s t : State) : Prop where
  pods : ∀ q, q ≠ p → t.pod q = s.pod q
  regs : t.regs = s.regs
  cells : (t.pod p).act.cells = cells
  kept : { t.pod p with bankA := (s.pod p).bankA, bankB := (s.pod p).bankB } = s.pod p

/-- What of a pod is none of its banks stays as beats enter. -/
theorem Fed.keeps {β : Type} {cells : Tbl Cell} (h : Fed p cells s t) (π : PodSt → β)
    (hπ : ∀ x A B, π { x with bankA := A, bankB := B } = π x) : π (t.pod p) = π (s.pod p) := by
  rw [← hπ (t.pod p) (s.pod p).bankA (s.pod p).bankB, h.kept]

theorem fed_setPod {cells : Tbl Cell} {b : Bank} (h : b.cells = cells) : Fed p cells s (s.setPod p ((s.pod p).setAct b)) where
  pods _ hq := setPod_pod_ne hq
  regs := rfl
  cells := by rw [setPod_pod, act_setAct, h]
  kept := by rw [setPod_pod, setAct_kept]

theorem consume_kept {bus k : Nat} : (s.consume p bus k).regs = s.regs ∧ (s.consume p bus k).pod q = s.pod q := by
  unfold State.consume
  split <;> exact ⟨rfl, rfl⟩

theorem Fed.consume {cells : Tbl Cell} {bus k : Nat} (h : Fed p cells s t) : Fed p cells s (t.consume p bus k) where
  pods q hq := consume_kept.2.trans (h.pods q hq)
  regs := (consume_kept (q := p)).1.trans h.regs
  cells := by rw [consume_kept.2, h.cells]
  kept := by rw [consume_kept.2, h.kept]

theorem fed_macBeats {g rp cp : Nat} {ro co : OpenPort} : Fed p ((List.range n).foldl (fun x beat =>
      s.macCells ro co (s.podFormat p) g (ro.desc.t0 + (rp / beatWords (s.podFormat p) + beat) * beatFrames (s.podFormat p))
        (co.desc.t0 + (cp / beatWords (s.podFormat p) + beat) * beatFrames (s.podFormat p)) x) (s.pod p).act.cells)
    s (s.macBeats p g n (ro, rp) (co, cp)) := by
  simp only [State.macCells, ← add_productSum, ← macSum_eq]
  exact fed_setPod rfl

theorem fed_bmacBeats {base cp : Nat} {y : WSet} {co : OpenPort} : Fed p ((List.range n).foldl (fun x beat =>
      s.bmacCells y co (s.podFormat p) (base + 4 * beatFrames (s.podFormat p) * (0 + beat))
        (co.desc.t0 + (cp / beatWords (s.podFormat p) + beat) * beatFrames (s.podFormat p)) x) (s.pod p).act.cells)
    s (s.bmacBeats p base 0 n y (co, cp)) := by
  simp only [State.bmacCells, ← add_productSum, ← bmacSum_eq]
  exact fed_setPod rfl

/-! ## What the beats count, and where the sequencer goes -/

theorem beside_draw_if {c : Prop} [Decidable c] : Beside p s (if c then s.draw else s) := by
  split
  · exact beside_draw
  · exact .refl

theorem beatsDone_last {done left cpb tail : Nat} (h : left ≤ n) :
    ∃ z, Beside p (s.incBy (POD_BEATS p) n) z ∧ s.beatsDone p done left n cpb tail = z.podNext p := by
  dsimp only [State.beatsDone]
  rw [if_pos h]
  exact ⟨_, (((beside_pmc.trans beside_draw_if).trans beside_podClock).trans (beside_modPod rfl)).trans beside_pipRetire, rfl⟩

theorem beatsDone_part {done left cpb tail : Nat} (h : n < left) :
    ∃ z, Beside p (s.incBy (POD_BEATS p) n) z ∧
      s.beatsDone p done left n cpb tail = z.modPod p fun x => { x with beats := some (done + n, left - n) } := by
  dsimp only [State.beatsDone]
  rw [if_neg (by omega)]
  exact ⟨_, (beside_pmc.trans beside_draw_if).trans beside_podClock, rfl⟩

/-- Of the n beats of the instruction at issue in s, m have entered pod p, which but for the sequencer's place is as x; with the last
one the sequencer has gone on. -/
structure Beaten (p n m : Nat) (x : PodSt) (s t : State) : Prop where
  pods : ∀ q, q ≠ p → t.pod q = s.pod q
  count : t.reg (POD_BEATS p) = s.reg (POD_BEATS p) + BitVec.ofNat 32 m
  done : m = n → wentOn s t p
  part : m < n → t.pc p = s.pc p ∧ (t.pod p).beats = some (m, n - m)
  task : (t.pod p).task = x.task

theorem offLog_BEATS (hp : p < 64) : offLog (POD_BEATS p) := offLog_pod (by unfold POD_BEATS; omega) (by unfold POD_BEATS; omega)

theorem BEATS_ne_STATUS : POD_BEATS p ≠ POD_STATUS p := by
  unfold POD_BEATS POD_STATUS
  omega

theorem beaten_beatsDone {cpb tail : Nat} (h : s.atIssue p w) (hm : m ≤ n) (hpods : ∀ q, q ≠ p → v.pod q = s.pod q)
    (hreg : ∀ a, offLog a → v.reg a = s.reg a) (hloop : (v.pod p).loop = (s.pod p).loop) :
    Beaten p n m (v.pod p) s (v.beatsDone p 0 n m cpb tail) := by
  obtain ⟨hp, -, -, -, hnext⟩ := h
  have hpc : (v.incBy (POD_BEATS p) m).pc p = s.pc p :=
    fget_of_reg ((reg_incBy_ne BEATS_ne_STATUS.symm).trans (hreg _ (offLog_status hp)))
  have hcount : (v.incBy (POD_BEATS p) m).reg (POD_BEATS p) = s.reg (POD_BEATS p) + BitVec.ofNat 32 m := by
    rw [reg_incBy_self, hreg _ (offLog_BEATS hp)]
  by_cases hlast : n ≤ m
  · obtain ⟨z, hz, hex⟩ := beatsDone_last (s := v) (p := p) (done := 0) (cpb := cpb) (tail := tail) hlast
    have hn : (v.incBy (POD_BEATS p) m).nextPc p = s.nextPc p := nextPc_congr hloop hpc
    have hgo : Goes p (s.nextPc p) (v.incBy (POD_BEATS p) m) (z.podNext p) := hn ▸ goes_podNext_after hz hp (hn ▸ hnext)
    rw [hex]
    exact ⟨fun q hq => (hgo.only.pods q hq).trans (hpods q hq),
      (hgo.only.reg _ (offLog_BEATS hp) BEATS_ne_STATUS).trans hcount, fun _ => hgo.wentOn, fun hlt => by omega, hgo.task⟩
  · obtain ⟨z, hz, hex⟩ := beatsDone_part (s := v) (p := p) (done := 0) (cpb := cpb) (tail := tail) (not_le.mp hlast)
    rw [hex, Nat.zero_add]
    refine ⟨fun q hq => ((setPod_pod_ne hq).trans (hz.pods q hq)).trans (hpods q hq), (hz.reg _ (offLog_BEATS hp)).trans hcount,
      fun heq => by omega, fun _ => ⟨(hz.pc hp).trans hpc, by rw [pod_modPod]⟩, ?_⟩
    rw [pod_modPod]
    exact eq_of_plain hz.plain PodSt.task fun _ => rfl

/-- With no words ready the instruction stands at its first beat, and the cycle counts. -/
theorem beaten_stall (h : s.atIssue p w) (hn : 0 < n) (hpods : ∀ q, q ≠ p → v.pod q = s.pod q)
    (hreg : ∀ a, offLog a → v.reg a = s.reg a) (hbeats : (v.pod p).beats = some (0, n)) :
    Beaten p n 0 (v.pod p) s (v.stall p 2) ∧ (v.stall p 2).reg (POD_STALLOPND p) = s.reg (POD_STALLOPND p) + 1 := by
  have hp := h.1
  have hoff : offLog (POD_STALLOPND p) := offLog_pod (by unfold POD_STALLOPND; omega) (by unfold POD_STALLOPND; omega)
  refine ⟨⟨fun q hq => (stall_alone.1 q hq).trans (hpods q hq), ?_, fun heq => by omega, fun _ => ⟨?_, ?_⟩, ?_⟩, ?_⟩
  · rw [reg_stall_ne (offLog_BEATS hp) (.inl (by unfold POD_BEATS POD_STALLDRN; omega)), hreg _ (offLog_BEATS hp)]
    simp
  · exact (fget_stall_status hp rfl).trans (fget_of_reg (hreg _ (offLog_status hp)))
  · exact (stall_keeps PodSt.beats fun _ => rfl).trans hbeats
  · exact stall_keeps PodSt.task fun _ => rfl
  · rw [beside_stall.reg _ hoff]
    exact reg_inc_self.trans (congrArg (· + 1) (hreg _ hoff))

end Sys2Proof.Machine
end

section
/-! Proofs about MAC and BMAC as instructions: what is checked, and the products that enter the active bank (R92 to R94, R103). -/

namespace Sys2Proof.Machine

variable {s t u v : State} {p q n m w op : Nat}

/-! ## The checks before the first beat -/

theorem Beside.bankStall (h : Beside p s t) : t.bankStall p = s.bankStall p := by
  unfold State.bankStall
  dsimp only
  rw [h.keeps PodSt.drains fun _ => rfl, h.keeps PodSt.active fun _ => rfl, h.keeps PodSt.swap fun _ => rfl]

theorem Beside.beatsOf (h : Beside p s t) (hp : p < 64) : t.beatsOf p w = s.beatsOf p w := by
  unfold State.beatsOf
  rw [h.greg hp bits_lt]

theorem beatsOf_pos : 0 < s.beatsOf p w := Nat.succ_pos _

/-- A pod whose MAC of n beats begins, its slot group g then holding this many frames. -/
def PodSt.macBegun (x : PodSt) (g n total : Nat) : PodSt :=
  { x with beats := some (0, n), frames := tset 0 x.frames g total, macd := true }

theorem mac_exec {total : Nat} (h : s.atIssue p w) (hop : w / 2 ^ 58 = 0x09) (hbeam : s.podBeam p = false)
    (hnone : (s.pod p).beats = none) (hwin : (s.pod p).winits = []) (hstall : s.bankStall p = none)
    (htotal : total = tget 0 (s.pod p).frames (bits w 56 2) + s.beatsOf p w * beatFrames (s.podFormat p))
    (hmax : total ≤ maxPass (s.podFormat p)) : exec (.mac p) s = .next
      (((s.issuing p 0x09).modPod p fun x => x.macBegun (bits w 56 2) (s.beatsOf p w) total).macRun p (bits w 56 2) 0
        (s.beatsOf p w)) := by
  have hp := h.1
  have hu : Beside p s (s.issuing p 0x09) := beside_issuing
  have hslots : ((s.issuing p 0x09).pod p).winitSlots = [] := by
    rw [PodSt.winitSlots, hu.keeps PodSt.winits fun _ => rfl, hwin]
    rfl
  rw [exec_of_atIssue rfl h hop rfl]
  dsimp only
  rw [hu.keeps PodSt.beats fun _ => rfl, hnone, hu.podBeam hp, hbeam, hu.bankStall, hstall, hslots, hu.podFormat hp, hu.beatsOf hp,
    hu.keeps PodSt.frames fun _ => rfl, ← htotal]
  dsimp only
  rw [if_neg (by decide), if_neg (by simp), if_neg (by simp), if_neg (by omega)]
  rfl

/-- A pod whose BMAC of n beats begins, with its counts of beats at the entries. -/
def PodSt.bmacBegun (x : PodSt) (n : Nat) (counts : Tbl Nat) : PodSt := { x with beats := some (0, n), bmacs := counts, macd := true }

theorem bmac_exec {y : WSet} (h : s.atIssue p w) (hop : w / 2 ^ 58 = 0x0A) (hbeam : s.podBeam p = true)
    (hnone : (s.pod p).beats = none) (hy : (s.pod p).weights = some y) (hload : (s.pod p).reloading = false)
    (hstall : s.bankStall p = none) (hmax : bits w 49 9 + s.beatsOf p w * (4 * beatFrames (s.podFormat p)) ≤ 512)
    (hcounts : ∀ e < 512, tget 0 (s.pod p).bmacs e < 128) : ∃ counts, exec (.bmac p) s = .next
      (((s.issuing p 0x0A).modPod p fun x => x.bmacBegun (s.beatsOf p w) counts).bmacRun p (bits w 49 9) 0 (s.beatsOf p w)) := by
  have hp := h.1
  have hu : Beside p s (s.issuing p 0x0A) := beside_issuing
  have hfull : (((List.range (s.beatsOf p w * (4 * beatFrames (s.podFormat p)))).map fun i => bits w 49 9 + i).any fun e =>
      decide (128 ≤ tget 0 (s.pod p).bmacs e)) = false := by
    simp only [List.any_map, List.any_eq_false, List.mem_range, Function.comp_apply, decide_eq_true_eq, not_le]
    exact fun i hi => hcounts _ (by omega)
  rw [exec_of_atIssue rfl h hop rfl]
  dsimp only
  rw [hu.keeps PodSt.beats fun _ => rfl, hnone, hu.podBeam hp, hbeam, hu.keeps PodSt.weights fun _ => rfl, hy, hu.bankStall, hstall,
    hu.keeps PodSt.reloading fun _ => rfl, hload, hu.podFormat hp, hu.beatsOf hp, hu.keeps PodSt.bmacs fun _ => rfl]
  dsimp only
  rw [hfull, if_neg (by decide), if_neg (by simp), if_neg (by simp only [List.length_map, List.length_range]; omega),
    if_neg (by decide), if_neg (by decide)]
  exact ⟨_, rfl⟩

/-! ## From the first beat on -/

/-- v is s with an instruction of n beats begun at pod p. -/
structure Begun (p n : Nat) (s v : State) : Prop where
  pods : ∀ q, q ≠ p → v.pod q = s.pod q
  reg : ∀ a, offLog a → v.reg a = s.reg a
  beats : (v.pod p).beats = some (0, n)
  loop : (v.pod p).loop = (s.pod p).loop
  act : (v.pod p).act = (s.pod p).act
  format : v.podFormat p = s.podFormat p
  openp : ∀ bus, v.feeding p bus = s.feeding p bus
  samples : Samples s v

theorem begun_modPod {f : PodSt → PodSt} (hp : p < 64) (hb : ∀ x, (f x).beats = some (0, n)) (hl : ∀ x, (f x).loop = x.loop)
    (ha : ∀ x, (f x).act = x.act) : Begun p n s ((s.issuing p op).modPod p f) where
  pods q hq := (setPod_pod_ne hq).trans (beside_issuing.pods q hq)
  reg := beside_issuing.reg
  beats := by rw [pod_modPod, hb]
  loop := by rw [pod_modPod, hl, beside_issuing.keeps PodSt.loop fun _ => rfl]
  act := by rw [pod_modPod, ha, beside_issuing.keeps PodSt.act fun _ => rfl]
  format := (beside_issuing (op := op)).podFormat hp
  openp _ := ((beside_issuing (op := op)).rest.trans onlyPods_modPod).feeding
  samples := samples_issuing_modPod

/-- The beats that have entered pod p from v on, as an instruction says it. -/
theorem beaten_of_fed {cells : Tbl Cell} {cpb tail : Nat} (h : s.atIssue p w) (hm : m ≤ n) (hv : Begun p n s v)
    (hu : Fed p cells v u) : Beaten p n m (u.pod p) s (u.beatsDone p 0 n m cpb tail) :=
  beaten_beatsDone h hm (fun q hq => (hu.pods q hq).trans (hv.pods q hq)) (fun a ha => (reg_of_regs hu.regs).trans (hv.reg a ha))
    ((hu.keeps PodSt.loop fun _ _ _ => rfl).trans hv.loop)

theorem macRun_eq {g a b rp cp : Nat} {ro co : OpenPort} (hr : s.feeding p 0 = some (a, ro, rp)) (hc : s.feeding p 1 = some (b, co, cp))
    (hm : m = min n (min (wordsReady ro rp / beatWords (s.podFormat p)) (wordsReady co cp / beatWords (s.podFormat p)))) :
    s.macRun p g 0 n = if m = 0 then s.stall p 2 else
      (((s.macBeats p g m (ro, rp) (co, cp)).consume p 0 (m * beatWords (s.podFormat p))).consume p 1
        (m * beatWords (s.podFormat p))).beatsDone p 0 n m (beatCycles (s.podFormat p) (ro.desc.wide && co.desc.wide)) 3 := by
  rw [State.macRun, hr, hc, hm]

theorem bmacRun_eq {base a cp : Nat} {y : WSet} {co : OpenPort} (hy : (s.pod p).weights = some y)
    (hc : s.feeding p 1 = some (a, co, cp)) (hm : m = min n (wordsReady co cp / beatWords (s.podFormat p))) :
    s.bmacRun p base 0 n = if m = 0 then s.stall p 2 else
      ((s.bmacBeats p base 0 m y (co, cp)).consume p 1 (m * beatWords (s.podFormat p))).beatsDone p 0 n m
        (beatCycles (s.podFormat p) co.desc.wide) 10 := by
  rw [State.bmacRun, hy, hc, hm]

theorem macRun_beaten {g a b rp cp : Nat} {ro co : OpenPort} (h : s.atIssue p w) (hv : Begun p n s v) (hn : 0 < n)
    (hr : s.feeding p 0 = some (a, ro, rp)) (hc : s.feeding p 1 = some (b, co, cp))
    (hm : m = min n (min (wordsReady ro rp / beatWords (s.podFormat p)) (wordsReady co cp / beatWords (s.podFormat p)))) :
    ∃ y, Beaten p n m y s (v.macRun p g 0 n) ∧ y.frames = (v.pod p).frames ∧
      (m = 0 → (v.macRun p g 0 n).reg (POD_STALLOPND p) = s.reg (POD_STALLOPND p) + 1 ∧ y.act = (s.pod p).act) ∧
      (0 < m → ∀ slot r c, r < 32 → c < 32 → y.act.cell slot r c =
        if slot / 4 = g then
          cellAfter ((s.pod p).act.cell slot r c) (s.corrProducts ro co (s.podFormat p)
            (ro.desc.t0 + rp / beatWords (s.podFormat p) * beatFrames (s.podFormat p))
            (co.desc.t0 + cp / beatWords (s.podFormat p) * beatFrames (s.podFormat p))
            (m * beatFrames (s.podFormat p)) r c (slot % 4))
        else (s.pod p).act.cell slot r c) := by
  have hrun := macRun_eq (m := m) (g := g) ((hv.openp 0).trans hr) ((hv.openp 1).trans hc) (by rw [hv.format]; exact hm)
  by_cases hz : m = 0
  · subst hz
    obtain ⟨hbeaten, hcount⟩ := beaten_stall h hn hv.pods hv.reg hv.beats
    rw [hrun, if_pos rfl]
    exact ⟨_, hbeaten, rfl, fun _ => ⟨hcount, hv.act⟩, fun hlt => absurd hlt (Nat.lt_irrefl 0)⟩
  · obtain ⟨k, rfl⟩ := Nat.exists_eq_succ_of_ne_zero hz
    rw [hrun, if_neg hz]
    have hfed := ((fed_macBeats (s := v) (p := p) (n := k + 1) (g := g) (rp := rp) (cp := cp) (ro := ro) (co := co)).consume
      (bus := 0) (k := (k + 1) * beatWords (v.podFormat p))).consume (bus := 1) (k := (k + 1) * beatWords (v.podFormat p))
    refine ⟨_, beaten_of_fed h (hm ▸ Nat.min_le_left ..) hv hfed, hfed.keeps PodSt.frames fun _ _ _ => rfl, fun heq => absurd heq hz,
      fun _ slot r c hrow hcol => ?_⟩
    rw [Bank.cell, hfed.cells, tget_macCells_foldl hrow hcol, hv.act, hv.format, hv.samples.corrProducts]
    rfl

theorem bmacRun_beaten {base a cp : Nat} {y : WSet} {co : OpenPort} (h : s.atIssue p w) (hv : Begun p n s v) (hn : 0 < n)
    (hy : (v.pod p).weights = some y) (hc : s.feeding p 1 = some (a, co, cp))
    (hm : m = min n (wordsReady co cp / beatWords (s.podFormat p))) :
    ∃ x, Beaten p n m x s (v.bmacRun p base 0 n) ∧
      (m = 0 → (v.bmacRun p base 0 n).reg (POD_STALLOPND p) = s.reg (POD_STALLOPND p) + 1 ∧ x.act = (s.pod p).act) ∧
      (0 < m → ∀ e r, r < 32 → x.act.cell (e / 32) r (e % 32) =
        if base ≤ e ∧ e < base + m * (4 * beatFrames (s.podFormat p)) then
          cellAfter ((s.pod p).act.cell (e / 32) r (e % 32)) (s.beamProducts y co (s.podFormat p)
            (co.desc.t0 + cp / beatWords (s.podFormat p) * beatFrames (s.podFormat p) + (e - base) / 4) r ((e - base) % 4))
        else (s.pod p).act.cell (e / 32) r (e % 32)) := by
  have hrun := bmacRun_eq (m := m) (base := base) hy ((hv.openp 1).trans hc) (by rw [hv.format]; exact hm)
  by_cases hz : m = 0
  · subst hz
    obtain ⟨hbeaten, hcount⟩ := beaten_stall h hn hv.pods hv.reg hv.beats
    rw [hrun, if_pos rfl]
    exact ⟨_, hbeaten, fun _ => ⟨hcount, hv.act⟩, fun hlt => absurd hlt (Nat.lt_irrefl 0)⟩
  · rw [hrun, if_neg hz]
    have hfed := (fed_bmacBeats (s := v) (p := p) (n := m) (base := base) (cp := cp) (y := y) (co := co)).consume (bus := 1)
      (k := m * beatWords (v.podFormat p))
    refine ⟨_, beaten_of_fed h (hm ▸ Nat.min_le_left ..) hv hfed, fun heq => absurd heq hz, fun _ e r hrow => ?_⟩
    rw [Bank.cell, hfed.cells, tget_bmacCells_foldl hrow, hv.act, hv.format, hv.samples.beamProducts]
    rfl

theorem macBeats_enter {g a b rp cp total : Nat} {ro co : OpenPort} (h : s.atIssue p w) (hop : w / 2 ^ 58 = 0x09)
    (hbeam : s.podBeam p = false) (hnone : (s.pod p).beats = none) (hwin : (s.pod p).winits = []) (hstall : s.bankStall p = none)
    (hn : n = s.beatsOf p w) (hg : g = bits w 56 2) (htotal : total = tget 0 (s.pod p).frames g + n * beatFrames (s.podFormat p))
    (hmax : total ≤ maxPass (s.podFormat p)) (hr : s.feeding p 0 = some (a, ro, rp)) (hc : s.feeding p 1 = some (b, co, cp))
    (hm : m = min n (min (wordsReady ro rp / beatWords (s.podFormat p)) (wordsReady co cp / beatWords (s.podFormat p)))) :
    gives (.mac p) s fun t => (∀ q, q ≠ p → t.pod q = s.pod q) ∧
      t.reg (POD_BEATS p) = s.reg (POD_BEATS p) + BitVec.ofNat 32 m ∧ tget 0 (t.pod p).frames g = total ∧
      (m = n → wentOn s t p) ∧ (m < n → t.pc p = s.pc p ∧ (t.pod p).beats = some (m, n - m)) ∧
      (m = 0 → t.reg (POD_STALLOPND p) = s.reg (POD_STALLOPND p) + 1 ∧ (t.pod p).act = (s.pod p).act) ∧
      (0 < m → ∀ slot r c, slot < 16 → r < 32 → c < 32 → (t.pod p).act.cell slot r c =
        if slot / 4 = g then
          cellAfter ((s.pod p).act.cell slot r c) (s.corrProducts ro co (s.podFormat p)
            (ro.desc.t0 + rp / beatWords (s.podFormat p) * beatFrames (s.podFormat p))
            (co.desc.t0 + cp / beatWords (s.podFormat p) * beatFrames (s.podFormat p))
            (m * beatFrames (s.podFormat p)) r c (slot % 4))
        else (s.pod p).act.cell slot r c) := by
  subst hn hg
  have hv : Begun p (s.beatsOf p w) s ((s.issuing p 0x09).modPod p fun x => x.macBegun (bits w 56 2) (s.beatsOf p w) total) :=
    begun_modPod h.1 (fun _ => rfl) (fun _ => rfl) fun _ => rfl
  have hframes : tget 0 (((s.issuing p 0x09).modPod p fun x =>
      x.macBegun (bits w 56 2) (s.beatsOf p w) total).pod p).frames (bits w 56 2) = total := by
    rw [pod_modPod]
    exact tget_tset_self ..
  obtain ⟨y, hbeaten, hy, hzero, hcells⟩ := macRun_beaten (g := bits w 56 2) h hv beatsOf_pos hr hc hm
  have hact : _ = y.act := eq_of_task hbeaten.task PodSt.act fun _ => rfl
  refine gives_of (mac_exec h hop hbeam hnone hwin hstall htotal hmax) ⟨hbeaten.pods, hbeaten.count, ?_, hbeaten.done, hbeaten.part, ?_, ?_⟩
  · rw [eq_of_task hbeaten.task PodSt.frames fun _ => rfl, hy, hframes]
  · rwa [hact]
  · rw [hact]
    exact fun hlt slot r c _ => hcells hlt slot r c

theorem bmacBeats_enter {a cp : Nat} {y : WSet} {co : OpenPort} (h : s.atIssue p w) (hop : w / 2 ^ 58 = 0x0A)
    (hbeam : s.podBeam p = true) (hnone : (s.pod p).beats = none) (hy : (s.pod p).weights = some y)
    (hload : (s.pod p).reloading = false) (hstall : s.bankStall p = none) (hn : n = s.beatsOf p w)
    (hmax : bits w 49 9 + n * (4 * beatFrames (s.podFormat p)) ≤ 512) (hcounts : ∀ e < 512, tget 0 (s.pod p).bmacs e < 128)
    (hc : s.feeding p 1 = some (a, co, cp)) (hm : m = min n (wordsReady co cp / beatWords (s.podFormat p))) :
    gives (.bmac p) s fun t => (∀ q, q ≠ p → t.pod q = s.pod q) ∧
      t.reg (POD_BEATS p) = s.reg (POD_BEATS p) + BitVec.ofNat 32 m ∧
      (m = n → wentOn s t p) ∧ (m < n → t.pc p = s.pc p ∧ (t.pod p).beats = some (m, n - m)) ∧
      (m = 0 → t.reg (POD_STALLOPND p) = s.reg (POD_STALLOPND p) + 1 ∧ (t.pod p).act = (s.pod p).act) ∧
      (0 < m → ∀ e r, e < 512 → r < 32 → (t.pod p).act.cell (e / 32) r (e % 32) =
        if bits w 49 9 ≤ e ∧ e < bits w 49 9 + m * (4 * beatFrames (s.podFormat p)) then
          cellAfter ((s.pod p).act.cell (e / 32) r (e % 32)) (s.beamProducts y co (s.podFormat p)
            (co.desc.t0 + cp / beatWords (s.podFormat p) * beatFrames (s.podFormat p) + (e - bits w 49 9) / 4) r
            ((e - bits w 49 9) % 4))
        else (s.pod p).act.cell (e / 32) r (e % 32)) := by
  subst hn
  obtain ⟨counts, hex⟩ := bmac_exec h hop hbeam hnone hy hload hstall hmax hcounts
  have hv : Begun p (s.beatsOf p w) s ((s.issuing p 0x0A).modPod p fun x => x.bmacBegun (s.beatsOf p w) counts) :=
    begun_modPod h.1 (fun _ => rfl) (fun _ => rfl) fun _ => rfl
  have hweights : (((s.issuing p 0x0A).modPod p fun x => x.bmacBegun (s.beatsOf p w) counts).pod p).weights = some y := by
    rw [pod_modPod]
    exact (beside_issuing.keeps PodSt.weights fun _ => rfl).trans hy
  obtain ⟨x, hbeaten, hzero, hcells⟩ := bmacRun_beaten (base := bits w 49 9) h hv beatsOf_pos hweights hc hm
  have hact : _ = x.act := eq_of_task hbeaten.task PodSt.act fun _ => rfl
  refine gives_of hex ⟨hbeaten.pods, hbeaten.count, hbeaten.done, hbeaten.part, ?_, ?_⟩
  · rwa [hact]
  · rw [hact]
    exact fun hlt e r _ => hcells hlt e r

/-- Settles O12: the checks pass, and the beats that are ready enter one by one. -/
theorem podProducts : Obligations.PodProducts := by
  unfold Obligations.PodProducts
  exact ⟨fun s p w n m a b ro co rp cp h hop hbeam hnone hwin hstall hn hmax hr hc hm =>
      macBeats_enter h hop hbeam hnone hwin hstall hn rfl rfl hmax hr hc hm,
    fun s p w n m a x co cp h hop hbeam hnone hy hload hstall hn hmax hcounts hc hm =>
      bmacBeats_enter h hop hbeam hnone hy hload hstall hn hmax hcounts hc hm⟩

end Sys2Proof.Machine
end

section
/-! Refutation of the statement about drains and the bank swap: a steering request for a column that the pod has not. -/

namespace Sys2Proof.Machine

/-- Pod 0 holds a swap and a request to steer out physical column 16328, which no pod has; g0 of pod 1 holds 1. The place of pod 0's
error count of that column is the place of g0 of pod 1. -/
def farColumn : State :=
  ((State.reset.fset PWR_STATUS_State 4).setReg (POD_GREG 1 0) 1).setPod 0 { PodSt.idle with swap := some (0, 1), steer := [16328] }

theorem farColumn_isRun : farColumn.isRun = true := by decide +kernel

theorem farColumn_exec : exec (.bankSwap 0) farColumn = .next (farColumn.bankSwap 0 0 1) := by
  show execBankSwap 0 farColumn = _
  rw [execBankSwap, reply_of_not (by decide), farColumn_isRun]
  rfl

theorem farColumn_greg : farColumn.greg 1 0 = 1 := by decide +kernel

theorem farColumn_greg_after : (farColumn.bankSwap 0 0 1).greg 1 0 = 0 := by decide +kernel

/-- Refutes O11: the frame of the swap is claimed for every pending column, also for one above 32, and clearing the error count of
column 16328 of pod 0 clears a register of pod 1. -/
theorem not_podDrains : ¬ Obligations.PodDrains := by
  unfold Obligations.PodDrains
  intro h
  obtain ⟨-, -, hswap, -, -⟩ := h farColumn 0 0
  obtain ⟨t, ht, -, -, -, halone, -⟩ := hswap 0 1 (by decide) farColumn_isRun rfl (by decide) (by decide)
  obtain rfl : farColumn.bankSwap 0 0 1 = t := by simpa [farColumn_exec] using ht
  have hkept := halone.2 1 0 (by decide) (by decide) (.inl (by decide))
  rw [farColumn_greg, farColumn_greg_after] at hkept
  exact absurd hkept (by decide)

end Sys2Proof.Machine
end
section
/-! SUPPORT. What the Husk's accesses to HBM leave of the registers and of the Husk (R122 to R126, R137, R147, R260 to R277): counters
and the log apart, an access moves the Husk's own counters of the spill, a context's marks and the buckets known as written. -/

namespace Sys2Proof.Machine

variable {s t u : State} {a : Nat}

/-- The registers of the Husk that an access of the spill may move. -/
def spillCounts : List Nat := [HUSK_STATUS, HUSK_RMW, HUSK_CHAFFINS, HUSK_CHAFFOVF, HUSK_PARITY]

/-- The register stands below those of the controllers, the event counters and the log, and no access of the spill moves it. -/
abbrev spillFree (a : Nat) : Prop := a < 0xA00000 ∧ a ≠ GLB_INTPEND ∧ a ∉ spillCounts

/-- A register that an access of the spill may move as it likes. -/
abbrev spillMoves (a : Nat) : Prop := ¬ spillFree a ∧ a ≠ HUSK_STATUS ∧ a ≠ IMG_STATUS

theorem spillMoves_of_ge (h : 0xA00000 ≤ a) (hi : a ≠ IMG_STATUS) : spillMoves a :=
  ⟨fun hf => absurd hf.1 (by omega), by unfold HUSK_STATUS; omega, hi⟩

theorem spillFree_ctx (hlo : 0x820000 ≤ a) (hhi : a < 0xA00000) : spillFree a := by
  refine ⟨hhi, by unfold GLB_INTPEND; omega, fun h => ?_⟩
  simp only [spillCounts, HUSK_STATUS, HUSK_RMW, HUSK_CHAFFINS, HUSK_CHAFFOVF, HUSK_PARITY, List.mem_cons, List.not_mem_nil,
    or_false] at h
  omega

theorem spillFree_low (hlo : 0x1000 ≤ a) (hhi : a < 0x800000) : spillFree a := by
  refine ⟨by omega, by unfold GLB_INTPEND; omega, fun h => ?_⟩
  simp only [spillCounts, HUSK_STATUS, HUSK_RMW, HUSK_CHAFFINS, HUSK_CHAFFOVF, HUSK_PARITY, List.mem_cons, List.not_mem_nil,
    or_false] at h
  omega

/-- A context's progress apart from the marks that an access may set. -/
def HuskCtx.progress (h : HuskCtx) : HuskCtx := { h with written := [], marks := [] }

/-- From s to t no more has happened to the registers below the controllers', to the Husk and to the words known as bad than
accesses of the spill may do. -/
structure Spills (s t : State) : Prop where
  reg : ∀ a, spillFree a → t.reg a = s.reg a
  status : ∀ f : Fld, f.addr = HUSK_STATUS → f.lo + f.width ≤ 4 ∨ 5 ≤ f.lo → t.fget f = s.fget f
  sprout : t.fget IMG_STATUS_SproutActive = s.fget IMG_STATUS_SproutActive
  eccBad : t.erl.eccBad = s.erl.eccBad
  husk : t.husk = { s.husk with ctx := t.husk.ctx, stale := t.husk.stale }
  ctx : ∀ c, (t.huskCtx c).map HuskCtx.progress = (s.huskCtx c).map HuskCtx.progress

theorem Spills.refl : Spills s s := ⟨fun _ _ => rfl, fun _ _ _ => rfl, rfl, rfl, rfl, fun _ => rfl⟩

theorem Spills.trans (h : Spills s t) (g : Spills t u) : Spills s u where
  reg a ha := (g.reg a ha).trans (h.reg a ha)
  status f ha hb := (g.status f ha hb).trans (h.status f ha hb)
  sprout := g.sprout.trans h.sprout
  eccBad := g.eccBad.trans h.eccBad
  husk := by rw [g.husk, h.husk]
  ctx c := (g.ctx c).trans (h.ctx c)

/-- An update of other parts of the state. -/
theorem Spills.same (h : Spills s t) (hr : u.regs = t.regs) (he : u.erl.eccBad = t.erl.eccBad) (hk : u.husk = t.husk) :
    Spills s u :=
  h.trans ⟨fun _ _ => reg_of_regs hr, fun _ _ _ => fget_of_reg (reg_of_regs hr), fget_of_reg (reg_of_regs hr), he, by rw [hk],
    fun c => by rw [State.huskCtx, State.huskCtx, hk]⟩

/-- An update that touches HBM, what the controllers hold beside their registers, or parts that are no matter here. -/
theorem Spills.kept {F : Part → Bool} (h : Spills s t) (hk : Kept F t u) (hr : F .regs = false := by rfl)
    (he : F .erl = false := by rfl) (hh : F .husk = false := by rfl) : Spills s u :=
  h.same (hk.same .regs hr) (by rw [show u.erl = t.erl from hk.same .erl he]) (hk.same .husk hh)

theorem Spills.dmc {d : DmcSt} (h : Spills s t) : Spills s { t with dmc := d } := h.same rfl rfl rfl

theorem Spills.setReg {w : BitVec 32} (h : Spills s t) (ha : spillMoves a) : Spills s (t.setReg a w) := by
  obtain ⟨hfree, hst, hi⟩ := ha
  exact h.trans ⟨fun b hb => reg_setReg_ne fun e => hfree (e ▸ hb), fun f hf _ => fget_setReg_ne (hf ▸ hst.symm),
    fget_setReg_ne hi.symm, rfl, rfl, fun _ => rfl⟩

theorem Spills.incBy {n : Nat} (h : Spills s t) (ha : spillMoves a) : Spills s (t.incBy a n) := h.setReg ha
theorem Spills.inc (h : Spills s t) (ha : spillMoves a) : Spills s (t.inc a) := h.setReg ha
theorem Spills.fset {f : Fld} {v : Nat} (h : Spills s t) (ha : spillMoves f.addr) : Spills s (t.fset f v) := h.setReg ha
theorem Spills.raise {c : Nat} (h : Spills s t) : Spills s (t.raise c) := h.setReg (by decide)

theorem Spills.each {α : Type} {l : List α} {f : State → α → State} (h : Spills s t) (hf : ∀ u, ∀ x ∈ l, Spills u (f u x)) :
    Spills s (t.each l f) :=
  each_invariant (fun u x hx hu => hu.trans (hf u x hx)) h

theorem Spills.when {c : Bool} {f : State → State} (h : Spills s t) (hf : ∀ u, Spills s u → Spills s (f u)) :
    Spills s (t.when c f) := by
  unfold State.when
  split
  · exact hf t h
  · exact h

theorem Spills.ite {c : Prop} [Decidable c] {v : State} (h : c → Spills s t) (g : ¬ c → Spills s v) :
    Spills s (if c then t else v) := by
  split
  · exact h ‹_›
  · exact g ‹_›

/-! ## Counters and the log -/

theorem Spills.pmc {n k : Nat} (h : Spills s t) (hn : n < 512) : Spills s (t.pmc n k) :=
  (h.setReg (spillMoves_of_ge (by unfold PMC_LIVE_LO; omega) (by unfold PMC_LIVE_LO IMG_STATUS; omega))).setReg
    (spillMoves_of_ge (by unfold PMC_LIVE_HI; omega) (by unfold PMC_LIVE_HI IMG_STATUS; omega))

theorem spillMoves_ring {n w : Nat} (hn : n < 256) (hw : w < 4) : spillMoves (ERL_RING n w) :=
  spillMoves_of_ge (by unfold ERL_RING; omega) (by unfold ERL_RING IMG_STATUS; omega)

theorem Spills.logSlot {e0 info : BitVec 32} (h : Spills s t) : Spills s (t.logSlot e0 info) := by
  have ring {w : Nat} (hw : w < 4) := spillMoves_ring (nextSlot_lt (s := t)) hw
  exact ((((h.setReg (ring (by decide))).setReg (ring (by decide))).setReg (ring (by decide))).setReg (ring (by decide))).fset
    (by decide)

theorem Spills.logUnread (h : Spills s t) : Spills s t.logUnread :=
  .ite (fun _ => (h.inc (by decide)).fset (by decide)) fun _ => h.fset (by decide)

theorem Spills.logNew {e0 info : BitVec 32} (h : Spills s t) : Spills s (t.logNew e0 info) :=
  (((h.logSlot (e0 := e0) (info := info)).logUnread.fset (f := ERL_STATUS_NotEmpty) (v := 1) (by decide)).raise (c := 9)).same
    rfl rfl rfl

theorem Spills.log {code site inst info : Nat} (h : Spills s t) : Spills s (t.log code site inst info) := by
  have hp : Spills s (t.pmc 10 1) := h.pmc (by decide)
  obtain e | ⟨n, sec, w, -, -, e⟩ := log_cases t code site inst info
  · exact e ▸ hp.logNew
  · exact e ▸ hp.setReg (spillMoves_ring (Nat.mod_lt _ (by decide)) (by decide))

theorem Spills.parity {site inst info : Nat} (h : Spills s t) (hs : site < 16) : Spills s (t.parity site inst info) :=
  ((h.inc (spillMoves_of_ge (by unfold ERL_PARCNT; omega) (by unfold ERL_PARCNT IMG_STATUS; omega))).pmc (by decide)).log

/-! ## The controllers (R260 to R277) -/

theorem spillMoves_dmc (hlo : 0xA00000 ≤ a) (hhi : a < 0xB00000) : spillMoves a :=
  spillMoves_of_ge hlo (by unfold IMG_STATUS; omega)

/-- A pseudo-channel's state stands above the fields of the image loader's status that matter here, whatever its number is. -/
theorem Spills.pcState {p v : Nat} (h : Spills s t) : Spills s (t.fset (DMC_PCSTAT_State p) v) := by
  have haddr : 0xA00000 ≤ DMC_PCSTAT p := by unfold DMC_PCSTAT; omega
  have hne (b : Nat) (hb : b < 0xA00000) : b ≠ DMC_PCSTAT p := by omega
  exact h.trans ⟨fun b hb => reg_fset_ne (hne b hb.1), fun f hf _ => fget_fset_addr (hf ▸ hne HUSK_STATUS (by decide)),
    fget_fset_ne (.inr (.inl (show 3 + 1 ≤ 29 by decide))), rfl, rfl, fun _ => rfl⟩

theorem Spills.noteReserve (h : Spills s t) : Spills s t.noteReserve :=
  .ite (fun _ => ((h.fset (by decide)).fset (by decide)).raise) fun _ => (h.fset (by decide)).fset (by decide)

theorem Spills.failPc {p : Nat} (h : Spills s t) : Spills s (t.failPc p) := by
  unfold State.failPc
  refine (Spills.pcState ?_).log
  split
  · exact h
  · exact h.dmc.pcState.noteReserve

theorem Spills.retirePlanned {p : Nat} (h : Spills s t) : Spills s (t.retirePlanned p) := by
  unfold State.retirePlanned
  split
  · split
    · exact h.failPc
    · exact h.pcState.dmc.noteReserve
  · exact h

theorem hbmPc_lt {b : Nat} : s.hbmPc b < 256 := Nat.mod_lt _ (Nat.two_pow_pos 8)

theorem Spills.dmcParity {p info : Nat} (h : Spills s t) (hp : p < 256) : Spills s (t.dmcParity p info) := by
  have hc : Spills s ((t.inc (DMC_PAR p)).parity 6 p info) :=
    (h.inc (spillMoves_dmc (by unfold DMC_PAR; omega) (by unfold DMC_PAR; omega))).parity (by decide)
  exact .ite (fun _ => hc.retirePlanned) fun _ => hc

theorem Spills.beatError {line b : Nat} (h : Spills s t) : Spills s (t.beatError line b) :=
  .ite (fun _ => h.dmcParity hbmPc_lt) fun _ => h.parity (by decide)

theorem Spills.severeTake {b : Nat} (h : Spills s t) : Spills s (t.severeTake b) := by
  have hpc := hbmPc_lt (s := t) (b := b)
  have hsev : spillMoves (DMC_SEV (t.hbmPc b)) := spillMoves_dmc (by unfold DMC_SEV; omega) (by unfold DMC_SEV; omega)
  exact .ite (fun _ => h.dmc.inc hsev) fun _ => h

theorem Spills.beatsBack {line : Nat} (h : Spills s t) : Spills s (t.beatsBack line) :=
  .ite (fun _ => h) fun _ => (h.each fun _ _ _ => Spills.refl.severeTake).each fun _ _ _ => Spills.refl.beatError

theorem Spills.queueRead {pc k line : Nat} (h : Spills s t) (hp : pc < 256) : Spills s (t.queueRead pc k line) := by
  have hstall : Spills s (if t.writesTo k line = [] then t else
      t.incBy (DMC_RAWSTALL pc) (Config.rawStall pc line (t.reg (DMC_RAWSTALL pc)).toNat).toNat) :=
    .ite (fun _ => h) fun _ => h.incBy (spillMoves_dmc (by unfold DMC_RAWSTALL; omega) (by unfold DMC_RAWSTALL; omega))
  exact .ite (fun _ => h.inc (spillMoves_dmc (by unfold DMC_FWD; omega) (by unfold DMC_FWD; omega))) fun _ =>
    hstall.kept (F := (· == .dmc)) (kept_setBankQ (kept_addLines (Kept.refl _) rfl) rfl)

theorem Spills.lineEnter {line : Nat} {strobes : Option Nat} (h : Spills s t) : Spills s (t.lineEnter line strobes) := by
  have empty {u : State} {k : Nat} (hu : Spills s u) : Spills s (u.bankEmpty k) :=
    hu.kept (F := (· == .dmc)) (kept_bankEmpty (Kept.refl u) rfl)
  unfold State.lineEnter
  refine .ite (fun _ => h) fun _ => ?_
  split
  · have hq {k m : Nat} : Spills s (t.queueWrite k (t.hbmPa line / 64) m) :=
      h.kept (F := (· == .dmc)) (kept_queueWrite (Kept.refl t) rfl)
    exact .ite (fun _ => hq) fun _ => empty hq
  · have hq {k : Nat} : Spills s (t.queueRead (t.hbmPc line) k (t.hbmPa line / 64)) := h.queueRead hbmPc_lt
    exact .ite (fun _ => hq) fun _ => empty hq

/-- The count of a line moved, or of one outside the map. -/
theorem Spills.lineCount {line : Nat} (h : Spills s t) :
    Spills s (if t.hbmIn line then t.pmc (384 + t.hbmPc line / 8) 1 else t.inc (DMC_OOR 0)) := by
  have hpc := hbmPc_lt (s := t) (b := line)
  exact .ite (fun _ => h.pmc (by omega)) fun _ => h.inc (by decide)

theorem Spills.noteLine {line : Nat} (h : Spills s t) : Spills s (t.noteLine line) := by
  dsimp only [State.noteLine]
  exact h.lineCount.beatsBack.lineEnter

theorem Spills.noteRead {b n : Nat} (h : Spills s t) : Spills s (t.noteRead b n) := h.each fun _ _ _ => Spills.refl.noteLine

theorem Spills.noteWrite {line b n : Nat} {bad : Bool} (h : Spills s t) : Spills s (t.noteWrite line b n bad) := by
  dsimp only [State.noteWrite]
  exact h.lineCount.lineEnter.when fun _ hu => hu.each fun _ _ _ => .ite (fun _ => Spills.refl.beatError) fun _ => .refl

theorem Spills.suddenMove {p q : Nat} (h : Spills s t) : Spills s (t.suddenMove p q) := by
  have hmap : Spills s (t.remapPc p q) := h.each fun u i hi => by
    have : i < 192 := by
      have := List.mem_range.mp (List.mem_filter.mp hi).1
      unfold State.nActive at this
      omega
    have haddr : (DMC_PCMAP_Pc i).addr = 0xA00200 + 4 * i := rfl
    exact Spills.refl.fset (spillMoves_dmc (by omega) (by omega))
  dsimp only [State.suddenMove]
  exact hmap.pcState.pcState.noteReserve.dmc.log

theorem Spills.suddenWaiting (h : Spills s t) : Spills s t.suddenWaiting := h.each fun u p _ => by
  split
  · exact .ite (fun _ => Spills.refl.suddenMove) fun _ => .refl
  · exact .refl

theorem Spills.cleanMark {b n : Nat} (h : Spills s t) : Spills s (t.cleanMark b n) := h.each fun u _ _ =>
  .ite (fun _ => (Spills.refl (s := u)).dmc.when fun _ hu => hu.suddenWaiting) fun _ => .refl

theorem Spills.hbmWrite {b : Nat} {bs : List Byte} (h : Spills s t) : Spills s (t.hbmWrite b bs) :=
  Spills.cleanMark ((h.each fun _ _ _ => Spills.refl.noteWrite).kept (F := fun p => p == .dmc || p == .hbm || p == .hbmBad)
    (kept_hbmPuts (Kept.refl _) rfl rfl rfl))

/-! ## The spill, the mark bytes and the chaff (R122 to R126, R133 to R137) -/

/-- A context keeps its progress under new marks. -/
theorem Spills.setHusk {c : Nat} {x y : HuskCtx} (h : Spills s t) (hx : t.huskCtx c = some x) (hy : y.progress = x.progress) :
    Spills s (t.setHusk c (some y)) :=
  h.trans ⟨fun _ _ => rfl, fun _ _ _ => rfl, rfl, rfl, rfl, fun j => by
    by_cases hj : j = c
    · rw [hj, setHusk_huskCtx, hx, Option.map_some, Option.map_some, hy]
    · rw [setHusk_huskCtx_ne hj]⟩

theorem Spills.markOr {b m : Nat} (h : Spills s t) : Spills s (t.markOr b m) := h.noteRead.hbmWrite

theorem Spills.markGroup {c n g m : Nat} (h : Spills s t) : Spills s (t.markGroup c n g m) := by
  unfold State.markGroup
  split
  · rename_i x hx
    have hwrite : Spills s (t.setHusk c (some { x with written := tset 0 x.written g 1 })) := h.setHusk hx rfl
    exact .ite (fun _ => h.setHusk hx rfl) fun _ => .ite (fun _ => hwrite.hbmWrite) fun _ => .ite (fun _ => h) fun _ => h.markOr
  · exact .ite (fun _ => h) fun _ => h.markOr

theorem Spills.spillParity {c n g : Nat} {bad : Bool} (h : Spills s t) : Spills s (t.spillParity c n g bad) :=
  h.when fun u hu => Spills.markGroup (t := u.inc HUSK_PARITY) (hu.inc (by decide))

theorem Spills.spillPut {c n g b : Nat} {first : Bool} {vals us : List Nat} (h : Spills s t) :
    Spills s (t.spillPut c n g b first vals us) :=
  Spills.hbmWrite (.ite (fun _ => h) fun _ => h.noteRead.spillParity)

theorem Spills.chaffNew {c n b : Nat} (h : Spills s t) : Spills s (t.chaffNew c n b) :=
  h.trans ⟨fun _ _ => rfl, fun _ _ _ => rfl, rfl, rfl, rfl, fun _ => rfl⟩

/-- The status bit of a full bucket moves no other field of the Husk's status. -/
theorem Spills.chaffFull {v : Nat} (h : Spills s t) : Spills s (t.fset HUSK_STATUS_ChaffFull v) :=
  h.trans ⟨fun b hb => reg_fset_ne fun e => hb.2.2 (e ▸ by decide), fun f _ hb => fget_fset_ne (.inr hb),
    fget_fset_ne (.inl (by decide)), rfl, rfl, fun _ => rfl⟩

theorem Spills.chaffAdd {c n g x d : Nat} (h : Spills s t) : Spills s (t.chaffAdd c n g x d) := by
  have hread {b : Nat} {bad : Bool} : Spills s ((t.noteRead b 64).spillParity c n g bad) := h.noteRead.spillParity
  have put {u : State} {b : Nat} {bs : List Byte} {old : Bool} {k : Nat} (hu : Spills s u) : Spills s
      (((if old then (u.hbmWrite b bs).chaffNew c n k else u.hbmWrite b bs).inc HUSK_CHAFFINS).pmc 275 1) :=
    ((Spills.ite (fun _ => hu.hbmWrite.chaffNew) fun _ => hu.hbmWrite).inc (by decide)).pmc (by decide)
  dsimp only [State.chaffAdd]
  exact .ite (fun _ => put hread) fun _ => .ite (fun _ => put hread) fun _ => (hread.inc (by decide)).chaffFull.markGroup

theorem Spills.deficit {c n g x full cnt : Nat} (h : Spills s t) : Spills s (t.deficit c n g x full cnt) :=
  .ite (fun _ => h.chaffAdd) fun _ => h

/-! ## A dump's reads (R140, R147) -/

theorem Spills.dumpRead {c n lo cnt : Nat} (h : Spills s t) : Spills s (t.dumpRead c n lo cnt) :=
  h.noteRead.each fun _ _ _ => Spills.refl.spillParity

theorem Spills.countRead {c n lo hi : Nat} {part : List (Nat × Nat × Nat × Nat)} (h : Spills s t) :
    Spills s (t.countRead c n lo hi part).1 :=
  h.noteRead.each fun _ _ _ => Spills.refl.spillParity

theorem Spills.dumpPacket {c : Nat} {d : Dump} (h : Spills s t) : Spills s (t.dumpPacket c d).1 := by
  dsimp only [State.dumpPacket]
  split
  · exact h.noteRead
  · split
    · exact h.dumpRead
    · exact h.countRead

end Sys2Proof.Machine
end
section
/-! SUPPORT. What a packet is formed from and sent by reads the same in states with the same settings (R165 to R176, R237, R245,
R251). -/

namespace Sys2Proof.Machine

variable {s t u : State} {a c x : Nat}

/-- The settings of the fabric unit, whether the part is in Sprout mode and the words known as bad are the same in s and t. -/
structure SameFabric (s t : State) : Prop where
  reg : ∀ a, 0x140000 ≤ a → a < 0x161000 → t.reg a = s.reg a
  sprout : t.fget IMG_STATUS_SproutActive = s.fget IMG_STATUS_SproutActive
  eccBad : t.erl.eccBad = s.erl.eccBad

/-- Every register below those of the controllers that no access of the spill moves is the same in s and t, with what a SameFabric
says. -/
structure SameSettings (s t : State) : Prop where
  reg : ∀ a, spillFree a → t.reg a = s.reg a
  sprout : t.fget IMG_STATUS_SproutActive = s.fget IMG_STATUS_SproutActive
  eccBad : t.erl.eccBad = s.erl.eccBad

theorem SameFabric.trans (h : SameFabric s t) (g : SameFabric t u) : SameFabric s u :=
  ⟨fun a hlo hhi => (g.reg a hlo hhi).trans (h.reg a hlo hhi), g.sprout.trans h.sprout, g.eccBad.trans h.eccBad⟩

theorem Spills.settings (h : Spills s t) : SameSettings s t := ⟨h.reg, h.sprout, h.eccBad⟩

theorem SameSettings.same (h : SameSettings s t) (hr : u.regs = t.regs) (he : u.erl.eccBad = t.erl.eccBad) : SameSettings s u :=
  ⟨fun a ha => (reg_of_regs hr).trans (h.reg a ha), (fget_of_reg (reg_of_regs hr)).trans h.sprout, he.trans h.eccBad⟩

theorem SameSettings.fget {f : Fld} (h : SameSettings s t) (hf : spillFree f.addr) : t.fget f = s.fget f := fget_of_reg (h.reg _ hf)

theorem SameSettings.flag {f : Fld} (h : SameSettings s t) (hf : spillFree f.addr) : t.flag f = s.flag f := flag_of_fget (h.fget hf)

theorem SameSettings.fabric (h : SameSettings s t) : SameFabric s t :=
  ⟨fun a hlo hhi => h.reg a (spillFree_low (by omega) (by omega)), h.sprout, h.eccBad⟩

/-! ## Routing -/

theorem SameFabric.fget {f : Fld} (h : SameFabric s t) (hlo : 0x140000 ≤ f.addr) (hhi : f.addr < 0x161000) : t.fget f = s.fget f :=
  fget_of_reg (h.reg _ hlo hhi)

theorem SameFabric.node (h : SameFabric s t) : t.node = s.node := h.fget (by decide) (by decide)

theorem SameFabric.reachable {n : Nat} (h : SameFabric s t) (hn : n < 4096) : t.reachable n = s.reachable n := by
  rw [State.reachable, State.reachable, h.node, h.reg (FAB_REACH (n / 32)) (by unfold FAB_REACH; omega) (by unfold FAB_REACH; omega)]

theorem SameFabric.eccOk (h : SameFabric s t) : t.eccOk a = s.eccOk a := by rw [State.eccOk, State.eccOk, h.eccBad]

theorem SameFabric.usable {i d : Nat} {down : Bool} (h : SameFabric s t) (hi : i < 64) : t.usable i d down = s.usable i d down := by
  refine List.filter_congr fun l hl => ?_
  have hl : l < 96 := List.mem_range.mp hl
  have hset : t.inSet i l = s.inSet i l := by
    rw [State.inSet, State.inSet, h.eccOk, h.reg (FAB_LSET i (l / 32)) (by unfold FAB_LSET; omega) (by unfold FAB_LSET; omega)]
  have hstat {f : Fld} (hf : f.addr = FAB_LSTAT l) : t.fget f = s.fget f :=
    h.fget (by rw [hf, FAB_LSTAT]; omega) (by rw [hf, FAB_LSTAT]; omega)
  have hcfg : t.fget (FAB_LCFG_Dir l) = s.fget (FAB_LCFG_Dir l) :=
    h.fget (show 0x140000 ≤ FAB_LCFG l by unfold FAB_LCFG; omega) (show FAB_LCFG l < 0x161000 by unfold FAB_LCFG; omega)
  rw [hset, State.linkUp, State.linkUp, State.upDownOk, State.upDownOk, hstat (f := FAB_LSTAT_State l) rfl,
    hstat (f := FAB_LSTAT_PeerNode l) rfl, hcfg]

theorem SameFabric.routeSet {d : Nat} {down : Bool} (h : SameFabric s t) (hd : d < 4096) : t.routeSet d down = s.routeSet d down := by
  have hnh {f : Fld} (hf : f.addr = FAB_NH d) : t.fget f = s.fget f :=
    h.fget (by rw [hf, FAB_NH]; omega) (by rw [hf, FAB_NH]; omega)
  have hvalid : t.nhValid d = s.nhValid d := by
    rw [State.nhValid, State.nhValid, h.eccOk, flag_of_fget (hnh (f := FAB_NH_Valid d) rfl)]
  have hset {f : Fld} (hf : f.width = 6) : s.fget f < 64 := by
    rw [State.fget, Fld.of, hf]
    exact Nat.mod_lt _ (by decide)
  rw [State.routeSet, State.routeSet, hvalid, flag_of_fget h.sprout, hnh (f := FAB_NH_PrimarySet d) rfl,
    flag_of_fget (hnh (f := FAB_NH_AltValid d) rfl), hnh (f := FAB_NH_AltSet d) rfl, h.usable (hset rfl), h.usable (hset rfl)]

theorem SameFabric.routeOf {f : QFrame} (h : SameFabric s t) (hd : f.dest < 4096) : t.routeOf f = s.routeOf f := by
  unfold State.routeOf State.route
  rw [h.routeSet hd]

theorem SameFabric.ownFrame {ty d fl : Nat} {ts : Bool} {body : List Byte} {via : Option Nat} (h : SameFabric s t)
    (hs : t.fab.seq = s.fab.seq) : t.ownFrame ty d fl ts body via = s.ownFrame ty d fl ts body via := by
  rw [State.ownFrame, State.ownFrame, h.node, h.fget (f := FAB_CTRL_MaxHops) (by decide) (by decide), State.nextSeq, State.nextSeq, hs]

/-! ## Ethernet lanes and packets -/

theorem SameSettings.laneFget {f : Fld} {l k : Nat} (h : SameSettings s t) (hl : l < 96) (hf : f.addr = 0x100000 + 1024 * l + k)
    (hk : k < 1024) : t.fget f = s.fget f := h.fget (spillFree_low (by omega) (by omega))

theorem SameSettings.portLane {p : Nat} (h : SameSettings s t) : t.portLane p = s.portLane p := by
  refine List.find?_congr fun l hl => ?_
  have hl : l < 96 := List.mem_range.mp hl
  rw [flag_of_fget (h.laneFget (f := LN_CFG_Enable l) (k := 0) hl rfl (by decide)),
    h.laneFget (f := LN_CFG_Mode l) (k := 0) hl rfl (by decide), h.laneFget (f := LN_CFG_EthPort l) (k := 0) hl rfl (by decide), h.laneFget (f := LN_STATUS_State l) (k := 4) hl ?_ (by decide)]
  show 0x100004 + 1024 * l = _
  omega

theorem portLane_lt {p l : Nat} (h : s.portLane p = some l) : l < 96 := List.mem_range.mp (List.mem_of_find?_eq_some h)

theorem spillFree_egr {k : Nat} (hx : x < 64) (hk : k < 32) : spillFree (0x161000 + k + 32 * x) := spillFree_low (by omega) (by omega)

theorem SameSettings.pickPort {q : Nat} (h : SameSettings s t) (hx : x < 64) : t.pickPort x q = s.pickPort x q := by
  unfold State.pickPort
  rw [h.fget (f := EGR_DCTRL_Ports x) (spillFree_egr (k := 0) hx (by decide))]
  simp only [h.portLane]

theorem pickPort_lt {q p l : Nat} (h : s.pickPort x q = some (p, l)) : l < 96 := by
  dsimp only [State.pickPort] at h
  split at h
  · exact absurd h nofun
  · obtain ⟨j, -, hj⟩ := List.mem_filterMap.mp (List.mem_of_getElem? h)
    split at hj
    · obtain ⟨l', hl', heq⟩ := Option.map_eq_some_iff.mp hj
      cases heq
      exact portLane_lt hl'
    · exact absurd hj nofun

theorem SameSettings.ethFrame {l : Nat} {body : List Byte} (h : SameSettings s t) (hx : x < 64) (hl : l < 96) :
    t.ethFrame x l body = s.ethFrame x l body := by
  have hegr {f : Fld} {k : Nat} (hf : f.addr = 0x161000 + k + 32 * x) (hk : k < 32) : t.fget f = s.fget f :=
    h.fget (hf ▸ spillFree_egr hx hk)
  have hlane {f : Fld} {k : Nat} (hf : f.addr = 0x100000 + k + 1024 * l) (hk : k < 1024) : t.fget f = s.fget f :=
    h.laneFget (k := k) hl (by omega) hk
  unfold State.ethFrame
  rw [hegr (f := EGR_DMAX_Dscp x) (k := 0x14) rfl (by decide), hegr (f := EGR_DIP_Address x) (k := 0xC) rfl (by decide),
    hegr (f := EGR_DMAC_HI_MacHigh x) (k := 8) rfl (by decide), hegr (f := EGR_DMAC_LO_MacLow x) (k := 4) rfl (by decide),
    hegr (f := EGR_DUDP_SrcPort x) (k := 0x10) rfl (by decide), hegr (f := EGR_DUDP_DstPort x) (k := 0x10) rfl (by decide),
    hlane (f := LN_ETHIP_Address l) (k := 0x48) rfl (by decide), hlane (f := LN_ETHMAC_HI_MacHigh l) (k := 0x44) rfl (by decide),
    hlane (f := LN_ETHMAC_LO_MacLow l) (k := 0x40) rfl (by decide)]

/-! ## Contexts -/

theorem SameSettings.ctxFget {f : Fld} {k : Nat} (h : SameSettings s t) (hc : c < 4096) (hf : f.addr = 0x900000 + k + 64 * c)
    (hk : k < 64) : t.fget f = s.fget f := h.fget (spillFree_ctx (by omega) (by omega))

end Sys2Proof.Machine
end
section
/-! Proofs about the packets of the egress packer and the end of a dump (R140, R164 to R176). -/

namespace Sys2Proof.Machine
open Sys2Proof

variable {s t m : State} {a c n q x l p : Nat} {last : Bool} {body : List Byte}

/-! ## The state that a packet is formed in, and what follows once it has left -/

/-- In m a packet that s asks for is formed: only HBM accesses and the taking of a waiting mark lie between. -/
structure Formed (s m : State) : Prop extends SameSettings s m where
  wireOut : m.wireOut = s.wireOut
  fab : m.fab = s.fab
  portBad : m.ctxs.portBad = s.ctxs.portBad
  pwr : m.pwr = s.pwr

/-- From m on to t nothing more has been sent or counted at a destination, a lane or the fabric unit. -/
structure Left (m t : State) : Prop where
  reg : ∀ a, 0x1000 ≤ a → a < 0x800000 → t.reg a = m.reg a
  wireOut : t.wireOut = m.wireOut
  fab : t.fab = m.fab

/-! ## A packet at its destination (R174 to R176) -/

theorem sendPacket_invalid (hx : x = m.fget (CTX_DEST_Dest c)) (hv : m.flag (EGR_DCTRL_Valid x) = false) :
    (m.sendPacket c n q last body).1 = (m.packetPut body).dropPacket x := by
  have hv : (m.packetPut body).flag (EGR_DCTRL_Valid x) = false := hv
  subst hx
  dsimp only [State.sendPacket]
  rw [hv]
  rfl

/-- The packet of a part that is not in Sprout mode, at a destination that is valid. -/
theorem sendPacket_valid (hx : x = m.fget (CTX_DEST_Dest c)) (hv : m.flag (EGR_DCTRL_Valid x) = true)
    (hs : m.flag IMG_STATUS_SproutActive = false) : m.sendPacket c n q last body =
      if m.flag (EGR_DCTRL_Kind x) then
        if m.reachable (m.fget (EGR_DCTRL_Node x)) then
          (((m.packetPut body).sentPacket x).originate 4 (m.fget (EGR_DCTRL_Node x)) c false body, false)
        else ((m.packetPut body).dropPacket x, true)
      else match m.pickPort x q with
        | none => ((m.packetPut body).dropPacket x, true)
        | some (p, l) =>
          let bad := decide (tget 0 m.ctxs.portBad p ≠ 0)
          let u := ((((m.packetPut body).sentPacket x).inc (LN_ETHTX l)).emit (.packet p (m.ethFrame x l body) bad)).when last
            fun s => s.stampTx l n
          ({ u with ctxs := { u.ctxs with portBad := tset 0 u.ctxs.portBad p 0 } }, bad) := by
  have hv : (m.packetPut body).flag (EGR_DCTRL_Valid x) = true := hv
  have hs : (m.packetPut body).flag IMG_STATUS_SproutActive = false := hs
  subst hx
  dsimp only [State.sendPacket]
  rw [hv, hs]
  rfl

/-! ### Counters of a destination -/

theorem packetPut_reg : (m.packetPut body).reg a = m.reg a := rfl
theorem packetPut_fab : (m.packetPut body).fab = m.fab := rfl
theorem packetPut_wireOut : (m.packetPut body).wireOut = m.wireOut := rfl
theorem dropPacket_fab : (m.dropPacket x).fab = m.fab := by rw [State.dropPacket, pmc_fab, inc_fab]
theorem dropPacket_wireOut : (m.dropPacket x).wireOut = m.wireOut := by rw [State.dropPacket, pmc_wireOut, inc_wireOut]
theorem sentPacket_fab : (m.sentPacket x).fab = m.fab := by rw [State.sentPacket, pmc_fab, inc_fab]
theorem sentPacket_wireOut : (m.sentPacket x).wireOut = m.wireOut := by rw [State.sentPacket, pmc_wireOut, inc_wireOut]
theorem sentPacket_pinsAway : (m.sentPacket x).pinsAway = m.pinsAway := by
  rw [State.pinsAway, State.pinsAway, State.sentPacket, pmc_pwr, inc_pwr]
theorem packetPut_pinsAway : (m.packetPut body).pinsAway = m.pinsAway := rfl
theorem inc_pinsAway : (m.inc a).pinsAway = m.pinsAway := by rw [State.pinsAway, State.pinsAway, inc_pwr]

theorem reg_dropPacket (h : a < 0xC00000) (hne : a ≠ EGR_DDROP x) : (m.dropPacket x).reg a = m.reg a := by
  rw [State.dropPacket, reg_pmc_of_lt h, reg_inc_ne hne]

theorem reg_dropPacket_self (hx : x < 64) : (m.dropPacket x).reg (EGR_DDROP x) = m.reg (EGR_DDROP x) + 1 := by
  rw [State.dropPacket, reg_pmc_of_lt (by unfold EGR_DDROP; omega), reg_inc_self]

theorem reg_sentPacket (h : a < 0xC00000) (hne : a ≠ EGR_DSENT x) : (m.sentPacket x).reg a = m.reg a := by
  rw [State.sentPacket, reg_pmc_of_lt h, reg_inc_ne hne]

theorem reg_sentPacket_self (hx : x < 64) : (m.sentPacket x).reg (EGR_DSENT x) = m.reg (EGR_DSENT x) + 1 := by
  rw [State.sentPacket, reg_pmc_of_lt (by unfold EGR_DSENT; omega), reg_inc_self]

/-! ### An Ethernet destination -/

/-- A packet and its stamp on lane l of port p. -/
def State.ethSend (m : State) (x p l n : Nat) (last : Bool) (body : List Byte) : State :=
  ((((m.packetPut body).sentPacket x).inc (LN_ETHTX l)).emit
    (.packet p (m.ethFrame x l body) (decide (tget 0 m.ctxs.portBad p ≠ 0)))).when last fun s => s.stampTx l n

theorem reg_stampTx (hlo : 0x100000 ≤ a) (hl : l < 96) : (m.stampTx l n).reg a = m.reg a := by
  have haddr : a ≠ TMB_TXSTAT l := by unfold TMB_TXSTAT; omega
  unfold State.stampTx
  dsimp only
  split
  · rw [reg_raise_ne (by unfold GLB_INTPEND; omega), reg_fset_ne haddr]
  · rfl

theorem reg_emit {o : Out} : (m.emit o).reg a = m.reg a := by
  unfold State.emit
  split <;> rfl

theorem reg_ethSend (hlo : 0x100000 ≤ a) (hl : l < 96) :
    (m.ethSend x p l n last body).reg a = (((m.packetPut body).sentPacket x).inc (LN_ETHTX l)).reg a := by
  rw [State.ethSend, reg_when (f := fun s => s.stampTx l n) (reg_stampTx hlo hl), reg_emit]

theorem ethSend_wireOut (h : m.pinsAway = false) : (m.ethSend x p l n last body).wireOut = m.wireOut ++
    [.packet p (m.ethFrame x l body) (decide (tget 0 m.ctxs.portBad p ≠ 0))] := by
  have hsent : ((((m.packetPut body).sentPacket x).inc (LN_ETHTX l)).emit
      (.packet p (m.ethFrame x l body) (decide (tget 0 m.ctxs.portBad p ≠ 0)))).wireOut = m.wireOut ++
      [.packet p (m.ethFrame x l body) (decide (tget 0 m.ctxs.portBad p ≠ 0))] := by
    have hpins : (((m.packetPut body).sentPacket x).inc (LN_ETHTX l)).pinsAway = false := by
      rw [inc_pinsAway, sentPacket_pinsAway, packetPut_pinsAway, h]
    rw [State.emit, hpins, Bool.and_false, if_neg Bool.false_ne_true]
    show (((m.packetPut body).sentPacket x).inc (LN_ETHTX l)).wireOut ++ _ = _
    rw [inc_wireOut, sentPacket_wireOut, packetPut_wireOut]
  have hkept := kept_when (F := fun k => k == .fresh || k == .regs || k == .tim) (c := last)
    (fun s hs => kept_stampTx (l := l) (id := n) hs rfl rfl rfl) (Kept.refl (((((m.packetPut body).sentPacket x).inc (LN_ETHTX l)).emit
      (.packet p (m.ethFrame x l body) (decide (tget 0 m.ctxs.portBad p ≠ 0))))))
  exact (hkept.same .wireOut rfl).trans hsent

/-! ### A fabric destination -/

theorem originate_none {k d fl : Nat} {ts : Bool} (h : m.routeOf (m.ownFrame k d fl ts body none) = none) :
    m.originate k d fl ts body = (m.bumpSeq d (typeVc k)).inc FAB_NOROUTE := by
  have h : (m.bumpSeq d (typeVc k)).routeOf (m.ownFrame k d fl ts body none) = none := h
  dsimp only [State.originate]
  rw [show (m.ownFrame k d fl ts body none).vc = typeVc k from rfl, h]
  rfl

theorem originate_some {k d fl : Nat} {ts : Bool} (h : m.routeOf (m.ownFrame k d fl ts body none) = some l) :
    m.originate k d fl ts body = { m.bumpSeq d (typeVc k) with fab := { (m.bumpSeq d (typeVc k)).fab with
      txq := m.fab.txq ++ [{ m.ownFrame k d fl ts body none with link := some l }] } } := by
  have h : (m.bumpSeq d (typeVc k)).routeOf (m.ownFrame k d fl ts body none) = some l := h
  dsimp only [State.originate]
  rw [show (m.ownFrame k d fl ts body none).vc = typeVc k from rfl, h]
  rfl

/-! ### What becomes of the packet -/

theorem dest_lt : m.fget (CTX_DEST_Dest c) < 64 := Nat.mod_lt _ (Nat.two_pow_pos 6)

theorem Formed.egr {k : Nat} (h : Formed s m) (hx : x < 64) (hk : k < 32) : m.reg (0x161000 + k + 32 * x) = s.reg (0x161000 + k + 32 * x) :=
  h.reg _ (spillFree_egr hx hk)

/-- The counts of a destination after a packet: of one dropped, or of one sent on lane l. -/
theorem sendPacket_dropped (hlt : x < 64) (h : (m.sendPacket c n q last body).1 = (m.packetPut body).dropPacket x)
    (hl : Left (m.sendPacket c n q last body).1 t) : t.reg (EGR_DDROP x) = m.reg (EGR_DDROP x) + 1 ∧
      t.reg (EGR_DSENT x) = m.reg (EGR_DSENT x) ∧ t.wireOut = m.wireOut ∧ t.fab = m.fab := by
  rw [h] at hl
  refine ⟨?_, ?_, ?_, ?_⟩
  · rw [hl.reg _ (by unfold EGR_DDROP; omega) (by unfold EGR_DDROP; omega), reg_dropPacket_self hlt, packetPut_reg]
  · rw [hl.reg _ (by unfold EGR_DSENT; omega) (by unfold EGR_DSENT; omega), reg_dropPacket (by unfold EGR_DSENT; omega)
      (by unfold EGR_DSENT EGR_DDROP; omega), packetPut_reg]
  · rw [hl.wireOut, dropPacket_wireOut, packetPut_wireOut]
  · rw [hl.fab, dropPacket_fab, packetPut_fab]

/-- The packet of a part that is not in Sprout mode, on the lane that it picks. -/
theorem sendPacket_eth (hlt : x < 64) (h : (m.sendPacket c n q last body).1 = { m.ethSend x p l n last body with
      ctxs := { (m.ethSend x p l n last body).ctxs with portBad := tset 0 (m.ethSend x p l n last body).ctxs.portBad p 0 } })
    (hlane : l < 96) (hl : Left (m.sendPacket c n q last body).1 t) : t.reg (EGR_DSENT x) = m.reg (EGR_DSENT x) + 1 ∧
      t.reg (LN_ETHTX l) = m.reg (LN_ETHTX l) + 1 ∧ t.wireOut = (m.ethSend x p l n last body).wireOut := by
  rw [h] at hl
  have hreg {b : Nat} (hlo : 0x100000 ≤ b) (hhi : b < 0x800000) : t.reg b = (((m.packetPut body).sentPacket x).inc (LN_ETHTX l)).reg b :=
    (hl.reg _ (by omega) hhi).trans (reg_ethSend hlo hlane)
  refine ⟨?_, ?_, hl.wireOut⟩
  · rw [hreg (by unfold EGR_DSENT; omega) (by unfold EGR_DSENT; omega), reg_inc_ne (by unfold EGR_DSENT LN_ETHTX; omega),
      reg_sentPacket_self hlt, packetPut_reg]
  · rw [hreg (by unfold LN_ETHTX; omega) (by unfold LN_ETHTX; omega), reg_inc_self, reg_sentPacket (by unfold LN_ETHTX; omega)
      (by unfold EGR_DSENT LN_ETHTX; omega), packetPut_reg]

/-- Once the packet is counted as sent, the fabric unit originates its frame as it would have before. -/
theorem sameFabric_sent (hlt : x < 64) : SameFabric m ((m.packetPut body).sentPacket x) where
  reg b hlo hhi := reg_sentPacket (m := m.packetPut body) (by omega) (by unfold EGR_DSENT; omega)
  sprout := by
    have hne : IMG_STATUS_SproutActive.addr ≠ EGR_DSENT x := by
      show 0xE00004 ≠ EGR_DSENT x
      unfold EGR_DSENT
      omega
    exact fget_of_reg ((reg_pmc_ne (by decide) (by decide)).trans (reg_inc_ne hne))
  eccBad := rfl

/-- A frame that u originates waits for the lane that s chooses for it, or is discarded where s finds none. -/
theorem originate_goes {u : State} {node : Nat} (h : SameFabric s u) (hs : u.fab = s.fab) (hn : node < 4096) :
    (s.routeOf (s.ownFrame 4 node c false body none) = none →
      (u.originate 4 node c false body).fab.txq = s.fab.txq ∧
      (u.originate 4 node c false body).reg FAB_NOROUTE = s.reg FAB_NOROUTE + 1) ∧
    (∀ l, s.routeOf (s.ownFrame 4 node c false body none) = some l → (u.originate 4 node c false body).fab.txq =
      s.fab.txq ++ [{ s.ownFrame 4 node c false body none with link := some l }]) ∧
    ∀ a, a ≠ FAB_NOROUTE → (u.originate 4 node c false body).reg a = u.reg a := by
  have hframe : u.ownFrame 4 node c false body none = s.ownFrame 4 node c false body none := h.ownFrame (by rw [hs])
  have hroute : u.routeOf (u.ownFrame 4 node c false body none) = s.routeOf (s.ownFrame 4 node c false body none) := by
    rw [hframe]
    exact h.routeOf hn
  have hseq : (u.bumpSeq node (typeVc 4)).fab.txq = s.fab.txq := by rw [← hs]; rfl
  cases hr : s.routeOf (s.ownFrame 4 node c false body none) with
  | none =>
    rw [originate_none (hroute.trans hr)]
    refine ⟨fun _ => ⟨hseq, ?_⟩, nofun, fun a ha => reg_inc_ne ha⟩
    rw [reg_inc_self, ← h.reg FAB_NOROUTE (by decide) (by decide)]
    rfl
  | some l =>
    rw [originate_some (hroute.trans hr), hframe, hs]
    exact ⟨nofun, fun j hj => by cases hj; rfl, fun _ _ => rfl⟩

/-- A packet formed in m goes where the destination's words in s say. -/
theorem packetGoes_of (h : Formed s m) (hc : c < 4096) (hx : x = s.fget (CTX_DEST_Dest c))
    (hl : Left (m.sendPacket c n q last body).1 t) : packetGoes s t c x q body := by
  have hset := h.toSameSettings
  have hlt : x < 64 := hx ▸ dest_lt
  have hxm : x = m.fget (CTX_DEST_Dest c) := hx.trans (hset.ctxFget (k := 0x28) hc rfl (by decide)).symm
  have hvalid : m.flag (EGR_DCTRL_Valid x) = s.flag (EGR_DCTRL_Valid x) := hset.flag (spillFree_egr (k := 0) hlt (by decide))
  have hkind : m.flag (EGR_DCTRL_Kind x) = s.flag (EGR_DCTRL_Kind x) := hset.flag (spillFree_egr (k := 0) hlt (by decide))
  have hnode : m.fget (EGR_DCTRL_Node x) = s.fget (EGR_DCTRL_Node x) := hset.fget (spillFree_egr (k := 0) hlt (by decide))
  have hdrop : m.reg (EGR_DDROP x) = s.reg (EGR_DDROP x) := h.egr (k := 0x1C) hlt (by decide)
  have hsent : m.reg (EGR_DSENT x) = s.reg (EGR_DSENT x) := h.egr (k := 0x18) hlt (by decide)
  have hnlt : s.fget (EGR_DCTRL_Node x) < 4096 := Nat.mod_lt _ (Nat.two_pow_pos 12)
  have dropped (he : (m.sendPacket c n q last body).1 = (m.packetPut body).dropPacket x) := sendPacket_dropped hlt he hl
  rw [hdrop, hsent, h.wireOut, h.fab] at dropped
  refine ⟨fun hv => ?_, fun hv hs => ?_⟩
  · obtain ⟨hd, -, hw, hf⟩ := dropped (sendPacket_invalid hxm (hvalid.trans hv))
    exact ⟨hd, hw, by rw [hf]⟩
  have hsend := sendPacket_valid (n := n) (q := q) (last := last) (body := body) hxm (hvalid.trans hv)
    ((flag_of_fget hset.sprout).trans hs)
  rw [hkind, hnode, hset.fabric.reachable hnlt, hset.pickPort hlt] at hsend
  refine ⟨fun hk hp => ?_, fun port l hk hp => ?_, fun node hk hn hr => ?_, fun node f hk hn hr hf => ?_⟩
  · rw [hk, hp] at hsend
    obtain ⟨hd, he, hw, -⟩ := dropped (congrArg Prod.fst hsend)
    exact ⟨hd, he, hw⟩
  · rw [hk, hp] at hsend
    obtain ⟨hd, he, hw⟩ := sendPacket_eth hlt (congrArg Prod.fst hsend) (pickPort_lt hp) hl
    have hlane : m.reg (LN_ETHTX l) = s.reg (LN_ETHTX l) :=
      have := pickPort_lt hp
      h.reg _ (spillFree_low (by unfold LN_ETHTX; omega) (by unfold LN_ETHTX; omega))
    refine ⟨hd.trans (by rw [hsent]), he.trans (by rw [hlane]), fun hpins => ?_⟩
    have hpins : m.pinsAway = false := by rw [State.pinsAway, h.pwr]; exact hpins
    rw [hw, ethSend_wireOut hpins, h.wireOut, hset.ethFrame hlt (pickPort_lt hp), h.portBad]
  · subst hn
    rw [hk, hr] at hsend
    obtain ⟨hd, -, -, hf⟩ := dropped (congrArg Prod.fst hsend)
    exact ⟨hd, by rw [hf]⟩
  · subst hn
    rw [hk, hr] at hsend
    have hout : ((m.packetPut body).sentPacket x).fab = s.fab := by rw [sentPacket_fab, packetPut_fab, h.fab]
    have hfab : SameFabric s ((m.packetPut body).sentPacket x) := hset.fabric.trans (sameFabric_sent hlt)
    obtain ⟨hnone, hsome, hreg⟩ := originate_goes (c := c) (body := body) hfab hout hnlt
    have hgone : (m.sendPacket c n q last body).1 =
        ((m.packetPut body).sentPacket x).originate 4 (s.fget (EGR_DCTRL_Node x)) c false body := congrArg Prod.fst hsend
    rw [hgone] at hl
    subst hf
    refine ⟨?_, fun hno => ⟨?_, ?_⟩, fun l hl' => ?_⟩
    · rw [hl.reg _ (by unfold EGR_DSENT; omega) (by unfold EGR_DSENT; omega), hreg (EGR_DSENT x) (by unfold EGR_DSENT FAB_NOROUTE; omega),
        reg_sentPacket_self hlt, packetPut_reg, hsent]
    · rw [hl.fab, (hnone hno).1]
    · rw [hl.reg _ (by decide) (by decide), (hnone hno).2]
    · rw [hl.fab, hsome l hl']

/-! ## The end of an interval (R171, R359, R360) -/

theorem reg_addSpan {lo hi cause : Nat} (h : offLog a) : (s.addSpan lo hi cause).reg a = s.reg a := by
  unfold State.addSpan
  extract_lets hi' edge u lo' y full v spans
  have hclip : u.reg a = s.reg a := by
    show (if lo < edge then (s.inc ERL_LPSCLIP).fset ERL_STATUS_Clipped 1 else s).reg a = s.reg a
    split
    · rw [reg_fset_ne (ne_of_offLog h (by decide)), reg_inc_ne (ne_of_offLog h (by decide))]
    · rfl
  have hmerge : v.reg a = u.reg a := by
    show (if full then u.fset ERL_STATUS_SpanMerge 1 else u).reg a = u.reg a
    split
    · exact reg_fset_ne (ne_of_offLog h (by decide))
    · rfl
  have hv : v.reg a = s.reg a := hmerge.trans hclip
  clear_value v spans
  split
  · exact hclip
  · exact (reg_of_regs rfl).trans hv

theorem reg_reportLost {cause lo hi : Nat} (h : offLog a) : (s.reportLost c cause lo hi).reg a = s.reg a := by
  rw [State.reportLost, reg_addSpan h, reg_pmc_of_offLog h, reg_log_of_offLog h]

/-- The two counters of a context's intervals apart, the end of an interval leaves what the log leaves. -/
theorem reg_intervalEnd {flags : Nat} {dropped : Bool} {tai : Nat × Nat} (h : offLog a) (hf : a ≠ CTX_FLAGGED c) :
    (s.intervalEnd c flags dropped tai).reg a = (s.inc (CTX_EMITTED c)).reg a := by
  have hcount : ((s.inc (CTX_EMITTED c)).pmc 468 1).reg a = (s.inc (CTX_EMITTED c)).reg a := reg_pmc_of_offLog h
  unfold State.intervalEnd
  extract_lets u v cause
  have hv : v.reg a = u.reg a := by
    show (if flags = 0 then u else (u.inc (CTX_FLAGGED c)).pmc 469 1).reg a = u.reg a
    split
    · rfl
    · rw [reg_pmc_of_offLog h, reg_inc_ne hf]
  split
  · rw [hv, hcount]
  · rw [reg_reportLost h, hv, hcount]

theorem intervalEnd_kept {flags : Nat} {dropped : Bool} {tai : Nat × Nat} :
    Kept (fun p => p == .erl || p == .regs) s (s.intervalEnd c flags dropped tai) :=
  kept_intervalEnd (Kept.refl s) rfl rfl

theorem Left.intervalEnd {flags : Nat} {dropped : Bool} {tai : Nat × Nat} (h : Left m t) :
    Left m (t.intervalEnd c flags dropped tai) where
  reg a hlo hhi := by
    rw [reg_intervalEnd ⟨by unfold GLB_INTPEND; omega, by omega⟩ (by unfold CTX_FLAGGED; omega),
      reg_inc_ne (by unfold CTX_EMITTED; omega), h.reg a hlo hhi]
  wireOut := (intervalEnd_kept.same .wireOut rfl).trans h.wireOut
  fab := (intervalEnd_kept.same .fab rfl).trans h.fab

theorem Left.refl : Left m m := ⟨fun _ _ _ => rfl, rfl, rfl⟩

/-! ## A spilling or TOPK interval -/

theorem egressMark_flags {fl : Nat} : (m.egressMark fl).2 = fl ||| (if m.ctxs.egressBad then 1 else 0) := by
  unfold State.egressMark
  split
  · rfl
  · exact (Nat.or_zero fl).symm

theorem formed_egressMark {fl : Nat} (h : Spills s m) (hk : Kept (fun p => p == .dmc || p == .erl || p == .hbm || p == .hbmBad ||
    p == .husk || p == .regs) s m) : Formed s (m.egressMark fl).1 := by
  have hport : m.ctxs.portBad = s.ctxs.portBad := congrArg CtxsSt.portBad (hk.same .ctxs rfl)
  have hset := h.settings
  unfold State.egressMark
  split
  · exact ⟨hset.same rfl rfl, hk.same .wireOut rfl, hk.same .fab rfl, hport, hk.pwr⟩
  · exact ⟨hset, hk.same .wireOut rfl, hk.same .fab rfl, hport, hk.pwr⟩

/-- The state after the reads of the next packet of an interval, the packet and the number of packets. -/
def State.dumpForm (s : State) (c : Nat) (d : Dump) : State × (Nat × Nat × Nat × List Byte × List Byte) × Nat :=
  if s.ctxKind c = 5 then (s, s.setsPacket c d) else s.dumpPacket c d

theorem dumpForm_spills {d : Dump} : Spills s (s.dumpForm c d).1 := by
  unfold State.dumpForm
  split
  · exact .refl
  · exact Spills.refl.dumpPacket

theorem dumpForm_kept {d : Dump} : Kept (fun p => p == .dmc || p == .erl || p == .hbm || p == .hbmBad || p == .husk || p == .regs) s
    (s.dumpForm c d).1 := by
  unfold State.dumpForm
  split
  · exact Kept.refl s
  · exact kept_dumpPacket (Kept.refl s) rfl rfl rfl rfl rfl rfl

theorem dumpForm_total {d : Dump} : (s.dumpForm c d).2.2 = s.pktTotal c d := by
  unfold State.dumpForm State.pktTotal
  split <;> rfl

/-- The state in which the next packet of an interval is sent. -/
def State.dumpMark (s : State) (c : Nat) (d : Dump) : State × Nat := (s.dumpForm c d).1.egressMark ((s.dumpForm c d).2.1.2.2.1 % 32)

/-- The next packet of an interval, sent, and whether the interval lost it. -/
def State.dumpOut (s : State) (c : Nat) (d : Dump) : State × Bool :=
  (s.dumpMark c d).1.sendPacket c d.n d.sent (decide (s.pktTotal c d ≤ d.sent + 1)) (s.dumpBody c d)

theorem dumpBody_eq {d : Dump} : s.dumpBody c d =
    s.pktBytes ⟨c, d.n, d.sent, d.frame, d.tai.1, d.count, d.epoch, decide ((s.dumpForm c d).2.2 ≤ d.sent + 1)⟩
      (s.dumpForm c d).2.1.1 (s.dumpForm c d).2.1.2.1 (s.dumpMark c d).2
      (if s.ctxKind c = 5 then s.ctxNx (s.fget (HUSK_DTOPK_Source c)) else s.ctxNx c) (s.dumpForm c d).2.1.2.2.2.1
      (s.dumpForm c d).2.1.2.2.2.2 := by
  have hbad : (s.dumpForm c d).1.ctxs = s.ctxs := dumpForm_kept.same .ctxs rfl
  rw [State.dumpMark, egressMark_flags, hbad]
  unfold State.dumpBody State.dumpForm
  by_cases hk : s.ctxKind c = 5
  · simp only [hk, if_pos]
  · simp only [hk, if_false]

/-- An interval whose next packet has been sent stands at the one after it; a TOPK interval ends with its last one. -/
theorem sendDump_eq {d : Dump} {rest : List Dump} : ∃ flags dropped, s.sendDump c d rest =
    if decide (s.pktTotal c d ≤ d.sent + 1) && decide (s.ctxKind c = 5) then
      ((s.dumpOut c d).1.intervalEnd c flags dropped d.tai).setDumps c rest
    else (s.dumpOut c d).1.setDumps c ({ d with sent := d.sent + 1, flags := flags, dropped := dropped } :: rest) := by
  refine ⟨d.flags ||| (s.dumpMark c d).2, d.dropped || (s.dumpOut c d).2, ?_⟩
  rw [State.dumpOut, dumpBody_eq, ← dumpForm_total]
  rfl

theorem setDumps_dumps {l : List Dump} : tget [] (s.setDumps c l).husk.dumps c = l := tget_tset_self ..

theorem Left.setDumps {l : List Dump} (h : Left m t) : Left m (t.setDumps c l) := ⟨h.reg, h.wireOut, h.fab⟩

theorem packetSend_dump {d : Dump} {rest : List Dump} (hc : c < 4096) (hx : x = s.fget (CTX_DEST_Dest c)) :
    packetGoes s (s.sendDump c d rest) c x d.sent (s.dumpBody c d) ∧
      (s.ctxKind c ≠ 5 → (tget [] (s.sendDump c d rest).husk.dumps c).head?.map Dump.sent = some (d.sent + 1)) ∧
      (s.ctxKind c = 5 → s.pktTotal c d ≤ d.sent + 1 → tget [] (s.sendDump c d rest).husk.dumps c = rest) := by
  obtain ⟨flags, dropped, heq⟩ := sendDump_eq (s := s) (c := c) (d := d) (rest := rest)
  rw [heq]
  have hformed : Formed s (s.dumpMark c d).1 := formed_egressMark dumpForm_spills dumpForm_kept
  refine ⟨packetGoes_of (n := d.n) (last := decide (s.pktTotal c d ≤ d.sent + 1)) hformed hc hx ?_, fun hk => ?_, fun hk hlast => ?_⟩
  · show Left (s.dumpOut c d).1 _
    split
    · exact Left.setDumps (Left.intervalEnd .refl)
    · exact Left.setDumps .refl
  · rw [if_neg (by simp [hk]), setDumps_dumps]
    rfl
  · rw [if_pos (by simp [hk, hlast]), setDumps_dumps]

/-! ## A voltage block -/

/-- The next packet of a voltage block, sent, and whether the interval lost it. -/
def State.voltOut (s : State) (c : Nat) (b : VoltBlock) : State × Bool :=
  (s.egressMark b.marks).1.sendPacket c (b.win - b.k0) (tget (0, 0, false, 0) s.husk.voltPos c).1
    (decide (b.frames.length ≤ (tget (0, 0, false, 0) s.husk.voltPos c).2.1 + fitCount (s.pktRoom c) (b.frames.headD []).length) &&
      b.last) (s.voltBody c b)

/-- The packer stands at pos in the blocks l of context c. -/
def State.voltAt (s : State) (c : Nat) (l : List VoltBlock) (pos : Nat × Nat × Bool × Nat) : State :=
  { s with husk := { s.husk with volt := tset [] s.husk.volt c l, voltPos := tset (0, 0, false, 0) s.husk.voltPos c pos } }

/-- The last packet of a block takes the block with it, and the last one of a window ends the window's interval. -/
theorem sendVolt_eq {b : VoltBlock} {rest l : List VoltBlock} (hl : l = if decide (b.frames.length ≤
      (tget (0, 0, false, 0) s.husk.voltPos c).2.1 + fitCount (s.pktRoom c) (b.frames.headD []).length) then rest else b :: rest) :
    ∃ pos, s.sendVolt c b rest = (s.voltOut c b).1.voltAt c l pos ∨
      ∃ flags dropped, s.sendVolt c b rest = ((s.voltOut c b).1.voltAt c l pos).intervalEnd c flags dropped b.tai := by
  rw [hl, State.voltOut, State.voltBody, ← egressMark_flags]
  by_cases hlast : (decide (b.frames.length ≤ (tget (0, 0, false, 0) s.husk.voltPos c).2.1 +
    fitCount (s.pktRoom c) (b.frames.headD []).length) && b.last) = true
  · exact ⟨_, .inr ⟨_, _, if_pos hlast⟩⟩
  · exact ⟨_, .inl (if_neg hlast)⟩

theorem packetSend_volt {b : VoltBlock} {rest : List VoltBlock} (hc : c < 4096) (hx : x = s.fget (CTX_DEST_Dest c)) :
    packetGoes s (s.sendVolt c b rest) c x (tget (0, 0, false, 0) s.husk.voltPos c).1 (s.voltBody c b) ∧
      (b.frames.length ≤ (tget (0, 0, false, 0) s.husk.voltPos c).2.1 + fitCount (s.pktRoom c) (b.frames.headD []).length →
        tget [] (s.sendVolt c b rest).husk.volt c = rest) := by
  have hformed : Formed s (s.egressMark b.marks).1 := formed_egressMark .refl (Kept.refl s)
  have goes {t : State} (hl : Left (s.voltOut c b).1 t) := packetGoes_of (q := (tget (0, 0, false, 0) s.husk.voltPos c).1)
    hformed hc hx hl
  obtain ⟨pos, heq | ⟨flags, dropped, heq⟩⟩ := sendVolt_eq (s := s) (c := c) (b := b) (rest := rest) rfl
  · rw [heq]
    refine ⟨goes ⟨fun _ _ _ => rfl, rfl, rfl⟩, fun hwhole => ?_⟩
    rw [decide_eq_true hwhole, if_pos rfl]
    exact tget_tset_self ..
  · rw [heq]
    refine ⟨goes (Left.intervalEnd ⟨fun _ _ _ => rfl, rfl, rfl⟩), fun hwhole => ?_⟩
    rw [show State.husk (State.intervalEnd ..) = _ from intervalEnd_kept.same .husk rfl, decide_eq_true hwhole, if_pos rfl]
    exact tget_tset_self ..

/-! ## The end of a dump (R140, R143 to R145) -/

theorem reg_topSee {o set k : Nat} {e : TopEnt} (h : offLog a) : (s.topSee o set k e).reg a = s.reg a := by
  unfold State.topSee
  dsimp only
  split
  · rfl
  · split
    · split
      · exact reg_pmc_of_offLog h
      · rfl
    · rfl

theorem reg_topFeed {d : Dump} {k off : Nat} (h : offLog a) : (s.topFeed c d k off).reg a = s.reg a := by
  refine each_keeps (State.reg · a) fun u e => ?_
  extract_lets g x set m v
  split
  · rfl
  · exact (reg_topSee h).trans (reg_of_regs rfl)

theorem reg_watchEnd {k : Nat} {w : Watch} {epoch : Nat} (h : offLog a) : (s.watchEnd k c w epoch).reg a = s.reg a := by
  unfold State.watchEnd
  extract_lets n
  split
  extract_lets sets u v
  have hu : u.reg a = s.reg a := by
    show (if s.ctxEmit k then s.addDump k _ else s).reg a = s.reg a
    split <;> rfl
  have hv : v.reg a = u.reg a := reg_pmc_of_offLog (s := u.topEmpty k) h
  clear_value v u
  exact (reg_of_regs rfl).trans (hv.trans hu)

/-- A TOPK context that sees a dump leaves the registers but for the event counters. -/
theorem reg_watchSee {d : Dump} {k : Nat} (h : offLog a) : (s.watchSee c d k).reg a = s.reg a := by
  unfold State.watchSee
  split
  next w _ =>
    split
    · extract_lets u w' w''
      have hu : u.reg a = s.reg a := reg_topFeed h
      clear_value u w''
      split
      · exact (reg_watchEnd h).trans hu
      · exact (reg_of_regs rfl).trans hu
    · rfl
  · rfl

/-- The dump is counted with its elements, and the contexts that watch see it. -/
def State.dumpSeen (s : State) (c : Nat) (d : Dump) : State :=
  (((s.inc HUSK_DUMPS).pmc 273 1).pmc 274 (s.elemCount c)).each d.watch fun s t => s.watchSee c d t

theorem reg_dumpSeen {d : Dump} (h : offLog a) : (s.dumpSeen c d).reg a = (s.inc HUSK_DUMPS).reg a := by
  rw [State.dumpSeen, each_keeps (State.reg · a) fun _ _ => reg_watchSee h, reg_pmc_of_offLog h, reg_pmc_of_offLog h]

theorem dumpEnd_exec {d : Dump} {rest : List Dump} (hc : c < 4096) (hrun : s.isRun = true) (hk : s.ctxKind c ≠ 5)
    (hreset : s.unitInReset 18 = false) (hd : tget [] s.husk.dumps c = d :: rest)
    (hend : s.ctxEmit c = false ∨ s.pktTotal c d ≤ d.sent) : exec (.dumpEnd c) s =
      let u := (if s.ctxEmit c then s else s.dumpRead c d.n 0 (s.elemCount c)).dumpSeen c d
      .next ((if u.ctxEmit c then u.intervalEnd c d.flags d.dropped d.tai else u).setDumps c rest) := by
  have hgoes : (decide (s.ctxKind c = 5) || !s.isRun || s.unitInReset 18 || s.ctxEmit c && decide (d.sent < s.pktTotal c d)) = false := by
    rcases hend with he | ht
    · simp [hk, hrun, hreset, he]
    · simp [hk, hrun, hreset, Nat.not_lt.mpr ht]
  show execDumpEnd c s = _
  rw [execDumpEnd, reply_of_not (by omega), hd]
  simp only [hgoes]
  rfl

/-- A dump that has ended is counted and gone; one of a context that emits counts as emitted. -/
theorem dumpEnds {d : Dump} {rest : List Dump} (hc : c < 4096) (hrun : s.isRun = true) (hk : s.ctxKind c ≠ 5)
    (hreset : s.unitInReset 18 = false) (hd : tget [] s.husk.dumps c = d :: rest)
    (hend : s.ctxEmit c = false ∨ s.pktTotal c d ≤ d.sent) : ∃ t, exec (.dumpEnd c) s = .next t ∧ tget [] t.husk.dumps c = rest ∧
      t.reg HUSK_DUMPS = s.reg HUSK_DUMPS + 1 ∧
      (s.ctxEmit c = true → t.reg (CTX_EMITTED c) = s.reg (CTX_EMITTED c) + 1) := by
  refine ⟨_, dumpEnd_exec hc hrun hk hreset hd hend, setDumps_dumps, ?_⟩
  have hread : Spills s (if s.ctxEmit c then s else s.dumpRead c d.n 0 (s.elemCount c)) :=
    .ite (fun _ => .refl) fun _ => Spills.refl.dumpRead
  generalize (if s.ctxEmit c then s else s.dumpRead c d.n 0 (s.elemCount c)) = v at hread
  have hctx {k : Nat} (hk : k < 64) : offLog (0x900000 + k + 64 * c) := ⟨by unfold GLB_INTPEND; omega, by omega⟩
  have hseen {k : Nat} (hk : k < 64) : (v.dumpSeen c d).reg (0x900000 + k + 64 * c) = s.reg (0x900000 + k + 64 * c) := by
    rw [reg_dumpSeen (hctx hk), reg_inc_ne (by unfold HUSK_DUMPS; omega), hread.reg _ (spillFree_ctx (by omega) (by omega))]
  have hoff : offLog HUSK_DUMPS := ⟨by decide, by decide⟩
  have hemit : (v.dumpSeen c d).ctxEmit c = s.ctxEmit c := flag_of_fget (fget_of_reg (hseen (k := 0x28) (by decide)))
  have hcount : (v.dumpSeen c d).reg HUSK_DUMPS = s.reg HUSK_DUMPS + 1 := by
    rw [reg_dumpSeen hoff, reg_inc_self, hread.reg _ (by decide)]
  rw [hemit]
  refine ⟨?_, fun he => ?_⟩
  · show State.reg (if s.ctxEmit c then _ else _) _ = _
    split
    · rw [reg_intervalEnd hoff (by unfold HUSK_DUMPS CTX_FLAGGED; omega), reg_inc_ne (by unfold HUSK_DUMPS CTX_EMITTED; omega),
        hcount]
    · exact hcount
  · rw [if_pos he]
    show (State.intervalEnd ..).reg _ = _
    refine (reg_intervalEnd (hctx (k := 0x2C) (by decide)) (by unfold CTX_FLAGGED; omega)).trans (reg_inc_self.trans ?_)
    exact congrArg (· + 1) (hseen (k := 0x2C) (by decide))

/-! ## The obligation -/

theorem packetSend_exec (hc : c < 4096) (hrun : s.isRun = true) (hemit : s.ctxEmit c = true) (hhusk : s.unitInReset 18 = false)
    (hegr : s.unitInReset 19 = false) (hhbm : s.hbmHeld = false) (htx : s.txHeld c = false) : exec (.packetSend c) s =
      .next (if s.ctxKind c = 2 then
          match tget [] s.husk.volt c with
          | b :: rest => s.sendVolt c b rest
          | [] => s
        else match tget [] s.husk.dumps c with
          | d :: rest => if d.sent < s.pktTotal c d then s.sendDump c d rest else s
          | [] => s) := by
  show execPacketSend c s = _
  rw [execPacketSend, reply_of_not (by omega), hrun, hemit, hhusk, hegr, hhbm, htx]
  rfl

/-- Settles O16: a packet is formed in a state with the settings of the one before, and what follows it sends nothing more. -/
theorem huskSendsProducts : Obligations.HuskSendsProducts := by
  unfold Obligations.HuskSendsProducts
  refine ⟨fun s c x hc hrun hemit hhusk hegr hhbm htx hx => ⟨fun d rest hk hd hsent => ?_, fun b rest hk hb => ?_⟩,
    fun s c d rest hc hrun hk hreset hd hend => dumpEnds hc hrun hk hreset hd hend⟩
  · refine ⟨s.sendDump c d rest, ?_, packetSend_dump hc hx⟩
    rw [packetSend_exec hc hrun hemit hhusk hegr hhbm htx, if_neg hk, hd]
    exact congrArg _ (if_pos hsent)
  · refine ⟨s.sendVolt c b rest, ?_, packetSend_volt hc hx⟩
    rw [packetSend_exec hc hrun hemit hhusk hegr hhbm htx, if_pos hk, hb]

end Sys2Proof.Machine
end
section
/-! Proofs about the Husk's lane front end (R108, R115): a lane takes the step of the next pod of its column, or refuses every
offer. -/

namespace Sys2Proof.Machine

variable {s t : State} {n p q : Nat}

theorem drains_stallFor : ((s.stallFor p 5 1).pod q).drains = (s.pod q).drains :=
  (beside_stallFor.podKeeps PodSt.drains fun _ => rfl).trans (congrArg _ pod_stallCounted)

theorem drains_stall : ((s.stall p 5).pod q).drains = (s.pod q).drains :=
  (beside_stall.podKeeps PodSt.drains fun _ => rfl).trans (congrArg _ pod_stallCounted)

theorem husk_stall : (s.stall p 5).husk = s.husk :=
  (kept_stall (F := fun x => x == .array || x == .regs) (Kept.refl s) rfl rfl).same .husk rfl

theorem mem_laneRows {r : Nat} (h : r ∈ s.laneRows n) : r < 8 := by
  obtain ⟨i, -, rfl⟩ := List.mem_map.mp (List.mem_filter.mp h).1
  exact Nat.mod_lt _ (by decide)

theorem laneRows_head : (s.laneRows n).head? =
    ((List.range 8).map fun i => (tget 0 s.husk.last n + i) % 8).find? fun r => (s.pod (8 * r + n)).offers :=
  List.head?_filter ..

/-- The round robin comes to every row. -/
theorem laneRows_of_offers {r : Nat} (hr : r < 8) (h : (s.pod (8 * r + n)).offers = true) : r ∈ s.laneRows n := by
  have hlt : (r + 8 - tget 0 s.husk.last n % 8) % 8 < 8 := Nat.mod_lt _ (by decide)
  refine List.mem_filter.mpr ⟨List.mem_map.mpr ⟨_, List.mem_range.mpr hlt, ?_⟩, h⟩
  omega

/-- The state in which lane n has taken row r's step, its count apart. -/
def State.stepTaken (s : State) (n r : Nat) : State :=
  { s with husk := { s.husk with last := tset 0 s.husk.last n (r + 1) } }.modPod (8 * r + n) fun x => { x with drains :=
    match x.drains with
    | d :: ds => { d with steps := d.steps + 1 } :: ds
    | [] => [] }

theorem huskStepAccept_takes {r : Nat} {others : List Nat} (hn : n < 8) (hrun : s.isRun = true) (hrows : s.laneRows n = r :: others)
    (hgoes : s.laneRefuses n = false) : exec (.huskStepAccept n) s =
      .next (((s.stepTaken n r).pmc (256 + n) 1).each others fun s q => s.stall (8 * q + n) 5) := by
  show execHuskStepAccept n s = _
  rw [execHuskStepAccept, reply_of_not (by omega), hrows]
  simp only [hrun, hgoes]
  rfl

theorem huskStepAccept_refuses {r : Nat} {others : List Nat} (hn : n < 8) (hrun : s.isRun = true) (hrows : s.laneRows n = r :: others)
    (hheld : s.laneRefuses n = true) : exec (.huskStepAccept n) s =
      .next { s.refuse n 1 (s.laneRows n) with husk := { s.husk with refused := tmod 0 s.husk.refused n (· + 1) } } := by
  show execHuskStepAccept n s = _
  rw [execHuskStepAccept, reply_of_not (by omega), hrows]
  simp only [hrun, hheld]
  rfl

/-- The lane's round robin and the steps of the pod's drain after the step of row r has been taken. -/
theorem huskTakesStep {r : Nat} (hn : n < 8) (hrun : s.isRun = true) (henable : s.flag HUSK_CTRL_Enable = true)
    (hreset : s.unitInReset 18 = false) (hheld : s.xIsHeld 7 n = false) (hroom : s.frontUsed n + 32 ≤ 16384)
    (hr : (s.laneRows n).head? = some r) : gives (.huskStepAccept n) s fun t => tget 0 t.husk.last n = r + 1 ∧
      ((t.pod (8 * r + n)).drains.head?.map DrainRec.steps) = ((s.pod (8 * r + n)).drains.head?.map fun d => d.steps + 1) := by
  obtain ⟨others, hrows⟩ := List.head?_eq_some_iff.mp hr
  have hgoes : s.laneRefuses n = false := by simp [State.laneRefuses, henable, hreset, hheld, Nat.not_lt.mpr hroom]
  refine gives_of (huskStepAccept_takes hn hrun hrows hgoes) ⟨?_, ?_⟩
  · rw [each_keeps State.husk fun _ _ => husk_stall]
    show tget 0 (tset 0 s.husk.last n (r + 1)) n = r + 1
    exact tget_tset_self ..
  · rw [each_keeps (fun u => (u.pod (8 * r + n)).drains) fun _ _ => drains_stall]
    show (((s.stepTaken n r).pod (8 * r + n)).drains.head?.map DrainRec.steps) = _
    rw [State.stepTaken, pod_modPod]
    show Option.map DrainRec.steps (List.head? (match (s.pod (8 * r + n)).drains with | d :: ds => _ | [] => [])) = _
    cases (s.pod (8 * r + n)).drains <;> rfl

/-- A lane that takes no step counts the cycle and leaves its buffer, its round robin and the pods' drains. -/
theorem huskRefusesSteps (hn : n < 8) (hrun : s.isRun = true) (hoffer : ∃ r < 8, (s.pod (8 * r + n)).offers = true)
    (hheld : s.laneRefuses n = true) : gives (.huskStepAccept n) s fun t => t.reg HUSK_FEHOLD = s.reg HUSK_FEHOLD + 1 ∧
      t.husk.last = s.husk.last ∧ t.husk.held = s.husk.held ∧ ∀ p, (t.pod p).drains = (s.pod p).drains := by
  obtain ⟨r', hr', hoff⟩ := hoffer
  have hne : s.laneRows n ≠ [] := List.ne_nil_of_mem (laneRows_of_offers hr' hoff)
  obtain ⟨r, others, hrows⟩ := List.exists_cons_of_ne_nil hne
  refine gives_of (huskStepAccept_refuses hn hrun hrows hheld) ⟨?_, rfl, rfl, fun p => ?_⟩
  · have hoff : offLog HUSK_FEHOLD := ⟨by decide, by decide⟩
    have hrow : ∀ u : State, ∀ q ∈ s.laneRows n, u.reg HUSK_FEHOLD = s.reg HUSK_FEHOLD + 1 →
        (u.stallFor (8 * q + n) 5 1).reg HUSK_FEHOLD = s.reg HUSK_FEHOLD + 1 := fun u q hq hu => by
      have := mem_laneRows hq
      rw [beside_stallFor.reg _ hoff, reg_stallCounted_ne (.inr (by unfold POD_DRAINHOLD HUSK_FEHOLD; omega)), hu]
    refine each_invariant (I := fun u => u.reg HUSK_FEHOLD = s.reg HUSK_FEHOLD + 1) hrow ?_
    rw [reg_pmc_of_offLog hoff, reg_incBy_self]
    rfl
  · show ((s.refuse n 1 (s.laneRows n)).pod p).drains = _
    rw [State.refuse, each_keeps (fun u => (u.pod p).drains) fun _ _ => drains_stallFor]
    rfl

end Sys2Proof.Machine
end
section
/-! SUPPORT. The back end's step (R115 to R121): the decision for a drain and what dealing with it leaves of the lanes' buffers. -/

namespace Sys2Proof.Machine

variable {s t u : State} {n c g : Nat} {d : DrainRec} {ds : List DrainRec} {h : HuskCtx} {pg : PgId}

/-- The state in which lane n's buffer holds these drains. -/
def State.heldAt (s : State) (n : Nat) (ds : List DrainRec) : State :=
  { s with husk := { s.husk with held := tset [] s.husk.held n ds } }

theorem heldAt_held : tget [] (s.heldAt n ds).husk.held n = ds := tget_tset_self ..

/-- The lane may be served: the part runs and no crossing on the way is held. -/
structure LaneServed (s : State) (n : Nat) : Prop where
  lane : n < 8
  run : s.isRun = true
  reset : s.unitInReset 18 = false
  cross : s.xIsHeld 7 n = false
  hbm : s.hbmHeld = false

theorem drainApply_exec (hs : LaneServed s n) (hq : tget [] s.husk.held n = d :: ds) :
    exec (.drainApply n) s = .next ((s.applyFrom n 0 (d :: ds)).laneTake n) := by
  show execDrainApply n s = _
  have := hs.lane
  rw [execDrainApply, reply_of_not (by omega), hs.run, hs.reset, hs.cross, hs.hbm, hq]
  rfl

/-- A drain that nothing holds leaves the buffer and is dealt with. -/
theorem drainApply_deals {v : Verdict} (hs : LaneServed s n) (hq : tget [] s.husk.held n = d :: ds) (hv : s.verdict n d = v)
    (hgoes : v.holds = false) : exec (.drainApply n) s = .next (((s.heldAt n ds).drainTake n d v).laneTake n) := by
  rw [drainApply_exec hs hq, State.applyFrom, hv, hgoes]
  show Host.Outcome.next ((State.drainTake { s with husk := { s.husk with
    held := tset [] s.husk.held n ((tget [] s.husk.held n).eraseIdx 0) } } n d v).laneTake n) = _
  rw [hq]
  rfl

/-- A drain that is held, the only one of its lane, stays in the buffer. -/
theorem drainApply_holds {v : Verdict} (hs : LaneServed s n) (hq : tget [] s.husk.held n = [d]) (hv : s.verdict n d = v)
    (hheld : v.holds = true) : exec (.drainApply n) s = .next ((s.noteHold n 0 d v).laneTake n) := by
  rw [drainApply_exec hs hq, State.applyFrom, hv, hheld]
  rfl

/-! ## The decision -/

theorem verdict_of_none (hc : d.ctx = none) : s.verdict n d = .stopped := by rw [State.verdict, hc]

theorem not_idle (hst : s.ctxState c = 3 ∨ s.ctxState c = 4) : ¬ (s.ctxState c ≠ 3 ∧ s.ctxState c ≠ 4) := by omega

/-- A bank without a pass group of the context's range misses the map, whatever else it holds. -/
theorem verdict_of_range (hc : d.ctx = some c) (hh : s.huskCtx c = some h) (hst : s.ctxState c = 3 ∨ s.ctxState c = 4)
    (hpg : ∀ pg, d.bank.pg = some pg → pg.g < s.ctxFirst c ∨ s.ctxFirst c + s.ctxGroups c ≤ pg.g ∨ pg.k < h.k0) :
    s.verdict n d = .miss none (s.mapIndex c d) := by
  rw [State.verdict, hc]
  dsimp only
  rw [hh]
  dsimp only
  rw [if_neg (not_idle hst)]
  cases hb : d.bank.pg with
  | none => rfl
  | some pg => exact if_pos (hpg pg hb)

/-- The decision for a drain for group g in window k by the map entries that it has. -/
def State.entriesVerdict (s : State) (n c g k : Nat) (d : DrainRec) (h : HuskCtx) : Option (List Nat) → Verdict
  | none => .miss (some g) (s.mapIndex c d)
  | some ents =>
    if k < h.win ∨ s.fget (HUSK_DAUX_DrainsPerPgMinus1 c) < tget 0 h.arrived g then .excess g (s.mapIndex c d)
    else if (s.ctxKind c = 3 ∨ s.ctxKind c = 4) ∧ 4096 < s.powerUsed n + s.powerNew (s.powerAdds n c k g (ents.headD 0) d).1 then .stage
    else .apply g (s.mapIndex c d) ents

/-- What is left to decide for a drain of a context's range whose window is not ahead and whose buffer is free. -/
theorem verdict_of_drainOf (hd : s.drainOf d c h pg g) : s.verdict n d =
    if d.bank.mixed then .mixed g else s.entriesVerdict n c g pg.k d h (s.mapEntries c d) := by
  obtain ⟨-, hc, hh, hst, hpg, hg, hlt, hk0, hk, hbusy⟩ := hd
  obtain rfl : g = pg.g - s.ctxFirst c := by omega
  rw [State.verdict, hc]
  dsimp only
  rw [hh]
  dsimp only
  rw [if_neg (not_idle hst), hpg]
  dsimp only
  rw [if_neg (show ¬ (pg.g < s.ctxFirst c ∨ s.ctxFirst c + s.ctxGroups c ≤ pg.g ∨ pg.k < h.k0) by omega),
    if_neg (show ¬ h.win < pg.k by omega), if_neg (Bool.eq_false_iff.mp hbusy)]
  rfl

theorem verdict_mixed (hd : s.drainOf d c h pg g) (hm : d.bank.mixed = true) : s.verdict n d = .mixed g := by
  rw [verdict_of_drainOf hd, if_pos hm]

theorem verdict_miss (hd : s.drainOf d c h pg g) (hm : d.bank.mixed = false) (he : s.mapEntries c d = none) :
    s.verdict n d = .miss (some g) (s.mapIndex c d) := by
  rw [verdict_of_drainOf hd, if_neg (Bool.eq_false_iff.mp hm), he, State.entriesVerdict]

theorem verdict_excess (hd : s.drainOf d c h pg g) (hm : d.bank.mixed = false) (he : (s.mapEntries c d).isSome = true)
    (hx : pg.k < h.win ∨ s.fget (HUSK_DAUX_DrainsPerPgMinus1 c) < tget 0 h.arrived g) :
    s.verdict n d = .excess g (s.mapIndex c d) := by
  obtain ⟨ents, he⟩ := Option.isSome_iff_exists.mp he
  rw [verdict_of_drainOf hd, if_neg (Bool.eq_false_iff.mp hm), he, State.entriesVerdict]
  exact if_pos hx

theorem verdict_apply {ents : List Nat} (hd : s.drainOf d c h pg g) (hm : d.bank.mixed = false) (he : s.mapEntries c d = some ents)
    (hk : pg.k = h.win) (ha : tget 0 h.arrived g ≤ s.fget (HUSK_DAUX_DrainsPerPgMinus1 c))
    (hroom : s.ctxKind c = 3 ∨ s.ctxKind c = 4 → s.powerUsed n + s.powerNew (s.powerAdds n c h.win g (ents.headD 0) d).1 ≤ 4096) :
    s.verdict n d = .apply g (s.mapIndex c d) ents := by
  rw [verdict_of_drainOf hd, if_neg (Bool.eq_false_iff.mp hm), he, State.entriesVerdict,
    if_neg (by omega), if_neg fun hfull => absurd (hroom hfull.1) (hk ▸ Nat.not_le.mpr hfull.2)]

end Sys2Proof.Machine
end
section
/-! SUPPORT. What the arrival of a drain leaves (R121, R130, R138, R140): the lanes' buffers, the Husk's status but for its full
buckets, and the registers but for the contexts' own, the spill's counters, the event counters and the log. -/

namespace Sys2Proof.Machine

variable {s t u : State} {n c g : Nat}

/-- Neither a register of a context nor one that an access of the spill may move. -/
abbrev arriveFree (a : Nat) : Prop := spillFree a ∧ (a < 0x900000 ∨ 0x940000 ≤ a)

/-- From s to t no more has happened to the registers and to the lanes' buffers than the arrival of a drain may do. -/
structure Arrives (s t : State) : Prop where
  reg : ∀ a, arriveFree a → t.reg a = s.reg a
  status : ∀ f : Fld, f.addr = HUSK_STATUS → f.lo + f.width ≤ 4 ∨ 5 ≤ f.lo → t.fget f = s.fget f
  held : t.husk.held = s.husk.held

theorem Arrives.refl : Arrives s s := ⟨fun _ _ => rfl, fun _ _ _ => rfl, rfl⟩

theorem Arrives.trans (h : Arrives s t) (g : Arrives t u) : Arrives s u where
  reg a ha := (g.reg a ha).trans (h.reg a ha)
  status f ha hb := (g.status f ha hb).trans (h.status f ha hb)
  held := g.held.trans h.held

theorem Spills.arrives (h : Spills s t) : Arrives s t := ⟨fun a ha => h.reg a ha.1, h.status, by rw [h.husk]⟩

theorem Arrives.spills (h : Arrives s t) (g : Spills t u) : Arrives s u := h.trans g.arrives

/-- An update of parts that are no matter here. -/
theorem Arrives.same (h : Arrives s t) (hr : u.regs = t.regs) (hk : u.husk.held = t.husk.held) : Arrives s u :=
  h.trans ⟨fun _ _ => reg_of_regs hr, fun _ _ _ => fget_of_reg (reg_of_regs hr), hk⟩

/-- An update that moves, the counters and the log apart, registers of contexts only. -/
theorem Arrives.contexts (h : Arrives s t) (hr : ∀ a, offLog a → a < 0x900000 ∨ 0x940000 ≤ a → u.reg a = t.reg a)
    (hk : u.husk.held = t.husk.held) : Arrives s u :=
  h.trans ⟨fun a ha => hr a ⟨ha.1.2.1, by omega⟩ ha.2,
    fun f hf _ => fget_of_reg (hf ▸ hr HUSK_STATUS ⟨by decide, by decide⟩ (.inl (by decide))), hk⟩

theorem Arrives.each {α : Type} {l : List α} {f : State → α → State} (h : Arrives s t) (hf : ∀ u, ∀ x ∈ l, Arrives u (f u x)) :
    Arrives s (t.each l f) := each_invariant (fun u x hx hu => hu.trans (hf u x hx)) h

theorem Arrives.ite {p : Prop} [Decidable p] {v : State} (h : p → Arrives s t) (g : ¬ p → Arrives s v) :
    Arrives s (if p then t else v) := by
  split
  · exact h ‹_›
  · exact g ‹_›

theorem Arrives.intervalEnd {flags : Nat} {dropped : Bool} {tai : Nat × Nat} (hc : c < 4096) (h : Arrives s t) :
    Arrives s (t.intervalEnd c flags dropped tai) :=
  h.contexts (fun a hoff ha => by
    rw [reg_intervalEnd hoff (by unfold CTX_FLAGGED; omega), reg_inc_ne (by unfold CTX_EMITTED; omega)])
    (congrArg HuskSt.held (intervalEnd_kept.same .husk rfl))

theorem Arrives.flushLane {w m lane : Nat} {first : Bool} (h : Arrives s t) : Arrives s (t.flushLane c w g m first lane) := by
  dsimp only [State.flushLane]
  refine Arrives.spills (Arrives.spills ?_ (Spills.refl.incBy (by decide))) (Spills.refl.pmc (by decide))
  refine List.foldlRecOn _ _ (motive := fun r : State × Nat => Arrives s r.1) (h.same rfl rfl) fun r hr e _ => ?_
  split
  · have hput {b : Nat} {vals us : List Nat} : Spills r.1 (r.1.spillPut c m g b first vals us) := Spills.refl.spillPut
    exact .ite (fun _ => hr.spills hput.deficit) fun _ => hr.spills hput
  · exact hr

theorem Arrives.flushGroup {w m : Nat} {first : Bool} (h : Arrives s t) : Arrives s (t.flushGroup c w g m first) :=
  h.each fun _ _ _ => Arrives.refl.flushLane

theorem Arrives.voltClose {x : HuskCtx} (hc : c < 4096) (h : Arrives s t) : Arrives s (t.voltClose c x) := by
  dsimp only [State.voltClose]
  split
  · exact .ite (fun _ => h.same rfl rfl) fun _ => h
  · exact .ite (fun _ => h) fun _ => Arrives.intervalEnd hc (h.same rfl rfl)

theorem mem_liveCtxs_lt (h : c ∈ s.liveCtxs) : c < 4096 := List.mem_range.mp (List.mem_filter.mp h).1

theorem mem_watchers_lt {o : Nat} (h : o ∈ s.watchers c) : o < 4096 := mem_liveCtxs_lt (List.mem_filter.mp h).1

theorem Arrives.setCtxState {v : Nat} (hc : c < 4096) (h : Arrives s t) : Arrives s (t.setCtxState c v) :=
  h.contexts (fun _ _ ha => reg_fset_ne (by simp only [CTX_STATE_State, CTX_STATE]; omega)) rfl

theorem Arrives.armWatchers (h : Arrives s t) : Arrives s (t.armWatchers c) :=
  h.each fun u o ho => by
    have hstate : Arrives u (if u.ctxState o = 2 then u.setCtxState o 3 else u) :=
      .ite (fun _ => Arrives.refl.setCtxState (mem_watchers_lt ho)) fun _ => .refl
    exact .ite (fun _ => hstate.same rfl rfl) fun _ => hstate

theorem Arrives.addDump {d : Dump} (h : Arrives s t) : Arrives s (t.addDump c d) := h.same rfl rfl

theorem Arrives.dumpStart {k0 m : Nat} (h : Arrives s t) : Arrives s (t.dumpStart c k0 m) := h.armWatchers.addDump

theorem Arrives.setHusk {x : Option HuskCtx} (h : Arrives s t) : Arrives s (t.setHusk c x) := h.same rfl rfl

/-- One drain more has arrived for group g. -/
def HuskCtx.oneMore (h : HuskCtx) (g : Nat) : HuskCtx := { h with arrived := tset 0 h.arrived g (tget 0 h.arrived g + 1) }

/-- The progress of a context whose window is complete, and with it the integration or not. -/
def HuskCtx.nextWin (h : HuskCtx) (done : Bool) : HuskCtx :=
  { h with win := h.win + 1, arrived := [], marks := [], tai := none, written := if done then [] else h.written }

/-- Group g is complete: the power stage's entries flush. -/
def State.groupDone (s : State) (c w g m : Nat) (first : Bool) : State :=
  if s.ctxKind c = 3 ∨ s.ctxKind c = 4 then s.flushGroup c w g m first else s

/-- Whether the window x applies is the last one of its integration. -/
def State.lastWin (s : State) (c : Nat) (x : HuskCtx) : Bool := decide ((x.win + 1 - x.k0) % s.ctxP c = 0)

/-- The window is complete: a VOLT interval closes and the next window is applied. -/
def State.winDone (s : State) (c : Nat) (x : HuskCtx) : State :=
  (if s.ctxKind c = 2 then s.voltClose c x else s).setHusk c (some (x.nextWin (s.lastWin c x)))

/-- Every group of integration m's window is complete. -/
def State.winComplete (s : State) (c m : Nat) (x : HuskCtx) : State :=
  let u := if s.lastWin c x then (s.winDone c x).modCtx c fun x => { x with restarted := false } else s.winDone c x
  if s.lastWin c x && decide (u.ctxKind c ≠ 2) then u.dumpStart c x.k0 m else u

theorem arrive_of_some {h : HuskCtx} (hh : s.huskCtx c = some h) : s.arrive c g =
    let v := s.setHusk c (some (h.oneMore g))
    let u := v.groupDone c h.win g (h.integ (s.ctxP c) h.win) (decide ((h.win - h.k0) % s.ctxP c = 0))
    if tget 0 (h.oneMore g).arrived g < s.fget (HUSK_DAUX_DrainsPerPgMinus1 c) + 1 then v
    else if (List.range (u.ctxGroups c)).all fun q =>
        decide (s.fget (HUSK_DAUX_DrainsPerPgMinus1 c) + 1 ≤ tget 0 (h.oneMore g).arrived q) then
      match u.huskCtx c with
      | none => u
      | some x => u.winComplete c (h.integ (s.ctxP c) h.win) x
    else u := by
  rw [State.arrive, hh]
  rfl

theorem Arrives.groupDone {w m : Nat} {first : Bool} (h : Arrives s t) : Arrives s (t.groupDone c w g m first) :=
  .ite (fun _ => h.flushGroup) fun _ => h

theorem Arrives.winDone {x : HuskCtx} (hc : c < 4096) (h : Arrives s t) : Arrives s (t.winDone c x) :=
  Arrives.setHusk (.ite (fun _ => h.voltClose hc) fun _ => h)

theorem Arrives.winComplete {m : Nat} {x : HuskCtx} (hc : c < 4096) (h : Arrives s t) : Arrives s (t.winComplete c m x) := by
  have hrestart : Arrives s (if t.lastWin c x then (t.winDone c x).modCtx c fun x => { x with restarted := false } else t.winDone c x) :=
    .ite (fun _ => (h.winDone hc).same rfl rfl) fun _ => h.winDone hc
  exact .ite (fun _ => hrestart.dumpStart) fun _ => hrestart

theorem Arrives.arrive (hc : c < 4096) (h : Arrives s t) : Arrives s (t.arrive c g) := by
  cases hh : t.huskCtx c with
  | none =>
    rw [State.arrive, hh]
    exact h
  | some x =>
    rw [arrive_of_some hh]
    extract_lets v u
    have hv : Arrives s v := h.setHusk
    have hu : Arrives s u := hv.groupDone
    refine .ite (fun _ => hv) fun _ => .ite (fun _ => ?_) fun _ => hu
    split
    · exact hu
    · exact hu.winComplete hc

theorem Arrives.discardArrive {d : DrainRec} (hc : c < 4096) (h : Arrives s t) : Arrives s (t.discardArrive c g d) := by
  unfold State.discardArrive
  split
  · extract_lets u
    have hu : Arrives s u := h.spills (Spills.refl.when fun _ hu => hu.markGroup)
    split
    · exact hu.arrive hc
    · exact hu
  · exact h

end Sys2Proof.Machine
end
section
/-! Proofs about the drains that the back end discards or holds (R115 to R117, R121, R129, R141). -/

namespace Sys2Proof.Machine

variable {s u v : State} {n c g a : Nat} {d : DrainRec} {ds : List DrainRec} {h : HuskCtx} {pg : PgId}

@[simp] theorem reg_laneTake : (s.laneTake n).reg a = s.reg a := rfl
@[simp] theorem flag_laneTake {f : Fld} : (s.laneTake n).flag f = s.flag f := rfl

@[simp] theorem held_laneTake : (s.laneTake n).husk.held = s.husk.held := rfl

@[simp] theorem power_laneTake : (s.laneTake n).husk.power = s.husk.power := rfl
@[simp] theorem reg_heldAt : (s.heldAt n ds).reg a = s.reg a := rfl

theorem drainTake_stopped : s.drainTake n d .stopped = s.inc HUSK_MAPMISS := rfl
theorem noteHold_stage {i : Nat} : s.noteHold n i d .stage = s.inc HUSK_STAGEHOLD := rfl

/-- A drain of no context is counted and gone. -/
theorem drainStopped (hs : LaneServed s n) (hq : tget [] s.husk.held n = d :: ds) (hc : d.ctx = none) :
    gives (.drainApply n) s fun t => tget [] t.husk.held n = ds ∧ t.reg HUSK_MAPMISS = s.reg HUSK_MAPMISS + 1 :=
  gives_of (drainApply_deals hs hq (verdict_of_none hc) rfl) ⟨by rw [held_laneTake, drainTake_stopped, inc_husk, heldAt_held],
    by rw [reg_laneTake, drainTake_stopped, reg_inc_self, reg_heldAt]⟩

/-- After the arrival that a discarded drain may count as, its log entry stands and its counter and flag are as they were set. -/
theorem discard_logged {code info : Nat} (ha : arriveFree a) (hu : u.husk = (s.heldAt n ds).husk) (hua : u.reg a = s.reg a + 1)
    (hv : Arrives u v) : tget [] ((v.log code 0 c info).laneTake n).husk.held n = ds ∧
      ((v.log code 0 c info).laneTake n).reg a = s.reg a + 1 ∧ logged ((v.log code 0 c info).laneTake n) code 0 c := by
  refine ⟨?_, ?_, logged_of_eq logged_log rfl rfl⟩
  · show tget [] (v.log code 0 c info).husk.held n = ds
    rw [(kept_log (F := fun x => x == .erl || x == .regs) (Kept.refl v) rfl rfl).same .husk rfl, hv.held, hu]
    exact heldAt_held
  · have hoff : offLog a := ⟨ha.1.2.1, by have := ha.1.1; omega⟩
    exact (reg_log_of_offLog hoff).trans ((hv.reg a ha).trans hua)

theorem discard_flag {f : Fld} {code info : Nat} (hf : f.addr = HUSK_STATUS) (hb : f.lo + f.width ≤ 4 ∨ 5 ≤ f.lo) (hw : f.width = 1)
    (hl : f.lo < 32) (hv : Arrives (u.fset f 1) v) : ((v.log code 0 c info).laneTake n).flag f = true := by
  have hoff : offLog f.addr := hf ▸ ⟨by decide, by decide⟩
  have hflag : ((v.log code 0 c info).laneTake n).flag f = v.flag f := flag_of_fget (fget_of_reg (reg_log_of_offLog hoff))
  rw [hflag, flag_of_fget (hv.status f hf hb), flag_fset_one hw hl]

/-- A drain whose counter and flag have been set and whose discard has arrived. -/
theorem discard_counted {f : Fld} {code info : Nat} (ha : arriveFree a) (hf : f.addr = HUSK_STATUS)
    (hb : f.lo + f.width ≤ 4 ∨ 5 ≤ f.lo) (hw : f.width = 1) (hl : f.lo < 32)
    (hv : Arrives (((s.heldAt n ds).inc a).fset f 1) v) : tget [] ((v.log code 0 c info).laneTake n).husk.held n = ds ∧
      ((v.log code 0 c info).laneTake n).reg a = s.reg a + 1 ∧ ((v.log code 0 c info).laneTake n).flag f = true ∧
      logged ((v.log code 0 c info).laneTake n) code 0 c := by
  have hst : a ≠ f.addr := fun e => ha.1.2.2 (by rw [e, hf]; decide)
  obtain ⟨hheld, hreg, hlog⟩ := discard_logged (code := code) (c := c) (info := info)
    (u := ((s.heldAt n ds).inc a).fset f 1) ha rfl ((reg_fset_ne hst).trans reg_inc_self) hv
  exact ⟨hheld, hreg, discard_flag hf hb hw hl hv, hlog⟩

theorem arriveFree_low (hlo : 0x80012C ≤ a) (hhi : a < 0x820000) : arriveFree a := by
  refine ⟨⟨by omega, by unfold GLB_INTPEND; omega, fun h => ?_⟩, .inl (by omega)⟩
  simp only [spillCounts, HUSK_STATUS, HUSK_RMW, HUSK_CHAFFINS, HUSK_CHAFFOVF, HUSK_PARITY, List.mem_cons, List.not_mem_nil,
    or_false] at h
  omega

theorem drainMixed (hs : LaneServed s n) (hq : tget [] s.husk.held n = d :: ds) (hd : s.drainOf d c h pg g)
    (hm : d.bank.mixed = true) : gives (.drainApply n) s fun t => tget [] t.husk.held n = ds ∧
      t.reg HUSK_MIXED = s.reg HUSK_MIXED + 1 ∧ t.flag HUSK_STATUS_Mixed = true ∧ logged t 0x0E 0 c := by
  obtain ⟨hc, hctx, -⟩ := id hd
  refine gives_of (drainApply_deals hs hq (verdict_mixed hd hm) rfl) ?_
  rw [State.drainTake, hctx]
  exact discard_counted (arriveFree_low (by decide) (by decide)) rfl (by decide) rfl (by decide) (Arrives.refl.discardArrive hc)

theorem drainMiss (hs : LaneServed s n) (hq : tget [] s.husk.held n = d :: ds) (hd : s.drainOf d c h pg g)
    (hm : d.bank.mixed = false) (he : s.mapEntries c d = none) : gives (.drainApply n) s fun t => tget [] t.husk.held n = ds ∧
      t.reg HUSK_MAPMISS = s.reg HUSK_MAPMISS + 1 ∧ t.flag HUSK_STATUS_MapMiss = true ∧ logged t 0x0F 0 c := by
  obtain ⟨hc, hctx, -⟩ := id hd
  refine gives_of (drainApply_deals hs hq (verdict_miss hd hm he) rfl) ?_
  rw [State.drainTake, hctx]
  exact discard_counted (arriveFree_low (by decide) (by decide)) rfl (by decide) rfl (by decide) (Arrives.refl.discardArrive hc)

theorem drainOutOfRange (hs : LaneServed s n) (hq : tget [] s.husk.held n = d :: ds) (hctx : d.ctx = some c) (hh : s.huskCtx c = some h)
    (hst : s.ctxState c = 3 ∨ s.ctxState c = 4)
    (hpg : ∀ pg, d.bank.pg = some pg → pg.g < s.ctxFirst c ∨ s.ctxFirst c + s.ctxGroups c ≤ pg.g ∨ pg.k < h.k0) :
    gives (.drainApply n) s fun t => tget [] t.husk.held n = ds ∧ t.reg HUSK_MAPMISS = s.reg HUSK_MAPMISS + 1 ∧
      t.flag HUSK_STATUS_MapMiss = true ∧ logged t 0x0F 0 c := by
  refine gives_of (drainApply_deals hs hq (verdict_of_range hctx hh hst hpg) rfl) ?_
  rw [State.drainTake, hctx]
  exact discard_counted (arriveFree_low (by decide) (by decide)) rfl (by decide) rfl (by decide) .refl

theorem drainExcess (hs : LaneServed s n) (hq : tget [] s.husk.held n = d :: ds) (hd : s.drainOf d c h pg g)
    (hm : d.bank.mixed = false) (he : (s.mapEntries c d).isSome = true)
    (hx : pg.k < h.win ∨ s.fget (HUSK_DAUX_DrainsPerPgMinus1 c) < tget 0 h.arrived g) :
    gives (.drainApply n) s fun t => tget [] t.husk.held n = ds ∧ t.reg HUSK_EXCESS = s.reg HUSK_EXCESS + 1 ∧
      logged t 0x10 0 c := by
  obtain ⟨hc, hctx, -⟩ := id hd
  refine gives_of (drainApply_deals hs hq (verdict_excess hd hm he hx) rfl) ?_
  rw [State.drainTake, hctx]
  exact discard_logged (u := (s.heldAt n ds).inc HUSK_EXCESS) (arriveFree_low (by decide) (by decide)) rfl reg_inc_self
    (Arrives.refl.discardArrive hc)

/-! ## Holds -/

theorem drainAhead (hs : LaneServed s n) (hq : tget [] s.husk.held n = [d]) (hv : s.verdict n d = .order) :
    gives (.drainApply n) s fun t => tget [] t.husk.held n = [d] ∧ t.regs = s.regs :=
  gives_of (drainApply_holds hs hq hv rfl) ⟨hq, rfl⟩

theorem noteHold_late (hq : tget [] s.husk.held n = [d]) (hl : d.late = false) : s.noteHold n 0 d .late =
    (((s.heldAt n [{ d with late := true }]).inc HUSK_DUMPLATE).fset HUSK_STATUS_DumpLate 1).pmc 279 1 := by
  rw [State.noteHold, hl, hq]
  rfl

theorem noteHold_late_again (hl : d.late = true) : s.noteHold n 0 d .late = s := by rw [State.noteHold, hl, if_pos rfl]

/-- A drain that a dump's buffer holds is counted the first time. -/
theorem drainLate (hs : LaneServed s n) (hq : tget [] s.husk.held n = [d]) (hv : s.verdict n d = .late) :
    gives (.drainApply n) s fun t => tget [] t.husk.held n = [{ d with late := true }] ∧
      (d.late = false → t.reg HUSK_DUMPLATE = s.reg HUSK_DUMPLATE + 1 ∧ t.flag HUSK_STATUS_DumpLate = true) ∧
      (d.late = true → t.regs = s.regs) := by
  refine gives_of (drainApply_holds hs hq hv rfl) ?_
  cases hl : d.late with
  | true =>
    rw [noteHold_late_again hl]
    refine ⟨hq.trans ?_, nofun, fun _ => rfl⟩
    rw [← hl]
  | false =>
    rw [noteHold_late hq hl]
    have hdump : offLog HUSK_DUMPLATE := ⟨by decide, by decide⟩
    have hstatus : offLog HUSK_STATUS_DumpLate.addr := ⟨by decide, by decide⟩
    refine ⟨?_, fun _ => ⟨?_, ?_⟩, nofun⟩
    · rw [held_laneTake, pmc_husk]
      exact heldAt_held
    · rw [reg_laneTake, reg_pmc_of_offLog hdump, reg_fset_ne (by decide), reg_inc_self]
      rfl
    · rw [flag_laneTake, flag_of_fget (fget_of_reg (reg_pmc_of_offLog hstatus)), flag_fset_one rfl (by decide)]

theorem drainStaged (hs : LaneServed s n) (hq : tget [] s.husk.held n = [d]) (hv : s.verdict n d = .stage) :
    gives (.drainApply n) s fun t => tget [] t.husk.held n = [d] ∧ t.husk.power = s.husk.power ∧
      t.reg HUSK_STAGEHOLD = s.reg HUSK_STAGEHOLD + 1 :=
  gives_of (drainApply_holds hs hq hv rfl) ⟨by rw [held_laneTake, noteHold_stage, inc_husk, hq],
    by rw [power_laneTake, noteHold_stage, inc_husk], by rw [reg_laneTake, noteHold_stage, reg_inc_self]⟩

end Sys2Proof.Machine
end
section
/-! SUPPORT. The arrival of a drain of a context that spills correlations (R121, R138, R140), and of a drain that is not its group's
last one. -/

namespace Sys2Proof.Machine

variable {s t u v : State} {c g m : Nat} {x : HuskCtx}

/-- A drain that is not its group's last one is counted for the group, and that is all. -/
theorem arrive_few (hx : s.huskCtx c = some x) (hlt : tget 0 x.arrived g < s.fget (HUSK_DAUX_DrainsPerPgMinus1 c)) :
    s.arrive c g = s.setHusk c (some (x.oneMore g)) := by
  rw [arrive_of_some hx]
  refine if_pos ?_
  show tget 0 (tset 0 x.arrived g (tget 0 x.arrived g + 1)) g < _
  rw [tget_tset_self]
  omega

theorem groupDone_of_corr {w : Nat} {first : Bool} (hk : s.ctxKind c ≤ 1) : s.groupDone c w g m first = s :=
  if_neg (by omega)

theorem winDone_of_corr (hk : s.ctxKind c ≤ 1) : s.winDone c x = s.setHusk c (some (x.nextWin (s.lastWin c x))) := by
  rw [State.winDone, if_neg (by omega)]

/-- The drain with which a window is complete. -/
theorem arrive_last (hx : s.huskCtx c = some x) (hk : s.ctxKind c ≤ 1)
    (ha : tget 0 x.arrived g = s.fget (HUSK_DAUX_DrainsPerPgMinus1 c))
    (hall : ∀ q < s.ctxGroups c, q ≠ g → s.fget (HUSK_DAUX_DrainsPerPgMinus1 c) < tget 0 x.arrived q) :
    s.arrive c g = (s.setHusk c (some (x.oneMore g))).winComplete c (x.integ (s.ctxP c) x.win) (x.oneMore g) := by
  have hself : tget 0 (x.oneMore g).arrived g = tget 0 x.arrived g + 1 := by
    rw [HuskCtx.oneMore, tget_tset_self]
  have hne {q : Nat} (hq : q ≠ g) : tget 0 (x.oneMore g).arrived q = tget 0 x.arrived q := by
    rw [HuskCtx.oneMore, tget_tset_ne 0 _ _ hq]
  have hkind : (s.setHusk c (some (x.oneMore g))).ctxKind c ≤ 1 := hk
  rw [arrive_of_some hx]
  dsimp only
  rw [groupDone_of_corr hkind, if_neg (by omega), setHusk_huskCtx]
  refine if_pos (List.all_eq_true.mpr fun q hq => decide_eq_true ?_)
  have hq : q < s.ctxGroups c := List.mem_range.mp hq
  by_cases he : q = g
  · rw [he]
    omega
  · rw [hne he]
    exact hall q hq he

/-- What the end of a window leaves: everything but the context's own registers, its restart mark and the Husk. -/
structure Calm (s t : State) : Prop where
  reg : ∀ a, a < 0x900000 ∨ 0x940000 ≤ a → t.reg a = s.reg a
  hbm : t.hbm = s.hbm
  dmc : t.dmc = s.dmc

theorem Calm.refl : Calm s s := ⟨fun _ _ => rfl, rfl, rfl⟩

theorem Calm.trans (h : Calm s t) (g : Calm t u) : Calm s u :=
  ⟨fun a ha => (g.reg a ha).trans (h.reg a ha), g.hbm.trans h.hbm, g.dmc.trans h.dmc⟩

theorem calm_setHusk {y : Option HuskCtx} : Calm s (s.setHusk c y) := ⟨fun _ _ => rfl, rfl, rfl⟩
theorem calm_modCtx {f : CtxSt → CtxSt} : Calm s (s.modCtx c f) := ⟨fun _ _ => rfl, rfl, rfl⟩
theorem calm_addDump {d : Dump} : Calm s (s.addDump c d) := ⟨fun _ _ => rfl, rfl, rfl⟩

theorem calm_setCtxState {k : Nat} (hc : c < 4096) : Calm s (s.setCtxState c k) :=
  ⟨fun _ ha => reg_fset_ne (by simp only [CTX_STATE_State, CTX_STATE]; omega), rfl, rfl⟩

/-- What the watching contexts do not move when a dump begins. -/
structure Armed (s t : State) : Prop extends Calm s t where
  dumps : t.husk.dumps = s.husk.dumps
  ctx : t.husk.ctx = s.husk.ctx

theorem armed_armWatchers : Armed s (s.armWatchers c) := by
  refine each_invariant (I := Armed s) (fun u o ho hu => ?_) ⟨.refl, rfl, rfl⟩
  have hstate : Armed s (if u.ctxState o = 2 then u.setCtxState o 3 else u) := by
    split
    · exact ⟨hu.toCalm.trans (calm_setCtxState (mem_watchers_lt ho)), hu.dumps, hu.ctx⟩
    · exact hu
  dsimp only
  generalize (if u.ctxState o = 2 then u.setCtxState o 3 else u) = v at hstate
  split
  · exact ⟨hstate.toCalm.trans ⟨fun _ _ => rfl, rfl, rfl⟩, hstate.dumps, hstate.ctx⟩
  · exact hstate

/-- The dump of integration n as it is queued. -/
def State.newDump (s : State) (c k0 n : Nat) : Dump :=
  let f := s.intervalFrame c k0 n
  ⟨n, tget 0 s.husk.runs c, f, s.ctxP c * s.ctxF c % 2 ^ 32, s.fget FAB_STATUS_PartEpoch, s.taiSpan c f, 0, [], false, 0,
    (s.watchers c).filter fun o => decide (s.ctxState o = 3), []⟩

theorem newDump_n {k0 : Nat} : (s.newDump c k0 m).n = m := rfl
theorem newDump_sent {k0 : Nat} : (s.newDump c k0 m).sent = 0 := rfl

theorem dumpStart_eq {k0 : Nat} : s.dumpStart c k0 m = (s.armWatchers c).addDump c ((s.armWatchers c).newDump c k0 m) := rfl

theorem addDump_dumps {d : Dump} : tget [] (s.addDump c d).husk.dumps c = tget [] s.husk.dumps c ++ [d] := by
  rw [State.addDump, tmod, tget_tset_self]

theorem addDump_ctx {d : Dump} : (s.addDump c d).husk.ctx = s.husk.ctx := rfl

theorem dumpStart_dumps {k0 : Nat} : ∃ y, tget [] (s.dumpStart c k0 m).husk.dumps c = tget [] s.husk.dumps c ++ [y] ∧
    y.n = m ∧ y.sent = 0 := by
  refine ⟨(s.armWatchers c).newDump c k0 m, ?_, newDump_n, newDump_sent⟩
  rw [dumpStart_eq, addDump_dumps, armed_armWatchers.dumps]

theorem dumpStart_huskCtx {k0 j : Nat} : (s.dumpStart c k0 m).huskCtx j = s.huskCtx j := by
  rw [dumpStart_eq, State.huskCtx, State.huskCtx, addDump_ctx, armed_armWatchers.ctx]

/-- The next window is applied, and with the last window of an integration its dump is queued. -/
theorem winComplete_of_corr (hk : s.ctxKind c ≤ 1) : Calm s (s.winComplete c m x) ∧
    (s.winComplete c m x).huskCtx c = some (x.nextWin (s.lastWin c x)) ∧
    (s.lastWin c x = false → (s.winComplete c m x).husk.dumps = s.husk.dumps) ∧
    (s.lastWin c x = true → ∃ y, tget [] (s.winComplete c m x).husk.dumps c = tget [] s.husk.dumps c ++ [y] ∧
      y.n = m ∧ y.sent = 0) := by
  rw [State.winComplete, winDone_of_corr hk]
  cases hl : s.lastWin c x with
  | false => exact ⟨calm_setHusk, setHusk_huskCtx, fun _ => rfl, nofun⟩
  | true =>
    have hkind : ((s.setHusk c (some (x.nextWin true))).modCtx c fun x => { x with restarted := false }).ctxKind c ≠ 2 := by
      show s.ctxKind c ≠ 2
      omega
    rw [if_pos rfl, decide_eq_true hkind, Bool.and_self, if_pos rfl]
    refine ⟨?_, dumpStart_huskCtx.trans setHusk_huskCtx, nofun, fun _ => dumpStart_dumps⟩
    exact (calm_setHusk.trans calm_modCtx).trans (armed_armWatchers.toCalm.trans calm_addDump)

theorem calm_arrive (hk : s.ctxKind c ≤ 1) : Calm s (s.arrive c g) := by
  cases hx : s.huskCtx c with
  | none =>
    rw [State.arrive, hx]
    exact .refl
  | some x =>
    have hkind : (s.setHusk c (some (x.oneMore g))).ctxKind c ≤ 1 := hk
    rw [arrive_of_some hx]
    dsimp only
    rw [groupDone_of_corr hkind, setHusk_huskCtx]
    split
    · exact calm_setHusk
    · split
      · exact calm_setHusk.trans (winComplete_of_corr hkind).1
      · exact calm_setHusk

end Sys2Proof.Machine
end
section
/-! SUPPORT. What accesses to HBM leave of its bytes where no retirement follows a parity error (R260 to R277): the map, the state of
every pseudo-channel and every byte outside what is written. -/

namespace Sys2Proof.Machine

variable {s t u : State} {a b n p : Nat} {P : Nat → Prop}

/-! ## The map (R261) -/

/-- The registers that the map rests on: the reserve and the pseudo-channels of the slots. -/
abbrev mapReg (a : Nat) : Prop := a = DMC_CFG ∨ 0xA00200 ≤ a ∧ a < 0xA00500

theorem mapReg_range (h : mapReg a) : 0xA00008 ≤ a ∧ a < 0xA00500 := by
  rcases h with rfl | h
  · decide
  · omega

/-- The map is the same in s and t. -/
def SameMap (s t : State) : Prop := ∀ a, mapReg a → t.reg a = s.reg a

theorem nActive_range : 176 ≤ s.nActive ∧ s.nActive ≤ 192 := by
  unfold State.nActive
  omega

theorem hbmSlot_lt : s.hbmSlot a < s.nActive := Nat.mod_lt _ (by have := nActive_range (s := s); omega)

theorem SameMap.nActive (h : SameMap s t) : t.nActive = s.nActive := by
  rw [State.nActive, State.nActive, fget_of_reg (h _ (.inl rfl))]

theorem SameMap.hbmIn (h : SameMap s t) : t.hbmIn a = s.hbmIn a := by rw [State.hbmIn, State.hbmIn, h.nActive]

theorem SameMap.slotPc {i : Nat} (h : SameMap s t) (hi : i < 192) : t.fget (DMC_PCMAP_Pc i) = s.fget (DMC_PCMAP_Pc i) :=
  fget_of_reg (h _ (.inr ⟨show 0xA00200 ≤ 0xA00200 + 4 * i by omega, show 0xA00200 + 4 * i < 0xA00500 by omega⟩))

theorem SameMap.hbmPc (h : SameMap s t) : t.hbmPc a = s.hbmPc a := by
  have hlt := hbmSlot_lt (s := s) (a := a)
  have hmax := nActive_range (s := s)
  have hslot : t.hbmSlot a = s.hbmSlot a := by rw [State.hbmSlot, State.hbmSlot, h.nActive]
  rw [State.hbmPc, State.hbmPc, hslot, h.slotPc (by omega)]

theorem SameMap.hbmKey (h : SameMap s t) : t.hbmKey a = s.hbmKey a := by
  rw [State.hbmKey, State.hbmKey, h.hbmPc, State.hbmPa, State.hbmPa, h.nActive]

/-- Each pseudo-channel stands in one slot. -/
def State.slotsApart (s : State) : Prop :=
  ∀ i j, i < s.nActive → j < s.nActive → s.fget (DMC_PCMAP_Pc i) = s.fget (DMC_PCMAP_Pc j) → i = j

theorem SameMap.slotsApart (h : SameMap s t) (hs : s.slotsApart) : t.slotsApart := fun i j hi hj he => by
  have hmax := nActive_range (s := s)
  rw [h.nActive] at hi hj
  rw [h.slotPc (by omega), h.slotPc (by omega)] at he
  exact hs i j hi hj he

theorem hbmPa_lt (h : s.hbmIn a = true) : s.hbmPa a < pcBytes := by
  have hlt : a < s.nActive * (3145728 * 256) := of_decide_eq_true h
  have hq : a / 256 / s.nActive < 3145728 := by
    rw [Nat.div_div_eq_div_mul, Nat.div_lt_iff_lt_mul (by have := nActive_range (s := s); omega)]
    calc a < s.nActive * (3145728 * 256) := hlt
      _ = 3145728 * (256 * s.nActive) := by ring
  unfold State.hbmPa pcBytes
  omega

/-- Where each pseudo-channel stands in one slot, an address of the map has a key of its own. -/
theorem hbmKey_inj (hs : s.slotsApart) (ha : s.hbmIn a = true) (hb : s.hbmIn b = true) (h : s.hbmKey a = s.hbmKey b) : a = b := by
  have hpa := hbmPa_lt ha
  have hpb := hbmPa_lt hb
  have hpc : s.hbmPc a = s.hbmPc b ∧ s.hbmPa a = s.hbmPa b := by
    unfold State.hbmKey pcBytes at h
    unfold pcBytes at hpa hpb
    omega
  have hslot : s.hbmSlot a = s.hbmSlot b := hs _ _ hbmSlot_lt hbmSlot_lt hpc.1
  have hpa : a / 256 / s.nActive = b / 256 / s.nActive ∧ a % 256 = b % 256 := by
    have := hpc.2
    unfold State.hbmPa at this
    omega
  have hq : a / 256 = b / 256 := by
    rw [← Nat.div_add_mod (a / 256) s.nActive, ← Nat.div_add_mod (b / 256) s.nActive, hpa.1]
    exact congrArg _ hslot
  omega

/-! ## What an access keeps -/

/-- What the controllers hold of errors and retirements, a severity report taken apart. -/
structure DmcKeeps (x y : DmcSt) : Prop where
  sudden : y.sudden = x.sudden
  wrong : y.wrong = x.wrong
  cleanOf : y.cleanOf = x.cleanOf
  was : y.was = x.was
  sev : x.sev = [] → y.sev = []

theorem DmcKeeps.refl {x : DmcSt} : DmcKeeps x x := ⟨rfl, rfl, rfl, rfl, id⟩

/-- Bytes with P, the map and what is FAILED are the same in s and t, and no retirement follows a parity error in t. -/
structure Stored (P : Nat → Prop) (s t : State) : Prop where
  stays : t.mapStays
  auto : t.flag DMC_CTRL_AutoRetire = s.flag DMC_CTRL_AutoRetire
  map : SameMap s t
  failed : ∀ p < 256, t.pcFailed p = s.pcFailed p
  byte : ∀ b, P b → t.hbmByte b = s.hbmByte b

theorem Stored.refl (h : s.mapStays) : Stored P s s := ⟨h, rfl, fun _ _ => rfl, fun _ _ => rfl, fun _ _ => rfl⟩

theorem Stored.trans (h : Stored P s t) (g : Stored P t u) : Stored P s u where
  stays := g.stays
  auto := g.auto.trans h.auto
  map a ha := (g.map a ha).trans (h.map a ha)
  failed p hp := (g.failed p hp).trans (h.failed p hp)
  byte b hb := (g.byte b hb).trans (h.byte b hb)

theorem mapStays_of (h : s.mapStays) (hctrl : t.reg DMC_CTRL = s.reg DMC_CTRL) (hd : DmcKeeps s.dmc t.dmc)
    (hbad : s.dmc.wrong = [] → s.hbmBad = [] → t.hbmBad = []) : t.mapStays := by
  obtain ⟨hsudden, hkeep⟩ := h
  refine ⟨hd.sudden.trans hsudden, hkeep.imp (fun hf => ?_) fun ⟨hb, hw, hc, hv⟩ => ?_⟩
  · rw [flag_of_fget (fget_of_reg hctrl), hf]
  · exact ⟨hbad hw hb, hd.wrong.trans hw, hd.cleanOf.trans hc, hd.sev hv⟩

theorem hbmByte_of (hmap : SameMap s t) (hf : ∀ p < 256, t.pcFailed p = s.pcFailed p) (hh : t.hbm = s.hbm) :
    t.hbmByte a = s.hbmByte a := by
  rw [State.hbmByte, State.hbmByte, hmap.hbmIn, hmap.hbmPc, hf _ hbmPc_lt, hmap.hbmKey, hh]

/-- An update that leaves the bytes and what the map, the state of the pseudo-channels and the errors rest on. -/
theorem Stored.step (h : Stored P s t) (hr : ∀ a, 0xA00000 ≤ a → a < 0xA01000 → a ≠ DMC_STATUS → u.reg a = t.reg a)
    (hd : DmcKeeps t.dmc u.dmc) (hh : u.hbm = t.hbm) (hbad : u.hbmBad = t.hbmBad) : Stored P s u := by
  have hmap : SameMap t u := fun a ha => by
    have := mapReg_range ha
    exact hr a (by omega) (by omega) (by unfold DMC_STATUS; omega)
  have hfail : ∀ p < 256, u.pcFailed p = t.pcFailed p := fun p hp => by
    have haddr : u.reg (DMC_PCSTAT p) = t.reg (DMC_PCSTAT p) :=
      hr _ (by unfold DMC_PCSTAT; omega) (by unfold DMC_PCSTAT; omega) (by unfold DMC_PCSTAT DMC_STATUS; omega)
    rw [State.pcFailed, State.pcFailed, fget_of_reg (f := DMC_PCSTAT_State p) haddr, hd.was]
  have hctrl : u.reg DMC_CTRL = t.reg DMC_CTRL := hr _ (by decide) (by decide) (by decide)
  exact h.trans ⟨mapStays_of h.stays hctrl hd fun _ hb => hbad.trans hb, flag_of_fget (fget_of_reg hctrl), hmap, hfail,
    fun _ _ => hbmByte_of hmap hfail hh⟩

theorem Stored.dmc {d : DmcSt} (h : Stored P s t) (hd : DmcKeeps t.dmc d) : Stored P s { t with dmc := d } :=
  h.step (fun _ _ _ _ => rfl) hd rfl rfl

/-- A write of a register that neither the map nor the pseudo-channels' state rests on. -/
theorem Stored.setReg {w : BitVec 32} (h : Stored P s t) (ha : a < 0xA00000 ∨ a = DMC_STATUS ∨ 0xA01000 ≤ a) :
    Stored P s (t.setReg a w) :=
  h.step (fun _ _ _ hne => reg_setReg_ne (by rintro rfl; omega)) .refl rfl rfl

theorem Stored.inc (h : Stored P s t) (ha : a < 0xA00000 ∨ a = DMC_STATUS ∨ 0xA01000 ≤ a) : Stored P s (t.inc a) := h.setReg ha
theorem Stored.incBy (h : Stored P s t) (ha : a < 0xA00000 ∨ a = DMC_STATUS ∨ 0xA01000 ≤ a) : Stored P s (t.incBy a n) := h.setReg ha
theorem Stored.fset {f : Fld} {v : Nat} (h : Stored P s t) (ha : f.addr < 0xA00000 ∨ f.addr = DMC_STATUS ∨ 0xA01000 ≤ f.addr) :
    Stored P s (t.fset f v) := h.setReg ha
theorem Stored.raise {c : Nat} (h : Stored P s t) : Stored P s (t.raise c) := h.setReg (by decide)

theorem Stored.pmc {k : Nat} (h : Stored P s t) : Stored P s (t.pmc k n) :=
  (h.setReg (by unfold PMC_LIVE_LO; omega)).setReg (by unfold PMC_LIVE_HI; omega)

theorem Stored.log {code site inst info : Nat} (h : Stored P s t) : Stored P s (t.log code site inst info) := by
  have hk := kept_log (F := fun x => x == .erl || x == .regs) (code := code) (site := site) (inst := inst) (info := info)
    (Kept.refl t) rfl rfl
  refine h.step (fun a hlo hhi _ => reg_log_of_offLog ⟨by unfold GLB_INTPEND; omega, by omega⟩) ?_ (hk.same .hbm rfl) (hk.same .hbmBad rfl)
  rw [show (t.log code site inst info).dmc = t.dmc from hk.same .dmc rfl]
  exact .refl

theorem Stored.parity {site inst info : Nat} (h : Stored P s t) : Stored P s (t.parity site inst info) :=
  ((h.inc (by unfold ERL_PARCNT; omega)).pmc).log

theorem Stored.each {α : Type} {l : List α} {f : State → α → State} (h : Stored P s t)
    (hf : ∀ u, ∀ x ∈ l, Stored P s u → Stored P s (f u x)) : Stored P s (t.each l f) := each_invariant hf h

theorem Stored.ite {c : Prop} [Decidable c] {v : State} (h : c → Stored P s t) (g : ¬ c → Stored P s v) :
    Stored P s (if c then t else v) := by
  split
  · exact h ‹_›
  · exact g ‹_›

/-! ## Parity errors (R274 to R277) -/

theorem Stored.noteReserve (h : Stored P s t) : Stored P s t.noteReserve :=
  .ite (fun _ => ((h.fset (.inr (.inl rfl))).fset (.inr (.inl rfl))).raise) fun _ => (h.fset (.inr (.inl rfl))).fset (.inr (.inl rfl))

/-- A pseudo-channel's state moves, and with it not what is FAILED. -/
theorem Stored.pcState {v : Nat} (h : Stored P s t) (hp : p < 256)
    (hf : (t.fset (DMC_PCSTAT_State p) v).pcFailed p = t.pcFailed p) : Stored P s (t.fset (DMC_PCSTAT_State p) v) := by
  have hne {a : Nat} (ha : a ≠ DMC_PCSTAT p) : (t.fset (DMC_PCSTAT_State p) v).reg a = t.reg a := reg_fset_ne ha
  have hmap : SameMap t (t.fset (DMC_PCSTAT_State p) v) := fun a ha => by
    have := mapReg_range ha
    exact hne (by unfold DMC_PCSTAT; omega)
  have hfail : ∀ q < 256, (t.fset (DMC_PCSTAT_State p) v).pcFailed q = t.pcFailed q := fun q _ => by
    by_cases hq : q = p
    · rw [hq, hf]
    · have haddr : (t.fset (DMC_PCSTAT_State p) v).reg (DMC_PCSTAT q) = t.reg (DMC_PCSTAT q) := hne (by unfold DMC_PCSTAT; omega)
      rw [State.pcFailed, State.pcFailed, fget_of_reg (f := DMC_PCSTAT_State q) haddr]
      rfl
  have hctrl : (t.fset (DMC_PCSTAT_State p) v).reg DMC_CTRL = t.reg DMC_CTRL := hne (by unfold DMC_CTRL DMC_PCSTAT; omega)
  exact h.trans ⟨mapStays_of h.stays hctrl .refl fun _ hb => hb, flag_of_fget (fget_of_reg hctrl), hmap, hfail,
    fun _ _ => hbmByte_of hmap hfail rfl⟩

theorem pcFailed_fset {v : Nat} : (t.fset (DMC_PCSTAT_State p) v).pcFailed p = (decide (v % 8 = 7) || decide (tget 0 t.dmc.was p = 7)) := by
  have hv : (t.fset (DMC_PCSTAT_State p) v).fget (DMC_PCSTAT_State p) = v % 8 := fget_fset (show 29 + 3 ≤ 32 by decide)
  rw [State.pcFailed, hv]
  rfl

theorem pcFailed_fset_of_reserve {q : Nat} (hq : q ∈ t.reserves) :
    (t.fset (DMC_PCSTAT_State q) (if t.fget (DMC_PCSTAT_State q) = 1 then 1 else 5)).pcFailed q = t.pcFailed q := by
  have hst : t.fget (DMC_PCSTAT_State q) = 4 ∨ t.fget (DMC_PCSTAT_State q) = 1 := by
    have := (List.mem_filter.mp hq).2
    simp only [Bool.or_eq_true, Bool.and_eq_true, decide_eq_true_eq] at this
    omega
  rw [pcFailed_fset, State.pcFailed]
  rcases hst with hst | hst <;> simp [hst]

/-- The retirement of a pseudo-channel that is FAILED moves no byte. -/
theorem Stored.retirePlanned (h : Stored P s t) (hp : p < 256) (hf : t.pcFailed p = true) : Stored P s (t.retirePlanned p) := by
  unfold State.retirePlanned
  split
  case isTrue hcopy =>
    split
    · unfold State.failPc
      rw [hcopy.2]
      refine (h.pcState hp ?_).log
      rw [pcFailed_fset, hf]
      rfl
    · next q rest hq =>
      have hmem : q ∈ t.reserves := hq ▸ List.mem_cons_self
      have hlt : q < 192 := List.mem_range.mp (List.mem_filter.mp hmem).1
      have hset := h.pcState (by omega) (pcFailed_fset_of_reserve hmem)
      exact Stored.noteReserve (hset.dmc ⟨rfl, rfl, rfl, rfl, id⟩)
  case isFalse => exact h

theorem Stored.dmcParity {info : Nat} (h : Stored P s t) (hp : p < 256)
    (hf : t.flag DMC_CTRL_AutoRetire = true → t.pcFailed p = true) : Stored P s (t.dmcParity p info) := by
  have hc : Stored P t ((t.inc (DMC_PAR p)).parity 6 p info) :=
    ((Stored.refl h.stays).inc (.inr (.inr (by unfold DMC_PAR; omega)))).parity
  refine h.trans ?_
  unfold State.dmcParity
  dsimp only
  rw [hc.auto]
  refine .ite (fun hgo => hc.retirePlanned hp ?_) fun _ => hc
  rw [hc.failed p hp]
  exact hf (Bool.and_eq_true_iff.mp hgo).1

theorem Stored.beatError {line : Nat} (h : Stored P s t)
    (hf : t.hbmIn line = true → t.flag DMC_CTRL_AutoRetire = true → t.pcFailed (t.hbmPc line) = true) :
    Stored P s (t.beatError line b) :=
  .ite (fun hin => h.dmcParity hbmPc_lt (hf hin)) fun _ => h.parity

/-- The two bytes lie in the same interleaving block. -/
theorem hbmPc_eq_of_block (h : a / 256 = b / 256) : s.hbmPc a = s.hbmPc b := by
  rw [State.hbmPc, State.hbmPc, State.hbmSlot, State.hbmSlot, h]

theorem hbmIn_eq_of_block (h : a / 256 = b / 256) : s.hbmIn a = s.hbmIn b := by
  have hm : s.nActive * pcBytes = s.nActive * 3145728 * 256 := by unfold pcBytes; ring
  rw [State.hbmIn, State.hbmIn, hm]
  exact decide_eq_decide.mpr (by omega)

/-- Where a parity error would retire, a byte that reads wrong lies in a pseudo-channel that is FAILED. -/
theorem pcFailed_of_bad (h : t.mapStays) (hauto : t.flag DMC_CTRL_AutoRetire = true) (hin : t.hbmIn a = true)
    (hbad : t.hbmByteBad a = true) : t.pcFailed (t.hbmPc a) = true := by
  obtain ⟨-, hoff | ⟨hb, hw, hc, hv⟩⟩ := h
  · exact absurd hauto (by rw [hoff]; exact Bool.false_ne_true)
  · simpa [State.hbmByteBad, hin, hb, State.hbmUnclean, hc, State.hbmWrong, hw, State.severeAt, hv, tget] using hbad

/-! ## Lines read (R260 to R266) -/

theorem Stored.severeTake (h : Stored P s t) : Stored P s (t.severeTake b) := by
  unfold State.severeTake
  split
  · have hsev : t.dmc.sev = [] → t.dmc.sev.filter (fun x => decide (x ≠ t.hbmKey b / 32)) = [] := fun he => by rw [he]; rfl
    exact Stored.inc (h.dmc ⟨rfl, rfl, rfl, rfl, hsev⟩) (.inr (.inr (by unfold DMC_SEV; omega)))
  · exact h

/-- The beats of a line that come back wrong: where they would retire, the pseudo-channel is FAILED. -/
theorem pcFailed_of_beat {line : Nat} (h : t.mapStays) (hauto : t.flag DMC_CTRL_AutoRetire = true) (hline : line % 64 = 0)
    (hb : b = line ∨ b = line + 32) (hin : t.hbmIn line = true) (hbad : t.hbmAnyBad b 32 = true) :
    t.pcFailed (t.hbmPc line) = true := by
  obtain ⟨i, hi, hbad⟩ := List.any_eq_true.mp hbad
  have hi : i < 32 := List.mem_range.mp hi
  have hblock : (b + i) / 256 = line / 256 := by omega
  rw [← hbmPc_eq_of_block hblock]
  exact pcFailed_of_bad h hauto ((hbmIn_eq_of_block hblock).trans hin) hbad

theorem Stored.beatsBack {line : Nat} (h : Stored P s t) (hline : line % 64 = 0) : Stored P s (t.beatsBack line) := by
  have hsev : Stored P t (t.each [line, line + 32] State.severeTake) := (Stored.refl h.stays).each fun _ _ _ hu => hu.severeTake
  refine h.trans (.ite (fun _ => .refl h.stays) fun _ => hsev.each fun u b hb hu => hu.beatError fun hin hauto => ?_)
  obtain ⟨hb, hbad⟩ := List.mem_filter.mp hb
  rw [hu.map.hbmPc, hu.failed _ hbmPc_lt]
  exact pcFailed_of_beat h.stays (hu.auto ▸ hauto) hline (by simpa using hb) (hu.map.hbmIn ▸ hin) hbad

theorem dmcKeeps_bankIssues {k : Nat} : DmcKeeps t.dmc (State.bankIssues n k t).dmc := by
  induction n generalizing t with
  | zero => exact .refl
  | succ n ih =>
    have hone : DmcKeeps t.dmc (t.bankIssue k).dmc := by
      unfold State.bankIssue
      split
      · exact .refl
      · exact ⟨rfl, rfl, rfl, rfl, id⟩
    exact ⟨ih.sudden.trans hone.sudden, ih.wrong.trans hone.wrong, ih.cleanOf.trans hone.cleanOf, ih.was.trans hone.was,
      fun he => ih.sev (hone.sev he)⟩

theorem Stored.bankEmpty {k : Nat} (h : Stored P s t) : Stored P s (t.bankEmpty k) := by
  have hk : Kept (· == .dmc) t (t.bankEmpty k) := kept_bankEmpty (Kept.refl t) rfl
  exact h.step (fun _ _ _ _ => reg_of_regs (hk.same .regs rfl)) dmcKeeps_bankIssues (hk.same .hbm rfl) (hk.same .hbmBad rfl)

theorem Stored.setBankQ {k : Nat} {q : List DramReq} (h : Stored P s t) : Stored P s (t.setBankQ k q) := h.dmc ⟨rfl, rfl, rfl, rfl, id⟩
theorem Stored.addLines {k : Nat} (h : Stored P s t) : Stored P s (t.addLines k n) := h.dmc ⟨rfl, rfl, rfl, rfl, id⟩
theorem Stored.drainLatch {k : Nat} (h : Stored P s t) : Stored P s (t.drainLatch k) := h.dmc ⟨rfl, rfl, rfl, rfl, id⟩

theorem Stored.queueWrite {k line m : Nat} (h : Stored P s t) : Stored P s (t.queueWrite k line m) :=
  .ite (fun _ => h.setBankQ) fun _ => h.addLines.setBankQ.drainLatch

theorem Stored.queueRead {pc k line : Nat} (h : Stored P s t) : Stored P s (t.queueRead pc k line) := by
  have hstall : Stored P s (if t.writesTo k line = [] then t else
      t.incBy (DMC_RAWSTALL pc) (Config.rawStall pc line (t.reg (DMC_RAWSTALL pc)).toNat).toNat) :=
    .ite (fun _ => h) fun _ => h.incBy (.inr (.inr (by unfold DMC_RAWSTALL; omega)))
  exact .ite (fun _ => h.inc (.inr (.inr (by unfold DMC_FWD; omega)))) fun _ => hstall.addLines.setBankQ

theorem Stored.lineEnter {line : Nat} {strobes : Option Nat} (h : Stored P s t) : Stored P s (t.lineEnter line strobes) := by
  unfold State.lineEnter
  refine .ite (fun _ => h) fun _ => ?_
  split
  · exact .ite (fun _ => h.queueWrite) fun _ => h.queueWrite.bankEmpty
  · exact .ite (fun _ => h.queueRead) fun _ => h.queueRead.bankEmpty

theorem Stored.lineCount {line : Nat} (h : Stored P s t) :
    Stored P s (if t.hbmIn line then t.pmc (384 + t.hbmPc line / 8) 1 else t.inc (DMC_OOR 0)) :=
  .ite (fun _ => h.pmc) fun _ => h.inc (by decide)

theorem mod_of_mem_linesOf {line : Nat} (h : line ∈ linesOf a n) : line % 64 = 0 := by
  unfold linesOf at h
  split at h
  · exact absurd h List.not_mem_nil
  · obtain ⟨i, -, rfl⟩ := List.mem_map.mp h
    omega

theorem Stored.noteRead (h : Stored P s t) : Stored P s (t.noteRead a n) := h.each fun u line hl hu => by
  dsimp only [State.noteLine]
  exact (hu.lineCount.beatsBack (mod_of_mem_linesOf hl)).lineEnter

theorem Stored.noteWrite {line : Nat} (h : Stored P s t) : Stored P s (t.noteWrite line a n false) := by
  dsimp only [State.noteWrite, State.when]
  rw [if_neg Bool.false_ne_true]
  exact h.lineCount.lineEnter

/-! ## Bytes written (R261, R266, R276) -/

/-- Other parity marks, where a line that was copied wrong says that no parity error retires. -/
theorem Stored.badBytes {bad : Tbl Nat} {d : DmcSt} (h : Stored P s t) (hw : t.dmc.wrong ≠ []) (hd : DmcKeeps t.dmc d) :
    Stored P s { t with hbmBad := bad, dmc := d } := by
  have hmap : SameMap t { t with hbmBad := bad, dmc := d } := fun _ _ => rfl
  have hfail : ∀ p < 256, State.pcFailed { t with hbmBad := bad, dmc := d } p = t.pcFailed p := fun p _ => by
    rw [State.pcFailed, State.pcFailed]
    dsimp only
    rw [hd.was]
    rfl
  exact h.trans ⟨mapStays_of h.stays rfl hd fun he => absurd he hw, rfl, hmap, hfail, fun _ _ => hbmByte_of hmap hfail rfl⟩

theorem Stored.hbmUnwrap (h : Stored P s t) : Stored P s (t.hbmUnwrap a) := by
  dsimp only [State.hbmUnwrap]
  split
  · next hw =>
    refine h.badBytes (fun hnone => ?_) ⟨rfl, rfl, rfl, rfl, id⟩
    rw [State.hbmWrong, hnone] at hw
    exact absurd hw Bool.false_ne_true
  · exact h

/-- A byte stored leaves every other byte. -/
theorem Stored.hbmPut {x : Byte} (h : Stored P s t) (hd : t.slotsApart) (ha : ∀ b, P b → b ≠ a) : Stored P s (t.hbmPut a x false) := by
  dsimp only [State.hbmPut]
  split
  · next hin =>
    obtain ⟨hin, -⟩ := Bool.and_eq_true_iff.mp hin
    have hun : Stored (fun _ => True) t (t.hbmUnwrap a) := (Stored.refl h.stays).hbmUnwrap
    generalize t.hbmUnwrap a = v at hun
    refine h.trans ⟨mapStays_of hun.stays rfl .refl fun _ he => ?_, hun.auto, hun.map, hun.failed, fun b hb => ?_⟩
    · show tset 0 v.hbmBad _ 0 = []
      rw [he]
      rfl
    · rw [← hun.byte b trivial]
      show (if v.hbmIn b && !v.pcFailed (v.hbmPc b) then tget 0 (tset 0 v.hbm (v.hbmKey a) x) (v.hbmKey b) else 0) = v.hbmByte b
      rw [State.hbmByte]
      cases hb' : v.hbmIn b with
      | false => rfl
      | true => rw [tget_tset_ne 0 _ _ fun he => ha b hb (hbmKey_inj (hun.map.slotsApart hd) hb' (hun.map.hbmIn.trans hin) he)]
  · exact h

theorem Stored.hbmPuts {bs : List Byte} (h : Stored P s t) (hd : t.slotsApart) (ha : ∀ b, P b → b < a ∨ a + bs.length ≤ b) :
    Stored P s (t.hbmPuts false a bs) := by
  induction bs generalizing t a with
  | nil => exact h
  | cons x bs ih =>
    have hone : Stored P t (t.hbmPut a x false) := (Stored.refl h.stays).hbmPut hd fun b hb => by
      have := ha b hb
      rw [List.length_cons] at this
      omega
    refine ih (h.trans hone) (hone.map.slotsApart hd) fun b hb => ?_
    have := ha b hb
    rw [List.length_cons] at this
    omega

theorem Stored.cleanMark (h : Stored P s t) : Stored P s (t.cleanMark a n) := h.each fun u line _ hu => by
  split
  · have hnone : (!u.dmc.sudden.isEmpty) = false := by
      rw [hu.stays.1]
      rfl
    rw [hnone, State.when, if_neg Bool.false_ne_true]
    exact hu.dmc ⟨rfl, rfl, rfl, rfl, id⟩
  · exact hu

theorem Stored.linesWritten {lines : List Nat} (h : Stored P s t) :
    Stored P s (t.each lines fun u line => u.noteWrite line a n false) := h.each fun _ _ _ hu => hu.noteWrite

/-- A write leaves every byte outside it. -/
theorem Stored.hbmWrite {bs : List Byte} (h : Stored P s t) (hd : t.slotsApart) (ha : ∀ b, P b → b < a ∨ a + bs.length ≤ b) :
    Stored P s (t.hbmWrite a bs) := by
  have hw : Stored P t (t.each (linesOf a bs.length) fun u line => u.noteWrite line a bs.length false) := (Stored.refl h.stays).linesWritten
  exact h.trans (hw.hbmPuts (hw.map.slotsApart hd) ha).cleanMark

/-! ## What a write gives -/

/-- The bytes from a lie in the map, in pseudo-channels that are not FAILED. -/
def State.hbmGood (s : State) (a n : Nat) : Prop := ∀ i < n, s.hbmIn (a + i) = true ∧ s.pcFailed (s.hbmPc (a + i)) = false

theorem Stored.good (h : Stored P s t) (hg : s.hbmGood a n) : t.hbmGood a n := fun i hi => by
  rw [h.map.hbmIn, h.map.hbmPc, h.failed _ hbmPc_lt]
  exact hg i hi

theorem hbmByte_hbmPut {x : Byte} (h : t.mapStays) (hin : t.hbmIn a = true) (hf : t.pcFailed (t.hbmPc a) = false) :
    (t.hbmPut a x false).hbmByte a = x := by
  have hgo : (t.hbmIn a && !t.pcFailed (t.hbmPc a)) = true := by
    rw [hin, hf]
    rfl
  have hun : Stored (fun _ => True) t (t.hbmUnwrap a) := (Stored.refl h).hbmUnwrap
  rw [State.hbmPut, if_pos hgo]
  generalize t.hbmUnwrap a = v at hun
  show (if v.hbmIn a && !v.pcFailed (v.hbmPc a) then tget 0 (tset 0 v.hbm (v.hbmKey a) x) (v.hbmKey a) else 0) = x
  rw [hun.map.hbmPc, hun.map.hbmIn, hun.failed _ hbmPc_lt, if_pos hgo, tget_tset_self]

theorem hbmByte_hbmPuts {bs : List Byte} (h : t.mapStays) (hd : t.slotsApart) (hg : t.hbmGood a bs.length) {i : Nat}
    (hi : i < bs.length) : (t.hbmPuts false a bs).hbmByte (a + i) = bs[i] := by
  induction bs generalizing t a i with
  | nil => exact absurd hi (Nat.not_lt_zero i)
  | cons x bs ih =>
    have hone : Stored (fun b => b ≠ a) t (t.hbmPut a x false) := (Stored.refl h).hbmPut hd fun _ hb => hb
    have hd1 := hone.map.slotsApart hd
    cases i with
    | zero =>
      have hrest : Stored (fun b => b = a) (t.hbmPut a x false) ((t.hbmPut a x false).hbmPuts false (a + 1) bs) :=
        (Stored.refl hone.stays).hbmPuts hd1 fun b hb => .inl (by omega)
      obtain ⟨hin, hf⟩ := hg 0 hi
      exact (hrest.byte a rfl).trans (hbmByte_hbmPut h hin hf)
    | succ i =>
      have hg1 : t.hbmGood (a + 1) bs.length := fun j hj => by
        rw [Nat.add_assoc, Nat.add_comm 1 j]
        exact hg (j + 1) (Nat.succ_lt_succ hj)
      have := ih hone.stays hd1 (hone.good hg1) (Nat.lt_of_succ_lt_succ hi)
      rw [Nat.add_assoc, Nat.add_comm 1 i] at this
      exact this

/-- The bytes of a write are read back. -/
theorem hbmBytes_hbmWrite {bs : List Byte} (h : t.mapStays) (hd : t.slotsApart) (hg : t.hbmGood a bs.length) :
    (t.hbmWrite a bs).hbmBytes a bs.length = bs := by
  have hw : Stored (fun _ => True) t (t.each (linesOf a bs.length) fun u line => u.noteWrite line a bs.length false) :=
    (Stored.refl h).linesWritten
  rw [State.hbmWrite]
  generalize t.each (linesOf a bs.length) (fun u line => u.noteWrite line a bs.length false) = v at hw
  have hputs : Stored (fun _ => False) v (v.hbmPuts false a bs) :=
    (Stored.refl hw.stays).hbmPuts (hw.map.slotsApart hd) fun _ hb => hb.elim
  have hmark : Stored (fun _ => True) (v.hbmPuts false a bs) ((v.hbmPuts false a bs).cleanMark a bs.length) :=
    (Stored.refl hputs.stays).cleanMark
  refine List.ext_getElem (by simp [State.hbmBytes]) fun i hi hi' => ?_
  simp only [State.hbmBytes, List.getElem_map, List.getElem_range]
  rw [hmark.byte _ trivial]
  exact hbmByte_hbmPuts hw.stays (hw.map.slotsApart hd) (hw.good hg) hi'

/-- Bytes with P read as before. -/
theorem Stored.bytes (h : Stored P s t) (ha : ∀ i < n, P (a + i)) : t.hbmBytes a n = s.hbmBytes a n :=
  List.map_congr_left fun i hi => h.byte _ (ha i (List.mem_range.mp hi))

end Sys2Proof.Machine
end
section
/-! SUPPORT. The settings of the contexts, in the Husk and in the drain map: what the drains' places and sums rest on reads the same in
states with the same settings (R117 to R122, R130, R134). -/

namespace Sys2Proof.Machine

variable {s t u : State} {c i m k : Nat}

/-- The registers of the Husk's tables, of the drain map and of the contexts are the same in s and t. -/
def SameTables (s t : State) : Prop := ∀ a, 0x820000 ≤ a → a < 0xA00000 → t.reg a = s.reg a

theorem SameTables.trans (h : SameTables s t) (g : SameTables t u) : SameTables s u :=
  fun a hlo hhi => (g a hlo hhi).trans (h a hlo hhi)

theorem Spills.tables (h : Spills s t) : SameTables s t := fun a hlo hhi => h.reg a (spillFree_ctx hlo hhi)

/-! ## A context's registers -/

theorem SameTables.ctxFget {f : Fld} (h : SameTables s t) (hc : c < 4096) (hf : f.addr = 0x900000 + k + 64 * c) (hk : k < 64) :
    t.fget f = s.fget f := fget_of_reg (h _ (by omega) (by omega))

theorem SameTables.ctxKind (h : SameTables s t) (hc : c < 4096) : t.ctxKind c = s.ctxKind c := h.ctxFget (k := 0) hc rfl (by decide)

theorem SameTables.ctxP (h : SameTables s t) (hc : c < 4096) : t.ctxP c = s.ctxP c := by
  rw [State.ctxP, State.ctxP, h.ctxFget (f := CTX_CFG_PassesMinus1 c) (k := 0) hc rfl (by decide)]

theorem SameTables.ctxGroups (h : SameTables s t) (hc : c < 4096) : t.ctxGroups c = s.ctxGroups c := by
  rw [State.ctxGroups, State.ctxGroups, h.ctxFget (f := CTX_CHAN_GroupsMinus1 c) (k := 0xC) hc rfl (by decide)]

theorem SameTables.ctxM (h : SameTables s t) (hc : c < 4096) : t.ctxM c = s.ctxM c := by
  rw [State.ctxM, State.ctxM, h.ctxFget (f := CTX_PATHS_CountMinus1 c) (k := 8) hc rfl (by decide)]

theorem SameTables.ctxBeams (h : SameTables s t) (hc : c < 4096) : t.ctxBeams c = s.ctxBeams c :=
  h.ctxFget (k := 0x14) hc rfl (by decide)

theorem SameTables.ctxEmit (h : SameTables s t) (hc : c < 4096) : t.ctxEmit c = s.ctxEmit c :=
  flag_of_fget (h.ctxFget (f := CTX_DEST_Emit c) (k := 0x28) hc rfl (by decide))

theorem SameTables.ctxNx (h : SameTables s t) (hc : c < 4096) : t.ctxNx c = s.ctxNx c := by
  rw [State.ctxNx, State.ctxNx, h.ctxKind hc, h.ctxM hc, h.ctxBeams hc]

/-! ## A context's registers in the Husk -/

theorem SameTables.huskFget {f : Fld} (h : SameTables s t) (hc : c < 4096) (hf : f.addr = 0x820000 + k + 32 * c) (hk : k < 32) :
    t.fget f = s.fget f := fget_of_reg (h _ (by omega) (by omega))

theorem SameTables.expected (h : SameTables s t) (hc : c < 4096) :
    t.fget (HUSK_DAUX_DrainsPerPgMinus1 c) = s.fget (HUSK_DAUX_DrainsPerPgMinus1 c) := h.huskFget (k := 0x1C) hc rfl (by decide)

theorem SameTables.chaffBits (h : SameTables s t) (hc : c < 4096) :
    t.fget (HUSK_DCFG_ChaffBits c) = s.fget (HUSK_DCFG_ChaffBits c) := h.huskFget (k := 0) hc rfl (by decide)

theorem SameTables.chaffHalf (h : SameTables s t) (hc : c < 4096) : t.chaffHalf c m = s.chaffHalf c m := by
  rw [State.chaffHalf, State.chaffHalf, h.chaffBits hc, h.huskFget (f := HUSK_DCHAFF_Base c) (k := 0x10) hc rfl (by decide)]

theorem SameTables.ctxS64 (h : SameTables s t) (hc : c < 4096) : t.ctxS64 c = s.ctxS64 c := by
  rw [State.ctxS64, State.ctxS64, flag_of_fget (h.ctxFget (f := CTX_CFG_SpillFmt c) (k := 0) hc rfl (by decide))]

theorem SameTables.valueBytes (h : SameTables s t) (hc : c < 4096) : t.valueBytes c = s.valueBytes c := by
  rw [State.valueBytes, State.valueBytes, State.ctxCplx, State.ctxCplx, h.ctxKind hc, h.ctxS64 hc]

theorem SameTables.elemAddr {e : Nat} (h : SameTables s t) (hc : c < 4096) : t.elemAddr c m e = s.elemAddr c m e := by
  rw [State.elemAddr, State.elemAddr, State.spillBuf, State.spillBuf, h.valueBytes hc,
    h.huskFget (f := HUSK_DSPILL_Base c) (k := 8) hc rfl (by decide), h.huskFget (f := HUSK_DBUFSZ_Size c) (k := 0xC) hc rfl (by decide)]

/-! ## The drain map -/

theorem SameTables.mapFget {f : Fld} (h : SameTables s t) (hi : i < 16384) (hf : f.addr = 0x840000 + k + 8 * i) (hk : k < 8) :
    t.fget f = s.fget f := fget_of_reg (h _ (by omega) (by omega))

theorem SameTables.rowBase (h : SameTables s t) (hi : i < 16384) :
    t.fget (HUSK_MAP_HI_RowOrBeamBase i) = s.fget (HUSK_MAP_HI_RowOrBeamBase i) := h.mapFget (k := 4) hi rfl (by decide)

theorem SameTables.colBase (h : SameTables s t) (hi : i < 16384) :
    t.fget (HUSK_MAP_LO_ColBaseOrFrameBase i) = s.fget (HUSK_MAP_LO_ColBaseOrFrameBase i) := h.mapFget (k := 0) hi rfl (by decide)

theorem SameTables.frames (h : SameTables s t) (hi : i < 16384) :
    t.fget (HUSK_MAP_LO_FramesMinus1 i) = s.fget (HUSK_MAP_LO_FramesMinus1 i) := h.mapFget (k := 0) hi rfl (by decide)

end Sys2Proof.Machine
end
section
/-! SUPPORT. What the spill, the mark bytes and the chaff leave of HBM and store there (R122 to R126, R133 to R137). -/

namespace Sys2Proof.Machine

variable {s t u : State} {c m g a b : Nat} {P : Nat → Prop}

theorem Stored.same (h : Stored P s t) (hr : u.regs = t.regs) (hd : u.dmc = t.dmc) (hh : u.hbm = t.hbm) (hb : u.hbmBad = t.hbmBad) :
    Stored P s u :=
  h.step (fun _ _ _ _ => reg_of_regs hr) (hd ▸ .refl) hh hb

theorem Stored.setHusk {x : Option HuskCtx} (h : Stored P s t) : Stored P s (t.setHusk c x) := h.same rfl rfl rfl rfl

/-! ## The chaff region -/

/-- No byte with P lies in the half of the chaff region of integration m: its mark bytes and its buckets. -/
def State.offChaff (s : State) (c m : Nat) (P : Nat → Prop) : Prop :=
  ∀ b, P b → b < s.chaffHalf c m ∨ s.chaffHalf c m + 8192 + 64 * 2 ^ s.fget (HUSK_DCFG_ChaffBits c) ≤ b

theorem SameTables.offChaff (h : SameTables s t) (hc : c < 4096) (ho : s.offChaff c m P) : t.offChaff c m P := by
  unfold State.offChaff
  rw [h.chaffHalf hc, h.chaffBits hc]
  exact ho

/-- Where an access of the spill may begin: no retirement is due, each pseudo-channel stands in one slot and the bytes with P lie
off the chaff region. -/
structure SpillReady (P : Nat → Prop) (c m : Nat) (s : State) : Prop where
  stays : s.mapStays
  apart : s.slotsApart
  off : s.offChaff c m P

theorem SpillReady.after (h : SpillReady P c m s) (hc : c < 4096) (hs : Spills s t) (ht : Stored P s t) : SpillReady P c m t :=
  ⟨ht.stays, ht.map.slotsApart h.apart, hs.tables.offChaff hc h.off⟩

/-- A mark byte is written. -/
theorem stored_markByte {x : Byte} (h : SpillReady P c m s) (hg : g < 8192) : Stored P s (s.hbmWrite (s.chaffHalf c m + g) [x]) :=
  (Stored.refl h.stays).hbmWrite h.apart fun b hb => by
    have := h.off b hb
    simp only [List.length_singleton]
    omega

theorem stored_markOr {k : Nat} (h : SpillReady P c m s) (hg : g < 8192) : Stored P s (s.markOr (s.chaffHalf c m + g) k) := by
  have hread : Stored P s (s.noteRead (s.chaffHalf c m + g) 1) := (Stored.refl h.stays).noteRead
  refine hread.hbmWrite (hread.map.slotsApart h.apart) fun b hb => ?_
  have := h.off b hb
  simp only [List.length_singleton]
  omega

theorem stored_markGroup {k : Nat} (h : SpillReady P c m s) (hg : g < 8192) : Stored P s (s.markGroup c m g k) := by
  have hrefl : Stored P s s := .refl h.stays
  unfold State.markGroup
  split
  · next x _ =>
    refine .ite (fun _ => hrefl.setHusk) fun _ => .ite (fun _ => ?_) fun _ => .ite (fun _ => hrefl) fun _ => stored_markOr h hg
    have hset : Stored P s (s.setHusk c (some { x with written := tset 0 x.written g 1 })) := hrefl.setHusk
    exact hset.trans (stored_markByte (s := s.setHusk c (some { x with written := tset 0 x.written g 1 })) ⟨hset.stays, h.apart, h.off⟩ hg)
  · exact .ite (fun _ => hrefl) fun _ => stored_markOr h hg

theorem SpillReady.huskReg {v : BitVec 32} (h : SpillReady P c m s) (ha : a < 0x820000) : SpillReady P c m (s.setReg a v) := by
  have hst : Stored P s (s.setReg a v) := (Stored.refl h.stays).setReg (.inl (by omega))
  refine ⟨hst.stays, hst.map.slotsApart h.apart, ?_⟩
  have hf {f : Fld} {k : Nat} (hf : f.addr = 0x820000 + k + 32 * c) : (s.setReg a v).fget f = s.fget f :=
    fget_setReg_ne (by omega)
  have hoff := h.off
  unfold State.offChaff State.chaffHalf at hoff ⊢
  rw [hf (f := HUSK_DCFG_ChaffBits c) (k := 0) rfl, hf (f := HUSK_DCHAFF_Base c) (k := 0x10) rfl]
  exact hoff

theorem stored_spillParity {bad : Bool} (h : SpillReady P c m s) (hg : g < 8192) : Stored P s (s.spillParity c m g bad) := by
  unfold State.spillParity State.when
  split
  · have hinc : Stored P s (s.inc HUSK_PARITY) := (Stored.refl h.stays).inc (by decide)
    exact hinc.trans (stored_markGroup (h.huskReg (by decide)) hg)
  · exact .refl h.stays

/-- A read of the spill or the chaff with the mark of a parity error. -/
theorem stored_read {n : Nat} {bad : Bool} (hc : c < 4096) (h : SpillReady P c m s) (hg : g < 8192) :
    Stored P s ((s.noteRead a n).spillParity c m g bad) := by
  have hread : Stored P s (s.noteRead a n) := (Stored.refl h.stays).noteRead
  exact hread.trans (stored_spillParity (h.after hc Spills.refl.noteRead hread) hg)

/-! ## Chaff records -/

theorem chaffBucket_lt {bits x : Nat} (hb : bits ≤ 32) : chaffBucket bits g x < 2 ^ bits := by
  have hp : 2 ^ bits * 2 ^ (32 - bits) = 2 ^ 32 := by rw [← Nat.pow_add, Nat.add_sub_cancel' hb]
  rw [chaffBucket, Nat.div_lt_iff_lt_mul (Nat.two_pow_pos _), hp]
  exact Nat.mod_lt _ (Nat.two_pow_pos 32)

theorem chaffLive_length_le : (s.chaffLive c m b).length ≤ 4 := by
  unfold State.chaffLive
  split
  · exact Nat.zero_le 4
  · exact (List.length_filterMap_le _ _).trans (by simp)

theorem chaffInsert_length {k : Nat × Nat × Nat} {l : List (Nat × Nat × Nat)} : (chaffInsert k l).length = l.length + 1 := by
  induction l with
  | nil => rfl
  | cons e l ih =>
    unfold chaffInsert
    split
    · rfl
    · rw [List.length_cons, ih, List.length_cons]

/-- The bytes of a bucket with these records. -/
def chaffBody (m : Nat) (l : List (Nat × Nat × Nat)) : List Byte :=
  let body := l.flatMap fun e => leBytes 16 (chaffRecord m e.1 e.2.1 e.2.2)
  body ++ List.replicate (64 - body.length) 0

theorem chaffBody_length {l : List (Nat × Nat × Nat)} (hl : l.length ≤ 4) : (chaffBody m l).length = 64 := by
  have hlen : (l.flatMap fun e => leBytes 16 (chaffRecord m e.1 e.2.1 e.2.2)).length = 16 * l.length := by
    rw [List.length_flatMap]
    simp [leBytes_length, Nat.mul_comm]
  rw [chaffBody, List.length_append, List.length_replicate, hlen]
  omega

/-- The records of bucket b, which stands at a, are written again. -/
def State.chaffPut (s : State) (c m b a : Nat) (l : List (Nat × Nat × Nat)) : State :=
  let t := s.hbmWrite a (chaffBody m l)
  ((if t.chaffOld c m b then t.chaffNew c m b else t).inc HUSK_CHAFFINS).pmc 275 1

theorem stored_chaffPut {l : List (Nat × Nat × Nat)} (h : SpillReady P c m s) (hb : b < 2 ^ s.fget (HUSK_DCFG_ChaffBits c))
    (ha : a = s.chaffHalf c m + 8192 + 64 * b) (hl : l.length ≤ 4) : Stored P s (s.chaffPut c m b a l) := by
  rw [State.chaffPut]
  have hw : Stored P s (s.hbmWrite a (chaffBody m l)) :=
    (Stored.refl h.stays).hbmWrite h.apart fun x hx => by
      have := h.off x hx
      rw [chaffBody_length hl]
      omega
  generalize s.hbmWrite a (chaffBody m l) = t at hw
  have hnew : Stored P s (if t.chaffOld c m b then t.chaffNew c m b else t) := .ite (fun _ => hw.same rfl rfl rfl rfl) fun _ => hw
  generalize (if t.chaffOld c m b then t.chaffNew c m b else t) = u at hnew
  exact (hnew.inc (a := HUSK_CHAFFINS) (by decide)).pmc

theorem chaffAdd_eq {x d : Nat} : s.chaffAdd c m g x d =
    let b := chaffBucket (s.fget (HUSK_DCFG_ChaffBits c)) g x
    let a := s.chaffHalf c m + 8192 + 64 * b
    let u := (s.noteRead a 64).spillParity c m g (s.hbmAnyBad a 64)
    let live := s.chaffLive c m b
    if live.any fun e => decide (e.1 = g) && decide (e.2.1 = x) then
      u.chaffPut c m b a (live.map fun e => if e.1 = g ∧ e.2.1 = x then (e.1, e.2.1, min (2 ^ 32 - 1) (e.2.2 + d)) else e)
    else if live.length < 4 then u.chaffPut c m b a (chaffInsert (g, x, d) live)
    else ((u.inc HUSK_CHAFFOVF).fset HUSK_STATUS_ChaffFull 1).markGroup c m g 8 := rfl

theorem chaffBits_le : s.fget (HUSK_DCFG_ChaffBits c) ≤ 32 :=
  Nat.le_of_lt (Nat.mod_lt _ (Nat.two_pow_pos 5))

theorem stored_chaffAdd {x d : Nat} (hc : c < 4096) (h : SpillReady P c m s) (hg : g < 8192) : Stored P s (s.chaffAdd c m g x d) := by
  rw [chaffAdd_eq]
  extract_lets b a u live
  have hu : Stored P s u := stored_read hc h hg
  have hset : Spills s u := Spills.refl.noteRead.spillParity
  have hready : SpillReady P c m u := h.after hc hset hu
  have hb : b < 2 ^ u.fget (HUSK_DCFG_ChaffBits c) := by
    rw [hset.tables.chaffBits hc]
    exact chaffBucket_lt chaffBits_le
  have ha : a = u.chaffHalf c m + 8192 + 64 * b := by rw [hset.tables.chaffHalf hc]
  have hlive : live.length ≤ 4 := chaffLive_length_le
  clear_value u live
  refine .ite (fun _ => hu.trans (stored_chaffPut hready hb ha ?_)) fun _ => .ite (fun hlt => hu.trans (stored_chaffPut hready hb ha ?_))
    fun _ => hu.trans ?_
  · rw [List.length_map]
    exact hlive
  · rw [chaffInsert_length]
    omega
  · have hfull : Stored P u ((u.inc HUSK_CHAFFOVF).fset HUSK_STATUS_ChaffFull 1) :=
      ((Stored.refl hready.stays).inc (by decide)).fset (.inl (by decide))
    exact hfull.trans (stored_markGroup ((hready.huskReg (by decide)).huskReg (by decide)) hg)

theorem stored_deficit {x full cnt : Nat} (hc : c < 4096) (h : SpillReady P c m s) (hg : g < 8192) :
    Stored P s (s.deficit c m g x full cnt) :=
  .ite (fun _ => stored_chaffAdd hc h hg) fun _ => .refl h.stays

/-! ## Values (R122 to R126) -/

/-- The bytes of stored words. -/
def wordBytes (l : List Nat) : List Byte := l.flatMap fun w => leBytes 4 w

theorem wordBytes_length {l : List Nat} : (wordBytes l).length = 4 * l.length := by
  rw [wordBytes, List.length_flatMap]
  simp [leBytes_length, Nat.mul_comm]

theorem spillWords_length {first s64 : Bool} {old : List Nat} {v w x y : Nat} :
    (spillWords first s64 old [v, w] [x, y]).length = if s64 then 4 else 2 := by
  cases s64 <;> cases first <;> rfl

/-- The first contribution takes nothing of what is stored. -/
theorem spillWords_first {s64 : Bool} {old vals us : List Nat} : spillWords true s64 old vals us = spillWords true s64 [] vals us := by
  simp only [spillWords, if_true]

/-- What the state is before a contribution is written. -/
def State.spillRead (s : State) (c n g a : Nat) (first : Bool) (words : Nat) : State :=
  if first then s else (s.noteRead a (4 * words)).spillParity c n g (!first && s.hbmAnyBad a (4 * words))

theorem spillPut_eq {first : Bool} {v w x y : Nat} : s.spillPut c m g a first [v, w] [x, y] =
    (s.spillRead c m g a first (2 * if s.ctxS64 c then 2 else 1)).hbmWrite a (wordBytes (spillWords first (s.ctxS64 c)
      (if first then [] else s.hbmWords a (2 * if s.ctxS64 c then 2 else 1)) [v, w] [x, y])) := rfl

theorem stored_spillRead {first : Bool} {n : Nat} (hc : c < 4096) (h : SpillReady P c m s) (hg : g < 8192) :
    Stored P s (s.spillRead c m g a first n) :=
  .ite (fun _ => .refl h.stays) fun _ => stored_read hc h hg

theorem valueBytes_of_corr (hk : s.ctxKind c ≤ 1) : s.valueBytes c = if s.ctxS64 c then 16 else 8 := by
  rw [State.valueBytes, State.ctxCplx, decide_eq_true hk, if_pos rfl]
  split <;> rfl

theorem spilled_length {first : Bool} {old : List Nat} {v w x y : Nat} (hk : s.ctxKind c ≤ 1) :
    (wordBytes (spillWords first (s.ctxS64 c) old [v, w] [x, y])).length = s.valueBytes c := by
  rw [wordBytes_length, spillWords_length, valueBytes_of_corr hk]
  split <;> rfl

/-- A contribution leaves the bytes outside its element. -/
theorem stored_spillPut {first : Bool} {v w x y : Nat} (hc : c < 4096) (hk : s.ctxKind c ≤ 1) (h : SpillReady P c m s) (hg : g < 8192)
    (ha : ∀ b, P b → b < a ∨ a + s.valueBytes c ≤ b) : Stored P s (s.spillPut c m g a first [v, w] [x, y]) := by
  rw [spillPut_eq]
  have hr : Stored P s (s.spillRead c m g a first (2 * if s.ctxS64 c then 2 else 1)) := stored_spillRead hc h hg
  refine hr.hbmWrite (hr.map.slotsApart h.apart) fun b hb => ?_
  rw [spilled_length hk]
  exact ha b hb

/-- An element holds after a contribution what the sums of R123 to R126 make of what it held. -/
theorem hbmBytes_spillPut {first : Bool} {v w x y : Nat} (hc : c < 4096) (hk : s.ctxKind c ≤ 1) (h : SpillReady P c m s) (hg : g < 8192)
    (hgood : s.hbmGood a (s.valueBytes c)) : (s.spillPut c m g a first [v, w] [x, y]).hbmBytes a (s.valueBytes c) =
      wordBytes (spillWords first (s.ctxS64 c) (s.hbmWords a (s.valueBytes c / 4)) [v, w] [x, y]) := by
  have hr : Stored P s (s.spillRead c m g a first (2 * if s.ctxS64 c then 2 else 1)) := stored_spillRead hc h hg
  have hwords : (2 * if s.ctxS64 c then 2 else 1) = s.valueBytes c / 4 := by
    rw [valueBytes_of_corr hk]
    split <;> rfl
  have hold : spillWords first (s.ctxS64 c) (if first then [] else s.hbmWords a (s.valueBytes c / 4)) [v, w] [x, y] =
      spillWords first (s.ctxS64 c) (s.hbmWords a (s.valueBytes c / 4)) [v, w] [x, y] := by
    cases first with
    | true => exact spillWords_first.symm
    | false => rfl
  have hlen := spilled_length (first := first) (old := s.hbmWords a (s.valueBytes c / 4)) (v := v) (w := w) (x := x) (y := y) hk
  rw [spillPut_eq]
  generalize s.spillRead c m g a first (2 * if s.ctxS64 c then 2 else 1) = u at hr
  rw [hwords, hold]
  generalize wordBytes (spillWords first (s.ctxS64 c) (s.hbmWords a (s.valueBytes c / 4)) [v, w] [x, y]) = bytes at hlen
  rw [← hlen] at hgood ⊢
  exact hbmBytes_hbmWrite hr.stays (hr.map.slotsApart h.apart) (hr.good hgood)

end Sys2Proof.Machine
end
section
/-! SUPPORT. A correlation drain enters the spill value by value (R118, R119, R127): the values discarded, the draws and the bytes of
each element. -/

namespace Sys2Proof.Machine

variable {s t : State} {c g m k col e : Nat} {ents : List Nat} {d : DrainRec} {first : Bool} {P : Nat → Prop}

/-! ## The element of a value -/

/-- The map entries of a drain stand in the map. -/
def entriesIn (ents : List Nat) : Prop := ∀ i, ents.getD i 0 < 16384

theorem entriesIn_of_map (h : s.mapEntries c d = some ents) : entriesIn ents := by
  have hidx : s.mapIndex c d < 16384 := Nat.mod_lt _ (by decide)
  have hall : ∀ x ∈ ents, x < 16384 := by
    unfold State.mapEntries at h
    extract_lets idx l at h
    split at h
    · intro x hx
      rw [← Option.some.inj h] at hx
      change x ∈ (if d.beam then [idx] else _) at hx
      split at hx
      · rw [List.mem_singleton.mp hx]
        exact hidx
      · obtain ⟨i, -, rfl⟩ := List.mem_map.mp hx
        exact Nat.mod_lt _ (by decide)
    · exact absurd h nofun
  intro i
  rw [List.getD_eq_getElem?_getD]
  cases hi : ents[i]? with
  | none => exact Nat.zero_lt_succ _
  | some x => exact hall x (List.mem_of_getElem? hi)

/-- The index of the value of step k and logical column col in its group. -/
def State.corrIndex (s : State) (c : Nat) (ents : List Nat) (d : DrainRec) (k col : Nat) : Nat :=
  let q := ents.getD (k % d.slots / 4) 0
  let i := s.fget (HUSK_MAP_HI_RowOrBeamBase q) + (31 - k / d.slots)
  let j := s.fget (HUSK_MAP_LO_ColBaseOrFrameBase q) % 4096 + col
  if s.ctxKind c = 1 then i else j * (j + 1) / 2 + i

theorem SameTables.corrElem (h : SameTables s t) (hc : c < 4096) (hents : entriesIn ents) :
    t.corrElem c g ents d k col = s.corrElem c g ents d k col := by
  dsimp only [State.corrElem]
  rw [h.rowBase (hents _), h.colBase (hents _), h.ctxM hc, h.ctxKind hc, h.ctxNx hc]

theorem corrElem_eq (h : s.corrElem c g ents d k col = some e) :
    e = (g * s.ctxNx c + s.corrIndex c ents d k col) * 4 + k % d.slots % 4 := by
  dsimp only [State.corrElem] at h
  split at h
  · exact absurd h nofun
  · exact (Option.some.inj h).symm

/-! ## One value -/

/-- The deficit of a value of the first channel of its slot group enters the chaff. -/
def State.corrDeficit (s : State) (c g m : Nat) (ents : List Nat) (d : DrainRec) (k col : Nat) : State :=
  if k % d.slots % 4 = 0 then
    s.deficit c m g (s.corrIndex c ents d k col) (s.ctxT c) (d.bank.cell (k % d.slots) (31 - k / d.slots) col).cnt
  else s

theorem spills_corrDeficit : Spills s (s.corrDeficit c g m ents d k col) := .ite (fun _ => Spills.refl.deficit) fun _ => .refl

/-- The parts of the value of step k and logical column col. -/
def corrParts (d : DrainRec) (k col : Nat) : List Nat :=
  [fOfInt (d.bank.cell (k % d.slots) (31 - k / d.slots) col).re, fOfInt (d.bank.cell (k % d.slots) (31 - k / d.slots) col).im]

theorem corrValue_none {a : SpillAcc} (h : a.s.corrElem c g ents d k col = none) :
    corrValue c g m first ents d a k col = { a with rng := xorshift (xorshift a.rng), disc := a.disc + 1 } := by
  dsimp only [State.corrElem] at h
  split at h
  · next hout =>
    simp only [corrValue, decide_eq_true_eq]
    exact if_pos hout
  · exact absurd h nofun

/-- A value that is kept: its deficit enters first, then its parts. -/
theorem corrValue_some {a : SpillAcc} (hc : c < 4096) (h : a.s.corrElem c g ents d k col = some e) : ∃ lines,
    corrValue c g m first ents d a k col = ⟨(a.s.corrDeficit c g m ents d k col).spillPut c m g (a.s.elemAddr c m e) first
      (corrParts d k col) [xorshift a.rng, xorshift (xorshift a.rng)], xorshift (xorshift a.rng), a.disc, lines⟩ := by
  have hset : SameTables a.s (a.s.corrDeficit c g m ents d k col) := spills_corrDeficit.tables
  have haddr : a.s.elemAddr c m e = (a.s.corrDeficit c g m ents d k col).elemAddr c m
      ((g * (a.s.corrDeficit c g m ents d k col).ctxNx c + a.s.corrIndex c ents d k col) * 4 + k % d.slots % 4) := by
    rw [hset.elemAddr hc, hset.ctxNx hc, corrElem_eq h]
  rw [haddr]
  dsimp only [State.corrElem] at h
  split at h
  · exact absurd h nofun
  · next hin =>
    simp only [corrValue, decide_eq_true_eq]
    rw [if_neg hin]
    exact ⟨_, rfl⟩

/-! ## All values, in step order (R107) -/

/-- The values of a list of steps and columns, one after another. -/
def corrRun (c g m : Nat) (first : Bool) (ents : List Nat) (d : DrainRec) (a : SpillAcc) (l : List (Nat × Nat)) : SpillAcc :=
  l.foldl (fun a e => corrValue c g m first ents d a e.1 e.2) a

theorem spills_corrValue {a : SpillAcc} (hc : c < 4096) : Spills a.s (corrValue c g m first ents d a k col).s := by
  cases h : a.s.corrElem c g ents d k col with
  | none =>
    rw [corrValue_none h]
    exact .refl
  | some e =>
    obtain ⟨lines, heq⟩ := corrValue_some (m := m) (first := first) hc h
    rw [heq]
    exact spills_corrDeficit.spillPut

theorem corrValue_rng {a : SpillAcc} (hc : c < 4096) : (corrValue c g m first ents d a k col).rng = xorshift (xorshift a.rng) := by
  cases h : a.s.corrElem c g ents d k col with
  | none => rw [corrValue_none h]
  | some e =>
    obtain ⟨lines, heq⟩ := corrValue_some (m := m) (first := first) hc h
    rw [heq]

theorem corrValue_disc {a : SpillAcc} (hc : c < 4096) : (corrValue c g m first ents d a k col).disc =
    a.disc + if a.s.corrElem c g ents d k col = none then 1 else 0 := by
  cases h : a.s.corrElem c g ents d k col with
  | none => rw [corrValue_none h, if_pos rfl]
  | some e =>
    obtain ⟨lines, heq⟩ := corrValue_some (m := m) (first := first) hc h
    rw [heq, if_neg nofun]
    rfl

theorem spills_corrRun {a : SpillAcc} {l : List (Nat × Nat)} (hc : c < 4096) : Spills a.s (corrRun c g m first ents d a l).s := by
  induction l generalizing a with
  | nil => exact .refl
  | cons x l ih => exact (spills_corrValue hc).trans ih

/-- The values that R119 discards are counted. -/
theorem corrRun_disc {a : SpillAcc} {l : List (Nat × Nat)} (hc : c < 4096) (hents : entriesIn ents) (hs : SameTables s a.s) :
    (corrRun c g m first ents d a l).disc = a.disc + (l.filter fun e => s.corrElem c g ents d e.1 e.2 = none).length := by
  induction l generalizing a with
  | nil => rfl
  | cons x l ih =>
    have hnext : SameTables s (corrValue c g m first ents d a x.1 x.2).s := hs.trans (spills_corrValue hc).tables
    refine (ih hnext).trans ?_
    rw [corrValue_disc hc, hs.corrElem hc hents, List.filter_cons]
    by_cases hx : s.corrElem c g ents d x.1 x.2 = none
    · rw [if_pos hx, if_pos (decide_eq_true hx), List.length_cons]
      omega
    · rw [if_neg hx, if_neg (by simpa using hx)]
      rfl

theorem batchDraw_succ {lane w idx j : Nat} : s.batchDraw lane w idx c (j + 1) = xorshift (s.batchDraw lane w idx c j) := by
  rw [State.batchDraw, List.range_succ, List.foldl_append]
  rfl

/-- Each value takes two draws of the batch. -/
theorem corrRun_rng {a : SpillAcc} {l : List (Nat × Nat)} {lane w idx j : Nat} (hc : c < 4096) (hr : a.rng = s.batchDraw lane w idx c j) :
    (corrRun c g m first ents d a l).rng = s.batchDraw lane w idx c (j + 2 * l.length) := by
  induction l generalizing a j with
  | nil => exact hr
  | cons x l ih =>
    have hnext : (corrValue c g m first ents d a x.1 x.2).rng = s.batchDraw lane w idx c (j + 2) := by
      rw [corrValue_rng hc, hr, ← batchDraw_succ, ← batchDraw_succ]
    refine (ih hnext).trans ?_
    rw [List.length_cons]
    congr 1
    omega

/-! ## The bytes of an element -/

/-- The bytes of the element of a value that is kept. -/
def State.elemByte (s : State) (c m e b : Nat) : Prop := s.elemAddr c m e ≤ b ∧ b < s.elemAddr c m e + s.valueBytes c

theorem stored_corrDeficit (hc : c < 4096) (h : SpillReady P c m s) (hg : g < 8192) : Stored P s (s.corrDeficit c g m ents d k col) :=
  .ite (fun _ => stored_deficit hc h hg) fun _ => .refl h.stays

theorem stored_corrValue {a : SpillAcc} (hc : c < 4096) (hk : a.s.ctxKind c ≤ 1) (h : SpillReady P c m a.s) (hg : g < 8192)
    (hoff : ∀ x, a.s.corrElem c g ents d k col = some x → ∀ b, P b → ¬ a.s.elemByte c m x b) :
    Stored P a.s (corrValue c g m first ents d a k col).s := by
  cases he : a.s.corrElem c g ents d k col with
  | none =>
    rw [corrValue_none he]
    exact .refl h.stays
  | some e =>
    obtain ⟨lines, heq⟩ := corrValue_some (m := m) (first := first) hc he
    rw [heq]
    have hset : Spills a.s (a.s.corrDeficit c g m ents d k col) := spills_corrDeficit
    have hdef : Stored P a.s (a.s.corrDeficit c g m ents d k col) := stored_corrDeficit hc h hg
    refine hdef.trans (stored_spillPut hc (hset.tables.ctxKind hc ▸ hk) (h.after hc hset hdef) hg fun b hb => ?_)
    have := hoff e he b hb
    rw [hset.tables.valueBytes hc]
    unfold State.elemByte at this
    omega

/-- Values of other elements leave the bytes of an element. -/
theorem stored_corrRun {a : SpillAcc} {l : List (Nat × Nat)} (hc : c < 4096) (hents : entriesIn ents) (hk : a.s.ctxKind c ≤ 1)
    (h : SpillReady P c m a.s) (hg : g < 8192)
    (hoff : ∀ x ∈ l, ∀ y, a.s.corrElem c g ents d x.1 x.2 = some y → ∀ b, P b → ¬ a.s.elemByte c m y b) :
    Stored P a.s (corrRun c g m first ents d a l).s := by
  induction l generalizing a with
  | nil => exact .refl h.stays
  | cons x l ih =>
    have hone : Stored P a.s (corrValue c g m first ents d a x.1 x.2).s :=
      stored_corrValue hc hk h hg (hoff x List.mem_cons_self)
    have hset : Spills a.s (corrValue c g m first ents d a x.1 x.2).s := spills_corrValue hc
    refine hone.trans (ih (hset.tables.ctxKind hc ▸ hk) (h.after hc hset hone) fun y hy z hz b hb => ?_)
    rw [hset.tables.corrElem hc hents] at hz
    unfold State.elemByte
    rw [hset.tables.elemAddr hc, hset.tables.valueBytes hc]
    exact hoff y (List.mem_cons_of_mem _ hy) z hz b hb

theorem Stored.words {b n : Nat} (h : Stored P s t) (hb : ∀ i < 4 * n, P (b + i)) : t.hbmWords b n = s.hbmWords b n := by
  refine List.map_congr_left fun i hi => congrArg ofLe (h.bytes fun j hj => ?_)
  have hi : i < n := List.mem_range.mp hi
  rw [Nat.add_assoc]
  exact hb _ (by omega)

theorem elemByte_add {i : Nat} (hi : i < s.valueBytes c) : s.elemByte c m e (s.elemAddr c m e + i) :=
  ⟨Nat.le_add_right _ _, Nat.add_lt_add_left hi _⟩

/-- The bytes of an element after a value that is kept there. -/
theorem corrValue_bytes {a : SpillAcc} (hc : c < 4096) (hk : a.s.ctxKind c ≤ 1) (hg : g < 8192)
    (he : a.s.corrElem c g ents d k col = some e) (h : SpillReady (a.s.elemByte c m e) c m a.s)
    (hgood : a.s.hbmGood (a.s.elemAddr c m e) (a.s.valueBytes c)) :
    (corrValue c g m first ents d a k col).s.hbmBytes (a.s.elemAddr c m e) (a.s.valueBytes c) =
      wordBytes (spillWords first (a.s.ctxS64 c) (a.s.hbmWords (a.s.elemAddr c m e) (a.s.valueBytes c / 4)) (corrParts d k col)
        [xorshift a.rng, xorshift (xorshift a.rng)]) := by
  obtain ⟨lines, heq⟩ := corrValue_some (m := m) (first := first) hc he
  have hset : Spills a.s (a.s.corrDeficit c g m ents d k col) := spills_corrDeficit
  have hdef : Stored (a.s.elemByte c m e) a.s (a.s.corrDeficit c g m ents d k col) := stored_corrDeficit hc h hg
  have hwords := hdef.words (b := a.s.elemAddr c m e) (n := a.s.valueBytes c / 4) fun i hi => elemByte_add (by omega)
  have hbytes := hbmBytes_spillPut (first := first) (v := fOfInt (d.bank.cell (k % d.slots) (31 - k / d.slots) col).re)
    (w := fOfInt (d.bank.cell (k % d.slots) (31 - k / d.slots) col).im) (x := xorshift a.rng) (y := xorshift (xorshift a.rng)) hc
    (hset.tables.ctxKind hc ▸ hk) (h.after hc hset hdef) hg (hset.tables.valueBytes hc ▸ hdef.good hgood)
  rw [hset.tables.valueBytes hc, hset.tables.ctxS64 hc, hwords] at hbytes
  rw [heq]
  exact hbytes

/-- The bytes of the element of one value after the whole drain: what this value makes of what they held. -/
theorem corrRun_bytes {a : SpillAcc} {l r : List (Nat × Nat)} (hc : c < 4096) (hents : entriesIn ents) (hk : a.s.ctxKind c ≤ 1)
    (hg : g < 8192) (he : a.s.corrElem c g ents d k col = some e) (h : SpillReady (a.s.elemByte c m e) c m a.s)
    (hgood : a.s.hbmGood (a.s.elemAddr c m e) (a.s.valueBytes c))
    (hoff : ∀ x ∈ l ++ r, ∀ y, a.s.corrElem c g ents d x.1 x.2 = some y → ∀ b, a.s.elemByte c m e b → ¬ a.s.elemByte c m y b) :
    (corrRun c g m first ents d a (l ++ (k, col) :: r)).s.hbmBytes (a.s.elemAddr c m e) (a.s.valueBytes c) =
      wordBytes (spillWords first (a.s.ctxS64 c) (a.s.hbmWords (a.s.elemAddr c m e) (a.s.valueBytes c / 4)) (corrParts d k col)
        [xorshift (corrRun c g m first ents d a l).rng, xorshift (xorshift (corrRun c g m first ents d a l).rng)]) := by
  have hmem (x : Nat × Nat) (hx : x ∈ l ∨ x ∈ r) := hoff x (List.mem_append.mpr hx)
  have hset : Spills a.s (corrRun c g m first ents d a l).s := spills_corrRun hc
  have hpre : Stored (a.s.elemByte c m e) a.s (corrRun c g m first ents d a l).s :=
    stored_corrRun hc hents hk h hg fun x hx => hmem x (.inl hx)
  have hready := h.after hc hset hpre
  have hrun : corrRun c g m first ents d a (l ++ (k, col) :: r) =
      corrRun c g m first ents d (corrValue c g m first ents d (corrRun c g m first ents d a l) k col) r := List.foldl_append
  have hwords := hpre.words (b := a.s.elemAddr c m e) (n := a.s.valueBytes c / 4) fun i hi => elemByte_add (by omega)
  have haddr : (corrRun c g m first ents d a l).s.elemAddr c m e = a.s.elemAddr c m e := hset.tables.elemAddr hc
  have hvb : (corrRun c g m first ents d a l).s.valueBytes c = a.s.valueBytes c := hset.tables.valueBytes hc
  have hsame : (corrRun c g m first ents d a l).s.elemByte c m = a.s.elemByte c m := by
    funext y b
    rw [State.elemByte, State.elemByte, hset.tables.elemAddr hc, hvb]
  have hkind : (corrRun c g m first ents d a l).s.ctxKind c ≤ 1 := hset.tables.ctxKind hc ▸ hk
  have hone := corrValue_bytes (a := corrRun c g m first ents d a l) (first := first) hc hkind hg
    ((hset.tables.corrElem hc hents).trans he) (hsame ▸ hready) (by rw [haddr, hvb]; exact hpre.good hgood)
  rw [haddr, hvb, hset.tables.ctxS64 hc, hwords] at hone
  generalize corrRun c g m first ents d a l = A at *
  have hnext : Spills A.s (corrValue c g m first ents d A k col).s := spills_corrValue hc
  have hall : Spills a.s (corrValue c g m first ents d A k col).s := hset.trans hnext
  have hfree : Stored (fun _ => False) A.s (corrValue c g m first ents d A k col).s :=
    stored_corrValue hc hkind ⟨hready.stays, hready.apart, fun _ hb => hb.elim⟩ hg fun _ _ _ hb => hb.elim
  have hpost : Stored (a.s.elemByte c m e) (corrValue c g m first ents d A k col).s
      (corrRun c g m first ents d (corrValue c g m first ents d A k col) r).s := by
    refine stored_corrRun hc hents (hall.tables.ctxKind hc ▸ hk)
      ⟨hfree.stays, hfree.map.slotsApart hready.apart, hall.tables.offChaff hc h.off⟩ hg fun x hx y hy b hb => ?_
    rw [hall.tables.corrElem hc hents] at hy
    rw [State.elemByte, hall.tables.elemAddr hc, hall.tables.valueBytes hc]
    exact hmem x (.inr hx) y hy b hb
  rw [hrun, hpost.bytes fun i hi => elemByte_add hi]
  exact hone

/-! ## The whole drain -/

theorem stepValues_eq {slots : Nat} : ((List.range (32 * slots)).flatMap fun k => (List.range 32).map fun col => (k, col)) =
    (List.range (1024 * slots)).map fun e => (e / 32, e % 32) := by
  have hsteps (n : Nat) : ((List.range n).flatMap fun k => (List.range 32).map fun col => (k, col)) =
      (List.range (32 * n)).map fun e => (e / 32, e % 32) := by
    induction n with
    | zero => rfl
    | succ n ih =>
      rw [List.range_succ (n := n), List.flatMap_append, ih, Nat.mul_succ, List.range_add, List.map_append, List.map_map]
      refine congrArg _ ?_
      rw [List.flatMap_singleton]
      refine List.map_congr_left fun col hcol => ?_
      have := List.mem_range.mp hcol
      exact Prod.ext (by show n = (32 * n + col) / 32; omega) (by show col = (32 * n + col) % 32; omega)
  rw [hsteps]
  congr 2
  omega

/-- The values before step k's at column col, and those after it. -/
theorem stepValues_split {n : Nat} (hk : k < n) (hcol : col < 32) : ∃ l r,
    (List.range (32 * n)).map (fun e => (e / 32, e % 32)) = l ++ (k, col) :: r ∧ l.length = 32 * k + col ∧
      ∀ x ∈ l ++ r, x.1 < n ∧ x.2 < 32 ∧ x ≠ (k, col) := by
  have hlen : 32 * n = 32 * k + col + (32 * n - (32 * k + col + 1) + 1) := by omega
  have hsplit : List.range (32 * n) = List.range (32 * k + col) ++ (32 * k + col) ::
      (List.range (32 * n - (32 * k + col + 1))).map fun i => 32 * k + col + (i + 1) := by
    rw [hlen, List.range_add, List.range_succ_eq_map, List.map_cons, List.map_map, ← hlen]
    rfl
  refine ⟨_, _, by rw [hsplit, List.map_append, List.map_cons, show (32 * k + col) / 32 = k by omega,
    show (32 * k + col) % 32 = col by omega], by rw [List.length_map, List.length_range], fun x hx => ?_⟩
  rw [← List.map_append] at hx
  obtain ⟨e, he, rfl⟩ := List.mem_map.mp hx
  have he : e < 32 * n ∧ e ≠ 32 * k + col := by
    rcases List.mem_append.mp he with he | he
    · have := List.mem_range.mp he
      omega
    · obtain ⟨i, hi, rfl⟩ := List.mem_map.mp he
      have := List.mem_range.mp hi
      omega
  refine ⟨by show e / 32 < n; omega, Nat.mod_lt _ (by decide), fun h => he.2 ?_⟩
  have h1 : e / 32 = k := congrArg Prod.fst h
  have h2 : e % 32 = col := congrArg Prod.snd h
  omega

/-- The run of a whole drain of lane n's buffer. -/
def State.corrAll (s : State) (lane c g w m idx : Nat) (first : Bool) (ents : List Nat) (d : DrainRec) : SpillAcc :=
  corrRun c g m first ents d ⟨s, s.batchSeed lane w idx c, 0, []⟩ ((List.range (1024 * d.slots)).map fun e => (e / 32, e % 32))

theorem corrApply_eq {lane w idx : Nat} : s.corrApply lane c g w m idx first ents d =
    (((s.corrAll lane c g w m idx first ents d).s.incBy HUSK_DISCARD (s.corrAll lane c g w m idx first ents d).disc).incBy HUSK_RMW
      (s.corrAll lane c g w m idx first ents d).lines.length).pmc 272 (s.corrAll lane c g w m idx first ents d).lines.length := by
  rw [State.corrApply, stepValues_eq]
  rfl

theorem spills_corrAll {lane w idx : Nat} (hc : c < 4096) : Spills s (s.corrAll lane c g w m idx first ents d).s :=
  spills_corrRun (a := ⟨s, s.batchSeed lane w idx c, 0, []⟩) hc

theorem corrAll_disc {lane w idx : Nat} (hc : c < 4096) (hents : entriesIn ents) : (s.corrAll lane c g w m idx first ents d).disc =
    ((List.range (1024 * d.slots)).filter fun e => s.corrElem c g ents d (e / 32) (e % 32) = none).length := by
  rw [State.corrAll, corrRun_disc hc hents fun _ _ _ => rfl, List.filter_map, List.length_map]
  exact Nat.zero_add _

/-- The elements of an integration do not overlap. -/
theorem elemByte_apart {y b : Nat} (hy : y ≠ e) (h : s.elemByte c m y b) : ¬ s.elemByte c m e b := fun h' => by
  unfold State.elemByte State.elemAddr at h h'
  rcases Nat.lt_or_gt_of_ne hy with hlt | hlt
  · have := Nat.mul_le_mul_right (s.valueBytes c) (Nat.succ_le_of_lt hlt)
    rw [Nat.succ_mul] at this
    omega
  · have := Nat.mul_le_mul_right (s.valueBytes c) (Nat.succ_le_of_lt hlt)
    rw [Nat.succ_mul] at this
    omega

theorem corrAll_bytes {lane w idx : Nat} (hc : c < 4096) (hents : entriesIn ents) (hkind : s.ctxKind c ≤ 1) (hg : g < 8192)
    (hk : k < 32 * d.slots) (hcol : col < 32) (he : s.corrElem c g ents d k col = some e)
    (hone : ∀ k' col', k' < 32 * d.slots → col' < 32 → s.corrElem c g ents d k' col' = some e → k' = k ∧ col' = col)
    (h : SpillReady (s.elemByte c m e) c m s) (hgood : s.hbmGood (s.elemAddr c m e) (s.valueBytes c)) :
    (s.corrAll lane c g w m idx first ents d).s.hbmBytes (s.elemAddr c m e) (s.valueBytes c) =
      wordBytes (spillWords first (s.ctxS64 c) (s.hbmWords (s.elemAddr c m e) (s.valueBytes c / 4)) (corrParts d k col)
        [s.batchDraw lane w idx c (64 * k + 2 * col + 1), s.batchDraw lane w idx c (64 * k + 2 * col + 2)]) := by
  obtain ⟨l, r, hsplit, hlen, hother⟩ := stepValues_split hk hcol
  have hdraw := corrRun_rng (s := s) (g := g) (m := m) (first := first) (ents := ents) (d := d) (lane := lane) (w := w) (idx := idx)
    (j := 0) (a := ⟨s, s.batchSeed lane w idx c, 0, []⟩) (l := l) hc rfl
  have hbytes := corrRun_bytes (first := first) (a := ⟨s, s.batchSeed lane w idx c, 0, []⟩) (l := l) (r := r) hc hents hkind hg he h
    hgood fun x hx y hy b hb hb' => by
      obtain ⟨hx1, hx2, hne⟩ := hother x hx
      by_cases hye : y = e
      · obtain ⟨h1, h2⟩ := hone x.1 x.2 hx1 hx2 (hye ▸ hy)
        exact hne (Prod.ext h1 h2)
      · exact elemByte_apart hye hb' hb
  rw [hdraw, hlen, ← batchDraw_succ, ← batchDraw_succ] at hbytes
  rw [State.corrAll, show 1024 * d.slots = 32 * (32 * d.slots) by omega, hsplit,
    show 64 * k + 2 * col + 1 = 0 + 2 * (32 * k + col) + 1 by omega, show 64 * k + 2 * col + 2 = 0 + 2 * (32 * k + col) + 1 + 1 by omega]
  exact hbytes

end Sys2Proof.Machine
end
section
/-! Proofs about a correlation drain that the back end applies (R118 to R127, R138, R140). -/

namespace Sys2Proof.Machine

variable {s t v w : State} {n c g m idx : Nat} {d : DrainRec} {ds : List DrainRec} {h : HuskCtx} {pg : PgId} {ents : List Nat}

/-! ## What follows the sums of a drain -/

/-- The state after a drain has entered its context's sums. -/
def State.drainSums (s : State) (lane c g idx : Nat) (ents : List Nat) (d : DrainRec) (h : HuskCtx) : State :=
  if !d.beam then s.corrApply lane c g h.win (h.integ (s.ctxP c) h.win) idx (decide ((h.win - h.k0) % s.ctxP c = 0)) ents d
  else
    let s := s.incBy HUSK_DISCARD (s.beamDiscards c (ents.headD 0) d)
    if s.ctxKind c = 2 then s.voltApply lane c g (ents.headD 0) d
    else
      let adds := s.powerAdds lane c h.win g (ents.headD 0) d
      (s.powerAdd adds.1).incBy HUSK_DISCARD adds.2

/-- The mark bits of the drain's bank and of a parity error in its lane enter the group's mark byte. -/
def State.bankMarked (s : State) (lane c n g : Nat) (d : DrainRec) : State :=
  if s.ctxKind c = 2 then s else s.markGroup c n g (d.bank.markBits ||| s.huskBit lane)

/-- Lane n's parity error has been marked. -/
def State.parityTaken (s : State) (lane : Nat) : State :=
  { s with husk := { s.husk with parity := tset 0 s.husk.parity lane 0 } }

theorem drainInto_of_some (hh : s.huskCtx c = some h) : s.drainInto n c g idx ents d =
    (((s.drainSums n c g idx ents d h).bankMarked n c (h.integ (s.ctxP c) h.win) g d).parityTaken n).arrive c g := by
  rw [State.drainInto, hh]
  rfl

theorem spills_bankMarked : Spills s (s.bankMarked n c m g d) := .ite (fun _ => .refl) fun _ => Spills.refl.markGroup

/-- The drain is dealt with as its context's sums, marks and arrivals say. -/
theorem drainApply_into (hs : LaneServed s n) (hq : tget [] s.husk.held n = d :: ds) (hd : s.drainOf d c h pg g)
    (hv : s.verdict n d = .apply g (s.mapIndex c d) ents) : exec (.drainApply n) s =
      .next ((((((s.heldAt n ds).drainSums n c g (s.mapIndex c d) ents d h).bankMarked n c (h.integ (s.ctxP c) h.win) g d).parityTaken
        n).arrive c g).laneTake n) := by
  obtain ⟨-, hctx, hh, -⟩ := id hd
  have hh : (s.heldAt n ds).huskCtx c = some h := hh
  rw [drainApply_deals hs hq hv rfl, State.drainTake, hctx]
  exact congrArg (fun u => Host.Outcome.next (State.laneTake u n)) (drainInto_of_some hh)

/-- The sums leave the settings of the contexts and how far context c has come. -/
structure Summed (c : Nat) (h : HuskCtx) (s t : State) : Prop where
  tables : SameTables s t
  place : ∃ x, t.huskCtx c = some x ∧ x.win = h.win ∧ x.k0 = h.k0 ∧ x.arrived = h.arrived

theorem Summed.spills (h1 : Summed c h s t) (h2 : Spills t w) : Summed c h s w := by
  obtain ⟨x, hx, hwin, hk0, harr⟩ := h1.place
  have hctx := h2.ctx c
  rw [hx] at hctx
  obtain ⟨y, hy, hp⟩ := Option.map_eq_some_iff.mp hctx
  have hpw : y.win = x.win := (congrArg HuskCtx.win hp : y.progress.win = x.progress.win)
  have hpk : y.k0 = x.k0 := (congrArg HuskCtx.k0 hp : y.progress.k0 = x.progress.k0)
  have hpa : y.arrived = x.arrived := (congrArg HuskCtx.arrived hp : y.progress.arrived = x.progress.arrived)
  exact ⟨h1.tables.trans h2.tables, y, hy, hpw.trans hwin, hpk.trans hk0, hpa.trans harr⟩

theorem Summed.same (h1 : Summed c h s t) (hr : w.regs = t.regs) (hc : w.husk.ctx = t.husk.ctx) : Summed c h s w := by
  have hctx : w.huskCtx c = t.huskCtx c := by rw [State.huskCtx, State.huskCtx, hc]
  exact ⟨h1.tables.trans fun _ _ _ => reg_of_regs hr, hctx ▸ h1.place⟩

/-- A register of the Husk below the contexts' settings, or one above them. -/
theorem Summed.setReg {a : Nat} {x : BitVec 32} (h1 : Summed c h s t) (ha : a < 0x820000 ∨ 0xA00000 ≤ a) :
    Summed c h s (t.setReg a x) :=
  ⟨h1.tables.trans fun _ _ _ => reg_setReg_ne (by omega), h1.place⟩

theorem Summed.pmc {k m : Nat} (h1 : Summed c h s t) : Summed c h s (t.pmc k m) :=
  (h1.setReg (.inr (by unfold PMC_LIVE_LO; omega))).setReg (.inr (by unfold PMC_LIVE_HI; omega))

/-! ## Arrival of a correlation drain -/

/-- How far context c has come after a drain for group g that is not the group's last one. -/
theorem arrives_few (h1 : Summed c h s w) (hc : c < 4096) (hlt : tget 0 h.arrived g < s.fget (HUSK_DAUX_DrainsPerPgMinus1 c)) :
    ∃ x : HuskCtx, w.arrive c g = w.setHusk c (some (x.oneMore g)) ∧ x.win = h.win ∧ x.arrived = h.arrived := by
  obtain ⟨x, hx, hwin, -, harr⟩ := h1.place
  refine ⟨x, arrive_few hx ?_, hwin, harr⟩
  rw [harr, h1.tables.expected hc]
  exact hlt

theorem nextWin_win {x : HuskCtx} {done : Bool} : (x.nextWin done).win = x.win + 1 := rfl

/-- The window that a correlation drain completes, and with its last window the integration. -/
theorem arrives_last (h1 : Summed c h s w) (hc : c < 4096) (hk : s.ctxKind c ≤ 1)
    (ha : tget 0 h.arrived g = s.fget (HUSK_DAUX_DrainsPerPgMinus1 c))
    (hall : ∀ q < s.ctxGroups c, q ≠ g → s.fget (HUSK_DAUX_DrainsPerPgMinus1 c) < tget 0 h.arrived q) :
    (∃ x, (w.arrive c g).huskCtx c = some x ∧ x.win = h.win + 1 ∧ x.arrived = []) ∧
      ((h.win + 1 - h.k0) % s.ctxP c ≠ 0 → (w.arrive c g).husk.dumps = w.husk.dumps) ∧
      ((h.win + 1 - h.k0) % s.ctxP c = 0 → ∃ y, tget [] (w.arrive c g).husk.dumps c = tget [] w.husk.dumps c ++ [y] ∧
        y.n = h.integ (s.ctxP c) h.win ∧ y.sent = 0) := by
  obtain ⟨x, hx, hwin, hk0, harr⟩ := h1.place
  have hkw : w.ctxKind c ≤ 1 := (h1.tables.ctxKind hc).symm ▸ hk
  have hlast := arrive_last hx hkw (by rw [harr, h1.tables.expected hc, ha]) fun q hq hne => by
    rw [harr, h1.tables.expected hc]
    exact hall q (h1.tables.ctxGroups hc ▸ hq) hne
  have hkset : (w.setHusk c (some (x.oneMore g))).ctxKind c ≤ 1 := hkw
  obtain ⟨-, hctx, hnot, hdone⟩ := winComplete_of_corr (m := x.integ (w.ctxP c) x.win) (x := x.oneMore g) hkset
  have hlw : (w.setHusk c (some (x.oneMore g))).lastWin c (x.oneMore g) = decide ((h.win + 1 - h.k0) % s.ctxP c = 0) := by
    show decide ((x.win + 1 - x.k0) % w.ctxP c = 0) = _
    rw [hwin, hk0, h1.tables.ctxP hc]
  have hint : x.integ (w.ctxP c) x.win = h.integ (s.ctxP c) h.win := by rw [HuskCtx.integ, HuskCtx.integ, hwin, hk0, h1.tables.ctxP hc]
  rw [hlast]
  refine ⟨⟨_, hctx, ?_, rfl⟩, fun hne => ?_, fun he => ?_⟩
  · rw [nextWin_win, ← hwin]
    rfl
  · exact hnot (by rw [hlw]; exact decide_eq_false hne)
  · obtain ⟨y, hy, hn, hsent⟩ := hdone (by rw [hlw]; exact decide_eq_true he)
    exact ⟨y, hy, hn.trans hint, hsent⟩

/-! ## The sums of a correlation drain -/

theorem drainSums_corr (hb : d.beam = false) : s.drainSums n c g idx ents d h =
    s.corrApply n c g h.win (h.integ (s.ctxP c) h.win) idx (decide ((h.win - h.k0) % s.ctxP c = 0)) ents d := by
  rw [State.drainSums, hb]
  rfl

theorem husk_corrApply {win : Nat} {first : Bool} :
    (s.corrApply n c g win m idx first ents d).husk = (s.corrAll n c g win m idx first ents d).s.husk := by
  rw [corrApply_eq, pmc_husk]
  rfl

theorem Summed.corrApply {win : Nat} {first : Bool} (h1 : Summed c h s t) (hc : c < 4096) :
    Summed c h s (t.corrApply n c g win m idx first ents d) := by
  rw [corrApply_eq]
  exact (((h1.spills (spills_corrAll hc)).setReg (.inl (by decide))).setReg (.inl (by decide))).pmc

theorem corrApply_discard {win : Nat} {first : Bool} (hc : c < 4096) (hents : entriesIn ents) :
    (s.corrApply n c g win m idx first ents d).reg HUSK_DISCARD = s.reg HUSK_DISCARD + BitVec.ofNat 32
      (((List.range (1024 * d.slots)).filter fun e => s.corrElem c g ents d (e / 32) (e % 32) = none).length) := by
  have hall : Spills s (s.corrAll n c g win m idx first ents d).s := spills_corrAll hc
  rw [corrApply_eq, reg_pmc_of_lt (by decide), reg_incBy_ne (by decide), reg_incBy_self, hall.reg _ (by decide), corrAll_disc hc hents]

theorem corrAll_ready {win : Nat} {first : Bool} {P : Nat → Prop} (hc : c < 4096) (hents : entriesIn ents)
    (hkind : s.ctxKind c ≤ 1) (hg : g < 8192) (h1 : SpillReady P c m s) : SpillReady P c m (s.corrAll n c g win m idx first ents d).s := by
  have hall : Spills s (s.corrAll n c g win m idx first ents d).s := spills_corrAll hc
  have hfree : Stored (fun _ => False) s (s.corrAll n c g win m idx first ents d).s :=
    stored_corrRun (a := ⟨s, s.batchSeed n win idx c, 0, []⟩) hc hents hkind ⟨h1.stays, h1.apart, fun _ hb => hb.elim⟩ hg
      fun _ _ _ _ _ hb => hb.elim
  exact ⟨hfree.stays, hfree.map.slotsApart h1.apart, hall.tables.offChaff hc h1.off⟩

/-- The counts and the mark byte of the drain leave the bytes of its elements. -/
theorem stored_marked {win : Nat} {first : Bool} {P : Nat → Prop} (hc : c < 4096) (hg : g < 8192)
    (h1 : SpillReady P c m (s.corrAll n c g win m idx first ents d).s) : Stored P (s.corrAll n c g win m idx first ents d).s
      (((s.corrApply n c g win m idx first ents d).bankMarked n c m g d).parityTaken n) := by
  rw [corrApply_eq]
  generalize s.corrAll n c g win m idx first ents d = a at h1
  have hcount : Stored P a.s ((a.s.incBy HUSK_DISCARD a.disc).incBy HUSK_RMW a.lines.length) :=
    ((Stored.refl h1.stays).incBy (by decide)).incBy (by decide)
  have hready : SpillReady P c m ((a.s.incBy HUSK_DISCARD a.disc).incBy HUSK_RMW a.lines.length) :=
    (h1.huskReg (by decide)).huskReg (by decide)
  generalize (a.s.incBy HUSK_DISCARD a.disc).incBy HUSK_RMW a.lines.length = u at hcount hready
  have hpmc : Stored P u (u.pmc 272 a.lines.length) := (Stored.refl hready.stays).pmc
  have hready := hready.after hc (Spills.refl.pmc (by decide)) hpmc
  have hcount := hcount.trans hpmc
  generalize u.pmc 272 a.lines.length = v at hcount hready
  have hmark : Stored P a.s (v.bankMarked n c m g d) := .ite (fun _ => hcount) fun _ => hcount.trans (stored_markGroup hready hg)
  exact hmark.same rfl rfl rfl rfl

theorem Calm.bytes {a k : Nat} (h1 : Calm s t) : t.hbmBytes a k = s.hbmBytes a k := by
  have hmap : SameMap s t := fun a ha => h1.reg a (.inr (by have := mapReg_range ha; omega))
  refine List.map_congr_left fun i _ => hbmByte_of hmap (fun p _ => ?_) h1.hbm
  rw [State.pcFailed, State.pcFailed, h1.dmc, fget_of_reg (h1.reg _ (.inr (show 0x940000 ≤ 0xA00600 + 4 * p by omega)))]

/-! ## The clause of correlation drains -/

theorem tables_heldAt : SameTables s (s.heldAt n ds) := fun _ _ _ => rfl

/-- The state in which a correlation drain's values, marks and parity error have been taken. -/
def State.corrTaken (s : State) (n c g idx : Nat) (ents : List Nat) (d : DrainRec) (ds : List DrainRec) (h : HuskCtx) : State :=
  (((s.heldAt n ds).corrApply n c g h.win (h.integ (s.ctxP c) h.win) idx (decide ((h.win - h.k0) % s.ctxP c = 0)) ents d).bankMarked n c
    (h.integ (s.ctxP c) h.win) g d).parityTaken n

theorem corrTaken_summed (hc : c < 4096) (hh : s.huskCtx c = some h) : Summed c h s (s.corrTaken n c g idx ents d ds h) := by
  have hheld : Summed c h s (s.heldAt n ds) := ⟨fun _ _ _ => rfl, h, hh, rfl, rfl, rfl⟩
  exact ((hheld.corrApply hc).spills spills_bankMarked).same rfl rfl

theorem corrTaken_husk (hc : c < 4096) : tget [] (s.corrTaken n c g idx ents d ds h).husk.held n = ds ∧
    (s.corrTaken n c g idx ents d ds h).husk.dumps = s.husk.dumps := by
  have hmark {v : State} {m : Nat} : Spills v (v.bankMarked n c m g d) := spills_bankMarked
  have hall {win m : Nat} {first : Bool} : Spills (s.heldAt n ds) ((s.heldAt n ds).corrAll n c g win m idx first ents d).s :=
    spills_corrAll hc
  refine ⟨?_, ?_⟩
  · show tget [] (State.bankMarked ..).husk.held n = ds
    rw [hmark.husk]
    show tget [] (State.corrApply ..).husk.held n = ds
    rw [husk_corrApply, hall.husk]
    exact heldAt_held
  · show (State.bankMarked ..).husk.dumps = s.husk.dumps
    rw [hmark.husk]
    show (State.corrApply ..).husk.dumps = s.husk.dumps
    rw [husk_corrApply, hall.husk]
    rfl

theorem corrTaken_discard (hc : c < 4096) (hents : entriesIn ents) : (s.corrTaken n c g idx ents d ds h).reg HUSK_DISCARD =
    s.reg HUSK_DISCARD + BitVec.ofNat 32
      (((List.range (1024 * d.slots)).filter fun e => s.corrElem c g ents d (e / 32) (e % 32) = none).length) := by
  have hmark {v : State} {m : Nat} : Spills v (v.bankMarked n c m g d) := spills_bankMarked
  show (State.bankMarked ..).reg HUSK_DISCARD = _
  rw [hmark.reg _ (by decide), corrApply_discard hc hents, reg_heldAt]
  simp only [tables_heldAt.corrElem hc hents]

theorem heldAt_batchDraw {lane win j : Nat} : (s.heldAt n ds).batchDraw lane win idx c j = s.batchDraw lane win idx c j := rfl

/-- The bytes of the element of one of the drain's values. -/
theorem corrTaken_bytes {k col e : Nat} (hc : c < 4096) (hh : s.huskCtx c = some h) (hents : entriesIn ents)
    (hkind : s.ctxKind c ≤ 1) (hg : g < 8192) (hk : k < 32 * d.slots) (hcol : col < 32) (he : s.corrElem c g ents d k col = some e) (hm : m = h.integ (s.ctxP c) h.win)
    (hone : ∀ k' col', k' < 32 * d.slots → col' < 32 → s.corrElem c g ents d k' col' = some e → k' = k ∧ col' = col)
    (hoff : s.elemAddr c m e + s.valueBytes c ≤ s.chaffHalf c m ∨
      s.chaffHalf c m + 8192 + 64 * 2 ^ s.fget (HUSK_DCFG_ChaffBits c) ≤ s.elemAddr c m e)
    (hmap : s.mapStays) (hholds : s.hbmHolds (s.elemAddr c m e) (s.valueBytes c)) :
    ((s.corrTaken n c g idx ents d ds h).arrive c g).hbmBytes (s.elemAddr c m e) (s.valueBytes c) =
      wordBytes (spillWords (decide ((h.win - h.k0) % s.ctxP c = 0)) (s.ctxS64 c) (s.hbmWords (s.elemAddr c m e) (s.valueBytes c / 4))
        (corrParts d k col) [s.batchDraw n h.win idx c (64 * k + 2 * col + 1), s.batchDraw n h.win idx c (64 * k + 2 * col + 2)]) := by
  have hset : SameTables s (s.heldAt n ds) := tables_heldAt
  have hstored : Stored (fun _ => True) s (s.heldAt n ds) := (Stored.refl hmap).same rfl rfl rfl rfl
  have hready : SpillReady ((s.heldAt n ds).elemByte c m e) c m (s.heldAt n ds) := by
    refine ⟨hstored.stays, hstored.map.slotsApart hholds.2, hset.offChaff hc fun b hb => ?_⟩
    rw [State.elemByte, hset.elemAddr hc, hset.valueBytes hc] at hb
    omega
  have hkind' : (s.heldAt n ds).ctxKind c ≤ 1 := hset.ctxKind hc ▸ hkind
  have hgood : (s.heldAt n ds).hbmGood ((s.heldAt n ds).elemAddr c m e) ((s.heldAt n ds).valueBytes c) := by
    rw [hset.elemAddr hc, hset.valueBytes hc]
    exact hstored.good hholds.1
  have hall := corrAll_bytes (lane := n) (w := h.win) (idx := idx) (first := decide ((h.win - h.k0) % s.ctxP c = 0)) hc hents hkind' hg hk
    hcol ((hset.corrElem hc hents).trans he) (fun k' col' hk' hcol' hx => hone k' col' hk' hcol' ((hset.corrElem hc hents).symm.trans hx))
    hready hgood
  have hmarked := stored_marked (n := n) (d := d) hc hg (corrAll_ready (n := n) (win := h.win) (idx := idx) (d := d)
    (first := decide ((h.win - h.k0) % s.ctxP c = 0)) hc hents hkind' hg hready)
  have hcalm : Calm (s.corrTaken n c g idx ents d ds h) ((s.corrTaken n c g idx ents d ds h).arrive c g) := 
    calm_arrive ((corrTaken_summed hc hh).tables.ctxKind hc ▸ hkind)
  have hbytes := hmarked.bytes (a := (s.heldAt n ds).elemAddr c m e) fun i hi => elemByte_add hi
  rw [hall, hset.elemAddr hc, hset.valueBytes hc, hset.ctxS64 hc, hstored.words fun _ _ => trivial, heldAt_batchDraw,
    heldAt_batchDraw] at hbytes
  rw [hcalm.bytes, State.corrTaken, ← hm]
  exact hbytes

@[simp] theorem dumps_laneTake : (s.laneTake n).husk.dumps = s.husk.dumps := rfl
@[simp] theorem huskCtx_laneTake {j : Nat} : (s.laneTake n).huskCtx j = s.huskCtx j := rfl
theorem hbmBytes_laneTake {a k : Nat} : (s.laneTake n).hbmBytes a k = s.hbmBytes a k := rfl

theorem corrDrain_exec (hs : LaneServed s n) (hq : tget [] s.husk.held n = d :: ds) (hd : s.drainOf d c h pg g)
    (hv : s.verdict n d = .apply g (s.mapIndex c d) ents) (hb : d.beam = false) : exec (.drainApply n) s =
      .next (((s.corrTaken n c g (s.mapIndex c d) ents d ds h).arrive c g).laneTake n) := by
  rw [drainApply_into hs hq hd hv, drainSums_corr hb]
  rfl

theorem groups_le : s.ctxGroups c ≤ 8192 := Nat.succ_le_of_lt (Nat.mod_lt _ (Nat.two_pow_pos 13))

/-- A correlation drain of the window being applied arrives for its group, and its values enter the spill. -/
theorem corrDrain (hs : LaneServed s n) (hq : tget [] s.husk.held n = d :: ds) (hd : s.drainOf d c h pg g)
    (hmixed : d.bank.mixed = false) (hents : s.mapEntries c d = some ents) (hk : pg.k = h.win)
    (ha : tget 0 h.arrived g ≤ s.fget (HUSK_DAUX_DrainsPerPgMinus1 c)) (hb : d.beam = false) (hkind : s.ctxKind c ≤ 1)
    (hm : m = h.integ (s.ctxP c) h.win) : gives (.drainApply n) s fun t => tget [] t.husk.held n = ds ∧
      (tget 0 h.arrived g < s.fget (HUSK_DAUX_DrainsPerPgMinus1 c) →
        t.husk.dumps = s.husk.dumps ∧ ∃ x, t.huskCtx c = some x ∧ x.win = h.win ∧ tget 0 x.arrived g = tget 0 h.arrived g + 1) ∧
      (tget 0 h.arrived g = s.fget (HUSK_DAUX_DrainsPerPgMinus1 c) →
        (∀ q < s.ctxGroups c, q ≠ g → s.fget (HUSK_DAUX_DrainsPerPgMinus1 c) < tget 0 h.arrived q) →
        (∃ x, t.huskCtx c = some x ∧ x.win = h.win + 1 ∧ x.arrived = []) ∧
        ((h.win + 1 - h.k0) % s.ctxP c ≠ 0 → tget [] t.husk.dumps c = tget [] s.husk.dumps c) ∧
        ((h.win + 1 - h.k0) % s.ctxP c = 0 → ∃ y, tget [] t.husk.dumps c = tget [] s.husk.dumps c ++ [y] ∧
          y.n = m ∧ y.sent = 0)) ∧
      t.reg HUSK_DISCARD = s.reg HUSK_DISCARD + BitVec.ofNat 32
        (((List.range (1024 * d.slots)).filter fun e => s.corrElem c g ents d (e / 32) (e % 32) = none).length) ∧
      ∀ k col e a, k < 32 * d.slots → col < 32 → s.corrElem c g ents d k col = some e → a = s.elemAddr c m e →
        (∀ k' col', k' < 32 * d.slots → col' < 32 → s.corrElem c g ents d k' col' = some e → k' = k ∧ col' = col) →
        (a + s.valueBytes c ≤ s.chaffHalf c m ∨ s.chaffHalf c m + 8192 + 64 * 2 ^ s.fget (HUSK_DCFG_ChaffBits c) ≤ a) →
        s.mapStays → s.hbmHolds a (s.valueBytes c) →
        t.hbmBytes a (s.valueBytes c) = (spillWords (decide ((h.win - h.k0) % s.ctxP c = 0)) (s.ctxS64 c)
          (s.hbmWords a (s.valueBytes c / 4))
          [fOfInt (d.bank.cell (k % d.slots) (31 - k / d.slots) col).re, fOfInt (d.bank.cell (k % d.slots) (31 - k / d.slots) col).im]
          [s.batchDraw n h.win (s.mapIndex c d) c (64 * k + 2 * col + 1),
            s.batchDraw n h.win (s.mapIndex c d) c (64 * k + 2 * col + 2)]).flatMap fun w => leBytes 4 w := by
  obtain ⟨hc, -, hh, -, -, -, hlt, -⟩ := id hd
  have hin := entriesIn_of_map hents
  have hg : g < 8192 := hlt.trans_le groups_le
  have hv := verdict_apply (n := n) hd hmixed hents hk ha (by omega)
  have hsum : Summed c h s (s.corrTaken n c g (s.mapIndex c d) ents d ds h) := corrTaken_summed hc hh
  obtain ⟨hheld, hdumps⟩ := corrTaken_husk (s := s) (n := n) (g := g) (idx := s.mapIndex c d) (ents := ents) (d := d) (ds := ds) (h := h) hc
  have hdisc := corrTaken_discard (s := s) (n := n) (g := g) (idx := s.mapIndex c d) (d := d) (ds := ds) (h := h) hc hin
  have harrive : Arrives (s.corrTaken n c g (s.mapIndex c d) ents d ds h) ((s.corrTaken n c g (s.mapIndex c d) ents d ds h).arrive c g) :=
    Arrives.refl.arrive hc
  refine gives_of (corrDrain_exec hs hq hd hv hb) ⟨?_, fun hfew => ?_, fun hlast hall => ?_, ?_,
    fun k col e a hk hcol he haddr hone hoff hmap hholds => ?_⟩
  · rw [held_laneTake, harrive.held, hheld]
  · obtain ⟨x, heq, hwin, harr⟩ := arrives_few hsum hc hfew
    rw [dumps_laneTake, huskCtx_laneTake, heq]
    refine ⟨hdumps, _, setHusk_huskCtx, hwin, ?_⟩
    rw [HuskCtx.oneMore, tget_tset_self, harr]
  · rw [dumps_laneTake, huskCtx_laneTake, hm, ← hdumps]
    obtain ⟨hnext, hnot, hdone⟩ := arrives_last hsum hc hkind hlast hall
    exact ⟨hnext, fun hne => congrArg (tget [] · c) (hnot hne), hdone⟩
  · rw [reg_laneTake, harrive.reg _ ⟨by decide, by decide⟩, hdisc]
  · subst haddr
    rw [hbmBytes_laneTake]
    exact corrTaken_bytes hc hh hin hkind hg hk hcol he hm hone hoff hmap hholds

end Sys2Proof.Machine
end
section
/-! Proofs about a beam drain that the back end applies (R120, R129, R132). -/

namespace Sys2Proof.Machine

variable {s t v w : State} {n c g i k : Nat} {d : DrainRec} {ds : List DrainRec} {h : HuskCtx} {pg : PgId} {ents : List Nat}

/-! ## What a beam drain's values rest on -/

theorem SameTables.beamKept (h : SameTables s t) (hc : c < 4096) (hi : i < 16384) : t.beamKept c i d = s.beamKept c i d := by
  rw [State.beamKept, State.beamKept, h.frames hi, h.rowBase hi, h.ctxBeams hc]

theorem SameTables.powerAdds {win : Nat} (h : SameTables s t) (hc : c < 4096) (hi : i < 16384) :
    t.powerAdds n c win g i d = s.powerAdds n c win g i d := by
  rw [State.powerAdds, State.powerAdds, h.beamKept hc hi, h.rowBase hi, h.ctxKind hc]

theorem SameTables.voltBlock (h : SameTables s t) (hc : c < 4096) (hi : i < 16384) : t.voltBlock c i d = s.voltBlock c i d := by
  have haux {f : Fld} (hf : f.addr = 0x82001C + 32 * c) : t.fget f = s.fget f := fget_of_reg (h _ (by omega) (by omega))
  rw [State.voltBlock, State.voltBlock, haux (f := HUSK_DAUX_VoltFormat c) rfl, haux (f := HUSK_DAUX_VoltShift c) rfl, h.rowBase hi,
    h.ctxBeams hc, h.frames hi, h.ctxM hc]

/-- The drain stands at lane n, its discarded values counted. -/
def State.beamStart (s : State) (n c i : Nat) (d : DrainRec) (ds : List DrainRec) : State :=
  (s.heldAt n ds).incBy HUSK_DISCARD (s.beamDiscards c i d)

theorem tables_beamStart : SameTables s (s.beamStart n c i d ds) := fun _ hlo _ => reg_incBy_ne (by unfold HUSK_DISCARD; omega)

theorem beamStart_discard : (s.beamStart n c i d ds).reg HUSK_DISCARD = s.reg HUSK_DISCARD + BitVec.ofNat 32 (s.beamDiscards c i d) :=
  reg_incBy_self

/-! ## The sums of a beam drain -/

theorem drainSums_power {idx : Nat} (hb : d.beam = true) (hc : c < 4096) (hi : ents.headD 0 < 16384) (hk : s.ctxKind c ≠ 2) :
    (s.heldAt n ds).drainSums n c g idx ents d h =
      ((s.beamStart n c (ents.headD 0) d ds).powerAdd (s.powerAdds n c h.win g (ents.headD 0) d).1).incBy HUSK_DISCARD
        (s.powerAdds n c h.win g (ents.headD 0) d).2 := by
  have hkind : (s.beamStart n c (ents.headD 0) d ds).ctxKind c ≠ 2 := by rw [tables_beamStart.ctxKind hc]; exact hk
  rw [State.drainSums, hb, ← (tables_beamStart (n := n) (c := c) (i := ents.headD 0) (d := d) (ds := ds)).powerAdds hc hi]
  exact if_neg hkind

theorem drainSums_volt {idx : Nat} (hb : d.beam = true) (hc : c < 4096) (hk : s.ctxKind c = 2) :
    (s.heldAt n ds).drainSums n c g idx ents d h = (s.beamStart n c (ents.headD 0) d ds).voltApply n c g (ents.headD 0) d := by
  have hkind : (s.beamStart n c (ents.headD 0) d ds).ctxKind c = 2 := by rw [tables_beamStart.ctxKind hc]; exact hk
  rw [State.drainSums, hb]
  exact if_pos hkind

/-- After a beam drain that is not its group's last one, its sums stand in the lanes, the power stage and the packer. -/
theorem beamDrain (hs : LaneServed s n) (hq : tget [] s.husk.held n = d :: ds) (hd : s.drainOf d c h pg g)
    (hmixed : d.bank.mixed = false) (hents : s.mapEntries c d = some ents) (hk : pg.k = h.win)
    (hlt : tget 0 h.arrived g < s.fget (HUSK_DAUX_DrainsPerPgMinus1 c))
    (hroom : s.ctxKind c = 3 ∨ s.ctxKind c = 4 → s.powerUsed n + s.powerNew (s.powerAdds n c h.win g (ents.headD 0) d).1 ≤ 4096)
    (hv : (s.heldAt n ds).drainSums n c g (s.mapIndex c d) ents d h = v) (hsum : Summed c h s v) : gives (.drainApply n) s fun t =>
      (∀ a, spillFree a → t.reg a = v.reg a) ∧ t.husk.held = v.husk.held ∧ t.husk.power = v.husk.power ∧ t.husk.volt = v.husk.volt := by
  have hmark : Spills v (v.bankMarked n c (h.integ (s.ctxP c) h.win) g d) := spills_bankMarked
  obtain ⟨x, heq, -, -⟩ := arrives_few (w := (v.bankMarked n c (h.integ (s.ctxP c) h.win) g d).parityTaken n)
    ((hsum.spills hmark).same rfl rfl) hd.1 hlt
  have hexec := drainApply_into hs hq hd (verdict_apply hd hmixed hents hk hlt.le hroom)
  rw [hv, heq] at hexec
  generalize v.bankMarked n c (h.integ (s.ctxP c) h.win) g d = w at hmark hexec
  have hhusk := hmark.husk
  refine gives_of hexec ⟨fun a ha => hmark.reg a ha, ?_, ?_, ?_⟩
  · show w.husk.held = _
    rw [hhusk]
  · show w.husk.power = _
    rw [hhusk]
  · show w.husk.volt = _
    rw [hhusk]

theorem summed_beamStart (hh : s.huskCtx c = some h) : Summed c h s (s.beamStart n c i d ds) :=
  ⟨tables_beamStart, h, hh, rfl, rfl, rfl⟩

theorem summed_power {adds : List (Nat × Int × Nat)} {m : Nat} (hh : s.huskCtx c = some h) :
    Summed c h s (((s.beamStart n c i d ds).powerAdd adds).incBy HUSK_DISCARD m) :=
  ((summed_beamStart hh).same (w := (s.beamStart n c i d ds).powerAdd adds) rfl rfl).setReg (.inl (by decide))

theorem head_lt (hents : s.mapEntries c d = some ents) : ents.headD 0 < 16384 := by
  have := entriesIn_of_map hents 0
  cases ents <;> exact this

/-- A beam drain of a context with a power stage. -/
theorem powerDrain (hs : LaneServed s n) (hq : tget [] s.husk.held n = d :: ds) (hd : s.drainOf d c h pg g)
    (hmixed : d.bank.mixed = false) (hents : s.mapEntries c d = some ents) (hk : pg.k = h.win) (hi : i = ents.headD 0)
    (hlt : tget 0 h.arrived g < s.fget (HUSK_DAUX_DrainsPerPgMinus1 c)) (hb : d.beam = true) (hkind : s.ctxKind c ≠ 2)
    (hroom : s.powerUsed n + s.powerNew (s.powerAdds n c h.win g i d).1 ≤ 4096) : gives (.drainApply n) s fun t =>
      tget [] t.husk.held n = ds ∧ t.husk.power = (s.powerAdd (s.powerAdds n c h.win g i d).1).husk.power ∧
      t.reg HUSK_DISCARD = s.reg HUSK_DISCARD + BitVec.ofNat 32 (s.beamDiscards c i d) +
        BitVec.ofNat 32 (s.powerAdds n c h.win g i d).2 := by
  subst hi
  obtain ⟨hc, -, hh, -⟩ := id hd
  have hin := head_lt hents
  have hv := drainSums_power (n := n) (g := g) (ds := ds) (h := h) (idx := s.mapIndex c d) hb hc hin hkind
  obtain ⟨t, hexec, hreg, hheld, hpow, -⟩ := beamDrain hs hq hd hmixed hents hk hlt (fun _ => hroom) hv (summed_power hh)
  refine ⟨t, hexec, ?_, hpow, ?_⟩
  · rw [hheld]
    exact heldAt_held
  · rw [hreg _ (by decide), reg_incBy_self]
    exact congrArg (· + _) beamStart_discard

/-! ## A voltage context (R132) -/

/-- The context's samples that are clamped are counted, and its block waits where it emits. -/
def State.voltPut (s : State) (c sat : Nat) (b : VoltBlock) (x : HuskCtx) : State :=
  ((s.incBy HUSK_SATCNT sat).when ((s.incBy HUSK_SATCNT sat).ctxEmit c) fun s =>
    { s with husk := { s.husk with volt := tmod [] s.husk.volt c fun l => l ++ [b] } }).setHusk c (some x)

/-- The packer's block of a beam drain, and the progress that the context keeps. -/
theorem voltApply_of_some (hh : s.huskCtx c = some h) : ∃ (b : VoltBlock) (x : HuskCtx),
    s.voltApply n c g i d = s.voltPut c (s.voltBlock c i d).2.2.2 b x ∧ (x.win = h.win ∧ x.k0 = h.k0 ∧ x.arrived = h.arrived) ∧
    b.win = h.win ∧ b.g = g ∧ b.frames = (s.voltBlock c i d).1 ∧ b.deficit = (s.voltBlock c i d).2.2.1 := by
  rw [State.voltApply, hh]
  generalize s.voltBlock c i d = q
  obtain ⟨body, beams, deficit, sat⟩ := q
  exact ⟨_, _, rfl, ⟨rfl, rfl, rfl⟩, rfl, rfl, rfl, rfl⟩

theorem voltPut_reg {sat : Nat} {b : VoltBlock} {x : HuskCtx} {a : Nat} :
    (s.voltPut c sat b x).reg a = (s.incBy HUSK_SATCNT sat).reg a := by
  unfold State.voltPut State.when
  split <;> rfl

theorem voltPut_held {sat : Nat} {b : VoltBlock} {x : HuskCtx} : (s.voltPut c sat b x).husk.held = s.husk.held := by
  unfold State.voltPut State.when
  split <;> rfl

theorem voltPut_huskCtx {sat : Nat} {b : VoltBlock} {x : HuskCtx} : (s.voltPut c sat b x).huskCtx c = some x := setHusk_huskCtx

theorem voltPut_volt {sat : Nat} {b : VoltBlock} {x : HuskCtx} : tget [] (s.voltPut c sat b x).husk.volt c =
    if (s.incBy HUSK_SATCNT sat).ctxEmit c then tget [] s.husk.volt c ++ [b] else tget [] s.husk.volt c := by
  unfold State.voltPut State.when
  split
  · exact tget_tset_self ..
  · rfl

/-- A beam drain of a voltage context. -/
theorem voltDrain (hs : LaneServed s n) (hq : tget [] s.husk.held n = d :: ds) (hd : s.drainOf d c h pg g)
    (hmixed : d.bank.mixed = false) (hents : s.mapEntries c d = some ents) (hk : pg.k = h.win) (hi : i = ents.headD 0)
    (hlt : tget 0 h.arrived g < s.fget (HUSK_DAUX_DrainsPerPgMinus1 c)) (hb : d.beam = true) (hkind : s.ctxKind c = 2) :
    gives (.drainApply n) s fun t => tget [] t.husk.held n = ds ∧
      t.reg HUSK_DISCARD = s.reg HUSK_DISCARD + BitVec.ofNat 32 (s.beamDiscards c i d) ∧
      t.reg HUSK_SATCNT = s.reg HUSK_SATCNT + BitVec.ofNat 32 (s.voltBlock c i d).2.2.2 ∧
      (s.ctxEmit c = false → tget [] t.husk.volt c = tget [] s.husk.volt c) ∧
      (s.ctxEmit c = true → ∃ b, tget [] t.husk.volt c = tget [] s.husk.volt c ++ [b] ∧ b.win = h.win ∧ b.g = g ∧
        b.frames = (s.voltBlock c i d).1 ∧ b.deficit = (s.voltBlock c i d).2.2.1) := by
  subst hi
  obtain ⟨hc, -, hh, -⟩ := id hd
  have hin := head_lt hents
  have htab : SameTables s (s.beamStart n c (ents.headD 0) d ds) := tables_beamStart
  have hstart : (s.beamStart n c (ents.headD 0) d ds).huskCtx c = some h := hh
  obtain ⟨b, x, heq, hx, hbwin, hbg, hframes, hdef⟩ := voltApply_of_some (n := n) (g := g) (i := ents.headD 0) (d := d) hstart
  rw [htab.voltBlock hc hin] at heq hframes hdef
  have hv := (drainSums_volt (n := n) (g := g) (ds := ds) (h := h) (ents := ents) (idx := s.mapIndex c d) hb hc hkind).trans heq
  have hdisc := beamStart_discard (s := s) (n := n) (c := c) (i := ents.headD 0) (d := d) (ds := ds)
  have hcount : (s.beamStart n c (ents.headD 0) d ds).reg HUSK_SATCNT = s.reg HUSK_SATCNT := reg_incBy_ne (by decide)
  have hkept : tget [] (s.beamStart n c (ents.headD 0) d ds).husk.held n = ds := heldAt_held
  have hqueue : (s.beamStart n c (ents.headD 0) d ds).husk.volt = s.husk.volt := rfl
  generalize s.beamStart n c (ents.headD 0) d ds = u at *
  generalize hsat : (s.voltBlock c (ents.headD 0) d).2.2.2 = sat at *
  have hput {a : Nat} (ha : a ≠ HUSK_SATCNT) : (u.voltPut c sat b x).reg a = u.reg a := voltPut_reg.trans (reg_incBy_ne ha)
  have hsum : Summed c h s (u.voltPut c sat b x) :=
    ⟨fun a hlo hhi => (hput (by unfold HUSK_SATCNT; omega)).trans (htab a hlo hhi), x, voltPut_huskCtx, hx⟩
  obtain ⟨t, hexec, hreg, hheld, -, hvolt⟩ := beamDrain hs hq hd hmixed hents hk hlt (by omega) hv hsum
  have hemit : (u.incBy HUSK_SATCNT sat).ctxEmit c = s.ctxEmit c := by
    have hcnt : SameTables s (u.incBy HUSK_SATCNT sat) :=
      fun a hlo hhi => (reg_incBy_ne (by unfold HUSK_SATCNT; omega)).trans (htab a hlo hhi)
    exact hcnt.ctxEmit hc
  have hblocks : tget [] t.husk.volt c = if s.ctxEmit c then tget [] s.husk.volt c ++ [b] else tget [] s.husk.volt c := by
    rw [hvolt, voltPut_volt, hemit, hqueue]
  refine ⟨t, hexec, ?_, ?_, ?_, fun he => ?_, fun he => ⟨b, ?_, hbwin, hbg, hframes, hdef⟩⟩
  · rw [hheld, voltPut_held, hkept]
  · rw [hreg _ (by decide), hput (by decide), hdisc]
  · rw [hreg _ (by decide), voltPut_reg, reg_incBy_self, hcount]
  · rw [hblocks, he]
    rfl
  · rw [hblocks, he]
    rfl

/-! ## A power context (R129, R130) -/

end Sys2Proof.Machine
end
section
/-! Proofs about the power stage (R129): what an entry holds after a beam drain. -/

namespace Sys2Proof.Machine

variable {s : State} {n c g i k r : Nat} {d : DrainRec}

/-! ## An entry -/

/-- An entry of the power stage, or an empty one, after one more power and its count. -/
def entryAdd (v : Option (Int × Nat)) (x : Int × Nat) : Option (Int × Nat) :=
  match v with
  | some (a, n) => some (a + x.1, n + x.2)
  | none => some x

theorem powerAdd_entry {adds : List (Nat × Int × Nat)} {key : Nat} : tget none (s.powerAdd adds).husk.power key =
    ((adds.filter fun e => e.1 = key).map Prod.snd).foldl entryAdd (tget none s.husk.power key) := by
  show tget none (adds.foldl _ s.husk.power) key = _
  generalize s.husk.power = t
  induction adds generalizing t with
  | nil => rfl
  | cons e adds ih =>
    rw [List.foldl_cons, ih, List.filter_cons]
    by_cases he : e.1 = key
    · rw [if_pos (decide_eq_true he), List.map_cons, List.foldl_cons, ← he]
      congr 1
      rw [tmod, tget_tset_self]
      cases tget none t e.1 <;> rfl
    · rw [if_neg (by simpa using he)]
      congr 1
      exact tget_tset_ne none _ _ (Ne.symm he)

theorem foldl_entryAdd_some {l : List (Int × Nat)} {a : Int} {m : Nat} :
    l.foldl entryAdd (some (a, m)) = some (a + (l.map Prod.fst).sum, m + (l.map Prod.snd).sum) := by
  induction l generalizing a m with
  | nil => simp
  | cons x l ih =>
    rw [List.foldl_cons, entryAdd, ih, List.map_cons, List.map_cons, List.sum_cons, List.sum_cons, Int.add_assoc, Nat.add_assoc]

/-- An entry to which at least one power is added holds the sums over what it held. -/
theorem foldl_entryAdd {l : List (Int × Nat)} {v : Option (Int × Nat)} (hl : l ≠ []) : l.foldl entryAdd v =
    some ((v.getD (0, 0)).1 + (l.map Prod.fst).sum, (v.getD (0, 0)).2 + (l.map Prod.snd).sum) := by
  obtain ⟨x, l, rfl⟩ := List.exists_cons_of_ne_nil hl
  have hone : entryAdd v x = some ((v.getD (0, 0)).1 + x.1, (v.getD (0, 0)).2 + x.2) := by
    cases v with
    | none => exact congrArg some (Prod.ext (Int.zero_add _).symm (Nat.zero_add _).symm)
    | some y => rfl
  rw [List.foldl_cons, hone, foldl_entryAdd_some, List.map_cons, List.map_cons, List.sum_cons, List.sum_cons, Int.add_assoc, Nat.add_assoc]

/-! ## The values of one row -/

theorem range_mul {a b : Nat} : List.range (a * b) = (List.range a).flatMap fun q => (List.range b).map fun j => q * b + j := by
  induction a with
  | zero => rw [Nat.zero_mul]; rfl
  | succ a ih => rw [Nat.succ_mul, List.range_add, ih, List.range_succ, List.flatMap_append, List.flatMap_singleton]

/-- The values of a beam drain in step order, row by row. -/
theorem beamSteps_eq {slots : Nat} (hs : 0 < slots) : ((List.range (32 * slots)).flatMap fun k =>
      (List.range 32).map fun col => (31 - k / slots, 32 * (k % slots) + col)) =
    (List.range 32).flatMap fun q => (List.range (32 * slots)).map fun e => (31 - q, e) := by
  have hrow (q : Nat) : (List.range (32 * slots)).map (fun e => (31 - q, e)) =
      (List.range slots).flatMap fun j => (List.range 32).map fun col => (31 - q, j * 32 + col) := by
    rw [Nat.mul_comm, range_mul, List.map_flatMap]
    simp only [List.map_map, Function.comp_def]
  simp only [hrow]
  rw [range_mul, List.flatMap_assoc]
  refine List.flatMap_congr fun q _ => ?_
  rw [List.flatMap_map]
  refine List.flatMap_congr fun j hj => ?_
  have hj := List.mem_range.mp hj
  have hq : (q * slots + j) / slots = q := by
    rw [Nat.mul_comm, Nat.mul_add_div hs, Nat.div_eq_of_lt hj, Nat.add_zero]
  have hm : (q * slots + j) % slots = j := by rw [Nat.mul_comm, Nat.mul_add_mod, Nat.mod_eq_of_lt hj]
  rw [hq, hm, Nat.mul_comm 32 j]

theorem flatMap_range_one {α : Type} {f : Nat → List α} {m q : Nat} (hq : q < m) (h : ∀ j < m, j ≠ q → f j = []) :
    (List.range m).flatMap f = f q := by
  induction m with
  | zero => exact absurd hq (Nat.not_lt_zero q)
  | succ m ih =>
    rw [List.range_succ, List.flatMap_append, List.flatMap_singleton]
    by_cases hqm : q = m
    · have hnil : (List.range m).flatMap f = [] := List.flatMap_eq_nil_iff.mpr fun j hj =>
        h j (Nat.lt_succ_of_lt (List.mem_range.mp hj)) (by have := List.mem_range.mp hj; omega)
      rw [hnil, hqm, List.nil_append]
    · rw [ih (by omega) fun j hj => h j (by omega), h m (Nat.lt_succ_self m) (Ne.symm hqm), List.append_nil]

theorem powerKey_inj {win x y k' : Nat} (hk : k < 4) (hk' : k' < 4) :
    powerKey n c win g x k = powerKey n c win g y k' ↔ x = y ∧ k = k' := by
  simp only [powerKey]
  omega

/-- The powers that a drain adds to the entry of a beam and a channel: those of the row's kept entries of the channel. -/
theorem powerAdds_entry {win : Nat} (hkind : s.ctxKind c = 3) (hr : r < 32) (hk : k < 4)
    (hbeam : s.fget (HUSK_MAP_HI_RowOrBeamBase i) + r < s.ctxBeams c) (hs : 0 < d.slots) :
    (((s.powerAdds n c win g i d).1.filter fun e => e.1 = powerKey n c win g (s.fget (HUSK_MAP_HI_RowOrBeamBase i) + r) k).map Prod.snd) =
      ((List.range (32 * d.slots)).filter fun e => e % 4 = k ∧ e / 4 ≤ s.fget (HUSK_MAP_LO_FramesMinus1 i)).map
        fun e => (cellPower (d.bank.cell (e / 32) r (e % 32)), (d.bank.cell (e / 32) r (e % 32)).cnt) := by
  have hadds : (s.powerAdds n c win g i d).1 = (s.beamKept c i d).map fun e =>
      (powerKey n c win g (s.fget (HUSK_MAP_HI_RowOrBeamBase i) + e.1) (e.2.1 % 4), cellPower e.2.2, e.2.2.cnt) := by
    dsimp only [State.powerAdds]
    rw [if_pos hkind]
  have hkey {q e : Nat} : powerKey n c win g (s.fget (HUSK_MAP_HI_RowOrBeamBase i) + q) (e % 4) =
      powerKey n c win g (s.fget (HUSK_MAP_HI_RowOrBeamBase i) + r) k ↔ q = r ∧ e % 4 = k := by
    rw [powerKey_inj (Nat.mod_lt _ (by decide)) hk, Nat.add_left_cancel_iff]
  have hrow : 31 - (31 - r) = r := by omega
  rw [hadds, State.beamKept, beamSteps_eq hs, List.filterMap_flatMap, List.map_flatMap, List.filter_flatMap, List.map_flatMap,
    flatMap_range_one (q := 31 - r) (by omega)]
  · rw [hrow, List.filterMap_map, List.map_filterMap, List.filter_filterMap, List.map_filterMap]
    rw [← List.filterMap_eq_map, List.filterMap_filter]
    refine List.filterMap_congr fun e _ => ?_
    by_cases hf : e / 4 ≤ s.fget (HUSK_MAP_LO_FramesMinus1 i)
    · by_cases he : e % 4 = k
      · simp [Option.filter, hf, hbeam, he]
      · simp [Option.filter, hf, hbeam, he, hkey]
    · simp [Option.filter, hf]
  · intro j hj hne
    refine List.map_eq_nil_iff.mpr (List.filter_eq_nil_iff.mpr fun x hx he => ?_)
    obtain ⟨y, hy, rfl⟩ := List.mem_map.mp hx
    obtain ⟨z, hz, hyz⟩ := List.mem_filterMap.mp hy
    obtain ⟨e, -, rfl⟩ := List.mem_map.mp hz
    split at hyz
    · cases hyz
      have := (hkey.mp (of_decide_eq_true he)).1
      omega
    · exact absurd hyz nofun

/-- An entry of a power context after a beam drain: the powers of its beam and channel over the drain's frames, and their count. -/
theorem powerEntry {win : Nat} (hkind : s.ctxKind c = 3) (hr : r < 32) (hk : k < 4)
    (hbeam : s.fget (HUSK_MAP_HI_RowOrBeamBase i) + r < s.ctxBeams c) (hs : 0 < d.slots) :
    tget none (s.powerAdd (s.powerAdds n c win g i d).1).husk.power (powerKey n c win g (s.fget (HUSK_MAP_HI_RowOrBeamBase i) + r) k) =
      let old := (tget none s.husk.power (powerKey n c win g (s.fget (HUSK_MAP_HI_RowOrBeamBase i) + r) k)).getD (0, 0)
      let cells := ((List.range (32 * d.slots)).filter fun e => e % 4 = k ∧ e / 4 ≤ s.fget (HUSK_MAP_LO_FramesMinus1 i)).map
        fun e => d.bank.cell (e / 32) r (e % 32)
      some (old.1 + (cells.map fun v => v.re * v.re + v.im * v.im).sum, old.2 + (cells.map Cell.cnt).sum) := by
  have hmem : k ∈ (List.range (32 * d.slots)).filter fun e => e % 4 = k ∧ e / 4 ≤ s.fget (HUSK_MAP_LO_FramesMinus1 i) :=
    List.mem_filter.mpr ⟨List.mem_range.mpr (by omega), decide_eq_true ⟨Nat.mod_eq_of_lt hk, by omega⟩⟩
  rw [powerAdd_entry, powerAdds_entry hkind hr hk hbeam hs, foldl_entryAdd (by
    rw [ne_eq, List.map_eq_nil_iff]
    exact List.ne_nil_of_mem hmem)]
  simp only [List.map_map]
  rfl

end Sys2Proof.Machine
end
section
/-! The obligation about the drains that the Husk takes (R115 to R132). -/

namespace Sys2Proof.Machine

theorem laneRefuses_of {s : State} {n : Nat} (h : s.flag HUSK_CTRL_Enable = false ∨ s.unitInReset 18 = true ∨ s.xIsHeld 7 n = true ∨
    16384 < s.frontUsed n + 32) : s.laneRefuses n = true := by
  unfold State.laneRefuses
  rcases h with h | h | h | h <;> simp [h]

/-- A power context discards no value for want of a partner. -/
theorem powerAdds_none {s : State} {n c win g i : Nat} {d : DrainRec} (hk : s.ctxKind c = 3) : (s.powerAdds n c win g i d).2 = 0 := by
  dsimp only [State.powerAdds]
  rw [if_pos hk]

/-- Settles O15: the front end's round robin, the decision for each drain, and the sums of a drain that is applied, which accesses of
the spill elsewhere leave as they are. -/
theorem huskTakesDrains : Obligations.HuskTakesDrains := by
  unfold Obligations.HuskTakesDrains
  refine ⟨fun s n hn hrun => ⟨fun r _ hon hreset hheld hroom hr => ?_, fun hoffer hstop => ?_⟩,
    fun s n d ds hn hrun hreset hcross hhbm hq => ?_, ?_, ?_⟩
  · exact huskTakesStep hn hrun hon hreset hheld hroom (laneRows_head.trans hr)
  · exact huskRefusesSteps hn hrun hoffer (laneRefuses_of hstop)
  · have hs : LaneServed s n := ⟨hn, hrun, hreset, hcross, hhbm⟩
    refine ⟨drainStopped hs hq, fun c h pg g hd hm => drainMixed hs hq hd hm, fun c h pg g hd hm he => drainMiss hs hq hd hm he,
      fun c h _ hctx hh hst hpg => drainOutOfRange hs hq hctx hh hst hpg,
      fun c h pg g hd hm he hx => drainExcess hs hq hd hm he hx, fun hnil hv => ?_, fun hnil hv => ?_, fun hnil hv => ?_⟩
    · exact drainAhead hs (hnil ▸ hq) hv
    · exact drainLate hs (hnil ▸ hq) hv
    · exact drainStaged hs (hnil ▸ hq) hv
  · intro s n c g m d ds h pg ents hn hrun hreset hcross hhbm hq hd hm hents hk ha hb hkind hint
    exact corrDrain ⟨hn, hrun, hreset, hcross, hhbm⟩ hq hd hm hents hk ha hb hkind hint
  · intro s n c g i d ds h pg ents hn hrun hreset hcross hhbm hq hd hm hents hk hi ha hb
    have hs : LaneServed s n := ⟨hn, hrun, hreset, hcross, hhbm⟩
    refine ⟨fun hkind hroom => ?_, fun hkind hroom => ?_, fun hkind => ?_⟩
    · obtain ⟨t, hexec, hheld, hpow, hdisc⟩ := powerDrain hs hq hd hm hents hk hi ha hb (by omega) hroom
      refine ⟨t, hexec, hheld, ?_, fun r k hr hk hbeam hslots => ?_⟩
      · rw [hdisc, powerAdds_none hkind]
        exact BitVec.add_zero _
      · rw [hpow]
        exact powerEntry hkind hr hk hbeam hslots
    · exact powerDrain hs hq hd hm hents hk hi ha hb (by omega) hroom
    · exact voltDrain hs hq hd hm hents hk hi ha hb hkind

end Sys2Proof.Machine
end
